-- ==== Sys2Proof/Word.lean ====
section
/-!
DEFINITION. The machine words: a byte, and the unit of the number formats of Table 0.4. The block has no processor word;
a number carried in a frame or a record is a natural number whose width its field gives.
-/

namespace Sys2Proof

/-- One byte of the shadow SRAM (R449). -/
abbrev Byte := BitVec 8

/-- RTC ticks in a second (R421). -/
abbrev ticksPerSecond : Nat := 32768

/-- RTC ticks in a quarter-hour (R105). -/
abbrev ticksPerQuarter : Nat := 900 * ticksPerSecond

/-- The largest RTC count (R425). -/
abbrev rtcEnd : Nat := 2 ^ 48 - 1

end Sys2Proof
end

