-- ==== Sys2Proof/Syntax.lean ====
section
/-!
DEFINITION. The commands the block takes: one constructor for each row of `spec/opcode_table.json`, with the row's
operands. A host command carries the header of its frame (Table 2.1) and its payload fields, already decrypted (R41); a
timed row or an event carries which unit it concerns and what is measured there. Operands are natural numbers or
integers; `WellFormed` says which lie inside the fields' widths.
-/

namespace Sys2Proof

/-- A field of 8 bits. -/
abbrev U8 := Nat
/-- A field of 16 bits. -/
abbrev U16 := Nat
/-- A field of 32 bits. -/
abbrev U32 := Nat
/-- A field of 64 bits. -/
abbrev U64 := Nat
/-- A byte string as values 0 to 255. -/
abbrev Bytes := List Nat

/-- The header of a frame that arrived on an endpoint, and what Gatehouse finds of it: `len` is the payload length, or the
assembled length of a fragmented request (R55); `authentic` says that the trailer verifies under the session's key, or
that the CRC of a session-0 frame is right (R41, R43); `addr` stands for the source address, port and MAC (R72); `prsv` is
what the reserved bits of the payload hold (R14). -/
structure Hdr where
  ep : Nat := 0
  session : Nat := 0
  seq : Nat := 0
  tag : Nat := 0
  cls : Nat := 2
  ackReq : Bool := true
  final : Bool := true
  zero : Nat := 0
  rsv : Nat := 0
  len : Nat := 0
  prsv : Nat := 0
  authentic : Bool := true
  addr : Nat := 0
  deriving DecidableEq, Repr

/-- A signature field: the public key whose private half made it, whether it was made over the bytes the spec names, and
the bytes themselves. It verifies under `pub` when `good` holds and `key = pub` (assumption 3). -/
structure Sig where
  key : Nat := 0
  good : Bool := false
  bytes : Nat := 0
  deriving DecidableEq, Repr

/-- A PTP Announce message as the port reads it (R435). -/
structure Announce where
  identity : Nat := 0
  port : Nat := 1
  prio1 : Nat := 128
  cls : Nat := 6
  accuracy : Nat := 0
  variance : Nat := 0
  prio2 : Nat := 128
  gm : Nat := 0
  steps : Nat := 0
  utcOfs : Int := 37
  utcValid : Bool := true
  ptpTimescale : Bool := true
  domain : Nat := 0
  logInterval : Int := 0
  deriving DecidableEq, Repr

/-- What the other PTP messages carry beside their times: the sender's port identity, the sequence number, the message interval and
whether the message is well formed and has its timestamp (R435, R436). `fine` is the count of 4 ns periods since the last RTC
increment at which it was timestamped (R424, R436). -/
structure PtpMsg where
  identity : Nat := 0
  port : Nat := 1
  seq : Nat := 0
  logInterval : Int := 0
  good : Bool := true
  fine : Nat := 0
  deriving DecidableEq, Repr

/-- A command to the block, or a timed step or event of it. -/
inductive Instr where
  | ping (h : Hdr) (echo : Bytes)
  | sessionOpen (h : Hdr) (kind : Nat) (index : Nat) (challenge : Nat) (nonce : Nat) (eph : Nat) (sig : Sig) (newKey : Nat) (mac : Sig)
  | sessionClose (h : Hdr)
  | sessionIdleTimeout (si : Nat)
  | subscribe (h : Hdr) (mask : Nat) (minSev : Nat)
  | unsubscribe (h : Hdr)
  | getRecord (h : Hdr) (rec : Nat) (inst : Nat) (offset : Nat) (maxLen : Nat)
  | setRecord (h : Hdr) (rec : Nat) (inst : Nat) (ver : Nat) (img : Nat)
  | resultGet (h : Hdr) (handle : Nat) (offset : Nat) (maxLen : Nat)
  | resultRelease (h : Hdr) (handle : Nat)
  | endpointReset (h : Hdr) (e : Nat)
  | endpointCfgWrite (h : Hdr) (inst : Nat) (ver : Nat) (img : Nat)
  | fragmentStore (h : Hdr) (opcode : Nat)
  | fragmentTimeout (si : Nat) (tag : Nat)
  | spiWrite (whole : Bool)
  | spiRead (whole : Bool)
  | spiStatus
  | arpRequest (e : Nat) (target : Nat) (asker : Nat)
  | neighbourSolicitation (e : Nat) (target : Nat) (asker : Nat)
  | eventTransmit (e : Nat) (si : Nat)
  | heldEventRelease
  | getIdentity (h : Hdr) (cert : Nat)
  | attest (h : Hdr) (nonce : Nat)
  | credentialWrite (h : Hdr) (k : Nat) (inst : Nat) (ver : Nat) (img : Nat)
  | plotCreate (h : Hdr) (p : Nat) (lifetime : Nat)
  | enrolCodeExpiry (p : Nat)
  | plotEvict (h : Hdr) (p : Nat)
  | plotWipe (p : Nat)
  | plotKeyRotate (h : Hdr) (key : Nat) (sig : Sig)
  | privacyCfgWrite (h : Hdr) (inst : Nat) (ver : Nat) (img : Nat)
  | occGroupWrite (h : Hdr) (inst : Nat) (ver : Nat) (img : Nat)
  | quarterHourAggregate
  | servicePinChange (pins : Nat)
  | debugChallenge (h : Hdr)
  | debugUnlock (h : Hdr) (serial : Nat) (challenge : Nat) (minutes : Nat) (keyId : Nat) (vsig : Sig)
  | debugUnlockApply
  | debugLock (h : Hdr)
  | unlockEnd
  | decommission (h : Hdr) (serial : Nat) (confirm : Nat)
  | rollbackCommit (h : Hdr) (image : Nat)
  | shadowMinRaise
  | windowPortPhase (e : Nat) (frame : Nat) (window : Nat)
  | zoneExecution (e : Nat)
  | publishPoint (e : Nat)
  | bindingUpdate
  | terraceWatchdog (t : Nat) (cause : Nat)
  | terraceResetDone (t : Nat) (resume : Nat) (pass : Bool)
  | eccScrub (t : Nat) (region : Nat) (offset : Nat) (double : Bool)
  | programStoreRepair (t : Nat) (id : Nat)
  | pergolaFault (p : Nat) (cause : Nat)
  | pergolaSelfTestDone (p : Nat) (pass : Bool)
  | pergolaMigration (t : Nat)
  | pergolaReturnHome (t : Nat)
  | zoneReset (h : Hdr) (z : Nat)
  | engineReset (h : Hdr) (e : Nat)
  | engineResetApply (e : Nat)
  | pergolaReset (h : Hdr) (p : Nat)
  | terraceReset (h : Hdr) (t : Nat)
  | tickTableLoad (h : Hdr) (img : Nat)
  | tickTableValidated (t : Nat)
  | tickTableCommitPoint (t : Nat)
  | tickTableActive (t : Nat)
  | zoneIsolate (h : Hdr) (z : Nat)
  | zoneRelease (h : Hdr) (z : Nat)
  | plotReset (h : Hdr) (p : Nat)
  | zoneCfgWrite (h : Hdr) (inst : Nat) (ver : Nat) (img : Nat)
  | zoneParamsWrite (h : Hdr) (inst : Nat) (ver : Nat) (img : Nat)
  | plotLimitsWrite (h : Hdr) (inst : Nat) (ver : Nat) (img : Nat)
  | plotIsolationWrite (h : Hdr) (inst : Nat) (ver : Nat) (img : Nat)
  | terracePerfWrite (h : Hdr) (inst : Nat) (ver : Nat) (img : Nat)
  | zpEnd (e : Nat) (d : Nat) (a : Nat) (imm : Nat)
  | zpMov (e : Nat) (d : Nat) (a : Nat) (imm : Nat)
  | zpLdl (e : Nat) (d : Nat) (a : Nat) (imm : Nat)
  | zpLdh (e : Nat) (d : Nat) (a : Nat) (imm : Nat)
  | zpLdc (e : Nat) (d : Nat) (a : Nat) (imm : Nat)
  | zpLdp (e : Nat) (d : Nat) (a : Nat) (imm : Nat)
  | zpLds (e : Nat) (d : Nat) (a : Nat) (imm : Nat)
  | zpSts (e : Nat) (d : Nat) (a : Nat) (imm : Nat)
  | zpAdd (e : Nat) (d : Nat) (a : Nat) (b : Nat) (parm : Nat)
  | zpSub (e : Nat) (d : Nat) (a : Nat) (b : Nat) (parm : Nat)
  | zpMul (e : Nat) (d : Nat) (a : Nat) (b : Nat) (parm : Nat)
  | zpDiv (e : Nat) (d : Nat) (a : Nat) (b : Nat) (parm : Nat)
  | zpAddi (e : Nat) (d : Nat) (a : Nat) (imm : Nat)
  | zpMuli (e : Nat) (d : Nat) (a : Nat) (imm : Nat)
  | zpAbs (e : Nat) (d : Nat) (a : Nat) (imm : Nat)
  | zpNeg (e : Nat) (d : Nat) (a : Nat) (imm : Nat)
  | zpMin (e : Nat) (d : Nat) (a : Nat) (b : Nat) (parm : Nat)
  | zpMax (e : Nat) (d : Nat) (a : Nat) (b : Nat) (parm : Nat)
  | zpLim (e : Nat) (d : Nat) (a : Nat) (b : Nat) (parm : Nat)
  | zpClp01 (e : Nat) (d : Nat) (a : Nat) (imm : Nat)
  | zpCmp (e : Nat) (d : Nat) (a : Nat) (b : Nat) (parm : Nat)
  | zpSel (e : Nat) (d : Nat) (a : Nat) (b : Nat) (parm : Nat)
  | zpSkip (e : Nat) (d : Nat) (a : Nat) (imm : Nat)
  | zpSkipn (e : Nat) (d : Nat) (a : Nat) (imm : Nat)
  | zpTblc (e : Nat) (d : Nat) (a : Nat) (imm : Nat)
  | zpTblp (e : Nat) (d : Nat) (a : Nat) (imm : Nat)
  | zpLpf (e : Nat) (d : Nat) (a : Nat) (b : Nat) (parm : Nat)
  | zpRate (e : Nat) (d : Nat) (a : Nat) (b : Nat) (parm : Nat)
  | zpHyst (e : Nat) (d : Nat) (a : Nat) (b : Nat) (parm : Nat)
  | zpTon (e : Nat) (d : Nat) (a : Nat) (b : Nat) (parm : Nat)
  | zpRdb (e : Nat) (d : Nat) (a : Nat) (imm : Nat)
  | zpRdba (e : Nat) (d : Nat) (a : Nat) (imm : Nat)
  | zpPfus (e : Nat) (d : Nat) (a : Nat) (imm : Nat)
  | zpOcc (e : Nat) (d : Nat) (a : Nat) (b : Nat) (parm : Nat)
  | zpSched (e : Nat) (d : Nat) (a : Nat) (imm : Nat)
  | zpPlan (e : Nat) (d : Nat) (a : Nat) (imm : Nat)
  | zpRdsys (e : Nat) (d : Nat) (a : Nat) (imm : Nat)
  | zpPi (e : Nat) (d : Nat) (a : Nat) (b : Nat) (parm : Nat)
  | zpApi (e : Nat) (d : Nat) (a : Nat) (b : Nat) (parm : Nat)
  | zpMff (e : Nat) (d : Nat) (a : Nat) (imm : Nat)
  | zpAtun (e : Nat) (d : Nat) (a : Nat) (b : Nat) (parm : Nat)
  | zpRdn (e : Nat) (d : Nat) (a : Nat) (imm : Nat)
  | zpPubt (e : Nat) (d : Nat) (a : Nat) (imm : Nat)
  | zpDem (e : Nat) (d : Nat) (a : Nat) (imm : Nat)
  | zpPst (e : Nat) (d : Nat) (a : Nat) (imm : Nat)
  | zpAlm (e : Nat) (d : Nat) (a : Nat) (imm : Nat)
  | zpMupd (e : Nat) (d : Nat) (a : Nat) (imm : Nat)
  | zpMrd (e : Nat) (d : Nat) (a : Nat) (imm : Nat)
  | programLoad (h : Hdr) (t : Nat) (id : Nat) (img : Nat)
  | programLoadResult (t : Nat)
  | programUnload (h : Hdr) (t : Nat) (id : Nat) (force : Nat)
  | modelHeldTimeout (z : Nat)
  | neighbourDrop (z : Nat) (n : Nat)
  | autoTuneStart (z : Nat)
  | relayTestEnd (z : Nat)
  | planRoundStart
  | planIterationDeadline (t : Nat) (doneMask : Nat)
  | planLateDeadline (t : Nat)
  | planCommit (t : Nat)
  | planExpiry (z : Nat)
  | fightEvaluate
  | fightOffsetStep (z : Nat) (y : Nat)
  | learningArchiveWrite
  | modelReset (h : Hdr) (z : Nat) (what : Nat)
  | tuneStart (h : Hdr) (z : Nat) (fam : Nat)
  | tuneAbort (h : Hdr) (z : Nat)
  | modelCfgWrite (h : Hdr) (inst : Nat) (ver : Nat) (img : Nat)
  | allocFrameBoundary
  | class0Microslot
  | pdClassSample (code : Nat)
  | valveCycleEnd (ch : Nat)
  | shedHoldoffExpiry
  | plantStop (h : Hdr) (mask : Nat)
  | plantResume (h : Hdr) (mask : Nat)
  | actMapWrite (h : Hdr) (inst : Nat) (ver : Nat) (img : Nat)
  | budgetCfgWrite (h : Hdr) (inst : Nat) (ver : Nat) (img : Nat)
  | boostEnd (ch : Nat)
  | closureWatchSample (ch : Nat) (time : Nat) (ma : Nat)
  | coilModelUpdate (currents : List (Nat × Nat))
  | offStateDiagnostic (ch : Nat) (mv0 : Nat) (mv1 : Nat)
  | channelShortTrip (ch : Nat)
  | channelJunctionTrip (ch : Nat)
  | dieSumTrip (die : Nat)
  | pkgOcClear (ch : Nat)
  | channelOvercurrent (ch : Nat) (ma : Nat)
  | channelOpenLoad (ch : Nat) (ma : Nat)
  | channelSenseLost (ch : Nat)
  | vboostMonitor (v : Nat)
  | boostNotReady
  | boostReadyClear
  | channelManual (h : Hdr) (ch : Nat) (mode : Nat) (wait : Nat) (timeout : Nat)
  | channelManualTimeout (ch : Nat)
  | channelReset (h : Hdr) (ch : Nat)
  | channelForceOff (h : Hdr) (mask : Nat)
  | channelForceRelease (h : Hdr) (mask : Nat)
  | chCfgWrite (h : Hdr) (inst : Nat) (ver : Nat) (img : Nat)
  | encoderEdge (e : Nat) (levels : Nat) (time : Nat)
  | sincosSample (e : Nat) (sinv : Int) (cosv : Int) (time : Nat)
  | indexEdge (e : Nat) (time : Nat)
  | encDirection (e : Nat)
  | speedLoopUpdate (e : Nat) (time : Nat)
  | positionLoopUpdate (a : Nat) (ma : Nat)
  | axisInPosition (a : Nat)
  | driftCorrection (a : Nat)
  | axisStall (a : Nat)
  | stallRetry (a : Nat)
  | axisMoveTimeout (a : Nat)
  | homeTimeout (a : Nat)
  | axisNoCurrent (a : Nat) (ma : Nat)
  | axisSenseStale (a : Nat)
  | axisManual (h : Hdr) (a : Nat) (mode : Nat) (pos : Nat) (timeout : Nat)
  | axisManualTimeout (a : Nat)
  | axisHome (h : Hdr) (a : Nat)
  | axisReset (h : Hdr) (a : Nat) (trip : Bool)
  | encArmIndex (h : Hdr) (e : Nat) (arm : Nat)
  | encPreset (h : Hdr) (e : Nat) (pos : Nat)
  | axCfgWrite (h : Hdr) (inst : Nat) (ver : Nat) (img : Nat)
  | encCfgWrite (h : Hdr) (inst : Nat) (ver : Nat) (img : Nat)
  | fanStep (time : Nat)
  | tachEdge (p : Nat) (time : Nat)
  | fanWatchdogExpiry
  | purgeDurationEnd (set : Nat)
  | fanManual (h : Hdr) (g : Nat) (mode : Nat) (duty : Nat) (timeout : Nat)
  | fanManualTimeout (g : Nat)
  | fangroupReset (h : Hdr) (g : Nat)
  | purgeRequest (h : Hdr) (set : Nat) (action : Nat)
  | fanPortCfgWrite (h : Hdr) (inst : Nat) (ver : Nat) (img : Nat)
  | arrayRegularTrigger
  | arrayInjectedTrigger (a : Nat)
  | conversionComplete (a : Nat) (kind : Nat) (idx : Nat) (slice : Nat) (raws : List Nat)
  | arraySequenceEnd (a : Nat)
  | selfCalibrationStart (a : Nat)
  | selfCalibrationComplete (a : Nat) (factors : List (Int × Int × Int)) (late : Bool)
  | ainProcess
  | ainPublish (n : Nat)
  | prsSample (closed : Nat)
  | presenceRefresh
  | keypadScan (ratios : List Nat)
  | keyStuck (kp : Nat) (l : Nat)
  | nudgeHoldExpiry (kp : Nat)
  | keypadBindingRefresh
  | wardenScan (keys : Nat)
  | keyLogMove
  | feederReport (h : Hdr) (entries : List (Nat × Nat × Nat))
  | meterPoll
  | modbusResponse (addr : Nat) (func : Nat) (crcOk : Bool) (regs : List Nat)
  | modbusTimeout
  | arraySelfCal (h : Hdr) (a : Nat)
  | arrayReset (h : Hdr) (a : Nat)
  | keyLogRead (h : Hdr) (src : Nat) (from_ : Nat)
  | feedSrcWrite (h : Hdr) (inst : Nat) (ver : Nat) (img : Nat)
  | meterCfgWrite (h : Hdr) (inst : Nat) (ver : Nat) (img : Nat)
  | fbkClockLoss
  | fbkClockReturn
  | freshEvaluationEnd
  | inputFilterExpiry (n : Nat) (ohms : Nat)
  | lineFaultExpiry (n : Nat) (ohms : Nat)
  | discrepancyExpiry
  | safetyReset (key : Nat) (okMask : Nat)
  | wardenKeyStuck (key : Nat)
  | heartbeatWrite (gatehouse : Bool)
  | heartbeatTimeout
  | soEnergise
  | offPulseTest (k : Nat) (pass : Bool)
  | soReadbackFault (k : Nat) (kind : Nat) (ma : Nat)
  | vsafeChange (low : Bool) (dv : Nat)
  | safetyConfigCommit (h : Hdr) (which : Nat) (inst : Nat) (ver : Nat) (img : Nat)
  | soRequest (h : Hdr) (set : Nat) (clear : Nat)
  | meteringTick (fails : Bool)
  | statementExpiry (o : Nat)
  | epochCut (h : Hdr) (o : Nat) (cut : Nat)
  | epochSign (h : Hdr) (o : Nat) (seq : Nat) (sig : Sig)
  | meterMapWrite (h : Hdr) (inst : Nat) (ver : Nat) (img : Nat)
  | rtcXtalFailure (stopped : Bool)
  | rtcXtalRestore
  | selectorEvaluate (spread0 : Nat) (spread1 : Nat)
  | referenceQualified
  | holdoverExpiry
  | ptpAnnounce (p : Nat) (msg : Announce) (good : Bool)
  | announceTimeout (p : Nat)
  | ptpSync (p : Nat) (msg : PtpMsg) (twoStep : Bool) (origin : Int) (corr : Int)
  | ptpFollowUp (p : Nat) (msg : PtpMsg) (origin : Int) (corr : Int)
  | ptpDelayResp (p : Nat) (msg : PtpMsg) (received : Int) (corr : Int)
  | delayReqSend (p : Nat) (fine : Nat) (stamped : Bool)
  | ppsEdge (fine : Nat)
  | rtcForwardStep
  | servoPhaseExpiry
  | daylightChange
  | localTimeEdge
  | timeCapture (h : Hdr) (fine : Nat)
  | timeSet (h : Hdr) (seconds : Nat)
  | timeRefCfgWrite (h : Hdr) (inst : Nat) (ver : Nat) (img : Nat)
  | ptpCfgWrite (h : Hdr) (inst : Nat) (ver : Nat) (img : Nat)
  | timeZoneWrite (h : Hdr) (inst : Nat) (ver : Nat) (img : Nat)
  | storeStart
  | storeCommit (ok : Bool) (page : Nat)
  | bankEraseDone (ok : Bool) (ckFails : Bool)
  | marginReadStart
  | marginReadDone (bank : Nat) (page : Nat) (ring : Nat)
  | ringSectorEraseDone (ok : Bool) (fails : Bool)
  | shadowPageReload (page : Nat)
  | powerFail (dv : Nat)
  | store (h : Hdr)
  | rawOpen (h : Hdr) (kind : Nat) (word : Nat)
  | rawRead (h : Hdr) (offset : Nat) (len : Nat)
  | rawWrite (h : Hdr) (offset : Nat) (len : Nat) (data : Bytes)
  | shadowInit (h : Hdr) (serial : Nat) (confirm : Nat)
  | vbusConditionChange (code : Nat) (entered : Bool) (dv : Nat)
  | holdRailStartDone (v : Nat)
  | holdRailStartTimeout
  | holdRailUndervolt (v : Nat)
  | holdRailOvervolt (v : Nat)
  | holdRailRestart
  | offsetCheck (uv : Nat) (ma : Nat)
  | phaseOpenDetect (p : Nat) (ma : Nat) (mean : Nat) (dutyPermille : Nat)
  | phaseDisagree (p : Nat) (own : Nat) (arrayB : Nat)
  | holdRailCfgWrite (h : Hdr) (inst : Nat) (ver : Nat) (img : Nat)
  | vcoreRaise (t : Nat) (fails : Nat) (word : Nat)
  | vcoreSettled (mv : Nat) (us : Nat) (fails : Nat) (word : Nat)
  | terraceRelockStart (t : Nat)
  | terraceRelockLocked (t : Nat)
  | terraceRelockReturn (t : Nat) (fails : Nat) (word : Nat)
  | pllLossOfLock (k : Nat)
  | pllbRelock
  | slowRound (sens : List (Nat × Int)) (mv : Nat) (ma : Nat) (fails : Nat) (word : Nat) (slack : Nat)
  | buckRestore (h : Hdr) (mask : Nat) (v : Nat) (bad : Nat)
  | vaonValid (vbak : Nat)
  | firebreakTierReached
  | crystalStarted
  | refRcSwitch
  | coreEnable
  | pgCoreRise (pllA : Bool) (pllB : Bool)
  | coreStartTimeout
  | pgCoreLoss
  | brownout (rail : Nat) (good : Bool)
  | shadowPowerUp (badA : Bool) (badB : Bool) (copyFails : Bool)
  | gatehouseSelfTest (ok : Bool)
  | bootImageSelect (prog : List (Nat × Nat × Nat × Bool × Bool))
  | kfwStart (ok : Bool)
  | terracesStart (fails : Nat) (linear : Bool)
  | fullCheck
  | tierFall (mask : Nat)
  | tierRise (mask : Nat) (linear : Bool)
  | keeperFault (cause : Nat)
  | keeperRestartComplete
  | gatehouseFault
  | gatehouseRestartComplete
  | tierHoldExpiry
  | powerReturn
  | chipReset (cause : Nat)
  | resetPinChange (isLow : Bool)
  | resetPinStuck
  | resetPinRecover
  | configBundleWrite (cut : Bool)
  | snapInTrigger
  | snapshot (h : Hdr)
  | snapRead (h : Hdr) (segment : Nat) (inst : Nat) (offset : Nat) (maxLen : Nat)
  | snapClear (h : Hdr)
  | fwStageOpen (h : Hdr) (image : Nat) (length : Nat)
  | fwStageEraseDone
  | fwStageWrite (h : Hdr) (image : Nat) (offset : Nat) (data : Bytes)
  | fwStageClose (h : Hdr) (image : Nat) (sigOk : Bool) (hashOk : Bool)
  | fwActivate (h : Hdr) (mask : Nat)
  | acceptUntestedSet (h : Hdr) (kfw : Nat) (zrt : Nat) (ghp : Nat) (sig : Sig)
  | frameRefusal (h : Hdr) (opcode : Nat) (fault : Nat)
  | ethernetLinkChange (p : Nat) (isUp : Bool)
  | slewEnd
  | minEdgeExpiry (e : Nat) (time : Nat)
  deriving DecidableEq, Repr

end Sys2Proof
end

