-- ==== Sys2Proof/Decode.lean ====
section
/-!
DEFINITION. The spec's table gives no row a word of bits: commands arrive as frames of the Genmor command set and as events of the
part, so no word spells one.
-/

namespace Sys2Proof

/-- The command that a word spells: none, since no row of the table has bits. -/
def decodeTableWord (_nbits _w : Nat) : Option Instr := none

end Sys2Proof
end

