-- ==== Sys2Proof/Config.lean ====
section
/-!
DEFINITION. What the spec leaves open: constants without a body. Lean cannot see what they are, so a claim holds
whatever they are. Assumption log 2 (free values), 3 (cryptography), 4 (mathematical functions and unstated roundings).
-/

namespace Sys2Proof.Config

/-- The values the spec leaves open and the random numbers the Gatehouse draws (R90, R98, R102): the value with the
given index. The state's counter `freeIdx` advances with each use. -/
opaque free : Nat → Nat

/-- Byte `k` of the SHA-256 hash of a byte string (R89, R104). -/
opaque sha256Byte : List Nat → Nat → Nat

/-- Byte `k` of a signature under the device identity key over a byte string (R89). -/
opaque signByte : List Nat → Nat → Nat

/-- Byte `k` of certificate `i`: 0 device, 1 device CA (R90). -/
opaque certByte : Nat → Nat → Nat

/-- The keys of a session, derived from the two nonces and the Diffie-Hellman value (R94). -/
opaque sessionKeys : List Nat → Nat

/-- Byte `k` of the ciphertext in which a page of plot-private data is stored (R115), from the plot's salt, the address
and the plaintext byte. -/
opaque cipherByte : Nat → Nat → Nat → Nat

/-- Byte `k` of the MAC address of an Ethernet port, which the spec does not give (R71). -/
opaque macByte : Nat → Nat → Nat

/-- A mathematical function whose rounding the spec does not state, named by the number of the rule that uses it and
applied to its operands. -/
opaque unstated : Nat → List Int → Int

end Sys2Proof.Config
end

