-- ==== Sys2Proof/Machine/Layout.lean ====
section
/-!
DEFINITION. The two data shapes every other file reads and writes: a record image (one natural number whose bits are the
record's bytes, byte 0 lowest, R7) with its fields, and a table (a list of key and value pairs in one canonical form:
keys strictly rising, no entry that holds what an unlisted key reads as).
-/

namespace Sys2Proof.Machine

/-! ## Fields of an image -/

/-- The place of a field: its lowest bit and its width in bits (little-endian, R7). -/
structure Fld where
  off : Nat
  width : Nat
  deriving DecidableEq, Repr

/-- The field's value in an image. -/
def Fld.get (f : Fld) (img : Nat) : Nat := img / 2 ^ f.off % 2 ^ f.width

/-- The image with the field replaced by the low bits of `v`. -/
def Fld.set (f : Fld) (v img : Nat) : Nat :=
  img % 2 ^ f.off + 2 ^ f.off * (v % 2 ^ f.width + 2 ^ f.width * (img / 2 ^ (f.off + f.width)))

/-- Who may write a field through `SET_RECORD` (Table 0.6). -/
inductive Access where
  | ro  -- writes are ignored
  | rw  -- read and write
  | wo  -- reads return zero
  deriving DecidableEq, Repr

/-- One row of a record's field table: the first element's place, how many elements follow at what distance (bits),
access, reset value of each element (the last one listed repeats) and the intervals the field may be written with (none
listed: every value). -/
structure FieldSpec where
  at_ : Fld
  n : Nat := 1
  stride : Nat := 0
  acc : Access
  resets : List Nat := [0]
  range : List (Int × Int) := []
  signed : Bool := false
  deriving DecidableEq, Repr

/-- A record of the Genmor command set (R78): number, instances, length in bytes, fields. In a record all of whose fields
are RO only the fields with a reset value other than 0 are listed. -/
structure RecDesc where
  id : Nat
  count : Nat
  len : Nat
  readOnly : Bool
  fields : List FieldSpec
  deriving DecidableEq, Repr

/-- Element `k` of a row. -/
def FieldSpec.elem (f : FieldSpec) (k : Nat) : Fld := ⟨f.at_.off + f.stride * k, f.at_.width⟩

/-- Reset value of element `k`: the listed one, the last listed beyond the list's end. -/
def FieldSpec.resetOf (f : FieldSpec) (k : Nat) : Nat :=
  match f.resets[k]? with
  | some v => v
  | none => f.resets.getLastD 0

/-- The bits a row covers. -/
def FieldSpec.mask (f : FieldSpec) : Nat :=
  (List.range f.n).foldl (fun m k => m ||| ((2 ^ f.at_.width - 1) * 2 ^ (f.elem k).off)) 0

/-- The row's contribution to the reset image. -/
def FieldSpec.resetBits (f : FieldSpec) : Nat :=
  if f.resets == [0] then 0
  else (List.range f.n).foldl (fun m k => m ||| (f.resetOf k * 2 ^ (f.elem k).off)) 0

/-- Two's complement reading of a `w`-bit value. -/
def toSigned (w v : Nat) : Int :=
  if v % 2 ^ w < 2 ^ (w - 1) then ((v % 2 ^ w : Nat) : Int) else ((v % 2 ^ w : Nat) : Int) - ((2 ^ w : Nat) : Int)

/-- The `w`-bit two's complement code of an integer. -/
def ofSigned (w : Nat) (i : Int) : Nat := (i % ((2 ^ w : Nat) : Int)).toNat

/-- The element's value is inside one of the row's intervals. -/
def FieldSpec.inRange (f : FieldSpec) (img k : Nat) : Bool :=
  match f.range with
  | [] => true
  | rs =>
    let raw := (f.elem k).get img
    let v : Int := if f.signed then toSigned f.at_.width raw else raw
    rs.any (fun r => decide (r.1 ≤ v ∧ v ≤ r.2))

/-- Every element of every written row is inside its stated range. -/
def RecDesc.inRange (r : RecDesc) (img : Nat) : Bool :=
  r.fields.all (fun f => f.acc == .ro || (List.range f.n).all (f.inRange img))

/-- The bits `SET_RECORD` writes. -/
def RecDesc.writeMask (r : RecDesc) : Nat :=
  r.fields.foldl (fun m f => if f.acc == .ro then m else m ||| f.mask) 0

/-- The bits some field covers; the others are reserved (R14). -/
def RecDesc.coverMask (r : RecDesc) : Nat := r.fields.foldl (fun m f => m ||| f.mask) 0

/-- An image sets no reserved bit (R14). -/
def RecDesc.reservedClear (r : RecDesc) (img : Nat) : Bool := img &&& r.coverMask == img

/-- The bits whose fields are WO: they read as zero (Table 0.6). -/
def RecDesc.hiddenMask (r : RecDesc) : Nat :=
  r.fields.foldl (fun m f => if f.acc == .wo then m ||| f.mask else m) 0

/-- The record's image after a write of `new` over `old`: RO fields keep their bits (R64). -/
def RecDesc.merge (r : RecDesc) (old new : Nat) : Nat :=
  (old - (old &&& r.writeMask)) ||| (new &&& r.writeMask)

/-- The instance's image at reset, as its chapter's table gives it. `ENDPOINT_CFG` instances 0 and 1 have `EN` 1 and
`SLOT_CAP` 28 (Table 2.8); `TICK_TABLE` names its own terrace (Table 4.5). -/
def RecDesc.resetImg (r : RecDesc) (inst : Nat) : Nat :=
  let base := r.fields.foldl (fun m f => m ||| f.resetBits) 0
  if r.id = 0x0001 ∧ inst < 2 then (⟨8, 8⟩ : Fld).set 28 ((⟨0, 1⟩ : Fld).set 1 base)
  else if r.id = 0x0210 then (⟨8, 8⟩ : Fld).set inst base
  else base

/-- Assign several fields of one image. -/
def setFields (fs : List (Fld × Nat)) (img : Nat) : Nat := fs.foldl (fun m p => p.1.set p.2 m) img

/-! ## Tables -/

variable {α : Type}

/-- What a table holds at a key; `d` is what an unlisted key reads as. -/
def Tab.get (d : α) : List (Nat × α) → Nat → α
  | [], _ => d
  | (k', v) :: t, k => if k' = k then v else Tab.get d t k

/-- Insert before the first larger key. -/
def Tab.ins (k : Nat) (v : α) : List (Nat × α) → List (Nat × α)
  | [] => [(k, v)]
  | (k', v') :: t => if k < k' then (k, v) :: (k', v') :: t else (k', v') :: Tab.ins k v t

/-- Remove a key. -/
def Tab.del (k : Nat) : List (Nat × α) → List (Nat × α)
  | [] => []
  | (k', v') :: t => if k' = k then Tab.del k t else (k', v') :: Tab.del k t

/-- Write a key; writing what an unlisted key reads as removes the entry. -/
def Tab.set [DecidableEq α] (d : α) (t : List (Nat × α)) (k : Nat) (v : α) : List (Nat × α) :=
  if v = d then Tab.del k t else Tab.ins k v (Tab.del k t)

/-- The canonical form: keys strictly rising, no entry equal to the default. -/
def Tab.wf [DecidableEq α] (d : α) : List (Nat × α) → Bool
  | [] => true
  | (_, v) :: [] => decide (v ≠ d)
  | (k, v) :: (k', v') :: t => decide (k < k') && decide (v ≠ d) && Tab.wf d ((k', v') :: t)

/-! ## Bytes -/

/-- The `n` bytes of a value, least significant first (R7). -/
def leBytes : Nat → Nat → List Nat
  | 0, _ => []
  | n + 1, v => v % 256 :: leBytes n (v / 256)

/-- The value of a byte string, least significant first (R7). -/
def leValue : List Nat → Nat
  | [] => 0
  | b :: bs => b % 256 + 256 * leValue bs

/-- A field of a frame payload or an event: `u8`, `u16`, `u32`, `u64` (Table 0.4). -/
def u8 (v : Nat) : List Nat := leBytes 1 v
def u16 (v : Nat) : List Nat := leBytes 2 v
def u32 (v : Nat) : List Nat := leBytes 4 v
def u64 (v : Nat) : List Nat := leBytes 8 v
/-- Reserved bytes read as zero (R14). -/
def rsvBytes (n : Nat) : List Nat := leBytes n 0
/-- A signed 16-bit field. -/
def s16 (i : Int) : List Nat := leBytes 2 (ofSigned 16 i)
/-- A signed 32-bit field. -/
def s32 (i : Int) : List Nat := leBytes 4 (ofSigned 32 i)
/-- A signed 64-bit field. -/
def s64 (i : Int) : List Nat := leBytes 8 (ofSigned 64 i)

/-- A counter of `w` bits that stays at its largest value (every saturating counter of the records). -/
def satInc (w v : Nat) : Nat := if v + 1 < 2 ^ w then v + 1 else 2 ^ w - 1

/-- The value limited to an interval. -/
def clampI (lo hi v : Int) : Int := if v < lo then lo else if hi < v then hi else v

/-- The value limited to an interval. -/
def clampN (lo hi v : Nat) : Nat := if v < lo then lo else if hi < v then hi else v

end Sys2Proof.Machine
end

