-- ==== Sys2Proof/Machine/Records.lean ====
section
/-!
DEFINITION. Every record of the Genmor command set (R13, R63, R78): its number, its instances, its length and the
place, access, reset value and stated range of each of its fields, as the chapter that defines the record gives them.
A field is named by the record and by the field's own name in that chapter's table; an array field takes the index of
its element. A bit that no field of a record covers is reserved (R14).
-/

namespace Sys2Proof.Machine

/-! `ENDPOINT_CFG` (0x0001): R73 Table 2.8. -/
def ENDPOINT_CFG.EN : Fld := ⟨0, 1⟩
def ENDPOINT_CFG.CLASS0_EN : Fld := ⟨1, 1⟩
def ENDPOINT_CFG.IPV4_EN : Fld := ⟨2, 1⟩
def ENDPOINT_CFG.IPV6_EN : Fld := ⟨3, 1⟩
def ENDPOINT_CFG.SLOT_CAP : Fld := ⟨8, 8⟩
def ENDPOINT_CFG.PORT : Fld := ⟨16, 8⟩
def ENDPOINT_CFG.PCP0 : Fld := ⟨24, 3⟩
def ENDPOINT_CFG.PCP_OTHER : Fld := ⟨27, 3⟩
def ENDPOINT_CFG.VLAN_ID : Fld := ⟨32, 12⟩
def ENDPOINT_CFG.IDLE_TIMEOUT_S : Fld := ⟨48, 16⟩
def ENDPOINT_CFG.UDP_PORT : Fld := ⟨64, 16⟩
def ENDPOINT_CFG.IPV4_PREFIX : Fld := ⟨80, 8⟩
def ENDPOINT_CFG.IPV4_ADDR : Fld := ⟨96, 32⟩
def ENDPOINT_CFG.IPV6_ADDR : Fld := ⟨128, 128⟩
def ENDPOINT_CFG.IPV6_PREFIX : Fld := ⟨256, 8⟩
/-- `ENDPOINT_CFG` (0x0001), R73 Table 2.8. -/
def ENDPOINT_CFG : RecDesc where
  id := 0x0001
  count := 18
  len := 40
  readOnly := false
  fields := [
    { at_ := ENDPOINT_CFG.EN, acc := .rw },
    { at_ := ENDPOINT_CFG.CLASS0_EN, acc := .rw, resets := [1] },
    { at_ := ENDPOINT_CFG.IPV4_EN, acc := .rw },
    { at_ := ENDPOINT_CFG.IPV6_EN, acc := .rw },
    { at_ := ENDPOINT_CFG.SLOT_CAP, acc := .rw, resets := [8], range := [(1, 28)] },
    { at_ := ENDPOINT_CFG.PORT, acc := .rw, range := [(0, 1)] },
    { at_ := ENDPOINT_CFG.PCP0, acc := .rw, resets := [7] },
    { at_ := ENDPOINT_CFG.PCP_OTHER, acc := .rw },
    { at_ := ENDPOINT_CFG.VLAN_ID, acc := .rw, range := [(0, 4094)] },
    { at_ := ENDPOINT_CFG.IDLE_TIMEOUT_S, acc := .rw, resets := [600], range := [(10, 3600)] },
    { at_ := ENDPOINT_CFG.UDP_PORT, acc := .ro, resets := [41952] },
    { at_ := ENDPOINT_CFG.IPV4_PREFIX, acc := .rw, resets := [24], range := [(1, 31)] },
    { at_ := ENDPOINT_CFG.IPV4_ADDR, acc := .rw },
    { at_ := ENDPOINT_CFG.IPV6_ADDR, acc := .rw },
    { at_ := ENDPOINT_CFG.IPV6_PREFIX, acc := .rw, resets := [64], range := [(1, 127)] }]

/-! `ENDPOINT_STATUS` (0x0002): R73. -/
def ENDPOINT_STATUS.FREE_GEN : Fld := ⟨0, 8⟩
def ENDPOINT_STATUS.FREE_C0 : Fld := ⟨8, 8⟩
def ENDPOINT_STATUS.SESSIONS : Fld := ⟨16, 8⟩
def ENDPOINT_STATUS.FRAMES_IN : Fld := ⟨32, 32⟩
def ENDPOINT_STATUS.FRAMES_OUT : Fld := ⟨64, 32⟩
def ENDPOINT_STATUS.AUTH_FAIL_CNT : Fld := ⟨96, 32⟩
def ENDPOINT_STATUS.REPLAY_CNT : Fld := ⟨128, 32⟩
def ENDPOINT_STATUS.NO_CREDIT_CNT : Fld := ⟨160, 32⟩
def ENDPOINT_STATUS.FRAMING_ERR_CNT : Fld := ⟨192, 32⟩
def ENDPOINT_STATUS.REFUSAL_DROP_CNT : Fld := ⟨224, 32⟩
def ENDPOINT_STATUS.SAT : Fld := ⟨256, 7⟩
/-- `ENDPOINT_STATUS` (0x0002), R73. -/
def ENDPOINT_STATUS : RecDesc where
  id := 0x0002
  count := 18
  len := 36
  readOnly := true
  fields := [
    { at_ := ENDPOINT_STATUS.FREE_GEN, acc := .ro, resets := [28] },
    { at_ := ENDPOINT_STATUS.FREE_C0, acc := .ro, resets := [4] }]

/-! `CRED_ESTATE` (0x0101): R82 Table 3.2. -/
def CRED_ESTATE.VALID : Fld := ⟨0, 1⟩
def CRED_ESTATE.GEN : Fld := ⟨64, 32⟩
def CRED_ESTATE.PUBKEY : Fld := ⟨192, 512⟩
/-- `CRED_ESTATE` (0x0101), R82 Table 3.2. -/
def CRED_ESTATE : RecDesc where
  id := 0x0101
  count := 2
  len := 88
  readOnly := false
  fields := [
    { at_ := CRED_ESTATE.VALID, acc := .rw },
    { at_ := CRED_ESTATE.GEN, acc := .ro },
    { at_ := CRED_ESTATE.PUBKEY, acc := .rw }]

/-! `CRED_OPERATOR` (0x0102): R82 Table 3.2. -/
def CRED_OPERATOR.VALID : Fld := ⟨0, 1⟩
def CRED_OPERATOR.SCOPE : Fld := ⟨16, 6⟩
def CRED_OPERATOR.GEN : Fld := ⟨64, 32⟩
def CRED_OPERATOR.EXPIRY : Fld := ⟨128, 64⟩
def CRED_OPERATOR.PUBKEY : Fld := ⟨192, 512⟩
/-- `CRED_OPERATOR` (0x0102), R82 Table 3.2. -/
def CRED_OPERATOR : RecDesc where
  id := 0x0102
  count := 16
  len := 88
  readOnly := false
  fields := [
    { at_ := CRED_OPERATOR.VALID, acc := .rw },
    { at_ := CRED_OPERATOR.SCOPE, acc := .rw },
    { at_ := CRED_OPERATOR.GEN, acc := .ro },
    { at_ := CRED_OPERATOR.EXPIRY, acc := .rw },
    { at_ := CRED_OPERATOR.PUBKEY, acc := .rw }]

/-! `CRED_FEEDER` (0x0103): R82 Table 3.2. -/
def CRED_FEEDER.VALID : Fld := ⟨0, 1⟩
def CRED_FEEDER.SRC_FIRST : Fld := ⟨16, 16⟩
def CRED_FEEDER.SRC_COUNT : Fld := ⟨32, 16⟩
def CRED_FEEDER.GEN : Fld := ⟨64, 32⟩
def CRED_FEEDER.EXPIRY : Fld := ⟨128, 64⟩
def CRED_FEEDER.PUBKEY : Fld := ⟨192, 512⟩
/-- `CRED_FEEDER` (0x0103), R82 Table 3.2. -/
def CRED_FEEDER : RecDesc where
  id := 0x0103
  count := 64
  len := 88
  readOnly := false
  fields := [
    { at_ := CRED_FEEDER.VALID, acc := .rw },
    { at_ := CRED_FEEDER.SRC_FIRST, acc := .rw, range := [(0, 4095)] },
    { at_ := CRED_FEEDER.SRC_COUNT, acc := .rw, range := [(0, 4096)] },
    { at_ := CRED_FEEDER.GEN, acc := .ro },
    { at_ := CRED_FEEDER.EXPIRY, acc := .rw },
    { at_ := CRED_FEEDER.PUBKEY, acc := .rw }]

/-! `PRIVACY_CFG` (0x0104): R108. -/
def PRIVACY_CFG.K_MIN : Fld := ⟨0, 8⟩
/-- `PRIVACY_CFG` (0x0104), R108. -/
def PRIVACY_CFG : RecDesc where
  id := 0x0104
  count := 1
  len := 4
  readOnly := false
  fields := [
    { at_ := PRIVACY_CFG.K_MIN, acc := .rw, resets := [6], range := [(4, 64)] }]

/-! `OCC_GROUP` (0x0105): R109. -/
def OCC_GROUP.COUNT : Fld := ⟨0, 8⟩
def OCC_GROUP.LAST_CHANGE : Fld := ⟨32, 64⟩
def OCC_GROUP.ZONE (k : Nat) : Fld := ⟨96 + 16 * k, 16⟩
/-- `OCC_GROUP` (0x0105), R109. -/
def OCC_GROUP : RecDesc where
  id := 0x0105
  count := 64
  len := 140
  readOnly := false
  fields := [
    { at_ := OCC_GROUP.COUNT, acc := .rw, range := [(0, 64)] },
    { at_ := OCC_GROUP.LAST_CHANGE, acc := .ro },
    { at_ := (OCC_GROUP.ZONE 0), acc := .rw, n := 64, stride := 16 }]

/-! `OCC_AGG` (0x0106): R110. -/
def OCC_AGG.NEWEST_START : Fld := ⟨0, 64⟩
def OCC_AGG.VALUE (k : Nat) : Fld := ⟨64 + 32 * k, 16⟩
def OCC_AGG.REPORTING (k : Nat) : Fld := ⟨80 + 32 * k, 8⟩
def OCC_AGG.WITHHELD (k : Nat) : Fld := ⟨88 + 32 * k, 1⟩
/-- `OCC_AGG` (0x0106), R110. -/
def OCC_AGG : RecDesc where
  id := 0x0106
  count := 64
  len := 392
  readOnly := true
  fields := []

/-! `SECURITY_STATUS` (0x0107): R125. -/
def SECURITY_STATUS.LIFECYCLE : Fld := ⟨0, 8⟩
def SECURITY_STATUS.PINS : Fld := ⟨8, 2⟩
def SECURITY_STATUS.UNLOCK_COUNT : Fld := ⟨16, 8⟩
def SECURITY_STATUS.OTP_FLOOR (k : Nat) : Fld := ⟨32 + 48 * k, 16⟩
def SECURITY_STATUS.SHADOW_MIN (k : Nat) : Fld := ⟨48 + 48 * k, 16⟩
def SECURITY_STATUS.OTP_SLOTS_FREE (k : Nat) : Fld := ⟨64 + 48 * k, 8⟩
def SECURITY_STATUS.UNLOCK_EXPIRY : Fld := ⟨192, 64⟩
/-- `SECURITY_STATUS` (0x0107), R125. -/
def SECURITY_STATUS : RecDesc where
  id := 0x0107
  count := 1
  len := 32
  readOnly := true
  fields := [
    { at_ := SECURITY_STATUS.LIFECYCLE, acc := .ro, resets := [1] },
    { at_ := (SECURITY_STATUS.OTP_SLOTS_FREE 0), acc := .ro, n := 3, stride := 48, resets := [16] }]

/-! `PLOT_SLOT` (0x0300): R104 Table 3.12. -/
def PLOT_SLOT.STATE : Fld := ⟨0, 3⟩
def PLOT_SLOT.FAIL_CNT : Fld := ⟨8, 8⟩
def PLOT_SLOT.CODE_EXPIRY : Fld := ⟨64, 64⟩
def PLOT_SLOT.ENROL_TIME : Fld := ⟨128, 64⟩
def PLOT_SLOT.KEY_HASH : Fld := ⟨192, 256⟩
/-- `PLOT_SLOT` (0x0300), R104 Table 3.12. -/
def PLOT_SLOT : RecDesc where
  id := 0x0300
  count := 256
  len := 56
  readOnly := true
  fields := []

/-! `ZONE_CFG` (0x0200): R153 Table 4.14. -/
def ZONE_CFG.OWNER : Fld := ⟨0, 16⟩
def ZONE_CFG.PROG_ID : Fld := ⟨16, 8⟩
def ZONE_CFG.EN : Fld := ⟨24, 1⟩
def ZONE_CFG.PCLASS (k : Nat) : Fld := ⟨64 + 2 * k, 2⟩
def ZONE_CFG.FALLBACK (k : Nat) : Fld := ⟨128 + 16 * k, 16⟩
def ZONE_CFG.NEIGHBOUR (k : Nat) : Fld := ⟨256 + 16 * k, 16⟩
def ZONE_CFG.BIND (k : Nat) : Fld := ⟨384 + 32 * k, 32⟩
def ZONE_CFG.PDEF (k : Nat) : Fld := ⟨896 + 32 * k, 32⟩
/-- `ZONE_CFG` (0x0200), R153 Table 4.14. -/
def ZONE_CFG : RecDesc where
  id := 0x0200
  count := 1024
  len := 176
  readOnly := false
  fields := [
    { at_ := ZONE_CFG.OWNER, acc := .rw, resets := [256], range := [(0, 256)] },
    { at_ := ZONE_CFG.PROG_ID, acc := .rw, resets := [255], range := [(0, 127), (255, 255)] },
    { at_ := ZONE_CFG.EN, acc := .rw },
    { at_ := (ZONE_CFG.PCLASS 0), acc := .rw, n := 16, stride := 2, range := [(0, 2)] },
    { at_ := (ZONE_CFG.FALLBACK 0), acc := .rw, n := 8, stride := 16 },
    { at_ := (ZONE_CFG.NEIGHBOUR 0), acc := .rw, n := 8, stride := 16, resets := [65535] },
    { at_ := (ZONE_CFG.BIND 0), acc := .rw, n := 16, stride := 32 },
    { at_ := (ZONE_CFG.PDEF 0), acc := .rw, n := 16, stride := 32 }]

/-! `ZONE_PARAMS` (0x0201): R154. -/
def ZONE_PARAMS.P (k : Nat) : Fld := ⟨0 + 32 * k, 32⟩
/-- `ZONE_PARAMS` (0x0201), R154. -/
def ZONE_PARAMS : RecDesc where
  id := 0x0201
  count := 1024
  len := 256
  readOnly := false
  fields := [
    { at_ := (ZONE_PARAMS.P 0), acc := .rw, n := 64, stride := 32, signed := true }]

/-! `ZONE_STATE` (0x0202): R154. -/
def ZONE_STATE.S (k : Nat) : Fld := ⟨0 + 32 * k, 32⟩
/-- `ZONE_STATE` (0x0202), R154. -/
def ZONE_STATE : RecDesc where
  id := 0x0202
  count := 1024
  len := 256
  readOnly := true
  fields := []

/-! `ZONE_BINDINGS` (0x0203): R156. -/
def ZONE_BINDINGS.VALUE (k : Nat) : Fld := ⟨0 + 96 * k, 32⟩
def ZONE_BINDINGS.TIME (k : Nat) : Fld := ⟨32 + 96 * k, 64⟩
/-- `ZONE_BINDINGS` (0x0203), R156. -/
def ZONE_BINDINGS : RecDesc where
  id := 0x0203
  count := 1024
  len := 192
  readOnly := true
  fields := [
    { at_ := (ZONE_BINDINGS.VALUE 0), acc := .ro, n := 16, stride := 96, resets := [2147483648] }]

/-! `ZONE_STATUS` (0x0204): R157 Table 4.15. -/
def ZONE_STATUS.ZSTATE : Fld := ⟨0, 3⟩
def ZONE_STATUS.ISOLATED : Fld := ⟨3, 1⟩
def ZONE_STATUS.CTX_DAMAGED : Fld := ⟨4, 1⟩
def ZONE_STATUS.ROM_PROG : Fld := ⟨5, 1⟩
def ZONE_STATUS.FIRST_TICK : Fld := ⟨6, 1⟩
def ZONE_STATUS.FAULT_CODE : Fld := ⟨8, 8⟩
def ZONE_STATUS.FAULT_STEP : Fld := ⟨16, 8⟩
def ZONE_STATUS.DAMAGE : Fld := ⟨24, 6⟩
def ZONE_STATUS.ENGINE : Fld := ⟨32, 8⟩
def ZONE_STATUS.HOME_ENGINE : Fld := ⟨40, 8⟩
def ZONE_STATUS.CNT_SAT : Fld := ⟨48, 3⟩
def ZONE_STATUS.LAST_RUN : Fld := ⟨64, 64⟩
def ZONE_STATUS.RUN_CNT : Fld := ⟨128, 32⟩
def ZONE_STATUS.FAULT_CNT : Fld := ⟨160, 32⟩
def ZONE_STATUS.SAT_CNT : Fld := ⟨192, 32⟩
def ZONE_STATUS.CYC_LAST : Fld := ⟨224, 16⟩
def ZONE_STATUS.CYC_MAX : Fld := ⟨240, 16⟩
def ZONE_STATUS.DEMAND (k : Nat) : Fld := ⟨256 + 16 * k, 16⟩
def ZONE_STATUS.PORT_STATUS (k : Nat) : Fld := ⟨384 + 8 * k, 8⟩
/-- `ZONE_STATUS` (0x0204), R157 Table 4.15. -/
def ZONE_STATUS : RecDesc where
  id := 0x0204
  count := 1024
  len := 64
  readOnly := true
  fields := [
    { at_ := ZONE_STATUS.FIRST_TICK, acc := .ro, resets := [1] },
    { at_ := ZONE_STATUS.ENGINE, acc := .ro, resets := [255] },
    { at_ := ZONE_STATUS.HOME_ENGINE, acc := .ro, resets := [255] }]

/-! `TICK_TABLE` (0x0210): R158, R135. -/
def TICK_TABLE.FORMAT : Fld := ⟨0, 8⟩
def TICK_TABLE.TERRACE : Fld := ⟨8, 8⟩
def TICK_TABLE.ENTRY_COUNT : Fld := ⟨16, 16⟩
def TICK_TABLE.TABLE_ID : Fld := ⟨32, 32⟩
def TICK_TABLE.SPARE_MASK : Fld := ⟨64, 64⟩
def TICK_TABLE.CRC : Fld := ⟨128, 32⟩
def TICK_TABLE.ENTRY (k : Nat) : Fld := ⟨256 + 64 * k, 64⟩
/-- `TICK_TABLE` (0x0210), R158, R135. -/
def TICK_TABLE : RecDesc where
  id := 0x0210
  count := 4
  len := 2080
  readOnly := true
  fields := [
    { at_ := TICK_TABLE.FORMAT, acc := .ro, resets := [1] }]

/-! `TERRACE_PERF` (0x0211): R159. -/
def TERRACE_PERF.MODE : Fld := ⟨0, 8⟩
/-- `TERRACE_PERF` (0x0211), R159. -/
def TERRACE_PERF : RecDesc where
  id := 0x0211
  count := 4
  len := 4
  readOnly := false
  fields := [
    { at_ := TERRACE_PERF.MODE, acc := .rw, resets := [1], range := [(0, 2)] }]

/-! `TERRACE_STATUS` (0x0212): R160 Table 4.16. -/
def TERRACE_STATUS.TSTATE : Fld := ⟨0, 8⟩
def TERRACE_STATUS.MODE : Fld := ⟨8, 8⟩
def TERRACE_STATUS.THROTTLE : Fld := ⟨16, 8⟩
def TERRACE_STATUS.CLK_MHZ : Fld := ⟨24, 8⟩
def TERRACE_STATUS.RELOCKING : Fld := ⟨32, 1⟩
def TERRACE_STATUS.PLAN_SUSPENDED : Fld := ⟨33, 1⟩
def TERRACE_STATUS.LOAD_PENDING : Fld := ⟨34, 1⟩
def TERRACE_STATUS.TABLE_ID : Fld := ⟨64, 32⟩
def TERRACE_STATUS.RETIRED : Fld := ⟨96, 16⟩
def TERRACE_STATUS.RESETS_10MIN : Fld := ⟨112, 8⟩
def TERRACE_STATUS.SPARE_BUSY : Fld := ⟨128, 64⟩
def TERRACE_STATUS.RESET_CNT : Fld := ⟨192, 32⟩
def TERRACE_STATUS.ECC_CE_CNT : Fld := ⟨224, 32⟩
def TERRACE_STATUS.ECC_DE_CNT : Fld := ⟨256, 32⟩
def TERRACE_STATUS.SAT : Fld := ⟨288, 3⟩
/-- `TERRACE_STATUS` (0x0212), R160 Table 4.16. -/
def TERRACE_STATUS : RecDesc where
  id := 0x0212
  count := 4
  len := 40
  readOnly := true
  fields := [
    { at_ := TERRACE_STATUS.TSTATE, acc := .ro, resets := [3] },
    { at_ := TERRACE_STATUS.MODE, acc := .ro, resets := [1] }]

/-! `PERGOLA_STATUS` (0x0213): R160 Table 4.17. -/
def PERGOLA_STATUS.PSTATE : Fld := ⟨0, 8⟩
def PERGOLA_STATUS.FAULTS_10MIN : Fld := ⟨8, 8⟩
def PERGOLA_STATUS.LAST_CAUSE : Fld := ⟨16, 8⟩
def PERGOLA_STATUS.FAULT_CNT : Fld := ⟨32, 32⟩
def PERGOLA_STATUS.SCRATCH_CE_CNT : Fld := ⟨64, 32⟩
def PERGOLA_STATUS.SAT : Fld := ⟨96, 2⟩
/-- `PERGOLA_STATUS` (0x0213), R160 Table 4.17. -/
def PERGOLA_STATUS : RecDesc where
  id := 0x0213
  count := 64
  len := 16
  readOnly := true
  fields := [
    { at_ := PERGOLA_STATUS.PSTATE, acc := .ro, resets := [1] }]

/-! `PLOT_ZONES` (0x0301): R161 Table 4.18. -/
def PLOT_ZONES.COUNT : Fld := ⟨0, 16⟩
def PLOT_ZONES.ZONE_MAP : Fld := ⟨32, 1024⟩
/-- `PLOT_ZONES` (0x0301), R161 Table 4.18. -/
def PLOT_ZONES : RecDesc where
  id := 0x0301
  count := 256
  len := 132
  readOnly := true
  fields := []

/-! `PLOT_ISOLATION` (0x0302): R161 Table 4.18. -/
def PLOT_ISOLATION.MODE : Fld := ⟨0, 1⟩
def PLOT_ISOLATION.EFFECTIVE : Fld := ⟨1, 4⟩
/-- `PLOT_ISOLATION` (0x0302), R161 Table 4.18. -/
def PLOT_ISOLATION : RecDesc where
  id := 0x0302
  count := 256
  len := 4
  readOnly := false
  fields := [
    { at_ := PLOT_ISOLATION.MODE, acc := .rw },
    { at_ := PLOT_ISOLATION.EFFECTIVE, acc := .ro }]

/-! `PLOT_LIMITS` (0x0303): R161 Table 4.18. -/
def PLOT_LIMITS.SP_MIN : Fld := ⟨0, 16⟩
def PLOT_LIMITS.SP_MAX : Fld := ⟨16, 16⟩
def PLOT_LIMITS.NUDGE_CAP : Fld := ⟨32, 16⟩
def PLOT_LIMITS.OCC_EARLIEST : Fld := ⟨48, 16⟩
def PLOT_LIMITS.OCC_LATEST : Fld := ⟨64, 16⟩
def PLOT_LIMITS.PLAN_DEV_MAX : Fld := ⟨80, 16⟩
/-- `PLOT_LIMITS` (0x0303), R161 Table 4.18. -/
def PLOT_LIMITS : RecDesc where
  id := 0x0303
  count := 256
  len := 16
  readOnly := false
  fields := [
    { at_ := PLOT_LIMITS.SP_MIN, acc := .rw, resets := [1600], signed := true },
    { at_ := PLOT_LIMITS.SP_MAX, acc := .rw, resets := [2800], signed := true },
    { at_ := PLOT_LIMITS.NUDGE_CAP, acc := .rw, resets := [200], range := [(0, 1000)] },
    { at_ := PLOT_LIMITS.OCC_EARLIEST, acc := .rw, resets := [360], range := [(0, 1439)] },
    { at_ := PLOT_LIMITS.OCC_LATEST, acc := .rw, resets := [1320], range := [(0, 1439)] },
    { at_ := PLOT_LIMITS.PLAN_DEV_MAX, acc := .rw, resets := [150] }]

/-! `PLOT_PREFS` (0x0304): R161 Table 4.18. -/
def PLOT_PREFS.NUDGE_LIMIT : Fld := ⟨0, 16⟩
/-- `PLOT_PREFS` (0x0304), R161 Table 4.18. -/
def PLOT_PREFS : RecDesc where
  id := 0x0304
  count := 256
  len := 8
  readOnly := false
  fields := [
    { at_ := PLOT_PREFS.NUDGE_LIMIT, acc := .rw, resets := [100], range := [(0, 1000)] }]

/-! `PROGRAM_INFO` (0x0240): R195 Table 5.13. -/
def PROGRAM_INFO.VALID : Fld := ⟨0, 1⟩
def PROGRAM_INFO.STEP_COUNT : Fld := ⟨8, 8⟩
def PROGRAM_INFO.CONST_COUNT : Fld := ⟨16, 8⟩
def PROGRAM_INFO.WCET : Fld := ⟨32, 16⟩
def PROGRAM_INFO.BASE : Fld := ⟨48, 16⟩
def PROGRAM_INFO.USER_ID : Fld := ⟨64, 32⟩
def PROGRAM_INFO.CRC : Fld := ⟨96, 32⟩
def PROGRAM_INFO.USERS : Fld := ⟨128, 16⟩
/-- `PROGRAM_INFO` (0x0240), R195 Table 5.13. -/
def PROGRAM_INFO : RecDesc where
  id := 0x0240
  count := 512
  len := 24
  readOnly := true
  fields := []

/-! `PROGRAM_IMAGE` (0x0241): R195. -/
def PROGRAM_IMAGE.IMAGE : Fld := ⟨0, 6272⟩
/-- `PROGRAM_IMAGE` (0x0241), R195. -/
def PROGRAM_IMAGE : RecDesc where
  id := 0x0241
  count := 512
  len := 784
  readOnly := true
  fields := []

/-! `ZONE_SCHEDULE` (0x0242): R193 Table 5.12. -/
def ZONE_SCHEDULE.DAYS (k : Nat) : Fld := ⟨0 + 64 * k, 7⟩
def ZONE_SCHEDULE.MODE (k : Nat) : Fld := ⟨8 + 64 * k, 8⟩
def ZONE_SCHEDULE.MINUTE (k : Nat) : Fld := ⟨16 + 64 * k, 16⟩
def ZONE_SCHEDULE.SP_HEAT (k : Nat) : Fld := ⟨32 + 64 * k, 16⟩
def ZONE_SCHEDULE.SP_COOL (k : Nat) : Fld := ⟨48 + 64 * k, 16⟩
/-- `ZONE_SCHEDULE` (0x0242), R193 Table 5.12. -/
def ZONE_SCHEDULE : RecDesc where
  id := 0x0242
  count := 1024
  len := 128
  readOnly := false
  fields := [
    { at_ := (ZONE_SCHEDULE.DAYS 0), acc := .rw, n := 16, stride := 64 },
    { at_ := (ZONE_SCHEDULE.MODE 0), acc := .rw, n := 16, stride := 64, range := [(0, 2)] },
    { at_ := (ZONE_SCHEDULE.MINUTE 0), acc := .rw, n := 16, stride := 64, range := [(0, 1439)] },
    { at_ := (ZONE_SCHEDULE.SP_HEAT 0), acc := .rw, n := 16, stride := 64, resets := [1600], signed := true },
    { at_ := (ZONE_SCHEDULE.SP_COOL 0), acc := .rw, n := 16, stride := 64, resets := [2800], signed := true }]

/-! `ZONE_SCHED_DEF` (0x0243): R193 Table 5.12. -/
def ZONE_SCHED_DEF.DAYS (k : Nat) : Fld := ⟨0 + 64 * k, 7⟩
def ZONE_SCHED_DEF.MODE (k : Nat) : Fld := ⟨8 + 64 * k, 8⟩
def ZONE_SCHED_DEF.MINUTE (k : Nat) : Fld := ⟨16 + 64 * k, 16⟩
def ZONE_SCHED_DEF.SP_HEAT (k : Nat) : Fld := ⟨32 + 64 * k, 16⟩
def ZONE_SCHED_DEF.SP_COOL (k : Nat) : Fld := ⟨48 + 64 * k, 16⟩
/-- `ZONE_SCHED_DEF` (0x0243), R193 Table 5.12. -/
def ZONE_SCHED_DEF : RecDesc where
  id := 0x0243
  count := 1024
  len := 128
  readOnly := false
  fields := [
    { at_ := (ZONE_SCHED_DEF.DAYS 0), acc := .rw, n := 16, stride := 64 },
    { at_ := (ZONE_SCHED_DEF.MODE 0), acc := .rw, n := 16, stride := 64, range := [(0, 2)] },
    { at_ := (ZONE_SCHED_DEF.MINUTE 0), acc := .rw, n := 16, stride := 64, range := [(0, 1439)] },
    { at_ := (ZONE_SCHED_DEF.SP_HEAT 0), acc := .rw, n := 16, stride := 64, resets := [1600], signed := true },
    { at_ := (ZONE_SCHED_DEF.SP_COOL 0), acc := .rw, n := 16, stride := 64, resets := [2800], signed := true }]

/-! `ZONE_OCC` (0x0244): R194. -/
def ZONE_OCC.STATE : Fld := ⟨0, 8⟩
def ZONE_OCC.EVIDENCE : Fld := ⟨8, 8⟩
def ZONE_OCC.C_OCC : Fld := ⟨16, 8⟩
def ZONE_OCC.SINCE : Fld := ⟨32, 64⟩
/-- `ZONE_OCC` (0x0244), R194. -/
def ZONE_OCC : RecDesc where
  id := 0x0244
  count := 1024
  len := 16
  readOnly := true
  fields := [
    { at_ := ZONE_OCC.EVIDENCE, acc := .ro, resets := [255] }]

/-! `MODEL_CFG` (0x0400): R231 Table 6.15. -/
def MODEL_CFG.HEAT_PORT : Fld := ⟨0, 8⟩
def MODEL_CFG.COOL_PORT : Fld := ⟨8, 8⟩
def MODEL_CFG.AIR_PORT : Fld := ⟨16, 8⟩
def MODEL_CFG.AMB_BIND : Fld := ⟨24, 8⟩
def MODEL_CFG.SOL_BIND : Fld := ⟨32, 8⟩
def MODEL_CFG.OCC_IN : Fld := ⟨40, 1⟩
def MODEL_CFG.AUTO_TUNE : Fld := ⟨41, 1⟩
def MODEL_CFG.AUTO_OPEN : Fld := ⟨42, 1⟩
def MODEL_CFG.OPEN_MASK : Fld := ⟨48, 8⟩
def MODEL_CFG.NB_MASK : Fld := ⟨56, 8⟩
def MODEL_CFG.MEM_H : Fld := ⟨64, 16⟩
def MODEL_CFG.DEAD_CFG : Fld := ⟨80, 16⟩
def MODEL_CFG.FIT_MAX : Fld := ⟨96, 16⟩
def MODEL_CFG.CL_RATIO : Fld := ⟨112, 16⟩
def MODEL_CFG.TUNE_AMP : Fld := ⟨128, 16⟩
def MODEL_CFG.TUNE_BIAS : Fld := ⟨144, 16⟩
def MODEL_CFG.TUNE_EPS : Fld := ⟨160, 16⟩
def MODEL_CFG.TUNE_BAND : Fld := ⟨176, 16⟩
def MODEL_CFG.TUNE_CYCLES : Fld := ⟨192, 8⟩
def MODEL_CFG.TUNE_MAX_H : Fld := ⟨200, 8⟩
/-- `MODEL_CFG` (0x0400), R231 Table 6.15. -/
def MODEL_CFG : RecDesc where
  id := 0x0400
  count := 1024
  len := 32
  readOnly := false
  fields := [
    { at_ := MODEL_CFG.HEAT_PORT, acc := .rw, range := [(0, 7), (255, 255)] },
    { at_ := MODEL_CFG.COOL_PORT, acc := .rw, resets := [1], range := [(0, 7), (255, 255)] },
    { at_ := MODEL_CFG.AIR_PORT, acc := .rw, resets := [2], range := [(0, 7), (255, 255)] },
    { at_ := MODEL_CFG.AMB_BIND, acc := .rw, resets := [255], range := [(0, 15), (255, 255)] },
    { at_ := MODEL_CFG.SOL_BIND, acc := .rw, resets := [255], range := [(0, 15), (255, 255)] },
    { at_ := MODEL_CFG.OCC_IN, acc := .rw },
    { at_ := MODEL_CFG.AUTO_TUNE, acc := .rw },
    { at_ := MODEL_CFG.AUTO_OPEN, acc := .rw },
    { at_ := MODEL_CFG.OPEN_MASK, acc := .rw },
    { at_ := MODEL_CFG.NB_MASK, acc := .rw, resets := [255] },
    { at_ := MODEL_CFG.MEM_H, acc := .rw, resets := [48], range := [(1, 168)] },
    { at_ := MODEL_CFG.DEAD_CFG, acc := .rw, resets := [60], range := [(0, 3600)] },
    { at_ := MODEL_CFG.FIT_MAX, acc := .rw, resets := [30], range := [(5, 200)] },
    { at_ := MODEL_CFG.CL_RATIO, acc := .rw, resets := [32768], range := [(6553, 65535)] },
    { at_ := MODEL_CFG.TUNE_AMP, acc := .rw, resets := [16384], range := [(3277, 32768)] },
    { at_ := MODEL_CFG.TUNE_BIAS, acc := .rw, resets := [32768] },
    { at_ := MODEL_CFG.TUNE_EPS, acc := .rw, resets := [10], range := [(1, 100)] },
    { at_ := MODEL_CFG.TUNE_BAND, acc := .rw, resets := [200], range := [(50, 500)] },
    { at_ := MODEL_CFG.TUNE_CYCLES, acc := .rw, resets := [3], range := [(2, 8)] },
    { at_ := MODEL_CFG.TUNE_MAX_H, acc := .rw, resets := [6], range := [(1, 24)] }]

/-! `MODEL_COEF` (0x0401): R232 Table 6.16. -/
def MODEL_COEF.MSTATE : Fld := ⟨0, 8⟩
def MODEL_COEF.VALID : Fld := ⟨8, 1⟩
def MODEL_COEF.SKIPPED : Fld := ⟨9, 1⟩
def MODEL_COEF.UPD_SAT : Fld := ⟨10, 1⟩
def MODEL_COEF.NB_DROPPED : Fld := ⟨16, 8⟩
def MODEL_COEF.UPDATES : Fld := ⟨32, 32⟩
def MODEL_COEF.SINCE : Fld := ⟨64, 64⟩
def MODEL_COEF.COEF (k : Nat) : Fld := ⟨128 + 32 * k, 32⟩
def MODEL_COEF.GN (k : Nat) : Fld := ⟨640 + 32 * k, 32⟩
/-- `MODEL_COEF` (0x0401), R232 Table 6.16. -/
def MODEL_COEF : RecDesc where
  id := 0x0401
  count := 1024
  len := 112
  readOnly := true
  fields := []

/-! `TUNE_STATUS` (0x0402): R233 Table 6.17. -/
def TUNE_STATUS.TSTATE (k : Nat) : Fld := ⟨0 + 128 * k, 8⟩
def TUNE_STATUS.SOURCE (k : Nat) : Fld := ⟨8 + 128 * k, 8⟩
def TUNE_STATUS.CAUSE (k : Nat) : Fld := ⟨16 + 128 * k, 8⟩
def TUNE_STATUS.KP (k : Nat) : Fld := ⟨32 + 128 * k, 16⟩
def TUNE_STATUS.TI (k : Nat) : Fld := ⟨48 + 128 * k, 16⟩
def TUNE_STATUS.KU (k : Nat) : Fld := ⟨64 + 128 * k, 16⟩
def TUNE_STATUS.PU (k : Nat) : Fld := ⟨80 + 128 * k, 16⟩
def TUNE_STATUS.MEAN_OUT (k : Nat) : Fld := ⟨96 + 128 * k, 16⟩
def TUNE_STATUS.DEAD_MEAS (k : Nat) : Fld := ⟨112 + 128 * k, 16⟩
/-- `TUNE_STATUS` (0x0402), R233 Table 6.17. -/
def TUNE_STATUS : RecDesc where
  id := 0x0402
  count := 1024
  len := 48
  readOnly := true
  fields := []

/-! `OCC_TIMELINE` (0x0403): R234. -/
def OCC_TIMELINE.COUNT : Fld := ⟨0, 8⟩
def OCC_TIMELINE.ENTRY (k : Nat) : Fld := ⟨64 + 64 * k, 64⟩
/-- `OCC_TIMELINE` (0x0403), R234. -/
def OCC_TIMELINE : RecDesc where
  id := 0x0403
  count := 1024
  len := 136
  readOnly := true
  fields := []

/-! `PRESENCE_PROFILE` (0x0404): R234. -/
def PRESENCE_PROFILE.LEARNT : Fld := ⟨0, 16⟩
def PRESENCE_PROFILE.ENTRY (k : Nat) : Fld := ⟨64 + 8 * k, 8⟩
/-- `PRESENCE_PROFILE` (0x0404), R234. -/
def PRESENCE_PROFILE : RecDesc where
  id := 0x0404
  count := 1024
  len := 680
  readOnly := true
  fields := [
    { at_ := (PRESENCE_PROFILE.ENTRY 0), acc := .ro, n := 672, stride := 8, resets := [255] }]

/-! `PLAN_PLANT` (0x0410): R235 Table 6.18. -/
def PLAN_PLANT.HEAT_KW : Fld := ⟨0, 16⟩
def PLAN_PLANT.COOL_KW : Fld := ⟨16, 16⟩
def PLAN_PLANT.W_HEAT : Fld := ⟨32, 16⟩
def PLAN_PLANT.W_COOL : Fld := ⟨48, 16⟩
def PLAN_PLANT.SP_MIN_E : Fld := ⟨64, 16⟩
def PLAN_PLANT.SP_MAX_E : Fld := ⟨80, 16⟩
def PLAN_PLANT.DEV_MAX_E : Fld := ⟨96, 16⟩
def PLAN_PLANT.DEMAND_CHG_EN : Fld := ⟨112, 1⟩
/-- `PLAN_PLANT` (0x0410), R235 Table 6.18. -/
def PLAN_PLANT : RecDesc where
  id := 0x0410
  count := 1024
  len := 24
  readOnly := false
  fields := [
    { at_ := PLAN_PLANT.HEAT_KW, acc := .rw, resets := [300] },
    { at_ := PLAN_PLANT.COOL_KW, acc := .rw, resets := [300] },
    { at_ := PLAN_PLANT.W_HEAT, acc := .rw, resets := [1000] },
    { at_ := PLAN_PLANT.W_COOL, acc := .rw, resets := [330] },
    { at_ := PLAN_PLANT.SP_MIN_E, acc := .rw, resets := [1600], signed := true },
    { at_ := PLAN_PLANT.SP_MAX_E, acc := .rw, resets := [2800], signed := true },
    { at_ := PLAN_PLANT.DEV_MAX_E, acc := .rw, resets := [150], range := [(0, 500)] },
    { at_ := PLAN_PLANT.DEMAND_CHG_EN, acc := .rw, resets := [1] }]

/-! `PLAN_PREFS` (0x0411): R236 Table 6.19. -/
def PLAN_PREFS.COMFORT_W : Fld := ⟨0, 16⟩
def PLAN_PREFS.DEV_MAX : Fld := ⟨16, 16⟩
def PLAN_PREFS.PLAN_ON : Fld := ⟨32, 1⟩
/-- `PLAN_PREFS` (0x0411), R236 Table 6.19. -/
def PLAN_PREFS : RecDesc where
  id := 0x0411
  count := 1024
  len := 8
  readOnly := false
  fields := [
    { at_ := PLAN_PREFS.COMFORT_W, acc := .rw, resets := [2000] },
    { at_ := PLAN_PREFS.DEV_MAX, acc := .rw, resets := [100], range := [(0, 500)] },
    { at_ := PLAN_PREFS.PLAN_ON, acc := .rw, resets := [1] }]

/-! `ZONE_PLAN` (0x0412): R237 Table 6.20. -/
def ZONE_PLAN.PSTATE : Fld := ⟨0, 8⟩
def ZONE_PLAN.LATE : Fld := ⟨8, 1⟩
def ZONE_PLAN.FIGHT : Fld := ⟨9, 1⟩
def ZONE_PLAN.NB_FIXED : Fld := ⟨10, 1⟩
def ZONE_PLAN.FORECAST_HELD : Fld := ⟨11, 1⟩
def ZONE_PLAN.SUSPENDED : Fld := ⟨12, 1⟩
def ZONE_PLAN.ITER : Fld := ⟨16, 8⟩
def ZONE_PLAN.SCEN : Fld := ⟨24, 8⟩
def ZONE_PLAN.START : Fld := ⟨32, 64⟩
def ZONE_PLAN.COST : Fld := ⟨96, 32⟩
def ZONE_PLAN.ROUND : Fld := ⟨128, 64⟩
def ZONE_PLAN.ARB_HEAT : Fld := ⟨192, 16⟩
def ZONE_PLAN.ARB_COOL : Fld := ⟨208, 16⟩
def ZONE_PLAN.SP_HEAT (k : Nat) : Fld := ⟨256 + 64 * k, 16⟩
def ZONE_PLAN.SP_COOL (k : Nat) : Fld := ⟨272 + 64 * k, 16⟩
def ZONE_PLAN.T_PRED (k : Nat) : Fld := ⟨288 + 64 * k, 16⟩
def ZONE_PLAN.P_OCC (k : Nat) : Fld := ⟨304 + 64 * k, 8⟩
def ZONE_PLAN.DISCOMFORT (k : Nat) : Fld := ⟨312 + 64 * k, 1⟩
def ZONE_PLAN.DC_BAND (k : Nat) : Fld := ⟨313 + 64 * k, 1⟩
def ZONE_PLAN.OCC_MODE (k : Nat) : Fld := ⟨314 + 64 * k, 1⟩
/-- `ZONE_PLAN` (0x0412), R237 Table 6.20. -/
def ZONE_PLAN : RecDesc where
  id := 0x0412
  count := 1024
  len := 800
  readOnly := true
  fields := []

/-! `PLAN_ROUND` (0x0413): R238. -/
def PLAN_ROUND.LAST_Q : Fld := ⟨0, 64⟩
def PLAN_ROUND.PLANNED : Fld := ⟨64, 16⟩
def PLAN_ROUND.LATE_NOW : Fld := ⟨80, 16⟩
def PLAN_ROUND.ITER_MAX : Fld := ⟨96, 8⟩
def PLAN_ROUND.SCEN : Fld := ⟨104, 8⟩
def PLAN_ROUND.SUSP : Fld := ⟨112, 1⟩
def PLAN_ROUND.LATE_CNT : Fld := ⟨128, 32⟩
def PLAN_ROUND.SAT : Fld := ⟨160, 1⟩
/-- `PLAN_ROUND` (0x0413), R238. -/
def PLAN_ROUND : RecDesc where
  id := 0x0413
  count := 4
  len := 32
  readOnly := true
  fields := []

/-! `FORECAST` (0x0420): R238. -/
def FORECAST.START : Fld := ⟨0, 64⟩
def FORECAST.AMB (k : Nat) : Fld := ⟨64 + 16 * k, 16⟩
def FORECAST.SOL (k : Nat) : Fld := ⟨1600 + 16 * k, 16⟩
/-- `FORECAST` (0x0420), R238. -/
def FORECAST : RecDesc where
  id := 0x0420
  count := 1
  len := 392
  readOnly := false
  fields := [
    { at_ := FORECAST.START, acc := .rw },
    { at_ := (FORECAST.AMB 0), acc := .rw, n := 96, stride := 16, signed := true },
    { at_ := (FORECAST.SOL 0), acc := .rw, n := 96, stride := 16 }]

/-! `FIGHT_CFG` (0x0430): R238 Table 6.21. -/
def FIGHT_CFG.EN : Fld := ⟨0, 1⟩
def FIGHT_CFG.XOWNER : Fld := ⟨1, 1⟩
def FIGHT_CFG.DETECT_S : Fld := ⟨16, 16⟩
def FIGHT_CFG.RELEASE_S : Fld := ⟨32, 16⟩
def FIGHT_CFG.WIDEN : Fld := ⟨48, 16⟩
def FIGHT_CFG.DRAW_MAX : Fld := ⟨64, 16⟩
def FIGHT_CFG.DEM_MIN : Fld := ⟨80, 16⟩
def FIGHT_CFG.G_OPEN : Fld := ⟨96, 16⟩
/-- `FIGHT_CFG` (0x0430), R238 Table 6.21. -/
def FIGHT_CFG : RecDesc where
  id := 0x0430
  count := 1
  len := 16
  readOnly := false
  fields := [
    { at_ := FIGHT_CFG.EN, acc := .rw },
    { at_ := FIGHT_CFG.XOWNER, acc := .rw },
    { at_ := FIGHT_CFG.DETECT_S, acc := .rw, resets := [600], range := [(60, 3600)] },
    { at_ := FIGHT_CFG.RELEASE_S, acc := .rw, resets := [1800], range := [(300, 7200)] },
    { at_ := FIGHT_CFG.WIDEN, acc := .rw, resets := [100], range := [(0, 300)] },
    { at_ := FIGHT_CFG.DRAW_MAX, acc := .rw, resets := [100], range := [(0, 300)] },
    { at_ := FIGHT_CFG.DEM_MIN, acc := .rw, resets := [6553] },
    { at_ := FIGHT_CFG.G_OPEN, acc := .rw, resets := [50], range := [(1, 900)] }]

/-! `FIGHT_STATUS` (0x0431): R238. -/
def FIGHT_STATUS.WATCHED : Fld := ⟨0, 16⟩
def FIGHT_STATUS.ACTIVE : Fld := ⟨16, 16⟩
def FIGHT_STATUS.EPISODES : Fld := ⟨32, 32⟩
def FIGHT_STATUS.MINUTES : Fld := ⟨64, 32⟩
def FIGHT_STATUS.SAT : Fld := ⟨96, 2⟩
/-- `FIGHT_STATUS` (0x0431), R238. -/
def FIGHT_STATUS : RecDesc where
  id := 0x0431
  count := 1
  len := 16
  readOnly := true
  fields := []

/-! `ACT_MAP` (0x0500): R241 Table 7.1. -/
def ACT_MAP.EN : Fld := ⟨0, 1⟩
def ACT_MAP.COMBINE : Fld := ⟨1, 2⟩
def ACT_MAP.ISO_OFF : Fld := ⟨3, 1⟩
def ACT_MAP.PRIORITY : Fld := ⟨8, 8⟩
def ACT_MAP.SRC_COUNT : Fld := ⟨16, 8⟩
def ACT_MAP.TP_CYCLE_S : Fld := ⟨32, 16⟩
def ACT_MAP.MIN_ON_S : Fld := ⟨48, 16⟩
def ACT_MAP.MIN_OFF_S : Fld := ⟨64, 16⟩
def ACT_MAP.TP_PHASE_S : Fld := ⟨80, 16⟩
def ACT_MAP.POS_MIN : Fld := ⟨96, 16⟩
def ACT_MAP.POS_MAX : Fld := ⟨112, 16⟩
def ACT_MAP.POS_DEADBAND : Fld := ⟨128, 16⟩
def ACT_MAP.RUN_TOKENS : Fld := ⟨144, 16⟩
def ACT_MAP.SRC (k : Nat) : Fld := ⟨192 + 32 * k, 32⟩
/-- `ACT_MAP` (0x0500), R241 Table 7.1. -/
def ACT_MAP : RecDesc where
  id := 0x0500
  count := 136
  len := 56
  readOnly := false
  fields := [
    { at_ := ACT_MAP.EN, acc := .rw },
    { at_ := ACT_MAP.COMBINE, acc := .rw, range := [(0, 2)] },
    { at_ := ACT_MAP.ISO_OFF, acc := .rw },
    { at_ := ACT_MAP.PRIORITY, acc := .rw, resets := [128] },
    { at_ := ACT_MAP.SRC_COUNT, acc := .rw, range := [(0, 8)] },
    { at_ := ACT_MAP.TP_CYCLE_S, acc := .rw, resets := [600], range := [(60, 3600)] },
    { at_ := ACT_MAP.MIN_ON_S, acc := .rw, resets := [30], range := [(0, 600)] },
    { at_ := ACT_MAP.MIN_OFF_S, acc := .rw, resets := [30], range := [(0, 600)] },
    { at_ := ACT_MAP.TP_PHASE_S, acc := .rw, resets := [65535] },
    { at_ := ACT_MAP.POS_MIN, acc := .rw },
    { at_ := ACT_MAP.POS_MAX, acc := .rw, resets := [65535] },
    { at_ := ACT_MAP.POS_DEADBAND, acc := .rw, resets := [656] },
    { at_ := ACT_MAP.RUN_TOKENS, acc := .rw, resets := [20], range := [(1, 1000)] },
    { at_ := (ACT_MAP.SRC 0), acc := .rw, n := 8, stride := 32, resets := [65535] }]

/-! `ALLOC_MODE` (0x0501): R263. -/
def ALLOC_MODE.MODE : Fld := ⟨0, 1⟩
/-- `ALLOC_MODE` (0x0501), R263. -/
def ALLOC_MODE : RecDesc where
  id := 0x0501
  count := 1
  len := 4
  readOnly := false
  fields := [
    { at_ := ALLOC_MODE.MODE, acc := .rw }]

/-! `BUDGET_CFG` (0x0502): R264 Table 7.10. -/
def BUDGET_CFG.BUDGET_TOKENS : Fld := ⟨0, 16⟩
def BUDGET_CFG.C0_RESERVE : Fld := ⟨16, 16⟩
def BUDGET_CFG.DC_CAP_TOKENS : Fld := ⟨32, 16⟩
def BUDGET_CFG.PULL_PER_FRAME : Fld := ⟨48, 8⟩
def BUDGET_CFG.VBOOST_COST_V : Fld := ⟨56, 8⟩
def BUDGET_CFG.LIMIT_REPORT_MS : Fld := ⟨64, 16⟩
def BUDGET_CFG.SHED_HOLDOFF_S : Fld := ⟨80, 16⟩
/-- `BUDGET_CFG` (0x0502), R264 Table 7.10. -/
def BUDGET_CFG : RecDesc where
  id := 0x0502
  count := 1
  len := 16
  readOnly := false
  fields := [
    { at_ := BUDGET_CFG.BUDGET_TOKENS, acc := .rw, range := [(0, 1500)] },
    { at_ := BUDGET_CFG.C0_RESERVE, acc := .rw, resets := [20], range := [(0, 500)] },
    { at_ := BUDGET_CFG.DC_CAP_TOKENS, acc := .rw, resets := [600], range := [(0, 1500)] },
    { at_ := BUDGET_CFG.PULL_PER_FRAME, acc := .rw, resets := [4], range := [(1, 19)] },
    { at_ := BUDGET_CFG.VBOOST_COST_V, acc := .rw, resets := [57], range := [(36, 57)] },
    { at_ := BUDGET_CFG.LIMIT_REPORT_MS, acc := .rw, resets := [5000], range := [(0, 60000)] },
    { at_ := BUDGET_CFG.SHED_HOLDOFF_S, acc := .rw, resets := [10], range := [(0, 600)] }]

/-! `BUDGET_STATUS` (0x0503): R265 Table 7.11. -/
def BUDGET_STATUS.BUDGET_EFF : Fld := ⟨0, 16⟩
def BUDGET_STATUS.CAP_PD : Fld := ⟨16, 16⟩
def BUDGET_STATUS.PD_CLS : Fld := ⟨32, 3⟩
def BUDGET_STATUS.PHASES : Fld := ⟨40, 3⟩
def BUDGET_STATUS.STOP : Fld := ⟨48, 3⟩
def BUDGET_STATUS.DEFAULT_BUDGET : Fld := ⟨51, 1⟩
def BUDGET_STATUS.STRICT_FORCED : Fld := ⟨52, 1⟩
def BUDGET_STATUS.FREE : Fld := ⟨64, 16⟩
def BUDGET_STATUS.HELD : Fld := ⟨80, 16⟩
def BUDGET_STATUS.RESERVE : Fld := ⟨96, 16⟩
def BUDGET_STATUS.WAITING : Fld := ⟨112, 16⟩
def BUDGET_STATUS.LIMITED_NOW : Fld := ⟨128, 16⟩
def BUDGET_STATUS.PEAK_HELD : Fld := ⟨144, 16⟩
def BUDGET_STATUS.GRANT_CNT : Fld := ⟨160, 32⟩
def BUDGET_STATUS.SHED_CNT : Fld := ⟨192, 32⟩
def BUDGET_STATUS.BORROW_CNT : Fld := ⟨224, 32⟩
def BUDGET_STATUS.DEFER_CNT : Fld := ⟨256, 32⟩
def BUDGET_STATUS.SAT : Fld := ⟨288, 4⟩
/-- `BUDGET_STATUS` (0x0503), R265 Table 7.11. -/
def BUDGET_STATUS : RecDesc where
  id := 0x0503
  count := 1
  len := 40
  readOnly := true
  fields := []

/-! `TARGET_STATUS` (0x0504): R266 Table 7.12. -/
def TARGET_STATUS.TSTATE : Fld := ⟨0, 8⟩
def TARGET_STATUS.CAUSE : Fld := ⟨8, 8⟩
def TARGET_STATUS.TOKENS : Fld := ⟨16, 16⟩
def TARGET_STATUS.DEMAND : Fld := ⟨32, 16⟩
def TARGET_STATUS.DUTY : Fld := ⟨48, 16⟩
def TARGET_STATUS.PULL_TOKENS : Fld := ⟨64, 16⟩
def TARGET_STATUS.HOLD_TOKENS : Fld := ⟨80, 16⟩
def TARGET_STATUS.WAIT_MS : Fld := ⟨96, 16⟩
def TARGET_STATUS.OPEN_S : Fld := ⟨128, 32⟩
def TARGET_STATUS.PULL_CNT : Fld := ⟨160, 32⟩
def TARGET_STATUS.SHED_CNT : Fld := ⟨192, 32⟩
def TARGET_STATUS.SAT : Fld := ⟨224, 3⟩
/-- `TARGET_STATUS` (0x0504), R266 Table 7.12. -/
def TARGET_STATUS : RecDesc where
  id := 0x0504
  count := 136
  len := 32
  readOnly := true
  fields := []

/-! `CH_CFG` (0x0600): R270 Table 8.2. -/
def CH_CFG.KIND : Fld := ⟨0, 2⟩
def CH_CFG.OFF_DIAG_EN : Fld := ⟨2, 1⟩
def CH_CFG.VALVE_TYPE : Fld := ⟨8, 4⟩
def CH_CFG.NOMOVE_LIMIT : Fld := ⟨16, 8⟩
/-- `CH_CFG` (0x0600), R270 Table 8.2. -/
def CH_CFG : RecDesc where
  id := 0x0600
  count := 96
  len := 8
  readOnly := false
  fields := [
    { at_ := CH_CFG.KIND, acc := .rw, range := [(0, 1)] },
    { at_ := CH_CFG.OFF_DIAG_EN, acc := .rw, resets := [1] },
    { at_ := CH_CFG.VALVE_TYPE, acc := .rw, range := [(0, 15)] },
    { at_ := CH_CFG.NOMOVE_LIMIT, acc := .rw, resets := [3] }]

/-! `VALVE_TYPE` (0x0601): R288 Table 8.10. -/
def VALVE_TYPE.BOOST_MS : Fld := ⟨0, 16⟩
def VALVE_TYPE.COIL_RES_20C : Fld := ⟨16, 16⟩
def VALVE_TYPE.COIL_TEMPCO : Fld := ⟨32, 16⟩
def VALVE_TYPE.COIL_TAU_S : Fld := ⟨48, 16⟩
def VALVE_TYPE.COIL_RTH : Fld := ⟨64, 16⟩
def VALVE_TYPE.COIL_TMAX : Fld := ⟨80, 16⟩
def VALVE_TYPE.ECON_EN : Fld := ⟨96, 1⟩
def VALVE_TYPE.HOLD_PULL_EN : Fld := ⟨97, 1⟩
def VALVE_TYPE.KINK_EN : Fld := ⟨98, 1⟩
def VALVE_TYPE.KINK_WIN_START_MS : Fld := ⟨112, 16⟩
def VALVE_TYPE.KINK_WIN_END_MS : Fld := ⟨128, 16⟩
def VALVE_TYPE.KINK_DEPTH_MA : Fld := ⟨144, 16⟩
def VALVE_TYPE.OPEN_MA : Fld := ⟨160, 16⟩
def VALVE_TYPE.OC_MA : Fld := ⟨176, 16⟩
/-- `VALVE_TYPE` (0x0601), R288 Table 8.10. -/
def VALVE_TYPE : RecDesc where
  id := 0x0601
  count := 16
  len := 32
  readOnly := false
  fields := [
    { at_ := VALVE_TYPE.BOOST_MS, acc := .rw, resets := [100], range := [(20, 500)] },
    { at_ := VALVE_TYPE.COIL_RES_20C, acc := .rw, resets := [2400], range := [(100, 60000)] },
    { at_ := VALVE_TYPE.COIL_TEMPCO, acc := .rw, resets := [3930], range := [(0, 10000)] },
    { at_ := VALVE_TYPE.COIL_TAU_S, acc := .rw, resets := [600], range := [(10, 7200)] },
    { at_ := VALVE_TYPE.COIL_RTH, acc := .rw, resets := [4000], range := [(100, 20000)] },
    { at_ := VALVE_TYPE.COIL_TMAX, acc := .rw, resets := [10500], range := [(4000, 18000)], signed := true },
    { at_ := VALVE_TYPE.ECON_EN, acc := .rw },
    { at_ := VALVE_TYPE.HOLD_PULL_EN, acc := .rw },
    { at_ := VALVE_TYPE.KINK_EN, acc := .rw, resets := [1] },
    { at_ := VALVE_TYPE.KINK_WIN_START_MS, acc := .rw, resets := [10], range := [(5, 300)] },
    { at_ := VALVE_TYPE.KINK_WIN_END_MS, acc := .rw, resets := [150], range := [(5, 300)] },
    { at_ := VALVE_TYPE.KINK_DEPTH_MA, acc := .rw, resets := [10], range := [(1, 500)] },
    { at_ := VALVE_TYPE.OPEN_MA, acc := .rw, resets := [20], range := [(1, 1000)] },
    { at_ := VALVE_TYPE.OC_MA, acc := .rw, resets := [1100], range := [(100, 1200)] }]

/-! `CH_GLOBAL` (0x0602): R289 Table 8.11. -/
def CH_GLOBAL.VBOOST_MIN : Fld := ⟨0, 16⟩
def CH_GLOBAL.VBOOST_HYST : Fld := ⟨16, 16⟩
def CH_GLOBAL.AMB_BAND (k : Nat) : Fld := ⟨32 + 16 * k, 16⟩
def CH_GLOBAL.OFF_DIAG_MS : Fld := ⟨96, 16⟩
/-- `CH_GLOBAL` (0x0602), R289 Table 8.11. -/
def CH_GLOBAL : RecDesc where
  id := 0x0602
  count := 1
  len := 16
  readOnly := false
  fields := [
    { at_ := CH_GLOBAL.VBOOST_MIN, acc := .rw, resets := [340], range := [(300, 560)] },
    { at_ := CH_GLOBAL.VBOOST_HYST, acc := .rw, resets := [20], range := [(5, 100)] },
    { at_ := (CH_GLOBAL.AMB_BAND 0), acc := .rw, n := 4, stride := 16, resets := [3500, 5000, 6500, 8000], range := [(-4000, 12500)], signed := true },
    { at_ := CH_GLOBAL.OFF_DIAG_MS, acc := .rw, resets := [1000], range := [(100, 10000)] }]

/-! `CH_STATUS` (0x0603): R290 Table 8.12. -/
def CH_STATUS.CSTATE : Fld := ⟨0, 8⟩
def CH_STATUS.FAULT : Fld := ⟨8, 8⟩
def CH_STATUS.LAST_CLOSE : Fld := ⟨16, 8⟩
def CH_STATUS.NOMOVE_RUN : Fld := ⟨24, 8⟩
def CH_STATUS.CLOSE_T : Fld := ⟨32, 16⟩
def CH_STATUS.I_MA : Fld := ⟨48, 16⟩
def CH_STATUS.COIL_T : Fld := ⟨64, 16⟩
def CH_STATUS.COIL_T_SS : Fld := ⟨80, 16⟩
def CH_STATUS.BOOST_LOW : Fld := ⟨96, 1⟩
def CH_STATUS.BNR : Fld := ⟨97, 1⟩
def CH_STATUS.MANUAL : Fld := ⟨98, 1⟩
def CH_STATUS.FORCED : Fld := ⟨99, 1⟩
def CH_STATUS.ECON_REQ : Fld := ⟨100, 1⟩
def CH_STATUS.MANUAL_MODE : Fld := ⟨104, 8⟩
def CH_STATUS.MOVE_CNT : Fld := ⟨128, 32⟩
def CH_STATUS.NOMOVE_CNT : Fld := ⟨160, 32⟩
def CH_STATUS.FAULT_CNT : Fld := ⟨192, 32⟩
def CH_STATUS.SAT : Fld := ⟨224, 3⟩
/-- `CH_STATUS` (0x0603), R290 Table 8.12. -/
def CH_STATUS : RecDesc where
  id := 0x0603
  count := 96
  len := 32
  readOnly := true
  fields := []

/-! `AX_CFG` (0x0700): R316 Table 9.9. -/
def AX_CFG.EN : Fld := ⟨0, 1⟩
def AX_CFG.HOME_ON_START : Fld := ⟨1, 1⟩
def AX_CFG.REST_BRAKE : Fld := ⟨2, 1⟩
def AX_CFG.HOME_METHOD : Fld := ⟨3, 2⟩
def AX_CFG.CH_PAIR : Fld := ⟨8, 8⟩
def AX_CFG.ENC : Fld := ⟨16, 8⟩
def AX_CFG.STALL_LIMIT : Fld := ⟨24, 8⟩
def AX_CFG.SPAN_COUNTS : Fld := ⟨32, 32⟩
def AX_CFG.V_MAX : Fld := ⟨64, 32⟩
def AX_CFG.ACC_MAX : Fld := ⟨96, 32⟩
def AX_CFG.KP_POS : Fld := ⟨128, 16⟩
def AX_CFG.KP_VEL : Fld := ⟨144, 16⟩
def AX_CFG.KI_VEL : Fld := ⟨160, 16⟩
def AX_CFG.DUTY_MAX : Fld := ⟨176, 16⟩
def AX_CFG.I_LIMIT_MA : Fld := ⟨192, 16⟩
def AX_CFG.IN_POS_COUNTS : Fld := ⟨208, 16⟩
def AX_CFG.SETTLE_MS : Fld := ⟨224, 16⟩
def AX_CFG.DRIFT_COUNTS : Fld := ⟨240, 16⟩
def AX_CFG.STALL_SPEED : Fld := ⟨256, 16⟩
def AX_CFG.STALL_DUTY : Fld := ⟨272, 16⟩
def AX_CFG.STALL_MS : Fld := ⟨288, 16⟩
def AX_CFG.STALL_RETRY_S : Fld := ⟨304, 16⟩
def AX_CFG.MOVE_TIMEOUT_S : Fld := ⟨320, 16⟩
def AX_CFG.HOME_DUTY : Fld := ⟨336, 16⟩
def AX_CFG.HOME_POS : Fld := ⟨352, 32⟩
def AX_CFG.RANGE_MARGIN : Fld := ⟨384, 32⟩
def AX_CFG.HOME_TIMEOUT_S : Fld := ⟨416, 16⟩
def AX_CFG.OPEN_MA : Fld := ⟨432, 16⟩
/-- `AX_CFG` (0x0700), R316 Table 9.9. -/
def AX_CFG : RecDesc where
  id := 0x0700
  count := 24
  len := 64
  readOnly := false
  fields := [
    { at_ := AX_CFG.EN, acc := .rw },
    { at_ := AX_CFG.HOME_ON_START, acc := .rw, resets := [1] },
    { at_ := AX_CFG.REST_BRAKE, acc := .rw, resets := [1] },
    { at_ := AX_CFG.HOME_METHOD, acc := .rw, range := [(0, 2)] },
    { at_ := AX_CFG.CH_PAIR, acc := .rw, range := [(0, 94)] },
    { at_ := AX_CFG.ENC, acc := .rw, range := [(0, 23)] },
    { at_ := AX_CFG.STALL_LIMIT, acc := .rw, resets := [3], range := [(1, 255)] },
    { at_ := AX_CFG.SPAN_COUNTS, acc := .rw, range := [(0, 1000000000)] },
    { at_ := AX_CFG.V_MAX, acc := .rw, resets := [1000], range := [(1, 10000000)] },
    { at_ := AX_CFG.ACC_MAX, acc := .rw, resets := [4000], range := [(1, 100000000)] },
    { at_ := AX_CFG.KP_POS, acc := .rw, resets := [500], range := [(1, 10000)] },
    { at_ := AX_CFG.KP_VEL, acc := .rw, resets := [256], range := [(0, 65535)] },
    { at_ := AX_CFG.KI_VEL, acc := .rw, resets := [2560], range := [(0, 65535)] },
    { at_ := AX_CFG.DUTY_MAX, acc := .rw, resets := [58982], range := [(4096, 65535)] },
    { at_ := AX_CFG.I_LIMIT_MA, acc := .rw, resets := [300], range := [(50, 1000)] },
    { at_ := AX_CFG.IN_POS_COUNTS, acc := .rw, resets := [20], range := [(1, 65535)] },
    { at_ := AX_CFG.SETTLE_MS, acc := .rw, resets := [100], range := [(0, 5000)] },
    { at_ := AX_CFG.DRIFT_COUNTS, acc := .rw, resets := [100] },
    { at_ := AX_CFG.STALL_SPEED, acc := .rw, resets := [50], range := [(1, 65535)] },
    { at_ := AX_CFG.STALL_DUTY, acc := .rw, resets := [16384] },
    { at_ := AX_CFG.STALL_MS, acc := .rw, resets := [300], range := [(50, 10000)] },
    { at_ := AX_CFG.STALL_RETRY_S, acc := .rw, resets := [30], range := [(1, 3600)] },
    { at_ := AX_CFG.MOVE_TIMEOUT_S, acc := .rw, resets := [180], range := [(1, 3600)] },
    { at_ := AX_CFG.HOME_DUTY, acc := .rw, resets := [26214], range := [(4096, 65535)] },
    { at_ := AX_CFG.HOME_POS, acc := .rw, signed := true },
    { at_ := AX_CFG.RANGE_MARGIN, acc := .rw, resets := [1000], range := [(0, 100000000)] },
    { at_ := AX_CFG.HOME_TIMEOUT_S, acc := .rw, resets := [240], range := [(1, 3600)] },
    { at_ := AX_CFG.OPEN_MA, acc := .rw, resets := [20], range := [(1, 500)] }]

/-! `ENC_CFG` (0x0701): R317 Table 9.10. -/
def ENC_CFG.MODE : Fld := ⟨0, 2⟩
def ENC_CFG.DIR_INV : Fld := ⟨2, 1⟩
def ENC_CFG.INDEX_MODE : Fld := ⟨3, 2⟩
def ENC_CFG.DIR_HYST : Fld := ⟨8, 8⟩
def ENC_CFG.MIN_EDGE : Fld := ⟨16, 16⟩
def ENC_CFG.EDGE_FAULT_LIMIT : Fld := ⟨32, 16⟩
def ENC_CFG.SPD_GATE_MS : Fld := ⟨48, 8⟩
def ENC_CFG.SPD_ZERO : Fld := ⟨56, 8⟩
def ENC_CFG.SPD_HI : Fld := ⟨64, 32⟩
def ENC_CFG.SPD_LO : Fld := ⟨96, 32⟩
def ENC_CFG.INDEX_VALUE : Fld := ⟨128, 32⟩
def ENC_CFG.INTERP : Fld := ⟨160, 2⟩
def ENC_CFG.AMP_FAULT_SAMPLES : Fld := ⟨168, 8⟩
def ENC_CFG.AMP_MIN : Fld := ⟨176, 16⟩
def ENC_CFG.AMP_MAX : Fld := ⟨192, 16⟩
def ENC_CFG.SIN_OFS : Fld := ⟨208, 16⟩
def ENC_CFG.COS_OFS : Fld := ⟨224, 16⟩
/-- `ENC_CFG` (0x0701), R317 Table 9.10. -/
def ENC_CFG : RecDesc where
  id := 0x0701
  count := 24
  len := 32
  readOnly := false
  fields := [
    { at_ := ENC_CFG.MODE, acc := .rw, range := [(0, 2)] },
    { at_ := ENC_CFG.DIR_INV, acc := .rw },
    { at_ := ENC_CFG.INDEX_MODE, acc := .rw, range := [(0, 2)] },
    { at_ := ENC_CFG.DIR_HYST, acc := .rw, resets := [2], range := [(1, 255)] },
    { at_ := ENC_CFG.MIN_EDGE, acc := .rw, resets := [20], range := [(2, 10000)] },
    { at_ := ENC_CFG.EDGE_FAULT_LIMIT, acc := .rw, resets := [16], range := [(1, 65535)] },
    { at_ := ENC_CFG.SPD_GATE_MS, acc := .rw, resets := [10], range := [(1, 100)] },
    { at_ := ENC_CFG.SPD_ZERO, acc := .rw, resets := [10], range := [(1, 255)] },
    { at_ := ENC_CFG.SPD_HI, acc := .rw, resets := [20000], range := [(1, 50000000)] },
    { at_ := ENC_CFG.SPD_LO, acc := .rw, resets := [16000] },
    { at_ := ENC_CFG.INDEX_VALUE, acc := .rw, signed := true },
    { at_ := ENC_CFG.INTERP, acc := .rw, resets := [2] },
    { at_ := ENC_CFG.AMP_FAULT_SAMPLES, acc := .rw, resets := [8], range := [(1, 255)] },
    { at_ := ENC_CFG.AMP_MIN, acc := .rw, resets := [250], range := [(50, 900)] },
    { at_ := ENC_CFG.AMP_MAX, acc := .rw, resets := [750], range := [(50, 900)] },
    { at_ := ENC_CFG.SIN_OFS, acc := .rw, range := [(-200, 200)], signed := true },
    { at_ := ENC_CFG.COS_OFS, acc := .rw, range := [(-200, 200)], signed := true }]

/-! `AX_STATUS` (0x0702): R318 Table 9.11. -/
def AX_STATUS.ASTATE : Fld := ⟨0, 8⟩
def AX_STATUS.FAULT : Fld := ⟨8, 8⟩
def AX_STATUS.HOMED : Fld := ⟨16, 1⟩
def AX_STATUS.POS_DOUBTFUL : Fld := ⟨17, 1⟩
def AX_STATUS.MANUAL : Fld := ⟨18, 1⟩
def AX_STATUS.FORCED : Fld := ⟨19, 1⟩
def AX_STATUS.CORR_PENDING : Fld := ⟨20, 1⟩
def AX_STATUS.STALL_RUN : Fld := ⟨24, 8⟩
def AX_STATUS.POS_Q16 : Fld := ⟨32, 16⟩
def AX_STATUS.TARGET_Q16 : Fld := ⟨48, 16⟩
def AX_STATUS.TARGET : Fld := ⟨64, 32⟩
def AX_STATUS.POSITION : Fld := ⟨96, 32⟩
def AX_STATUS.SPEED : Fld := ⟨128, 32⟩
def AX_STATUS.DUTY : Fld := ⟨160, 16⟩
def AX_STATUS.I_MA : Fld := ⟨176, 16⟩
def AX_STATUS.MOVE_CNT : Fld := ⟨192, 32⟩
def AX_STATUS.STALL_CNT : Fld := ⟨224, 32⟩
def AX_STATUS.FAULT_CNT : Fld := ⟨256, 32⟩
def AX_STATUS.SAT : Fld := ⟨288, 3⟩
def AX_STATUS.MANUAL_MODE : Fld := ⟨296, 8⟩
/-- `AX_STATUS` (0x0702), R318 Table 9.11. -/
def AX_STATUS : RecDesc where
  id := 0x0702
  count := 24
  len := 40
  readOnly := true
  fields := []

/-! `ENC_STATUS` (0x0703): R318 Table 9.12. -/
def ENC_STATUS.DIR : Fld := ⟨0, 1⟩
def ENC_STATUS.WRAP : Fld := ⟨1, 1⟩
def ENC_STATUS.ARMED : Fld := ⟨2, 1⟩
def ENC_STATUS.INDEX_SEEN : Fld := ⟨3, 1⟩
def ENC_STATUS.SPD_METHOD : Fld := ⟨4, 1⟩
def ENC_STATUS.ENC_FAULT : Fld := ⟨8, 8⟩
def ENC_STATUS.AMP : Fld := ⟨16, 16⟩
def ENC_STATUS.POSITION : Fld := ⟨32, 32⟩
def ENC_STATUS.SPEED : Fld := ⟨64, 32⟩
def ENC_STATUS.INDEX_POS : Fld := ⟨96, 32⟩
def ENC_STATUS.EDGE_FAULT_CNT : Fld := ⟨128, 32⟩
def ENC_STATUS.INDEX_CNT : Fld := ⟨160, 32⟩
def ENC_STATUS.DIR_CHANGE_CNT : Fld := ⟨192, 32⟩
def ENC_STATUS.SAT : Fld := ⟨224, 3⟩
/-- `ENC_STATUS` (0x0703), R318 Table 9.12. -/
def ENC_STATUS : RecDesc where
  id := 0x0703
  count := 24
  len := 32
  readOnly := true
  fields := []

/-! `FAN_PORT_CFG` (0x0800): R334 Table 10.4. -/
def FAN_PORT_CFG.GROUP : Fld := ⟨0, 8⟩
def FAN_PORT_CFG.INVERT : Fld := ⟨8, 1⟩
def FAN_PORT_CFG.TACH_EN : Fld := ⟨9, 1⟩
def FAN_PORT_CFG.PWM_HZ : Fld := ⟨16, 16⟩
def FAN_PORT_CFG.PPR : Fld := ⟨32, 4⟩
def FAN_PORT_CFG.SPINUP_S : Fld := ⟨40, 8⟩
def FAN_PORT_CFG.TACH_MIN_RPM : Fld := ⟨48, 16⟩
/-- `FAN_PORT_CFG` (0x0800), R334 Table 10.4. -/
def FAN_PORT_CFG : RecDesc where
  id := 0x0800
  count := 32
  len := 8
  readOnly := false
  fields := [
    { at_ := FAN_PORT_CFG.GROUP, acc := .rw, resets := [255], range := [(0, 15), (255, 255)] },
    { at_ := FAN_PORT_CFG.INVERT, acc := .rw },
    { at_ := FAN_PORT_CFG.TACH_EN, acc := .rw, resets := [1] },
    { at_ := FAN_PORT_CFG.PWM_HZ, acc := .rw, resets := [25000], range := [(100, 25000)] },
    { at_ := FAN_PORT_CFG.PPR, acc := .rw, resets := [2], range := [(1, 8)] },
    { at_ := FAN_PORT_CFG.SPINUP_S, acc := .rw, resets := [10], range := [(1, 60)] },
    { at_ := FAN_PORT_CFG.TACH_MIN_RPM, acc := .rw, resets := [300], range := [(10, 20000)] }]

/-! `FAN_GROUP_CFG` (0x0801): R334 Table 10.5. -/
def FAN_GROUP_CFG.START_DEM : Fld := ⟨0, 16⟩
def FAN_GROUP_CFG.STOP_DEM : Fld := ⟨16, 16⟩
def FAN_GROUP_CFG.DUTY_MIN : Fld := ⟨32, 16⟩
def FAN_GROUP_CFG.DUTY_MAX : Fld := ⟨48, 16⟩
def FAN_GROUP_CFG.DUTY_OFF : Fld := ⟨64, 16⟩
def FAN_GROUP_CFG.RAMP : Fld := ⟨80, 16⟩
def FAN_GROUP_CFG.THERM_MASK : Fld := ⟨96, 4⟩
def FAN_GROUP_CFG.SKIP (k : Nat) : Fld := ⟨128 + 32 * k, 32⟩
def FAN_GROUP_CFG.TABLE (k : Nat) : Fld := ⟨256 + 32 * k, 32⟩
def FAN_GROUP_CFG.AUTO_DUTY : Fld := ⟨384, 16⟩
/-- `FAN_GROUP_CFG` (0x0801), R334 Table 10.5. -/
def FAN_GROUP_CFG : RecDesc where
  id := 0x0801
  count := 16
  len := 64
  readOnly := false
  fields := [
    { at_ := FAN_GROUP_CFG.START_DEM, acc := .rw, resets := [3277] },
    { at_ := FAN_GROUP_CFG.STOP_DEM, acc := .rw, resets := [1638] },
    { at_ := FAN_GROUP_CFG.DUTY_MIN, acc := .rw, resets := [13107] },
    { at_ := FAN_GROUP_CFG.DUTY_MAX, acc := .rw, resets := [65535] },
    { at_ := FAN_GROUP_CFG.DUTY_OFF, acc := .rw },
    { at_ := FAN_GROUP_CFG.RAMP, acc := .rw, resets := [10000], range := [(100, 65535)] },
    { at_ := FAN_GROUP_CFG.THERM_MASK, acc := .rw, resets := [15] },
    { at_ := (FAN_GROUP_CFG.SKIP 0), acc := .rw, n := 4, stride := 32 },
    { at_ := (FAN_GROUP_CFG.TABLE 0), acc := .rw, n := 4, stride := 32, resets := [1288505296, 2147486648, 4294905760, 32768] },
    { at_ := FAN_GROUP_CFG.AUTO_DUTY, acc := .rw, resets := [65535] }]

/-! `FAN_GLOBAL` (0x0802): R334 Table 10.6. -/
def FAN_GLOBAL.WD_S : Fld := ⟨0, 16⟩
def FAN_GLOBAL.FAIL_CLEAR_S : Fld := ⟨16, 16⟩
def FAN_GLOBAL.TACH_FILTER_US : Fld := ⟨32, 16⟩
/-- `FAN_GLOBAL` (0x0802), R334 Table 10.6. -/
def FAN_GLOBAL : RecDesc where
  id := 0x0802
  count := 1
  len := 8
  readOnly := false
  fields := [
    { at_ := FAN_GLOBAL.WD_S, acc := .rw, resets := [300], range := [(0, 0), (30, 3600)] },
    { at_ := FAN_GLOBAL.FAIL_CLEAR_S, acc := .rw, resets := [30], range := [(5, 600)] },
    { at_ := FAN_GLOBAL.TACH_FILTER_US, acc := .rw, resets := [50], range := [(10, 1000)] }]

/-! `PURGE_CFG` (0x0803): R334 Table 10.7. -/
def PURGE_CFG.GROUPS : Fld := ⟨0, 16⟩
def PURGE_CFG.DUTY : Fld := ⟨16, 16⟩
def PURGE_CFG.AXES : Fld := ⟨32, 24⟩
def PURGE_CFG.POSITION : Fld := ⟨64, 16⟩
def PURGE_CFG.DURATION_S : Fld := ⟨80, 16⟩
/-- `PURGE_CFG` (0x0803), R334 Table 10.7. -/
def PURGE_CFG : RecDesc where
  id := 0x0803
  count := 8
  len := 16
  readOnly := false
  fields := [
    { at_ := PURGE_CFG.GROUPS, acc := .rw },
    { at_ := PURGE_CFG.DUTY, acc := .rw, resets := [65535] },
    { at_ := PURGE_CFG.AXES, acc := .rw },
    { at_ := PURGE_CFG.POSITION, acc := .rw, resets := [65535] },
    { at_ := PURGE_CFG.DURATION_S, acc := .rw }]

/-! `FAN_PORT_STATUS` (0x0804): R335 Table 10.8. -/
def FAN_PORT_STATUS.PSTATE : Fld := ⟨0, 8⟩
def FAN_PORT_STATUS.TACH_LOW : Fld := ⟨8, 1⟩
def FAN_PORT_STATUS.SAT : Fld := ⟨9, 2⟩
def FAN_PORT_STATUS.DUTY : Fld := ⟨16, 16⟩
def FAN_PORT_STATUS.RPM : Fld := ⟨32, 16⟩
def FAN_PORT_STATUS.REVS : Fld := ⟨64, 32⟩
def FAN_PORT_STATUS.FAIL_CNT : Fld := ⟨96, 32⟩
/-- `FAN_PORT_STATUS` (0x0804), R335 Table 10.8. -/
def FAN_PORT_STATUS : RecDesc where
  id := 0x0804
  count := 32
  len := 16
  readOnly := true
  fields := []

/-! `FAN_GROUP_STATUS` (0x0805): R335 Table 10.9. -/
def FAN_GROUP_STATUS.SOURCE : Fld := ⟨0, 8⟩
def FAN_GROUP_STATUS.ON : Fld := ⟨8, 1⟩
def FAN_GROUP_STATUS.SKIPPING : Fld := ⟨9, 1⟩
def FAN_GROUP_STATUS.AUTO_CAUSE : Fld := ⟨10, 3⟩
def FAN_GROUP_STATUS.DEMAND : Fld := ⟨16, 16⟩
def FAN_GROUP_STATUS.TARGET : Fld := ⟨32, 16⟩
def FAN_GROUP_STATUS.DUTY : Fld := ⟨48, 16⟩
def FAN_GROUP_STATUS.PORTS : Fld := ⟨64, 8⟩
def FAN_GROUP_STATUS.FAILED : Fld := ⟨72, 8⟩
def FAN_GROUP_STATUS.TEMP : Fld := ⟨80, 16⟩
/-- `FAN_GROUP_STATUS` (0x0805), R335 Table 10.9. -/
def FAN_GROUP_STATUS : RecDesc where
  id := 0x0805
  count := 16
  len := 16
  readOnly := true
  fields := [
    { at_ := FAN_GROUP_STATUS.SOURCE, acc := .ro, resets := [7] },
    { at_ := FAN_GROUP_STATUS.TEMP, acc := .ro, resets := [32768] }]

/-! `ARRAY_MODE` (0x0900): R366 Table 11.9. -/
def ARRAY_MODE.MODE : Fld := ⟨0, 1⟩
/-- `ARRAY_MODE` (0x0900), R366 Table 11.9. -/
def ARRAY_MODE : RecDesc where
  id := 0x0900
  count := 2
  len := 4
  readOnly := false
  fields := [
    { at_ := ARRAY_MODE.MODE, acc := .rw }]

/-! `ARRAY_CFG` (0x0901): R366 Table 11.9. -/
def ARRAY_CFG.PERIOD_MS : Fld := ⟨0, 16⟩
def ARRAY_CFG.INJ_PERIOD_US : Fld := ⟨16, 16⟩
/-- `ARRAY_CFG` (0x0901), R366 Table 11.9. -/
def ARRAY_CFG : RecDesc where
  id := 0x0901
  count := 1
  len := 8
  readOnly := false
  fields := [
    { at_ := ARRAY_CFG.PERIOD_MS, acc := .rw, resets := [10], range := [(0, 1000)] },
    { at_ := ARRAY_CFG.INJ_PERIOD_US, acc := .rw, range := [(0, 0), (50, 60000)] }]

/-! `ARRAY_CAL` (0x0902): R367 Table 11.10. -/
def ARRAY_CAL.CAL_TIME : Fld := ⟨0, 64⟩
def ARRAY_CAL.RESULT : Fld := ⟨64, 8⟩
def ARRAY_CAL.BAND : Fld := ⟨72, 8⟩
def ARRAY_CAL.OFS (k : Nat) : Fld := ⟨128 + 64 * k, 16⟩
def ARRAY_CAL.GAIN (k : Nat) : Fld := ⟨144 + 64 * k, 16⟩
def ARRAY_CAL.SKEW (k : Nat) : Fld := ⟨160 + 64 * k, 16⟩
/-- `ARRAY_CAL` (0x0902), R367 Table 11.10. -/
def ARRAY_CAL : RecDesc where
  id := 0x0902
  count := 2
  len := 48
  readOnly := true
  fields := [
    { at_ := (ARRAY_CAL.GAIN 0), acc := .ro, n := 4, stride := 64, resets := [32768] }]

/-! `ARRAY_STATUS` (0x0903): R367 Table 11.10. -/
def ARRAY_STATUS.ASTATE : Fld := ⟨0, 8⟩
def ARRAY_STATUS.MODE : Fld := ⟨8, 1⟩
def ARRAY_STATUS.CAL_BAD : Fld := ⟨9, 1⟩
def ARRAY_STATUS.PLAUS_LATCHED : Fld := ⟨10, 1⟩
def ARRAY_STATUS.FILL : Fld := ⟨16, 16⟩
def ARRAY_STATUS.OVR_REG : Fld := ⟨32, 32⟩
def ARRAY_STATUS.OVR_INJ : Fld := ⟨64, 32⟩
def ARRAY_STATUS.QUEUE_OVF : Fld := ⟨96, 32⟩
def ARRAY_STATUS.BLOCKED : Fld := ⟨128, 32⟩
def ARRAY_STATUS.PLAUS_CNT : Fld := ⟨160, 32⟩
def ARRAY_STATUS.SAT : Fld := ⟨192, 5⟩
/-- `ARRAY_STATUS` (0x0903), R367 Table 11.10. -/
def ARRAY_STATUS : RecDesc where
  id := 0x0903
  count := 2
  len := 32
  readOnly := true
  fields := []

/-! `PLAUS_CFG` (0x0904): R366 Table 11.9. -/
def PLAUS_CFG.PL_THRESH : Fld := ⟨0, 16⟩
def PLAUS_CFG.PL_COUNT : Fld := ⟨16, 8⟩
/-- `PLAUS_CFG` (0x0904), R366 Table 11.9. -/
def PLAUS_CFG : RecDesc where
  id := 0x0904
  count := 1
  len := 4
  readOnly := false
  fields := [
    { at_ := PLAUS_CFG.PL_THRESH, acc := .rw, resets := [512], range := [(16, 8192)] },
    { at_ := PLAUS_CFG.PL_COUNT, acc := .rw, resets := [3], range := [(1, 16)] }]

/-! `AIN_CFG` (0x0908): R366 Table 11.9. -/
def AIN_CFG.KIND : Fld := ⟨0, 2⟩
def AIN_CFG.INJ : Fld := ⟨2, 1⟩
def AIN_CFG.OWNER : Fld := ⟨16, 16⟩
def AIN_CFG.GAIN : Fld := ⟨32, 32⟩
def AIN_CFG.OFFSET : Fld := ⟨64, 32⟩
def AIN_CFG.R_PU : Fld := ⟨96, 32⟩
def AIN_CFG.FILTER_MS : Fld := ⟨128, 16⟩
def AIN_CFG.PUB_MS : Fld := ⟨144, 16⟩
def AIN_CFG.LO_CODE : Fld := ⟨160, 16⟩
def AIN_CFG.HI_CODE : Fld := ⟨176, 16⟩
/-- `AIN_CFG` (0x0908), R366 Table 11.9. -/
def AIN_CFG : RecDesc where
  id := 0x0908
  count := 64
  len := 24
  readOnly := false
  fields := [
    { at_ := AIN_CFG.KIND, acc := .rw, range := [(0, 2)] },
    { at_ := AIN_CFG.INJ, acc := .rw },
    { at_ := AIN_CFG.OWNER, acc := .rw, resets := [256], range := [(0, 256)] },
    { at_ := AIN_CFG.GAIN, acc := .rw, resets := [65536] },
    { at_ := AIN_CFG.OFFSET, acc := .rw },
    { at_ := AIN_CFG.R_PU, acc := .rw },
    { at_ := AIN_CFG.FILTER_MS, acc := .rw, range := [(0, 60000)] },
    { at_ := AIN_CFG.PUB_MS, acc := .rw, resets := [1000], range := [(250, 10000)] },
    { at_ := AIN_CFG.LO_CODE, acc := .rw, resets := [1024] },
    { at_ := AIN_CFG.HI_CODE, acc := .rw, resets := [64512] }]

/-! `AIN_STATUS` (0x0909): R367 Table 11.10. -/
def AIN_STATUS.STATE : Fld := ⟨0, 8⟩
def AIN_STATUS.CODE : Fld := ⟨16, 16⟩
def AIN_STATUS.VALUE : Fld := ⟨32, 32⟩
def AIN_STATUS.TIME : Fld := ⟨64, 64⟩
/-- `AIN_STATUS` (0x0909), R367 Table 11.10. -/
def AIN_STATUS : RecDesc where
  id := 0x0909
  count := 64
  len := 16
  readOnly := true
  fields := [
    { at_ := AIN_STATUS.VALUE, acc := .ro, resets := [2147483648] }]

/-! `PRS_CFG` (0x0910): R366 Table 11.9. -/
def PRS_CFG.EN : Fld := ⟨0, 1⟩
def PRS_CFG.INVERT : Fld := ⟨1, 1⟩
def PRS_CFG.DEBOUNCE_MS : Fld := ⟨8, 8⟩
def PRS_CFG.OWNER : Fld := ⟨16, 16⟩
def PRS_CFG.STRETCH_S : Fld := ⟨32, 16⟩
/-- `PRS_CFG` (0x0910), R366 Table 11.9. -/
def PRS_CFG : RecDesc where
  id := 0x0910
  count := 32
  len := 8
  readOnly := false
  fields := [
    { at_ := PRS_CFG.EN, acc := .rw },
    { at_ := PRS_CFG.INVERT, acc := .rw },
    { at_ := PRS_CFG.DEBOUNCE_MS, acc := .rw, resets := [50], range := [(1, 255)] },
    { at_ := PRS_CFG.OWNER, acc := .rw, resets := [256], range := [(0, 256)] },
    { at_ := PRS_CFG.STRETCH_S, acc := .rw, range := [(0, 3600)] }]

/-! `PRS_STATUS` (0x0911): R367 Table 11.10. -/
def PRS_STATUS.ACTIVE : Fld := ⟨0, 1⟩
def PRS_STATUS.LEVEL : Fld := ⟨1, 1⟩
def PRS_STATUS.SAT : Fld := ⟨2, 1⟩
def PRS_STATUS.CHANGES : Fld := ⟨32, 32⟩
def PRS_STATUS.SINCE : Fld := ⟨64, 64⟩
/-- `PRS_STATUS` (0x0911), R367 Table 11.10. -/
def PRS_STATUS : RecDesc where
  id := 0x0911
  count := 32
  len := 16
  readOnly := true
  fields := []

/-! `KP_CFG` (0x0918): R366 Table 11.9. -/
def KP_CFG.EN : Fld := ⟨0, 1⟩
def KP_CFG.OWNER : Fld := ⟨16, 16⟩
def KP_CFG.FUNC (k : Nat) : Fld := ⟨32 + 2 * k, 2⟩
def KP_CFG.NUDGE_STEP : Fld := ⟨64, 16⟩
def KP_CFG.NUDGE_HOLD_MIN : Fld := ⟨80, 16⟩
/-- `KP_CFG` (0x0918), R366 Table 11.9. -/
def KP_CFG : RecDesc where
  id := 0x0918
  count := 24
  len := 12
  readOnly := false
  fields := [
    { at_ := KP_CFG.EN, acc := .rw },
    { at_ := KP_CFG.OWNER, acc := .rw, resets := [256], range := [(0, 256)] },
    { at_ := (KP_CFG.FUNC 0), acc := .rw, n := 16, stride := 2 },
    { at_ := KP_CFG.NUDGE_STEP, acc := .rw, resets := [50], range := [(1, 100)] },
    { at_ := KP_CFG.NUDGE_HOLD_MIN, acc := .rw, resets := [120], range := [(0, 1440)] }]

/-! `KP_GLOBAL` (0x0919): R366 Table 11.9. -/
def KP_GLOBAL.DEBOUNCE_MS : Fld := ⟨0, 8⟩
def KP_GLOBAL.STUCK_S : Fld := ⟨16, 16⟩
def KP_GLOBAL.NUDGE_CAP_E : Fld := ⟨32, 16⟩
def KP_GLOBAL.KEYQ_OVF : Fld := ⟨48, 16⟩
/-- `KP_GLOBAL` (0x0919), R366 Table 11.9. -/
def KP_GLOBAL : RecDesc where
  id := 0x0919
  count := 1
  len := 8
  readOnly := false
  fields := [
    { at_ := KP_GLOBAL.DEBOUNCE_MS, acc := .rw, resets := [20], range := [(10, 100)] },
    { at_ := KP_GLOBAL.STUCK_S, acc := .rw, resets := [60], range := [(5, 3600)] },
    { at_ := KP_GLOBAL.NUDGE_CAP_E, acc := .rw, resets := [200], range := [(0, 1000)] },
    { at_ := KP_GLOBAL.KEYQ_OVF, acc := .ro }]

/-! `KP_STATUS` (0x091A): R367 Table 11.10. -/
def KP_STATUS.LINE0 : Fld := ⟨0, 8⟩
def KP_STATUS.LINE1 : Fld := ⟨8, 8⟩
def KP_STATUS.HELD : Fld := ⟨16, 16⟩
def KP_STATUS.OFFSET : Fld := ⟨32, 16⟩
def KP_STATUS.STUCK : Fld := ⟨48, 16⟩
def KP_STATUS.LAST_PRESS : Fld := ⟨64, 64⟩
/-- `KP_STATUS` (0x091A), R367 Table 11.10. -/
def KP_STATUS : RecDesc where
  id := 0x091A
  count := 24
  len := 16
  readOnly := true
  fields := []

/-! `FEED_SRC` (0x0920): R366 Table 11.9. -/
def FEED_SRC.UNIT : Fld := ⟨0, 8⟩
def FEED_SRC.OWNER : Fld := ⟨16, 16⟩
def FEED_SRC.MIN_INTERVAL_MS : Fld := ⟨32, 16⟩
/-- `FEED_SRC` (0x0920), R366 Table 11.9. -/
def FEED_SRC : RecDesc where
  id := 0x0920
  count := 4096
  len := 8
  readOnly := false
  fields := [
    { at_ := FEED_SRC.UNIT, acc := .rw, range := [(0, 6)] },
    { at_ := FEED_SRC.OWNER, acc := .rw, resets := [256], range := [(0, 256)] },
    { at_ := FEED_SRC.MIN_INTERVAL_MS, acc := .rw, resets := [1000], range := [(0, 60000)] }]

/-! `FEED_STATUS` (0x0921): R367 Table 11.10. -/
def FEED_STATUS.TIME : Fld := ⟨0, 64⟩
def FEED_STATUS.VALUE : Fld := ⟨64, 32⟩
def FEED_STATUS.REFUSED : Fld := ⟨96, 16⟩
def FEED_STATUS.SAT : Fld := ⟨112, 1⟩
/-- `FEED_STATUS` (0x0921), R367 Table 11.10. -/
def FEED_STATUS : RecDesc where
  id := 0x0921
  count := 4096
  len := 16
  readOnly := true
  fields := [
    { at_ := FEED_STATUS.VALUE, acc := .ro, resets := [2147483648] }]

/-! `RS485_CFG` (0x0928): R366 Table 11.9. -/
def RS485_CFG.BAUD : Fld := ⟨0, 3⟩
def RS485_CFG.PARITY : Fld := ⟨3, 2⟩
def RS485_CFG.RETRIES : Fld := ⟨8, 8⟩
def RS485_CFG.TIMEOUT_MS : Fld := ⟨16, 16⟩
/-- `RS485_CFG` (0x0928), R366 Table 11.9. -/
def RS485_CFG : RecDesc where
  id := 0x0928
  count := 1
  len := 8
  readOnly := false
  fields := [
    { at_ := RS485_CFG.BAUD, acc := .rw, resets := [1], range := [(0, 4)] },
    { at_ := RS485_CFG.PARITY, acc := .rw, resets := [1], range := [(0, 2)] },
    { at_ := RS485_CFG.RETRIES, acc := .rw, resets := [2], range := [(0, 3)] },
    { at_ := RS485_CFG.TIMEOUT_MS, acc := .rw, resets := [200], range := [(20, 1000)] }]

/-! `METER_CFG` (0x0929): R366 Table 11.9. -/
def METER_CFG.EN : Fld := ⟨0, 1⟩
def METER_CFG.FUNC4 : Fld := ⟨1, 1⟩
def METER_CFG.WORD_ORDER : Fld := ⟨2, 1⟩
def METER_CFG.ADDR : Fld := ⟨8, 8⟩
def METER_CFG.ENERGY_REG : Fld := ⟨16, 16⟩
def METER_CFG.ENERGY_WORDS : Fld := ⟨32, 8⟩
def METER_CFG.ENERGY_EXP : Fld := ⟨40, 8⟩
def METER_CFG.BIND_QTY : Fld := ⟨48, 8⟩
def METER_CFG.BIND_SCALE : Fld := ⟨56, 8⟩
def METER_CFG.BIND_REG : Fld := ⟨64, 16⟩
def METER_CFG.MAX_DELTA_WH : Fld := ⟨96, 32⟩
/-- `METER_CFG` (0x0929), R366 Table 11.9. -/
def METER_CFG : RecDesc where
  id := 0x0929
  count := 32
  len := 16
  readOnly := false
  fields := [
    { at_ := METER_CFG.EN, acc := .rw },
    { at_ := METER_CFG.FUNC4, acc := .rw },
    { at_ := METER_CFG.WORD_ORDER, acc := .rw },
    { at_ := METER_CFG.ADDR, acc := .rw, resets := [1], range := [(1, 247)] },
    { at_ := METER_CFG.ENERGY_REG, acc := .rw },
    { at_ := METER_CFG.ENERGY_WORDS, acc := .rw, resets := [2], range := [(2, 2), (4, 4)] },
    { at_ := METER_CFG.ENERGY_EXP, acc := .rw, resets := [3], range := [(-3, 3)], signed := true },
    { at_ := METER_CFG.BIND_QTY, acc := .rw, range := [(0, 3)] },
    { at_ := METER_CFG.BIND_SCALE, acc := .rw, range := [(-3, 3)], signed := true },
    { at_ := METER_CFG.BIND_REG, acc := .rw },
    { at_ := METER_CFG.MAX_DELTA_WH, acc := .rw, resets := [100000], range := [(1, 4294967295)] }]

/-! `METER_STATUS` (0x092A): R367 Table 11.10. -/
def METER_STATUS.STATE : Fld := ⟨0, 8⟩
def METER_STATUS.EXC : Fld := ⟨8, 8⟩
def METER_STATUS.SAT : Fld := ⟨16, 3⟩
def METER_STATUS.FAIL_CNT : Fld := ⟨32, 32⟩
def METER_STATUS.RAW : Fld := ⟨64, 64⟩
def METER_STATUS.TIME : Fld := ⟨128, 64⟩
def METER_STATUS.CRC_ERR_CNT : Fld := ⟨192, 16⟩
def METER_STATUS.POLL_LATE : Fld := ⟨208, 16⟩
/-- `METER_STATUS` (0x092A), R367 Table 11.10. -/
def METER_STATUS : RecDesc where
  id := 0x092A
  count := 32
  len := 32
  readOnly := true
  fields := []

/-! `FB_INPUT_CFG` (0x0A00): R393 Table 12.7. -/
def FB_INPUT_CFG.MODE : Fld := ⟨0, 2⟩
def FB_INPUT_CFG.FAULT_TRIPS : Fld := ⟨2, 1⟩
def FB_INPUT_CFG.LINE_FAULT_MS : Fld := ⟨16, 16⟩
/-- `FB_INPUT_CFG` (0x0A00), R393 Table 12.7. -/
def FB_INPUT_CFG : RecDesc where
  id := 0x0A00
  count := 4
  len := 4
  readOnly := false
  fields := [
    { at_ := FB_INPUT_CFG.MODE, acc := .rw, range := [(0, 2)] },
    { at_ := FB_INPUT_CFG.FAULT_TRIPS, acc := .rw, resets := [1] },
    { at_ := FB_INPUT_CFG.LINE_FAULT_MS, acc := .rw, resets := [500], range := [(100, 5000)] }]

/-! `FB_FUNC_CFG` (0x0A01): R393 Table 12.8. -/
def FB_FUNC_CFG.LATCH : Fld := ⟨0, 1⟩
def FB_FUNC_CFG.SO_MASK : Fld := ⟨16, 16⟩
def FB_FUNC_CFG.STOP_GROUPS : Fld := ⟨32, 16⟩
def FB_FUNC_CFG.CUT_MASK : Fld := ⟨64, 96⟩
def FB_FUNC_CFG.STOP_PORTS : Fld := ⟨160, 32⟩
/-- `FB_FUNC_CFG` (0x0A01), R393 Table 12.8. -/
def FB_FUNC_CFG : RecDesc where
  id := 0x0A01
  count := 3
  len := 40
  readOnly := false
  fields := [
    { at_ := FB_FUNC_CFG.LATCH, acc := .rw, resets := [1] },
    { at_ := FB_FUNC_CFG.SO_MASK, acc := .rw },
    { at_ := FB_FUNC_CFG.STOP_GROUPS, acc := .rw },
    { at_ := FB_FUNC_CFG.CUT_MASK, acc := .rw },
    { at_ := FB_FUNC_CFG.STOP_PORTS, acc := .ro }]

/-! `FB_OUT_CFG` (0x0A02): R393 Table 12.9. -/
def FB_OUT_CFG.EN : Fld := ⟨0, 1⟩
def FB_OUT_CFG.REQ_SRC : Fld := ⟨1, 1⟩
def FB_OUT_CFG.OPEN_LOAD_EN : Fld := ⟨2, 1⟩
def FB_OUT_CFG.OP_PERIOD_MS : Fld := ⟨16, 16⟩
/-- `FB_OUT_CFG` (0x0A02), R393 Table 12.9. -/
def FB_OUT_CFG : RecDesc where
  id := 0x0A02
  count := 16
  len := 4
  readOnly := false
  fields := [
    { at_ := FB_OUT_CFG.EN, acc := .rw },
    { at_ := FB_OUT_CFG.REQ_SRC, acc := .rw },
    { at_ := FB_OUT_CFG.OPEN_LOAD_EN, acc := .rw, resets := [1] },
    { at_ := FB_OUT_CFG.OP_PERIOD_MS, acc := .rw, resets := [1000], range := [(250, 10000)] }]

/-! `FB_GLOBAL` (0x0A03): R393 Table 12.10. -/
def FB_GLOBAL.DISC_MS : Fld := ⟨0, 16⟩
def FB_GLOBAL.HB_TIMEOUT_MS : Fld := ⟨16, 16⟩
def FB_GLOBAL.RESET_HOLD_MS : Fld := ⟨32, 16⟩
def FB_GLOBAL.WM_STUCK_S : Fld := ⟨48, 16⟩
def FB_GLOBAL.OP_LEN_US : Fld := ⟨64, 16⟩
def FB_GLOBAL.OPEN_LOAD_MA : Fld := ⟨80, 16⟩
/-- `FB_GLOBAL` (0x0A03), R393 Table 12.10. -/
def FB_GLOBAL : RecDesc where
  id := 0x0A03
  count := 1
  len := 16
  readOnly := false
  fields := [
    { at_ := FB_GLOBAL.DISC_MS, acc := .rw, resets := [3000], range := [(500, 30000)] },
    { at_ := FB_GLOBAL.HB_TIMEOUT_MS, acc := .rw, resets := [100], range := [(20, 1000)] },
    { at_ := FB_GLOBAL.RESET_HOLD_MS, acc := .rw, resets := [2000], range := [(500, 10000)] },
    { at_ := FB_GLOBAL.WM_STUCK_S, acc := .rw, resets := [60], range := [(5, 3600)] },
    { at_ := FB_GLOBAL.OP_LEN_US, acc := .rw, resets := [200], range := [(150, 500)] },
    { at_ := FB_GLOBAL.OPEN_LOAD_MA, acc := .rw, resets := [5], range := [(1, 100)] }]

/-! `FB_WARDEN_CFG` (0x0A04): R393 Table 12.11. -/
def FB_WARDEN_CFG.KEY_FUNC (k : Nat) : Fld := ⟨0 + 4 * k, 4⟩
/-- `FB_WARDEN_CFG` (0x0A04), R393 Table 12.11. -/
def FB_WARDEN_CFG : RecDesc where
  id := 0x0A04
  count := 1
  len := 32
  readOnly := false
  fields := [
    { at_ := (FB_WARDEN_CFG.KEY_FUNC 0), acc := .rw, n := 64, stride := 4, range := [(0, 5)] }]

/-! `FB_CONFIG_INFO` (0x0A05): R394 Table 12.12. -/
def FB_CONFIG_INFO.CFG_STATE : Fld := ⟨0, 8⟩
def FB_CONFIG_INFO.CFG_SEQ : Fld := ⟨32, 32⟩
def FB_CONFIG_INFO.CFG_CRC : Fld := ⟨64, 32⟩
/-- `FB_CONFIG_INFO` (0x0A05), R394 Table 12.12. -/
def FB_CONFIG_INFO : RecDesc where
  id := 0x0A05
  count := 1
  len := 16
  readOnly := true
  fields := []

/-! `FB_STATUS` (0x0A06): R394 Table 12.13. -/
def FB_STATUS.IN_CLASS (k : Nat) : Fld := ⟨0 + 8 * k, 8⟩
def FB_STATUS.FUNC_STATE (k : Nat) : Fld := ⟨32 + 8 * k, 8⟩
def FB_STATUS.DISC : Fld := ⟨56, 1⟩
def FB_STATUS.HB_LIVE : Fld := ⟨57, 1⟩
def FB_STATUS.VSAFE_LOW : Fld := ⟨58, 1⟩
def FB_STATUS.FAILSAFE : Fld := ⟨59, 1⟩
def FB_STATUS.SO_ON : Fld := ⟨64, 16⟩
def FB_STATUS.SO_REQ : Fld := ⟨80, 16⟩
def FB_STATUS.SO_PERMIT : Fld := ⟨96, 16⟩
def FB_STATUS.SO_FAULTED : Fld := ⟨112, 16⟩
def FB_STATUS.SO_FAULT (k : Nat) : Fld := ⟨128 + 8 * k, 8⟩
def FB_STATUS.TRIP_CNT : Fld := ⟨256, 32⟩
def FB_STATUS.OP_CNT : Fld := ⟨288, 32⟩
def FB_STATUS.LINE_FAULT_CNT : Fld := ⟨320, 32⟩
def FB_STATUS.LAST_TRIP : Fld := ⟨352, 64⟩
def FB_STATUS.SAT : Fld := ⟨416, 3⟩
def FB_STATUS.EVT_LOST : Fld := ⟨432, 16⟩
/-- `FB_STATUS` (0x0A06), R394 Table 12.13. -/
def FB_STATUS : RecDesc where
  id := 0x0A06
  count := 1
  len := 64
  readOnly := true
  fields := []

/-! `TARIFF` (0x0B00): R404 Table 13.5. -/
def TARIFF.PRICE (k : Nat) : Fld := ⟨0 + 64 * k, 32⟩
def TARIFF.DEMAND_RATE (k : Nat) : Fld := ⟨32 + 64 * k, 32⟩
def TARIFF.DAYS (k : Nat) : Fld := ⟨512 + 32 * k, 8⟩
def TARIFF.BAND (k : Nat) : Fld := ⟨520 + 32 * k, 8⟩
def TARIFF.MINUTE (k : Nat) : Fld := ⟨528 + 32 * k, 16⟩
/-- `TARIFF` (0x0B00), R404 Table 13.5. -/
def TARIFF : RecDesc where
  id := 0x0B00
  count := 1
  len := 192
  readOnly := false
  fields := [
    { at_ := (TARIFF.PRICE 0), acc := .rw, n := 8, stride := 64 },
    { at_ := (TARIFF.DEMAND_RATE 0), acc := .rw, n := 8, stride := 64 },
    { at_ := (TARIFF.DAYS 0), acc := .rw, n := 32, stride := 32 },
    { at_ := (TARIFF.BAND 0), acc := .rw, n := 32, stride := 32, range := [(0, 7)] },
    { at_ := (TARIFF.MINUTE 0), acc := .rw, n := 32, stride := 32, range := [(0, 1439)] }]

/-! `METER_MAP` (0x0B01): R397 Table 13.1. -/
def METER_MAP.KIND : Fld := ⟨0, 2⟩
def METER_MAP.FG_MASK : Fld := ⟨16, 16⟩
def METER_MAP.CH_MASK : Fld := ⟨32, 96⟩
/-- `METER_MAP` (0x0B01), R397 Table 13.1. -/
def METER_MAP : RecDesc where
  id := 0x0B01
  count := 32
  len := 16
  readOnly := false
  fields := [
    { at_ := METER_MAP.KIND, acc := .rw },
    { at_ := METER_MAP.FG_MASK, acc := .rw },
    { at_ := METER_MAP.CH_MASK, acc := .rw }]

/-! `METER_WEIGHTS` (0x0B02): R397 Table 13.2. -/
def METER_WEIGHTS.CH_W (k : Nat) : Fld := ⟨0 + 16 * k, 16⟩
def METER_WEIGHTS.FG_W (k : Nat) : Fld := ⟨1536 + 16 * k, 16⟩
/-- `METER_WEIGHTS` (0x0B02), R397 Table 13.2. -/
def METER_WEIGHTS : RecDesc where
  id := 0x0B02
  count := 1
  len := 224
  readOnly := false
  fields := [
    { at_ := (METER_WEIGHTS.CH_W 0), acc := .rw, n := 96, stride := 16, resets := [100] },
    { at_ := (METER_WEIGHTS.FG_W 0), acc := .rw, n := 16, stride := 16, resets := [100] }]

/-! `METERING_CFG` (0x0B03): R409. -/
def METERING_CFG.INTERVAL : Fld := ⟨0, 2⟩
def METERING_CFG.DAILY_STORE : Fld := ⟨2, 1⟩
def METERING_CFG.STMT_EXPIRY_D : Fld := ⟨16, 16⟩
/-- `METERING_CFG` (0x0B03), R409. -/
def METERING_CFG : RecDesc where
  id := 0x0B03
  count := 1
  len := 8
  readOnly := false
  fields := [
    { at_ := METERING_CFG.INTERVAL, acc := .rw, resets := [1] },
    { at_ := METERING_CFG.DAILY_STORE, acc := .rw, resets := [1] },
    { at_ := METERING_CFG.STMT_EXPIRY_D, acc := .rw, resets := [30], range := [(1, 365)] }]

/-! `PLOT_ENERGY` (0x0B10): R403 Table 13.4. -/
def PLOT_ENERGY.EPOCH : Fld := ⟨0, 32⟩
def PLOT_ENERGY.SAT : Fld := ⟨32, 32⟩
def PLOT_ENERGY.AS_OF : Fld := ⟨64, 64⟩
def PLOT_ENERGY.ENERGY (k : Nat) : Fld := ⟨128 + 64 * k, 64⟩
def PLOT_ENERGY.OUTAGE (k : Nat) : Fld := ⟨1664 + 64 * k, 64⟩
def PLOT_ENERGY.RECOVERED (k : Nat) : Fld := ⟨1856 + 64 * k, 64⟩
/-- `PLOT_ENERGY` (0x0B10), R403 Table 13.4. -/
def PLOT_ENERGY : RecDesc where
  id := 0x0B10
  count := 257
  len := 256
  readOnly := true
  fields := [
    { at_ := PLOT_ENERGY.EPOCH, acc := .ro, resets := [1] }]

/-! `PLOT_DEMAND` (0x0B11): R408 Table 13.6. -/
def PLOT_DEMAND.INT_START : Fld := ⟨0, 64⟩
def PLOT_DEMAND.INT_ACC (k : Nat) : Fld := ⟨64 + 32 * k, 32⟩
def PLOT_DEMAND.INT_FLAGS : Fld := ⟨160, 8⟩
def PLOT_DEMAND.LAST_FLAGS : Fld := ⟨168, 8⟩
def PLOT_DEMAND.LAST_BAND : Fld := ⟨176, 8⟩
def PLOT_DEMAND.LAST_START : Fld := ⟨192, 64⟩
def PLOT_DEMAND.LAST_DEMAND (k : Nat) : Fld := ⟨256 + 32 * k, 32⟩
def PLOT_DEMAND.PEAK (k : Nat) : Fld := ⟨384 + 128 * k, 32⟩
def PLOT_DEMAND.PEAK_TIME (k : Nat) : Fld := ⟨448 + 128 * k, 64⟩
/-- `PLOT_DEMAND` (0x0B11), R408 Table 13.6. -/
def PLOT_DEMAND : RecDesc where
  id := 0x0B11
  count := 257
  len := 432
  readOnly := true
  fields := []

/-! `EPOCH_STATEMENT` (0x0B12): R415 Table 13.9. -/
def EPOCH_STATEMENT.STATE : Fld := ⟨0, 8⟩
def EPOCH_STATEMENT.SIGS : Fld := ⟨8, 2⟩
def EPOCH_STATEMENT.ESTATE_CRED : Fld := ⟨16, 8⟩
def EPOCH_STATEMENT.EPOCH : Fld := ⟨32, 32⟩
def EPOCH_STATEMENT.STMT_SEQ : Fld := ⟨64, 32⟩
def EPOCH_STATEMENT.EPOCH_START : Fld := ⟨128, 64⟩
def EPOCH_STATEMENT.CUT : Fld := ⟨192, 64⟩
def EPOCH_STATEMENT.ENERGY_WH (k : Nat) : Fld := ⟨256 + 64 * k, 64⟩
def EPOCH_STATEMENT.OUTAGE_WH (k : Nat) : Fld := ⟨1792 + 64 * k, 64⟩
def EPOCH_STATEMENT.RECOVERED_WH (k : Nat) : Fld := ⟨1984 + 64 * k, 64⟩
def EPOCH_STATEMENT.PEAK_W (k : Nat) : Fld := ⟨2176 + 32 * k, 32⟩
def EPOCH_STATEMENT.TARIFF_HASH : Fld := ⟨2944, 256⟩
def EPOCH_STATEMENT.SIG_DEV : Fld := ⟨3200, 512⟩
def EPOCH_STATEMENT.SIG_ESTATE : Fld := ⟨3712, 512⟩
def EPOCH_STATEMENT.SIG_PLOT : Fld := ⟨4224, 512⟩
/-- `EPOCH_STATEMENT` (0x0B12), R415 Table 13.9. -/
def EPOCH_STATEMENT : RecDesc where
  id := 0x0B12
  count := 257
  len := 592
  readOnly := true
  fields := []

/-! `METERING_STATUS` (0x0B13): R419. -/
def METERING_STATUS.MSEQ : Fld := ⟨0, 32⟩
def METERING_STATUS.CK_SEQ : Fld := ⟨32, 32⟩
def METERING_STATUS.LAST_TICK : Fld := ⟨64, 64⟩
def METERING_STATUS.FLAGS : Fld := ⟨128, 2⟩
def METERING_STATUS.OUTAGE_REJ_CNT : Fld := ⟨160, 32⟩
def METERING_STATUS.SAT : Fld := ⟨192, 1⟩
/-- `METERING_STATUS` (0x0B13), R419. -/
def METERING_STATUS : RecDesc where
  id := 0x0B13
  count := 1
  len := 32
  readOnly := true
  fields := []

/-! `TIME_REF_MODE` (0x0C00): R445 Table 14.10. -/
def TIME_REF_MODE.MODE : Fld := ⟨0, 1⟩
/-- `TIME_REF_MODE` (0x0C00), R445 Table 14.10. -/
def TIME_REF_MODE : RecDesc where
  id := 0x0C00
  count := 1
  len := 4
  readOnly := false
  fields := [
    { at_ := TIME_REF_MODE.MODE, acc := .rw }]

/-! `TIME_REF_CFG` (0x0C01): R445 Table 14.11. -/
def TIME_REF_CFG.REF_EN : Fld := ⟨0, 3⟩
def TIME_REF_CFG.RETIRE_EN : Fld := ⟨3, 1⟩
def TIME_REF_CFG.PRIO_ETH0 : Fld := ⟨8, 8⟩
def TIME_REF_CFG.PRIO_ETH1 : Fld := ⟨16, 8⟩
def TIME_REF_CFG.PRIO_PPS : Fld := ⟨24, 8⟩
def TIME_REF_CFG.HOLDOVER_S : Fld := ⟨32, 32⟩
def TIME_REF_CFG.JUMP_LIMIT_S : Fld := ⟨64, 32⟩
def TIME_REF_CFG.PPS_TOL_US : Fld := ⟨96, 16⟩
def TIME_REF_CFG.QUAL_SPREAD_US : Fld := ⟨112, 16⟩
def TIME_REF_CFG.SERVO_TC_S : Fld := ⟨128, 16⟩
/-- `TIME_REF_CFG` (0x0C01), R445 Table 14.11. -/
def TIME_REF_CFG : RecDesc where
  id := 0x0C01
  count := 1
  len := 20
  readOnly := false
  fields := [
    { at_ := TIME_REF_CFG.REF_EN, acc := .rw, resets := [7] },
    { at_ := TIME_REF_CFG.RETIRE_EN, acc := .rw, resets := [1] },
    { at_ := TIME_REF_CFG.PRIO_ETH0, acc := .rw, range := [(0, 2)] },
    { at_ := TIME_REF_CFG.PRIO_ETH1, acc := .rw, resets := [1], range := [(0, 2)] },
    { at_ := TIME_REF_CFG.PRIO_PPS, acc := .rw, resets := [2], range := [(0, 2)] },
    { at_ := TIME_REF_CFG.HOLDOVER_S, acc := .rw, resets := [86400], range := [(600, 604800)] },
    { at_ := TIME_REF_CFG.JUMP_LIMIT_S, acc := .rw, resets := [600], range := [(0, 0), (3, 31536000)] },
    { at_ := TIME_REF_CFG.PPS_TOL_US, acc := .rw, resets := [100], range := [(1, 10000)] },
    { at_ := TIME_REF_CFG.QUAL_SPREAD_US, acc := .rw, resets := [50], range := [(1, 10000)] },
    { at_ := TIME_REF_CFG.SERVO_TC_S, acc := .rw, resets := [64], range := [(16, 1024)] }]

/-! `PTP_CFG` (0x0C02): R445 Table 14.12. -/
def PTP_CFG.TRANSPORT : Fld := ⟨0, 2⟩
def PTP_CFG.DOMAIN : Fld := ⟨8, 8⟩
def PTP_CFG.VLAN_ID : Fld := ⟨16, 12⟩
def PTP_CFG.RX_LAT_NS : Fld := ⟨32, 16⟩
def PTP_CFG.TX_LAT_NS : Fld := ⟨48, 16⟩
def PTP_CFG.MAX_CLASS : Fld := ⟨64, 8⟩
def PTP_CFG.UTC_OFS_DEFAULT : Fld := ⟨80, 16⟩
/-- `PTP_CFG` (0x0C02), R445 Table 14.12. -/
def PTP_CFG : RecDesc where
  id := 0x0C02
  count := 2
  len := 16
  readOnly := false
  fields := [
    { at_ := PTP_CFG.TRANSPORT, acc := .rw, range := [(0, 2)] },
    { at_ := PTP_CFG.DOMAIN, acc := .rw, range := [(0, 127)] },
    { at_ := PTP_CFG.VLAN_ID, acc := .rw, range := [(0, 4094)] },
    { at_ := PTP_CFG.RX_LAT_NS, acc := .rw, range := [(0, 2000)] },
    { at_ := PTP_CFG.TX_LAT_NS, acc := .rw, range := [(0, 2000)] },
    { at_ := PTP_CFG.MAX_CLASS, acc := .rw, resets := [248], range := [(6, 255)] },
    { at_ := PTP_CFG.UTC_OFS_DEFAULT, acc := .rw, resets := [37], range := [(0, 255)] }]

/-! `TIME_ZONE` (0x0C03): R445 Table 14.13. -/
def TIME_ZONE.STD_OFS_MIN : Fld := ⟨0, 16⟩
def TIME_ZONE.DST_DELTA_MIN : Fld := ⟨16, 8⟩
def TIME_ZONE.DST_EN : Fld := ⟨24, 1⟩
def TIME_ZONE.S_MONTH : Fld := ⟨32, 8⟩
def TIME_ZONE.S_WEEK : Fld := ⟨40, 8⟩
def TIME_ZONE.S_WDAY : Fld := ⟨48, 8⟩
def TIME_ZONE.E_MONTH : Fld := ⟨56, 8⟩
def TIME_ZONE.E_WEEK : Fld := ⟨64, 8⟩
def TIME_ZONE.E_WDAY : Fld := ⟨72, 8⟩
def TIME_ZONE.S_MIN : Fld := ⟨80, 16⟩
def TIME_ZONE.E_MIN : Fld := ⟨96, 16⟩
/-- `TIME_ZONE` (0x0C03), R445 Table 14.13. -/
def TIME_ZONE : RecDesc where
  id := 0x0C03
  count := 1
  len := 16
  readOnly := false
  fields := [
    { at_ := TIME_ZONE.STD_OFS_MIN, acc := .rw, range := [(-840, 840)], signed := true },
    { at_ := TIME_ZONE.DST_DELTA_MIN, acc := .rw, resets := [60], range := [(0, 120)] },
    { at_ := TIME_ZONE.DST_EN, acc := .rw },
    { at_ := TIME_ZONE.S_MONTH, acc := .rw, resets := [3], range := [(1, 12)] },
    { at_ := TIME_ZONE.S_WEEK, acc := .rw, resets := [5], range := [(1, 5)] },
    { at_ := TIME_ZONE.S_WDAY, acc := .rw, resets := [6], range := [(0, 6)] },
    { at_ := TIME_ZONE.E_MONTH, acc := .rw, resets := [10], range := [(1, 12)] },
    { at_ := TIME_ZONE.E_WEEK, acc := .rw, resets := [5], range := [(1, 5)] },
    { at_ := TIME_ZONE.E_WDAY, acc := .rw, resets := [6], range := [(0, 6)] },
    { at_ := TIME_ZONE.S_MIN, acc := .rw, resets := [120], range := [(0, 1439)] },
    { at_ := TIME_ZONE.E_MIN, acc := .rw, resets := [180], range := [(0, 1439)] }]

/-! `TIME_STATUS` (0x0C04): R446 Table 14.14. -/
def TIME_STATUS.ACTIVE : Fld := ⟨0, 8⟩
def TIME_STATUS.SSTATE : Fld := ⟨8, 8⟩
def TIME_STATUS.CANDIDATE : Fld := ⟨16, 8⟩
def TIME_STATUS.TRUST : Fld := ⟨24, 8⟩
def TIME_STATUS.RTC_VALID : Fld := ⟨32, 1⟩
def TIME_STATUS.RTC_END : Fld := ⟨33, 1⟩
def TIME_STATUS.XTAL_FAIL : Fld := ⟨34, 1⟩
def TIME_STATUS.SLEWING : Fld := ⟨35, 1⟩
def TIME_STATUS.RETIRING : Fld := ⟨36, 1⟩
def TIME_STATUS.CAL_RANGE : Fld := ⟨37, 1⟩
def TIME_STATUS.DST : Fld := ⟨38, 1⟩
def TIME_STATUS.AVAIL : Fld := ⟨40, 4⟩
def TIME_STATUS.UTC_OFS : Fld := ⟨48, 16⟩
def TIME_STATUS.CAL_OFS : Fld := ⟨64, 64⟩
def TIME_STATUS.LAST_LOCK : Fld := ⟨128, 64⟩
def TIME_STATUS.LOCAL_HWM : Fld := ⟨192, 64⟩
def TIME_STATUS.QUAL_MS : Fld := ⟨256, 32⟩
def TIME_STATUS.OFFSET_NS : Fld := ⟨288, 32⟩
def TIME_STATUS.RATE_PPB : Fld := ⟨320, 32⟩
def TIME_STATUS.SWITCH_CNT : Fld := ⟨352, 32⟩
def TIME_STATUS.STEP_CNT : Fld := ⟨384, 32⟩
def TIME_STATUS.SAT : Fld := ⟨416, 2⟩
/-- `TIME_STATUS` (0x0C04), R446 Table 14.14. -/
def TIME_STATUS : RecDesc where
  id := 0x0C04
  count := 1
  len := 56
  readOnly := true
  fields := [
    { at_ := TIME_STATUS.ACTIVE, acc := .ro, resets := [3] },
    { at_ := TIME_STATUS.CANDIDATE, acc := .ro, resets := [255] },
    { at_ := TIME_STATUS.AVAIL, acc := .ro, resets := [8] },
    { at_ := TIME_STATUS.UTC_OFS, acc := .ro, resets := [37] }]

/-! `PTP_STATUS` (0x0C05): R446 Table 14.15. -/
def PTP_STATUS.PSTATE : Fld := ⟨0, 8⟩
def PTP_STATUS.CAUSE : Fld := ⟨8, 8⟩
def PTP_STATUS.GM_CLASS : Fld := ⟨16, 8⟩
def PTP_STATUS.STEPS_REMOVED : Fld := ⟨24, 8⟩
def PTP_STATUS.GM_IDENTITY : Fld := ⟨32, 64⟩
def PTP_STATUS.MASTER_PORT : Fld := ⟨96, 16⟩
def PTP_STATUS.UTC_OFS : Fld := ⟨112, 16⟩
def PTP_STATUS.OFFSET_NS : Fld := ⟨128, 64⟩
def PTP_STATUS.PATH_DELAY_NS : Fld := ⟨192, 32⟩
def PTP_STATUS.SYNC_CNT : Fld := ⟨224, 32⟩
def PTP_STATUS.DELAY_CNT : Fld := ⟨256, 32⟩
def PTP_STATUS.ERR_CNT : Fld := ⟨288, 32⟩
def PTP_STATUS.SAT : Fld := ⟨320, 3⟩
/-- `PTP_STATUS` (0x0C05), R446 Table 14.15. -/
def PTP_STATUS : RecDesc where
  id := 0x0C05
  count := 2
  len := 48
  readOnly := true
  fields := []

/-! `STORE_STATUS` (0x0D00): R469 Table 15.10. -/
def STORE_STATUS.STSTATE : Fld := ⟨0, 8⟩
def STORE_STATUS.BUSY : Fld := ⟨8, 1⟩
def STORE_STATUS.FELL_BACK : Fld := ⟨9, 1⟩
def STORE_STATUS.RAW_LOCKED : Fld := ⟨10, 1⟩
def STORE_STATUS.LOADED_BANK : Fld := ⟨16, 8⟩
def STORE_STATUS.RAW_FAIL : Fld := ⟨24, 8⟩
def STORE_STATUS.SEQ : Fld := ⟨32, 32⟩
def STORE_STATUS.PENDING_CAUSE : Fld := ⟨64, 16⟩
def STORE_STATUS.LAST_CAUSE : Fld := ⟨80, 16⟩
def STORE_STATUS.RING_RETIRED : Fld := ⟨96, 16⟩
def STORE_STATUS.LAST_COMMIT : Fld := ⟨128, 64⟩
def STORE_STATUS.LAST_MARGIN : Fld := ⟨192, 64⟩
def STORE_STATUS.NEXT_MARGIN : Fld := ⟨256, 64⟩
def STORE_STATUS.STORE_CNT : Fld := ⟨320, 32⟩
def STORE_STATUS.WEAK_CNT : Fld := ⟨352, 32⟩
def STORE_STATUS.CE_CNT : Fld := ⟨384, 32⟩
def STORE_STATUS.SAT : Fld := ⟨416, 3⟩
/-- `STORE_STATUS` (0x0D00), R469 Table 15.10. -/
def STORE_STATUS : RecDesc where
  id := 0x0D00
  count := 1
  len := 56
  readOnly := true
  fields := [
    { at_ := STORE_STATUS.LOADED_BANK, acc := .ro, resets := [255] }]

/-! `RAW_WORDS` (0x0D01): R464. -/
def RAW_WORDS.READ_WORD : Fld := ⟨0, 64⟩
def RAW_WORDS.WRITE_WORD : Fld := ⟨64, 64⟩
/-- `RAW_WORDS` (0x0D01), R464. -/
def RAW_WORDS : RecDesc where
  id := 0x0D01
  count := 1
  len := 16
  readOnly := false
  fields := [
    { at_ := RAW_WORDS.READ_WORD, acc := .wo },
    { at_ := RAW_WORDS.WRITE_WORD, acc := .wo }]

/-! `BANK_INFO` (0x0D02): R469 Table 15.11. -/
def BANK_INFO.BSTATE : Fld := ⟨0, 8⟩
def BANK_INFO.ERASE_CNT : Fld := ⟨32, 32⟩
def BANK_INFO.SEQ : Fld := ⟨64, 32⟩
def BANK_INFO.CAUSE : Fld := ⟨96, 16⟩
def BANK_INFO.LAYOUT : Fld := ⟨112, 16⟩
def BANK_INFO.SNAP_TIME : Fld := ⟨128, 64⟩
def BANK_INFO.DATA_CRC : Fld := ⟨192, 32⟩
def BANK_INFO.CLOSE : Fld := ⟨224, 1⟩
def BANK_INFO.FAIL_CNT : Fld := ⟨256, 32⟩
def BANK_INFO.SAT : Fld := ⟨288, 2⟩
/-- `BANK_INFO` (0x0D02), R469 Table 15.11. -/
def BANK_INFO : RecDesc where
  id := 0x0D02
  count := 2
  len := 40
  readOnly := true
  fields := []

/-! `HOLD_RAIL_CFG` (0x0E00): R493 Table 16.10. -/
def HOLD_RAIL_CFG.EN : Fld := ⟨0, 1⟩
def HOLD_RAIL_CFG.PHASE_EN : Fld := ⟨1, 4⟩
def HOLD_RAIL_CFG.V_HOLD : Fld := ⟨16, 16⟩
def HOLD_RAIL_CFG.FSW_KHZ : Fld := ⟨32, 16⟩
def HOLD_RAIL_CFG.RSENSE : Fld := ⟨48, 16⟩
/-- `HOLD_RAIL_CFG` (0x0E00), R493 Table 16.10. -/
def HOLD_RAIL_CFG : RecDesc where
  id := 0x0E00
  count := 1
  len := 8
  readOnly := false
  fields := [
    { at_ := HOLD_RAIL_CFG.EN, acc := .rw, resets := [1] },
    { at_ := HOLD_RAIL_CFG.PHASE_EN, acc := .rw, resets := [15] },
    { at_ := HOLD_RAIL_CFG.V_HOLD, acc := .rw, resets := [240], range := [(120, 280)] },
    { at_ := HOLD_RAIL_CFG.FSW_KHZ, acc := .rw, resets := [500], range := [(250, 1000)] },
    { at_ := HOLD_RAIL_CFG.RSENSE, acc := .rw, resets := [100], range := [(10, 500)] }]

/-! `BUCK_STATUS` (0x0E01): R493 Table 16.11. -/
def BUCK_STATUS.RAIL_STATE : Fld := ⟨0, 8⟩
def BUCK_STATUS.STOP_CAUSE : Fld := ⟨8, 8⟩
def BUCK_STATUS.IN_SERVICE : Fld := ⟨16, 4⟩
def BUCK_STATUS.RETIRED : Fld := ⟨20, 4⟩
def BUCK_STATUS.UV_RUN : Fld := ⟨24, 8⟩
def BUCK_STATUS.VHOLD : Fld := ⟨32, 16⟩
def BUCK_STATUS.I_PHASE (k : Nat) : Fld := ⟨64 + 16 * k, 16⟩
def BUCK_STATUS.RET_CAUSE (k : Nat) : Fld := ⟨128 + 8 * k, 8⟩
def BUCK_STATUS.RETIRE_CNT : Fld := ⟨160, 32⟩
def BUCK_STATUS.STOP_CNT : Fld := ⟨192, 32⟩
def BUCK_STATUS.SAT : Fld := ⟨224, 2⟩
/-- `BUCK_STATUS` (0x0E01), R493 Table 16.11. -/
def BUCK_STATUS : RecDesc where
  id := 0x0E01
  count := 1
  len := 32
  readOnly := true
  fields := []

/-! `AVS_CFG` (0x0E02): R493 Table 16.12. -/
def AVS_CFG.PMBUS_ADDR : Fld := ⟨0, 7⟩
def AVS_CFG.PEC_EN : Fld := ⟨7, 1⟩
def AVS_CFG.TRIM_EN : Fld := ⟨8, 1⟩
def AVS_CFG.SETTLE_US : Fld := ⟨16, 16⟩
def AVS_CFG.TRIM_MAX_MV : Fld := ⟨32, 16⟩
/-- `AVS_CFG` (0x0E02), R493 Table 16.12. -/
def AVS_CFG : RecDesc where
  id := 0x0E02
  count := 1
  len := 8
  readOnly := false
  fields := [
    { at_ := AVS_CFG.PMBUS_ADDR, acc := .rw, resets := [64], range := [(8, 119)] },
    { at_ := AVS_CFG.PEC_EN, acc := .rw, resets := [1] },
    { at_ := AVS_CFG.TRIM_EN, acc := .rw, resets := [1] },
    { at_ := AVS_CFG.SETTLE_US, acc := .rw, resets := [500], range := [(50, 5000)] },
    { at_ := AVS_CFG.TRIM_MAX_MV, acc := .rw, resets := [40], range := [(0, 40)] }]

/-! `SUPPLY_STATUS` (0x0E03): R493 Table 16.13. -/
def SUPPLY_STATUS.VBUS_LOW : Fld := ⟨0, 1⟩
def SUPPLY_STATUS.VBUS_HIGH : Fld := ⟨1, 1⟩
def SUPPLY_STATUS.VBUS_OV : Fld := ⟨2, 1⟩
def SUPPLY_STATUS.PG_CORE : Fld := ⟨3, 1⟩
def SUPPLY_STATUS.AVS_FAULT : Fld := ⟨4, 1⟩
def SUPPLY_STATUS.VCORE_LOW : Fld := ⟨5, 1⟩
def SUPPLY_STATUS.REF_XTAL : Fld := ⟨8, 1⟩
def SUPPLY_STATUS.PLLA_LOCK : Fld := ⟨9, 1⟩
def SUPPLY_STATUS.PLLB_LOCK : Fld := ⟨10, 1⟩
def SUPPLY_STATUS.VBUS : Fld := ⟨16, 16⟩
def SUPPLY_STATUS.VBOOST : Fld := ⟨32, 16⟩
def SUPPLY_STATUS.VCORE_MV : Fld := ⟨48, 16⟩
def SUPPLY_STATUS.VCORE_TARGET : Fld := ⟨64, 16⟩
def SUPPLY_STATUS.TRIM_MV : Fld := ⟨80, 16⟩
def SUPPLY_STATUS.IOUT_MA : Fld := ⟨96, 16⟩
def SUPPLY_STATUS.PF_CNT : Fld := ⟨128, 32⟩
def SUPPLY_STATUS.UNLOCK_CNT : Fld := ⟨160, 32⟩
def SUPPLY_STATUS.PMBUS_ERR_CNT : Fld := ⟨192, 32⟩
def SUPPLY_STATUS.SAT : Fld := ⟨224, 3⟩
/-- `SUPPLY_STATUS` (0x0E03), R493 Table 16.13. -/
def SUPPLY_STATUS : RecDesc where
  id := 0x0E03
  count := 1
  len := 32
  readOnly := true
  fields := []

/-! `THERM_CFG` (0x0E04): R493 Table 16.14. -/
def THERM_CFG.EN : Fld := ⟨0, 1⟩
def THERM_CFG.GUARD : Fld := ⟨1, 1⟩
def THERM_CFG.WARN_C : Fld := ⟨16, 16⟩
def THERM_CFG.SHUT_C : Fld := ⟨32, 16⟩
def THERM_CFG.BETA : Fld := ⟨48, 16⟩
def THERM_CFG.R25 : Fld := ⟨64, 32⟩
/-- `THERM_CFG` (0x0E04), R493 Table 16.14. -/
def THERM_CFG : RecDesc where
  id := 0x0E04
  count := 4
  len := 16
  readOnly := false
  fields := [
    { at_ := THERM_CFG.EN, acc := .rw },
    { at_ := THERM_CFG.GUARD, acc := .rw },
    { at_ := THERM_CFG.WARN_C, acc := .rw, resets := [8500], range := [(0, 12500)], signed := true },
    { at_ := THERM_CFG.SHUT_C, acc := .rw, resets := [10000], range := [(0, 15000)], signed := true },
    { at_ := THERM_CFG.BETA, acc := .rw, resets := [3435], range := [(1000, 10000)] },
    { at_ := THERM_CFG.R25, acc := .rw, resets := [10000], range := [(1000, 1000000)] }]

/-! `THERMAL_STATUS` (0x0E05): R493 Table 16.15. -/
def THERMAL_STATUS.TEMP (k : Nat) : Fld := ⟨0 + 16 * k, 16⟩
def THERMAL_STATUS.SENS_STATE (k : Nat) : Fld := ⟨112 + 8 * k, 8⟩
def THERMAL_STATUS.LEVEL (k : Nat) : Fld := ⟨168 + 8 * k, 8⟩
def THERMAL_STATUS.BAND : Fld := ⟨224, 8⟩
def THERMAL_STATUS.THROTTLE : Fld := ⟨232, 8⟩
def THERMAL_STATUS.SHUTDOWN_CNT : Fld := ⟨256, 32⟩
def THERMAL_STATUS.SAT : Fld := ⟨288, 1⟩
/-- `THERMAL_STATUS` (0x0E05), R493 Table 16.15. -/
def THERMAL_STATUS : RecDesc where
  id := 0x0E05
  count := 1
  len := 40
  readOnly := true
  fields := [
    { at_ := (THERMAL_STATUS.TEMP 0), acc := .ro, n := 7, stride := 16, resets := [32768] }]

/-! `AON_STATUS` (0x0F00): R511 Table 17.11. -/
def AON_STATUS.TIER : Fld := ⟨0, 2⟩
def AON_STATUS.TIER_HOLD : Fld := ⟨2, 1⟩
def AON_STATUS.FAULT_N_LOW : Fld := ⟨3, 1⟩
def AON_STATUS.BOOT_STEP : Fld := ⟨8, 8⟩
def AON_STATUS.FW_OUTCOME : Fld := ⟨16, 8⟩
def AON_STATUS.CORE_TRIES : Fld := ⟨24, 8⟩
def AON_STATUS.LIVE : Fld := ⟨32, 32⟩
def AON_STATUS.LATCH : Fld := ⟨64, 32⟩
def AON_STATUS.CHIP_RESET_CNT : Fld := ⟨96, 32⟩
def AON_STATUS.LAST_RESET : Fld := ⟨128, 64⟩
def AON_STATUS.LAST_RESET_CAUSE : Fld := ⟨192, 32⟩
def AON_STATUS.KEEPER_RESTART_CNT : Fld := ⟨224, 32⟩
def AON_STATUS.BOOT_MS : Fld := ⟨256, 32⟩
def AON_STATUS.SAT : Fld := ⟨288, 2⟩
def AON_STATUS.EARLY_LOST : Fld := ⟨304, 16⟩
/-- `AON_STATUS` (0x0F00), R511 Table 17.11. -/
def AON_STATUS : RecDesc where
  id := 0x0F00
  count := 1
  len := 40
  readOnly := true
  fields := [
    { at_ := AON_STATUS.FAULT_N_LOW, acc := .ro, resets := [1] },
    { at_ := AON_STATUS.FW_OUTCOME, acc := .ro, resets := [255] }]

/-! `AON_FAULT_LOG` (0x0F01): R512. -/
def AON_FAULT_LOG.TIME : Fld := ⟨0, 64⟩
def AON_FAULT_LOG.CAUSE : Fld := ⟨64, 32⟩
def AON_FAULT_LOG.OLD_TIER : Fld := ⟨96, 8⟩
def AON_FAULT_LOG.NEW_TIER : Fld := ⟨104, 8⟩
def AON_FAULT_LOG.BOOT_STEP : Fld := ⟨112, 8⟩
def AON_FAULT_LOG.FW_OUTCOME : Fld := ⟨120, 8⟩
def AON_FAULT_LOG.SEQ : Fld := ⟨128, 32⟩
/-- `AON_FAULT_LOG` (0x0F01), R512. -/
def AON_FAULT_LOG : RecDesc where
  id := 0x0F01
  count := 16
  len := 24
  readOnly := true
  fields := []

/-! `SNAP_CFG` (0x0F02): R516 Table 17.13. -/
def SNAP_CFG.SNAP_IN_EN : Fld := ⟨0, 1⟩
def SNAP_CFG.COUNT : Fld := ⟨8, 8⟩
def SNAP_CFG.EVENTS (k : Nat) : Fld := ⟨32 + 16 * k, 16⟩
/-- `SNAP_CFG` (0x0F02), R516 Table 17.13. -/
def SNAP_CFG : RecDesc where
  id := 0x0F02
  count := 1
  len := 20
  readOnly := false
  fields := [
    { at_ := SNAP_CFG.SNAP_IN_EN, acc := .rw, resets := [1] },
    { at_ := SNAP_CFG.COUNT, acc := .rw, range := [(0, 8)] },
    { at_ := (SNAP_CFG.EVENTS 0), acc := .rw, n := 8, stride := 16 }]

/-! `SNAP_STATUS` (0x0F03): R516 Table 17.13. -/
def SNAP_STATUS.SNAP_STATE : Fld := ⟨0, 1⟩
def SNAP_STATUS.SOURCE : Fld := ⟨8, 3⟩
def SNAP_STATUS.EVENT : Fld := ⟨16, 16⟩
def SNAP_STATUS.SNAP_ID : Fld := ⟨32, 32⟩
def SNAP_STATUS.TIME : Fld := ⟨64, 64⟩
def SNAP_STATUS.MISSED : Fld := ⟨128, 32⟩
def SNAP_STATUS.SAT : Fld := ⟨160, 1⟩
/-- `SNAP_STATUS` (0x0F03), R516 Table 17.13. -/
def SNAP_STATUS : RecDesc where
  id := 0x0F03
  count := 1
  len := 24
  readOnly := true
  fields := []

/-! `FW_SLOT` (0x0F10): R517 Table 17.14. -/
def FW_SLOT.STATE : Fld := ⟨0, 8⟩
def FW_SLOT.ACTIVE : Fld := ⟨8, 1⟩
def FW_SLOT.RUNNING : Fld := ⟨9, 1⟩
def FW_SLOT.STEP_OK : Fld := ⟨10, 1⟩
def FW_SLOT.EPOCH : Fld := ⟨16, 16⟩
def FW_SLOT.BUILD_ID : Fld := ⟨32, 32⟩
def FW_SLOT.SEC_VER : Fld := ⟨64, 16⟩
def FW_SLOT.KEY_ID : Fld := ⟨80, 8⟩
def FW_SLOT.LENGTH : Fld := ⟨96, 32⟩
def FW_SLOT.HASH_HEAD : Fld := ⟨128, 128⟩
/-- `FW_SLOT` (0x0F10), R517 Table 17.14. -/
def FW_SLOT : RecDesc where
  id := 0x0F10
  count := 6
  len := 32
  readOnly := true
  fields := []

/-! `FW_STATUS` (0x0F11): R517 Table 17.14. -/
def FW_STATUS.OUTCOME : Fld := ⟨0, 8⟩
def FW_STATUS.PAIRS : Fld := ⟨8, 3⟩
def FW_STATUS.STAGING : Fld := ⟨16, 8⟩
def FW_STATUS.BUNDLE_STATE : Fld := ⟨24, 8⟩
def FW_STATUS.POLICY (k : Nat) : Fld := ⟨32 + 32 * k, 32⟩
def FW_STATUS.DIR_SEQ : Fld := ⟨128, 32⟩
def FW_STATUS.BUNDLE_SEQ : Fld := ⟨160, 32⟩
def FW_STATUS.POLICY_IN_FORCE : Fld := ⟨192, 1⟩
/-- `FW_STATUS` (0x0F11), R517 Table 17.14. -/
def FW_STATUS : RecDesc where
  id := 0x0F11
  count := 1
  len := 32
  readOnly := true
  fields := [
    { at_ := FW_STATUS.OUTCOME, acc := .ro, resets := [255] },
    { at_ := FW_STATUS.STAGING, acc := .ro, resets := [255] }]

/-- Every record that a chapter assigns (R78), in the order of its number within each group. -/
def allRecords : List RecDesc :=
  [ENDPOINT_CFG, ENDPOINT_STATUS, CRED_ESTATE, CRED_OPERATOR, CRED_FEEDER, PRIVACY_CFG, OCC_GROUP, OCC_AGG] ++
  [SECURITY_STATUS, PLOT_SLOT, ZONE_CFG, ZONE_PARAMS, ZONE_STATE, ZONE_BINDINGS, ZONE_STATUS, TICK_TABLE] ++
  [TERRACE_PERF, TERRACE_STATUS, PERGOLA_STATUS, PLOT_ZONES, PLOT_ISOLATION, PLOT_LIMITS, PLOT_PREFS, PROGRAM_INFO] ++
  [PROGRAM_IMAGE, ZONE_SCHEDULE, ZONE_SCHED_DEF, ZONE_OCC, MODEL_CFG, MODEL_COEF, TUNE_STATUS, OCC_TIMELINE] ++
  [PRESENCE_PROFILE, PLAN_PLANT, PLAN_PREFS, ZONE_PLAN, PLAN_ROUND, FORECAST, FIGHT_CFG, FIGHT_STATUS] ++
  [ACT_MAP, ALLOC_MODE, BUDGET_CFG, BUDGET_STATUS, TARGET_STATUS, CH_CFG, VALVE_TYPE, CH_GLOBAL] ++
  [CH_STATUS, AX_CFG, ENC_CFG, AX_STATUS, ENC_STATUS, FAN_PORT_CFG, FAN_GROUP_CFG, FAN_GLOBAL] ++
  [PURGE_CFG, FAN_PORT_STATUS, FAN_GROUP_STATUS, ARRAY_MODE, ARRAY_CFG, ARRAY_CAL, ARRAY_STATUS, PLAUS_CFG] ++
  [AIN_CFG, AIN_STATUS, PRS_CFG, PRS_STATUS, KP_CFG, KP_GLOBAL, KP_STATUS, FEED_SRC] ++
  [FEED_STATUS, RS485_CFG, METER_CFG, METER_STATUS, FB_INPUT_CFG, FB_FUNC_CFG, FB_OUT_CFG, FB_GLOBAL] ++
  [FB_WARDEN_CFG, FB_CONFIG_INFO, FB_STATUS, TARIFF, METER_MAP, METER_WEIGHTS, METERING_CFG, PLOT_ENERGY] ++
  [PLOT_DEMAND, EPOCH_STATEMENT, METERING_STATUS, TIME_REF_MODE, TIME_REF_CFG, PTP_CFG, TIME_ZONE, TIME_STATUS] ++
  [PTP_STATUS, STORE_STATUS, RAW_WORDS, BANK_INFO, HOLD_RAIL_CFG, BUCK_STATUS, AVS_CFG, SUPPLY_STATUS] ++
  [THERM_CFG, THERMAL_STATUS, AON_STATUS, AON_FAULT_LOG, SNAP_CFG, SNAP_STATUS, FW_SLOT, FW_STATUS]

/-- The record of a number, if a chapter assigns it (R78). -/
def findRecord (id : Nat) : Option RecDesc := allRecords.find? (fun r => r.id == id)


/-! Structures that are not records: the tick table entry and image header layouts are read by their own files. -/

/-! Fields of the `MODEL_LINK` structure. -/
def MODEL_LINK.MSTATE : Fld := ⟨0, 8⟩
def MODEL_LINK.GAINS_OK : Fld := ⟨8, 3⟩
def MODEL_LINK.GAINS_MODEL : Fld := ⟨11, 3⟩
def MODEL_LINK.RELAY_FAM : Fld := ⟨16, 2⟩
def MODEL_LINK.RELAY_HIGH : Fld := ⟨18, 1⟩
def MODEL_LINK.BUMPLESS : Fld := ⟨19, 1⟩
def MODEL_LINK.BUMP_FAM : Fld := ⟨20, 2⟩
def MODEL_LINK.PLAN_OK : Fld := ⟨24, 1⟩
def MODEL_LINK.GAINS (k : Nat) : Fld := ⟨32 + 32 * k, 32⟩
def MODEL_LINK.MEAN_OUT : Fld := ⟨128, 16⟩
def MODEL_LINK.DELAY : Fld := ⟨144, 8⟩
def MODEL_LINK.PUB_SEQ : Fld := ⟨160, 32⟩
def MODEL_LINK.RELAY_HI_LVL : Fld := ⟨192, 16⟩
def MODEL_LINK.RELAY_LO_LVL : Fld := ⟨208, 16⟩
def MODEL_LINK.RELAY_EPS : Fld := ⟨224, 16⟩

/-! Fields of the `PROG_IMG` structure. -/
def PROG_IMG.FORMAT : Fld := ⟨0, 8⟩
def PROG_IMG.STEP_COUNT : Fld := ⟨8, 8⟩
def PROG_IMG.CONST_COUNT : Fld := ⟨16, 8⟩
def PROG_IMG.USER_ID : Fld := ⟨32, 32⟩
def PROG_IMG.CRC : Fld := ⟨64, 32⟩

/-! Fields of the `CKPT` structure. -/
def CKPT.MAGIC : Fld := ⟨0, 32⟩
def CKPT.CK_SEQ : Fld := ⟨32, 32⟩
def CKPT.BASE_MSEQ : Fld := ⟨64, 32⟩
def CKPT.TIME : Fld := ⟨128, 64⟩
def CKPT.RAW (k : Nat) : Fld := ⟨256 + 64 * k, 64⟩
def CKPT.CRC : Fld := ⟨32736, 32⟩

/-! Fields of the `COMMIT_PAGE` structure. -/
def COMMIT_PAGE.MAGIC : Fld := ⟨0, 32⟩
def COMMIT_PAGE.SEQ : Fld := ⟨32, 32⟩
def COMMIT_PAGE.CAUSE : Fld := ⟨64, 16⟩
def COMMIT_PAGE.LAYOUT : Fld := ⟨80, 16⟩
def COMMIT_PAGE.SNAP_TIME : Fld := ⟨128, 64⟩
def COMMIT_PAGE.DATA_CRC : Fld := ⟨192, 32⟩
def COMMIT_PAGE.CLOSE : Fld := ⟨224, 1⟩
def COMMIT_PAGE.REC_CRC : Fld := ⟨2016, 32⟩

/-! Fields of the `IMG_HDR` structure. -/
def IMG_HDR.MAGIC : Fld := ⟨0, 32⟩
def IMG_HDR.IMAGE : Fld := ⟨32, 8⟩
def IMG_HDR.HDR_VER : Fld := ⟨40, 8⟩
def IMG_HDR.KEY_ID : Fld := ⟨48, 8⟩
def IMG_HDR.BUILD_ID : Fld := ⟨64, 32⟩
def IMG_HDR.SEC_VER : Fld := ⟨96, 16⟩
def IMG_HDR.EPOCH : Fld := ⟨112, 16⟩
def IMG_HDR.LENGTH : Fld := ⟨128, 32⟩
def IMG_HDR.STEPS (k : Nat) : Fld := ⟨160 + 8 * k, 8⟩
def IMG_HDR.PEER_COUNT : Fld := ⟨192, 8⟩
def IMG_HDR.PEERS (k : Nat) : Fld := ⟨256 + 64 * k, 64⟩
def IMG_HDR.BODY_HASH : Fld := ⟨1792, 256⟩
def IMG_HDR.SIG : Fld := ⟨2048, 512⟩

end Sys2Proof.Machine
end

