-- ==== Sys2Proof/Machine/State.lean ====
section
/-!
DEFINITION. The state of the block as plain data. Every record of the Genmor command set is one number, its image (R7,
R63), held in `recs`; what the spec gives the machine beside its records has a field of its own. An unlisted entry of a
table reads as the default its accessor names. `pending` is the queue of commands, first in, first out.
-/

namespace Sys2Proof.Machine

/-- Why the block stops with a fault. No rule of the spec stops the block: every malfunction it describes is a state it
goes on from. The one constructor is kept for the interface; nothing raises it. -/
inductive Fault where
  /-- Raised by no command. Safe. -/
  | none_
  deriving DecidableEq, Repr

/-- Why a command is not run. -/
inductive Refusal where
  /-- A row of the table without a meaning yet. Safe. -/
  | notModelled (mnemonic : String)
  /-- A timed row or event that names a unit the chip does not have (Table 0.5); no such step of the part exists. Raised
  by the rows that carry a unit's number. Safe. -/
  | noSuchUnit
  deriving DecidableEq, Repr

/-! ## Host side: sessions, endpoints, handles, fragments, events (R41 to R79, R539) -/

/-- One event in a session's queue, in the form the session receives (R65, R67). -/
structure QEvent where
  code : Nat
  sev : Nat
  source : Nat
  seq : Nat
  time : Nat
  data : List Nat
  deriving DecidableEq, Repr

/-- Who an event may reach (the audience lines R126, R163, R196, R240, R267, R292, R320, R337, R369, R396, R420, R448,
R471, R495, R519 and the masking rule R107). -/
structure Audience where
  estate : Bool := true
  anyOperator : Bool := false
  opMask : Nat := 0
  plot : Option Nat := none
  allPlots : Bool := false
  exceptEndpoint : Option Nat := none
  deriving DecidableEq, Repr

/-- An event as raised: `data` for the owner, `seen` for the estate and operators, `plots` for plots that do not own the
source (R106, R107). -/
structure Event where
  code : Nat
  sev : Nat
  source : Nat
  time : Nat := 0
  data : List Nat := []
  seen : List Nat := []
  plots : List Nat := []
  aud : Audience := {}
  deriving DecidableEq, Repr

/-- A frame that the controller has queued or sent (R42, R65). -/
structure Frame where
  opcode : Nat
  session : Nat
  seq : Nat
  tag : Nat
  cls : Nat
  status : Option Nat
  credits : Nat
  data : List Nat
  addr : Nat := 0
  deriving DecidableEq, Repr

/-- A session index: the open session and what survives it (the generation, R45). -/
structure Session where
  isOpen : Bool := false
  gen : Nat := 0
  ep : Nat := 0
  kind : Nat := 0
  index : Nat := 0
  credGen : Nat := 0
  high : Nat := 0
  window : List Nat := []
  txSeq : Nat := 0
  lastFrame : Nat := 0
  addr : Nat := 0
  keys : Nat := 0
  sub : Option (Nat × Nat) := none
  queue : List QEvent := []
  lost : Nat := 0
  evSeq : Nat := 0
  rekeyHost : Bool := false
  rekeyCtrl : Bool := false
  rawRead : Bool := false
  rawWrite : Bool := false
  deriving DecidableEq, Repr

/-- An endpoint: whether it accepts frames, its refusal queue (R75), the outbound frames of the SPI port (R69), its inbound
buffers, whether a `READ` has begun the first outbound frame, the flags of the SPI `STATUS` operation (R68) and the times of its latest `AUTH_FAIL` replies (R75). -/
structure Endpoint where
  accepting : Bool := true
  refusals : List Frame := []
  out : List Frame := []
  inbound : Nat := 0
  started : Bool := false
  spiFlags : Nat := 0
  authTimes : List Nat := []
  deriving DecidableEq, Repr

/-- What a result handle stands for (R58 to R61). -/
structure Handle where
  gen : Nat := 0
  owner : Option Nat := none
  finished : Bool := false
  status : Nat := 0
  reads : Nat := 0
  rcSat : Bool := false
  progress : Nat := 0xFF
  data : List Nat := []
  deriving DecidableEq, Repr

/-- A fragmented request in assembly (R55, R56). -/
structure Frag where
  ses : Nat
  tag : Nat
  opcode : Nat
  cls : Nat
  bytes : Nat
  last : Nat
  deriving DecidableEq, Repr

/-- A command that holds its slot until something ends (R162, R368): what it waits for, its opcode, and where its reply goes. -/
structure Wait where
  key : Nat
  opcode : Nat
  ep : Nat
  ses : Nat
  hdr : Hdr
  deriving DecidableEq, Repr

/-- A held event (R539): how long it has been held with a subscription open, and which sessions have had it. -/
structure Held where
  ev : Event
  run : Nat := 0
  since : Nat := 0
  given : List Nat := []
  deriving DecidableEq, Repr

/-- The transports, the sessions and the events. `wire` is the model's own field: the frames that have left the pins,
oldest first, each with its endpoint; so are `arpReplies`, the ARP replies and neighbour advertisements sent (the endpoint and
who asked), and `spiRead`, the bytes the last `STATUS` operation clocked out. -/
structure HostSide where
  sessions : List (Nat × Session) := []
  endpoints : List (Nat × Endpoint) := []
  handles : List (Nat × Handle) := []
  frags : List Frag := []
  waits : List Wait := []
  heldFb : List Held := []
  heldChip : List Held := []
  deferred : List Event := []
  wire : List (Nat × Frame) := []
  arpReplies : List (Nat × Nat) := []
  spiRead : List Nat := []
  lastOpFrame : Nat := 0
  ethLink : List (Nat × Bool) := []
  deriving DecidableEq, Repr

/-! ## Principals and secrecy (R80 to R126) -/

/-- What Gatehouse holds for a plot slot beside `PLOT_SLOT`: the enrolment code, the enrolled key and its generation, and
the storage salt (R97 to R102, R115). -/
structure PlotSecret where
  code : Option Nat := none
  key : Option Nat := none
  keyGen : Nat := 0
  salt : Nat := 0
  wiped : Bool := false
  deriving DecidableEq, Repr

/-- An eviction after its `ACCEPTED` (R102): its handle, and its stage: 0 accepted, 1 wiped, 2 wiped before the snapshot of the store
that now runs. -/
structure Evict where
  plot : Nat
  handle : Option Nat
  stage : Nat := 0
  deriving DecidableEq, Repr

/-- A debug unlock after its `ACCEPTED` (R118), with the stages of an eviction and the plots it has evicted. -/
structure Unlock where
  handle : Option Nat
  minutes : Nat
  stage : Nat := 0
  evicted : Nat := 0
  deriving DecidableEq, Repr

/-- Gatehouse's own state. -/
structure Sec where
  serial : Nat := 0
  challenges : List (Nat × Nat × Nat) := []
  plots : List (Nat × PlotSecret) := []
  evicting : List Evict := []
  debugChallenge : Option (Nat × Nat) := none
  unlockOp : Option Unlock := none
  unlockEnd : Option Nat := none
  jtag : Bool := false
  identityBurned : Bool := false
  aggAt : Nat := 0
  occPending : List (Nat × Nat) := []
  deriving DecidableEq, Repr

/-! ## Firebreak (R370 to R396) -/

/-- One copy of the safety configuration in the Firebreak's own non-volatile array (R372). -/
structure FbCopy where
  valid : Bool := false
  seq : Nat := 0
  recs : List (Nat × Nat) := []
  deriving DecidableEq, Repr

/-- What the Firebreak holds beside its records: which inputs have been classed, the warden's trip demands, the time of the
last heartbeat, the last tested switches, the key matrix, the RESET keys whose present press has made its safety reset, and the two
copies of the safety configuration. -/
structure Firebreak where
  classed : List (Nat × Bool) := []
  wardenTrip : Nat := 0
  hbLast : Nat := 0
  lastSwitch : List (Nat × Nat) := []
  keyDown : Nat := 0
  keyPrev : List Nat := []
  keyStuck : Nat := 0
  keyPressed : List (Nat × Nat) := []
  resetDone : Nat := 0
  copyA : FbCopy := {}
  copyB : FbCopy := {}
  committed : Bool := false
  deriving DecidableEq, Repr

/-! ## Start-up, reset and recovery (R496 to R520); power and clocks (R472 to R495) -/

/-- A firmware slot of the QSPI flash (R500 to R502): its bytes as one number, the ranges written while staging, the length
opened, and whether the vendor's signature and the body's hash verify (assumption 3). -/
structure Slot where
  content : Nat := 0
  ranges : List (Nat × Nat) := []
  len : Nat := 0
  staging : Bool := false
  erased : Bool := false
  sigOk : Bool := false
  hashOk : Bool := false
  handle : Option Nat := none
  deriving DecidableEq, Repr

/-- A copy of the directory in QSPI flash (R500). -/
structure DirCopy where
  valid : Bool := false
  seq : Nat := 0
  active : Nat := 0
  deriving DecidableEq, Repr

/-- A copy of the configuration bundle (R505): the images of the records it holds, tick tables and programs included. -/
structure Bundle where
  valid : Bool := false
  seq : Nat := 0
  recs : List (Nat × Nat) := []
  deriving DecidableEq, Repr

/-- A tier hold (R35): which unit restarts (0 Keeper, 1 Gatehouse, 2 both), since when, and the cause (0 lockstep mismatch, 1 watchdog,
2 commanded). -/
structure Hold where
  unit : Nat
  since : Nat
  cause : Nat
  deriving DecidableEq, Repr

/-- The untested-pairing policy kept in the Gatehouse area (R504): the build IDs and the key its signature verifies under. -/
structure Policy where
  kfw : Nat
  zrt : Nat
  ghp : Nat
  key : Nat
  deriving DecidableEq, Repr

/-- A snapshot segment (R513, R514): the record's image and its flags, who owned what it shows and whether it was shown at
non-owner resolution (R515). -/
structure Segment where
  record : Nat
  inst : Nat
  img : Nat
  flags : Nat
  owner : Nat
  hide : Bool
  deriving DecidableEq, Repr

/-- The always-on domain and the start-up sequence: the supplies and clocks as the comparators and detectors see them, the
units of Table 1.8, the restarts under way, the images in QSPI flash and the bundles. Units whose state a record shows
(`PG_CORE`, `PLLA_LOCK`, `PLLB_LOCK`, `REF_XTAL`) are in `SUPPLY_STATUS`. -/
structure Boot where
  vaon : Bool := false
  below : Bool := true
  vbusBelow : Bool := true
  vbusPf : Bool := true
  vbusLow : Bool := true
  vbusHigh : Bool := false
  vbusOv : Bool := false
  fbkOk : Bool := false
  fbReady : Bool := false
  refRun : Bool := false
  xtalMay : Bool := false
  slowDone : Bool := false
  enCore : Bool := false
  enCoreSince : Nat := 0
  coreLowAt : Option Nat := none
  coreWait : Option Nat := none
  coreFails : Nat := 0
  runSince : Nat := 0
  keeper : Bool := false
  gatehouse : Bool := false
  gateTested : Bool := false
  gateTries : Nat := 0
  kfwTries : Nat := 0
  allocUp : Bool := true
  metering : Bool := true
  fabric : Bool := true
  timeUnit : Bool := true
  vddaGood : Bool := false
  vioGood : Bool := false
  shutdown : Bool := false
  coolRounds : Nat := 0
  pfHalt : Bool := false
  resetLow : Bool := false
  resetSince : Nat := 0
  resetStuck : Bool := false
  hold : Option Hold := none
  restarts : List (Nat × Nat) := []
  bootDone : Bool := false
  running : List (Nat × Nat) := []
  slots : List (Nat × Slot) := []
  dirA : DirCopy := {}
  dirB : DirCopy := {}
  bundleA : Bundle := {}
  bundleB : Bundle := {}
  bundleDirty : Option Nat := none
  bundleBroken : Bool := false
  thermLoaded : Bool := false
  policy : Option Policy := none
  segments : List Segment := []
  logSeq : Nat := 0
  fansLoaded : Bool := false
  archiveDue : Bool := true
  secRun : List (Nat × Nat) := []
  uvStops : List Nat := []
  offsetNext : Nat := 0
  offsetRun : List (Nat × Nat) := []
  disagreeRun : List (Nat × Nat) := []
  railAt : Nat := 0
  railLatched : Bool := false
  sensGood : List (Nat × Nat) := []
  coreLow : Nat := 0
  voutMode : Bool := false
  raising : List Nat := []
  firstRaise : Bool := false
  deriving DecidableEq, Repr


/-! ## Time (R421 to R448) -/

/-- What a PTP port knows of the masters it hears and of the exchange in progress (R435, R436). Times are in nanoseconds. -/
structure PtpMaster where
  identity : Nat
  port : Nat
  prio1 : Nat
  cls : Nat
  accuracy : Nat
  variance : Nat
  prio2 : Nat
  gm : Nat
  steps : Nat
  utcOfs : Int
  utcValid : Bool
  announced : Nat
  announceLog : Int
  ptpScale : Bool
  deriving DecidableEq, Repr

structure PtpPort where
  masters : List PtpMaster := []
  lastSync : Option Nat := none
  syncLog : Int := 0
  twoStepSeq : Option (Nat × Int × Int) := none
  t1 : Int := 0
  t2 : Int := 0
  pathDelay : Option Int := none
  delayReqs : List (Nat × Int) := []
  delayLog : Int := 0
  lastReq : Option Nat := none
  unanswered : Nat := 0
  eps : Option Int := none
  delaySeq : Nat := 0
  deriving DecidableEq, Repr

/-- The time unit beside its records; `stepFrom` is the RTC count before a forward step that metering has not yet seen. `up` counts crystal cycles since power-up and is the model's measure of elapsed time;
errors are held in units of 1/64 ns, in which one RTC tick is 1953125. `rates` holds spans of LOCKED operation with the servo rate of
each, newest first (R441); `ptpOut` is the model's own field: the Delay_Req messages sent, each with its port. -/
structure Time where
  up : Nat := 0
  rtc : Nat := 0
  vbak : Bool := false
  lost : Bool := false
  acc : Int := 0
  servo : Int := 0
  freq : Int := 0
  slew : Int := 0
  slewLeft : Int := 0
  epsAt : Option Nat := none
  epsFrom : Nat := 3
  stepAt : Option (Nat × Int) := none
  stepFrom : Option Nat := none
  xtalDead : Bool := false
  dst : List (Nat × Bool) := []
  down : Bool := false
  qualSince : Option Nat := none
  betterSeen : Bool := false
  ppsLast : Option Nat := none
  ppsRtc : Int := 0
  ppsGood : Bool := false
  ppsEps : Option Int := none
  rates : List (Nat × Int) := []
  rateAt : Option Nat := none
  lockedEver : Bool := false
  ptp : List (Nat × PtpPort) := []
  ptpOut : List (Nat × Nat) := []
  localPrev : Option Int := none
  deriving DecidableEq, Repr

/-! ## Zone engines and zone programs (R127 to R197) -/

/-- A sum of samples and their number: the running mean of a quarter-hour (R105). -/
structure Acc where
  sum : Int := 0
  n : Nat := 0
  deriving DecidableEq, Repr

/-- The model link of a context (Table 6.6). -/
structure Link where
  mstate : Nat := 0
  gainsOk : Nat := 0
  gainsModel : Nat := 0
  relayFam : Nat := 3
  relayHigh : Bool := false
  bumpless : Bool := false
  bumpFam : Nat := 0
  planOk : Bool := false
  gains : List (Nat × Nat) := []
  meanOut : Nat := 0
  delay : Nat := 0
  pubSeq : Nat := 0
  hiLvl : Nat := 0
  loLvl : Nat := 0
  eps : Nat := 0
  deriving DecidableEq, Repr

/-- A relay test under way (R208): its family, its start, the switch instants, the extreme of the error in each half with its
instant, and the half now running. Instants are RTC counts. -/
structure Relay where
  fam : Nat
  start : Nat
  begun : Bool := false
  high : Bool := false
  switches : List Nat := []
  extremes : List (Int × Nat) := []
  ext : Int := 0
  extAt : Nat := 0
  idle : Nat := 0
  deriving DecidableEq, Repr

/-- What the identification unit knows of a neighbour entry (R201): since when (RTC ticks) its value has been fresh or not
fresh without a break. -/
structure Neigh where
  fresh : Bool := true
  since : Nat := 0
  deriving DecidableEq, Repr

/-- The estimate and the history of a zone's model in the plan SRAM (Table 6.1): θ and the covariance's upper triangle in
Q16.32, the last two temperatures (newest first), the demand history (newest first), the inputs of the last tick, the fit and excitation accumulators,
the neighbours, the relay results per family, the measured dead time, the time of each family's last gain move, of entry
into HELD and of the last publish, and the running relay test. -/
structure Model where
  theta : List (Nat × Int) := []
  cov : List (Nat × Int) := []
  temps : List Int := []
  demands : List (List Nat) := []
  inputs : List (Option Int) := []
  fit : Int := 0
  exc : List (Nat × Int) := []
  neigh : List (Nat × Neigh) := []
  relayGains : List (Nat × (Nat × Nat)) := []
  dead : Option Nat := none
  moved : List (Nat × Nat) := []
  heldSince : Option Nat := none
  published : Option Nat := none
  test : Option Relay := none
  testDue : Option Nat := none
  deriving DecidableEq, Repr

/-- What a zone owns outside its records: the allocator's copy of its fallback demands and its demand latch (R19, R256), its
thermal estimate with the instant of publication (R174), whether it runs its ZRT program (R152), what the allocator reported
of its ports, the running means of the quarter-hour, the occupancy shares, the offsets of the committed plan, and the
demands summed for the fight arbiter. -/
structure ZoneRt where
  fallback : Nat := 0
  latch : Nat := 0
  link : Link := {}
  model : Model := {}
  est : Int := 0
  estAt : Option Nat := none
  zrt : Bool := false
  appSum : List (Nat × Nat) := []
  appN : Nat := 0
  applied : List (Nat × Nat) := []
  appBad : Nat := 0
  appLim : Nat := 0
  badNow : Nat := 0
  limNow : Nat := 0
  worst : List (Nat × Nat) := []
  acc : List (Nat × Acc) := []
  means : List (Nat × Int) := []
  meanAt : Nat := 0
  occMs : Nat := 0
  valMs : Nat := 0
  lqOcc : Nat := 0
  lqVal : Nat := 0
  offs : List Int := []
  heatSum : Nat := 0
  coolSum : Nat := 0
  fightN : Nat := 0
  deriving DecidableEq, Repr

/-- A ZE with the context it has loaded (Table 4.1, R127, R167): the zone, the RTC time of the execution start, the previous
user of its identification bank, its slots, flags, step pointer and cycle counter, the copies of the loaded regions, the
thermal estimate offered, the events queued, what the `OCC` step found, and how the tick ended. -/
structure Lane where
  zone : Option Nat := none
  bankUser : Option Nat := none
  w : List (Nat × Int) := []
  flags : Nat := 0
  step : Nat := 0
  cycles : Nat := 0
  running : Bool := false
  done : Bool := false
  fault : Nat := 0
  rom : Bool := false
  first : Bool := false
  start : Nat := 0
  startLocal : Int := 0
  loadAt : Nat := 0
  cfg : Nat := 0
  params : Nat := 0
  state : Nat := 0
  binds : List (Int × Nat × Nat) := []
  demand : Nat := 0
  ports : Nat := 0
  link : Link := {}
  coef : List Int := []
  pub : Option Int := none
  events : List Event := []
  occ : Option (Nat × Nat × Nat × Nat) := none
  mupd : Bool := false
  atun : Bool := false
  deriving DecidableEq, Repr

/-- A table load (R136, R137): its handle, the image, and whether it has been validated and is past its commit point. -/
structure TableLoad where
  handle : Option Nat
  img : Nat
  len : Nat
  valid : Bool := false
  committed : Bool := false
  deriving DecidableEq, Repr

/-- A program load between its acceptance and its result (R190). -/
structure ProgLoad where
  handle : Option Nat
  id : Nat
  img : Nat
  len : Nat
  deriving DecidableEq, Repr

/-- A terrace beside its records: the loads under way, the instants of automatic resets (R20), the local engines whose entries
have moved to a spare (R147), the reset under way with its cause and handle, the programs marked bad (R145), the self-tests
left before a commanded return, the clock's target (R482), and the frame of the last window with the instant at which that frame was first seen
(R132). -/
structure Terrace where
  load : Option TableLoad := none
  prog : Option ProgLoad := none
  autoResets : List Nat := []
  moves : List (Nat × Nat) := []
  reset : Option (Nat × Option Nat) := none
  damaged : Nat := 0
  badProgs : List Nat := []
  target : Nat := 0
  relockTo : Nat := 0
  lockedAt : Option Nat := none
  roundQ : Option Nat := none
  iter : Nat := 0
  frame : Nat := 0
  frameAt : Nat := 0
  deriving DecidableEq, Repr

/-- A pergola beside its record: the instants of its counted faults (R20), since when it has passed its self-test, whether its
engines' entries wait for migration, and the cause of its latest fault while `PERGOLA_FAULT` is to be raised. -/
structure Pergola where
  faults : List Nat := []
  passedAt : Option Nat := none
  migrate : Bool := false
  event : Bool := false
  deriving DecidableEq, Repr

/-- A neighbour as the planner takes it in a round (R220, R221): a same-owner planning zone, whose trajectory is exchanged, or
one value for the whole horizon. -/
inductive PlanNb where
  | absent
  | zone (z : Nat)
  | fixed (v : Int)
  deriving DecidableEq, Repr

/-- A zone in a planning round: the inputs captured at Q (R214), the offsets, its trajectory and those received, in 0.01 °C or
Q16.32 as the field says, and how far it has come. -/
structure Plan where
  q : Nat
  coef : List Int
  gn : List Int
  t0 : Int
  heat : List Int
  cool : List Int
  mode1 : List Bool
  lo : List Int
  hi : List Int
  prob : List Nat
  amb : List (Option Int)
  sol : List (Option Int)
  price : List Int
  rate : List Int
  dev : Int
  spMin : Int
  spMax : Int
  comfort : Int
  heatKw : Int
  coolKw : Int
  wHeat : Int
  wCool : Int
  dcEn : Bool
  heatOn : Bool
  coolOn : Bool
  occIn : Bool
  nbs : List PlanNb
  fixed : Bool
  held : Bool
  scen : Nat
  limit : Nat
  off : List Int
  traj : List Int
  recv : List (List Int)
  moved : Bool := true
  iter : Nat := 0
  finished : Bool := false
  late : Bool := false
  cost : Int := 0
  deriving DecidableEq, Repr

/-- A watched pair of the fight arbiter (R224, R225): since when it has fought or not, its episode, and the four offsets in
0.01 K: of the heating zone (heat, cool) and of the cooling zone (heat, cool). -/
structure Fight where
  z : Nat
  n : Nat
  fighting : Bool := false
  since : Nat := 0
  episode : Bool := false
  heater : Nat := 0
  cooler : Nat := 0
  hh : Int := 0
  hc : Int := 0
  ch : Int := 0
  cc : Int := 0
  deriving DecidableEq, Repr

/-- What the learning archive holds of a zone (R229). -/
structure ArchZone where
  owner : Nat
  keyGen : Nat
  link : Link
  model : Model
  recs : List (Nat × Nat)
  deriving DecidableEq, Repr

/-- A copy of the learning archive. -/
structure Archive where
  valid : Bool := false
  seq : Nat := 0
  time : Nat := 0
  zones : List (Nat × ArchZone) := []
  deriving DecidableEq, Repr

/-- The zones, engines, pergolas and terraces, the planner, the arbiter and the learning archive; `updates` are the accepted
readings on their way into the contexts (R129): source kind, index, value, time. -/
structure Zones where
  zone : List (Nat × ZoneRt) := []
  lane : List (Nat × Lane) := []
  terrace : List (Nat × Terrace) := []
  pergola : List (Nat × Pergola) := []
  laneReset : List Nat := []
  plan : List (Nat × Plan) := []
  fights : List Fight := []
  updates : List (Nat × Nat × Int × Nat) := []
  archA : Archive := {}
  archB : Archive := {}
  deriving DecidableEq, Repr

/-! ## Actuation (R241 to R337) -/

/-- A request that waits at the allocator (R254): its order (0 class 0, 1 restore, 2 manual, 3 zone), the class of its command,
the order of receipt, the frame since which it waits, and whether it is a homing. -/
structure Req where
  order : Nat
  cls : Nat := 0
  seq : Nat := 0
  since : Nat := 0
  home : Bool := false
  deriving DecidableEq, Repr

/-- A target as the allocator holds it (R243 to R259): its charge and the kind of charge (1 pull-in, 2 hold, 3 economy hold,
4 move), its waiting request, whether it is to be queued first, shed or refused for lack of boost, the rank of Table 7.2 at the
last boundary, the cycle of a valve (its number, the carry in 1/65536 ms, the sum of the demand over its frames, the frames,
the time open), up to which frame all that is counted, and the frames of opening and closing. `srcSum` holds each source's
demand over the metering tick. -/
structure Tgt where
  charge : Nat := 0
  ckind : Nat := 0
  wait : Option Req := none
  restore : Bool := false
  shed : Bool := false
  refused : Bool := false
  rank : Nat := 6
  hadRank : Bool := false
  dem : Nat := 0
  ton : Nat := 0
  dwell : Bool := false
  cyc : Option Int := none
  carry : Int := 0
  dSum : Nat := 0
  dN : Nat := 0
  openMs : Nat := 0
  closed : Bool := false
  openAt : Nat := 0
  closedAt : Option Nat := none
  accAt : Nat := 0
  msOpen : Nat := 0
  tickOpen : Nat := 0
  tickEst : Nat := 0
  srcSum : List (Nat × Nat) := []
  srcN : Nat := 0
  deriving DecidableEq, Repr

/-- A closure watch in progress (R276, R277): the filtered current and what the window has shown. -/
structure Watch where
  f : Int := 0
  first : Bool := true
  peak : Int := 0
  valley : Int := 0
  tValley : Nat := 0
  top : Int := 0
  deriving DecidableEq, Repr

/-- A valve channel beside its record: a hold-rail pull-in, the valve type as it stood at the pull-in (R287), the start of the boost, the fault and HOT condition that stand under
a force, the watch, the coil's temperature and steady temperature in units of 1/65536 of 0.01 °C and the RTC time of the last
update, the diagnostic's count of passes, the manual mode's end and place in the queue, when the present state and the sense
began, and a trip that waits for the Keeper. -/
structure Chan where
  holdPull : Bool := false
  vtImg : Nat := 0
  boostAt : Nat := 0
  hot : Bool := false
  watch : Option Watch := none
  entry : Option Nat := none
  coilT : Int := 0
  coilSs : Int := 0
  tAt : Nat := 0
  tStarted : Bool := false
  hotReq : Bool := false
  passes : Nat := 0
  diagAt : Nat := 0
  until_ : Option Nat := none
  mseq : Nat := 0
  mcls : Nat := 0
  resetting : Option Nat := none
  senseAt : Nat := 0
  faultAt : Nat := 0
  trip : Nat := 0
  deriving DecidableEq, Repr

/-- A manual request with `WAIT` 0 that has not been judged (R291): its channel, class, place and timeout, and whether a boundary
has carried it on. -/
structure Man0 where
  ch : Nat
  cls : Nat
  seq : Nat
  timeout : Nat
  carried : Bool := false
  deriving DecidableEq, Repr

/-- A damper axis beside its record (R293 to R315): the configuration of the present move, the setpoint of the present target, v_cmd
in 1/1000 counts/s, the speed loop's integral and duty over the denominator `dutyDen`, the instants from which settling, stalling, drift, the move and the homing have run,
the homing's phase (1 toward the stop, 2 away from it after a stall) with the position at its stall and its handle, when a retry is due, the manual
command, the queue place, and when the sense of the pair was fresh. -/
structure Axis where
  cfg : Nat := 0
  sp : Nat := 0
  vcmd : Int := 0
  integ : Int := 0
  duty : Int := 0
  settleAt : Option Nat := none
  stallAt : Option Nat := none
  driftAt : Option Nat := none
  moveAt : Nat := 0
  homePhase : Nat := 0
  homeFrom : Int := 0
  homeAt : Nat := 0
  homeGrant : Bool := false
  handle : Option Nat := none
  retryAt : Option Nat := none
  retry : Bool := false
  corr : Bool := false
  pos : Nat := 0
  until_ : Option Nat := none
  mseq : Nat := 0
  mcls : Nat := 0
  c0 : Bool := false
  c0Deferred : Bool := false
  deriving DecidableEq, Repr

/-- An encoder interface beside its record (R296 to R302): the lines A, B and I as the decoder holds them, their levels now, the
instant of the last accepted edge and of the first edge each ignored line waits on (in 100 ns of the SCAN clock's count), the
instants of recent edge faults, the last two counts with the direction run, the counts of the gate window, the last angle, the
run of amplitude faults, and what `ENC_DIRECTION` last reported. -/
structure Enc where
  levels : Nat := 0
  pins : Nat := 0
  lastEdge : Option Nat := none
  ignored : Nat := 0
  faults : List Nat := []
  lastCount : Option Nat := none
  prevCount : Option Nat := none
  run : Nat := 0
  runDir : Bool := false
  gate : List (Nat × Int) := []
  angle : Option Nat := none
  ampRun : Nat := 0
  ampBad : Bool := false
  dirTold : Option Nat := none
  dirLast : Bool := false
  deriving DecidableEq, Repr

/-- A fan port beside its record (R322 to R327): the accepted falling edges (newest first, 1 µs), the edges of the revolution in
progress, whether the port is FAILED, and the instants (1 µs) from which spin-up, a low speed and a recovered speed have run. -/
structure FanPort where
  edges : List Nat := []
  part : Nat := 0
  failed : Bool := false
  spinAt : Option Nat := none
  lowAt : Option Nat := none
  okAt : Option Nat := none
  deriving DecidableEq, Repr

/-- A fan group beside its record: the demand the allocator delivered, the ramped value, the last output, the manual mode, and
the duty summed over the metering tick under `CURVE` and under every other source, in ms × duty (R325, R326, R336, R399). -/
structure FanGroup where
  dem : Nat := 0
  r : Nat := 0
  out : Nat := 0
  curve : Nat := 0
  other : Nat := 0
  mode : Nat := 0
  duty : Nat := 0
  until_ : Option Nat := none
  deriving DecidableEq, Repr

/-- A purge set in force (R331): when it started, and in which order. -/
structure Purge where
  set : Nat
  at_ : Nat
  order : Nat
  deriving DecidableEq, Repr

/-- The allocator, the channels, axes, encoders and fans beside their records. `frame` counts milliseconds since the allocator
started (R249); `b` and `c` are the effective budget and the reserve, the held tokens are the sum of the charges and the free
tokens are what is left (R251). `lastQ` holds record images at the last quarter-hour, `acc` and `means` the sums and means that
non-owners are shown (R105). The stop mask, the force-off mask and the coil temperatures belong to the always-on domain. -/
structure Act where
  running : Bool := false
  frame : Nat := 0
  b : Nat := 0
  c : Nat := 0
  loaded : Bool := false
  borrow : Bool := false
  estWrite : Bool := false
  tierWrite : Bool := false
  pdLast : Option Nat := none
  pdCode : Option Nat := none
  stopMask : Nat := 0
  forceMask : Nat := 0
  resume : Nat := 0
  release : Nat := 0
  zoneRelease : List Nat := []
  lastShed : Option Nat := none
  bnr : Bool := false
  lowSince : Option Nat := none
  okSince : Option Nat := none
  seq : Nat := 0
  man0 : List Man0 := []
  maps : List (Nat × Nat) := []
  tgt : List (Nat × Tgt) := []
  chan : List (Nat × Chan) := []
  axis : List (Nat × Axis) := []
  enc : List (Nat × Enc) := []
  port : List (Nat × FanPort) := []
  group : List (Nat × FanGroup) := []
  purges : List Purge := []
  purgeSeq : Nat := 0
  fanAuto : Nat := 0
  rot : Nat := 0
  lastQ : List (Nat × Nat) := []
  acc : List (Nat × Acc) := []
  means : List (Nat × Int) := []
  deriving DecidableEq, Repr

/-! ## Sensing (R338 to R369, R541) -/

/-- An entry of a result queue (R347): the word, the input it converts (analogue input n, or 64 + n for PLn) and the RTC time of
its end. -/
structure QRes where
  word : Nat
  src : Nat
  time : Nat
  deriving DecidableEq, Repr

/-- A sequence under way: what its entries convert and which have been converted. -/
structure SeqRun where
  entries : List Nat
  done : Nat := 0
  tag : Nat
  deriving DecidableEq, Repr

/-- A converter array beside its records (R340 to R348): when its domain came up, the running sequences, a pending injected
trigger, the self-calibrations asked for (cause and instant), the running one's cause, the
queue, the tags, the newest PL results, and the overruns not yet reported per kind. -/
structure Arr where
  upAt : Nat := 0
  reg : Option SeqRun := none
  inj : Option SeqRun := none
  injPend : Bool := false
  calDue : List (Nat × Nat) := []
  cal : Option Nat := none
  queue : List QRes := []
  regTag : Nat := 0
  injTag : Nat := 0
  pl : List (Nat × Nat) := []
  ovr : List (Nat × (Nat × Nat)) := []
  deriving DecidableEq, Repr

/-- The plausibility check (R348): its phase (0 watching, 1 calibrating, 2 watching again, 3 latched), the runs of disagreeing
comparisons per PL, the run of agreeing ones, and whether an `ARRAY_RESET` allows the latch to clear. -/
structure Plaus where
  phase : Nat := 0
  runs : List (Nat × Nat) := []
  agree : Nat := 0
  reset : Bool := false
  deriving DecidableEq, Repr

/-- An analogue input (R349): the filtered value, the instant of its last sample, the run of codes inside the window, and whether a
valid value came since the last publication. -/
structure Ain where
  y : Option Int := none
  at_ : Nat := 0
  good : Nat := 0
  fresh : Bool := false
  deriving DecidableEq, Repr

/-- A presence contact (R351): the level being debounced with its number of samples, and the milliseconds of stretch left. -/
structure Prs where
  cand : Option Bool := none
  n : Nat := 0
  stretch : Nat := 0
  deriving DecidableEq, Repr

/-- A ladder line (R352, R353): the class read and its number of samples, the key held, and since when. -/
structure KLine where
  cls : Nat := 8
  n : Nat := 0
  key : Option Nat := none
  since : Nat := 0
  deriving DecidableEq, Repr

/-- A report of a key (R357). -/
structure KeyRep where
  src : Nat
  key : Nat
  kind : Nat
  line : Nat
  time : Nat
  deriving DecidableEq, Repr

/-- A heat meter (R361): the run of missed ticks, whether it is polled in this tick, and whether the tick has a good energy
reading. -/
structure Meter where
  missed : Nat := 0
  due : Bool := false
  good : Bool := false
  deriving DecidableEq, Repr

/-- A Modbus request on the line (R360): its meter, whether it asks for the binding quantity, and the attempts made. -/
structure Poll where
  meter : Nat
  bind : Bool
  tries : Nat := 1
  deriving DecidableEq, Repr

/-- The sensing units beside their records; `kpBad` are the keypads whose bindings have no value since a line fault (R355),
`feedAt` holds when a feeder source last had a value accepted, `pollTick` the metering tick whose polling has started, `after` the
boundary whose step 6 of Table 13.7 waits for the end of its polls. -/
structure Sense where
  arr : List (Nat × Arr) := []
  plaus : Plaus := {}
  ain : List (Nat × Ain) := []
  prs : List (Nat × Prs) := []
  kline : List (Nat × KLine) := []
  keyq : List KeyRep := []
  logs : List (Nat × List (Nat × KeyRep)) := []
  logSeq : List (Nat × Nat) := []
  kpBad : Nat := 0
  feedAt : List (Nat × Nat) := []
  meter : List (Nat × Meter) := []
  todo : List Poll := []
  line : Option Poll := none
  pollTick : Option Nat := none
  after : Option (Nat × Bool) := none
  deriving DecidableEq, Repr

/-! ## Metering (R397 to R420) -/

/-- A demand interval (R406, R407): start, fixed end, flags ([0] `LATE_ENERGY`, [1] `PARTIAL`, [2] `SHORT`), the band of its last
tick, and the accrual in mWh of each party and kind (key 3 × party + kind). -/
structure Interval where
  start : Nat
  fin : Nat
  flags : Nat := 0
  band : Nat := 0
  acc : List (Nat × Int) := []
  deriving DecidableEq, Repr

/-- A meter in the metering unit: the accumulators (key 8 × owner + band), the start of the first tick they cover, the residues per
plot, the last good raw value and its time, and, after an outage, the stored raw value with its time and the stored weight of each
party (R398 to R401, R411). -/
structure MReg where
  acc : List (Nat × Nat) := []
  from_ : Option Nat := none
  res : List (Nat × Nat) := []
  raw : Option (Nat × Nat) := none
  out : Option (Nat × Nat) := none
  oacc : List (Nat × Nat) := []
  deriving DecidableEq, Repr

/-- A checkpoint in the counter ring (Table 13.8): `CK_SEQ`, `BASE_MSEQ`, the quarter-hour, the raw value and time of each meter, and the
increments (key 3 × party + kind). -/
structure Ckpt where
  seq : Nat
  base : Nat
  time : Nat
  raw : List (Nat × (Nat × Nat)) := []
  inc : List (Nat × Nat) := []
  deriving DecidableEq, Repr

/-- The metering unit beside its records: whether it runs, the start of the running tick, the bands of the running and of the last tick, the interval
length in force, the running interval and the one that waits to be settled, the close record's instant f, the meters, the maps and weights in
force, the scheduled cuts with the tariff at the cut, the count of statements, the counters at the last metering store and at a snapshot, and the
`PLOT_ENERGY` images at the last quarter-hour. -/
structure Metering where
  on : Bool := false
  tickAt : Nat := 0
  lastEnd : Nat := 0
  band : Nat := 0
  bandLast : Nat := 0
  len : Nat := 0
  cur : Option Interval := none
  await : Option Interval := none
  close : Option Nat := none
  meters : List (Nat × MReg) := []
  maps : List (Nat × Nat) := []
  weights : Nat := 0
  cuts : List (Nat × Nat) := []
  cutTariff : List (Nat × Nat) := []
  stmtSeq : Nat := 0
  base : List (Nat × Nat) := []
  snapBase : List (Nat × Nat) := []
  lastQ : List (Nat × Nat) := []
  lastQAt : Nat := 0
  deriving DecidableEq, Repr

/-! ## Shadow store (R449 to R471) -/

/-- The areas of the image that are not held as plain bytes: the sealed areas of Table 15.2 as the records, the secrets and
the metering state they hold. -/
structure Sealed where
  recs : List (Nat × Nat) := []
  plots : List (Nat × PlotSecret) := []
  policy : Option Policy := none
  meter : Metering := {}
  deriving DecidableEq, Repr

/-- A journal entry (R459). -/
structure JEntry where
  kind : Nat
  bank : Nat
  eseq : Nat
  seq : Nat
  deriving DecidableEq, Repr

/-- A request to the shadow SRAM and the banks (R450, R453, R460): what a unit asks of the store. The bank is 0 A, 1 B. -/
inductive MemOp where
  | write (addr : Nat) (bytes : List Nat)   -- bytes of the SRAM (R451)
  | snapshot                                -- the snapshot of a store (R453 step 2)
  | commit (bank : Nat)                     -- the snapshot is in the bank (R453 step 4)
  | eraseBank (bank : Nat)
  | load (bank : Nat)                       -- the bank's bytes go to the SRAM (R460)
  | reloadPage (bank page : Nat)            -- one page after a double-bit error (R451)
  | zero                                    -- no valid bank: the SRAM is zero (R460)
  deriving DecidableEq, Repr

/-- The shadow store beside `STORE_STATUS` and `BANK_INFO`: what a running store carries, the `STORE` results waiting, the
background erases, the journal, the counter ring with its next sector (erased, or being erased) and a checkpoint that waits to be
written, and the requests to the memory of this step. -/
structure Store where
  carry : Nat := 0
  snapTime : Nat := 0
  snapClose : Bool := false
  target : Nat := 0
  waiting : List Nat := []
  serving : List Nat := []
  erasing : Option Nat := none
  initSeq : Bool := false
  verifyFails : List (Nat × Nat) := []
  journal : List JEntry := []
  eseq : Nat := 0
  snapSealed : Sealed := {}
  sealedA : Sealed := {}
  sealedB : Sealed := {}
  ring : List (Nat × Ckpt) := []
  ringNext : Nat := 0
  ringErased : Bool := true
  ckWait : Option Ckpt := none
  ops : List MemOp := []
  deriving DecidableEq, Repr

/-! ## The whole machine -/

/-- The shadow SRAM, the snapshot of a running store and the two flash banks as bytes (R449): lists of address and byte in
canonical form, addresses strictly rising and below 0x20000, no entry zero; an unlisted byte reads as zero. -/
structure Mem where
  sram : List Host.Cell := []
  snap : List Host.Cell := []
  bankA : List Host.Cell := []
  bankB : List Host.Cell := []
  deriving DecidableEq, Repr

/-- Everything but the command queue and the shadow memory. `recs` holds the record images (key: number + 0x1_0000 × instance;
unlisted: the reset image), `vers` their `VERSION` (unlisted: 1). `freeIdx` is the model's own counter of free values. -/
structure Chip where
  recs : List (Nat × Nat) := []
  vers : List (Nat × Nat) := []
  freeIdx : Nat := 0
  host : HostSide := {}
  sec : Sec := {}
  fb : Firebreak := {}
  boot : Boot := {}
  store : Store := {}
  zones : Zones := {}
  time : Time := {}
  act : Act := {}
  sense : Sense := {}
  meter : Metering := {}
  deriving DecidableEq, Repr

/-- The block: the queue of waiting commands, the shadow memory, and the rest. -/
structure State where
  pending : List Instr := []
  mem : Mem := {}
  chip : Chip := {}
  deriving DecidableEq, Repr

/-! ## The machine right after reset -/

/-- The place of a record in the plant area (Table 15.3). -/
def plantAddr (r : RecDesc) (inst : Nat) : Option Nat :=
  if r.id = BUDGET_CFG.id then some 0x1A500
  else if r.id = ALLOC_MODE.id then some 0x1A510
  else if r.id = FAN_PORT_CFG.id then some (0x1A600 + 8 * inst)
  else if r.id = FAN_GROUP_CFG.id then some (0x1A700 + 64 * inst)
  else if r.id = FAN_GLOBAL.id then some 0x1AB00
  else if r.id = PURGE_CFG.id then some (0x1AB08 + 16 * inst)
  else none

/-- The records of the plant area with their instances. -/
def plantRecords : List (RecDesc × Nat) :=
  [(BUDGET_CFG, 0), (ALLOC_MODE, 0)] ++ (List.range 32).map (fun i => (FAN_PORT_CFG, i)) ++ (List.range 16).map (fun i => (FAN_GROUP_CFG, i))
    ++ [(FAN_GLOBAL, 0)] ++ (List.range 8).map (fun i => (PURGE_CFG, i))

/-- The bytes of a record at its place in the plant area, as cells; zero bytes are not listed. -/
def plantCells (p : RecDesc × Nat) : List Host.Cell :=
  match plantAddr p.1 p.2 with
  | some a => (List.range p.1.len).filterMap (fun k =>
      let b := p.1.resetImg p.2 / 256 ^ k % 256
      if b = 0 then none else some (a + k, BitVec.ofNat 8 b))
  | none => []

/-- The initial image as parts leave the factory with it in bank A (R460): `LAYOUT` 1, every record of Table 15.3 at its reset
value, every counter zero. -/
def factoryImage : List Host.Cell := (0, 1) :: plantRecords.flatMap plantCells

/-- The block right after reset: the first instant at which VBUS rises on a part in FIELD (R116). No domain is powered, the RTC has
never run, the queue is empty. Bank A holds a committed initial image with `SEQ` 1 and bank B is erased (R460); no firmware is
in flash, no credential is held. Records read as their reset images; values the spec does not give are those of assumption 1. -/
def State.reset : State where
  mem := { bankA := factoryImage }
  chip := {
    recs := [(BANK_INFO.id, BANK_INFO.BSTATE.set 1 (BANK_INFO.SEQ.set 1 (BANK_INFO.LAYOUT.set 1 0)))]
    time := { lost := true } }

end Sys2Proof.Machine
end

