-- ==== Sys2Proof/Machine/Ops.lean ====
section
/-!
DEFINITION. The named operations over the record images, the tables and the free values: every read and write of the
machine's registers goes through them. `upd` is the one place where a record changes and its `VERSION` advances (R63).
-/

namespace Sys2Proof.Machine

/-! ## Record images -/

/-- The key of a record instance in `recs` and `vers`. -/
def recKey (r : RecDesc) (inst : Nat) : Nat := r.id + 0x10000 * inst

/-- The image of a record instance. -/
def Chip.img (c : Chip) (r : RecDesc) (inst : Nat) : Nat := Tab.get (r.resetImg inst) c.recs (recKey r inst)

/-- `VERSION` advances by one and wraps from 0xFFFF_FFFE to 1 (R63). -/
def bumpVersion (v : Nat) : Nat := if v = 0xFFFFFFFE then 1 else v + 1

/-- The `VERSION` of a record instance. It starts at 1 (assumption 1). -/
def Chip.version (c : Chip) (r : RecDesc) (inst : Nat) : Nat := Tab.get 1 c.vers (recKey r inst)

/-- Write an image and advance `VERSION`, whatever the image held. -/
def Chip.putImg (c : Chip) (r : RecDesc) (inst new : Nat) : Chip :=
  { c with
    recs := Tab.set (r.resetImg inst) c.recs (recKey r inst) new
    vers := Tab.set 1 c.vers (recKey r inst) (bumpVersion (c.version r inst)) }

/-- Write an image: a change of at least one bit advances `VERSION`, no change leaves everything as it was (R63). -/
def Chip.setImg (c : Chip) (r : RecDesc) (inst new : Nat) : Chip :=
  if new = c.img r inst then c else c.putImg r inst new

/-- A field of a record instance. -/
def Chip.getF (c : Chip) (r : RecDesc) (inst : Nat) (f : Fld) : Nat := f.get (c.img r inst)

/-- A one-bit field. -/
def Chip.getB (c : Chip) (r : RecDesc) (inst : Nat) (f : Fld) : Bool := c.getF r inst f == 1

/-- A signed field. -/
def Chip.getS (c : Chip) (r : RecDesc) (inst : Nat) (f : Fld) : Int := toSigned f.width (c.getF r inst f)

/-- Assign fields of a record instance, as one change (R15, R63). -/
def Chip.upd (c : Chip) (r : RecDesc) (inst : Nat) (fs : List (Fld × Nat)) : Chip :=
  c.setImg r inst (setFields fs (c.img r inst))

/-- A saturating counter of a record, without a `SAT` bit. -/
def Chip.inc (c : Chip) (r : RecDesc) (inst : Nat) (f : Fld) : Chip :=
  c.upd r inst [(f, satInc f.width (c.getF r inst f))]

/-- Set bit `k` of a mask field. -/
def setBit (m k : Nat) : Nat := m ||| 2 ^ k

/-- Clear bit `k` of a mask. -/
def clearBit (m k : Nat) : Nat := if m.testBit k then m - 2 ^ k else m

/-- Bit `k` of a mask set to a truth value. -/
def putBit (m k : Nat) (b : Bool) : Nat := if b then setBit m k else clearBit m k

/-- The bits of `m` that are not in `n`. -/
def maskOff (m n : Nat) : Nat := m - (m &&& n)

/-- The numbers below `n` whose bit is set in `m`, ascending. -/
def bitsOf (n m : Nat) : List Nat := (List.range n).filter m.testBit

/-- The mask with the bits of a list set. -/
def maskOf (l : List Nat) : Nat := l.foldl setBit 0

/-- A saturating counter with bit `k` of its `SAT` field: the bit is set when the counter reaches its largest value
(assumption 5). -/
def Chip.incSat (c : Chip) (r : RecDesc) (inst : Nat) (f sat : Fld) (k : Nat) : Chip :=
  let v := satInc f.width (c.getF r inst f)
  let s := c.getF r inst sat
  c.upd r inst [(f, v), (sat, if v = 2 ^ f.width - 1 then setBit s k else s)]

/-- Put a record back to its reset image, as a change of the record. -/
def Chip.clearRec (c : Chip) (r : RecDesc) (inst : Nat) : Chip := c.setImg r inst (r.resetImg inst)

/-- The reset image that a key of `recs` stands for. -/
def resetOfKey (key : Nat) : Nat :=
  match findRecord (key % 0x10000) with
  | some r => r.resetImg (key / 0x10000)
  | none => 0

/-- Put a stored image back into its record, as a change of the record (R63). -/
def Chip.restoreRec (c : Chip) (key img : Nat) : Chip :=
  if Tab.get (resetOfKey key) c.recs key = img then c
  else { c with recs := Tab.set (resetOfKey key) c.recs key img,
                vers := Tab.set 1 c.vers key (bumpVersion (Tab.get 1 c.vers key)) }

/-- A change made to every index below `n`, in ascending order. -/
def Chip.each (c : Chip) (n : Nat) (f : Chip → Nat → Chip) : Chip := (List.range n).foldl f c

/-- A change made for every element of a list, in order. -/
def Chip.eachOf {α : Type} (c : Chip) (l : List α) (f : Chip → α → Chip) : Chip := l.foldl f c

/-- A change made only under a condition. -/
def Chip.when (c : Chip) (b : Bool) (f : Chip → Chip) : Chip := if b then f c else c

/-- Insert into a list sorted by a key, after entries with an equal key. -/
def insertOn {α : Type} (key : α → Nat) (x : α) : List α → List α
  | [] => [x]
  | y :: l => if key y ≤ key x then y :: insertOn key x l else x :: y :: l

/-- The list sorted by a key, equal keys in their given order. -/
def sortOn {α : Type} (key : α → Nat) (l : List α) : List α := l.foldl (fun acc x => insertOn key x acc) []

/-! ## Free values and random numbers -/

/-- A free value of `w` bits: the spec leaves it open, or the Gatehouse draws it at random. -/
def Chip.freeVal (c : Chip) (w : Nat) : Nat := Config.free c.freeIdx % 2 ^ w

/-- The counter of free values moves on. -/
def Chip.spend (c : Chip) : Chip := { c with freeIdx := c.freeIdx + 1 }

/-- A quotient whose rounding the spec does not state: exact where the division is, otherwise one of the two neighbouring
integers, left free (assumption 4). -/
def divFree (rule : Nat) (num den : Int) : Int :=
  if den = 0 then Config.unstated rule [num, den]
  else if num % den = 0 then num / den
  else Int.fdiv num den + Config.unstated rule [num, den] % 2

/-- Division rounded half away from zero. -/
def divRound (num : Int) (den : Nat) : Int :=
  if den = 0 then 0
  else if num < 0 then -((2 * (-num) + den) / (2 * den)) else (2 * num + den) / (2 * den)

/-- The 32 bytes of a SHA-256 hash (R89). -/
def sha256 (msg : List Nat) : List Nat := (List.range 32).map (fun k => Config.sha256Byte msg k % 256)

/-- The 64 bytes of a signature under the device identity key (R89). -/
def devSign (msg : List Nat) : List Nat := (List.range 64).map (fun k => Config.signByte msg k % 256)

/-- The value of a byte string, most significant first. -/
def beValue (l : List Nat) : Nat := l.foldl (fun v b => 256 * v + b % 256) 0

/-- A public key lies on the curve P-256: X then Y, 32 bytes each, big-endian (R82, R89; the curve's constants are
FIPS 186's, assumption 3). -/
def onCurve (pub : Nat) : Bool :=
  let p := 0xFFFFFFFF00000001000000000000000000000000FFFFFFFFFFFFFFFFFFFFFFFF
  let b := 0x5AC635D8AA3A93E7B3EBBD55769886BC651D06B0CC53B0F63BCE3C3E27D2604B
  let x := beValue (leBytes 32 pub)
  let y := beValue (leBytes 32 (pub / 2 ^ 256))
  decide (x < p) && decide (y < p) && y * y % p == (x * x * x + (p - 3) * x + b) % p

/-- A signature verifies under a public key (R89, assumption 3). -/
def Sig.verifies (s : Sig) (pub : Nat) : Bool := s.good && s.key == pub

/-! ## Tables of the state -/

def Chip.ses (c : Chip) (i : Nat) : Session := Tab.get {} c.host.sessions i
def Chip.setSes (c : Chip) (i : Nat) (x : Session) : Chip :=
  { c with host.sessions := Tab.set {} c.host.sessions i x }
def Chip.modSes (c : Chip) (i : Nat) (f : Session → Session) : Chip := c.setSes i (f (c.ses i))

def Chip.ep (c : Chip) (e : Nat) : Endpoint := Tab.get {} c.host.endpoints e
def Chip.setEp (c : Chip) (e : Nat) (x : Endpoint) : Chip :=
  { c with host.endpoints := Tab.set {} c.host.endpoints e x }
def Chip.modEp (c : Chip) (e : Nat) (f : Endpoint → Endpoint) : Chip := c.setEp e (f (c.ep e))

def Chip.hnd (c : Chip) (i : Nat) : Handle := Tab.get {} c.host.handles i
def Chip.setHnd (c : Chip) (i : Nat) (x : Handle) : Chip :=
  { c with host.handles := Tab.set {} c.host.handles i x }

def Chip.plotSecret (c : Chip) (p : Nat) : PlotSecret := Tab.get {} c.sec.plots p
def Chip.setPlotSecret (c : Chip) (p : Nat) (x : PlotSecret) : Chip :=
  { c with sec.plots := Tab.set {} c.sec.plots p x }

def Chip.ptp (c : Chip) (p : Nat) : PtpPort := Tab.get {} c.time.ptp p
def Chip.setPtp (c : Chip) (p : Nat) (x : PtpPort) : Chip := { c with time.ptp := Tab.set {} c.time.ptp p x }

def Chip.slot (c : Chip) (k : Nat) : Slot := Tab.get {} c.boot.slots k
def Chip.setSlot (c : Chip) (k : Nat) (x : Slot) : Chip := { c with boot.slots := Tab.set {} c.boot.slots k x }

/-! ## Time, tiers and lifecycle -/

/-- The RTC count (R421). -/
def Chip.now (c : Chip) : Nat := c.time.rtc

/-- Elapsed time in crystal cycles (assumption 7). -/
def Chip.up (c : Chip) : Nat := c.time.up

/-- Ticks that have passed since an instant of `up`. -/
def Chip.since (c : Chip) (t : Nat) : Nat := c.time.up - t

/-- The service tiers from none (0) over Firebreak (1), Survival (2) and Limited (3) to Full (4) (R31, Table 1.8). -/
abbrev Level := Nat
abbrev lvNone : Level := 0
abbrev lvFirebreak : Level := 1
abbrev lvSurvival : Level := 2
abbrev lvLimited : Level := 3
abbrev lvFull : Level := 4

/-- The tier in force: `TIER` of `AON_STATUS`, or none below the Firebreak tier. -/
def Chip.level (c : Chip) : Level := if c.boot.below then lvNone else c.getF AON_STATUS 0 AON_STATUS.TIER + 1

/-- A tier hold of the Keeper (0) or the Gatehouse (1) runs (R35). -/
def Chip.holding (c : Chip) (unit : Nat) : Bool :=
  match c.boot.hold with
  | some h => h.unit == unit || h.unit == 2
  | none => false

/-- Lifecycle codes (Table 3.16). -/
abbrev lcManufacture : Nat := 0
abbrev lcField : Nat := 1
abbrev lcUnlocked : Nat := 2
abbrev lcDecommissioned : Nat := 3

def Chip.lifecycle (c : Chip) : Nat := c.getF SECURITY_STATUS 0 SECURITY_STATUS.LIFECYCLE

/-- `SERVICE_EN` and `SAFE_KEY` after the debounce (R113). -/
def Chip.serviceEn (c : Chip) : Bool := (c.getF SECURITY_STATUS 0 SECURITY_STATUS.PINS).testBit 0
def Chip.safeKey (c : Chip) : Bool := (c.getF SECURITY_STATUS 0 SECURITY_STATUS.PINS).testBit 1

/-- Plot slot states (Table 3.11). -/
abbrev slEmpty : Nat := 0
abbrev slAwaiting : Nat := 1
abbrev slEnrolled : Nat := 2
abbrev slWiping : Nat := 3
abbrev slCodeDead : Nat := 4

def Chip.slotState (c : Chip) (p : Nat) : Nat := c.getF PLOT_SLOT p PLOT_SLOT.STATE

/-- The owner that means the estate (Table 0.4). -/
abbrev estateOwner : Nat := 0x100

/-- The owner of a zone: the plot of `ZONE_CFG`, or the estate (R86). -/
def Chip.zoneOwner (c : Chip) (z : Nat) : Nat := c.getF ZONE_CFG z ZONE_CFG.OWNER

/-- Add a request to the shadow memory (R450, R453). -/
def Chip.memOp (c : Chip) (o : MemOp) : Chip := { c with store.ops := c.store.ops ++ [o] }

/-- A cause of Table 17.7 is present: it is set in `LIVE` and in `LATCH` (R511). -/
def Chip.setCause (c : Chip) (k : Nat) : Chip :=
  c.upd AON_STATUS 0 [(AON_STATUS.LIVE, setBit (c.getF AON_STATUS 0 AON_STATUS.LIVE) k),
    (AON_STATUS.LATCH, setBit (c.getF AON_STATUS 0 AON_STATUS.LATCH) k)]

/-- A cause of Table 17.7 has ended: it clears from `LIVE`. -/
def Chip.endCause (c : Chip) (k : Nat) : Chip :=
  c.upd AON_STATUS 0 [(AON_STATUS.LIVE, clearBit (c.getF AON_STATUS 0 AON_STATUS.LIVE) k)]

/-- A cause set or ended by a condition. -/
def Chip.putCause (c : Chip) (k : Nat) (b : Bool) : Chip := if b then c.setCause k else c.endCause k

end Sys2Proof.Machine
end

