-- ==== Sys2Proof/Machine/RealOps.lean ====
section
/-!
DEFINITION. Exponentials, logarithms, roots and angles: the spec gives these values and states no rounding for them. Each is bounded
on both sides in fixed point, with 96 binary places inside; which of the integers between the bounds the part takes is left free
(assumption 4).
-/

namespace Sys2Proof.Machine

/-- 1.0 with 96 binary places. -/
abbrev one96 : Nat := 2 ^ 96

/-- How far a result of the series below may lie from the true value. -/
abbrev slack96 : Int := 2 ^ 20

/-- A free value from `lo` to `hi`. -/
def within (rule : Nat) (args : List Int) (lo hi : Int) : Int := clampI lo (max lo hi) (Config.unstated rule args)

/-- `x · num / den` rounded up, `den` > 0. -/
def ceilQ (num den : Int) : Int := -(Int.fdiv (-num) den)

/-- e^(−n/d) for `d` > 0: the series at n/(128·d), squared seven times; 0 from 64 on. -/
def expNeg96 (n d : Nat) : Nat :=
  if 64 * d ≤ n then 0
  else
    let x := n * one96 / (128 * d)
    let s := (List.range 24).foldl (fun s k => one96 - x * s / (one96 * (24 - k))) one96
    (List.range 7).foldl (fun s _ => s * s / one96) s

/-- Half of ln((1 + t)/(1 − t)) for |t| ≤ 1/3. -/
def artanh96 (t : Int) : Int :=
  ((List.range 48).foldl (fun (p : Int × Int) k => (p.1 + p.2 / (2 * k + 1 : Nat), p.2 * t / one96 * t / one96)) ((0 : Int), t)).1

/-- ln 2. -/
def ln2 : Int := 2 * artanh96 (one96 / 3 : Nat)

/-- ln(a/b) for positive numbers: the powers of two apart, the rest as an area tangent. -/
def ln96 (a b : Nat) : Int :=
  let j := Nat.log2 a
  let k := Nat.log2 b
  let p : Int := a * 2 ^ k
  let q : Int := b * 2 ^ j
  ((j : Int) - k) * ln2 + 2 * artanh96 ((p - q) * one96 / (p + q))

/-- The integer square root of a number below 2^320. -/
def sqrtFloor (n : Nat) : Nat :=
  (List.range 160).foldl (fun r k => let s := r + 2 ^ (159 - k); if s * s ≤ n then s else r) 0

/-- The arc tangent of `t` from 0 to 1: the angle halved twice, then the series. -/
def atan96 (t : Nat) : Nat :=
  let half := fun (t : Nat) => t * one96 / (one96 + sqrtFloor (one96 * one96 + t * t))
  let u := half (half t)
  4 * ((List.range 32).foldl (fun (p : Int × Int) k =>
    (p.1 + (if k % 2 = 0 then p.2 else -p.2) / (2 * k + 1 : Nat), p.2 * u / one96 * u / one96)) ((0 : Int), (u : Int))).1.toNat

/-- A quarter turn, π/2. -/
def quarter96 : Nat := 2 * atan96 one96

/-- e^(−n/d) with `bits` binary places (R216). Where `d` is not positive the spec gives no value. -/
def expFree (rule : Nat) (n : Nat) (d : Int) (bits : Nat) (args : List Int) : Int :=
  if d ≤ 0 then Config.unstated rule args
  else
    let e : Int := expNeg96 n d.toNat
    let cut : Int := 2 ^ (96 - bits)
    within rule args (max 0 (Int.fdiv (e - slack96) cut)) (min (2 ^ bits) (ceilQ (e + slack96) cut))

/-- What is left of a difference after the exponential decay e^(−n/d) (R279 to R281): between the difference and zero. -/
def decay (rule : Nat) (diff : Int) (n d : Nat) : Int :=
  let e : Int := expNeg96 n d
  let a := diff * (e - slack96)
  let b := diff * (e + slack96)
  let v := if d = 0 then Config.unstated rule [diff, n] else within rule [diff, n, d] (Int.fdiv (min a b) one96) (ceilQ (max a b) one96)
  clampI (min diff 0) (max diff 0) v

/-- The temperature of a thermistor, 1/(1/298.15 + ln(a/b)/β) − 273.15 °C, in units of 1/`unit` °C (R349, R485). Where the formula has
no value the spec gives none. -/
def thermistor (rule : Nat) (a b beta unit : Nat) : Int :=
  if a = 0 ∨ b = 0 ∨ beta = 0 then Config.unstated rule [a, b, beta]
  else
    let l := ln96 a b
    let den := fun (x : Int) => 100 * ((beta : Int) * one96) + 29815 * x
    let num : Int := 29815 * beta * one96 * unit
    if den (l - slack96) ≤ 0 then Config.unstated rule [a, b, beta]
    else within rule [a, b, beta] (Int.fdiv num (den (l + slack96)) + Int.fdiv (-(27315 * unit : Int)) 100)
      (ceilQ num (den (l - slack96)) + ceilQ (-(27315 * unit : Int)) 100)

/-- The angle of a point with sine `s` and cosine `k` in counts, `n` to the turn (R298): the whole counts in it, or one more. -/
def angleOf (s k : Int) (n : Nat) : Nat :=
  let q := if 0 ≤ s ∧ 0 < k then 0 else if 0 < s ∧ k ≤ 0 then 1 else if s ≤ 0 ∧ k < 0 then 2 else 3
  let x := if q % 2 = 0 then s.natAbs else k.natAbs
  let y := if q % 2 = 0 then k.natAbs else s.natAbs
  let a : Int := if y = 0 then 0 else if x ≤ y then atan96 (x * one96 / y) else quarter96 - atan96 (y * one96 / x)
  let m : Int := (n / 4 : Nat)
  let lo := Int.fdiv ((a - slack96) * m) quarter96
  let hi := Int.fdiv ((a + slack96) * m) quarter96 + 1
  (q * (n / 4) + (clampI 0 m (if x = 0 then 0 else within 298 [s, k, n] lo hi)).toNat) % n

/-- `num / (π · √root)` rounded up or down (R208). -/
def overPiRoot (rule : Nat) (num root : Nat) (args : List Int) : Int :=
  if root = 0 then Config.unstated rule args
  else
    let r := sqrtFloor (root * 2 ^ 64)
    within rule args ((num : Int) * 2 ^ 32 * one96 / ((r + 1 : Nat) * (2 * quarter96 + slack96)))
      (ceilQ ((num : Int) * 2 ^ 32 * one96) (r * (2 * quarter96 - slack96)))

/-- −t/ln p for p = w/2^96 between 0 and 1, bounds of p given (R202). `t` in units that the result keeps. -/
def timeConstant (rule : Nat) (t : Nat) (lo hi : Nat) (args : List Int) : Int :=
  if lo = 0 ∨ one96 ≤ hi then Config.unstated rule args
  else
    let a := -(ln96 lo one96) + slack96
    let b := -(ln96 hi one96) - slack96
    if b ≤ 0 then Config.unstated rule args
    else within rule args (Int.fdiv ((t : Int) * one96) a) (ceilQ ((t : Int) * one96) b)

end Sys2Proof.Machine
end

