-- ==== Sys2Proof/Machine/Events.lean ====
section
/-!
DEFINITION. Principals and the events they receive: who a session is (R80, R83, R114), which sessions an event reaches and
in what form (R67, R107), the session queues (R66), the held events (R539), the events of a tier hold (R36), and the
snapshot an armed event triggers (R513, R514).
-/

namespace Sys2Proof.Machine

/-! ## Who a session is -/

/-- The principal behind a session as the Gatehouse judges it for a frame (R80, R83). -/
inductive Who where
  | nobody
  | estate (service : Bool)
  | operator (scope : Nat) (service : Bool)
  | plot (p : Nat)
  | feeder (first count : Nat)
  deriving DecidableEq, Repr

/-- Bits of `SCOPE` (Table 3.4). -/
abbrev scChannels : Nat := 1
abbrev scFans : Nat := 2
abbrev scDiag : Nat := 4
abbrev scTime : Nat := 8
abbrev scFwStage : Nat := 16
abbrev scService : Nat := 32

/-- An operator scope grants one of the bits of a mask. -/
def scopeHas (scope mask : Nat) : Bool := scope &&& mask != 0

/-- Session kinds as held: `KIND` 1 to 5 of Table 3.1. A session opened by an enrolment is a plot session, one opened by a
claim is an estate session (R84, R99). -/
abbrev kEstate : Nat := 1
abbrev kOperator : Nat := 2
abbrev kPlot : Nat := 3
abbrev kFeeder : Nat := 4
abbrev kService : Nat := 5

/-- A credential with the given `VALID` and `EXPIRY` is in use (R83): an `EXPIRY` of 0 means never; with the RTC stopped at
its end a non-zero one is refused (R425). -/
def Chip.credLive (c : Chip) (valid : Bool) (expiry : Nat) : Bool :=
  valid && (expiry == 0 || (decide (c.now < expiry) && decide (c.now < rtcEnd)))

/-- The credential's generation and whether it is in use, for the kind and index of a session. -/
def Chip.credOf (c : Chip) (kind index : Nat) : Nat × Bool :=
  let est := fun i => (c.getF CRED_ESTATE i CRED_ESTATE.GEN, c.getB CRED_ESTATE i CRED_ESTATE.VALID)
  let oper := fun i => (c.getF CRED_OPERATOR i CRED_OPERATOR.GEN,
    c.credLive (c.getB CRED_OPERATOR i CRED_OPERATOR.VALID) (c.getF CRED_OPERATOR i CRED_OPERATOR.EXPIRY))
  if kind = kEstate then est index
  else if kind = kOperator then oper index
  else if kind = kPlot then ((c.plotSecret index).keyGen, c.slotState index == slEnrolled)
  else if kind = kFeeder then (c.getF CRED_FEEDER index CRED_FEEDER.GEN,
    c.credLive (c.getB CRED_FEEDER index CRED_FEEDER.VALID) (c.getF CRED_FEEDER index CRED_FEEDER.EXPIRY))
  else if index < 16 then est index else oper (index - 16)

/-- The session is revoked (R83): its credential's generation has advanced, the credential is no longer in use, or it is a
service session and `SERVICE_EN` is released. A service session of an operator also needs the scope `SERVICE` (R80). -/
def Chip.revoked (c : Chip) (s : Session) : Bool :=
  let g := c.credOf s.kind s.index
  g.1 != s.credGen || !g.2 || (s.kind == kService && (!c.serviceEn ||
    (decide (16 ≤ s.index) && !scopeHas (c.getF CRED_OPERATOR (s.index - 16) CRED_OPERATOR.SCOPE) scService)))

/-- The principal of a session at this moment; a revoked session has none. -/
def Chip.whoOf (c : Chip) (s : Session) : Who :=
  if !s.isOpen || c.revoked s then .nobody
  else if s.kind = kEstate then .estate false
  else if s.kind = kOperator then .operator (c.getF CRED_OPERATOR s.index CRED_OPERATOR.SCOPE) false
  else if s.kind = kPlot then .plot s.index
  else if s.kind = kFeeder then
    .feeder (c.getF CRED_FEEDER s.index CRED_FEEDER.SRC_FIRST) (c.getF CRED_FEEDER s.index CRED_FEEDER.SRC_COUNT)
  else if s.index < 16 then .estate true
  else .operator (c.getF CRED_OPERATOR (s.index - 16) CRED_OPERATOR.SCOPE) true

/-- The session ID of an index (R45). -/
def Chip.sidOf (c : Chip) (i : Nat) : Nat := i + 128 * (c.ses i).gen

/-- The open session indices, ascending. -/
def Chip.openSessions (c : Chip) : List Nat := (List.range 128).filter (fun i => (c.ses i).isOpen)

/-- Some open session has a subscription (R539). -/
def Chip.anySub (c : Chip) : Bool := c.openSessions.any (fun i => (c.ses i).sub.isSome)

/-! ## Audiences -/

/-- To the estate and to operators holding one of the scope bits. -/
def audOps (mask : Nat) : Audience := { opMask := mask }

/-- To the estate alone. -/
def audEstate : Audience := {}

/-- An event whose source is a zone with the given owner (R107): the owning plot in full, the estate and `DIAG` operators
from `SEV` 2; an estate zone's events go to the estate and `DIAG`. -/
def audZone (owner sev : Nat) : Audience :=
  if owner < 256 then { estate := decide (2 ≤ sev), opMask := if 2 ≤ sev then scDiag else 0, plot := some owner }
  else audOps scDiag

/-- Occupancy state events never reach a non-owner (R107): the plot, or the estate for its own zones. -/
def audOwnerOnly (owner : Nat) : Audience :=
  if owner < 256 then { estate := false, plot := some owner } else audEstate

/-! ## Delivery -/

/-- The data of an event in the form a session receives it, or none where R67 shuts the session out. -/
def Chip.eventFor (c : Chip) (s : Session) (ev : Event) : Option (List Nat) :=
  match s.sub with
  | none => none
  | some (mask, minSev) =>
    if !s.isOpen || !mask.testBit (ev.code / 256) || decide (ev.sev < minSev) then none
    else if ev.aud.exceptEndpoint == some s.ep then none
    else match c.whoOf s with
      | .estate _ => if ev.aud.estate then some ev.seen else none
      | .operator sc _ => if ev.aud.anyOperator || scopeHas sc ev.aud.opMask then some ev.seen else none
      | .plot p => if ev.aud.plot == some p then some ev.data else if ev.aud.allPlots then some ev.plots else none
      | _ => none

/-- Queue an event to a session (R66): `EVENT_SEQ` advances for each, also for one discarded by a full queue. -/
def pushEvent (s : Session) (ev : Event) (data : List Nat) : Session :=
  let n := (s.evSeq + 1) % 2 ^ 32
  if s.queue.length < 64 then
    { s with evSeq := n, queue := s.queue ++ [⟨ev.code, ev.sev, ev.source, n, ev.time, data⟩] }
  else { s with evSeq := n, lost := satInc 16 s.lost }

/-- `EVENTS_LOST` takes the entry that has come free (R66, Table 2.6). -/
def pushLost (s : Session) (now : Nat) : Session :=
  if s.lost = 0 ∨ 64 ≤ s.queue.length then s
  else
    let n := (s.evSeq + 1) % 2 ^ 32
    { s with evSeq := n, lost := 0, queue := s.queue ++ [⟨0x0001, 1, 0, n, now, u16 s.lost⟩] }

/-- The time for which held events have been held with a subscription open is brought up to date (R539). -/
def Chip.heldAccount (c : Chip) : Chip :=
  let f := fun (h : Held) => { h with run := if c.anySub then h.run + c.since h.since else h.run, since := c.up }
  { c with host.heldFb := c.host.heldFb.map f, host.heldChip := c.host.heldChip.map f }

/-- Hold an event that reached no session (R539): group 0x0A in the Firebreak's buffer of 32 (R396), all others in the
chip-wide buffer of 64; a full buffer discards and counts. -/
def Chip.holdEvent (c : Chip) (ev : Event) : Chip :=
  let h : Held := { ev := ev, since := c.up }
  if ev.code / 256 = 0x0A then
    if c.host.heldFb.length < 32 then { c with host.heldFb := c.host.heldFb ++ [h] }
    else c.inc FB_STATUS 0 FB_STATUS.EVT_LOST
  else if c.host.heldChip.length < 64 then { c with host.heldChip := c.host.heldChip ++ [h] }
  else c.inc AON_STATUS 0 AON_STATUS.EARLY_LOST

/-- Queue an event to every session it reaches; hold it if it reaches none (R67, R539). -/
def Chip.deliver (c : Chip) (ev : Event) : Chip :=
  let reach := c.openSessions.filter (fun i => (c.eventFor (c.ses i) ev).isSome)
  if reach.isEmpty then c.holdEvent ev
  else c.eachOf reach (fun c i =>
    match c.eventFor (c.ses i) ev with
    | some d => c.modSes i (fun s => pushEvent s ev d)
    | none => c)

/-- An event leaves its source: delivered at once, or kept until a running tier hold ends (R36). -/
def Chip.emit (c : Chip) (ev : Event) : Chip :=
  let ev := { ev with time := c.now }
  if c.boot.hold.isSome then { c with host.deferred := c.host.deferred ++ [ev] } else c.deliver ev

/-- The events of a tier hold are delivered when it ends, oldest first (R36). -/
def Chip.flushDeferred (c : Chip) : Chip :=
  let l := c.host.deferred
  Chip.eachOf { c with host.deferred := [] } l Chip.deliver

/-! ## What is shown at non-owner resolution -/

/-- Instances of the actuation map (R241): channels below 96, axes 96 to 119, fan groups 120 to 135. -/
abbrev axBase : Nat := 96
abbrev fgBase : Nat := 120

/-- The sources of a map entry: zone, port and weight. -/
def srcOf (img k : Nat) : Nat × Nat × Nat :=
  let v := (ACT_MAP.SRC k).get img
  (v % 0x10000, v / 0x10000 % 256, v / 0x1000000)

def mapSources (img : Nat) : List (Nat × Nat × Nat) := (List.range (min 8 (ACT_MAP.SRC_COUNT.get img))).map (srcOf img)

/-- A target has `EN` = 1 and a source in a plot zone (R290, R318). -/
def Chip.plotTarget (c : Chip) (i : Nat) : Bool :=
  c.getB ACT_MAP i ACT_MAP.EN && (mapSources (c.img ACT_MAP i)).any (fun s => decide (s.1 < 1024) && decide (c.zoneOwner s.1 < 256))

/-- A target has a source in a plot zone, whatever its `EN` (R266, R335). -/
def Chip.plotSourced (c : Chip) (i : Nat) : Bool :=
  (mapSources (c.img ACT_MAP i)).any (fun s => decide (s.1 < 1024) && decide (c.zoneOwner s.1 < 256))

/-- Who owns what a record instance shows: a zone's plot or a source's owner, 256 for the estate. -/
def Chip.ownerOf (c : Chip) (r : RecDesc) (i : Nat) : Nat :=
  if r.id = ZONE_STATUS.id then c.zoneOwner i
  else if r.id = AIN_STATUS.id then c.getF AIN_CFG i AIN_CFG.OWNER
  else if r.id = PRS_STATUS.id then c.getF PRS_CFG i PRS_CFG.OWNER
  else if r.id = KP_STATUS.id then c.getF KP_CFG i KP_CFG.OWNER
  else if r.id = FEED_STATUS.id then c.getF FEED_SRC i FEED_SRC.OWNER
  else 256

/-- A target, channel, axis, encoder or fan that a plot's zone drives is shown at non-owner resolution (R266, R290, R318, R335). -/
def Chip.hidden (c : Chip) (r : RecDesc) (i : Nat) : Bool :=
  if r.id = TARGET_STATUS.id then c.plotSourced i
  else if r.id = CH_STATUS.id then c.plotTarget i
  else if r.id = AX_STATUS.id then c.plotTarget (axBase + i)
  else if r.id = ENC_STATUS.id then
    (List.range 24).any (fun a => c.getB AX_CFG a AX_CFG.EN && c.getF AX_CFG a AX_CFG.ENC == i && c.plotTarget (axBase + a))
  else if r.id = FAN_GROUP_STATUS.id then c.plotSourced (fgBase + i)
  else if r.id = FAN_PORT_STATUS.id then
    decide (c.getF FAN_PORT_CFG i FAN_PORT_CFG.GROUP < 16) && c.plotSourced (fgBase + c.getF FAN_PORT_CFG i FAN_PORT_CFG.GROUP)
  else false

/-! ## Snapshot -/

/-- The records of Table 17.12. -/
def snapRecords : List RecDesc :=
  [ENDPOINT_STATUS, ZONE_STATUS, TERRACE_STATUS, PERGOLA_STATUS, BUDGET_STATUS, TARGET_STATUS, CH_STATUS, AX_STATUS,
   ENC_STATUS, FAN_PORT_STATUS, FAN_GROUP_STATUS, ARRAY_STATUS, AIN_STATUS, PRS_STATUS, KP_STATUS, FB_STATUS, TIME_STATUS,
   STORE_STATUS, BUCK_STATUS, SUPPLY_STATUS, THERMAL_STATUS, AON_STATUS]

/-- A terrace is powered down: its state byte reads 2 OUT_OF_SERVICE or 3 OFF (Table 4.8). -/
def Chip.terraceOut (c : Chip) (t : Nat) : Bool := decide (2 ≤ c.getF TERRACE_STATUS t TERRACE_STATUS.TSTATE)

/-- `SFLAGS` of a segment (Table 17.15): [0] latched, [1] off, [2] in reset, [3] clock stopped. A UDP endpoint's domain stands
still while PLL-B is stopped; a terrace out of service is powered down (R26, R513). -/
def Chip.segFlags (c : Chip) (r : RecDesc) (inst : Nat) : Nat :=
  if r.id = ENDPOINT_STATUS.id ∧ 2 ≤ inst ∧ ¬ c.getB SUPPLY_STATUS 0 SUPPLY_STATUS.PLLB_LOCK then 9
  else if (r.id = ZONE_STATUS.id ∧ c.terraceOut (inst / 256)) ∨ (r.id = TERRACE_STATUS.id ∧ c.terraceOut inst)
    ∨ (r.id = PERGOLA_STATUS.id ∧ c.terraceOut (inst / 16)) then 2
  else 1

/-- Latch every segment (R513): a segment that is off latches nothing. -/
def Chip.latchSegments (c : Chip) : List Segment :=
  snapRecords.flatMap (fun r => (List.range r.count).map (fun i =>
    let fl := c.segFlags r i
    ⟨r.id, i, if fl.testBit 0 then c.img r i else 0, fl, c.ownerOf r i, c.hidden r i⟩))

/-- A trigger takes a snapshot in EMPTY; in HELD a trigger from a pin or an event adds one to `MISSED` (R514). Below Limited
no snapshot is taken (R513). `source` is 1 pin, 2 command, 4 event. -/
def Chip.snapTrigger (c : Chip) (source event : Nat) : Chip :=
  if c.level < lvLimited then c
  else if c.getB SNAP_STATUS 0 SNAP_STATUS.SNAP_STATE then
    if source = 2 then c else c.incSat SNAP_STATUS 0 SNAP_STATUS.MISSED SNAP_STATUS.SAT 0
  else
    let id := (c.getF SNAP_STATUS 0 SNAP_STATUS.SNAP_ID + 1) % 2 ^ 32
    let c := { c with boot.segments := c.latchSegments }
    let c := c.upd SNAP_STATUS 0 [(SNAP_STATUS.SNAP_STATE, 1), (SNAP_STATUS.SOURCE, source), (SNAP_STATUS.EVENT, event),
      (SNAP_STATUS.SNAP_ID, id), (SNAP_STATUS.TIME, c.now)]
    let d := u32 id ++ u8 source ++ rsvBytes 3
    c.emit { code := 0x0F04, sev := 0, source := 0, data := d, seen := d, plots := u32 id ++ rsvBytes 4,
             aud := { opMask := scDiag, allPlots := true } }

/-- The event code is armed in `SNAP_CFG` (R513). -/
def Chip.snapArmed (c : Chip) (code : Nat) : Bool :=
  (List.range (c.getF SNAP_CFG 0 SNAP_CFG.COUNT)).any (fun k => c.getF SNAP_CFG 0 (SNAP_CFG.EVENTS k) == code)

/-- Raise an event: every reader it reaches gets it in its own form, and an armed code triggers a snapshot, judged before any
masking (R67, R513). An event that a snapshot's own `SNAPSHOT_TAKEN` would arm finds the snapshot HELD. -/
def Chip.raiseWith (c : Chip) (ev : Event) : Chip :=
  let c := c.emit ev
  let c := if c.snapArmed ev.code then
      let taken := decide (lvLimited ≤ c.level) && !c.getB SNAP_STATUS 0 SNAP_STATUS.SNAP_STATE
      let c := c.snapTrigger 4 ev.code
      if taken && c.snapArmed 0x0F04 then c.incSat SNAP_STATUS 0 SNAP_STATUS.MISSED SNAP_STATUS.SAT 0 else c
    else c
  c

/-- Raise an event that every reader receives in the same form. -/
def Chip.raise (c : Chip) (code sev source : Nat) (data : List Nat) (aud : Audience) : Chip :=
  c.raiseWith { code := code, sev := sev, source := source, data := data, seen := data, aud := aud }

/-- Raise an event whose data non-owners receive masked (R107): `seen` is the masked form. -/
def Chip.raiseMasked (c : Chip) (code sev source : Nat) (data seen : List Nat) (aud : Audience) : Chip :=
  c.raiseWith { code := code, sev := sev, source := source, data := data, seen := seen, aud := aud }

/-- Raise an event of a zone: in full to its plot, masked to the others (R107); an estate zone's event is seen whole. -/
def Chip.raiseZone (c : Chip) (code sev z : Nat) (data masked : List Nat) : Chip :=
  let o := c.zoneOwner z
  c.raiseMasked code sev z data (if o < 256 then masked else data) (audZone o sev)

/-- Queue an event to one session alone, under its subscription and not held (R49). -/
def Chip.raiseTo (c : Chip) (i code sev : Nat) (data : List Nat) : Chip :=
  let s := c.ses i
  match s.sub with
  | some (mask, minSev) =>
    if s.isOpen && mask.testBit (code / 256) && decide (minSev ≤ sev) then
      c.setSes i (pushEvent s { code := code, sev := sev, source := 0, time := c.now } data)
    else c
  | none => c

/-- Queue to a session the held events it may receive and has not had, oldest first (R539). -/
def Chip.giveHeld (c : Chip) (i : Nat) : Chip :=
  let sid := c.sidOf i
  let give := fun (h : Held) => !h.given.contains sid && (c.eventFor (c.ses i) h.ev).isSome
  let evs := ((c.host.heldFb ++ c.host.heldChip).filter give).map Held.ev
  let evs := sortOn Event.time evs
  let mark := fun (h : Held) => if give h then { h with given := h.given ++ [sid] } else h
  let c := c.eachOf evs (fun c ev =>
    match c.eventFor (c.ses i) ev with
    | some d => c.modSes i (fun s => pushEvent s ev d)
    | none => c)
  { c with host.heldFb := c.host.heldFb.map mark, host.heldChip := c.host.heldChip.map mark }

end Sys2Proof.Machine
end

