-- ==== Sys2Proof/Machine/Ingress.lean ====
section
/-!
DEFINITION. The path of a command frame (R41 to R61, R75): the checks of Table 2.10 in their order, slots and credits,
fragments, replies and the refusal queue, result handles, and the closing of a session. Every host command is one call of
`command` with its row of the opcode tables and its own checks and effect.
-/

namespace Sys2Proof.Machine

/-! ## Status codes (Table 2.9) -/

abbrev stOk : Nat := 0x00
abbrev stAccepted : Nat := 0x01
abbrev stPending : Nat := 0x02
abbrev stBadOpcode : Nat := 0x10
abbrev stBadLength : Nat := 0x11
abbrev stBadParam : Nat := 0x12
abbrev stBadState : Nat := 0x13
abbrev stDenied : Nat := 0x20
abbrev stAuthFail : Nat := 0x21
abbrev stReplay : Nat := 0x22
abbrev stBusy : Nat := 0x30
abbrev stNoCredit : Nat := 0x31
abbrev stStale : Nat := 0x32
abbrev stBudget : Nat := 0x33
abbrev stLimited : Nat := 0x40
abbrev stSafetyLock : Nat := 0x41
abbrev stHwFault : Nat := 0x50
abbrev stTierDown : Nat := 0x51

/-- The session index that stands for session 0. -/
abbrev session0 : Nat := 128

/-- A command of the opcode tables: its opcode, its classes, whether session 0 may send it, which principals may ever issue
it (step 11), its lengths (step 12), and the least tier that gives its function (step 13). -/
structure CmdSpec where
  opcode : Nat
  classes : List Nat
  inSession0 : Bool := false
  who : Who → Bool
  len : Nat → Bool
  level : Level := lvLimited

/-- What a command is told of its frame once it is admitted. -/
structure Ctx where
  ep : Nat
  si : Nat
  who : Who
  h : Hdr

/-- What a command answers: its status, the bytes after the status header, and what it does once the reply is queued. -/
structure Res where
  chip : Chip
  status : Nat := stOk
  data : List Nat := []
  post : Chip → Chip := id
  held : Bool := false

/-! ## Counters of an endpoint -/

/-- The counters of `ENDPOINT_STATUS` in the order of their `SAT` bits (R73). -/
abbrev cntIn : Nat := 0
abbrev cntOut : Nat := 1
abbrev cntAuth : Nat := 2
abbrev cntReplay : Nat := 3
abbrev cntCredit : Nat := 4
abbrev cntFraming : Nat := 5
abbrev cntDrop : Nat := 6

def epCounter (k : Nat) : Fld := ⟨32 + 32 * k, 32⟩

def Chip.epCount (c : Chip) (e k : Nat) : Chip :=
  c.incSat ENDPOINT_STATUS e (epCounter k) ENDPOINT_STATUS.SAT k

/-! ## Slots (R51 to R53) -/

/-- A fragment assembly, and a command whose reply waits, hold a general slot of their session's endpoint (R51, R55). -/
def Chip.sesFrags (c : Chip) (i : Nat) : Nat :=
  (c.host.frags.filter (fun f => f.ses == i)).length + (c.host.waits.filter (fun w => w.ses == i)).length

def Chip.epFrags (c : Chip) (e : Nat) : Nat :=
  (c.host.frags.filter (fun f => (c.ses f.ses).ep == e)).length + (c.host.waits.filter (fun w => w.ep == e)).length

/-- Free general and class-0 slots of an endpoint: a frame executes whole between two others, so only assemblies and waiting
replies hold slots from one command to the next (assumption 8). -/
def Chip.freeGen (c : Chip) (e : Nat) : Nat := 28 - c.epFrags e
def Chip.freeC0 (_c : Chip) (_e : Nat) : Nat := 4

def Chip.slotCap (c : Chip) (e : Nat) : Nat := c.getF ENDPOINT_CFG e ENDPOINT_CFG.SLOT_CAP

/-- The slots shown in `ENDPOINT_STATUS` follow the assemblies held. -/
def Chip.showSlots (c : Chip) (e : Nat) : Chip :=
  c.upd ENDPOINT_STATUS e [(ENDPOINT_STATUS.FREE_GEN, c.freeGen e), (ENDPOINT_STATUS.FREE_C0, c.freeC0 e)]

/-- The `CREDITS` byte of a reply, computed after the reply's own slot has been freed (R53). -/
def Chip.credits (c : Chip) (e si : Nat) : Nat :=
  min (c.freeGen e) (c.slotCap e - c.sesFrags si) + 32 * c.freeC0 e

/-! ## Frames out -/

/-- A frame leaves: on the SPI port it joins the outbound queue, on the other transports it goes to the pins (R69, R70, R72;
assumption 9). -/
def Chip.send (c : Chip) (e : Nat) (f : Frame) : Chip :=
  let c := c.epCount e cntOut
  if e = 0 then c.modEp e (fun x => { x with out := x.out ++ [f] })
  else { c with host.wire := c.host.wire ++ [(e, f)] }

/-- The controller's own sequence counter of a session; at 2^62 `SESSION_REKEY_DUE` is due (R48, R49). -/
def Chip.nextTx (c : Chip) (i : Nat) : Chip :=
  let s := c.ses i
  let n := s.txSeq + 1
  let due := decide (2 ^ 62 ≤ n) && !s.rekeyCtrl
  let c := c.setSes i { s with txSeq := n, rekeyCtrl := s.rekeyCtrl || due }
  if due then c.raiseTo i 0x0002 1 (u8 1) else c

/-- Queue a reply (R42). A status of 0x10 or above carries the four header bytes alone. -/
def Chip.reply (c : Chip) (x : Ctx) (opcode status : Nat) (data : List Nat) : Chip :=
  let data := if 0x10 ≤ status then [] else data
  let c := if x.si < session0 then c.nextTx x.si else c
  let seq := if x.si < session0 then (c.ses x.si).txSeq else 0
  let addr := if x.si < session0 then (c.ses x.si).addr else x.h.addr
  c.send x.ep ⟨opcode, x.h.session, seq, x.h.tag, x.h.cls, some status, c.credits x.ep x.si, data, addr⟩

/-- A refusal of steps 4 to 7 goes through the endpoint's refusal queue of 8; a full queue drops and counts it (R75). -/
def Chip.refuse (c : Chip) (h : Hdr) (opcode session seq credits status addr : Nat) : Chip :=
  if (c.ep h.ep).refusals.length < 8 then
    c.modEp h.ep (fun x => { x with refusals := x.refusals ++
      [⟨opcode, session, seq, h.tag, h.cls, some status, credits, [], addr⟩] })
  else c.epCount h.ep cntDrop

/-- A refusal under an open session takes the session's next sequence number (R42). -/
def Chip.refuseIn (c : Chip) (h : Hdr) (opcode si status : Nat) : Chip :=
  if (c.ep h.ep).refusals.length < 8 then
    let c := c.nextTx si
    c.refuse h opcode h.session (c.ses si).txSeq (c.credits h.ep si) status (c.ses si).addr
  else c.epCount h.ep cntDrop

/-- `AUTH_FAIL` in session-0 form, at most 100 in a second on an endpoint, the rest discarded and counted (R75 step 4). -/
def Chip.authFail (c : Chip) (h : Hdr) (opcode : Nat) : Chip :=
  let c := c.epCount h.ep cntAuth
  let recent := (c.ep h.ep).authTimes.filter (fun t => decide (c.since t < ticksPerSecond))
  if recent.length < 100 then
    let c := c.modEp h.ep (fun x => { x with authTimes := recent ++ [c.up] })
    c.refuse h opcode 0 0 0 stAuthFail h.addr
  else (c.modEp h.ep (fun x => { x with authTimes := recent })).epCount h.ep cntDrop

/-! ## Result handles (R58 to R61) -/

/-- The handle value of an index (R58). -/
def Chip.handleVal (c : Chip) (k : Nat) : Nat := 64 * k + (c.hnd k).gen

/-- The lowest free index, if the pool has one and the session holds fewer than 64 handles. -/
def Chip.freeHandle (c : Chip) (si : Nat) : Option Nat :=
  let held := (List.range 1024).filter (fun k => (c.hnd k).owner == some si)
  if held.length < 64 then (List.range 1024).find? (fun k => (c.hnd k).owner.isNone) else none

/-- Issue a handle to a session: the generation advances and wraps from 63 to 1. -/
def Chip.newHandle (c : Chip) (si k : Nat) : Chip :=
  let g := (c.hnd k).gen
  c.setHnd k { gen := if g = 63 then 1 else g + 1, owner := some si }

/-- The operation of a handle has finished: the result is fixed (R60). A handle already released takes nothing (R61). -/
def Chip.finish (c : Chip) (k : Option Nat) (status : Nat) (data : List Nat) : Chip :=
  match k with
  | some k =>
    let x := c.hnd k
    if x.owner.isSome && !x.finished then c.setHnd k { x with finished := true, status := status, data := data } else c
  | none => c

/-- Free a handle. -/
def Chip.dropHandle (c : Chip) (k : Nat) : Chip := c.setHnd k { gen := (c.hnd k).gen }

/-- The handle a session names, if it holds it (R59). -/
def Chip.findHandle (c : Chip) (si v : Nat) : Option Nat :=
  let k := v / 64
  let x := c.hnd k
  if k < 1024 ∧ x.owner = some si ∧ x.gen = v % 64 ∧ v % 64 ≠ 0 then some k else none

/-- A command whose work outlasts its slot: `ACCEPTED` with a handle, or `BUSY` (R58). `start` is told the handle's index. -/
def Chip.accept (c : Chip) (x : Ctx) (start : Chip → Nat → Chip) : Res :=
  match c.freeHandle x.si with
  | none => { chip := c, status := stBusy }
  | some k =>
    let c := c.newHandle x.si k
    { chip := start c k, status := stAccepted, data := u16 (c.handleVal k) ++ rsvBytes 2 }

/-! ## Closing a session (R50) -/

/-- A session closes: fragments discarded, handles released, queue and subscription deleted, keys zeroised; the generation
stays with the index (R45, R50). What a released handle's command does is its own affair (R61). -/
def Chip.closeSession (c : Chip) (i : Nat) : Chip :=
  let s := c.ses i
  if !s.isOpen then c
  else
    let c := c.heldAccount
    let c := { c with host.frags := c.host.frags.filter (fun f => f.ses != i),
                       host.waits := c.host.waits.filter (fun w => w.ses != i) }
    let c := c.eachOf ((List.range 1024).filter (fun k => (c.hnd k).owner == some i)) Chip.dropHandle
    let c := c.setSes i { gen := s.gen }
    let c := c.showSlots s.ep
    c.upd ENDPOINT_STATUS s.ep [(ENDPOINT_STATUS.SESSIONS, c.getF ENDPOINT_STATUS s.ep ENDPOINT_STATUS.SESSIONS - 1)]

/-- Every session that meets a condition closes. -/
def Chip.closeSessions (c : Chip) (p : Session → Bool) : Chip :=
  c.eachOf (c.openSessions.filter (fun i => p (c.ses i))) Chip.closeSession

/-! ## Admission: steps 4 to 13 of Table 2.10 -/

/-- Frames are answered on the endpoint: it is enabled and accepting, the controller is at least in Limited service, no
power-fail or chip reset holds it and the Gatehouse is not restarting (R36, R74, R455, R506). -/
def Chip.listening (c : Chip) (e : Nat) : Bool :=
  decide (e < 18) && (e == 1 || c.getB ENDPOINT_CFG e ENDPOINT_CFG.EN) && (c.ep e).accepting
    && decide (lvLimited ≤ c.level) && !c.boot.pfHalt && !c.boot.resetLow && !c.holding 1

/-- What admission finds. -/
inductive Gate where
  | stop (c : Chip)
  | go (c : Chip) (x : Ctx) (frag : Bool)

/-- The highest sequence number a session has accepted reaches 2^62: `SESSION_REKEY_DUE` once (R49). -/
def Chip.rekeyHost (c : Chip) (i : Nat) : Chip :=
  let s := c.ses i
  if 2 ^ 62 ≤ s.high ∧ ¬ s.rekeyHost then (c.setSes i { s with rekeyHost := true }).raiseTo i 0x0002 1 (u8 0) else c

/-- A sequence number is refused if it is zero, at or below the highest minus 64, or already seen (R47). -/
def seqRefused (s : Session) (seq : Nat) : Bool := seq == 0 || decide (seq + 64 ≤ s.high) || s.window.contains seq

/-- A sequence number is marked as seen and the window of 64 advances (R47). -/
def markSeq (s : Session) (seq : Nat) : Session :=
  let high := max s.high seq
  { s with high := high, window := (seq :: s.window).filter (fun q => decide (high < q + 64)) }

/-- Ingress moves a frame out of its inbound buffer (R69). -/
def Chip.popInbound (c : Chip) (e : Nat) : Chip := c.modEp e (fun x => { x with inbound := x.inbound - 1 })

/-- Steps 4 to 7 (R75): the session and the trailer, the sequence number, the zero fields, the opcode. A session-0 frame with
a wrong CRC is discarded and counted (R43). A frame that ingress takes leaves its inbound buffer (R69). -/
def Chip.admitFrame (c : Chip) (h : Hdr) (opcode : Nat) (known in0 : Bool) : Gate :=
  let c := (c.popInbound h.ep).epCount h.ep cntIn
  if h.session = 0 then
    if !h.authentic then .stop (c.epCount h.ep cntFraming)
    else if h.zero ≠ 0 ∨ h.rsv ≠ 0 then .stop (c.refuse h opcode 0 0 (c.credits h.ep session0) stBadParam h.addr)
    else if !in0 then .stop (c.refuse h opcode 0 0 (c.credits h.ep session0) stDenied h.addr)
    else .go c ⟨h.ep, session0, .nobody, h⟩ false
  else
    let i := h.session % 128
    let s := c.ses i
    if !s.isOpen || s.gen != h.session / 128 || s.ep != h.ep || !h.authentic then .stop (c.authFail h opcode)
    else
      let c := c.setSes i { s with lastFrame := c.up, addr := h.addr }
      if seqRefused s h.seq then .stop ((c.epCount h.ep cntReplay).refuseIn h opcode i stReplay)
      else
        let c := (c.modSes i (fun s => markSeq s h.seq)).rekeyHost i
        if 2 ^ 63 ≤ h.seq then .stop (c.refuseIn h opcode i stBadState)
        else if h.zero ≠ 0 ∨ h.rsv ≠ 0 then .stop (c.refuseIn h opcode i stBadParam)
        else if !known then .stop (c.refuseIn h opcode i stBadOpcode)
        else .go c ⟨h.ep, i, c.whoOf (c.ses i), h⟩ false

/-- A reply of the checks after admission: the request's slot is free again. -/
def Chip.answer (c : Chip) (x : Ctx) (opcode status : Nat) : Gate := .stop (c.reply x opcode status [])

/-- The assembly of a session's tag. -/
def Chip.fragOf (c : Chip) (si tag : Nat) : Option Frag := c.host.frags.find? (fun f => f.ses == si && f.tag == tag)

/-- An assembly is over: its slot is free. -/
def Chip.dropFrag (c : Chip) (si tag : Nat) : Chip :=
  Chip.showSlots { c with host.frags := c.host.frags.filter (fun f => !(f.ses == si && f.tag == tag)) } (c.ses si).ep

/-- The commands the Gatehouse executes itself during a Keeper tier hold (R36): plant stop, zone isolate, channel force-off. -/
def gatehouseExecutes (opcode cls : Nat) : Bool := cls == 0 && [0x0510, 0x0210, 0x0610].contains opcode

/-- Steps 8 to 10: class and `FINAL`, class 0 enabled, a slot (R44, R52, R55). The last fragment of an assembly uses the slot
the assembly holds, which its reply frees. -/
def Chip.admitClass (c : Chip) (x : Ctx) (sp : CmdSpec) : Gate :=
  let h := x.h
  if !sp.classes.contains h.cls || (x.si == session0 && h.cls != 2) then c.answer x sp.opcode stBadParam
  else if !h.final then c.answer x sp.opcode stBadLength
  else if h.cls = 0 ∧ ¬ c.getB ENDPOINT_CFG h.ep ENDPOINT_CFG.CLASS0_EN then c.answer x sp.opcode stDenied
  else match c.fragOf x.si h.tag with
    | some f =>
      let c := c.dropFrag x.si h.tag
      if f.opcode ≠ sp.opcode ∨ f.cls ≠ h.cls ∨ h.len < f.bytes ∨ 16384 < h.len then c.answer x sp.opcode stBadLength
      else .go c x true
    | none =>
      if 1024 < h.len then .stop (c.epCount h.ep cntFraming)
      else if h.cls = 0 then
        if 0 < c.freeC0 h.ep ∨ (0 < c.freeGen h.ep ∧ c.sesFrags x.si < c.slotCap h.ep) then .go c x false
        else (c.epCount h.ep cntCredit).answer x sp.opcode stNoCredit
      else if 0 < c.freeGen h.ep ∧ c.sesFrags x.si < c.slotCap h.ep then .go c x false
      else (c.epCount h.ep cntCredit).answer x sp.opcode stNoCredit

/-- A principal of the estate, as Limited service admits (R31, Table 1.10). -/
def Who.isEstate : Who → Bool
  | .estate _ => true
  | _ => false

/-- Steps 11 to 13: who may ever issue the opcode, the length, the tier. A revoked session may only `PING` and
`SESSION_CLOSE` (R83). During a Keeper tier hold everything but the Gatehouse's own commands is answered `BUSY` (R36). In
Limited service only the estate is served (Table 1.10); closing one's session is always served (assumption 10). -/
def Chip.admitWho (c : Chip) (x : Ctx) (sp : CmdSpec) : Gate :=
  let free := sp.opcode = 0x0000 ∨ sp.opcode = 0x0002
  if c.holding 0 && !gatehouseExecutes sp.opcode x.h.cls then c.answer x sp.opcode stBusy
  else if x.si < session0 ∧ x.who = .nobody ∧ ¬ free then c.answer x sp.opcode stDenied
  else if x.si < session0 ∧ ¬ free ∧ sp.who x.who = false then c.answer x sp.opcode stDenied
  else if !sp.len x.h.len then c.answer x sp.opcode stBadLength
  else if c.level < sp.level then c.answer x sp.opcode stLimited
  else if c.level < lvFull ∧ x.si < session0 ∧ (c.ses x.si).isOpen ∧ ¬ x.who.isEstate ∧ sp.opcode ≠ 0x0002 then
    c.answer x sp.opcode stLimited
  else .go c x false

/-- Steps 4 to 13 of Table 2.10 for a frame of the given command. -/
def Chip.ingress (c : Chip) (h : Hdr) (sp : CmdSpec) : Gate :=
  if !c.listening h.ep then .stop c
  else match c.admitFrame h sp.opcode true sp.inSession0 with
    | .stop c => .stop c
    | .go c x _ =>
      match c.admitClass x sp with
      | .stop c => .stop c
      | .go c x _ => c.admitWho x sp

/-- The reply to an executed command: an `OK` is sent only where the frame asked for it (R57); then what follows the reply. -/
def Res.conclude (r : Res) (x : Ctx) (opcode : Nat) : Chip :=
  let c := r.chip
  let c := if r.held ∨ (r.status = stOk ∧ ¬ x.h.ackReq) then c else c.reply x opcode r.status r.data
  r.post c

/-- The command keeps its slot and its reply waits for `key` (R162, R368). -/
def Chip.waitReply (c : Chip) (x : Ctx) (key opcode : Nat) : Chip :=
  Chip.showSlots { c with host.waits := c.host.waits ++ [⟨key, opcode, x.ep, x.si, x.h⟩] } x.ep

/-- Every command that waits for `key` is answered and frees its slot. -/
def Chip.answerWaits (c : Chip) (key status : Nat) (data : List Nat) : Chip :=
  let l := c.host.waits.filter (fun w => w.key == key)
  let c := { c with host.waits := c.host.waits.filter (fun w => w.key != key) }
  c.eachOf l (fun c w =>
    let x : Ctx := ⟨w.ep, w.ses, .nobody, w.hdr⟩
    let c := c.showSlots w.ep
    if status = stOk ∧ ¬ w.hdr.ackReq then c else c.reply x w.opcode status data)

/-- The command reached execution (step 19): none of the checks of steps 14 to 18 refused it. -/
def Res.executed (r : Res) : Bool := decide (r.status < 0x10) || decide (0x50 ≤ r.status)

/-- A frame of an estate or operator session that reaches step 19 holds the fan watchdog off (R328). -/
def Res.watched (r : Res) (kind : Nat) : Res :=
  if r.executed && kind != kPlot && kind != kFeeder && kind != 0 then { r with chip := { r.chip with host.lastOpFrame := r.chip.up } }
  else r

/-- A command frame from arrival to the reply. -/
def Chip.command (c : Chip) (h : Hdr) (sp : CmdSpec) (act : Ctx → Chip → Res) : Chip :=
  match c.ingress h sp with
  | .stop c => c
  | .go c x _ => ((act x c).watched (c.ses x.si).kind).conclude x sp.opcode

/-- A check of steps 14 to 18 has failed: nothing changes (R12). -/
def Chip.no (c : Chip) (status : Nat) : Res := { chip := c, status := status }

/-- Checks in their order: the first that fails gives its status, otherwise the command acts. -/
def checks (c : Chip) (l : List (Bool × Nat)) (act : Unit → Res) : Res :=
  match l.find? Prod.fst with
  | some (_, st) => c.no st
  | none => act ()

end Sys2Proof.Machine
end

