-- ==== Sys2Proof/Machine/TimeOps.lean ====
section
/-!
DEFINITION. The RTC counter, civil and local time, the calendar, the servo and the corrections, the PTP ports, and the
reference selector (R421 to R444).
-/

namespace Sys2Proof.Machine

/-- The events of group 0x0C: the estate, operators with `TIME` or `DIAG` (R448). -/
def audTime : Audience := { opMask := scTime ||| scDiag }
/-- `TIME_STEPPED` and `TIME_TRUST_CHANGED` also go to plots (R448). -/
def audTimePlots : Audience := { opMask := scTime ||| scDiag, allPlots := true }

/-- One RTC tick in units of 1/64 ns. -/
abbrev tickUnits : Int := 1953125
/-- One millisecond and one second in units of 1/64 ns. -/
abbrev msUnits : Int := 64000000
abbrev secUnits : Int := 64000000000

/-! ## Civil and local time, the calendar (R428, R429) -/

def Chip.calOfs (c : Chip) : Int := c.getS TIME_STATUS 0 TIME_STATUS.CAL_OFS
/-- Civil time in ticks (R428). -/
def Chip.civil (c : Chip) : Int := (c.now : Int) + c.calOfs
/-- Minutes in ticks. -/
abbrev ticksPerMinute : Int := 60 * 32768

def Chip.stdOfs (c : Chip) : Int := c.getS TIME_ZONE 0 TIME_ZONE.STD_OFS_MIN * ticksPerMinute
def Chip.dstDelta (c : Chip) : Int := (c.getF TIME_ZONE 0 TIME_ZONE.DST_DELTA_MIN : Int) * ticksPerMinute
/-- The zone and daylight offset in force. -/
def Chip.zoneOfs (c : Chip) : Int := c.stdOfs + (if c.getB TIME_STATUS 0 TIME_STATUS.DST then c.dstDelta else 0)
/-- Local time in ticks (R428). -/
def Chip.localTime (c : Chip) : Int := c.civil + c.zoneOfs

/-- The last second of the calendar (R429). -/
abbrev calendarEnd : Int := 6311433599

/-- Whole seconds of a time in ticks, held at the calendar's end (R429). -/
def calSeconds (t : Int) : Int := min (Int.fdiv t 32768) calendarEnd

/-- A date and time of day (R428, R447). -/
structure Date where
  year : Nat
  month : Nat
  day : Nat
  hour : Nat
  minute : Nat
  second : Nat
  wday : Nat
  deriving DecidableEq, Repr

/-- Year, month and day of a count of days from 1 March of year 0. -/
def dateOfDays (z : Nat) : Nat × Nat × Nat :=
  let era := z / 146097
  let doe := z % 146097
  let yoe := (doe - doe / 1460 + doe / 36524 - doe / 146096) / 365
  let doy := doe - (365 * yoe + yoe / 4 - yoe / 100)
  let mp := (5 * doy + 2) / 153
  let d := doy - (153 * mp + 2) / 5 + 1
  let m := if mp < 10 then mp + 3 else mp - 9
  (yoe + era * 400 + (if m ≤ 2 then 1 else 0), m, d)

/-- Days from 2000-01-01 to a date of the years from 2000. -/
def daysOfDate (y m d : Nat) : Int :=
  let y' := if m ≤ 2 then y - 1 else y
  let mp := if 2 < m then m - 3 else m + 9
  let doy := (153 * mp + 2) / 5 + d - 1
  let doe := (y' % 400) * 365 + (y' % 400) / 4 - (y' % 400) / 100 + doy
  ((y' / 400) * 146097 + doe : Nat) - 730425

/-- The date of a count of seconds from 2000-01-01, a Saturday (weekday 5, Monday 0). -/
def dateOf (sec : Int) : Date :=
  let days := Int.fdiv sec 86400
  let rest := (sec - days * 86400).toNat
  let (y, m, d) := dateOfDays (days + 730425).toNat
  ⟨y, m, d, rest / 3600, rest / 60 % 60, rest % 60, ((days + 5) % 7).toNat⟩

/-- The day of month of the `week`-th (5: last) weekday `wd` of a month. -/
def weekdayOf (y m week wd : Nat) : Int :=
  let first := daysOfDate y m 1
  let off := ((wd : Int) - (first + 5)) % 7
  let next := if m = 12 then daysOfDate (y + 1) 1 1 else daysOfDate y (m + 1) 1
  let day := first + off + 7 * ((min week 5 : Nat) - 1 : Int)
  if day < next then day else day - 7

/-- The RTC instants of the daylight changes of a year: start judged in standard, end in daylight local time (R428). -/
def Chip.dstOfYear (c : Chip) (y : Nat) : List (Int × Bool) :=
  let f := c.getF TIME_ZONE 0
  let at_ := fun (m w d mn : Nat) => (weekdayOf y m w d * 86400 + mn * 60) * 32768
  let base := c.stdOfs + c.calOfs
  [(at_ (f TIME_ZONE.S_MONTH) (f TIME_ZONE.S_WEEK) (f TIME_ZONE.S_WDAY) (f TIME_ZONE.S_MIN) - base, true),
   (at_ (f TIME_ZONE.E_MONTH) (f TIME_ZONE.E_WEEK) (f TIME_ZONE.E_WDAY) (f TIME_ZONE.E_MIN) - base - c.dstDelta, false)]

/-- A local quarter-hour in ticks. -/
abbrev ticksPerLocalQuarter : Int := 900 * 32768

/-- The zones' counts of the running local quarter start again (R212). -/
def Chip.quarterClear (c : Chip) : Chip :=
  let l := (c.zones.zone.map Prod.fst).foldl
    (fun t z => Tab.set {} t z { Tab.get ({} : ZoneRt) t z with lqVal := 0, lqOcc := 0 }) c.zones.zone
  { c with zones.zone := l }

/-- The local instant reached so far becomes part of `LOCAL_HWM`, and local time jumps: edges it jumps over are never
reported (R430). A jump out of the quarter-hour begun drops its counts. -/
def Chip.localJump (c : Chip) (f : Chip → Chip) : Chip :=
  let l := c.localTime
  let c := c.upd TIME_STATUS 0 [(TIME_STATUS.LOCAL_HWM, max l.toNat (c.getF TIME_STATUS 0 TIME_STATUS.LOCAL_HWM))]
  let c := f c
  let c := if Int.fdiv c.localTime ticksPerLocalQuarter = Int.fdiv l ticksPerLocalQuarter then c else c.quarterClear
  { c with time.localPrev := some c.localTime }

/-- The Keeper loads the next two daylight changes into the time unit (R428); none are loaded while it is held (Table 14.9). -/
def Chip.loadDst (c : Chip) : Chip :=
  if c.holding 0 || !c.boot.keeper then c
  else if !c.getB TIME_ZONE 0 TIME_ZONE.DST_EN then
    c.localJump (fun c => Chip.upd { c with time.dst := [] } TIME_STATUS 0 [(TIME_STATUS.DST, 0)])
  else
    let y := (dateOf (calSeconds c.civil)).year
    let l := ([y - 1, y, y + 1, y + 2].flatMap c.dstOfYear).filter (fun p => decide (0 ≤ p.1))
    let past := l.filter (fun p => decide (p.1 ≤ (c.now : Int)))
    let next := (l.filter (fun p => decide ((c.now : Int) < p.1))).map (fun p => (p.1.toNat, p.2))
    let last := past.foldl (fun (b : Int × Bool) p => if b.1 ≤ p.1 then p else b) (-1, false)
    c.localJump (fun c => Chip.upd { c with time.dst := (sortOn Prod.fst next).take 2 } TIME_STATUS 0
      [(TIME_STATUS.DST, if last.2 then 1 else 0)])

/-! ## The RTC (R421 to R426) -/

/-- The RTC reaches a count; at the largest it stops, `RTC_END` is set and raised once (R425). -/
def Chip.setRtc (c : Chip) (n : Nat) : Chip :=
  let v := min n rtcEnd
  let c := { c with time.rtc := v }
  if v = rtcEnd ∧ ¬ c.getB TIME_STATUS 0 TIME_STATUS.RTC_END then
    (c.upd TIME_STATUS 0 [(TIME_STATUS.RTC_END, 1)]).raise 0x0C05 2 0 [] audTime
  else c

/-- The rate word (R423), shown in `RATE_PPB`. -/
def Chip.rateWord (c : Chip) : Int := c.time.servo + c.time.slew

def Chip.showRate (c : Chip) : Chip := c.upd TIME_STATUS 0 [(TIME_STATUS.RATE_PPB, ofSigned 32 c.rateWord)]

/-- The RTC domain is powered and has a clock to count: its crystal, or in its place one divided from REF while REF runs from
the 25 MHz crystal (R421, R426). -/
def Chip.rtcRuns (c : Chip) : Bool :=
  (c.boot.vaon || c.time.vbak) && (!c.time.xtalDead || (c.boot.vaon && c.getB SUPPLY_STATUS 0 SUPPLY_STATUS.REF_XTAL))

/-- One crystal cycle (R422, R423): the accumulator adds the rate word; the RTC advances by 2, 0 or 1. Without the time unit
(below Limited) neither slew nor retirement runs (Table 14.9). A tick that the slew removes or adds moves what is left of the
error, and while the offset retires it raises `CAL_OFS` by that tick (R432). -/
def Chip.rtcCycle (c : Chip) : Chip :=
  let c := { c with time.up := c.time.up + 1 }
  if !c.rtcRuns then c
  else
    let rate := if c.level < lvLimited then c.time.servo else c.rateWord
    let a := c.time.acc + rate
    let (a, adv) := if 1000000000 ≤ a then (a - 1000000000, 2) else if a ≤ -1000000000 then (a + 1000000000, 0) else (a, 1)
    let c := Chip.setRtc { c with time.acc := a } (c.now + adv)
    if adv = 1 ∨ c.level < lvLimited then c
    else if c.getB TIME_STATUS 0 TIME_STATUS.RETIRING then
      if adv = 0 then
        let o := c.calOfs + 1
        let c := c.upd TIME_STATUS 0 [(TIME_STATUS.CAL_OFS, ofSigned 64 o)]
        if o = 0 then (Chip.upd { c with time.slew := 0 } TIME_STATUS 0 [(TIME_STATUS.RETIRING, 0)]).showRate else c
      else c
    else if c.getB TIME_STATUS 0 TIME_STATUS.SLEWING then
      { c with time.slewLeft := if adv = 2 then c.time.slewLeft - tickUnits else c.time.slewLeft + tickUnits }
    else c

/-! ## Trust (R427) -/

/-- The trust level (Table 14.2). While REVERTING the active reference still drives the RTC, as Table 14.7 shows. -/
def Chip.trustNow (c : Chip) : Nat :=
  let g := c.getF TIME_STATUS 0
  let active := g TIME_STATUS.ACTIVE
  let st := g TIME_STATUS.SSTATE
  let hold := c.getF TIME_REF_CFG 0 TIME_REF_CFG.HOLDOVER_S * ticksPerSecond
  if g TIME_STATUS.RTC_VALID = 0 then 0
  else if g TIME_STATUS.XTAL_FAIL = 1 ∧ ¬ c.getB SUPPLY_STATUS 0 SUPPLY_STATUS.REF_XTAL then 0
  else if st = 1 ∨ st = 2 then 1
  else if active < 2 then 3
  else if active = 2 then 2
  else if c.time.lockedEver ∧ c.now - g TIME_STATUS.LAST_LOCK ≤ hold then 1
  else 0

/-- `TRUST` follows its table; each change is raised (R427). -/
def Chip.judgeTrust (c : Chip) : Chip :=
  let old := c.getF TIME_STATUS 0 TIME_STATUS.TRUST
  let new := c.trustNow
  if old = new then c
  else (c.upd TIME_STATUS 0 [(TIME_STATUS.TRUST, new)]).raise 0x0C01 1 0 (u8 old ++ u8 new ++ rsvBytes 2) audTimePlots

/-! ## Corrections (R431, R433, R538) -/

/-- A step or a calendar offset is counted and reported (Table 14.3). -/
def Chip.timeStepped (c : Chip) (kind : Nat) (ticks : Int) : Chip :=
  (c.incSat TIME_STATUS 0 TIME_STATUS.STEP_CNT TIME_STATUS.SAT 1).raise 0x0C02 1 0
    (u8 kind ++ rsvBytes 3 ++ s64 ticks) audTimePlots

/-- No slew of R431 runs. -/
def Chip.stopSlew (c : Chip) : Chip :=
  (Chip.upd { c with time.slew := 0, time.slewLeft := 0 } TIME_STATUS 0
    [(TIME_STATUS.SLEWING, 0), (TIME_STATUS.RETIRING, 0)]).showRate

/-- A slew of ±1 000 000 ppb with the given error left (R431). -/
def Chip.startSlew (c : Chip) (eps : Int) : Chip :=
  (Chip.upd { c with time.slew := if 0 < eps then 1000000 else -1000000, time.slewLeft := eps } TIME_STATUS 0
    [(TIME_STATUS.SLEWING, 1), (TIME_STATUS.RETIRING, 0)]).showRate

/-- The selector is LOCKED on a PTP or PPS reference. -/
def Chip.lockedRef (c : Chip) : Bool :=
  decide (c.getF TIME_STATUS 0 TIME_STATUS.ACTIVE < 3) && c.getF TIME_STATUS 0 TIME_STATUS.SSTATE == 0

/-- The spans of the last hour of LOCKED operation, newest first. -/
def trimSpans : Nat → List (Nat × Int) → List (Nat × Int)
  | _, [] => []
  | left, (w, r) :: l => if left = 0 then [] else (min w left, r) :: trimSpans (left - w) l

/-- A span of LOCKED operation at the present servo rate is counted up to now (R441). -/
def Chip.spanEnds (c : Chip) : Chip :=
  let w := match c.time.rateAt with
    | some t => if c.lockedRef then c.since t else 0
    | none => 0
  let l := match c.time.rates with
    | (w', r) :: l => if r = c.time.servo then (w' + w, r) :: l else (w, c.time.servo) :: (w', r) :: l
    | [] => [(w, c.time.servo)]
  { c with time.rateAt := some c.up, time.rates := if w = 0 then c.time.rates else trimSpans (3600 * ticksPerSecond) l }

/-- The servo takes an error (R538): `eps` in 1/64 ns, `ref` the reference it comes from (9 for `TIME_SET`). -/
def Chip.servoTake (c : Chip) (eps : Int) (ref : Nat) : Chip :=
  let tc := c.getF TIME_REF_CFG 0 TIME_REF_CFG.SERVO_TC_S
  let dt : Nat := match c.time.epsAt with
    | some t => if ref = c.time.epsFrom ∧ ref ≠ 9 then min (c.since t) (tc * ticksPerSecond) else 0
    | none => 0
  let f := clampI (-100000) 100000 (c.time.freq + divFree 538 (eps * dt) (64 * 32768 * tc * tc))
  let servo := clampI (-100000) 100000 (f + divFree 538 eps (64 * tc))
  let c := c.spanEnds.stopSlew
  Chip.showRate { c with time.freq := f, time.servo := servo, time.epsAt := some c.up, time.epsFrom := ref }

/-- Civil time moves by whole ticks at once: what the references have measured against it moves along. -/
def Chip.shiftEps (c : Chip) (d : Int) : Chip :=
  let u := d * tickUnits
  let c := c.each 2 (fun c p =>
    let x := c.ptp p
    c.setPtp p { x with t2 := x.t2 + u, delayReqs := x.delayReqs.map (fun q => (q.1, q.2 + u)), eps := x.eps.map (fun e => e - u),
                        twoStepSeq := x.twoStepSeq.map (fun q => (q.1, q.2.1, q.2.2 + u)) })
  { c with time.ppsEps := none }

/-- A change of `CAL_OFS`, after which the daylight instants are loaded again (R428, R431). -/
def Chip.moveCalOfs (c : Chip) (d : Int) : Chip :=
  Chip.loadDst ((c.localJump (fun c => c.upd TIME_STATUS 0 [(TIME_STATUS.CAL_OFS, ofSigned 64 (c.calOfs + d))])).shiftEps d)

/-- The last error of the active reference, saturated (`OFFSET_NS`). -/
def Chip.showEps (c : Chip) (eps : Int) : Chip :=
  c.upd TIME_STATUS 0 [(TIME_STATUS.OFFSET_NS, ofSigned 32 (clampI (-2147483648) 2147483647 (divFree 446 eps 64)))]

/-- A measured error is corrected by the first row of Table 14.3 that applies (R431). A forward step waits for the
reference's next whole second; the civil second it will write is left in `stepAt` by the row that makes it. -/
def Chip.correct (c : Chip) (eps : Int) (ref : Nat) : Chip :=
  let c := if ref = 9 then c else c.showEps eps
  if eps.natAbs ≤ 64000000 then c.servoTake eps ref
  else
    if eps.natAbs ≤ 128000000000 then c.startSlew eps
    else if eps < 0 then
      let d := divRound eps 1953125
      (c.stopSlew.moveCalOfs d).timeStepped 1 d
    else
      let ofs := c.calOfs
      let absorb := min (divRound eps 1953125) (-ofs)
      let c := if 0 < absorb then (c.moveCalOfs absorb).timeStepped 2 absorb else c
      let rest := eps - absorb * tickUnits
      if 128000000000 < rest then { c.stopSlew with time.stepAt := some (ref, rest) }
      else if 0 < rest then c.startSlew rest
      else c.stopSlew

/-- The seconds field is written with a larger value and the prescaler with 0 (R422, R431): never backward. -/
def Chip.forwardStep (c : Chip) (civilSec : Nat) : Chip :=
  let target := min (civilSec * ticksPerSecond) rtcEnd
  let c := { c with time.stepAt := none }
  if target ≤ c.now then c
  else
    let d := target - c.now
    let c := { c with time.stepFrom := some (c.time.stepFrom.getD c.now), time.ppsRtc := c.time.ppsRtc + d * tickUnits }
    let c := (c.localJump (fun c => c.setRtc target)).shiftEps d
    (c.upd TIME_STATUS 0 [(TIME_STATUS.RTC_VALID, 1)]).timeStepped 0 d

/-! ## References and their availability (R434 to R438) -/

/-- The PTP port of a reference has an address where its transport needs one (R435). -/
def Chip.ptpAddr (c : Chip) (p : Nat) : Bool :=
  let tr := c.getF PTP_CFG p PTP_CFG.TRANSPORT
  let vl := c.getF PTP_CFG p PTP_CFG.VLAN_ID
  tr == 0 || (List.range 16).any (fun k =>
    let e := k + 2
    c.getB ENDPOINT_CFG e ENDPOINT_CFG.EN && c.getF ENDPOINT_CFG e ENDPOINT_CFG.PORT == p
      && c.getF ENDPOINT_CFG e ENDPOINT_CFG.VLAN_ID == vl
      && (if tr = 1 then c.getB ENDPOINT_CFG e ENDPOINT_CFG.IPV4_EN else c.getB ENDPOINT_CFG e ENDPOINT_CFG.IPV6_EN))

/-- The link of an Ethernet port is up. -/
def Chip.linkUp (c : Chip) (p : Nat) : Bool := Tab.get false c.host.ethLink p

/-- A message interval of 2^log seconds, in ticks. -/
def intervalTicks (log : Int) : Nat :=
  if log < 0 then ticksPerSecond / 2 ^ log.natAbs else ticksPerSecond * 2 ^ log.natAbs

/-- A master's data set comes before another's in the comparison of IEEE 1588 (R435, assumption 17). -/
def PtpMaster.rank (m : PtpMaster) : List Nat :=
  [m.prio1, m.cls, m.accuracy, m.variance, m.prio2, m.gm, m.steps, m.identity, m.port]

/-- Lexicographic order. -/
def lexLt : List Nat → List Nat → Bool
  | a :: l, b :: m => decide (a < b) || (a == b && lexLt l m)
  | _, _ => false

/-- The selected master of a port: the best of those heard that are admissible (R435). -/
def Chip.ptpMaster (c : Chip) (p : Nat) : Option PtpMaster :=
  ((c.ptp p).masters.filter (fun m => decide (m.cls ≤ c.getF PTP_CFG p PTP_CFG.MAX_CLASS) && m.ptpScale)).foldl
    (fun b m => match b with
      | some x => if lexLt m.rank x.rank then some m else some x
      | none => some m) none

/-- Civil time has passed the calendar's end. -/
def Chip.civilRange (c : Chip) : Bool := decide (calendarEnd < Int.fdiv c.civil 32768)

/-- Why a PTP reference is not available (`CAUSE` of `PTP_STATUS`), 0 where it is (Table 14.4). -/
def Chip.ptpCause (c : Chip) (p : Nat) : Nat :=
  let x := c.ptp p
  let lim := c.getF TIME_REF_CFG 0 TIME_REF_CFG.JUMP_LIMIT_S
  if !(c.getF TIME_REF_CFG 0 TIME_REF_CFG.REF_EN).testBit p then 11
  else if !c.linkUp p then 1
  else if !c.getB SUPPLY_STATUS 0 SUPPLY_STATUS.PLLB_LOCK then 9
  else if !c.ptpAddr p then 7
  else match c.ptpMaster p with
    | none => if x.masters.isEmpty then 2 else if x.masters.any (fun m => m.ptpScale) then 5 else 8
    | some m =>
      if 3 * intervalTicks m.announceLog < c.since m.announced then 2
      else if (match x.lastSync with | some t => decide (3 * intervalTicks x.syncLog < c.since t) | none => true) then 3
      else if decide (4 ≤ x.unanswered) || x.pathDelay.isNone then 4
      else if c.civilRange then 10
      else match x.eps with
        | none => 3
        | some e =>
          if lim ≠ 0 ∧ c.getB TIME_STATUS 0 TIME_STATUS.RTC_VALID ∧ c.getF TIME_STATUS 0 TIME_STATUS.TRUST ≠ 0
            ∧ (lim * 64000000000 : Nat) < e.natAbs then 6 else 0

/-- PPS is available (Table 14.4): enabled, edges in tolerance, none missing for more than 1.5 s. -/
def Chip.ppsAvail (c : Chip) : Bool :=
  (c.getF TIME_REF_CFG 0 TIME_REF_CFG.REF_EN).testBit 2 && c.time.ppsGood &&
    (match c.time.ppsLast with | some t => decide (c.since t ≤ 49152) | none => false)

/-- A reference is available: 0 and 1 PTP, 2 PPS, 3 LOCAL. -/
def Chip.refAvail (c : Chip) (k : Nat) : Bool :=
  if k < 2 then c.ptpCause k == 0 else if k = 2 then c.ppsAvail else true

/-- A reference's priority number; LOCAL is always last (R434). -/
def Chip.refPrio (c : Chip) (k : Nat) : Nat :=
  if k = 0 then c.getF TIME_REF_CFG 0 TIME_REF_CFG.PRIO_ETH0
  else if k = 1 then c.getF TIME_REF_CFG 0 TIME_REF_CFG.PRIO_ETH1
  else if k = 2 then c.getF TIME_REF_CFG 0 TIME_REF_CFG.PRIO_PPS
  else 255

/-- The best available reference other than one. -/
def Chip.bestRef (c : Chip) (other : Nat) : Nat :=
  ([0, 1, 2].filter (fun k => k != other && c.refAvail k)).foldl
    (fun b k => if c.refPrio k < c.refPrio b then k else b) 3

/-- A PTP port's state and cause as its record shows them. -/
def Chip.showPtp (c : Chip) (p : Nat) : Chip :=
  let x := c.ptp p
  let cause := c.ptpCause p
  let st := if cause = 11 then 0 else if cause = 9 ∨ cause = 1 ∨ cause = 7 then 4
    else if (c.ptpMaster p).isNone then 1 else if x.eps.isNone then 2 else 3
  c.upd PTP_STATUS p [(PTP_STATUS.PSTATE, st), (PTP_STATUS.CAUSE, cause)]

/-! ## The selector (R439 to R441) -/

/-- `SSTATE` codes (Table 14.6). -/
abbrev ssLocked : Nat := 0
abbrev ssSwitching : Nat := 1
abbrev ssReturning : Nat := 2
abbrev ssReverting : Nat := 3

/-- The mean servo rate of the last hour of LOCKED operation on PTP or PPS, weighted by time; 0 with none (R441). -/
def Chip.holdoverRate (c : Chip) : Int :=
  let n := c.time.rates.foldl (fun (a : Int) p => a + p.1 * p.2) 0
  let d := c.time.rates.foldl (fun (a : Nat) p => a + p.1) (0 : Nat)
  if d = 0 then 0 else divFree 441 n d

/-- Holdover begins: the servo rate is frozen, `f` takes it, and retirement pauses (R441, R538). -/
def Chip.enterHoldover (c : Chip) : Chip :=
  let c := c.spanEnds
  let r := c.holdoverRate
  let c := { c with time.servo := r, time.freq := r }
  let c := if c.getB TIME_STATUS 0 TIME_STATUS.RETIRING then
      Chip.upd { c with time.slew := 0 } TIME_STATUS 0 [(TIME_STATUS.RETIRING, 0)] else c
  c.showRate

/-- The selector moves: `TIME_REF_CHANGED` on a change of `ACTIVE` or `SSTATE`, `SWITCH_CNT` on a change of `ACTIVE` (R439). -/
def Chip.moveSelector (c : Chip) (active st cand cause : Nat) : Chip :=
  let old := c.getF TIME_STATUS 0 TIME_STATUS.ACTIVE
  let oldSt := c.getF TIME_STATUS 0 TIME_STATUS.SSTATE
  let c := if (st = ssSwitching ∨ st = ssReturning) ∧ (oldSt = ssLocked ∨ oldSt = ssReverting) then c.enterHoldover else c.spanEnds
  let c := Chip.upd { c with time.qualSince := none } TIME_STATUS 0 [(TIME_STATUS.ACTIVE, active), (TIME_STATUS.SSTATE, st),
    (TIME_STATUS.CANDIDATE, cand), (TIME_STATUS.QUAL_MS, 0)]
  let c := if old ≠ active then c.incSat TIME_STATUS 0 TIME_STATUS.SWITCH_CNT TIME_STATUS.SAT 0 else c
  if old ≠ active ∨ oldSt ≠ st then c.raise 0x0C00 1 0 (u8 old ++ u8 active ++ u8 st ++ u8 cause) audTime else c

/-- The cause recorded for a reference that is lost. -/
def Chip.lostCause (c : Chip) (k : Nat) : Nat := if k < 2 then c.ptpCause k else 0

/-- The reference is qualified at this evaluation (Table 14.4): available, and for PTP the measured spread is in bounds. -/
def Chip.refQualified (c : Chip) (k : Nat) (spread0 spread1 : Nat) : Bool :=
  let lim := c.getF TIME_REF_CFG 0 TIME_REF_CFG.QUAL_SPREAD_US
  c.refAvail k && (if k = 0 then decide (spread0 ≤ lim) else if k = 1 then decide (spread1 ≤ lim) else true)

/-- The transitions of Table 14.6 but for the commits, which `REFERENCE_QUALIFIED` makes. -/
def Chip.selectorMove (c : Chip) : Chip :=
  let active := c.getF TIME_STATUS 0 TIME_STATUS.ACTIVE
  let st := c.getF TIME_STATUS 0 TIME_STATUS.SSTATE
  let cand := c.getF TIME_STATUS 0 TIME_STATUS.CANDIDATE
  let best := c.bestRef active
  let better := decide (c.refPrio best < c.refPrio active)
  let revertive := c.getF TIME_REF_MODE 0 TIME_REF_MODE.MODE = 0
  if st = ssLocked then
    if !c.refAvail active then c.moveSelector active ssSwitching best (c.lostCause active)
    else if better then
      if !c.time.down then c.moveSelector active ssReturning best 0
      else if revertive then
        if c.time.betterSeen then (c.moveSelector active ssReverting best 0) else { c with time.betterSeen := true }
      else c
    else { c with time.betterSeen := false }
  else if st = ssSwitching then
    let all := c.bestRef 9
    if !c.refAvail cand then c.moveSelector active ssSwitching best (c.lostCause cand)
    else if c.refPrio all < c.refPrio cand then c.moveSelector active ssReturning all 0
    else c
  else if st = ssReturning then
    if !c.refAvail cand then c.moveSelector active ssSwitching (c.bestRef 9) (c.lostCause cand) else c
  else
    if !c.refAvail active then c.moveSelector active ssSwitching best (c.lostCause active)
    else if !c.refAvail cand ∨ ¬ revertive then c.moveSelector active ssLocked 0xFF (c.lostCause cand)
    else c

/-- Retirement of a negative `CAL_OFS` runs while its conditions hold (R432). -/
def Chip.judgeRetire (c : Chip) : Chip :=
  let want := decide (c.calOfs < 0) && c.getB TIME_REF_CFG 0 TIME_REF_CFG.RETIRE_EN
    && (c.getF TIME_STATUS 0 TIME_STATUS.SSTATE == ssLocked) && !c.getB TIME_STATUS 0 TIME_STATUS.SLEWING
  let runs := c.getB TIME_STATUS 0 TIME_STATUS.RETIRING
  if want && !runs then
    (Chip.upd { c with time.slew := -1000000 } TIME_STATUS 0 [(TIME_STATUS.RETIRING, 1)]).showRate
  else if !want && runs then
    (Chip.upd { c with time.slew := 0 } TIME_STATUS 0 [(TIME_STATUS.RETIRING, 0)]).showRate
  else c

/-- The active reference drives the RTC (Table 14.6). -/
def Chip.driving (c : Chip) (k : Nat) : Bool :=
  c.getF TIME_STATUS 0 TIME_STATUS.ACTIVE == k
    && (c.getF TIME_STATUS 0 TIME_STATUS.SSTATE == ssLocked || c.getF TIME_STATUS 0 TIME_STATUS.SSTATE == ssReverting)

end Sys2Proof.Machine
end

