-- ==== Sys2Proof/Machine/RecWrite.lean ====
section
/-!
DEFINITION. Writing a record with `SET_RECORD` (R14, R15, R63, R64): the checks every record shares, in the order of
Table 2.10, and the write as one change. Each record's own checks and effects are given by its row.
-/

namespace Sys2Proof.Machine

/-- `SET_RECORD` (0x0006): every principal but the feeder may issue it (Table 3.5); the record's own line says who may write
it. Its length is the eight bytes before the image and the image (R64). -/
def setRecordSpec : CmdSpec where
  opcode := 0x0006
  classes := [1, 2, 3]
  who := fun w => match w with
    | .feeder _ _ => false
    | .nobody => false
    | _ => true
  len := fun n => decide (8 ≤ n)

/-- The estate. -/
def Who.estateOnly : Who → Bool
  | .estate _ => true
  | _ => false

/-- The estate, or an operator holding one of the scope bits. -/
def Who.estateOr (mask : Nat) : Who → Bool
  | .estate _ => true
  | .operator sc _ => scopeHas sc mask
  | _ => false

/-- Any principal with a session but the feeder. -/
def Who.notFeeder : Who → Bool
  | .feeder _ _ => false
  | .nobody => false
  | _ => true

/-- Any principal with a session. -/
def Who.any : Who → Bool
  | .nobody => false
  | _ => true

/-- The plot a principal is. -/
def Who.plotOf : Who → Option Nat
  | .plot p => some p
  | _ => none

/-- The principal owns objects of the given owner: a plot its own, the estate those of the estate. -/
def Who.owns (w : Who) (owner : Nat) : Bool :=
  match w with
  | .plot p => p == owner
  | .estate _ => decide (256 ≤ owner)
  | _ => false

/-- What a record's row adds to the shared checks: an owner value that R10 or R12 refuses, whether the principal may write
the instance (step 15), a field that fails (step 17), and what stands against the write (step 18), 0 for nothing. -/
structure WriteCheck where
  badId : Bool := false
  may : Bool
  held : Bool := false
  bad : Bool := false
  state : Nat := 0

/-- A record that the configuration bundle holds (R505): every record that may be written and that neither the shadow image
(Table 15.2) nor the Firebreak (R372) keeps. -/
def bundled (r : RecDesc) : Bool :=
  !r.readOnly && !([BUDGET_CFG, ALLOC_MODE, FAN_PORT_CFG, FAN_GROUP_CFG, FAN_GLOBAL, PURGE_CFG, CRED_ESTATE, CRED_OPERATOR,
    CRED_FEEDER, PRIVACY_CFG, OCC_GROUP, RAW_WORDS, FB_INPUT_CFG, FB_FUNC_CFG, FB_OUT_CFG, FB_GLOBAL, FB_WARDEN_CFG].map
    RecDesc.id).contains r.id

/-- A change that the bundle has not yet saved: the first one starts the 10 s of R505. -/
def Chip.dirty (c : Chip) : Chip :=
  match c.boot.bundleDirty with
  | some _ => c
  | none => { c with boot.bundleDirty := some c.up }

/-- The plant area follows a record at the moment it is written (R450); a bundled record becomes an unsaved change. -/
def Chip.recStored (c : Chip) (r : RecDesc) (inst : Nat) : Chip :=
  let c := if bundled r then c.dirty else c
  match plantAddr r inst with
  | some a => c.memOp (.write a (leBytes r.len (c.img r inst)))
  | none => c

/-- The checks of `SET_RECORD` for one record, then the write: RO fields keep their bits (R64), `VERSION` advances once for
the accepted write (R63), and `effect` does what the record's rule adds, told the image before. The reply carries the
`VERSION` after the write. -/
def Chip.setRecord (c : Chip) (h : Hdr) (r : RecDesc) (inst ver img : Nat) (k : WriteCheck)
    (effect : Chip → Nat → Chip) (post : Chip → Chip := id) : Res :=
  let old := c.img r inst
  let new := r.merge old img
  checks c [
    (h.len != 8 + r.len, stBadLength),
    (decide (r.count ≤ inst) || k.badId, stBadParam),
    (!k.may, stDenied),
    (k.held, stSafetyLock),
    (!r.reservedClear img || h.prsv != 0 || !r.inRange new || k.bad, stBadParam),
    (ver != 0xFFFFFFFF && ver != c.version r inst, stBadState),
    (k.state != 0, k.state)]
    (fun _ =>
      let c := effect ((c.putImg r inst new).recStored r inst) old
      { chip := c, data := u32 (c.version r inst), post := post })

/-- A time field a command carries has bits [63:48] zero (R11). -/
def badTime (v : Nat) : Bool := decide (2 ^ 48 ≤ v)

/-- An owner field names a plot or the estate (R10). -/
def badOwner (v : Nat) : Bool := decide (0x100 < v)

end Sys2Proof.Machine
end

