-- ==== Sys2Proof/Machine/Firebreak.lean ====
section
/-!
DEFINITION. The Firebreak (R370 to R396): supervised inputs, functions, cut sets, safety outputs, the heartbeat, the safety
reset and the safety configuration.
-/

namespace Sys2Proof.Machine

/-- The events of group 0x0A: the estate, operators with `CHANNELS`, `FANS` or `DIAG` (R396). -/
def audFb : Audience := { opMask := scChannels ||| scFans ||| scDiag }

/-- Input classes as `IN_CLASS` holds them (Table 12.13). -/
abbrev icOff : Nat := 0
abbrev icNormal : Nat := 1
abbrev icActive : Nat := 2
abbrev icShort : Nat := 3
abbrev icOpen : Nat := 4
abbrev icInvalid : Nat := 5

/-- The class of a loop resistance in ohms (Table 12.1): `mode` 1 SUPERVISED, 2 PLAIN. -/
def classOfLoop (mode ohms : Nat) : Nat :=
  if mode = 1 then
    if 1600 ≤ ohms ∧ ohms ≤ 3000 then icNormal
    else if 5000 ≤ ohms ∧ ohms ≤ 9000 then icActive
    else if ohms < 1000 then icShort
    else if 15000 < ohms then icOpen
    else icInvalid
  else if mode = 2 then
    if ohms < 3000 then icNormal else if 15000 < ohms then icActive else icInvalid
  else icOff

def Chip.inMode (c : Chip) (i : Nat) : Nat := c.getF FB_INPUT_CFG i FB_INPUT_CFG.MODE
def Chip.inClass (c : Chip) (i : Nat) : Nat := c.getF FB_STATUS 0 (FB_STATUS.IN_CLASS i)

/-- The Firebreak runs in FAILSAFE (R372). -/
def Chip.failsafe (c : Chip) : Bool := c.getF FB_CONFIG_INFO 0 FB_CONFIG_INFO.CFG_STATE == 3

/-- An input is in demand (R374): filtered ACTIVE, or a line fault with `FAULT_TRIPS`. -/
def Chip.inDemand (c : Chip) (i : Nat) : Bool :=
  c.inMode i != 0 && (c.inClass i == icActive
    || (decide (icShort ≤ c.inClass i) && c.getB FB_INPUT_CFG i FB_INPUT_CFG.FAULT_TRIPS))

/-- The inputs that serve a function (R375, R376): FIRE 0, FROST 1, SPARE 2. -/
def funcInputs (f : Nat) : List Nat := if f = 0 then [0, 1] else if f = 1 then [2] else [3]

/-- The mask of the function's inputs that are in demand. -/
def Chip.demandMask (c : Chip) (f : Nat) : Nat := maskOf ((funcInputs f).filter c.inDemand)

/-- A function has a demand from an input or from a warden trip key (R376). -/
def Chip.funcDemand (c : Chip) (f : Nat) : Bool := c.demandMask f != 0 || c.fb.wardenTrip.testBit f

/-- Function states (R376). -/
abbrev fnIdle : Nat := 0
abbrev fnActive : Nat := 1
abbrev fnLatched : Nat := 2

def Chip.funcState (c : Chip) (f : Nat) : Nat := c.getF FB_STATUS 0 (FB_STATUS.FUNC_STATE f)

/-- The cause `FB_TRIP` reports: an active input, a line fault, or a warden key. -/
def Chip.tripCause (c : Chip) (f : Nat) : Nat :=
  let ins := (funcInputs f).filter c.inDemand
  if ins.any (fun i => c.inClass i == icActive) then 0 else if !ins.isEmpty then 1 else 2

/-- A function becomes ACTIVE (R376): from IDLE it counts, is timed and raises `FB_TRIP`. -/
def Chip.fbTrip (c : Chip) (f cause : Nat) : Chip :=
  let was := c.funcState f
  let c := c.upd FB_STATUS 0 [(FB_STATUS.FUNC_STATE f, fnActive)]
  if was = fnIdle then
    let c := c.incSat FB_STATUS 0 FB_STATUS.TRIP_CNT FB_STATUS.SAT 0
    let c := c.upd FB_STATUS 0 [(FB_STATUS.LAST_TRIP, c.now)]
    c.raise 0x0A00 3 f (u8 cause ++ u8 (c.demandMask f) ++ rsvBytes 2) audFb
  else c

/-- A function returns to IDLE and raises `FB_RELEASED` (R376): cause 0 demand ended, 1 safety reset, 2 FAILSAFE ended. -/
def Chip.fbRelease (c : Chip) (f cause : Nat) : Chip :=
  (c.upd FB_STATUS 0 [(FB_STATUS.FUNC_STATE f, fnIdle)]).raise 0x0A01 3 f (u8 cause ++ rsvBytes 3) audFb

/-- A function is judged on its demand (R376). In FAILSAFE every function stays ACTIVE (R372). -/
def Chip.judgeFunc (c : Chip) (f : Nat) : Chip :=
  if c.failsafe then c
  else if c.funcDemand f then
    if c.funcState f = fnActive then c else c.fbTrip f (c.tripCause f)
  else if c.funcState f = fnActive then
    if c.getB FB_FUNC_CFG f FB_FUNC_CFG.LATCH then c.upd FB_STATUS 0 [(FB_STATUS.FUNC_STATE f, fnLatched)]
    else c.fbRelease f 0
  else c

def Chip.judgeFuncs (c : Chip) : Chip := c.each 3 Chip.judgeFunc

/-- The functions that are ACTIVE or LATCHED. -/
def Chip.tripped (c : Chip) : List Nat := (List.range 3).filter (fun f => c.funcState f != fnIdle)

/-- The Firebreak's lines stand at their harmless states: FBK lost, or no evaluation completed yet (R371, R540). -/
def Chip.fbHarmless (c : Chip) : Bool := !c.boot.fbkOk || !c.boot.fbReady

/-- The forced-off lines asserted, a bit per channel (R371, R372, R377). -/
def Chip.forcedLines (c : Chip) : Nat :=
  if c.fbHarmless || c.failsafe then 2 ^ 96 - 1
  else c.tripped.foldl (fun m f => m ||| c.getF FB_FUNC_CFG f FB_FUNC_CFG.CUT_MASK) 0

/-- The stop switches closed, a bit per fan port (R371, R372, R377). -/
def Chip.stopSwitches (c : Chip) : Nat :=
  if c.fbHarmless || c.failsafe then 2 ^ 32 - 1
  else c.tripped.foldl (fun m f => m ||| c.getF FB_FUNC_CFG f FB_FUNC_CFG.STOP_PORTS) 0

/-- The fan groups that a tripped function stops. -/
def Chip.stopGroups (c : Chip) : Nat :=
  if c.failsafe then 0xFFFF
  else c.tripped.foldl (fun m f => m ||| c.getF FB_FUNC_CFG f FB_FUNC_CFG.STOP_GROUPS) 0

/-- An output has a latched fault: every code of Table 12.2 but `OPEN_LOAD`. -/
def Chip.soLatched (c : Chip) (k : Nat) : Bool :=
  let v := c.getF FB_STATUS 0 (FB_STATUS.SO_FAULT k)
  decide (1 ≤ v) && decide (v ≤ 4)

/-- An output's permit stands (R381). -/
def Chip.soPermit (c : Chip) (k : Nat) : Bool :=
  !c.fbHarmless && !c.failsafe && !c.soLatched k && !c.getB FB_STATUS 0 FB_STATUS.VSAFE_LOW
    && !c.tripped.any (fun f => (c.getF FB_FUNC_CFG f FB_FUNC_CFG.SO_MASK).testBit k)

/-- An output may be energised: every condition of R381 holds. -/
def Chip.soAllowed (c : Chip) (k : Nat) : Bool :=
  c.getB FB_OUT_CFG k FB_OUT_CFG.EN && c.soPermit k && (c.getF FB_STATUS 0 FB_STATUS.SO_REQ).testBit k
    && c.getB FB_STATUS 0 FB_STATUS.HB_LIVE

/-- The request register clears (R382): on chip reset, power-fail and a fall below Limited. -/
def Chip.clearRequests (c : Chip) : Chip := c.upd FB_STATUS 0 [(FB_STATUS.SO_REQ, 0)]

/-- The request register as it must stand: in Limited and Full the Keeper requests the AUTO outputs in use, except that a
Keeper tier hold leaves the register alone; a COMMAND request ends with its permit (R382, R395). -/
def Chip.soRequests (c : Chip) : Nat :=
  let req := c.getF FB_STATUS 0 FB_STATUS.SO_REQ
  let keeper := decide (lvLimited ≤ c.level) && !c.boot.pfHalt && !c.boot.resetLow
  maskOf ((List.range 16).filter (fun k =>
    if c.getB FB_OUT_CFG k FB_OUT_CFG.REQ_SRC then req.testBit k && c.soPermit k
    else if c.holding 0 then req.testBit k
    else keeper && c.getB FB_OUT_CFG k FB_OUT_CFG.EN))

/-- The Firebreak's logic settles: permits, requests and energised outputs follow their conditions at once (R381): an output
whose conditions stop holding opens both switches. Closing waits for `SO_ENERGISE` (R384). -/
def Chip.settleFb (c : Chip) : Chip :=
  let permit := maskOf ((List.range 16).filter c.soPermit)
  let c := c.upd FB_STATUS 0 [(FB_STATUS.SO_PERMIT, permit), (FB_STATUS.SO_REQ, c.soRequests),
    (FB_STATUS.FAILSAFE, if c.failsafe then 1 else 0)]
  let on := c.getF FB_STATUS 0 FB_STATUS.SO_ON
  c.upd FB_STATUS 0 [(FB_STATUS.SO_ON, maskOf ((bitsOf 16 on).filter c.soAllowed))]

/-! ## Inputs -/

/-- An input takes a filtered class; a line fault counts and is reported (R374). -/
def Chip.takeClass (c : Chip) (i cls : Nat) : Chip :=
  let was := c.inClass i
  let c := c.upd FB_STATUS 0 [(FB_STATUS.IN_CLASS i, cls)]
  let c := { c with fb.classed := Tab.set false c.fb.classed i true }
  if icShort ≤ cls ∧ was ≠ cls then
    (c.incSat FB_STATUS 0 FB_STATUS.LINE_FAULT_CNT FB_STATUS.SAT 2).raise 0x0A02 2 i (u8 cls ++ rsvBytes 3) audFb
  else c

/-- A class that has held for 1520 FBK cycles becomes the filtered class: NORMAL or ACTIVE, and during a fresh evaluation any
(R374, R540). The functions are judged at once but wait for the end of a fresh evaluation. -/
def Chip.inputFilterExpiry (c : Chip) (i ohms : Nat) : Chip :=
  let cls := classOfLoop (c.inMode i) ohms
  if cls = icOff ∨ ¬ c.boot.vaon ∨ ¬ c.boot.fbkOk then c
  else if !c.boot.fbReady then (if Tab.get false c.fb.classed i then c else c.takeClass i cls)
  else if cls = icNormal ∨ cls = icActive then (c.takeClass i cls).judgeFuncs
  else c

/-- A class of SHORT, OPEN or INVALID held for `LINE_FAULT_MS` becomes a line fault (R374). -/
def Chip.lineFaultExpiry (c : Chip) (i ohms : Nat) : Chip :=
  let cls := classOfLoop (c.inMode i) ohms
  if cls < icShort ∨ ¬ c.boot.vaon ∨ c.fbHarmless then c
  else (c.takeClass i cls).judgeFuncs

/-- Fire inputs disagree for `DISC_MS` (R375): both enabled, one in demand and the other not. -/
def Chip.fbDisagree (c : Chip) : Bool := c.inMode 0 != 0 && c.inMode 1 != 0 && c.inDemand 0 != c.inDemand 1

def Chip.discEvent (c : Chip) (state : Nat) : Chip :=
  c.raise 0x0A03 2 0 (u8 state ++ u8 (c.inClass 0) ++ u8 (c.inClass 1) ++ rsvBytes 1) audFb

def Chip.discrepancyExpiry (c : Chip) : Chip :=
  if c.fbDisagree ∧ ¬ c.fbHarmless ∧ ¬ c.getB FB_STATUS 0 FB_STATUS.DISC then
    (c.upd FB_STATUS 0 [(FB_STATUS.DISC, 1)]).discEvent 1
  else c

/-! ## FBK and the fresh evaluation (R371, R540) -/

/-- A fresh evaluation starts: what the inputs held is discarded. -/
def Chip.freshStart (c : Chip) : Chip :=
  let c := { c with fb.classed := [], boot.fbReady := false }
  c.upd FB_STATUS 0 ((List.range 4).map (fun i => (FB_STATUS.IN_CLASS i, icOff)))

/-- Every input with a `MODE` other than OFF has a filtered class. -/
def Chip.allClassed (c : Chip) : Bool := (List.range 4).all (fun i => c.inMode i == 0 || Tab.get false c.fb.classed i)

/-! ## Outputs -/

/-- An output fault is recorded (R386): only a lower code replaces a recorded one. `OFF_HIGH` beneath a lower code still raises its
event, which Table 12.2 names among its effects. -/
def Chip.recordSoFault (c : Chip) (k code ma : Nat) : Chip :=
  let was := c.getF FB_STATUS 0 (FB_STATUS.SO_FAULT k)
  if was = 0 ∨ code < was then
    let c := c.upd FB_STATUS 0 [(FB_STATUS.SO_FAULT k, code),
      (FB_STATUS.SO_FAULTED, setBit (c.getF FB_STATUS 0 FB_STATUS.SO_FAULTED) k)]
    c.raise 0x0A04 (if code = 3 then 3 else 2) k (u8 code ++ u8 1 ++ u16 ma) audFb
  else if code = 3 ∧ was < 3 then c.raise 0x0A04 3 k (u8 code ++ u8 1 ++ u16 ma) audFb
  else c

/-- A recorded fault clears. -/
def Chip.clearSoFault (c : Chip) (k ma : Nat) : Chip :=
  let was := c.getF FB_STATUS 0 (FB_STATUS.SO_FAULT k)
  if was = 0 then c
  else
    let c := c.upd FB_STATUS 0 [(FB_STATUS.SO_FAULT k, 0),
      (FB_STATUS.SO_FAULTED, clearBit (c.getF FB_STATUS 0 FB_STATUS.SO_FAULTED) k)]
    c.raise 0x0A04 (if was = 3 then 3 else 2) k (u8 was ++ u8 0 ++ u16 ma) audFb

/-- The lowest output that is energisable and open closes (R384). -/
def Chip.soEnergise (c : Chip) : Chip :=
  let on := c.getF FB_STATUS 0 FB_STATUS.SO_ON
  match (List.range 16).find? (fun k => c.soAllowed k && !on.testBit k) with
  | some k => c.upd FB_STATUS 0 [(FB_STATUS.SO_ON, setBit on k)]
  | none => c

/-- An off-pulse test of an energised output's next switch, A and B in turn (R385). -/
def Chip.offPulseTest (c : Chip) (k : Nat) (pass : Bool) : Chip :=
  if !(c.getF FB_STATUS 0 FB_STATUS.SO_ON).testBit k then c
  else
    let sw := 1 - Tab.get 1 c.fb.lastSwitch k
    let c := { c with fb.lastSwitch := Tab.set 1 c.fb.lastSwitch k sw }
    let c := c.incSat FB_STATUS 0 FB_STATUS.OP_CNT FB_STATUS.SAT 1
    if pass then c else c.recordSoFault k (sw + 1) 0

/-- Readback of an output after its dwell (Table 12.2): 3 above 2 V while both switches are open, 4 above 0.9 A, 5 below
`OPEN_LOAD_MA` while energised, 0 an `OPEN_LOAD` current back at or above the threshold. -/
def Chip.soReadback (c : Chip) (k kind ma : Nat) : Chip :=
  let on := (c.getF FB_STATUS 0 FB_STATUS.SO_ON).testBit k
  let thr := c.getF FB_GLOBAL 0 FB_GLOBAL.OPEN_LOAD_MA
  if kind = 3 then (if on then c else c.recordSoFault k 3 ma)
  else if kind = 4 then (if on ∧ 900 < ma then c.recordSoFault k 4 ma else c)
  else if kind = 5 then
    (if on ∧ c.getB FB_OUT_CFG k FB_OUT_CFG.OPEN_LOAD_EN ∧ ma < thr then c.recordSoFault k 5 ma else c)
  else if c.getF FB_STATUS 0 (FB_STATUS.SO_FAULT k) = 5 ∧ thr ≤ ma then c.clearSoFault k ma
  else c

/-- VSAFE becomes low or normal after its dwell (R387); `dv` is its voltage in 0.1 V. -/
def Chip.vsafeChange (c : Chip) (low : Bool) (dv : Nat) : Chip :=
  if c.getB FB_STATUS 0 FB_STATUS.VSAFE_LOW = low ∨ ¬ c.boot.vaon then c
  else
    let b := if low then 1 else 0
    (c.upd FB_STATUS 0 [(FB_STATUS.VSAFE_LOW, b)]).raise 0x0A08 2 0 (u8 b ++ rsvBytes 1 ++ u16 dv) audFb

/-- The Keeper, or the Gatehouse during a Keeper tier hold, runs and may write the heartbeat (R382). -/
def Chip.hbAble (c : Chip) (gatehouse : Bool) : Bool :=
  decide (lvLimited ≤ c.level) && (if gatehouse then c.holding 0 && c.boot.gatehouse else c.boot.keeper)

/-- A heartbeat write (R382): from the Keeper, or from the Gatehouse during a Keeper tier hold. -/
def Chip.heartbeatWrite (c : Chip) (gatehouse : Bool) : Chip :=
  if !c.hbAble gatehouse then c
  else
    let was := c.getB FB_STATUS 0 FB_STATUS.HB_LIVE
    let c := Chip.upd { c with fb.hbLast := c.up } FB_STATUS 0 [(FB_STATUS.HB_LIVE, 1)]
    if was then c else c.raise 0x0A05 2 0 (u8 0 ++ rsvBytes 3) audFb

/-- No heartbeat within `HB_TIMEOUT_MS`: it is lost and the outputs open (R381, R382). -/
def Chip.heartbeatTimeout (c : Chip) : Chip :=
  if c.getB FB_STATUS 0 FB_STATUS.HB_LIVE
    ∧ c.getF FB_GLOBAL 0 FB_GLOBAL.HB_TIMEOUT_MS * 32768 ≤ c.since c.fb.hbLast * 1000 then
    (c.upd FB_STATUS 0 [(FB_STATUS.HB_LIVE, 0)]).raise 0x0A05 2 0 (u8 1 ++ rsvBytes 3) audFb
  else c

/-! ## Warden keys and the safety reset (R379, R380) -/

/-- The function of a warden key. -/
def Chip.keyFunc (c : Chip) (k : Nat) : Nat := c.getF FB_WARDEN_CFG 0 (FB_WARDEN_CFG.KEY_FUNC k)

/-- A judged press acts by its key's function: a trip demand until a safety reset (R379). -/
def Chip.wardenPress (c : Chip) (k : Nat) : Chip :=
  let f := c.keyFunc k
  if 2 ≤ f ∧ f ≤ 4 then
    let c := { c with fb.wardenTrip := setBit c.fb.wardenTrip (f - 2) }
    if c.fbHarmless then c else c.judgeFunc (f - 2)
  else c

/-- The steps of a safety reset (R380); `okMask` names the outputs whose switches both pass and whose readback is normal. -/
def Chip.safetyResetActs (c : Chip) (key okMask : Nat) : Chip :=
  let c := { c with fb.wardenTrip := 0 }
  let free := c.tripped.filter (fun f => !c.funcDemand f && !c.failsafe)
  let c := c.eachOf free (fun c f => c.fbRelease f 1)
  let c := if c.getB FB_STATUS 0 FB_STATUS.DISC ∧ c.inDemand 0 = c.inDemand 1 then
      (c.upd FB_STATUS 0 [(FB_STATUS.DISC, 0)]).discEvent 0 else c
  let bad := (List.range 16).filter c.soLatched
  let c := c.eachOf bad (fun c _ => (c.incSat FB_STATUS 0 FB_STATUS.OP_CNT FB_STATUS.SAT 1).incSat
    FB_STATUS 0 FB_STATUS.OP_CNT FB_STATUS.SAT 1)
  let good := bad.filter okMask.testBit
  let c := c.eachOf good (fun c k => c.clearSoFault k 0)
  c.raise 0x0A09 2 key (u8 (maskOf free) ++ rsvBytes 1 ++ u16 (maskOf good)) audFb

/-- A RESET key that is not stuck has been held for `RESET_HOLD_MS`, and this press has made no safety reset yet (R379). -/
def Chip.resetHeld (c : Chip) (key : Nat) : Bool :=
  c.keyFunc key == 1 && c.fb.keyDown.testBit key && !c.fb.keyStuck.testBit key && !c.fb.resetDone.testBit key && !c.fbHarmless
    && decide (c.getF FB_GLOBAL 0 FB_GLOBAL.RESET_HOLD_MS * 32768 ≤ c.since (Tab.get 0 c.fb.keyPressed key) * 1000)

/-- A RESET key held for `RESET_HOLD_MS` makes a safety reset (R379, R380). -/
def Chip.safetyReset (c : Chip) (key okMask : Nat) : Chip :=
  if c.resetHeld key then Chip.safetyResetActs { c with fb.resetDone := setBit c.fb.resetDone key } key okMask else c

/-! ## Safety configuration (R372, R392) -/

/-- The records of the safety configuration. -/
def fbRecords : List RecDesc := [FB_INPUT_CFG, FB_FUNC_CFG, FB_OUT_CFG, FB_GLOBAL, FB_WARDEN_CFG]

/-- The configuration in force as the Firebreak's array holds it. -/
def Chip.fbConfig (c : Chip) : List (Nat × Nat) :=
  fbRecords.flatMap (fun r => (List.range r.count).map (fun i => (recKey r i, c.img r i)))

/-- `STOP_PORTS` of each function is derived from the fan ports' groups at a commit (R377). -/
def Chip.deriveStopPorts (c : Chip) : Chip :=
  c.each 3 (fun c f =>
    let g := c.getF FB_FUNC_CFG f FB_FUNC_CFG.STOP_GROUPS
    let ports := (List.range 32).filter (fun p => g.testBit (c.getF FAN_PORT_CFG p FAN_PORT_CFG.GROUP))
    c.upd FB_FUNC_CFG f [(FB_FUNC_CFG.STOP_PORTS, maskOf ports)])

/-- A commit refuses while a function is ACTIVE or LATCHED, but for FAILSAFE (R392). -/
def Chip.commitBlocked (c : Chip) : Bool := !c.failsafe && !c.tripped.isEmpty

/-- A commit (R392): both copies take the configuration, it applies, `CFG_SEQ` advances and `CFG_STATE` is VALID; an input whose
`MODE` is now OFF reads OFF (R373). The CRC's byte layout is not stated: a free value. A commit that ends FAILSAFE judges every function afresh (R372). -/
def Chip.fbCommit (c : Chip) (r : RecDesc) (inst : Nat) : Chip :=
  let was := c.failsafe
  let c := c.deriveStopPorts
  let seq := (c.getF FB_CONFIG_INFO 0 FB_CONFIG_INFO.CFG_SEQ + 1) % 2 ^ 32
  let crc := c.freeVal 32
  let c := c.spend
  let copy : FbCopy := ⟨true, seq, c.fbConfig⟩
  let c := { c with fb.copyA := copy, fb.copyB := copy, fb.committed := true }
  let c := c.upd FB_CONFIG_INFO 0 [(FB_CONFIG_INFO.CFG_STATE, 1), (FB_CONFIG_INFO.CFG_SEQ, seq),
    (FB_CONFIG_INFO.CFG_CRC, crc)]
  let c := c.each 4 (fun c i => if c.inMode i = 0 then c.upd FB_STATUS 0 [(FB_STATUS.IN_CLASS i, icOff)] else c)
  let c := if was then c.each 3 (fun c f => if c.funcDemand f then c else c.fbRelease f 2) else c.judgeFuncs
  c.raise 0x0A06 1 0 (u32 seq ++ u32 crc ++ u16 r.id ++ u16 inst) audFb

/-- At VAON the Firebreak loads the valid copy with the higher sequence number; with neither valid it enters FAILSAFE (R372).
Functions start IDLE, with no warden demand, latch or fault, and the counters at zero (R540). -/
def Chip.fbLoad (c : Chip) : Chip :=
  let a := c.fb.copyA
  let b := c.fb.copyB
  let pick := if a.valid ∧ (¬ b.valid ∨ b.seq ≤ a.seq) then some a else if b.valid then some b else none
  let c := { c with fb := { copyA := a, copyB := b, committed := c.fb.committed } }
  let c := c.clearRec FB_STATUS 0
  match pick with
  | some x =>
    let c := c.eachOf x.recs (fun c p => c.restoreRec p.1 p.2)
    let st := if !c.fb.committed then 0 else if a.valid && b.valid then 1 else 2
    c.upd FB_CONFIG_INFO 0 [(FB_CONFIG_INFO.CFG_STATE, st), (FB_CONFIG_INFO.CFG_SEQ, x.seq)]
  | none =>
    let c := c.upd FB_CONFIG_INFO 0 [(FB_CONFIG_INFO.CFG_STATE, 3)]
    let c := c.raise 0x0A07 3 0 (u8 3 ++ rsvBytes 3) audFb
    c.each 3 (fun c f => c.fbTrip f 3)

/-- Who may write a safety configuration record: the estate in a service session with `SERVICE_EN` and `SAFE_KEY` (R392,
Table 3.15). -/
def Chip.mayCommit (c : Chip) (w : Who) : Bool := w == .estate true && c.serviceEn && c.safeKey

/-- What a safety configuration write must satisfy beside its fields' ranges: warden functions 0 to 5. -/
def fbBad (r : RecDesc) (img : Nat) : Bool :=
  r.id == FB_WARDEN_CFG.id && (List.range 64).any (fun k => decide (5 < (FB_WARDEN_CFG.KEY_FUNC k).get img))

/-- A write to a safety configuration record is a commit (R392). A COMMAND output's request clears when its configuration is
committed (R395). -/
def Chip.writeSafety (c : Chip) (x : Ctx) (r : RecDesc) (inst ver img : Nat) : Res :=
  c.setRecord x.h r inst ver img
    { may := c.mayCommit x.who, bad := fbBad r img, state := if c.commitBlocked then stBadState else 0 }
    (fun c _ =>
      let c := if r.id = FB_OUT_CFG.id then c.upd FB_STATUS 0
          [(FB_STATUS.SO_REQ, clearBit (c.getF FB_STATUS 0 FB_STATUS.SO_REQ) inst)] else c
      c.fbCommit r inst)

/-! ## `SO_REQUEST` (R395) -/

def soRequestSpec : CmdSpec where
  opcode := 0x0A10
  classes := [1, 2]
  who := Who.estateOr scChannels
  len := fun n => n == 4

def Chip.soRequest (c : Chip) (h : Hdr) (set clear : Nat) : Chip :=
  c.command h soRequestSpec (fun _ c =>
    let named := bitsOf 16 (set ||| clear)
    checks c [
      ((bitsOf 16 set).any (fun k => !c.soPermit k), stSafetyLock),
      (set &&& clear != 0 || (set == 0 && clear == 0), stBadParam),
      (named.any (fun k => !c.getB FB_OUT_CFG k FB_OUT_CFG.EN || !c.getB FB_OUT_CFG k FB_OUT_CFG.REQ_SRC), stBadState)]
      (fun _ =>
        let req := maskOff (c.getF FB_STATUS 0 FB_STATUS.SO_REQ) clear ||| set
        let c := (c.upd FB_STATUS 0 [(FB_STATUS.SO_REQ, req)]).settleFb
        { chip := c, data := u16 (c.getF FB_STATUS 0 FB_STATUS.SO_REQ) ++ u16 (c.getF FB_STATUS 0 FB_STATUS.SO_ON) }))

end Sys2Proof.Machine
end

