-- ==== Sys2Proof/Machine/ZoneOps.lean ====
section
/-!
DEFINITION. Operations over zones, engines, pergolas and terraces that the rows of chapters 4 to 7 share: tick tables, who runs
where, zone states and their transitions, owner changes, pinning, and the demand the allocator uses.
-/

namespace Sys2Proof.Machine

/-! ## Accessors -/

def Chip.zrt (c : Chip) (z : Nat) : ZoneRt := Tab.get {} c.zones.zone z
def Chip.setZrt (c : Chip) (z : Nat) (x : ZoneRt) : Chip := { c with zones.zone := Tab.set {} c.zones.zone z x }
def Chip.modZrt (c : Chip) (z : Nat) (f : ZoneRt → ZoneRt) : Chip := c.setZrt z (f (c.zrt z))

def Chip.lane (c : Chip) (e : Nat) : Lane := Tab.get {} c.zones.lane e
def Chip.setLane (c : Chip) (e : Nat) (x : Lane) : Chip := { c with zones.lane := Tab.set {} c.zones.lane e x }

def Chip.ter (c : Chip) (t : Nat) : Terrace := Tab.get {} c.zones.terrace t
def Chip.setTer (c : Chip) (t : Nat) (x : Terrace) : Chip := { c with zones.terrace := Tab.set {} c.zones.terrace t x }
def Chip.modTer (c : Chip) (t : Nat) (f : Terrace → Terrace) : Chip := c.setTer t (f (c.ter t))

def Chip.perg (c : Chip) (p : Nat) : Pergola := Tab.get {} c.zones.pergola p
def Chip.setPerg (c : Chip) (p : Nat) (x : Pergola) : Chip := { c with zones.pergola := Tab.set {} c.zones.pergola p x }
def Chip.modPerg (c : Chip) (p : Nat) (f : Pergola → Pergola) : Chip := c.setPerg p (f (c.perg p))

/-- The zones of a terrace, in slot order. -/
def terraceZones (t : Nat) : List Nat := (List.range 256).map (fun s => 256 * t + s)

/-- The pergolas of a terrace. -/
def terracePergolas (t : Nat) : List Nat := (List.range 16).map (fun p => 16 * t + p)

def Chip.zstate (c : Chip) (z : Nat) : Nat := c.getF ZONE_STATUS z ZONE_STATUS.ZSTATE
abbrev zsUnused : Nat := 0
abbrev zsRunning : Nat := 1
abbrev zsFaulted : Nat := 2
abbrev zsDisplaced : Nat := 3

def Chip.tstate (c : Chip) (t : Nat) : Nat := c.getF TERRACE_STATUS t TERRACE_STATUS.TSTATE
abbrev tsInService : Nat := 0
abbrev tsResetting : Nat := 1
abbrev tsOutOfService : Nat := 2
abbrev tsOff : Nat := 3

def Chip.pstate (c : Chip) (p : Nat) : Nat := c.getF PERGOLA_STATUS p PERGOLA_STATUS.PSTATE
abbrev psActive : Nat := 0
abbrev psOff : Nat := 1
abbrev psSpare : Nat := 2
abbrev psResetting : Nat := 3
abbrev psRetired : Nat := 4

def Chip.isolated (c : Chip) (z : Nat) : Bool := c.getB ZONE_STATUS z ZONE_STATUS.ISOLATED

/-- A zone of a plot whose slot is ENROLLED. -/
def Chip.enrolledZone (c : Chip) (z : Nat) : Bool :=
  decide (c.zoneOwner z < 256) && c.slotState (c.zoneOwner z) == slEnrolled

/-- The owner's slot is WIPING. -/
def Chip.wipingZone (c : Chip) (z : Nat) : Bool :=
  decide (c.zoneOwner z < 256) && c.slotState (c.zoneOwner z) == slWiping

/-! ## Tick tables (R134, R135) -/

/-- A tick table entry (Table 4.6). -/
structure Entry where
  slot : Nat
  engine : Nat
  period : Nat
  phase : Nat
  window : Nat
  planEn : Bool
  rsv : Nat
  deriving DecidableEq, Repr

/-- The entry held in eight bytes. -/
def entryOf (v : Nat) : Entry :=
  let f := fun (o w : Nat) => (⟨o, w⟩ : Fld).get v
  ⟨f 0 8, f 8 8, f 16 8, f 24 8, f 32 16, f 48 1 == 1, f 49 15⟩

/-- The entries of a tick table image. -/
def tableEntries (img : Nat) : List Entry :=
  (List.range (TICK_TABLE.ENTRY_COUNT.get img)).map (fun k => entryOf ((TICK_TABLE.ENTRY k).get img))

/-- Frames in a period (Table 4.4), by code. -/
def framesOf (code : Nat) : Nat := [1, 2, 4, 8, 20, 40, 60, 120, 240].getD code 240

/-- The entries of a terrace's active table. -/
def Chip.entries (c : Chip) (t : Nat) : List Entry := tableEntries (c.img TICK_TABLE t)

/-- The zone's entry in its terrace's active table. -/
def Chip.entry (c : Chip) (z : Nat) : Option Entry := (c.entries (z / 256)).find? (fun x => x.slot == z % 256)

/-- The zone is listed with `EN` = 1. -/
def Chip.listedOn (c : Chip) (z : Nat) : Bool := (c.entry z).isSome && c.getB ZONE_CFG z ZONE_CFG.EN

/-- The zone's period T as fx32 seconds (Table 4.4): 0.25 s is 0x4000. A zone outside the table counts as a 60 s zone. -/
def Chip.periodFx (c : Chip) (z : Nat) : Int :=
  match c.entry z with
  | some x => (framesOf x.period * 16384 : Nat)
  | none => 240 * 16384

/-- The zone's period in ms. -/
def Chip.periodMs (c : Chip) (z : Nat) : Nat :=
  match c.entry z with
  | some x => framesOf x.period * 250
  | none => 60000

/-- The zone takes part in planning (`PLAN_EN`, Table 4.6). -/
def Chip.planEn (c : Chip) (z : Nat) : Bool :=
  match c.entry z with
  | some x => x.planEn
  | none => false

/-- A pergola can run zones: it is neither being reset nor retired. -/
def Chip.pergolaUp (c : Chip) (p : Nat) : Bool := c.pstate p != psResetting && c.pstate p != psRetired

/-- The local engine on which the entries of a home engine run now: a spare after a migration, else the home engine while its
pergola is up (R147). -/
def Chip.engineNow (c : Chip) (t home : Nat) : Option Nat :=
  match (c.ter t).moves.find? (fun m => m.1 == home) with
  | some m => some m.2
  | none => if c.pergolaUp (16 * t + home / 4) && !(c.perg (16 * t + home / 4)).migrate then some home else none

/-- `ENGINE` and `HOME_ENGINE` of a terrace's zones follow the active table and the migrations (Table 4.15). -/
def Chip.showEngines (c : Chip) (t : Nat) : Chip :=
  c.eachOf (terraceZones t) (fun c z =>
    match c.entry z with
    | some x =>
      let now := match c.engineNow t x.engine with
        | some e => 64 * t + e
        | none => 0xFF
      c.upd ZONE_STATUS z [(ZONE_STATUS.ENGINE, now), (ZONE_STATUS.HOME_ENGINE, 64 * t + x.engine)]
    | none => c.upd ZONE_STATUS z [(ZONE_STATUS.ENGINE, 0xFF), (ZONE_STATUS.HOME_ENGINE, 0xFF)])

/-- `PSTATE` of a terrace's pergolas that are neither resetting nor retired follows the entries and the spares (Table 4.17),
and `SPARE_BUSY` the migrations. -/
def Chip.showPergolas (c : Chip) (t : Nat) : Chip :=
  let es := c.entries t
  let moves := (c.ter t).moves
  let spares := c.getF TICK_TABLE t TICK_TABLE.SPARE_MASK
  let c := c.eachOf (terracePergolas t) (fun c p =>
    if !c.pergolaUp p then c
    else
      let mine := fun (e : Nat) => e / 4 == p % 16
      let used := es.any (fun x => mine x.engine) || moves.any (fun m => mine m.2)
      let spare := (bitsOf 64 spares).any mine
      c.upd PERGOLA_STATUS p [(PERGOLA_STATUS.PSTATE, if used then psActive else if spare then psSpare else psOff)])
  c.upd TERRACE_STATUS t [(TERRACE_STATUS.SPARE_BUSY, maskOf (moves.map Prod.snd))]

/-! ## Pinning (R141, R142) -/

/-- In a table's entries for a terrace, a plot's zones share no engine with another owner. -/
def Chip.pinnedIn (c : Chip) (t : Nat) (es : List Entry) (p : Nat) : Bool :=
  let mine := fun (x : Entry) => c.zoneOwner (256 * t + x.slot) == p
  es.all (fun x => !mine x || es.all (fun y => y.engine != x.engine || mine y))

/-- `EFFECTIVE` of a plot: a terrace satisfies R141, or the plot has no zone there. -/
def Chip.showIsolation (c : Chip) (p : Nat) : Chip :=
  let eff := maskOf ((List.range 4).filter (fun t => c.pinnedIn t (c.entries t) p))
  c.upd PLOT_ISOLATION p [(PLOT_ISOLATION.EFFECTIVE, eff)]

/-- `EFFECTIVE` of every plot after a table has become active. -/
def Chip.showIsolations (c : Chip) : Chip := c.each 256 Chip.showIsolation

/-! ## Relay tests and models that end with their zone -/

/-- The model link of a zone changes: in the context and in the copy of an engine that has it loaded (R206). -/
def Chip.modLink (c : Chip) (z : Nat) (f : Link → Link) : Chip :=
  let c := c.modZrt z (fun x => { x with link := f x.link })
  c.each 64 (fun c k =>
    let e := 64 * (z / 256) + k
    let l := c.lane e
    if l.zone = some z then c.setLane e { l with link := f l.link } else c)

def Chip.modModel (c : Chip) (z : Nat) (f : Model → Model) : Chip := c.modZrt z (fun x => { x with model := f x.model })

/-- A relay test ends without results (R209): the earlier gains stay, `RELAY_FAM` returns to 3 and `TUNE_FAILED` is raised. -/
def Chip.endTest (c : Chip) (z cause : Nat) : Chip :=
  let c := c.modModel z (fun m => { m with testDue := none })
  match (c.zrt z).model.test with
  | none => c
  | some r =>
    let c := c.modModel z (fun m => { m with test := none })
    let c := c.modLink z (fun k => { k with relayFam := 3, relayHigh := false })
    let c := c.upd TUNE_STATUS z [(TUNE_STATUS.TSTATE r.fam, 3), (TUNE_STATUS.CAUSE r.fam, cause)]
    let d := u8 r.fam ++ u8 cause ++ rsvBytes 2
    c.raiseZone 0x0403 2 z d d

/-- The temperature history of R200 restarts: no two consecutive `MUPD` steps stand one period apart. -/
def Chip.restartHistory (c : Chip) (z : Nat) : Chip := c.modModel z (fun m => { m with temps := [] })

/-- The arbiter's offsets of one zone of a pair are zero (R226). -/
def Fight.zero (z : Nat) (f : Fight) : Fight :=
  if f.heater = z then { f with hh := 0, hc := 0 } else if f.cooler = z then { f with ch := 0, cc := 0 } else f

/-- The zone's plan is invalid (R222): `PSTATE` NONE, `PLAN_OK` cleared, the arbiter's offsets zero (R226). -/
def Chip.planInvalid (c : Chip) (z : Nat) : Chip :=
  let c := c.upd ZONE_PLAN z [(ZONE_PLAN.PSTATE, 0), (ZONE_PLAN.ARB_HEAT, 0), (ZONE_PLAN.ARB_COOL, 0), (ZONE_PLAN.FIGHT, 0)]
  let c := { c with zones.fights := c.zones.fights.map (Fight.zero z) }
  (c.modLink z (fun k => { k with planOk := false })).modZrt z (fun x => { x with offs := [] })

/-- The zone drops out of the running planning round and its result is discarded (R228, R230). -/
def Chip.dropRound (c : Chip) (z : Nat) : Chip := { c with zones.plan := Tab.del z c.zones.plan }

/-! ## Zone state transitions (Table 4.10) -/

/-- A lane is scrubbed (R111, R147): all but the last user of its identification bank. -/
def Lane.scrubbed (l : Lane) : Lane := { bankUser := l.bankUser }

/-- The context of a zone leaves every engine: a tick under way is discarded. -/
def Chip.unload (c : Chip) (z : Nat) : Chip :=
  c.each 64 (fun c k =>
    let e := 64 * (z / 256) + k
    if (c.lane e).zone = some z then c.setLane e (c.lane e).scrubbed else c)

/-- The allocator's latch of a zone takes its fallback copy (R19, R261). -/
def Chip.latchFallback (c : Chip) (z : Nat) : Chip := c.modZrt z (fun x => { x with latch := x.fallback })

/-- A zone leaves RUNNING: its ports take the fallback demands and a running relay test ends with `STATE` (R209). -/
def Chip.leaveRunning (c : Chip) (z new : Nat) : Chip :=
  let c := c.upd ZONE_STATUS z [(ZONE_STATUS.ZSTATE, new)]
  (c.latchFallback z).endTest z 4

/-- RUNNING → UNUSED: dropped from the table, `EN` cleared, or the terrace is off. A FAULTED zone stays FAULTED. -/
def Chip.zoneUnused (c : Chip) (z : Nat) : Chip :=
  if c.zstate z = zsRunning then c.leaveRunning z zsUnused else c

/-- RUNNING → DISPLACED, the tick under way discarded. -/
def Chip.displace (c : Chip) (z : Nat) : Chip :=
  if c.zstate z = zsRunning then (c.unload z).leaveRunning z zsDisplaced else c

/-- A zone may run now: its terrace is in service, an engine carries its entry, and its owner's slot is not WIPING. -/
def Chip.canRun (c : Chip) (z : Nat) : Bool :=
  c.tstate (z / 256) == tsInService && !c.wipingZone z &&
    (match c.entry z with
     | some x => (c.engineNow (z / 256) x.engine).isSome
     | none => false)

/-- DISPLACED → RUNNING where nothing displaces the zone any more. -/
def Chip.undisplace (c : Chip) (z : Nat) : Chip :=
  if c.zstate z = zsDisplaced ∧ c.canRun z then c.upd ZONE_STATUS z [(ZONE_STATUS.ZSTATE, zsRunning)] else c

/-- The counters of `ZONE_STATUS` clear (R157). -/
def zoneCounters : List (Fld × Nat) :=
  [(ZONE_STATUS.RUN_CNT, 0), (ZONE_STATUS.FAULT_CNT, 0), (ZONE_STATUS.SAT_CNT, 0), (ZONE_STATUS.CNT_SAT, 0),
   (ZONE_STATUS.CYC_LAST, 0), (ZONE_STATUS.CYC_MAX, 0)]

/-- A fault of the zone that runs, or is due, on an engine (R144): counted, reported, the tick's write-back discarded. -/
def Chip.zoneFault (c : Chip) (e z code step : Nat) : Chip :=
  let c := c.setLane e (c.lane e).scrubbed
  let c := if c.zstate z = zsRunning then c.leaveRunning z zsFaulted else
    c.upd ZONE_STATUS z [(ZONE_STATUS.ZSTATE, zsFaulted)]
  let c := c.upd ZONE_STATUS z [(ZONE_STATUS.FAULT_CODE, code), (ZONE_STATUS.FAULT_STEP, step)]
  let c := c.incSat ZONE_STATUS z ZONE_STATUS.FAULT_CNT ZONE_STATUS.CNT_SAT 1
  let c := c.restartHistory z
  let d := u8 code ++ u8 step
  c.raiseZone 0x0200 2 z d d

/-! ## Model state (Table 6.5) -/

/-- A change of `MSTATE` raises its events, to the owner given (R205, R107). -/
def Chip.setMState (c : Chip) (z new owner : Nat) : Chip :=
  let old := (c.zrt z).link.mstate
  if old = new then c
  else
    let c := c.modLink z (fun k => { k with mstate := new })
    let c := c.modModel z (fun m => { m with heldSince := if new = 3 then some c.now else none })
    let c := c.upd MODEL_COEF z [(MODEL_COEF.MSTATE, new), (MODEL_COEF.SINCE, c.now),
      (MODEL_COEF.VALID, if new = 2 ∨ new = 3 then 1 else 0)]
    let d := u8 old ++ u8 new
    let c := c.raiseMasked 0x0400 0 z d (if owner < 256 then rsvBytes 2 else d) (audZone owner 0)
    if new = 4 then c.raiseMasked 0x0401 2 z [] [] (audZone owner 2) else c

/-- The model is usable (R205). -/
def Chip.modelUsable (c : Chip) (z : Nat) : Bool := (c.zrt z).link.mstate == 2 || (c.zrt z).link.mstate == 3

/-- The gains in force of a family, as `TUNE_STATUS` shows them (Table 6.17). -/
def Chip.showGains (c : Chip) (z f : Nat) : Chip :=
  let k := (c.zrt z).link
  let g := k.gains.getD f (0, 0)
  let src := if !k.gainsOk.testBit f then 0 else if k.gainsModel.testBit f then 2 else 1
  c.upd TUNE_STATUS z [(TUNE_STATUS.SOURCE f, src), (TUNE_STATUS.KP f, if src = 0 then 0 else g.1),
    (TUNE_STATUS.TI f, if src = 0 then 0 else g.2)]

/-- The model is no longer usable (R211): every family returns to its relay gains if it has any, else has none. -/
def Chip.modelGainsEnd (c : Chip) (z : Nat) : Chip :=
  c.each 3 (fun c f =>
    if (c.zrt z).link.gainsModel.testBit f then
      let relay := (c.zrt z).model.relayGains.find? (fun p => p.1 == f)
      let c := c.modLink z (fun k => match relay with
        | some p => { k with gains := (k.gains ++ List.replicate 3 (0, 0)).take 3 |>.set f p.2,
                             gainsModel := clearBit k.gainsModel f }
        | none => { k with gainsOk := clearBit k.gainsOk f, gainsModel := clearBit k.gainsModel f })
      c.showGains z f
    else c)

/-- Entry into NONE or INVALID: model-derived gains end (R211) and the plan is invalid (R222). -/
def Chip.modelLost (c : Chip) (z new owner : Nat) : Chip :=
  ((c.setMState z new owner).modelGainsEnd z).planInvalid z

/-- The estimate at its reset values is the empty table of θ and P: `thetaOf` and `covOf` of the model give what an unlisted
entry reads as (R203). The counts since the estimate's reset start again; the history area and the dropped neighbours stay. -/
def Chip.resetEstimate (c : Chip) (z : Nat) : Chip :=
  let c := c.modModel z (fun m => { m with theta := [], cov := [] })
  let c := c.modLink z (fun k => { k with pubSeq := 0 })
  c.upd MODEL_COEF z [(MODEL_COEF.UPDATES, 0), (MODEL_COEF.UPD_SAT, 0)]

/-- The published block is cleared: coefficients and couplings. -/
def Chip.clearBlock (c : Chip) (z : Nat) : Chip :=
  let c := c.modModel z (fun m => { m with published := none })
  c.upd MODEL_COEF z ((List.range 16).map (fun k => (MODEL_COEF.COEF k, 0)) ++ (List.range 8).map (fun k => (MODEL_COEF.GN k, 0)))

/-! ## Owner changes (R155) and class words (R131) -/

def pclass (cfg n : Nat) : Nat := (ZONE_CFG.PCLASS n).get cfg

/-- `PDEF` is copied into the words P48 to P63 of the given classes (R131). -/
def Chip.copyPdef (c : Chip) (z : Nat) (which : Nat → Bool) : Chip :=
  let cfg := c.img ZONE_CFG z
  let ws := (List.range 16).filter (fun n => which (pclass cfg n))
  c.upd ZONE_PARAMS z (ws.map (fun n => (ZONE_PARAMS.P (48 + n), (ZONE_CFG.PDEF n).get cfg)))

/-- Class-1 and class-2 words. -/
def plotClass (k : Nat) : Bool := k == 1 || k == 2

/-- The zones of a plot, ascending. -/
def Chip.plotZones (c : Chip) (p : Nat) : List Nat := bitsOf 1024 (c.getF PLOT_ZONES p PLOT_ZONES.ZONE_MAP)

/-- Everything of a zone that R155 overwrites, except its configuration: state words, bindings, model, tuning, profile,
timeline, plan, occupancy, schedule and the running means. -/
def Chip.wipePrivate (c : Chip) (z owner : Nat) : Chip :=
  let c := c.endTest z 4
  let c := c.clearRec ZONE_STATE z
  let c := c.clearRec ZONE_BINDINGS z
  let c := c.dropRound z
  let c := c.setMState z 0 owner
  let c := c.resetEstimate z
  let c := c.clearBlock z
  let c := c.clearRec MODEL_COEF z
  let c := c.clearRec TUNE_STATUS z
  let c := c.clearRec OCC_TIMELINE z
  let c := c.clearRec PRESENCE_PROFILE z
  let c := c.clearRec ZONE_PLAN z
  let c := c.clearRec ZONE_OCC z
  let c := c.clearRec ZONE_SCHEDULE z
  let c := c.modZrt z (fun x => { x with model := {}, est := 0, estAt := none, acc := [], means := [], occMs := 0,
                                         valMs := 0, lqOcc := 0, lqVal := 0 })
  c.modLink z (fun _ => {})

/-- `PLOT_ZONES` of a plot gains or loses a zone. -/
def Chip.plotHolds (c : Chip) (p z : Nat) (b : Bool) : Chip :=
  if 256 ≤ p then c
  else
    let m := putBit (c.getF PLOT_ZONES p PLOT_ZONES.ZONE_MAP) z b
    c.upd PLOT_ZONES p [(PLOT_ZONES.ZONE_MAP, m), (PLOT_ZONES.COUNT, (bitsOf 1024 m).length)]

/-- A zone's owner has changed from `old` (R155): the areas are overwritten, P48 to P63 take `PDEF`, the counters clear and the
next tick is a first tick. -/
def Chip.ownerChanged (c : Chip) (z old : Nat) : Chip :=
  let new := c.zoneOwner z
  let c := c.wipePrivate z old
  let c := c.copyPdef z (fun _ => true)
  let c := c.clearRec PLAN_PREFS z
  let c := c.upd ZONE_STATUS z ((ZONE_STATUS.FIRST_TICK, 1) :: zoneCounters)
  let c := (c.plotHolds old z false).plotHolds new z true
  let c := if c.wipingZone z then c.displace z else c.undisplace z
  let c := if old < 256 then c.showIsolation old else c
  if new < 256 then c.showIsolation new else c

/-! ## Demands (R143, R19) -/

/-- The demand the allocator uses for a port: zero if isolated, the fallback copy unless the zone is RUNNING, else the latch. -/
def Chip.portDemand (c : Chip) (z p : Nat) : Nat :=
  let x := c.zrt z
  if c.isolated z then 0
  else (⟨16 * p, 16⟩ : Fld).get (if c.zstate z = zsRunning then x.latch else x.fallback)

/-- The 128 bits of `FALLBACK` in a zone's configuration. -/
def fallbackOf (cfg : Nat) : Nat := (⟨128, 128⟩ : Fld).get cfg

/-- The allocator takes a zone's configured fallback demands (R19). -/
def Chip.takeFallback (c : Chip) (z : Nat) : Chip :=
  let f := fallbackOf (c.img ZONE_CFG z)
  c.modZrt z (fun x => { x with fallback := f, latch := if c.zstate z = zsRunning then x.latch else f })

/-! ## Sums for the quarter-hour means (R105) -/

def Acc.add (a : Acc) (v : Int) : Acc := ⟨a.sum + v, a.n + 1⟩

/-- A sample of a control tick: the thermal estimate is number 24. -/
def ZoneRt.sample (x : ZoneRt) (k : Nat) (v : Int) : ZoneRt :=
  { x with acc := Tab.set {} x.acc k ((Tab.get {} x.acc k).add v) }

end Sys2Proof.Machine
end

