-- ==== Sys2Proof/Machine/Schedules.lean ====
section
/-!
DEFINITION. Schedules (R178, R193): the entry in force at a local time and the adjustments for a plot's limits; the records
`ZONE_SCHEDULE` and `ZONE_SCHED_DEF`.
-/

namespace Sys2Proof.Machine

/-- An entry of a schedule (Table 5.12). -/
structure SchedEntry where
  days : Nat
  mode : Nat
  minute : Nat
  heat : Int
  cool : Int
  deriving DecidableEq, Repr

/-- The 16 entries of a schedule image; both records have one layout. -/
def schedEntries (img : Nat) : List SchedEntry :=
  (List.range 16).map (fun k =>
    ⟨(ZONE_SCHEDULE.DAYS k).get img, (ZONE_SCHEDULE.MODE k).get img, (ZONE_SCHEDULE.MINUTE k).get img,
     toSigned 16 ((ZONE_SCHEDULE.SP_HEAT k).get img), toSigned 16 ((ZONE_SCHEDULE.SP_COOL k).get img)⟩)

/-- Local seconds of a time in ticks as weekday (Monday 0) and second of the day; 2000-01-01 is a Saturday. -/
def weekSecond (local_ : Int) : Nat × Nat :=
  let s := Int.fdiv local_ 32768
  let days := Int.fdiv s 86400
  (((days + 5) % 7).toNat, (s - days * 86400).toNat)

/-- How many minutes back, in the week, an entry's day and minute lie from a minute of the week. -/
def schedBack (minuteOfWeek day minute : Nat) : Nat := (minuteOfWeek + 10080 - (1440 * day + minute) % 10080) % 10080

/-- The entry in force at a minute of the week: the latest used day and minute, the higher index at a tie (R178). -/
def schedInForce (es : List SchedEntry) (minuteOfWeek : Nat) : Option SchedEntry :=
  let cands := es.flatMap (fun e => (bitsOf 7 e.days).map (fun d => (schedBack minuteOfWeek d e.minute, e)))
  (cands.foldl (fun (best : Option (Nat × SchedEntry)) x =>
    match best with
    | some b => if x.1 ≤ b.1 then some x else best
    | none => some x) none).map Prod.snd

/-- The next entry of the given mode after a minute of the week (R215). -/
def schedNext (es : List SchedEntry) (minuteOfWeek mode : Nat) : Option SchedEntry :=
  let cands := (es.filter (fun e => e.mode == mode)).flatMap (fun e => (bitsOf 7 e.days).map (fun d =>
    ((1440 * d + e.minute + 10080 - minuteOfWeek) % 10080, e)))
  (cands.foldl (fun (best : Option (Nat × SchedEntry)) x =>
    match best with
    | some b => if x.1 < b.1 then some x else best
    | none => some x) none).map Prod.snd

/-- The schedule a zone reads (R178). -/
def Chip.scheduleOf (c : Chip) (z : Nat) : List SchedEntry :=
  let own := schedEntries (c.img ZONE_SCHEDULE z)
  if c.enrolledZone z && own.any (fun e => e.days != 0) then own else schedEntries (c.img ZONE_SCHED_DEF z)

/-- What the schedule gives at a local time: mode, heating and cooling setpoint in 0.01 °C, and whether the plot's limits changed
any of them (R178). -/
structure SchedOut where
  mode : Nat
  heat : Int
  cool : Int
  lim : Bool
  deriving DecidableEq, Repr

def Chip.limitsOf (c : Chip) (p : Nat) : Int × Int :=
  (c.getS PLOT_LIMITS p PLOT_LIMITS.SP_MIN, c.getS PLOT_LIMITS p PLOT_LIMITS.SP_MAX)

/-- The adjustments for a plot (R178), in their order. -/
def Chip.schedAdjust (c : Chip) (p minute : Nat) (o : SchedOut) : SchedOut :=
  let lim := c.limitsOf p
  let inWin := decide (c.getF PLOT_LIMITS p PLOT_LIMITS.OCC_EARLIEST ≤ minute
    ∧ minute ≤ c.getF PLOT_LIMITS p PLOT_LIMITS.OCC_LATEST)
  let mode := if o.mode = 1 ∧ ¬ inWin then 2 else o.mode
  let heat := clampI lim.1 lim.2 o.heat
  let cool := clampI lim.1 lim.2 o.cool
  let cool := if cool < heat then heat else cool
  ⟨mode, heat, cool, mode != o.mode || heat != o.heat || cool != o.cool⟩

def Chip.schedAt (c : Chip) (z : Nat) (local_ : Int) : SchedOut :=
  let ws := weekSecond local_
  let minute := ws.2 / 60
  let o : SchedOut := match schedInForce (c.scheduleOf z) (1440 * ws.1 + minute) with
    | some e => ⟨e.mode, e.heat, e.cool, false⟩
    | none => ⟨0, 1600, 2800, false⟩
  let owner := c.zoneOwner z
  if owner < 256 then c.schedAdjust owner minute o else o

/-- What a schedule write must satisfy beside its ranges: `DAYS` bit 7 clear is a reserved bit; a used entry's heating setpoint
is not above its cooling setpoint; in `ZONE_SCHEDULE`, used entries lie inside the owner's bounds (R193). -/
def schedBad (img : Nat) (bounds : Option (Int × Int)) : Bool :=
  (schedEntries img).any (fun e =>
    decide (2 < e.mode) || decide (1439 < e.minute) || (e.days != 0 && decide (e.cool < e.heat))
    || (e.days != 0 && match bounds with
        | some b => decide (e.heat < b.1) || decide (b.2 < e.heat) || decide (e.cool < b.1) || decide (b.2 < e.cool)
        | none => false))

/-- `ZONE_SCHEDULE`: the owning plot, while its slot is ENROLLED (R193). -/
def Chip.writeSchedule (c : Chip) (x : Ctx) (inst ver img : Nat) : Res :=
  let o := c.zoneOwner inst
  c.setRecord x.h ZONE_SCHEDULE inst ver img
    { may := x.who == .plot o && c.enrolledZone inst, bad := schedBad img (some (c.limitsOf o)) } (fun c _ => c)

/-- `ZONE_SCHED_DEF`: the estate (R193). -/
def Chip.writeSchedDef (c : Chip) (x : Ctx) (inst ver img : Nat) : Res :=
  c.setRecord x.h ZONE_SCHED_DEF inst ver img { may := x.who.estateOnly, bad := schedBad img none } (fun c _ => c)

end Sys2Proof.Machine
end

