-- ==== Sys2Proof/Machine/Models.lean ====
section
/-!
DEFINITION. The identification unit (R198 to R211): the zone model, its update and validity, publication, the tuned gains and
the relay test. Arithmetic is in Q16.32; roundings the spec does not state are left free (assumption 4).
-/

namespace Sys2Proof.Machine

/-! ## Numbers -/

abbrev q32 : Int := 4294967296

/-- A result that the unit's six-byte format cannot hold is not stated (Table 6.1). -/
def q48 (v : Int) : Int := if -(2 ^ 47) ≤ v ∧ v < 2 ^ 47 then v else Config.unstated 203 [v]

def mulQ (a b : Int) : Int := q48 (divFree 203 (a * b) q32)
def divQ (a b : Int) : Int := q48 (divFree 203 (a * q32) b)
def sumQ (l : List Int) : Int := q48 (l.foldl (· + ·) 0)

/-- A coefficient as fx32: a value outside the format is not stated (R202). -/
def coefFx (no : Nat) (v : Int) : Int := if -(2 ^ 31) ≤ v ∧ v < 2 ^ 31 then v else Config.unstated 202 [no, v]

/-! ## Regressors (R199 to R201) -/

/-- Ports of the three families: heat, cool, air. -/
def Chip.famPort (c : Chip) (z f : Nat) : Nat :=
  c.getF MODEL_CFG z (if f = 0 then MODEL_CFG.HEAT_PORT else if f = 1 then MODEL_CFG.COOL_PORT else MODEL_CFG.AIR_PORT)

def Chip.neighbour (c : Chip) (z n : Nat) : Nat := c.getF ZONE_CFG z (ZONE_CFG.NEIGHBOUR n)
def Chip.nbDropped (c : Chip) (z n : Nat) : Bool := (c.getF MODEL_COEF z MODEL_COEF.NB_DROPPED).testBit n

/-- A neighbour entry takes part in the model at all. -/
def Chip.nbIncluded (c : Chip) (z n : Nat) : Bool :=
  decide (c.neighbour z n < 1024) && (c.getF MODEL_CFG z MODEL_CFG.NB_MASK).testBit n

/-- The regressor of parameter `i` is excluded (Table 6.2): its parameter is zero. A dropped neighbour is left out but its
parameter is frozen (R201). -/
def Chip.excluded (c : Chip) (z i : Nat) : Bool :=
  if i < 2 then false
  else if i < 5 then c.famPort z (i - 2) == 0xFF
  else if i = 5 then c.getF MODEL_CFG z MODEL_CFG.AMB_BIND == 0xFF
  else if i = 6 then c.getF MODEL_CFG z MODEL_CFG.SOL_BIND == 0xFF
  else if i = 7 then !c.getB MODEL_CFG z MODEL_CFG.OCC_IN
  else if i < 16 then !c.nbIncluded z (i - 8)
  else false

/-- Parameter `i` of θ: a reset estimate holds a1 = −1 and zero elsewhere (R203). -/
def thetaReset (i : Nat) : Int := if i = 0 then -q32 else 0
def Chip.theta (c : Chip) (z i : Nat) : Int :=
  if c.excluded z i then 0 else Tab.get (thetaReset i) (c.zrt z).model.theta i

/-- The place of entry (i, j) of the upper triangle. -/
def covIdx (i j : Nat) : Nat := let a := min i j; let b := max i j; 17 * a - a * (a - 1) / 2 + (b - a)

/-- Entry (i, j) of P: reset 1000 on the diagonal of every included parameter (R203). -/
def covReset (i j : Nat) : Int := if i = j then 1000 * q32 else 0
def Chip.cov (c : Chip) (z i j : Nat) : Int :=
  if c.excluded z i || c.excluded z j then 0 else Tab.get (covReset i j) (c.zrt z).model.cov (covIdx i j)

/-- The neighbour's estimate as a zone of the same owner reads it, if it is fresh (R174): published no more than twice the
neighbour's period before the load. -/
def Chip.freshEstimate (c : Chip) (nz loadAt : Nat) : Option Int :=
  match (c.zrt nz).estAt with
  | some t => if c.zstate nz = zsRunning ∧ (loadAt - t) * 1000 ≤ 2 * c.periodMs nz * 32768 then some (c.zrt nz).est else none
  | none => none

/-- The neighbour's value of R201: its estimate for the same owner, else its latest 15 min mean while fresh for 30 min. -/
def Chip.nbValue (c : Chip) (z n loadAt : Nat) : Option Int :=
  let nz := c.neighbour z n
  if c.zoneOwner nz = c.zoneOwner z then c.freshEstimate nz loadAt
  else
    let x := c.zrt nz
    match x.means.find? (fun m => m.1 == 24) with
    | some m => if c.now ≤ x.meanAt + 1800 * ticksPerSecond then some m.2 else none
    | none => none

/-- A neighbour's freshness is noted with the instant it last changed (R201). -/
def Chip.trackNeigh (c : Chip) (z n loadAt : Nat) : Chip :=
  let fresh := (c.nbValue z n loadAt).isSome
  let x := Tab.get { since := c.now } (c.zrt z).model.neigh n
  let new : Neigh := if x.fresh = fresh then x else ⟨fresh, c.now⟩
  c.modModel z (fun m => { m with neigh := Tab.set {} m.neigh n new })

/-- `NEIGHBOUR_DROP`: a value not fresh for 600 s drops the neighbour; one fresh for 600 s lets it rejoin (R201). -/
def Chip.neighbourDrop (c : Chip) (z n : Nat) : Chip :=
  if !c.nbIncluded z n || c.level < lvFull then c
  else
    let c := c.trackNeigh z n c.up
    let x := Tab.get {} (c.zrt z).model.neigh n
    let m := c.getF MODEL_COEF z MODEL_COEF.NB_DROPPED
    if c.now < x.since + 600 * ticksPerSecond then c
    else c.upd MODEL_COEF z [(MODEL_COEF.NB_DROPPED, putBit m n !x.fresh)]

/-- A demand the allocator reported faulted or overridden in its period stands in the demand history as this. -/
abbrev demMissing : Nat := 0x1FFFF

/-- A dead time in ticks of the zone: `DEAD` over T, to the nearest, at most 16 (R199). -/
def deadTicks (deadS : Nat) (periodFx : Int) : Nat :=
  (clampI 0 16 (divRound (deadS * 65536) periodFx.toNat)).toNat

/-- `DEAD` as the next publish takes it: the last successful relay test, else `DEAD_CFG` (Table 6.3). -/
def Chip.deadS (c : Chip) (z : Nat) : Nat := ((c.zrt z).model.dead).getD (c.getF MODEL_CFG z MODEL_CFG.DEAD_CFG)

/-- `DEAD` in force: coefficient 5 of the published block, since a measured dead time waits for the next publish (R199, R208);
`DEAD_CFG` while nothing is published. -/
def Chip.deadInForce (c : Chip) (z : Nat) : Nat :=
  if (c.zrt z).model.published.isSome then c.getF MODEL_COEF z (MODEL_COEF.COEF 5) / 65536
  else c.getF MODEL_CFG z MODEL_CFG.DEAD_CFG

/-- The regressor vector: `some 0` for an excluded entry, none for a missing one (Table 6.2). -/
def Chip.regressors (c : Chip) (z : Nat) : List (Option Int) :=
  let m := (c.zrt z).model
  let t1 := m.temps[0]?
  let t2 := m.temps[1]?
  let d := deadTicks (c.deadInForce z) (c.periodFx z)
  let dem := fun (f : Nat) => match m.demands[d]? with
    | some l => if l.getD f demMissing = demMissing then none else some ((l.getD f 0 : Nat) * 65536 : Int)
    | none => none
  let inp := fun (i : Nat) => (m.inputs.getD i none)
  let raw := fun (i : Nat) =>
    if i = 0 then t1.map (fun t => -t * 65536)
    else if i = 1 then t2.map (fun t => -t * 65536)
    else if i < 5 then dem (i - 2)
    else if i < 8 then inp (i - 5)
    else if i < 16 then
      (match inp (i - 5), t1 with
       | some v, some t => some (v - t * 65536)
       | _, _ => none)
    else some q32
  (List.range 17).map (fun i =>
    if c.excluded z i || (decide (8 ≤ i) && decide (i < 16) && c.nbDropped z (i - 8)) then some 0 else raw i)

/-- The inputs a completed tick leaves for the next update: ambient, solar, occupancy and the eight neighbours, in Q16.32. -/
def Chip.tickInputs (c : Chip) (l : Lane) (z : Nat) (fresh : Nat → Option Int) : List (Option Int) :=
  let bind := fun (k : Nat) => if k < 16 then fresh k else none
  let amb := (bind (c.getF MODEL_CFG z MODEL_CFG.AMB_BIND)).map (· * 65536)
  let sol := (bind (c.getF MODEL_CFG z MODEL_CFG.SOL_BIND)).map (fun v => divFree 200 (v * 65536) 1000)
  let occ := match l.occ with
    | some (st, _, out, _) => if st = 4 then none else some (if out = 1 then q32 else 0)
    | none => none
  [amb, sol, occ] ++ (List.range 8).map (fun n => if c.nbIncluded z n then (c.nbValue z n l.loadAt).map (· * 65536) else none)

/-! ## Published coefficients (R202) -/

/-- Terms of the neighbour sum that are neither excluded nor dropped. -/
def Chip.nbTerms (c : Chip) (z : Nat) : List Nat :=
  (List.range 8).filter (fun n => c.nbIncluded z n && !c.nbDropped z n)

/-- D of R202. -/
def Chip.balance (c : Chip) (z : Nat) : Int :=
  q32 + c.theta z 0 + c.theta z 1 + (c.nbTerms z).foldl (fun s n => s + c.theta z (8 + n)) 0

/-- `coefficient / D` as fx32. -/
def perD (no : Nat) (v d : Int) : Int := coefFx no (divFree 202 (v * 65536) d)

/-- `TAU1` and `TAU2` in fx32, before the format's limit: −T/ln p for the roots p1 ≥ p2 of z² + a1·z + a2. -/
def Chip.timeConstants (c : Chip) (z : Nat) : Int × Int :=
  let a1 := c.theta z 0
  let a2 := c.theta z 1
  let t := (c.periodFx z).toNat
  let r : Int := sqrtFloor ((a1 * a1 - 4 * a2 * q32) * 2 ^ 128).toNat
  let s := -a1 * 2 ^ 64
  let tau := fun (no : Nat) (lo hi : Int) => timeConstant 202 t (Int.fdiv lo 2).toNat (Int.fdiv hi 2 + 1).toNat [no, a1, a2, t]
  (tau 3 (s + r) (s + r + 1), tau 4 (s - r - 1) (s - r))

/-- `FIT` in fx32: the root of the weighted mean of the squared innovations. -/
def fitFx (fit : Int) : Int :=
  let r := sqrtFloor fit.toNat
  within 202 [12, fit] (r / 65536 : Nat) ((r + 1) / 65536 + 1 : Nat)

/-- Coefficients 0 to 15 (Table 6.3) at the regressor values of this update. The prediction for the next tick rests on regressors that are
not yet known and is left free. -/
def Chip.coefficients (c : Chip) (z : Nat) (phi : List Int) : List Int :=
  let d := c.balance z
  let th := c.theta z
  let t := c.periodFx z
  let m := (c.zrt z).model
  let sumG := (c.nbTerms z).foldl (fun s n => s + th (8 + n)) 0
  let t1 := (m.temps[0]?).getD 0
  let nbSum := (c.nbTerms z).foldl (fun s n => s + mulQ (th (8 + n)) (phi.getD (8 + n) 0 + t1 * 65536)) 0
  let eq := mulQ (th 5) (phi.getD 5 0) + mulQ (th 6) (phi.getD 6 0) + mulQ (th 7) (phi.getD 7 0) + nbSum + th 16
  let upd : Int := c.getF MODEL_COEF z MODEL_COEF.UPDATES
  [perD 0 (th 2) d, perD 1 (-(th 3)) d, perD 2 (th 4) d,
   coefFx 3 (c.timeConstants z).1, coefFx 4 (c.timeConstants z).2,
   coefFx 5 (c.deadS z * 65536), perD 6 eq d, perD 7 (th 5) d, perD 8 (th 6) d, perD 9 (th 7) d, perD 10 sumG d,
   perD 11 (th 16) d, coefFx 12 (fitFx m.fit), coefFx 13 (Config.unstated 202 (13 :: phi)),
   coefFx 14 (divFree 202 (upd * t) 3600), 0]

/-- Gn = gn / D of the neighbour entries. -/
def Chip.couplings (c : Chip) (z : Nat) : List Int :=
  (List.range 8).map (fun n => if c.nbIncluded z n && !c.nbDropped z n then perD 16 (c.theta z (8 + n)) (c.balance z) else 0)

/-! ## Validity (R204) -/

/-- The checks of Table 6.4 on the coefficients of this update. -/
def Chip.modelPasses (c : Chip) (z : Nat) (k gn : List Int) : Bool :=
  let upd : Int := c.getF MODEL_COEF z MODEL_COEF.UPDATES
  let t := c.periodFx z
  let a1 := c.theta z 0
  let a2 := c.theta z 1
  let m := (c.zrt z).model
  let co := fun (i : Nat) => k.getD i 0
  let inc := fun (f : Nat) => !c.excluded z (2 + f)
  let v1 := decide (360 ≤ upd ∧ 21600 * 65536 ≤ upd * t)
  let v2 := (List.range 3).all (fun f => !inc f || decide (25 * q32 ≤ 10000 * Tab.get 0 m.exc (3 + f)))
  let v3 := decide (4 * a2 * q32 ≤ a1 * a1 ∧ 0 < a2 ∧ a1 < 0 ∧ 0 < q32 + a1 + a2 ∧ -2 * q32 < a1)
    && decide ((c.timeConstants z).1 ≤ 1209600 * 65536 ∧ t ≤ (c.timeConstants z).2)
  let v4 := decide (0 < c.balance z)
  let gain := fun (g : Int) => decide (65536 ≤ 10 * g ∧ g ≤ 40 * 65536)
  let v5 := (!inc 0 || gain (co 0)) && (!inc 1 || gain (co 1)) && decide (-(40 * 65536) ≤ co 2 ∧ co 2 ≤ 40 * 65536)
  let v6 := gn.all (fun g => decide (-65536 ≤ 100 * g)) && decide (10 * co 10 ≤ 9 * 65536)
  let v7 := decide (100 * co 12 ≤ c.getF MODEL_CFG z MODEL_CFG.FIT_MAX * 65536)
  let v8 := decide (-(50 * 65536) ≤ co 6 ∧ co 6 ≤ 100 * 65536)
  v1 && v2 && v3 && v4 && v5 && v6 && v7 && v8

/-! ## Gains (R210, R211) -/

def Link.gain (k : Link) (f : Nat) : Nat × Nat := k.gains.getD f (0, 0)
def Link.setGain (k : Link) (f : Nat) (g : Nat × Nat) : Link :=
  { k with gains := ((k.gains ++ List.replicate 3 (0, 0)).take 3).set f g }

/-- The target gains of a family from the published coefficients (R210): 0 where the family's gain is below 0.1 K. -/
def Chip.targetGain (c : Chip) (z f : Nat) (k : List Int) : Option (Nat × Nat) :=
  let co := fun (i : Nat) => k.getD i 0
  let g := if f = 2 then (if co 2 < 0 then -(co 2) else co 2) else co f
  if 10 * g < 65536 then none
  else
    let cl : Int := c.getF MODEL_CFG z MODEL_CFG.CL_RATIO
    let tau := 2 * co 3 + co 4
    let th := 2 * co 5 + co 4
    let a := tau * 65536
    let b := max (th * 65536) (cl * tau) + th * 65536
    let kp := divRound (a * 65536 * 4096) (g * b).toNat
    let ti := divRound (min a (4 * b)) (2 * 65536 * 65536)
    some ((clampI 1 65535 kp).toNat, (clampI 1 65535 ti).toNat)

/-- A gain moves toward its target by at most 10 % of its present value per hour since its last move, and at least one unit. -/
def gainStep (have_ want elapsed : Nat) : Nat :=
  let lim := max 1 (divRound ((have_ * elapsed : Nat) : Int) (10 * 3600 * ticksPerSecond)).toNat
  if have_ < want then min want (have_ + lim) else max want (have_ - lim)

/-- `GAIN_MOVE` at a publish (R210). -/
def Chip.moveGains (c : Chip) (z : Nat) (k : List Int) : Chip :=
  c.each 3 (fun c f =>
    match c.targetGain z f k with
    | none =>
      if (c.zrt z).link.gainsModel.testBit f then
        let relay := (c.zrt z).model.relayGains.find? (fun p => p.1 == f)
        (c.modLink z (fun l => match relay with
          | some p => { l.setGain f p.2 with gainsModel := clearBit l.gainsModel f }
          | none => { l with gainsOk := clearBit l.gainsOk f, gainsModel := clearBit l.gainsModel f })).showGains z f
      else c
    | some t =>
      let l := (c.zrt z).link
      let g := l.gain f
      let at_ := (c.zrt z).model.moved.find? (fun p => p.1 == f)
      let el := match at_ with
        | some p => c.now - p.2
        | none => 0
      let new := if l.gainsOk.testBit f then (gainStep g.1 t.1 el, gainStep g.2 t.2 el) else t
      let c := c.modLink z (fun l => { l.setGain f new with gainsOk := setBit l.gainsOk f, gainsModel := setBit l.gainsModel f })
      (c.modModel z (fun m => { m with moved := Tab.ins f c.now (Tab.del f m.moved) })).showGains z f)

/-! ## The update (R203, R205) -/

/-- A saturating count with its `UPD_SAT` bit. -/
def Chip.countUpdate (c : Chip) (z : Nat) : Chip :=
  let v := satInc 32 (c.getF MODEL_COEF z MODEL_COEF.UPDATES)
  c.upd MODEL_COEF z [(MODEL_COEF.UPDATES, v), (MODEL_COEF.UPD_SAT, if v = 2 ^ 32 - 1 then 1 else 0)]

/-- P·φ. -/
def Chip.covPhi (c : Chip) (z : Nat) (phi : List Int) : List Int :=
  (List.range 17).map (fun i => sumQ ((List.range 17).map (fun j => mulQ (c.cov z i j) (phi.getD j 0))))

/-- The recursive-least-squares update of R203. -/
def Chip.rls (c : Chip) (z : Nat) (phi : List Int) (innov : Int) : Chip :=
  let t := c.periodFx z
  let memH := c.getF MODEL_CFG z MODEL_CFG.MEM_H
  let lam := q32 - divFree 203 (t * 65536) (3600 * memH)
  let pp := c.covPhi z phi
  let den := sumQ (lam :: (List.range 17).map (fun i => mulQ (phi.getD i 0) (pp.getD i 0)))
  let g := pp.map (fun v => divQ v den)
  let frozen := fun (i : Nat) => c.excluded z i || (decide (8 ≤ i) && decide (i < 16) && c.nbDropped z (i - 8))
  let theta := (List.range 17).map (fun i => if frozen i then c.theta z i else q48 (c.theta z i + mulQ (g.getD i 0) innov))
  let cov := fun (i j : Nat) => divQ (c.cov z i j - mulQ (g.getD i 0) (pp.getD j 0)) lam
  let trace := sumQ ((List.range 17).map (fun i => cov i i))
  let lim := fun (v : Int) => if 17000 * q32 < trace then divFree 203 (v * (17000 * q32)) trace else v
  let pairs := (List.range 17).flatMap (fun i => ((List.range 17).filter (fun j => decide (i ≤ j))).map (fun j => (i, j)))
  let th := (List.range 17).foldl (fun tab i => Tab.set (thetaReset i) tab i (theta.getD i 0)) (c.zrt z).model.theta
  let cv := pairs.foldl (fun tab p => Tab.set (covReset p.1 p.2) tab (covIdx p.1 p.2) (lim (cov p.1 p.2))) (c.zrt z).model.cov
  (c.modModel z (fun m => { m with theta := th, cov := cv })).countUpdate z

/-- The accumulators of fit and excitation take this update (R202, R204). How the weights are formed is not stated: a mean ends between
its old value and the new sample, a variance between zero and what the new sample can add. -/
def Chip.accumulate (c : Chip) (z : Nat) (phi : List Int) (innov : Int) : Chip :=
  let t := c.periodFx z
  let memH : Int := c.getF MODEL_CFG z MODEL_CFG.MEM_H
  c.modModel z (fun m =>
    let exc := (List.range 3).foldl (fun e f =>
      let mean := Tab.get 0 e f
      let var := Tab.get 0 e (3 + f)
      let u := phi.getD (2 + f) 0
      Tab.set 0 (Tab.set 0 e f (within 204 [0, mean, u, t, memH] (min mean u) (max mean u))) (3 + f)
        (within 204 [1, mean, var, u, t, memH] 0 (var + (u - mean) * (u - mean) / q32 + 1))) m.exc
    { m with fit := within 202 [16, m.fit, innov, t] (min m.fit (innov * innov)) (max m.fit (innov * innov)), exc := exc })

/-- `MODEL_PUBLISH`: the coefficients are written and `PUB_SEQ` advances (R205). -/
def Chip.publish (c : Chip) (z : Nat) (k gn : List Int) : Chip :=
  let c := c.upd MODEL_COEF z ((List.range 16).map (fun i => (MODEL_COEF.COEF i, ofSigned 32 (k.getD i 0)))
    ++ (List.range 8).map (fun i => (MODEL_COEF.GN i, ofSigned 32 (gn.getD i 0))))
  let c := c.modModel z (fun m => { m with published := some c.now })
  let c := c.modLink z (fun l => { l with pubSeq := satInc 32 l.pubSeq })
  c.moveGains z k

/-- The model state after an update that was not skipped (Table 6.5); a passing one publishes. The flag says it published. -/
def Chip.judgeModel (c : Chip) (z : Nat) (phi : List Int) : Chip × Bool :=
  let st := (c.zrt z).link.mstate
  let owner := c.zoneOwner z
  let k := c.coefficients z phi
  let gn := c.couplings z
  let c := if st = 0 then c.setMState z 1 owner else c
  if c.modelPasses z k gn then ((c.setMState z 2 owner).publish z k gn, true)
  else if st = 2 then (c.setMState z 3 owner, false)
  else (c, false)

/-- One `MUPD`: the chip after it, the innovation as fx32, and whether the model was published (R203, R186). -/
def Chip.modelUpdate (c : Chip) (z : Nat) (y : Int) : Chip × Int × Bool :=
  let m := (c.zrt z).model
  let phi := c.regressors z
  let full := (List.range 17).map (fun i => match phi.getD i none with
    | some v => v
    | none => Config.unstated 203 [i])
  let noPred := m.temps.length < 2
  let innov := if noPred then 0
    else y * 65536 - sumQ ((List.range 17).map (fun i => mulQ (full.getD i 0) (c.theta z i)))
  let fx := divFree 203 innov 65536
  let push := fun (c : Chip) =>
    (c.modModel z (fun m => { m with temps := (y :: m.temps).take 2 })).modLink z (fun l => { l with
      delay := deadTicks (c.deadInForce z) (c.periodFx z) })
  if noPred ∨ phi.any Option.isNone then
    (push (c.upd MODEL_COEF z [(MODEL_COEF.SKIPPED, 1)]), fx, false)
  else
    let c := c.rls z full innov
    let c := c.accumulate z full innov
    let c := c.upd MODEL_COEF z [(MODEL_COEF.SKIPPED, 0)]
    let r := c.judgeModel z full
    (push r.1, fx, r.2)

/-- `MODEL_HELD_TIMEOUT`: 24 h in HELD without a break make the model INVALID (R205). -/
def Chip.modelHeldTimeout (c : Chip) (z : Nat) : Chip :=
  match (c.zrt z).model.heldSince with
  | some t => if (c.zrt z).link.mstate = 3 ∧ t + 86400 * ticksPerSecond ≤ c.now then c.modelLost z 4 (c.zoneOwner z) else c
  | none => c

/-- The period of the zone ends at its load (R258, R200): the applied demands become the newest entry of the demand history, and
`AGE` of the published block is brought up to date. -/
def Chip.periodEnds (c : Chip) (z : Nat) : Chip :=
  let c := c.modZrt z (fun x =>
    let mean := fun (p : Nat) => if x.appN = 0 then 0 else Tab.get 0 x.appSum p / x.appN
    let dem := (List.range 3).map (fun f =>
      let p := c.famPort z f
      if 8 ≤ p then 0 else if x.badNow.testBit p then demMissing else mean p)
    { x with applied := (List.range 8).foldl (fun t p => Tab.set 0 t p (mean p)) [],
             appBad := x.badNow, appLim := x.limNow, badNow := 0, limNow := 0, appSum := [], appN := 0,
             model := { x.model with demands := (dem :: x.model.demands).take 17 } })
  match (c.zrt z).model.published with
  | some t =>
    let s := min (divFree 202 ((c.now - t : Nat) * 65536) 32768) (2 ^ 31 - 1)
    c.upd MODEL_COEF z [(MODEL_COEF.COEF 15, ofSigned 32 s)]
  | none => c

/-! ## Relay tests (R207 to R209) -/

/-- A relay test starts at the zone's tick (R207). -/
def Chip.relayStart (c : Chip) (z f : Nat) : Chip :=
  let amp := c.getF MODEL_CFG z MODEL_CFG.TUNE_AMP
  let bias := c.getF MODEL_CFG z MODEL_CFG.TUNE_BIAS
  let c := c.modLink z (fun k => { k with
    hiLvl := min (bias + amp) 0xFFFF, loLvl := bias - amp, eps := c.getF MODEL_CFG z MODEL_CFG.TUNE_EPS, relayFam := f,
    relayHigh := false })
  let c := c.modModel z (fun m => { m with test := some { fam := f, start := c.now }, testDue := none })
  c.upd TUNE_STATUS z [(TUNE_STATUS.TSTATE f, 1)]

/-- `AUTO_TUNE_START`: the lowest family that meets the conditions of R207 starts its test. -/
def Chip.autoTuneStart (c : Chip) (z : Nat) : Chip :=
  let k := (c.zrt z).link
  let m := (c.zrt z).model
  let ok := c.getB MODEL_CFG z MODEL_CFG.AUTO_TUNE && m.test.isNone && !c.modelUsable z && c.zstate z == zsRunning
    && c.level == lvFull && (c.schedAt z c.localTime).mode == 0
  if !ok then c
  else match (List.range 3).find? (fun f => !k.gainsOk.testBit f && c.famPort z f != 0xFF) with
    | some f => c.relayStart z f
    | none => c

/-- The measured values of a test over its last `n` cycles: periods in ticks, peak-to-peak amplitudes, times from each switch
to the next extreme, and the sum of high-level time over them. -/
def Relay.periods (r : Relay) (n : Nat) : List Nat :=
  let k := r.switches.length
  (List.range n).map (fun j => r.switches.getD (k - 1 - 2 * j) 0 - r.switches.getD (k - 3 - 2 * j) 0)

def Relay.peaks (r : Relay) (n : Nat) : List Int :=
  let k := r.extremes.length
  (List.range n).map (fun j =>
    let d := (r.extremes.getD (k - 1 - 2 * j) (0, 0)).1 - (r.extremes.getD (k - 2 - 2 * j) (0, 0)).1
    if d < 0 then -d else d)

/-- Delays from a switch to the extreme of the half it starts, over the last `2 n` halves. -/
def Relay.delays (r : Relay) (n : Nat) : List Nat :=
  let k := r.extremes.length
  (List.range (2 * n)).map (fun j => (r.extremes.getD (k - 1 - j) (0, 0)).2 - r.switches.getD (k - 2 - j) 0)

/-- Every value lies within a percentage of the mean of all. -/
def withinMean (l : List Int) (percent : Int) : Bool :=
  let s := l.foldl (· + ·) 0
  let n : Int := l.length
  l.all (fun v => decide ((if v * n < s then s - v * n else v * n - s) * 100 ≤ percent * s))

/-- Ticks at the high level between the switches of the last `n` cycles. The halves alternate, the last one ended now. -/
def Relay.highTime (r : Relay) (n : Nat) (lastHigh : Bool) : Nat :=
  let k := r.switches.length
  (List.range (2 * n)).foldl (fun s j =>
    let half := r.switches.getD (k - 1 - j) 0 - r.switches.getD (k - 2 - j) 0
    if (j % 2 == 0) == lastHigh then s + half else s) 0

/-- `TUNE_DONE` (R208): the results of a test over its last `n` cycles. -/
def Chip.relayDone (c : Chip) (z : Nat) (r : Relay) (n : Nat) (lastHigh : Bool) : Chip :=
  let k := (c.zrt z).link
  let f := r.fam
  let pu : Nat := (r.periods n).foldl (· + ·) 0
  let pp : Int := (r.peaks n).foldl (· + ·) 0
  let args : List Int := [k.hiLvl, k.loLvl, pp, n, k.eps]
  let w16 := fun (v : Int) => (clampI 0 65535 v).toNat
  let root := (pp * 100 * (pp * 100) - (k.eps * 65536 * 2 * n : Nat) * (k.eps * 65536 * 2 * n : Nat)).toNat
  let ku := w16 (overPiRoot 208 (102400 * n * (k.hiLvl - k.loLvl)) root (0 :: args))
  let kp := max 1 (w16 (overPiRoot 208 (512000 * n * (k.hiLvl - k.loLvl)) root (1 :: args)))
  let puS := w16 (divFree 208 pu (n * 32768 : Nat))
  let ti := max 1 (w16 (divFree 208 (22 * pu) (10 * n * 32768 : Nat)))
  let dead := min 3600 (divFree 208 ((r.delays n).foldl (· + ·) 0 : Nat) (2 * n * 32768 : Nat)).toNat
  let high := r.highTime n lastHigh
  let mean := w16 (divFree 208 (k.hiLvl * high + k.loLvl * (pu - high) : Nat) pu)
  let c := c.modModel z (fun m => { m with
    test := none, dead := some dead, relayGains := Tab.ins f (kp, ti) (Tab.del f m.relayGains) })
  let c := c.modLink z (fun l =>
    let l := if l.gainsModel.testBit f then l else l.setGain f (kp, ti)
    { l with gainsOk := setBit l.gainsOk f, relayFam := 3, relayHigh := false, bumpless := true, bumpFam := f, meanOut := mean })
  let c := c.upd TUNE_STATUS z [(TUNE_STATUS.TSTATE f, 2), (TUNE_STATUS.CAUSE f, 0), (TUNE_STATUS.KU f, ku),
    (TUNE_STATUS.PU f, puS), (TUNE_STATUS.MEAN_OUT f, mean), (TUNE_STATUS.DEAD_MEAS f, dead)]
  let c := c.showGains z f
  c.raiseZone 0x0402 1 z (u8 f ++ rsvBytes 3) (u8 f ++ rsvBytes 3)

/-- A test is judged after a switch (R208, R209): complete with its last `TUNE_CYCLES` cycles inside the tolerances, or
INCONSISTENT four cycles later. -/
def Chip.judgeRelay (c : Chip) (z : Nat) (r : Relay) : Chip :=
  let n := c.getF MODEL_CFG z MODEL_CFG.TUNE_CYCLES
  let k := r.switches.length
  if k % 2 = 1 ∨ k < 2 * n + 2 then c
  else
    let cycles := k / 2 - 1
    let amp : Int := (r.peaks n).foldl (· + ·) 0
    let big := decide (((((c.zrt z).link.eps * 65536 * 2 * n : Nat)) : Int) < amp * 100)
    if withinMean ((r.periods n).map Int.ofNat) 20 && withinMean (r.peaks n) 25 && big then c.relayDone z r n (!r.high)
    else if n + 4 ≤ cycles then c.endTest z 7
    else c

/-- `ATUN` while its family is under test (R208): the level that the relay gives for an error, with its bookkeeping. -/
def Chip.relayStep (c : Chip) (z : Nat) (r : Relay) (e : Int) (now : Nat) : Chip × Bool :=
  let k := (c.zrt z).link
  let above := decide ((k.eps : Int) * 65536 < e * 100)
  let below := decide (e * 100 < -((k.eps : Int) * 65536))
  let high := if !r.begun then decide (0 ≤ e) else if above then true else if below then false else r.high
  let r' : Relay :=
    if !r.begun then { r with begun := true, high := high, ext := e, extAt := now, idle := 0 }
    else if high ≠ r.high then
      { r with high := high, switches := r.switches ++ [now], extremes := r.extremes ++ [(r.ext, r.extAt)], ext := e,
               extAt := now, idle := 0 }
    else if (r.high && decide (r.ext < e)) || (!r.high && decide (e < r.ext)) then { r with ext := e, extAt := now, idle := 0 }
    else { r with idle := 0 }
  let c := c.modModel z (fun m => { m with test := some r' })
  let c := c.modLink z (fun l => { l with relayHigh := high })
  let abs := if e < 0 then -e else e
  let c := if (c.getF MODEL_CFG z MODEL_CFG.TUNE_BAND : Int) * 65536 < abs * 100 then c.endTest z 1
    else if r.begun ∧ high ≠ r.high then c.judgeRelay z r'
    else c
  (c, high)

/-- `RELAY_TEST_END`: a cause of Table 6.7 that does not arise at an `ATUN` step: TIMEOUT, PORT, TIER or NO_ATUN (R209). -/
def Chip.relayTestEnd (c : Chip) (z : Nat) : Chip :=
  match (c.zrt z).model.test with
  | none => c
  | some r =>
    let p := c.famPort z r.fam
    let x := c.zrt z
    if c.level < lvFull then c.endTest z 5
    else if r.start + c.getF MODEL_CFG z MODEL_CFG.TUNE_MAX_H * 3600 * ticksPerSecond ≤ c.now then c.endTest z 2
    else if p < 8 ∧ ((x.appBad ||| x.appLim ||| x.badNow ||| x.limNow).testBit p) then c.endTest z 3
    else if 10 ≤ r.idle then c.endTest z 8
    else c

/-! ## Commands (R239) -/

def modelResetSpec : CmdSpec where
  opcode := 0x0400
  classes := [2]
  who := Who.estateOnly
  len := fun n => n == 4

/-- `MODEL_RESET`. -/
def Chip.modelReset (c : Chip) (h : Hdr) (z what : Nat) : Chip :=
  c.command h modelResetSpec (fun _ c => checks c [
    (decide (1023 < z), stBadParam),
    (what == 0 || decide (15 < what) || h.prsv != 0, stBadParam),
    (c.wipingZone z, stBadState)]
    (fun _ =>
      let o := c.zoneOwner z
      let c := if what.testBit 0 then ((c.modelLost z 0 o).resetEstimate z).clearBlock z else c
      let c := if what.testBit 1 then
          let c := c.endTest z 4
          let c := c.modModel z (fun m => { m with relayGains := [], dead := none })
          let c := c.modLink z (fun k => { k with gainsOk := k.gainsOk &&& k.gainsModel, bumpless := false, meanOut := 0 })
          let c := c.upd TUNE_STATUS z ((List.range 3).flatMap (fun f => [(TUNE_STATUS.TSTATE f, 0), (TUNE_STATUS.CAUSE f,
            c.getF TUNE_STATUS z (TUNE_STATUS.CAUSE f)), (TUNE_STATUS.KU f, 0), (TUNE_STATUS.PU f, 0),
            (TUNE_STATUS.MEAN_OUT f, 0), (TUNE_STATUS.DEAD_MEAS f, 0)]))
          c.each 3 (fun c f => c.showGains z f)
        else c
      let c := if what.testBit 2 then (c.clearRec PRESENCE_PROFILE z).clearRec OCC_TIMELINE z else c
      let c := if what.testBit 3 then (c.planInvalid z).dropRound z else c
      { chip := c }))

def tuneStartSpec : CmdSpec where
  opcode := 0x0401
  classes := [1, 2]
  who := Who.estateOr scChannels
  len := fun n => n == 4
  level := lvFull

/-- `TUNE_START`: the test starts at the zone's next tick. -/
def Chip.tuneStart (c : Chip) (h : Hdr) (z fam : Nat) : Chip :=
  c.command h tuneStartSpec (fun _ c => checks c [
    (decide (1023 < z), stBadParam),
    (decide (2 < fam) || h.prsv != 0, stBadParam),
    (c.zstate z != zsRunning || (c.zrt z).model.test.isSome || (c.zrt z).model.testDue.isSome || c.famPort z fam == 0xFF,
      stBadState)]
    (fun _ => { chip := c.modModel z (fun m => { m with testDue := some fam }) }))

def tuneAbortSpec : CmdSpec where
  opcode := 0x0402
  classes := [1, 2]
  who := Who.estateOr scChannels
  len := fun n => n == 4

/-- `TUNE_ABORT`. -/
def Chip.tuneAbort (c : Chip) (h : Hdr) (z : Nat) : Chip :=
  c.command h tuneAbortSpec (fun _ c => checks c [
    (decide (1023 < z), stBadParam), (h.prsv != 0, stBadParam)]
    (fun _ => { chip := c.endTest z 6 }))

/-- A `MODEL_CFG` image names a port above 7, a binding above 15, or one port for two families (R231). -/
def modelCfgBad (img : Nat) : Bool :=
  let f := fun (k : Fld) => k.get img
  let ports := [f MODEL_CFG.HEAT_PORT, f MODEL_CFG.COOL_PORT, f MODEL_CFG.AIR_PORT]
  let badPort := ports.any (fun p => decide (7 < p) && p != 0xFF)
  let badBind := [f MODEL_CFG.AMB_BIND, f MODEL_CFG.SOL_BIND].any (fun b => decide (15 < b) && b != 0xFF)
  let two := fun (a b : Nat) => a == b && a != 0xFF
  let same := two (ports.getD 0 0) (ports.getD 1 0) || two (ports.getD 0 0) (ports.getD 2 0)
    || two (ports.getD 1 0) (ports.getD 2 0)
  badPort || badBind || same

/-- The fields whose change resets the estimate (R203). -/
def regressorFields : List Fld :=
  [ MODEL_CFG.HEAT_PORT, MODEL_CFG.COOL_PORT, MODEL_CFG.AIR_PORT, MODEL_CFG.AMB_BIND, MODEL_CFG.SOL_BIND, MODEL_CFG.OCC_IN, MODEL_CFG.NB_MASK]

/-- `MODEL_CFG` (R231): a change of ports, bindings or masks resets the estimate; VALID then becomes HELD (R203). -/
def Chip.modelCfgWrite (c : Chip) (x : Ctx) (inst ver img : Nat) : Res :=
  c.setRecord x.h MODEL_CFG inst ver img { may := x.who.estateOnly, bad := modelCfgBad img }
    (fun c old =>
      if regressorFields.any (fun k => k.get old != c.getF MODEL_CFG inst k) then
        let c := c.resetEstimate inst
        if (c.zrt inst).link.mstate = 2 then c.setMState inst 3 (c.zoneOwner inst) else c
      else c)

end Sys2Proof.Machine
end

