-- ==== Sys2Proof/Machine/Programs.lean ====
section
/-!
DEFINITION. The zone program instruction set (R164 to R186): step fields, checks, costs, and what each of the 48 opcodes does to
the engine that executes it. Every opcode is a function of its own; `execStep` fetches, checks, charges and executes one step.
-/

namespace Sys2Proof.Machine

/-! ## Steps (R164) -/

/-- The fields of a step word, both forms. -/
structure Step where
  op : Nat
  d : Nat
  a : Nat
  b : Nat
  parm : Nat
  imm : Nat
  deriving DecidableEq, Repr

def stepOf (w : Nat) : Step :=
  ⟨w / 2 ^ 26 % 64, w / 2 ^ 21 % 32, w / 2 ^ 16 % 32, w / 2 ^ 11 % 32, w % 2 ^ 11, w % 2 ^ 16⟩

/-- The bits below the opcode that a step uses (Table 5.5, R164): `d`, `a`, `b` where used, and a mask of the low bits. -/
def usedBits (op : Nat) : Nat :=
  let d := 0x3E00000
  let a := 0x1F0000
  let b := 0xF800
  match op with
  | 0x00 => 0 | 0x01 => d + a | 0x02 => d + 0xFFFF | 0x03 => d + 0xFFFF
  | 0x04 => d + 0x3F | 0x05 => d + 0x3F | 0x06 => d + 0x3F | 0x07 => a + 0x3F
  | 0x08 => d + a + b | 0x09 => d + a + b | 0x0A => d + a + b | 0x0B => d + a + b
  | 0x0C => d + a + 0xFFFF | 0x0D => d + a + 0xFFFF | 0x0E => d + a | 0x0F => d + a
  | 0x10 => d + a + b | 0x11 => d + a + b | 0x12 => d + a + b | 0x13 => d + a
  | 0x14 => d + a + b + 7 | 0x15 => d + a + b | 0x16 => 0x3FF | 0x17 => 0x3FF
  | 0x18 => d + a + b + 0x3F | 0x19 => d + a + b + 0x3F
  | 0x1A => d + a + b + 0x3F | 0x1B => d + a + b + 0x3F | 0x1C => d + a + b + 0x3F | 0x1D => d + a + b + 0x3F
  | 0x1E => d + 0xF | 0x1F => d + 0xF | 0x20 => d + 0xFFFF | 0x21 => d + a + b + 0x7FF
  | 0x22 => d + 3 | 0x23 => d + 3 | 0x24 => d + 0xF | 0x25 => d + a + b + 0x7FF | 0x26 => d + a + b + 0x7FF
  | 0x27 => d + a + 3 | 0x28 => d + a + b + 3 | 0x29 => d + 7 | 0x2A => a | 0x2B => a + 7
  | 0x2C => d + 7 | 0x2D => a + 0x7FF | 0x2E => d + a | 0x2F => d + 0xF
  | _ => 0

/-- Words of a stored image (R188): steps first, then constants. -/
def imgSteps (img : Nat) : Nat := (⟨8, 8⟩ : Fld).get img
def imgConsts (img : Nat) : Nat := (⟨16, 8⟩ : Fld).get img
def imgWord (img k : Nat) : Nat := (⟨128 + 32 * k, 32⟩ : Fld).get img
def imgConst (img k : Nat) : Int := toSigned 32 (imgWord img (imgSteps img + k))

/-- The x values of a table rise strictly (R171). -/
def tableRises (n : Nat) (get : Nat → Int) : Bool :=
  (List.range (n - 1)).all (fun j => decide (get (2 * j) < get (2 * j + 2)))

/-- The checks of R168 on one step at its place in a program: 0, or the `REASON` of Table 5.6 it breaks (3, 4 or 5). -/
def stepCheck (img idx : Nat) : Nat :=
  let w := imgWord img idx
  let s := stepOf w
  let k := s.parm % 64
  let n := s.b
  let i := s.imm % 64
  let bad : Bool := match s.op with
    | 0x04 => decide (imgConsts img ≤ i)
    | 0x12 => s.b == 31
    | 0x14 => decide (5 < s.parm)
    | 0x16 => decide (5 < s.imm / 128) || s.imm % 128 == 0
    | 0x17 => decide (5 < s.imm / 128) || s.imm % 128 == 0
    | 0x18 => decide (n < 2 ∨ 16 < n ∨ imgConsts img < i + 2 * n) || !tableRises n (fun j => imgConst img (i + j))
    | 0x19 => decide (n < 2 ∨ 16 < n ∨ 64 < i + 2 * n)
    | 0x1C => s.b == 31
    | 0x20 => s.imm == 0
    | 0x21 => decide (61 < k)
    | 0x22 => decide (2 < s.imm)
    | 0x23 => decide (2 < s.imm)
    | 0x24 => decide (4 < s.imm)
    | 0x25 => decide (60 < k)
    | 0x26 => decide (59 < k)
    | 0x27 => decide (1 < s.imm)
    | 0x28 => decide (2 < s.parm)
    | _ => false
  if 0x2F < s.op then 3
  else if w % 2 ^ 26 &&& usedBits s.op ≠ w % 2 ^ 26 ∨ bad then 4
  else if (s.op = 0x16 ∨ s.op = 0x17) ∧ imgSteps img ≤ idx + 1 + s.imm % 128 then 5
  else 0

/-- Cycles of a step (Table 5.5); for `MUPD` without the wait. -/
def stepCost (s : Step) : Nat :=
  if s.op = 0x18 ∨ s.op = 0x19 then 4 + 2 * s.b
  else if s.op = 0x20 then 4 + 2 * (bitsOf 16 s.imm).length
  else [2, 2, 2, 2, 2, 3, 3, 3, 2, 2, 3, 18, 2, 3, 2, 2, 2, 2, 3, 2, 2, 2, 2, 2, 0, 0, 5, 5, 4, 5, 4, 4, 0, 8, 12, 6, 3, 24,
    28, 20, 6, 5, 3, 3, 2, 4, 70, 4].getD s.op 0

/-- Worst-case cycles of a program (R189): every step, `MUPD` as 325. -/
def imgWcet (img : Nat) : Nat :=
  (List.range (imgSteps img)).foldl (fun t k =>
    let s := stepOf (imgWord img k)
    t + (if s.op = 0x2E then 325 else stepCost s)) 0

/-- The wait of a `MUPD` issued at a cycle, for its lane's next quantum (R138, R186). -/
def mupdWait (cycle lane : Nat) : Nat := (64 * lane + 256 - (cycle + 6) % 256) % 256

/-! ## fx32 arithmetic (R165) -/

/-- The value limited to fx32. -/
def sat32 (v : Int) : Int := clampI (-(2 ^ 31)) (2 ^ 31 - 1) v
/-- The value had to be limited. -/
def sats (v : Int) : Bool := sat32 v != v
abbrev fxOne : Int := 65536
def fxMul (a b : Int) : Int := divRound (a * b) 65536
/-- A quotient rounded to the nearest, ties away from zero; the divisor may be negative. -/
def fxQuot (a b : Int) : Int := if b < 0 then divRound (-a) (-b).toNat else divRound a b.toNat
def fxDiv (a b : Int) : Int := fxQuot (a * 65536) b
/-- A setpoint in 0.01 °C as fx32. -/
def centiFx (v : Int) : Int := divRound (v * 65536) 100
/-- A value as q16 (R184). -/
def fxQ16 (v : Int) : Nat := if v ≤ 0 then 0 else if 0xFFFF ≤ v then 0xFFFF else v.toNat

/-! ## The engine's registers -/

def Chip.modLane (c : Chip) (e : Nat) (f : Lane → Lane) : Chip := c.setLane e (f (c.lane e))

abbrev flZ : Nat := 0
abbrev flN : Nat := 1
abbrev flC : Nat := 2
abbrev flSat : Nat := 3
abbrev flStale : Nat := 4
abbrev flInv : Nat := 5
abbrev flLim : Nat := 6

def Lane.W (l : Lane) (i : Nat) : Int := Tab.get 0 l.w i
def Lane.flag (l : Lane) (k : Nat) (b : Bool) : Lane := { l with flags := putBit l.flags k b }
/-- `Z` and `N` follow the value of a slot. -/
def Lane.zn (l : Lane) (d : Nat) : Lane := (l.flag flZ (l.W d == 0)).flag flN (decide (l.W d < 0))
/-- W[d] is written, with `Z` and `N`. -/
def Lane.put (l : Lane) (d : Nat) (v : Int) : Lane := Lane.zn { l with w := Tab.set 0 l.w d v } d
/-- W[d] is written with a value limited to fx32, which sets `SAT` where it was limited. -/
def Lane.putSat (l : Lane) (d : Nat) (v : Int) : Lane :=
  let l := if sats v then l.flag flSat true else l
  l.put d (sat32 v)
/-- State and parameter words. -/
def Lane.S (l : Lane) (k : Nat) : Int := toSigned 32 ((ZONE_STATE.S k).get l.state)
def Lane.setS (l : Lane) (k : Nat) (v : Int) : Lane := { l with state := (ZONE_STATE.S k).set (ofSigned 32 v) l.state }
def Lane.P (l : Lane) (k : Nat) : Int := toSigned 32 ((ZONE_PARAMS.P k).get l.params)
def Lane.port (l : Lane) (k : Nat) : Nat := (⟨16 * k, 16⟩ : Fld).get l.demand
def Lane.setPort (l : Lane) (k q : Nat) : Lane := { l with demand := (⟨16 * k, 16⟩ : Fld).set q l.demand }

/-- A binding of the loaded context: value, age in ms, time. -/
def Lane.bind (l : Lane) (n : Nat) : Int × Nat × Nat := l.binds.getD n (0, 0, 0)
def Lane.srcKind (l : Lane) (n : Nat) : Nat := (⟨384 + 32 * n, 8⟩ : Fld).get l.cfg
def Lane.maxAge (l : Lane) (n : Nat) : Nat := (⟨392 + 32 * n, 8⟩ : Fld).get l.cfg

/-- A binding is fresh (R173). -/
def Lane.fresh (l : Lane) (n : Nat) : Bool :=
  let x := l.bind n
  l.srcKind n != 0 && x.2.2 != 0 && x.1 != -(2 ^ 31) && (l.maxAge n == 0 || decide (x.2.1 ≤ l.maxAge n * 10000))

/-- Where execution goes after a step. -/
inductive Go where
  | next
  | skip (n : Nat)
  | stop
  | fault (code : Nat)
  deriving DecidableEq, Repr

/-- A step that only changes the engine. -/
def Chip.lop (c : Chip) (e : Nat) (f : Lane → Lane) : Chip × Go := (c.modLane e f, .next)

/-! ## The opcodes (R169) -/

def Chip.opEnd (c : Chip) (e : Nat) : Chip × Go := (c.modLane e (fun l => { l with done := true, running := false }), .stop)
def Chip.opMov (c : Chip) (e : Nat) (s : Step) : Chip × Go := c.lop e (fun l => l.put s.d (l.W s.a))
def Chip.opLdl (c : Chip) (e : Nat) (s : Step) : Chip × Go := c.lop e (fun l => l.put s.d s.imm)
def Chip.opLdh (c : Chip) (e : Nat) (s : Step) : Chip × Go :=
  c.lop e (fun l => l.put s.d (toSigned 32 (s.imm * 65536 + ofSigned 32 (l.W s.d) % 65536)))
def Chip.opLdc (c : Chip) (e img : Nat) (s : Step) : Chip × Go := c.lop e (fun l => l.put s.d (imgConst img (s.imm % 64)))
def Chip.opLdp (c : Chip) (e : Nat) (s : Step) : Chip × Go := c.lop e (fun l => l.put s.d (l.P (s.imm % 64)))
def Chip.opLds (c : Chip) (e : Nat) (s : Step) : Chip × Go := c.lop e (fun l => l.put s.d (l.S (s.imm % 64)))
def Chip.opSts (c : Chip) (e : Nat) (s : Step) : Chip × Go := c.lop e (fun l => l.setS (s.imm % 64) (l.W s.a))
def Chip.opAdd (c : Chip) (e : Nat) (s : Step) : Chip × Go := c.lop e (fun l => l.putSat s.d (l.W s.a + l.W s.b))
def Chip.opSub (c : Chip) (e : Nat) (s : Step) : Chip × Go := c.lop e (fun l => l.putSat s.d (l.W s.a - l.W s.b))
def Chip.opMul (c : Chip) (e : Nat) (s : Step) : Chip × Go := c.lop e (fun l => l.putSat s.d (fxMul (l.W s.a) (l.W s.b)))
def Chip.opDiv (c : Chip) (e : Nat) (s : Step) : Chip × Go :=
  if (c.lane e).W s.b = 0 then (c, .fault 2) else c.lop e (fun l => l.putSat s.d (fxDiv (l.W s.a) (l.W s.b)))
/-- An immediate marked s8.8 as fx32. -/
def imm88 (imm : Nat) : Int := toSigned 16 imm * 256
def Chip.opAddi (c : Chip) (e : Nat) (s : Step) : Chip × Go := c.lop e (fun l => l.putSat s.d (l.W s.a + imm88 s.imm))
def Chip.opMuli (c : Chip) (e : Nat) (s : Step) : Chip × Go := c.lop e (fun l => l.putSat s.d (fxMul (l.W s.a) (imm88 s.imm)))
def Chip.opAbs (c : Chip) (e : Nat) (s : Step) : Chip × Go :=
  c.lop e (fun l => l.putSat s.d (if l.W s.a < 0 then -(l.W s.a) else l.W s.a))
def Chip.opNeg (c : Chip) (e : Nat) (s : Step) : Chip × Go := c.lop e (fun l => l.putSat s.d (-(l.W s.a)))
def Chip.opMin (c : Chip) (e : Nat) (s : Step) : Chip × Go := c.lop e (fun l => l.put s.d (min (l.W s.a) (l.W s.b)))
def Chip.opMax (c : Chip) (e : Nat) (s : Step) : Chip × Go := c.lop e (fun l => l.put s.d (max (l.W s.a) (l.W s.b)))
def Chip.opLim (c : Chip) (e : Nat) (s : Step) : Chip × Go :=
  c.lop e (fun l =>
    let v := max (min (l.W s.a) (l.W (s.b + 1))) (l.W s.b)
    (l.put s.d v).flag flLim (v != l.W s.a))
def Chip.opClp01 (c : Chip) (e : Nat) (s : Step) : Chip × Go :=
  c.lop e (fun l =>
    let v := clampI 0 fxOne (l.W s.a)
    (l.put s.d v).flag flLim (v != l.W s.a))
/-- The comparison of `CMP`: EQ, NE, LT, LE, GT, GE. -/
def cmpOp (op : Nat) (a b : Int) : Bool :=
  match op with
  | 0 => a == b | 1 => a != b | 2 => decide (a < b) | 3 => decide (a ≤ b) | 4 => decide (b < a) | _ => decide (b ≤ a)
def boolFx (b : Bool) : Int := if b then fxOne else 0
def Chip.opCmp (c : Chip) (e : Nat) (s : Step) : Chip × Go :=
  c.lop e (fun l =>
    let r := cmpOp (s.parm % 8) (l.W s.a) (l.W s.b)
    (l.put s.d (boolFx r)).flag flC r)
def Chip.opSel (c : Chip) (e : Nat) (s : Step) : Chip × Go :=
  c.lop e (fun l => l.put s.d (if l.flags.testBit flC then l.W s.a else l.W s.b))
/-- The flag a skip tests (R170). -/
def skipFlag (sel : Nat) : Nat := [flC, flStale, flInv, flLim, flZ, flN].getD sel flC
def Chip.opSkip (c : Chip) (e : Nat) (s : Step) : Chip × Go :=
  (c, if (c.lane e).flags.testBit (skipFlag (s.imm / 128 % 8)) then .skip (s.imm % 128) else .next)
def Chip.opSkipn (c : Chip) (e : Nat) (s : Step) : Chip × Go :=
  (c, if (c.lane e).flags.testBit (skipFlag (s.imm / 128 % 8)) then .next else .skip (s.imm % 128))

/-- The value of an n-point table at x (R171). -/
def tableAt (n : Nat) (get : Nat → Int) (x : Int) : Int :=
  if x ≤ get 0 then get 1
  else if get (2 * (n - 1)) ≤ x then get (2 * (n - 1) + 1)
  else
    let j := ((List.range (n - 1)).find? (fun j => decide (get (2 * j) ≤ x ∧ x < get (2 * j + 2)))).getD 0
    get (2 * j + 1) + fxQuot ((x - get (2 * j)) * (get (2 * j + 3) - get (2 * j + 1))) (get (2 * j + 2) - get (2 * j))
def Chip.opTblc (c : Chip) (e img : Nat) (s : Step) : Chip × Go :=
  c.lop e (fun l => l.put s.d (sat32 (tableAt s.b (fun j => imgConst img (s.imm % 64 + j)) (l.W s.a))))
def Chip.opTblp (c : Chip) (e : Nat) (s : Step) : Chip × Go :=
  c.lop e (fun l =>
    let get := fun (j : Nat) => l.P (s.imm % 64 + j)
    if tableRises s.b get then (l.put s.d (sat32 (tableAt s.b get (l.W s.a)))).flag flInv false
    else (l.put s.d (get 1)).flag flInv true)

def Chip.opLpf (c : Chip) (e : Nat) (s : Step) : Chip × Go :=
  c.lop e (fun l =>
    let k := s.parm % 64
    let x := l.W s.a
    let st := if l.first then x else l.S k
    let al := clampI 0 fxOne (l.W s.b)
    let v := sat32 (st + fxMul al (x - st))
    ((l.setS k v).put s.d v).flag flLim (al != l.W s.b))
def Chip.opRate (c : Chip) (e : Nat) (s : Step) : Chip × Go :=
  c.lop e (fun l =>
    let k := s.parm % 64
    let x := l.W s.a
    let st := if l.first then x else l.S k
    let r := max (l.W s.b) 0
    let dv := clampI (-r) r (x - st)
    let v := sat32 (st + dv)
    ((l.setS k v).put s.d v).flag flLim (dv != x - st))
def Chip.opHyst (c : Chip) (e : Nat) (s : Step) : Chip × Go :=
  c.lop e (fun l =>
    let k := s.parm % 64
    let st := if l.first then 0 else l.S k
    let v := if l.W s.b ≤ l.W s.a then fxOne else if l.W s.a ≤ l.W (s.b + 1) then 0 else st
    ((l.setS k v).put s.d v).flag flC (v != 0))
def Chip.opTon (c : Chip) (e z : Nat) (s : Step) : Chip × Go :=
  let t := c.periodFx z
  c.lop e (fun l =>
    let k := s.parm % 64
    let st := if l.first then 0 else l.S k
    let v := if l.W s.a = 0 then 0 else sat32 (st + t)
    let on := decide (l.W s.b ≤ v)
    ((l.setS k v).put s.d (boolFx on)).flag flC on)

def Chip.opRdb (c : Chip) (e : Nat) (s : Step) : Chip × Go :=
  c.lop e (fun l =>
    let n := s.imm % 16
    if l.fresh n then (l.put s.d (l.bind n).1).flag flStale false else (l.zn s.d).flag flStale true)
def Chip.opRdba (c : Chip) (e : Nat) (s : Step) : Chip × Go :=
  c.lop e (fun l =>
    let n := s.imm % 16
    let ms := (l.bind n).2.1
    let v : Int := if 32767000 < ms then 2 ^ 31 - 1 else divRound (ms * 65536 : Nat) 1000
    (l.put s.d v).flag flStale (!l.fresh n))
/-- Evidence of a fresh binding (R175). -/
def Lane.evidence (l : Lane) (n : Nat) : Nat :=
  let x := l.bind n
  if l.srcKind n = 4 ∧ x.2.1 ≤ 60000 then 2
  else if (l.srcKind n = 1 ∨ l.srcKind n = 3) ∧ x.1 ≠ 0 then 1
  else 0
def Chip.opPfus (c : Chip) (e : Nat) (s : Step) : Chip × Go :=
  c.lop e (fun l =>
    let bs := (bitsOf 16 s.imm).filter l.fresh
    if bs.isEmpty then (l.put s.d (-fxOne)).flag flStale true
    else (l.put s.d (((bs.map l.evidence).foldl max 0 : Nat) * 65536)).flag flStale false)

/-- The occupancy state machine (Table 5.7): from state and timer, evidence (none: below 0), to state and timer. -/
def occNext (st : Nat) (timer t confirm hold : Int) (ev : Option Nat) : Nat × Int :=
  match st, ev with
  | 4, none => (4, timer)
  | _, none => (4, timer)
  | 0, some 0 => (0, timer)
  | 0, some 1 => (1, 0)
  | 0, some _ => (2, timer)
  | 1, some 0 => (0, timer)
  | 1, some 1 => let n := sat32 (timer + t); (if confirm ≤ n then 2 else 1, n)
  | 1, some _ => (2, timer)
  | 2, some 0 => (3, 0)
  | 2, some _ => (2, timer)
  | 3, some 0 => let n := sat32 (timer + t); (if hold ≤ n then 0 else 3, n)
  | 3, some _ => (2, timer)
  | _, some 0 => (0, timer)
  | _, some 1 => (1, 0)
  | _, some _ => (2, timer)

/-- A state word as an occupancy state: other values count as UNKNOWN. -/
def occState (v : Int) : Nat := if 0 ≤ v ∧ v ≤ 4 * fxOne ∧ v % fxOne = 0 then (v / fxOne).toNat else 4

def Chip.opOcc (c : Chip) (e z : Nat) (s : Step) : Chip × Go :=
  let t := c.periodFx z
  c.lop e (fun l =>
    let k := s.parm % 64
    let sb := 2 * (s.parm / 64)
    let ev := Int.fdiv (l.W s.a) fxOne
    let evN := if ev < 0 then none else some (min ev 2).toNat
    let old := occState (l.S sb)
    let new := occNext old (l.S (sb + 1)) t (l.P k) (l.P (k + 1)) evN
    let pol := l.P (k + 2)
    let out := if new.1 = 2 ∨ new.1 = 3 then true else if new.1 < 2 then false
      else if pol = 0 then false else if pol = fxOne then true else l.W s.b != 0
    let v : Int := new.1 * 65536
    let l := (l.setS sb v).setS (sb + 1) new.2
    let l := { l with occ := some (new.1, evN.getD 0xFF, if out then 1 else 0, old) }
    (l.put s.d v).flag flC out)

def Chip.opSched (c : Chip) (e z : Nat) (s : Step) : Chip × Go :=
  let o := c.schedAt z (c.lane e).startLocal
  c.lop e (fun l =>
    let v := if s.imm % 4 = 0 then centiFx o.heat else if s.imm % 4 = 1 then centiFx o.cool else boolFx (o.mode == 1)
    ((l.put s.d v).flag flC (o.mode == 1)).flag flLim o.lim)

/-- The setpoints of a plan step with the arbiter's offsets, inside the bounds (R226), and the probability byte. -/
def Chip.planStep (c : Chip) (z j : Nat) : Int × Int × Nat :=
  let f := fun (k : Fld) => c.getS ZONE_PLAN z k
  let o := c.zoneOwner z
  let b := if o < 256 then c.limitsOf o
    else (c.getS PLAN_PLANT z PLAN_PLANT.SP_MIN_E, c.getS PLAN_PLANT z PLAN_PLANT.SP_MAX_E)
  let heat := clampI b.1 b.2 (f (ZONE_PLAN.SP_HEAT j) + f ZONE_PLAN.ARB_HEAT)
  let cool := clampI b.1 b.2 (f (ZONE_PLAN.SP_COOL j) + f ZONE_PLAN.ARB_COOL)
  (heat, max heat cool, c.getF ZONE_PLAN z (ZONE_PLAN.P_OCC j))

/-- The plan step that holds an instant, if the plan can be read (R179). -/
def Chip.planIndex (c : Chip) (z t : Nat) (rom : Bool) : Option Nat :=
  let start := c.getF ZONE_PLAN z ZONE_PLAN.START
  let j := (t - start) / ticksPerQuarter
  if c.planEn z && c.getF ZONE_PLAN z ZONE_PLAN.PSTATE == 1 && decide (start ≤ t) && decide (j < 96) && !rom
    && c.level == lvFull then some j else none

def Chip.opPlan (c : Chip) (e z : Nat) (s : Step) : Chip × Go :=
  let l := c.lane e
  match c.planIndex z l.start l.rom with
  | none => c.lop e (fun l => (l.zn s.d).flag flInv true)
  | some j =>
    let p := c.planStep z j
    let v := if s.imm % 4 = 0 then centiFx p.1 else if s.imm % 4 = 1 then centiFx p.2.1 else divRound (p.2.2 * 65536 : Nat) 200
    c.lop e (fun l => (l.put s.d v).flag flInv false)

/-- `RDSYS` (R180): the time of day is rounded under R165 and stays just under 24 (assumption 127). -/
def Chip.opRdsys (c : Chip) (e z : Nat) (s : Step) : Chip × Go :=
  let t := c.periodFx z
  c.lop e (fun l =>
    let day := l.startLocal - Int.fdiv l.startLocal (86400 * 32768) * (86400 * 32768)
    let v := match s.imm % 16 with
      | 0 => t
      | 1 => boolFx l.first
      | 2 => min (24 * 65536 - 1) (divRound (day * 65536) (3600 * 32768))
      | 3 => ((weekSecond l.startLocal).1 : Int) * 65536
      | _ => (z : Int) * 65536
    l.put s.d (sat32 v))

/-- One controller step (R181): output, new integral, whether a limit was reached, whether a product was limited. -/
structure PiOut where
  u : Int
  i : Int
  lim : Bool
  sat : Bool
  deriving DecidableEq, Repr

def piStep (e f kp ti umin umax t i : Int) : PiOut :=
  let umax := if umax < umin then umin else umax
  let p0 := fxMul kp e
  let p := sat32 p0
  let inc0 := if 0 < ti then fxQuot (p * t) ti else 0
  let inc := sat32 inc0
  let u := p + i + inc + f
  let r : Int × Bool × Int :=
    if umax < u then (umax, true, if 0 < inc then i else i + inc)
    else if u < umin then (umin, true, if inc < 0 then i else i + inc)
    else (u, false, i + inc)
  ⟨r.1, if 0 < ti then clampI umin umax r.2.2 else 0, r.2.1, sats p0 || sats inc0⟩

/-- The result of a controller step goes to S[s], S[s+1] and W[d]. -/
def Lane.piPut (l : Lane) (d sb : Nat) (r : PiOut) : Lane :=
  let l := (l.setS sb r.i).setS (sb + 1) r.u
  let l := if r.sat then l.flag flSat true else l
  (l.put d r.u).flag flLim r.lim

def Chip.opPi (c : Chip) (e z : Nat) (s : Step) : Chip × Go :=
  let t := c.periodFx z
  c.lop e (fun l =>
    let k := s.parm % 64
    let sb := 2 * (s.parm / 64)
    l.piPut s.d sb (piStep (l.W s.a) (l.W s.b) (l.P k) (l.P (k + 1)) (l.P (k + 2)) (l.P (k + 3)) t (l.S sb)))

/-- `API` (R182): `BUMPLESS` is cleared in the loaded copy of the model link, which the write-back stores (R206). -/
def Chip.opApi (c : Chip) (e z : Nat) (s : Step) : Chip × Go :=
  let t := c.periodFx z
  let l := c.lane e
  let k := s.parm % 64
  let sb := 2 * (s.parm / 64)
  let fam := if l.P k = fxOne then 1 else if l.P k = 2 * fxOne then 2 else 0
  let tuned := l.link.gainsOk.testBit fam
  let g := l.link.gain fam
  let kp : Int := if tuned then g.1 * 16 else l.P (k + 1)
  let ti : Int := if tuned then g.2 * 65536 else l.P (k + 2)
  let bump := l.link.bumpless && l.link.bumpFam == fam
  let p := sat32 (fxMul kp (l.W s.a))
  let inc := if 0 < ti then sat32 (fxQuot (p * t) ti) else 0
  let i := if bump then (l.link.meanOut : Int) - p - inc - l.W s.b else l.S sb
  let r := piStep (l.W s.a) (l.W s.b) kp ti (l.P (k + 3)) (l.P (k + 4)) t i
  c.lop e (fun l =>
    let l := if bump then { l with link := { l.link with bumpless := false } } else l
    (l.piPut s.d sb r).flag flInv (!tuned))

def Chip.opMff (c : Chip) (e : Nat) (s : Step) : Chip × Go :=
  c.lop e (fun l =>
    let eq := l.coef.getD 6 0
    let g := l.coef.getD (s.imm % 4) 0
    let num := if s.imm % 4 = 0 then l.W s.a - eq else eq - l.W s.a
    if (l.link.mstate == 2 || l.link.mstate == 3) && decide (65536 ≤ 10 * g) then
      (l.put s.d (clampI 0 fxOne (fxDiv num g))).flag flInv false
    else (l.put s.d 0).flag flInv true)

def Chip.opAtun (c : Chip) (e z : Nat) (s : Step) : Chip × Go :=
  let l := c.lane e
  let fam := s.parm % 4
  match (c.zrt z).model.test with
  | some r =>
    if r.fam = fam ∧ l.link.relayFam = fam then
      let hi : Int := l.link.hiLvl
      let lo : Int := l.link.loLvl
      let q := c.relayStep z r (l.W s.a) l.start
      q.1.lop e (fun l => ({ l with atun := true }.put s.d (if q.2 then hi else lo)).flag flC true)
    else c.lop e (fun l => (l.put s.d (l.W s.b)).flag flC false)
  | none => c.lop e (fun l => (l.put s.d (l.W s.b)).flag flC false)

/-- The estimate that `RDN` may read of a neighbour entry (R174). -/
def Chip.rdnValue (c : Chip) (z n loadAt : Nat) : Option Int :=
  let nz := c.neighbour z n
  if nz < 1024 ∧ c.zoneOwner nz = c.zoneOwner z then c.freshEstimate nz loadAt else none
def Chip.opRdn (c : Chip) (e z : Nat) (s : Step) : Chip × Go :=
  let v := c.rdnValue z (s.imm % 8) (c.lane e).loadAt
  c.lop e (fun l => match v with
    | some v => (l.put s.d v).flag flStale false
    | none => (l.zn s.d).flag flStale true)
def Chip.opPubt (c : Chip) (e : Nat) (s : Step) : Chip × Go := c.lop e (fun l => { l with pub := some (l.W s.a) })
def Chip.opDem (c : Chip) (e : Nat) (s : Step) : Chip × Go :=
  c.lop e (fun l =>
    let v := l.W s.a
    let l := if v < 0 ∨ fxOne < v then l.flag flSat true else l
    l.setPort (s.imm % 8) (fxQ16 v))
def Chip.opPst (c : Chip) (e : Nat) (s : Step) : Chip × Go :=
  c.lop e (fun l =>
    let code := (⟨8 * (s.imm % 8), 8⟩ : Fld).get l.ports
    (l.put s.d ((code : Int) * 65536)).flag flC (code == 1))
/-- `ALM` (R185): bits 0 to 15 at `SEV` 1, which non-owners never receive; bits 16 to 31 at `SEV` 2, their value masked. -/
def Chip.opAlm (c : Chip) (e z : Nat) (s : Step) : Chip × Go :=
  let o := c.zoneOwner z
  c.lop e (fun l =>
    let b := s.imm / 64 % 32
    let k := s.imm % 64
    let on := l.W s.a != 0
    let word := ofSigned 32 (l.S k)
    if word.testBit b = on then l
    else
      let l := l.setS k (toSigned 32 (putBit word b on))
      let st := if on then 1 else 0
      let sev := if b < 16 then 1 else 2
      let d := u8 b ++ u8 st ++ rsvBytes 2 ++ s32 (l.W s.a)
      let seen := u8 b ++ u8 st ++ rsvBytes 2 ++ s32 (if o < 256 then 0 else l.W s.a)
      { l with events := l.events ++ [{ code := 0x0240, sev := sev, source := z, data := d, seen := seen,
                                        aud := audZone o sev }] })
def Chip.opMupd (c : Chip) (e z : Nat) (s : Step) : Chip × Go :=
  let r := c.modelUpdate z ((c.lane e).W s.a)
  r.1.lop e (fun l => ({ l with mupd := true }.put s.d (sat32 r.2.1)).flag flInv (!r.2.2))
def Chip.opMrd (c : Chip) (e : Nat) (s : Step) : Chip × Go :=
  c.lop e (fun l =>
    if l.link.mstate = 2 ∨ l.link.mstate = 3 then (l.put s.d (l.coef.getD (s.imm % 16) 0)).flag flInv false
    else (l.zn s.d).flag flInv true)

/-- The operation of a step, by opcode. An undefined opcode is an illegal step (Table 4.11). -/
def Chip.opStep (c : Chip) (e z img : Nat) (s : Step) : Chip × Go :=
  match s.op with
  | 0x00 => c.opEnd e | 0x01 => c.opMov e s | 0x02 => c.opLdl e s | 0x03 => c.opLdh e s
  | 0x04 => c.opLdc e img s | 0x05 => c.opLdp e s | 0x06 => c.opLds e s | 0x07 => c.opSts e s
  | 0x08 => c.opAdd e s | 0x09 => c.opSub e s | 0x0A => c.opMul e s | 0x0B => c.opDiv e s
  | 0x0C => c.opAddi e s | 0x0D => c.opMuli e s | 0x0E => c.opAbs e s | 0x0F => c.opNeg e s
  | 0x10 => c.opMin e s | 0x11 => c.opMax e s | 0x12 => c.opLim e s | 0x13 => c.opClp01 e s
  | 0x14 => c.opCmp e s | 0x15 => c.opSel e s | 0x16 => c.opSkip e s | 0x17 => c.opSkipn e s
  | 0x18 => c.opTblc e img s | 0x19 => c.opTblp e s | 0x1A => c.opLpf e s | 0x1B => c.opRate e s
  | 0x1C => c.opHyst e s | 0x1D => c.opTon e z s | 0x1E => c.opRdb e s | 0x1F => c.opRdba e s
  | 0x20 => c.opPfus e s | 0x21 => c.opOcc e z s | 0x22 => c.opSched e z s | 0x23 => c.opPlan e z s
  | 0x24 => c.opRdsys e z s | 0x25 => c.opPi e z s | 0x26 => c.opApi e z s | 0x27 => c.opMff e s
  | 0x28 => c.opAtun e z s | 0x29 => c.opRdn e z s | 0x2A => c.opPubt e s | 0x2B => c.opDem e s
  | 0x2C => c.opPst e s | 0x2D => c.opAlm e z s | 0x2E => c.opMupd e z s | 0x2F => c.opMrd e s
  | _ => (c, .fault 1)

/-! ## Executing a tick (R167) -/

/-- The execution phase begins: time captured, W, flags, step pointer and cycle counter zero. -/
def Chip.beginTick (c : Chip) (e : Nat) : Chip :=
  c.modLane e (fun l => if l.running ∨ l.done ∨ l.zone = none then l
    else { l with running := true, w := [], flags := 0, step := 0, cycles := 0, start := c.now, startLocal := c.localTime })

/-- The program image a loaded zone runs. -/
def Lane.progIndex (l : Lane) (z : Nat) : Nat := 128 * (z / 256) + ZONE_CFG.PROG_ID.get l.cfg

/-- A step is charged and executed (R167, R168): a step that breaks a check is ILLEGAL_STEP, one that would bring the counter to
2048 or more is BUDGET, except an `END` that brings it to exactly 2048. `img` is the program in which it stands. -/
def Chip.chargeStep (c : Chip) (e z img : Nat) (s : Step) (legal : Bool) : Chip :=
  let l := c.lane e
  let cost := stepCost s + (if s.op = 0x2E then mupdWait l.cycles (e % 4) else 0)
  let after := l.cycles + cost
  if !legal then c.zoneFault e z 1 l.step
  else if 2048 ≤ after ∧ ¬ (s.op = 0 ∧ after = 2048) then c.zoneFault e z 3 l.step
  else
    let r := c.opStep e z img s
    match r.2 with
    | .fault code => r.1.zoneFault e z code l.step
    | .next => r.1.modLane e (fun x => { x with cycles := after, step := l.step + 1 })
    | .skip n => r.1.modLane e (fun x => { x with cycles := after, step := l.step + 1 + n })
    | .stop => r.1.modLane e (fun x => { x with cycles := after })

/-- Fetch the step at the step pointer and execute it: a missing program is PROG_MISSING, a bad one PROG_DED. -/
def Chip.fetchStep (c : Chip) (e : Nat) : Chip :=
  let l := c.lane e
  match l.zone with
  | none => c
  | some z =>
    if !l.running then c
    else
      let k := l.progIndex z
      if !c.getB PROGRAM_INFO k PROGRAM_INFO.VALID then c.zoneFault e z 6 l.step
      else if (c.ter (z / 256)).badProgs.contains (k % 128) then c.zoneFault e z 5 l.step
      else
        let img := c.img PROGRAM_IMAGE k
        let s := stepOf (imgWord img l.step)
        c.chargeStep e z img s (decide (l.step < imgSteps img) && stepCheck img l.step == 0)

/-- The steps of a tick, at most 128 (R164). -/
def Chip.runSteps (c : Chip) (e : Nat) : Nat → Chip
  | 0 => c
  | n + 1 => Chip.runSteps (c.fetchStep e) e n

/-- The row of one opcode: an engine with a loaded zone executes one step with the given fields. The step is checked as at a
fetch (R168), at the engine's step pointer. -/
def Chip.zoneStep (c : Chip) (e op d a b low : Nat) : Chip :=
  let c := c.beginTick e
  let l := c.lane e
  match l.zone with
  | none => c
  | some z =>
    if !l.running ∨ l.rom then c
    else
      let w := (((op * 32 + d % 32) * 32 + a % 32) * 32 + b % 32) * 2048 + low % 2048
      let img := c.img PROGRAM_IMAGE (l.progIndex z)
      let placed := (⟨128 + 32 * l.step, 32⟩ : Fld).set w img
      c.chargeStep e z img (stepOf w) (decide (l.step < 128) && stepCheck placed l.step == 0)

/-! ## ROM programs (R191, R192) -/

/-- A loop of a ROM program: proportional-integral with limits 0 to 1.0. -/
def Lane.romLoop (l : Lane) (err t : Int) (si so : Nat) : Lane × Int :=
  let r := piStep err 0 (l.P 43) (l.P 44) 0 fxOne t (l.S si)
  let l := (l.setS si r.i).setS so r.u
  (if r.sat then l.flag flSat true else l, r.u)

/-- The tick of a ROM program: ports that it does not drive take `FALLBACK`. -/
def Lane.romTick (l : Lane) (t : Int) : Lane :=
  let int := fun (k : Nat) => Int.fdiv (l.P k) fxOne
  let sel := int 40
  let fb := fallbackOf l.cfg
  let l := { l with demand := fb }
  let heatOk := decide (0 ≤ int 46 ∧ int 46 ≤ 7)
  let coolOk := decide (0 ≤ int 47 ∧ int 47 ≤ 7)
  let heat := decide (sel = 1 ∨ sel = 3 ∨ sel = 4)
  let cool := decide (sel = 2 ∨ sel = 3 ∨ sel = 4)
  let runs := (heat || cool) && (!heat || heatOk) && (!cool || coolOk) && l.srcKind 0 == 2 && l.fresh 0
  if !runs then l
  else
    let temp := (l.bind 0).1
    let h := if heat then l.romLoop (l.P 41 - temp) t 56 58 else (l, 0)
    let k := if cool then h.1.romLoop (temp - l.P 42) t 57 59 else (h.1, 0)
    let out := if sel = 4 then l.P 45 + fxMul (fxOne - l.P 45) k.2 else k.2
    let r := if heat then k.1.setPort (int 46).toNat (fxQ16 h.2) else k.1
    if cool then r.setPort (int 47).toNat (fxQ16 out) else r

/-- `ZONE_EXECUTION`: the loaded zone's program runs from step 0 to its end. The cycles a ROM program took are not stated beyond
their bound of 160 (R192): a free value. -/
def Chip.zoneExecution (c : Chip) (e : Nat) : Chip :=
  let c := c.beginTick e
  let l := c.lane e
  match l.zone with
  | none => c
  | some z =>
    if !l.running then c
    else
      let c := c.upd ZONE_STATUS z [(ZONE_STATUS.LAST_RUN, l.start)]
      if l.rom then
        let cyc := c.freeVal 32 % 161
        let c := c.spend
        c.modLane e (fun l => { l.romTick (c.periodFx z) with done := true, running := false, cycles := cyc })
      else c.runSteps e 128

end Sys2Proof.Machine
end

