-- ==== Sys2Proof/Machine/Engines.lean ====
section
/-!
DEFINITION. Zone engines, pergolas and terraces (R127 to R163): the port phase, the publish point, bindings, faults and resets,
migration, tick tables, isolation, and the zone and plot records.
-/

namespace Sys2Proof.Machine

def evDiag : Audience := audOps scDiag

/-! ## Bindings (R129) -/

/-- The owner of a source (R338): heat meters belong to the estate. -/
def Chip.srcOwner (c : Chip) (kind idx : Nat) : Nat :=
  if kind = 1 then c.getF FEED_SRC idx FEED_SRC.OWNER
  else if kind = 2 then c.getF AIN_CFG idx AIN_CFG.OWNER
  else if kind = 3 then c.getF PRS_CFG idx PRS_CFG.OWNER
  else if kind = 4 then c.getF KP_CFG idx KP_CFG.OWNER
  else estateOwner

/-- The bindings of a zone to a source. -/
def Chip.bindsOf (c : Chip) (z kind idx : Nat) : List Nat :=
  let cfg := c.img ZONE_CFG z
  let src := kind + 65536 * idx
  (List.range 16).filter (fun n =>
    let b := (ZONE_CFG.BIND n).get cfg
    b % 256 + 65536 * (b / 65536) == src && b % 256 != 0)

/-- A source may write the bindings of a zone (R338): its owner is the estate or the zone's. -/
def Chip.mayBind (c : Chip) (z kind idx : Nat) : Bool :=
  c.srcOwner kind idx == estateOwner || c.srcOwner kind idx == c.zoneOwner z

/-- The binding updater writes an accepted reading into every context bound to its source (R129, R338, R541). -/
def Chip.writeBinding (c : Chip) (kind idx : Nat) (v : Int) (t : Nat) : Chip :=
  c.each 1024 (fun c z =>
    let hits := if c.mayBind z kind idx then c.bindsOf z kind idx else []
    if hits.isEmpty then c
    else c.upd ZONE_BINDINGS z (hits.flatMap (fun n =>
      [(ZONE_BINDINGS.VALUE n, ofSigned 32 v), (ZONE_BINDINGS.TIME n, t)])))

/-- A source's new reading starts on its way to the contexts. -/
def Chip.queueUpdate (c : Chip) (kind idx : Nat) (v : Int) (t : Nat) : Chip :=
  { c with zones.updates := c.zones.updates ++ [(kind, idx, v, t)] }

/-- `BINDING_UPDATE`: the updater writes the readings that wait, oldest first. During a tier hold bindings are not written
(Table 11.8). -/
def Chip.bindingUpdate (c : Chip) : Chip :=
  if c.boot.hold.isSome then c
  else
    let l := c.zones.updates
    Chip.eachOf { c with zones.updates := [] } l (fun c u => c.writeBinding u.1 u.2.1 u.2.2.1 u.2.2.2)

/-- A change of a source's owner (R338): time 0 in every binding of it, and no reading of it waits any more. -/
def Chip.voidBindings (c : Chip) (kind idx : Nat) : Chip :=
  let c := { c with zones.updates := c.zones.updates.filter (fun u => !(u.1 == kind && u.2.1 == idx)) }
  c.each 1024 (fun c z =>
    let hits := c.bindsOf z kind idx
    if hits.isEmpty then c else c.upd ZONE_BINDINGS z (hits.map (fun n => (ZONE_BINDINGS.TIME n, 0))))

/-- The 16 bindings of a context as a load gives them: value, age in ms saturating at 0xFFFF_FFFF, time (R129). -/
def Chip.loadBinds (c : Chip) (z : Nat) : List (Int × Nat × Nat) :=
  (List.range 16).map (fun n =>
    let t := c.getF ZONE_BINDINGS z (ZONE_BINDINGS.TIME n)
    (c.getS ZONE_BINDINGS z (ZONE_BINDINGS.VALUE n), min ((c.now - t) * 1000 / 32768) 0xFFFFFFFF, t))

/-! ## Write-back, load and publication (R128, R133) -/

/-- What an `OCC` step leaves is written at the tick's write-back (R176, R194): evidence and output at every run, state and time
at a change, with the event, the timeline entry and the shares of the quarter-hours. -/
def Chip.occWriteBack (c : Chip) (z : Nat) (st ev out : Nat) : Chip :=
  let old := c.getF ZONE_OCC z ZONE_OCC.STATE
  let ms := c.periodMs z
  let c := c.modZrt z (fun x => if st = 4 then x else
    { x with valMs := x.valMs + ms, occMs := x.occMs + (if st = 2 ∨ st = 3 then ms else 0),
             lqVal := x.lqVal + 1, lqOcc := x.lqOcc + out })
  let c := c.upd ZONE_OCC z [(ZONE_OCC.EVIDENCE, ev), (ZONE_OCC.C_OCC, out)]
  if st = old then c
  else
    let c := c.upd ZONE_OCC z [(ZONE_OCC.STATE, st), (ZONE_OCC.SINCE, c.now)]
    let tl := c.img OCC_TIMELINE z
    let n := min 16 (OCC_TIMELINE.COUNT.get tl + 1)
    let old15 := (List.range 15).map (fun k => (OCC_TIMELINE.ENTRY (k + 1), (OCC_TIMELINE.ENTRY k).get tl))
    let c := c.upd OCC_TIMELINE z ((OCC_TIMELINE.COUNT, n) :: (OCC_TIMELINE.ENTRY 0, c.now % 2 ^ 48 + 2 ^ 48 * st) :: old15)
    let d := u8 old ++ u8 st
    c.raiseMasked 0x0241 0 z d d (audOwnerOnly (c.zoneOwner z))

/-- The write-back of a completed tick: runtime header, state words, demand values and model link, and nothing else (R128). -/
def Chip.writeBack (c : Chip) (e : Nat) : Chip :=
  let l := c.lane e
  match l.zone with
  | none => c
  | some z =>
    let clear := fun (c : Chip) => c.setLane e (c.lane e).scrubbed
    if !l.done ∨ c.zstate z ≠ zsRunning then clear c
    else
      let runs := satInc 32 (c.getF ZONE_STATUS z ZONE_STATUS.RUN_CNT)
      let cyc := max l.cycles (c.getF ZONE_STATUS z ZONE_STATUS.CYC_MAX)
      let c := c.incSat ZONE_STATUS z ZONE_STATUS.RUN_CNT ZONE_STATUS.CNT_SAT 0
      let c := if l.flags.testBit flSat then c.incSat ZONE_STATUS z ZONE_STATUS.SAT_CNT ZONE_STATUS.CNT_SAT 2 else c
      let c := c.upd ZONE_STATUS z ([(ZONE_STATUS.FIRST_TICK, 0), (ZONE_STATUS.CYC_LAST, l.cycles), (ZONE_STATUS.CYC_MAX, cyc),
        (ZONE_STATUS.ROM_PROG, if l.rom then 1 else 0)]
        ++ (List.range 8).map (fun p => (ZONE_STATUS.DEMAND p, l.port p)))
      let c := if runs = 0 then c else c.setImg ZONE_STATE z l.state
      let c := c.modZrt z (fun x => { x with link := l.link })
      let c := match l.occ with
        | some (st, ev, out, _) => c.occWriteBack z st ev out
        | none => c
      let c := c.modModel z (fun m => if l.mupd then { m with inputs := c.tickInputs l z (fun n =>
          if l.fresh n then some (l.bind n).1 else none) } else { m with temps := [] })
      let c := c.modModel z (fun m => match m.test with
        | some r => if l.atun then m else { m with test := some { r with idle := r.idle + 1 } }
        | none => m)
      let c := c.modZrt z (fun x =>
        match x.estAt with
        | some _ => x.sample 24 x.est
        | none => x)
      let c := c.eachOf l.events Chip.raiseWith
      clear c

/-- The entry that runs on an engine in a frame and window (R134), on its home engine or on a spare. -/
def Chip.dueEntry (c : Chip) (e frame window : Nat) : Option Entry :=
  let t := e / 64
  (c.entries t).find? (fun x => c.engineNow t x.engine == some (e % 64) && x.window == window
    && frame % framesOf x.period == x.phase)

/-- The zone's program is the ROM program: outside Full service, and after a rise until its terrace's next hyperperiod boundary
(R152). -/
def Chip.romNow (c : Chip) (z : Nat) : Bool := decide (c.level < lvFull) || !(c.zrt z).zrt

/-- A program that a zone can run is there: its stored program, or the ROM program. A `PROG_ID` of 0xFF never runs (R153). -/
def Chip.hasProgram (c : Chip) (z : Nat) : Bool :=
  let id := c.getF ZONE_CFG z ZONE_CFG.PROG_ID
  decide (id < 128) && (c.romNow z || c.getB PROGRAM_INFO (128 * (z / 256) + id) PROGRAM_INFO.VALID)

/-- The context of a zone is loaded into an engine (R127, R129, R206): a first tick starts its ports at `FALLBACK` (R167). -/
def Chip.loadContext (c : Chip) (e z : Nat) : Chip :=
  let c := c.periodEnds z
  let c := c.takeFallback z
  let c := match (c.zrt z).model.testDue with
    | some f => if c.romNow z then c else c.relayStart z f
    | none => c
  let codes := (List.range 8).map (fun p => (ZONE_STATUS.PORT_STATUS p, Tab.get 0 (c.zrt z).worst p))
  let c := c.upd ZONE_STATUS z ((ZONE_STATUS.ENGINE, e) :: codes)
  let c := if c.romNow z then c else (List.range 8).foldl (fun c n => if c.nbIncluded z n then c.trackNeigh z n c.up else c) c
  let st := c.img ZONE_STATUS z
  let first := ZONE_STATUS.FIRST_TICK.get st == 1
  let c := if first then c.restartHistory z else c
  let cfg := c.img ZONE_CFG z
  c.setLane e {
    zone := some z, bankUser := some z, rom := c.romNow z, first := first, loadAt := c.up, cfg := cfg,
    params := c.img ZONE_PARAMS z, state := c.img ZONE_STATE z, binds := c.loadBinds z,
    demand := if first then fallbackOf cfg else (⟨256, 128⟩ : Fld).get st, ports := (⟨384, 64⟩ : Fld).get st,
    link := (c.zrt z).link,
    coef := (List.range 16).map (fun k => c.getS MODEL_COEF z (MODEL_COEF.COEF k)) }

/-- The tick base of a terrace as its windows show it (R132): a hyperperiod boundary lies between two windows when the frame number has gone
back, or when more time has passed than the frames between them take. In Full service every zone of the terrace runs ZRT from then on
(R152). -/
def Chip.tickFrame (c : Chip) (t frame : Nat) : Chip :=
  let x := c.ter t
  let wrapped := decide (frame < x.frame) || decide (8192 * (frame + 1 - x.frame) ≤ c.since x.frameAt)
  let c := if frame = x.frame ∧ ¬ wrapped then c else c.modTer t (fun y => { y with frame := frame, frameAt := c.up })
  if wrapped ∧ c.level = lvFull then c.eachOf (terraceZones t) (fun c z => c.modZrt z (fun y => { y with zrt := true })) else c

/-- `WINDOW_PORT_PHASE`: the engine writes back the zone of its previous window and loads this window's zone, if any (R133). A
damaged context faults at its load (R145); a zone that becomes listed starts at its first instant (Table 4.10). -/
def Chip.windowPortPhase (c : Chip) (e frame window : Nat) : Chip :=
  let c := c.writeBack e
  let t := e / 64
  let c := c.tickFrame t frame
  if c.level < lvLimited ∨ c.boot.pfHalt ∨ c.tstate t ≠ tsInService ∨ ¬ c.pergolaUp (e / 4) then c
  else match c.dueEntry e frame window with
    | none => c
    | some x =>
      let z := 256 * t + x.slot
      if !c.getB ZONE_CFG z ZONE_CFG.EN then c.zoneUnused z
      else
        let c := if c.zstate z = zsUnused ∧ c.hasProgram z then
            if c.wipingZone z then c.upd ZONE_STATUS z [(ZONE_STATUS.ZSTATE, zsDisplaced)]
            else (c.takeFallback z).upd ZONE_STATUS z [(ZONE_STATUS.ZSTATE, zsRunning), (ZONE_STATUS.FIRST_TICK, 1)]
          else c
        let c := if c.zstate z = zsRunning then c else c.restartHistory z
        if c.zstate z ≠ zsRunning then c
        else if c.getB ZONE_STATUS z ZONE_STATUS.CTX_DAMAGED then c.zoneFault e z 4 0
        else c.loadContext e z

/-- `PUBLISH_POINT`: the allocator latches the demands of a zone that runs, and the fabric takes its estimate (R133, R256, R174). -/
def Chip.publishPoint (c : Chip) (e : Nat) : Chip :=
  let l := c.lane e
  match l.zone with
  | none => c
  | some z =>
    c.modZrt z (fun x =>
      let x := { x with worst := [] }
      if l.done && c.zstate z == zsRunning then
        let x := { x with latch := l.demand }
        match l.pub with
        | some v => { x with est := v, estAt := some c.up }
        | none => x
      else { x with latch := x.fallback })

/-! ## Zone, engine and plot resets (R162) -/

/-- A damaged configuration or parameter area, which `ZONE_RESET` cannot repair (R145). -/
def Chip.damagedCfg (c : Chip) (z : Nat) : Bool := c.getF ZONE_STATUS z ZONE_STATUS.DAMAGE % 4 != 0

/-- The model link rebuilt from the history and tuning areas (R228). -/
def Chip.rebuildLink (c : Chip) (z : Nat) : Chip :=
  let src := fun (f : Nat) => c.getF TUNE_STATUS z (TUNE_STATUS.SOURCE f)
  let fams := List.range 3
  c.modLink z (fun _ => {
    mstate := c.getF MODEL_COEF z MODEL_COEF.MSTATE,
    gainsOk := maskOf (fams.filter (fun f => src f != 0)), gainsModel := maskOf (fams.filter (fun f => src f == 2)),
    gains := fams.map (fun f => (c.getF TUNE_STATUS z (TUNE_STATUS.KP f), c.getF TUNE_STATUS z (TUNE_STATUS.TI f))),
    planOk := c.getF ZONE_PLAN z ZONE_PLAN.PSTATE == 1, delay := deadTicks (c.deadInForce z) (c.periodFx z) })

/-- The zone's window ends before a reset or a change of its owner takes effect (R150): a tick that has ended still publishes, and its
write-back gives way. -/
def Chip.endWindow (c : Chip) (z : Nat) : Chip :=
  let c := c.each 64 (fun c k =>
    let e := 64 * (z / 256) + k
    if (c.lane e).zone = some z ∧ (c.lane e).done then c.publishPoint e else c)
  c.unload z

/-- What a zone reset does (R162, R150). -/
def Chip.zoneResetActs (c : Chip) (z : Nat) : Chip :=
  let c := c.endWindow z
  let c := c.endTest z 4
  let dmg := c.getF ZONE_STATUS z ZONE_STATUS.DAMAGE
  let c := if dmg.testBit 5 then c.rebuildLink z else c
  let c := if dmg.testBit 3 then
      c.upd ZONE_BINDINGS z ((List.range 16).map (fun n => (ZONE_BINDINGS.TIME n, 0))) else c
  let c := if dmg.testBit 4 then
      c.upd ZONE_STATUS z ((List.range 8).map (fun p => (ZONE_STATUS.DEMAND p,
        (⟨16 * p, 16⟩ : Fld).get (fallbackOf (c.img ZONE_CFG z)))))
    else c
  let c := c.setImg ZONE_STATE z 0
  let c := c.restartHistory z
  let st := c.zstate z
  let c := c.upd ZONE_STATUS z ([(ZONE_STATUS.FAULT_CODE, 0), (ZONE_STATUS.FAULT_STEP, 0), (ZONE_STATUS.FIRST_TICK, 1),
    (ZONE_STATUS.DAMAGE, 0), (ZONE_STATUS.CTX_DAMAGED, 0)] ++ zoneCounters)
  let c := if st = zsFaulted then
      c.upd ZONE_STATUS z [(ZONE_STATUS.ZSTATE,
        if !c.listedOn z then zsUnused else if c.canRun z then zsRunning else zsDisplaced)]
    else c
  c.raiseZone 0x0201 0 z [] []

def zoneCmdSpec (opcode : Nat) (classes : List Nat) (who : Who → Bool) : CmdSpec where
  opcode := opcode
  classes := classes
  who := who
  len := fun n => n == 4

/-- The estate, or a plot. -/
def Who.estateOrPlot : Who → Bool
  | .estate _ => true
  | .plot _ => true
  | _ => false

/-- `ZONE_RESET`. -/
def Chip.zoneReset (c : Chip) (h : Hdr) (z : Nat) : Chip :=
  c.command h (zoneCmdSpec 0x0200 [1, 2] Who.estateOrPlot) (fun x c => checks c [
    (decide (1023 < z), stBadParam),
    (!x.who.estateOnly && x.who != .plot (c.zoneOwner z), stDenied),
    (h.prsv != 0, stBadParam),
    (c.damagedCfg z || c.wipingZone z, stBadState)]
    (fun _ => { chip := c.zoneResetActs z }))

/-- `PLOT_RESET`: once the reply is queued, the plot's sessions close and each of its zones is reset. -/
def Chip.plotReset (c : Chip) (h : Hdr) (p : Nat) : Chip :=
  c.command h (zoneCmdSpec 0x0310 [2] Who.estateOrPlot) (fun x c => checks c [
    (decide (255 < p), stBadParam),
    (!x.who.estateOnly && x.who != .plot p, stDenied),
    (h.prsv != 0, stBadParam),
    (c.slotState p == slWiping || (c.plotZones p).any c.damagedCfg, stBadState)]
    (fun _ => { chip := c, post := fun c =>
      (c.closeSessions (fun s => s.kind == kPlot && s.index == p)).eachOf (c.plotZones p) Chip.zoneResetActs }))

/-- `ENGINE_RESET`: it takes effect at the end of the engine's window. -/
def Chip.engineReset (c : Chip) (h : Hdr) (e : Nat) : Chip :=
  c.command h (zoneCmdSpec 0x0201 [2] (Who.estateOr scDiag)) (fun _ c =>
    let ps := c.pstate (e / 4)
    checks c [
      (decide (255 < e), stBadParam), (h.prsv != 0, stBadParam),
      (ps == psOff || ps == psResetting || ps == psRetired, stBadState)]
      (fun _ => { chip := { c with zones.laneReset := c.zones.laneReset ++ [e] } }))

/-- `ENGINE_RESET_APPLY`: the window has ended; its zone is written back, and the engine's registers and counters clear. -/
def Chip.engineResetApply (c : Chip) (e : Nat) : Chip :=
  if !c.zones.laneReset.contains e then c
  else
    let c := c.writeBack e
    Chip.setLane { c with zones.laneReset := c.zones.laneReset.filter (· != e) } e {}

/-! ## Pergolas (R146 to R148, R20) -/

/-- Stamps of the last 10 min. -/
def Chip.recent (c : Chip) (l : List Nat) : List Nat := l.filter (fun t => decide (c.since t < 600 * ticksPerSecond))

/-- The zones whose entries run on a pergola's engines now. -/
def Chip.pergolaZones (c : Chip) (p : Nat) : List Nat :=
  let t := p / 16
  ((c.entries t).filter (fun x => match c.engineNow t x.engine with
    | some e => e / 4 == p % 16
    | none => false)).map (fun x => 256 * t + x.slot)

/-- Steps 1 and 2 of R147: the zones are displaced, lanes, scratch and identification unit scrubbed, the self-test starts. -/
def Chip.pergolaStop (c : Chip) (p ps : Nat) : Chip :=
  let zs := c.pergolaZones p
  let c := c.eachOf zs Chip.displace
  let c := c.each 4 (fun c k => c.setLane (4 * p + k) {})
  let c := c.modPerg p (fun x => { x with passedAt := none, migrate := true })
  (c.upd PERGOLA_STATUS p [(PERGOLA_STATUS.PSTATE, ps)]).showEngines (p / 16)

/-- The terrace's `RETIRED` bit of a pergola. -/
def Chip.showRetired (c : Chip) (p : Nat) (b : Bool) : Chip :=
  let t := p / 16
  c.upd TERRACE_STATUS t [(TERRACE_STATUS.RETIRED, putBit (c.getF TERRACE_STATUS t TERRACE_STATUS.RETIRED) (p % 16) b)]

/-- `PERGOLA_FAULT` (R147): counted toward retirement; the third within 10 min retires the pergola (R20). Its event follows at
the migration, when the numbers of zones are known. -/
def Chip.pergolaFault (c : Chip) (p cause : Nat) : Chip :=
  let t := p / 16
  if c.pstate p = psRetired ∨ c.pstate p = psOff ∨ 2 ≤ c.tstate t then c
  else
    let c := c.incSat PERGOLA_STATUS p PERGOLA_STATUS.FAULT_CNT PERGOLA_STATUS.SAT 0
    let fs := c.recent (c.perg p).faults ++ [c.up]
    let c := c.upd PERGOLA_STATUS p [(PERGOLA_STATUS.LAST_CAUSE, cause), (PERGOLA_STATUS.FAULTS_10MIN, min 3 fs.length)]
    let c := c.modPerg p (fun x => { x with faults := fs, event := true })
    if c.tstate t = tsResetting then c
    else if 3 ≤ fs.length then
      let c := (c.pergolaStop p psRetired).showRetired p true
      let d := u32 (c.getF PERGOLA_STATUS p PERGOLA_STATUS.FAULT_CNT)
      c.raise 0x0209 2 p d evDiag
    else c.pergolaStop p psResetting

/-- Waiting replies of a pergola's reset are keyed by its number. -/
def pergolaWait (p : Nat) : Nat := 0x10000 + p

/-- `PERGOLA_SELF_TEST_DONE`: a pass returns the pergola to use, and with it one that an estate reset took out of retirement;
a failure is a fault of its own. A waiting `PERGOLA_RESET` is answered (R162). -/
def Chip.pergolaSelfTestDone (c : Chip) (p : Nat) (pass : Bool) : Chip :=
  let t := p / 16
  if c.pstate p ≠ psResetting ∨ c.tstate t ≠ tsInService then c
  else
    let retired := (c.getF TERRACE_STATUS t TERRACE_STATUS.RETIRED).testBit (p % 16)
    if pass then
      let c := c.upd PERGOLA_STATUS p [(PERGOLA_STATUS.PSTATE, psActive)]
      let c := c.modPerg p (fun x => { x with passedAt := some c.up })
      let c := if retired then
          let c := (c.showRetired p false).modPerg p (fun x => { x with faults := [], migrate := false })
          (c.upd PERGOLA_STATUS p [(PERGOLA_STATUS.FAULTS_10MIN, 0)]).raise 0x020A 1 p [] evDiag
        else c
      (c.showPergolas t).answerWaits (pergolaWait p) stOk []
    else
      let c := c.answerWaits (pergolaWait p) stHwFault []
      if retired then c.upd PERGOLA_STATUS p [(PERGOLA_STATUS.PSTATE, psRetired)] else c.pergolaFault p 5

/-- `PERGOLA_RESET`: the reply waits for the self-test. -/
def Chip.pergolaReset (c : Chip) (h : Hdr) (p : Nat) : Chip :=
  c.command h (zoneCmdSpec 0x0202 [2] (Who.estateOr scDiag)) (fun x c =>
    let ps := c.pstate p
    checks c [
      (decide (63 < p), stBadParam),
      (!x.who.estateOnly && ps == psRetired, stDenied),
      (h.prsv != 0, stBadParam),
      (ps == psOff || ps == psSpare || ps == psResetting || c.tstate (p / 16) != tsInService, stBadState)]
      (fun _ => { chip := (c.pergolaStop p psResetting).waitReply x (pergolaWait p) 0x0202, held := true }))

/-- The lowest-numbered free spare outside a pergola (R147): in the table's spare mask, carrying nothing, its pergola up. -/
def Chip.freeSpare (c : Chip) (t p : Nat) : Option Nat :=
  let busy := (c.ter t).moves.map Prod.snd
  (bitsOf 64 (c.getF TICK_TABLE t TICK_TABLE.SPARE_MASK)).find? (fun e =>
    e / 4 != p % 16 && !busy.contains e && c.pergolaUp (16 * t + e / 4))

/-- The home engines whose entries an engine of a pergola carried, in lane order. -/
def Chip.homesOn (c : Chip) (t p : Nat) : List Nat :=
  let homes := ((c.entries t).map Entry.engine).foldl (fun l e => if l.contains e then l else l ++ [e]) []
  let on := fun (h : Nat) => match (c.ter t).moves.find? (fun m => m.1 == h) with
    | some m => m.2
    | none => h
  sortOn on (homes.filter (fun h => on h / 4 == p % 16))

/-- The zones of a home engine. -/
def Chip.homeZones (c : Chip) (t home : Nat) : List Nat :=
  ((c.entries t).filter (fun x => x.engine == home)).map (fun x => 256 * t + x.slot)

/-- Displaced zones that can run again return to RUNNING. -/
def Chip.rehome (c : Chip) (t : Nat) : Chip := (c.showEngines t).eachOf (terraceZones t) Chip.undisplace

/-- `PERGOLA_MIGRATION`: at a tick-table boundary the entries of faulted pergolas move to free spares, engine by engine (R147), and
the zones left without one return home if the self-test has passed (R148). -/
def Chip.pergolaMigration (c : Chip) (t : Nat) : Chip :=
  if c.tstate t ≠ tsInService then c
  else
    let c := c.eachOf (terracePergolas t) (fun c p =>
      if !(c.perg p).migrate then c
      else
        let homes := c.homesOn t p
        let r := homes.foldl (fun (r : Chip × Nat × Nat) home =>
          let c := r.1
          let n := (c.homeZones t home).length
          let c := c.modTer t (fun x => { x with moves := x.moves.filter (fun m => m.1 != home) })
          match c.freeSpare t p with
          | some s => (c.modTer t (fun x => { x with moves := x.moves ++ [(home, s)] }), r.2.1 + n, r.2.2)
          | none => (c, r.2.1, r.2.2 + n)) (c, 0, 0)
        let c := r.1.modPerg p (fun x => { x with migrate := false })
        let c := if (c.perg p).event then
            let d := u8 (c.getF PERGOLA_STATUS p PERGOLA_STATUS.LAST_CAUSE) ++ u8 r.2.1 ++ u8 r.2.2 ++ rsvBytes 1
            (c.modPerg p (fun x => { x with event := false })).raise 0x0208 2 p d evDiag
          else c
        c)
    (c.showPergolas t).rehome t

/-- `PERGOLA_RETURN_HOME`: at a hyperperiod boundary at least 60 s after its home pergola passed its self-test, an engine's
entries return home and the spare is free again (R148). -/
def Chip.pergolaReturnHome (c : Chip) (t : Nat) : Chip :=
  let home := fun (e : Nat) => match (c.perg (16 * t + e / 4)).passedAt with
    | some at_ => c.pergolaUp (16 * t + e / 4) && decide (60 * ticksPerSecond ≤ c.since at_)
    | none => false
  let c := c.modTer t (fun x => { x with moves := x.moves.filter (fun m => !home m.1) })
  (c.showPergolas t).rehome t

/-! ## Terraces (R149, R20) -/

/-- The pending table load of a terrace ends without activation. -/
def Chip.dropLoad (c : Chip) (t status : Nat) : Chip :=
  match (c.ter t).load with
  | none => c
  | some l =>
    let c := c.finish l.handle status (u8 0 ++ rsvBytes 1 ++ u16 0xFFFF ++ u32 (TICK_TABLE.TABLE_ID.get l.img) ++ u64 0)
    let c := c.modTer t (fun x => { x with load := none })
    c.upd TERRACE_STATUS t [(TERRACE_STATUS.LOAD_PENDING, 0)]

/-- Steps 1 and 2 of R149: every zone displaced, the scheduler stopped, the pergolas in reset; a pending table load ends with
`BAD_STATE` and a running `PERGOLA_RESET` is answered so too (R150). -/
def Chip.terraceStop (c : Chip) (t : Nat) : Chip :=
  let c := c.dropLoad t stBadState
  let c := c.eachOf (terraceZones t) (fun c z => (((c.displace z).unload z).restartHistory z).dropRound z)
  let c := c.eachOf (terracePergolas t) (fun c p =>
    let c := c.answerWaits (pergolaWait p) stBadState []
    let c := c.each 4 (fun c k => c.setLane (4 * p + k) {})
    if (c.getF TERRACE_STATUS t TERRACE_STATUS.RETIRED).testBit (p % 16) then
      c.upd PERGOLA_STATUS p [(PERGOLA_STATUS.PSTATE, psRetired)]
    else c.upd PERGOLA_STATUS p [(PERGOLA_STATUS.PSTATE, psResetting)])
  c.incSat TERRACE_STATUS t TERRACE_STATUS.RESET_CNT TERRACE_STATUS.SAT 0

/-- The terrace goes OUT_OF_SERVICE: its zones stay on their fallback demands (R20, R149). -/
def Chip.terraceOutOfService (c : Chip) (t : Nat) : Chip :=
  let c := c.modTer t (fun x => { x with reset := none })
  let c := c.upd TERRACE_STATUS t [(TERRACE_STATUS.TSTATE, tsOutOfService)]
  let c := c.eachOf (terracePergolas t) (fun c p =>
    if c.pstate p = psRetired then c else c.upd PERGOLA_STATUS p [(PERGOLA_STATUS.PSTATE, psOff)])
  c.raise 0x0211 2 t (u32 (c.getF TERRACE_STATUS t TERRACE_STATUS.RESET_CNT)) evDiag

/-- A terrace reset starts with its cause: 0 commanded, 1 watchdog, 2 table CRC, 3 double-bit error. -/
def Chip.terraceResetStart (c : Chip) (t cause : Nat) (handle : Option Nat) : Chip :=
  let c := c.terraceStop t
  let c := c.modTer t (fun x => { x with reset := some (cause, handle) })
  c.upd TERRACE_STATUS t [(TERRACE_STATUS.TSTATE, tsResetting)]

/-- An automatic reset counts toward R20: the third within 10 min takes the terrace out of service. -/
def Chip.autoReset (c : Chip) (t cause : Nat) : Chip :=
  if c.tstate t ≠ tsInService then c
  else
    let rs := c.recent (c.ter t).autoResets ++ [c.up]
    let c := c.modTer t (fun x => { x with autoResets := rs })
    let c := c.upd TERRACE_STATUS t [(TERRACE_STATUS.RESETS_10MIN, min 3 rs.length)]
    if 3 ≤ rs.length then (c.terraceStop t).terraceOutOfService t else c.terraceResetStart t cause none

/-- `TERRACE_WATCHDOG`: a missed frame marker (1), a wrong table CRC (2) or a double-bit error in table or scheduler (3). -/
def Chip.terraceWatchdog (c : Chip) (t cause : Nat) : Chip := c.autoReset t cause

/-- Damaged contexts of a terrace. -/
def Chip.damagedZones (c : Chip) (t : Nat) : Nat :=
  ((terraceZones t).filter (fun z => c.getB ZONE_STATUS z ZONE_STATUS.CTX_DAMAGED)).length

/-- `TERRACE_RESET_DONE`: the reset has ended. A passed self-test reloads program store and table, sets every `FIRST_TICK` and lets
the zones run from the next boundary, at `resume`: at home, but for those of retired pergolas, which are on spares or move to them
(assumption 125). A failed one takes the terrace out of service (R149). -/
def Chip.terraceResetDone (c : Chip) (t resume : Nat) (pass : Bool) : Chip :=
  match (c.ter t).reset with
  | none => c
  | some (cause, handle) =>
    let n := c.damagedZones t
    let d := u16 n ++ rsvBytes 2 ++ u64 resume
    if pass then
      let c := c.modTer t (fun x => { x with
        reset := none, badProgs := [],
        moves := x.moves.filter (fun m => (c.getF TERRACE_STATUS t TERRACE_STATUS.RETIRED).testBit (m.1 / 4)) })
      let c := c.upd TERRACE_STATUS t [(TERRACE_STATUS.TSTATE, tsInService)]
      let c := c.eachOf (terracePergolas t) (fun c p =>
        if c.pstate p = psRetired then c.modPerg p (fun x => { x with migrate := true })
        else (c.upd PERGOLA_STATUS p [(PERGOLA_STATUS.PSTATE, psActive)]).modPerg p (fun x =>
          { x with migrate := false, passedAt := some c.up }))
      let c := c.eachOf (terraceZones t) (fun c z => c.upd ZONE_STATUS z [(ZONE_STATUS.FIRST_TICK, 1)])
      let c := (c.showPergolas t).rehome t
      let c := c.finish handle stOk d
      c.raise 0x0210 1 t (u8 cause ++ rsvBytes 1 ++ u16 n) evDiag
    else (c.finish handle stHwFault d).terraceOutOfService t

/-- `TERRACE_RESET`. An estate reset of a terrace out of service starts its count from zero (R20). -/
def Chip.terraceReset (c : Chip) (h : Hdr) (t : Nat) : Chip :=
  c.command h (zoneCmdSpec 0x0203 [2] (Who.estateOr scDiag)) (fun x c => checks c [
    (decide (3 < t), stBadParam),
    (!x.who.estateOnly && c.tstate t == tsOutOfService, stDenied),
    (h.prsv != 0, stBadParam),
    (c.tstate t == tsResetting || c.tstate t == tsOff, stBadState)]
    (fun _ => c.accept x (fun c k =>
      let back := c.tstate t == tsOutOfService
      let c := if back then (c.modTer t (fun y => { y with autoResets := [] })).upd TERRACE_STATUS t
          [(TERRACE_STATUS.RESETS_10MIN, 0)] else c
      c.terraceResetStart t 0 (some k))))

/-! ## Memory checking (R145, R139) -/

def Chip.eccEvent (c : Chip) (t region repaired offset : Nat) : Chip :=
  c.raise 0x0213 2 t (u8 region ++ u8 repaired ++ u32 offset) evDiag

/-- The area of a context in which a byte offset lies (Table 4.2, `DAMAGE`): 0 configuration, 1 parameters, 2 header and state,
3 bindings, 4 ports, 5 model link; none for a reserved byte. -/
def contextArea (o : Nat) : Option Nat :=
  if o < 0xB0 then some 0 else if o < 0xD0 then some 2 else if o < 0x100 then none
  else if o < 0x200 then some 1 else if o < 0x300 then some 2 else if o < 0x3C0 then some 3
  else if o < 0x3E0 then some 4 else some 5

/-- A double-bit error in the plan SRAM, by area (R228). -/
def Chip.planSramError (c : Chip) (z o : Nat) : Chip :=
  if o < 0x400 then
    let c := c.resetEstimate z
    if (c.zrt z).link.mstate = 2 then c.setMState z 3 (c.zoneOwner z) else c
  else if o < 0x500 then (c.clearBlock z).modelLost z 4 (c.zoneOwner z)
  else if o < 0x580 then
    let c := c.modModel z (fun m => { m with relayGains := [], dead := none })
    let c := c.modLink z (fun k => { k with gainsOk := k.gainsOk &&& k.gainsModel })
    c.each 3 (fun c f => c.showGains z f)
  else if o < 0x600 then c.clearRec OCC_TIMELINE z
  else if o < 0x8A8 then
    let hit := (List.range 672).filter (fun k => (0x608 + k) / 8 == o / 8)
    let c := c.upd PRESENCE_PROFILE z (hit.map (fun k => (PRESENCE_PROFILE.ENTRY k, 0xFF)))
    let p := c.img PRESENCE_PROFILE z
    c.upd PRESENCE_PROFILE z [(PRESENCE_PROFILE.LEARNT,
      ((List.range 672).filter (fun k => (PRESENCE_PROFILE.ENTRY k).get p != 0xFF)).length)]
  else if o < 0xBC8 then c.planInvalid z
  else c

/-- `ECC_SCRUB`: the scrubber, a load or a fetch finds an error in a word of a terrace SRAM (R145): region 0 context, 1 plan, 2
program, 3 table; `offset` is its byte offset in the region. In the program region the word belongs to the program stored
there; region 4 is a pergola's scratch, `offset` its number (R139). -/
def Chip.eccScrub (c : Chip) (t region offset : Nat) (double : Bool) : Chip :=
  if region = 4 then
    if double then c.pergolaFault (16 * t + offset % 16) 4
    else c.incSat PERGOLA_STATUS (16 * t + offset % 16) PERGOLA_STATUS.SCRATCH_CE_CNT PERGOLA_STATUS.SAT 1
  else if !double then c.incSat TERRACE_STATUS t TERRACE_STATUS.ECC_CE_CNT TERRACE_STATUS.SAT 1
  else
    let c := c.incSat TERRACE_STATUS t TERRACE_STATUS.ECC_DE_CNT TERRACE_STATUS.SAT 2
    let c := c.eccEvent t region 0 offset
    if region = 0 then
      let z := 256 * t + offset / 1024 % 256
      match contextArea (offset % 1024) with
      | some a => c.upd ZONE_STATUS z [(ZONE_STATUS.DAMAGE, setBit (c.getF ZONE_STATUS z ZONE_STATUS.DAMAGE) a),
          (ZONE_STATUS.CTX_DAMAGED, 1)]
      | none => c
    else if region = 1 then c.planSramError (256 * t + offset / 3072 % 256) (offset % 3072)
    else if region = 2 then
      let word := (offset - 0x800) / 4
      let ids := (List.range 128).filter (fun id =>
        let r := c.img PROGRAM_INFO (128 * t + id)
        let base := PROGRAM_INFO.BASE.get r
        let n := PROGRAM_INFO.STEP_COUNT.get r + PROGRAM_INFO.CONST_COUNT.get r
        PROGRAM_INFO.VALID.get r == 1
          && (if offset < 0x800 then offset / 16 == id else decide (base ≤ word ∧ word < base + n)))
      c.modTer t (fun x => { x with badProgs := x.badProgs ++ ids })
    else c.autoReset t 3

/-- `PROGRAM_STORE_REPAIR`: the Keeper reloads a program marked bad from its copy and reports it again (R145). -/
def Chip.programStoreRepair (c : Chip) (t id : Nat) : Chip :=
  if !(c.ter t).badProgs.contains id then c
  else
    let c := c.modTer t (fun x => { x with badProgs := x.badProgs.filter (· != id) })
    c.eccEvent t 2 1 (0x800 + 4 * c.getF PROGRAM_INFO (128 * t + id) PROGRAM_INFO.BASE)

/-! ## Tick table loads (R136, R137) -/

/-- CRC-32 with the reflected polynomial of R43 over a byte string. -/
def crcBit (v : Nat) : Nat := if v % 2 = 1 then (v / 2) ^^^ 0xEDB88320 else v / 2
def crcByte (v b : Nat) : Nat := (List.range 8).foldl (fun v _ => crcBit v) (v ^^^ (b % 256))
def crc32 (l : List Nat) : Nat := (l.foldl crcByte 0xFFFFFFFF) ^^^ 0xFFFFFFFF

/-- The first index of a list that meets a condition. -/
def firstIdx (n : Nat) (p : Nat → Bool) : Option Nat := (List.range n).find? p

/-- Two entries collide (R136). -/
def collide (a b : Entry) : Bool :=
  let g := Nat.gcd (framesOf a.period) (framesOf b.period)
  a.engine == b.engine && a.window == b.window && a.phase % g == b.phase % g

/-- The later entry of the first pair, in entry order, that meets a condition. -/
def pairIdx (es : List Entry) (p : Entry → Entry → Bool) : Option Nat :=
  let n := es.length
  let prs := (List.range n).flatMap (fun i => ((List.range n).filter (fun j => decide (i < j))).map (fun j => (i, j)))
  (prs.find? (fun q => match es[q.1]?, es[q.2]? with
    | some a, some b => p a b
    | _, _ => false)).map Prod.snd

/-- The validation of Table 4.7: 0, or the first rule broken with its entry (0xFFFF: none). -/
def Chip.tableCheck (c : Chip) (t img len : Nat) : Nat × Nat :=
  let n := TICK_TABLE.ENTRY_COUNT.get img
  let es := tableEntries img
  let spare := TICK_TABLE.SPARE_MASK.get img
  let ret := c.getF TERRACE_STATUS t TERRACE_STATUS.RETIRED
  let at_ := fun (p : Entry → Bool) => firstIdx es.length (fun k => match es[k]? with
    | some x => p x
    | none => false)
  let own := fun (x : Entry) => c.zoneOwner (256 * t + x.slot)
  let pinned := fun (x : Entry) => decide (own x < 256) && c.getB PLOT_ISOLATION (own x) PLOT_ISOLATION.MODE
  let prog := fun (x : Entry) =>
    let z := 256 * t + x.slot
    let id := c.getF ZONE_CFG z ZONE_CFG.PROG_ID
    c.getB ZONE_CFG z ZONE_CFG.EN && (decide (127 < id) || !c.getB PROGRAM_INFO (128 * t + id) PROGRAM_INFO.VALID
      || decide (2048 < c.getF PROGRAM_INFO (128 * t + id) PROGRAM_INFO.WCET))
  let bytes := (leBytes (8 * n) (img / 2 ^ 256))
  if TICK_TABLE.FORMAT.get img ≠ 1 ∨ 256 < n ∨ len ≠ 32 + 8 * n ∨ (⟨160, 96⟩ : Fld).get img ≠ 0 then (1, 0xFFFF)
  else if crc32 bytes ≠ TICK_TABLE.CRC.get img then (2, 0xFFFF)
  else match at_ (fun x => decide (63 < x.engine ∨ 8 < x.period ∨ framesOf x.period ≤ x.phase ∨ 999 < x.window) || x.rsv != 0) with
  | some k => (3, k)
  | none => match pairIdx es (fun a b => a.slot == b.slot) with
  | some k => (4, k)
  | none => match pairIdx es collide with
  | some k => (5, k)
  | none => match at_ (fun x => spare.testBit x.engine) with
  | some k => (6, k)
  | none => match at_ (fun x => ret.testBit (x.engine / 4)) with
  | some k => (7, k)
  | none =>
    if (bitsOf 64 spare).any (fun e => ret.testBit (e / 4)) then (7, 0xFFFF)
    else match at_ (fun x => es.any (fun y => y.engine == x.engine && own y != own x && (pinned x || pinned y))) with
    | some k => (8, k)
    | none => match at_ prog with
      | some k => (9, k)
      | none => (0, 0xFFFF)

def tickTableLoadSpec : CmdSpec where
  opcode := 0x0204
  classes := [2, 3]
  who := Who.estateOnly
  len := fun n => decide (32 ≤ n ∧ n ≤ 2080)
  level := lvFull

/-- `TICK_TABLE_LOAD`: accepted for the terrace that the image names (R136). -/
def Chip.tickTableLoad (c : Chip) (h : Hdr) (img : Nat) : Chip :=
  let t := TICK_TABLE.TERRACE.get img
  c.command h tickTableLoadSpec (fun x c => checks c [
    (decide (3 < t), stBadParam),
    ((c.ter t).load.isSome, stBusy),
    (c.tstate t != tsInService, stBadState)]
    (fun _ => c.accept x (fun c k => c.modTer t (fun y => { y with load := some { handle := some k, img := img, len := h.len } }))))

/-- `TICK_TABLE_VALIDATED`: a table that breaks a rule of Table 4.7 is refused in the result; one that breaks none is pending. -/
def Chip.tickTableValidated (c : Chip) (t : Nat) : Chip :=
  match (c.ter t).load with
  | none => c
  | some l =>
    if l.valid then c
    else
      let r := c.tableCheck t l.img l.len
      if r.1 = 0 then
        let c := c.modTer t (fun x => { x with load := some { l with valid := true } })
        c.upd TERRACE_STATUS t [(TERRACE_STATUS.LOAD_PENDING, 1)]
      else
        let c := c.finish l.handle stBadParam (u8 r.1 ++ rsvBytes 1 ++ u16 r.2 ++ u32 (TICK_TABLE.TABLE_ID.get l.img) ++ u64 0)
        c.modTer t (fun x => { x with load := none })

/-- `TICK_TABLE_COMMIT_POINT`: the pending load can no longer be cancelled (R137). -/
def Chip.tickTableCommitPoint (c : Chip) (t : Nat) : Chip :=
  c.modTer t (fun x => match x.load with
    | some l => if l.valid then { x with load := some { l with committed := true } } else x
    | none => x)

/-- `USERS` of a terrace's programs (Table 5.13): the listed zones with `EN` = 1 that name them. -/
def Chip.showUsers (c : Chip) (t : Nat) : Chip :=
  let zs := (terraceZones t).filter c.listedOn
  c.each 128 (fun c id =>
    c.upd PROGRAM_INFO (128 * t + id) [(PROGRAM_INFO.USERS,
      (zs.filter (fun z => c.getF ZONE_CFG z ZONE_CFG.PROG_ID == id)).length)])

/-- A terrace takes a table (R137): zones dropped are UNUSED, zones added start with `FIRST_TICK`, and the migrations that still
stand keep their spares. -/
def Chip.installTable (c : Chip) (t img : Nat) : Chip :=
  let before := (c.entries t).map Entry.slot
  let c := c.setImg TICK_TABLE t img
  let es := c.entries t
  let c := c.upd TERRACE_STATUS t [(TERRACE_STATUS.TABLE_ID, TICK_TABLE.TABLE_ID.get img)]
  let c := c.modTer t (fun x => { x with moves := x.moves.filter (fun m =>
    es.any (fun y => y.engine == m.1) && (TICK_TABLE.SPARE_MASK.get img).testBit m.2) })
  let c := c.eachOf (terraceZones t) (fun c z =>
    let s := z % 256
    if es.any (fun y => y.slot == s) then
      if before.contains s then c else c.upd ZONE_STATUS z [(ZONE_STATUS.FIRST_TICK, 1)]
    else if c.zstate z = zsDisplaced then c.upd ZONE_STATUS z [(ZONE_STATUS.ZSTATE, zsUnused)]
    else c.zoneUnused z)
  let c := ((c.showPergolas t).showEngines t).showUsers t
  let c := c.eachOf (terraceZones t) (fun c z =>
    if c.zstate z = zsRunning ∧ ¬ c.canRun z then c.displace z else c.undisplace z)
  c.showIsolations

/-- `TICK_TABLE_ACTIVE`: at the hyperperiod boundary the committed table becomes active (R137). -/
def Chip.tickTableActive (c : Chip) (t : Nat) : Chip :=
  match (c.ter t).load with
  | none => c
  | some l =>
    if !l.valid ∨ !l.committed then c
    else
      let id := TICK_TABLE.TABLE_ID.get l.img
      let c := (c.installTable t l.img).dirty
      let c := c.modTer t (fun x => { x with load := none })
      let c := c.upd TERRACE_STATUS t [(TERRACE_STATUS.LOAD_PENDING, 0)]
      let c := c.finish l.handle stOk (u8 0 ++ rsvBytes 1 ++ u16 0xFFFF ++ u32 id ++ u64 c.now)
      c.raise 0x0212 0 t (u32 id) evDiag

/-- `RESULT_RELEASE` of a load's handle before its commit point cancels the load (R137); a program load is cancelled until its
result is fixed (R190). -/
def Chip.cancelLoads (c : Chip) (k : Nat) : Chip :=
  c.each 4 (fun c t =>
    let c := match (c.ter t).load with
      | some l => if l.handle = some k ∧ ¬ l.committed then
          (c.modTer t (fun x => { x with load := none })).upd TERRACE_STATUS t [(TERRACE_STATUS.LOAD_PENDING, 0)] else c
      | none => c
    match (c.ter t).prog with
    | some p => if p.handle = some k then c.modTer t (fun x => { x with prog := none }) else c
    | none => c)

/-! ## Program loads (R187 to R190) -/

/-- The first step of an image that fails a check with the given reason. -/
def progStepIdx (img reason : Nat) : Option Nat :=
  firstIdx (imgSteps img) (fun k => stepCheck img k == reason)

/-- The second step with an opcode. -/
def secondStep (img op : Nat) : Option Nat :=
  ((List.range (imgSteps img)).filter (fun k => (stepOf (imgWord img k)).op == op))[1]?

/-- Words of the word area in use by a terrace's programs but one (R187). -/
def Chip.wordsUsed (c : Chip) (t but : Nat) : Nat :=
  (List.range 128).foldl (fun n id =>
    let r := c.img PROGRAM_INFO (128 * t + id)
    if id ≠ but ∧ PROGRAM_INFO.VALID.get r = 1 then n + PROGRAM_INFO.STEP_COUNT.get r + PROGRAM_INFO.CONST_COUNT.get r else n) 0

/-- The checks of Table 5.6 in their order: reason and step. -/
def Chip.programCheck (c : Chip) (t id img len : Nat) : Nat × Nat :=
  let n := imgSteps img
  let k := imgConsts img
  let bytes := leBytes (4 * (n + k)) (img / 2 ^ 128)
  if (⟨0, 8⟩ : Fld).get img ≠ 1 ∨ n < 1 ∨ 128 < n ∨ 64 < k ∨ len ≠ 16 + 4 * (n + k) ∨ (⟨24, 8⟩ : Fld).get img ≠ 0
    ∨ (⟨96, 32⟩ : Fld).get img ≠ 0 then (1, 0xFFFF)
  else if crc32 bytes ≠ (⟨64, 32⟩ : Fld).get img then (2, 0xFFFF)
  else match progStepIdx img 3 with
  | some s => (3, s)
  | none => match progStepIdx img 4 with
  | some s => (4, s)
  | none => match progStepIdx img 5 with
  | some s => (5, s)
  | none =>
    if (stepOf (imgWord img (n - 1))).op ≠ 0 then (5, n - 1)
    else match secondStep img 0x21, secondStep img 0x2E with
    | some a, some b => (6, min a b)
    | some a, none => (6, a)
    | none, some b => (6, b)
    | none, none =>
      if 7680 < c.wordsUsed t id + n + k then (7, 0xFFFF)
      else if 2048 < imgWcet img ∧ 0 < c.getF PROGRAM_INFO (128 * t + id) PROGRAM_INFO.USERS
        ∧ c.getB PROGRAM_INFO (128 * t + id) PROGRAM_INFO.VALID then (8, 0xFFFF)
      else (0, 0xFFFF)

/-- The programs of a terrace but one, in the order of their `BASE`. -/
def Chip.progOrder (c : Chip) (t but : Nat) : List Nat :=
  sortOn (fun id => c.getF PROGRAM_INFO (128 * t + id) PROGRAM_INFO.BASE)
    ((List.range 128).filter (fun id => id != but && c.getB PROGRAM_INFO (128 * t + id) PROGRAM_INFO.VALID))

def Chip.progWords (c : Chip) (t id : Nat) : Nat :=
  c.getF PROGRAM_INFO (128 * t + id) PROGRAM_INFO.STEP_COUNT + c.getF PROGRAM_INFO (128 * t + id) PROGRAM_INFO.CONST_COUNT

/-- The lowest run of free words that is large enough (R187; the place is the model's choice, assumption 18). -/
def Chip.findRun (c : Chip) (t but need : Nat) : Option Nat :=
  let r := (c.progOrder t but).foldl (fun (r : Nat × Option Nat) id =>
    let b := c.getF PROGRAM_INFO (128 * t + id) PROGRAM_INFO.BASE
    match r.2 with
    | some _ => r
    | none => if r.1 + need ≤ b then (r.1, some r.1) else (b + c.progWords t id, none)) (0, none)
  match r.2 with
  | some b => some b
  | none => if r.1 + need ≤ 7680 then some r.1 else none

/-- `PROGRAM_COMPACTION`: programs are moved together before the new one is stored (R187). -/
def Chip.compact (c : Chip) (t but : Nat) : Chip :=
  ((c.progOrder t but).foldl (fun (r : Chip × Nat) id =>
    (r.1.upd PROGRAM_INFO (128 * t + id) [(PROGRAM_INFO.BASE, r.2)], r.2 + c.progWords t id)) (c, 0)).1

def progAud : Audience := evDiag

/-- A program takes its place in the store and in the Keeper's copy (R190). -/
def Chip.storeProgram (c : Chip) (t id img : Nat) : Chip :=
  let n := imgSteps img
  let k := imgConsts img
  let r := match c.findRun t id (n + k) with
    | some b => (c, b)
    | none => let c := c.compact t id; (c, (c.findRun t id (n + k)).getD 0)
  let c := r.1
  let c := c.upd PROGRAM_INFO (128 * t + id) [(PROGRAM_INFO.VALID, 1), (PROGRAM_INFO.STEP_COUNT, n), (PROGRAM_INFO.CONST_COUNT, k),
    (PROGRAM_INFO.WCET, imgWcet img), (PROGRAM_INFO.BASE, r.2), (PROGRAM_INFO.USER_ID, (⟨32, 32⟩ : Fld).get img),
    (PROGRAM_INFO.CRC, (⟨64, 32⟩ : Fld).get img)]
  let c := c.setImg PROGRAM_IMAGE (128 * t + id) img
  let c := c.modTer t (fun x => { x with badProgs := x.badProgs.filter (· != id) })
  (c.showUsers t).dirty

def programLoadSpec : CmdSpec where
  opcode := 0x0240
  classes := [2, 3]
  who := Who.estateOnly
  len := fun n => decide (20 ≤ n ∧ n ≤ 788)
  level := lvFull

/-- `PROGRAM_LOAD`. -/
def Chip.programLoad (c : Chip) (h : Hdr) (t id img : Nat) : Chip :=
  c.command h programLoadSpec (fun x c => checks c [
    (decide (3 < t ∨ 127 < id), stBadParam), (h.prsv != 0, stBadParam),
    (c.tstate t != tsInService, stBadState), ((c.ter t).prog.isSome, stBusy)]
    (fun _ => c.accept x (fun c k => c.modTer t (fun y =>
      { y with prog := some { handle := some k, id := id, img := img, len := h.len - 4 } }))))

/-- `PROGRAM_LOAD_RESULT`: the checks end and the program is stored or refused (R190). -/
def Chip.programLoadResult (c : Chip) (t : Nat) : Chip :=
  match (c.ter t).prog with
  | none => c
  | some p =>
    let r := c.programCheck t p.id p.img p.len
    let uid := (⟨32, 32⟩ : Fld).get p.img
    let c := c.modTer t (fun x => { x with prog := none })
    let d := u8 r.1 ++ rsvBytes 1 ++ u16 r.2 ++ u16 (imgWcet p.img) ++ rsvBytes 2 ++ u32 uid
    if r.1 = 0 then
      let c := c.storeProgram t p.id p.img
      let c := c.finish p.handle stOk d
      c.raise 0x0242 0 t (u8 p.id ++ u8 0 ++ u16 0 ++ u32 uid) progAud
    else c.finish p.handle (if r.1 ≤ 6 then stBadParam else stBadState) d

def programUnloadSpec : CmdSpec where
  opcode := 0x0241
  classes := [2]
  who := Who.estateOnly
  len := fun n => n == 4

/-- `PROGRAM_UNLOAD`: with `FORCE`, each zone that names the program faults at its next fetch, where the program is missing. -/
def Chip.programUnload (c : Chip) (h : Hdr) (t id force : Nat) : Chip :=
  c.command h programUnloadSpec (fun _ c =>
    let k := 128 * t + id
    checks c [
      (decide (3 < t ∨ 127 < id), stBadParam), (decide (1 < force) || h.prsv != 0, stBadParam),
      (!c.getB PROGRAM_INFO k PROGRAM_INFO.VALID || (decide (0 < c.getF PROGRAM_INFO k PROGRAM_INFO.USERS) && force == 0),
        stBadState),
      ((c.ter t).prog.isSome, stBusy)]
      (fun _ =>
        let uid := c.getF PROGRAM_INFO k PROGRAM_INFO.USER_ID
        let users := c.getF PROGRAM_INFO k PROGRAM_INFO.USERS
        let c := ((c.clearRec PROGRAM_INFO k).clearRec PROGRAM_IMAGE k).showUsers t
        { chip := c.dirty.raise 0x0242 0 t (u8 id ++ u8 1 ++ u16 users ++ u32 uid) progAud }))

/-! ## Isolation (R143, R162) -/

/-- The allocator sets or clears `ISOLATED` of a zone. -/
def Chip.setIsolated (c : Chip) (z : Nat) (b : Bool) : Chip :=
  let v := if b then 1 else 0
  let c := c.upd ZONE_STATUS z [(ZONE_STATUS.ISOLATED, v)]
  c.raiseZone 0x0202 2 z (u8 v) (u8 v)

/-! ## Records (R153 to R161) -/

/-- Instances of a binding source kind (Table 0.5). -/
def srcCount (kind : Nat) : Nat := [0, 4096, 64, 32, 24, 32].getD kind 0

/-- `PROG_ID` names no program loaded in the zone's terrace. -/
def Chip.badProgram (c : Chip) (z id : Nat) : Bool :=
  id != 0xFF && !c.getB PROGRAM_INFO (128 * (z / 256) + id) PROGRAM_INFO.VALID

/-- A change of owner leaves a pinned plot sharing an engine with another owner in the active table (R142). -/
def Chip.breaksPin (c : Chip) (z new : Nat) : Bool :=
  let t := z / 256
  let pinned := fun (o : Nat) => decide (o < 256) && c.getB PLOT_ISOLATION o PLOT_ISOLATION.MODE
  match c.entry z with
  | none => false
  | some x =>
    let own := fun (y : Entry) => if y.slot = z % 256 then new else c.zoneOwner (256 * t + y.slot)
    (c.entries t).any (fun y => y.engine == x.engine && own y != new && (pinned (own y) || pinned new))

/-- A `ZONE_CFG` write after the merge: fallback copy, owner change, enable, users, and the damage it repairs (R130, R131, R153). -/
def Chip.zoneCfgEffect (c : Chip) (z old : Nat) : Chip :=
  let new := c.img ZONE_CFG z
  let c := c.takeFallback z
  let dmg := clearBit (c.getF ZONE_STATUS z ZONE_STATUS.DAMAGE) 0
  let c := c.upd ZONE_STATUS z [(ZONE_STATUS.DAMAGE, dmg), (ZONE_STATUS.CTX_DAMAGED, if dmg = 0 then 0 else 1)]
  let oldOwner := ZONE_CFG.OWNER.get old
  let c := if oldOwner ≠ ZONE_CFG.OWNER.get new then (c.endWindow z).ownerChanged z oldOwner
    else if !c.enrolledZone z then c.copyPdef z plotClass else c
  let c := if ZONE_CFG.EN.get new = 0 then
      if c.zstate z = zsDisplaced then c.upd ZONE_STATUS z [(ZONE_STATUS.ZSTATE, zsUnused)] else c.zoneUnused z
    else if ZONE_CFG.EN.get old = 0 then c.upd ZONE_STATUS z [(ZONE_STATUS.FIRST_TICK, 1)]
    else c
  c.showUsers (z / 256)

/-- A `ZONE_CFG` image breaks a rule of R153 beside its fields' ranges: a class of 3, a binding or a neighbour that does not exist, or a
program number that no store has. -/
def zoneCfgBad (z img : Nat) : Bool :=
  let id := ZONE_CFG.PROG_ID.get img
  let badBind := (List.range 16).any (fun n =>
    let b := (ZONE_CFG.BIND n).get img
    decide (5 < b % 256) || (b % 256 != 0 && decide (srcCount (b % 256) ≤ b / 65536)))
  let badNb := (List.range 8).any (fun n =>
    let v := (ZONE_CFG.NEIGHBOUR n).get img
    v != 0xFFFF && (v == z || decide (1023 < v)))
  (List.range 16).any (fun n => pclass img n == 3) || badBind || badNb || (decide (127 < id) && id != 0xFF)

/-- A `ZONE_CFG` image names a program that is not loaded, or an owner that breaks pinning (R142, R153). -/
def Chip.zoneCfgHeld (c : Chip) (z img : Nat) : Bool :=
  let owner := ZONE_CFG.OWNER.get img
  c.badProgram z (ZONE_CFG.PROG_ID.get img) || (owner != c.zoneOwner z && c.breaksPin z owner)

/-- `ZONE_CFG` (R153). -/
def Chip.zoneCfgWrite (c : Chip) (x : Ctx) (z ver img : Nat) : Res :=
  c.setRecord x.h ZONE_CFG z ver img
    { badId := badOwner (ZONE_CFG.OWNER.get img), may := x.who.estateOnly, bad := zoneCfgBad z img,
      state := if c.zoneCfgHeld z img then stBadState else 0 }
    (fun c old => c.zoneCfgEffect z old)

/-- Bounds of a class-1 word in raw fx32 (R131): both ends rounded inwards. -/
def classBounds (lim : Int × Int) : Int × Int := (-(Int.fdiv (-(lim.1 * 65536)) 100), Int.fdiv (lim.2 * 65536) 100)

/-- The words of `ZONE_PARAMS` that a principal may write (R154). -/
def Chip.mayWord (c : Chip) (w : Who) (z n : Nat) : Bool :=
  let cls := if n < 48 then 0 else pclass (c.img ZONE_CFG z) (n - 48)
  if w.estateOnly then cls == 0 else plotClass cls

/-- A `ZONE_PARAMS` write as it takes effect: words the writer may not write are ignored (R154). -/
def Chip.paramsMerged (c : Chip) (w : Who) (z img : Nat) : Nat :=
  setFields (((List.range 64).filter (fun n => c.mayWord w z n)).map (fun n => (ZONE_PARAMS.P n, (ZONE_PARAMS.P n).get img)))
    (c.img ZONE_PARAMS z)

/-- A class-1 word of a plot's write lies outside the bounds of its limits (R131). -/
def Chip.paramsOut (c : Chip) (z img : Nat) : Bool :=
  let b := classBounds (c.limitsOf (c.zoneOwner z))
  (List.range 16).any (fun n => pclass (c.img ZONE_CFG z) n == 1 &&
    (let v := toSigned 32 ((ZONE_PARAMS.P (48 + n)).get img)
     decide (v < b.1 ∨ b.2 < v)))

/-- `ZONE_PARAMS` (R154): a class-1 word outside the bounds refuses the write. -/
def Chip.zoneParamsWrite (c : Chip) (x : Ctx) (z ver img : Nat) : Res :=
  c.setRecord x.h ZONE_PARAMS z ver (c.paramsMerged x.who z img)
    { may := x.who.estateOnly || (x.who == .plot (c.zoneOwner z) && c.enrolledZone z), bad := !x.who.estateOnly && c.paramsOut z img }
    (fun c _ =>
      let dmg := clearBit (c.getF ZONE_STATUS z ZONE_STATUS.DAMAGE) 1
      c.upd ZONE_STATUS z [(ZONE_STATUS.DAMAGE, dmg), (ZONE_STATUS.CTX_DAMAGED, if dmg = 0 then 0 else 1)])

/-- The class-1 words of a plot's zones are clamped to the nearer bound (R161). -/
def Chip.clampWords (c : Chip) (p : Nat) : Chip :=
  let b := classBounds (c.limitsOf p)
  c.eachOf ((c.plotZones p).filter c.enrolledZone) (fun c z =>
    let ws := (List.range 16).filter (fun n => pclass (c.img ZONE_CFG z) n == 1)
    c.upd ZONE_PARAMS z (ws.map (fun n =>
      (ZONE_PARAMS.P (48 + n), ofSigned 32 (clampI b.1 b.2 (c.getS ZONE_PARAMS z (ZONE_PARAMS.P (48 + n))))))))

/-- `PLOT_LIMITS` (R161). -/
def Chip.plotLimitsWrite (c : Chip) (x : Ctx) (p ver img : Nat) : Res :=
  let s := fun (f : Fld) => toSigned 16 (f.get img)
  c.setRecord x.h PLOT_LIMITS p ver img
    { may := x.who.estateOnly,
      bad := decide (s PLOT_LIMITS.SP_MAX < s PLOT_LIMITS.SP_MIN)
        || decide (PLOT_LIMITS.OCC_LATEST.get img < PLOT_LIMITS.OCC_EARLIEST.get img) }
    (fun c _ => c.clampWords p)

/-- `PLOT_ISOLATION` (R142): the requirement binds the tables loaded after it is set. -/
def Chip.plotIsolationWrite (c : Chip) (x : Ctx) (p ver img : Nat) : Res :=
  c.setRecord x.h PLOT_ISOLATION p ver img { may := x.who.estateOnly } (fun c _ => c.showIsolation p)

/-- `PLOT_PREFS` (R161): the plot for itself. -/
def Chip.plotPrefsWrite (c : Chip) (x : Ctx) (p ver img : Nat) : Res :=
  c.setRecord x.h PLOT_PREFS p ver img { may := x.who == .plot p } (fun c _ => c)

/-- The clock of a terrace by mode and throttle step (Table 1.7). -/
def modeClock (mode step : Nat) : Nat := max 25 ((if mode = 0 then 50 else if mode = 1 then 100 else 200) / 2 ^ step)

/-- `TERRACE_PERF` (R159, R29): the mode is accepted at once; the clock it asks for is reached by relock (R482). -/
def Chip.terracePerfWrite (c : Chip) (x : Ctx) (t ver img : Nat) : Res :=
  c.setRecord x.h TERRACE_PERF t ver img { may := x.who.estateOnly }
    (fun c _ =>
      let m := c.getF TERRACE_PERF t TERRACE_PERF.MODE
      let c := c.upd TERRACE_STATUS t [(TERRACE_STATUS.MODE, m)]
      c.modTer t (fun y => { y with target := modeClock m (c.getF TERRACE_STATUS t TERRACE_STATUS.THROTTLE) }))

end Sys2Proof.Machine
end

