-- ==== Sys2Proof/Machine/Planner.lean ====
section
/-!
DEFINITION. Planning (R213 to R223), the fight arbiter (R224 to R226), the learning archive (R229) and their records. Temperatures,
demands and costs are held in Q16.32; roundings the spec does not state are left free (assumption 4).
-/

namespace Sys2Proof.Machine

/-! ## Arithmetic -/

def mulP (a b : Int) : Int := divFree 216 (a * b) q32
def divP (a b : Int) : Int := divFree 216 (a * q32) b
/-- Hundredths as Q16.32, and thousandths. -/
def centiQ (v : Int) : Int := divFree 216 (v * q32) 100
def milliQ (v : Int) : Int := divFree 216 (v * q32) 1000
def sumP (l : List Int) : Int := l.foldl (· + ·) 0

/-! ## Calendar at an instant of the horizon -/

/-- Local time at an RTC instant: the calendar offset in force now, and the daylight changes loaded until then (R214). -/
def Chip.localAt (c : Chip) (t : Nat) : Int :=
  let dst := (c.time.dst.filter (fun p => decide (p.1 ≤ t))).foldl (fun _ p => p.2) (c.getB TIME_STATUS 0 TIME_STATUS.DST)
  (t : Int) + c.calOfs + c.stdOfs + (if dst then c.dstDelta else 0)

/-- The band of a tariff at a local time (R405). -/
def tariffBand (img : Nat) (local_ : Int) : Nat :=
  let ws := weekSecond local_
  let mow := 1440 * ws.1 + ws.2 / 60
  let cands := (List.range 32).flatMap (fun j => (bitsOf 7 ((TARIFF.DAYS j).get img)).map (fun d =>
    (schedBack mow d ((TARIFF.MINUTE j).get img), (TARIFF.BAND j).get img)))
  match cands.foldl (fun (b : Option (Nat × Nat)) x => match b with
      | some y => if x.1 ≤ y.1 then some x else b
      | none => some x) none with
  | some b => b.2
  | none => 0

/-! ## Capture (R214, R215, R218, R221) -/

/-- Scenarios and iteration limit of a mode (Table 6.9). -/
def modeCounts (mode : Nat) : Nat × Nat := if mode = 0 then (1, 4) else if mode = 1 then (8, 8) else (32, 16)

/-- A zone is planned in a round that starts now: it plans, its model is usable and its estimate is fresh (R214). -/
def Chip.plannable (c : Chip) (z : Nat) : Bool :=
  c.planEn z && c.modelUsable z && (c.freshEstimate z c.up).isSome

/-- The comfort band of a step (R215): the step's setpoints in mode 1, else those of the next mode-1 entry of the week. -/
def Chip.comfortBand (c : Chip) (z : Nat) (local_ : Int) (o : SchedOut) : Int × Int :=
  if o.mode = 1 then (o.heat, o.cool)
  else
    let ws := weekSecond local_
    match schedNext (c.scheduleOf z) (1440 * ws.1 + ws.2 / 60) 1 with
    | some e =>
      let owner := c.zoneOwner z
      let a : SchedOut := ⟨e.mode, e.heat, e.cool, false⟩
      let a := if owner < 256 then c.schedAdjust owner e.minute a else a
      (a.heat, a.cool)
    | none => (1600, 2800)

/-- The occupancy probability of a step in 0.5 % (R212, R218). -/
def Chip.stepProb (c : Chip) (z : Nat) (local_ : Int) (mode : Nat) : Nat :=
  let ws := weekSecond local_
  let p := c.getF PRESENCE_PROFILE z (PRESENCE_PROFILE.ENTRY (96 * ws.1 + ws.2 / 900))
  if p = 0xFF then (if mode = 1 then 180 else 10) else p

/-- A binding's value at Q in fx32: none for an excluded binding or one without a value (R216). -/
def Chip.bindingAt (c : Chip) (z bind : Nat) : Option Int :=
  if 16 ≤ bind then none
  else
    let v := c.getS ZONE_BINDINGS z (ZONE_BINDINGS.VALUE bind)
    if v = -(2 ^ 31) then none else some v

/-- Ambient and solar of a step in Q16.32, and whether a binding had to stand in (R216). -/
def Chip.stepWeather (c : Chip) (z t : Nat) : Option Int × Option Int × Bool :=
  let start := c.getF FORECAST 0 FORECAST.START
  let k := (t - start) / ticksPerQuarter
  let there := decide (start ≤ t) && decide (k < 96)
  let a := c.getS FORECAST 0 (FORECAST.AMB k)
  let aOk := there && a != -32768
  let amb := if aOk then some (centiQ a) else (c.bindingAt z (c.getF MODEL_CFG z MODEL_CFG.AMB_BIND)).map (· * 65536)
  let sol := if there then some (milliQ (c.getF FORECAST 0 (FORECAST.SOL k)))
    else (c.bindingAt z (c.getF MODEL_CFG z MODEL_CFG.SOL_BIND)).map (fun v => divFree 216 (v * 65536) 1000)
  (amb, sol, !aOk || !there)

/-- What the planner takes of a neighbour entry (R220, R221): another owner's latest non-owner mean, a planned zone's trajectory,
or the last estimate. -/
def Chip.planNb (c : Chip) (z n : Nat) (planned : Nat → Bool) : PlanNb :=
  let nz := c.neighbour z n
  if !c.nbIncluded z n then .absent
  else
    let x := c.zrt nz
    if c.zoneOwner nz ≠ c.zoneOwner z then
      match x.means.find? (fun m => m.1 == 24) with
      | some m => .fixed (m.2 * 65536)
      | none => .absent
    else if planned nz then .zone nz
    else if x.estAt.isSome then .fixed (x.est * 65536) else .absent

/-- The neighbour entry is held (R221). -/
def PlanNb.held : PlanNb → Bool
  | .fixed _ => true
  | _ => false

/-- The inputs of a zone's round that starts at `q` (R214): its DEV and bounds (R215), step values, and the previous plan's offsets
where both plans cover a step (R219). -/
def Chip.capture (c : Chip) (z q mode : Nat) (planned : Nat → Bool) : Plan :=
  let owner := c.zoneOwner z
  let plot := decide (owner < 256)
  let steps := (List.range 96).map (fun j => q + (j + 1) * ticksPerQuarter)
  let loc := steps.map c.localAt
  let sch := loc.map (c.schedAt z)
  let band := (loc.zip sch).map (fun p => c.comfortBand z p.1 p.2)
  let wx := steps.map (c.stepWeather z)
  let tar := c.img TARIFF 0
  let bands := loc.map (tariffBand tar)
  let k := (List.range 16).map (fun i => c.getS MODEL_COEF z (MODEL_COEF.COEF i))
  let gn := (List.range 8).map (fun i => c.getS MODEL_COEF z (MODEL_COEF.GN i))
  let plant := fun (f : Fld) => (c.getF PLAN_PLANT z f : Int)
  let devMax : Int := c.getF PLAN_PREFS z PLAN_PREFS.DEV_MAX
  let lim : Int := if plot then c.getF PLOT_LIMITS owner PLOT_LIMITS.PLAN_DEV_MAX else plant PLAN_PLANT.DEV_MAX_E
  let dev := if c.getB PLAN_PREFS z PLAN_PREFS.PLAN_ON then min devMax lim / 10 * 10 else 0
  let b := if plot then c.limitsOf owner
    else (c.getS PLAN_PLANT z PLAN_PLANT.SP_MIN_E, c.getS PLAN_PLANT z PLAN_PLANT.SP_MAX_E)
  let nbs := (List.range 8).map (fun n => c.planNb z n planned)
  let t0 := (c.zrt z).est * 65536
  let old := (c.zrt z).offs
  let oldStart := c.getF ZONE_PLAN z ZONE_PLAN.START
  let off := steps.map (fun t => if oldStart ≤ t then clampI (-dev) dev (old.getD ((t - oldStart) / ticksPerQuarter) 0) else 0)
  let cnt := modeCounts mode
  let fam := fun (f i : Nat) => c.famPort z f != 0xFF && decide (65536 ≤ 10 * k.getD i 0)
  let recv := nbs.map (fun n => match n with
    | .zone nz => List.replicate 96 ((c.zrt nz).est * 65536)
    | .fixed v => List.replicate 96 v
    | .absent => List.replicate 96 0)
  { q := q, coef := k, gn := gn, t0 := t0, heat := sch.map SchedOut.heat, cool := sch.map SchedOut.cool,
    mode1 := sch.map (fun o => o.mode == 1), lo := band.map Prod.fst, hi := band.map Prod.snd,
    prob := (loc.zip sch).map (fun p => c.stepProb z p.1 p.2.mode),
    amb := wx.map (fun w => w.1), sol := wx.map (fun w => w.2.1),
    price := bands.map (fun b => (TARIFF.PRICE b).get tar), rate := bands.map (fun b => (TARIFF.DEMAND_RATE b).get tar),
    dev := dev, spMin := b.1, spMax := b.2, comfort := c.getF PLAN_PREFS z PLAN_PREFS.COMFORT_W,
    heatKw := plant PLAN_PLANT.HEAT_KW, coolKw := plant PLAN_PLANT.COOL_KW, wHeat := plant PLAN_PLANT.W_HEAT,
    wCool := plant PLAN_PLANT.W_COOL, dcEn := c.getB PLAN_PLANT z PLAN_PLANT.DEMAND_CHG_EN,
    heatOn := fam 0 0, coolOn := fam 1 1, occIn := c.getB MODEL_CFG z MODEL_CFG.OCC_IN,
    nbs := nbs, fixed := nbs.any PlanNb.held, held := wx.any (fun w => w.2.2),
    scen := cnt.1, limit := cnt.2, off := off, traj := [], recv := recv,
    moved := nbs.any (fun n => match n with | .zone _ => true | _ => false) }

/-! ## Prediction and cost (R215 to R218) -/

/-- The planned setpoints of a step in Q16.32 for an offset (R215). -/
def Plan.setpoints (p : Plan) (j : Nat) (off : Int) : Int × Int :=
  let h := clampI p.spMin p.spMax (p.heat.getD j 0 + off)
  let k := clampI p.spMin p.spMax (p.cool.getD j 0 + off)
  (h, max h k)

/-- Scenario `m` is occupied in step `j` (R218). -/
def Plan.occupied (p : Plan) (m j : Nat) : Bool := decide (200 * (2 * m + 1) < 2 * p.scen * p.prob.getD j 0)

/-- What a step of a scenario gives: end temperature, demands, comfort cost, energy cost and demand-charge product. -/
structure PlanStep where
  t : Int
  uh : Int
  uc : Int
  comfort : Int
  energy : Int
  charge : Int

/-- α of R216. -/
def Plan.alpha (p : Plan) : Int :=
  let tau := 2 * p.coef.getD 3 0 + p.coef.getD 4 0
  expFree 216 (900 * 65536 * 2) tau 32 [tau]

/-- One step of scenario `m` from temperature `t` (R216, R217). -/
def Plan.step (p : Plan) (alpha : Int) (m j : Nat) (t : Int) : PlanStep :=
  let k := fun (i : Nat) => p.coef.getD i 0 * 65536
  let occ := p.occupied m j
  let nb := sumP ((List.range 8).map (fun n => match p.nbs.getD n .absent with
    | .absent => 0
    | _ => mulP (p.gn.getD n 0 * 65536) ((p.recv.getD n []).getD j 0)))
  let te := k 11 + (match p.amb.getD j none with | some a => mulP (k 7) a | none => 0)
    + (match p.sol.getD j none with | some s => mulP (k 8) s | none => 0)
    + (if occ ∧ p.occIn then k 9 else 0) + nb
  let tf := te + mulP (t - te) alpha
  let sp := p.setpoints j (p.off.getD j 0)
  let h := centiQ sp.1
  let cl := centiQ sp.2
  let gh := mulP (k 0) (q32 - alpha)
  let gc := mulP (k 1) (q32 - alpha)
  let uh := if p.heatOn ∧ tf < h then min q32 (divP (h - tf) gh) else 0
  let uc := if p.coolOn ∧ cl < tf then min q32 (divP (tf - cl) gc) else 0
  let t' := tf + mulP gh uh - mulP gc uc
  let lo := centiQ (p.lo.getD j 0)
  let hi := centiQ (p.hi.getD j 0)
  let dev := if t' < lo then lo - t' else if hi < t' then t' - hi else 0
  let kw := divFree 217 (p.wHeat * p.heatKw * uh + p.wCool * p.coolKw * uc) 100000
  { t := t', uh := uh, uc := uc,
    comfort := if occ then divFree 217 (p.comfort * mulP dev dev) 400 else 0,
    energy := divFree 217 (p.price.getD j 0 * kw) 40000,
    charge := divFree 217 (p.rate.getD j 0 * kw) 10000 }

/-- The 96 steps of a scenario. -/
def Plan.run (p : Plan) (m : Nat) : List PlanStep :=
  let alpha := p.alpha
  ((List.range 96).foldl (fun (acc : List PlanStep × Int) j =>
    let s := p.step alpha m j acc.2
    (s :: acc.1, s.t)) ([], p.t0)).1.reverse

/-- The cost of a scenario (R217). -/
def Plan.scenCost (p : Plan) (m : Nat) : Int :=
  let r := p.run m
  sumP (r.map (fun s => s.energy + s.comfort)) + (if p.dcEn then r.foldl (fun b s => max b s.charge) 0 else 0)

/-- J: the mean over the scenarios. -/
def Plan.costOf (p : Plan) : Int := divFree 217 (sumP ((List.range p.scen).map p.scenCost)) p.scen

/-- The median scenario's temperatures at the step starts (R220). -/
def Plan.trajectory (p : Plan) : List Int := (p.t0 :: (p.run (p.scen / 2)).map PlanStep.t).take 96

/-! ## Iterations (R219, R220) -/

/-- One step of a sweep: the lower of the two candidates is adopted if it gains at least 0.0001 (R219). -/
def Plan.tryStep (p : Plan) (cost : Int) (j : Nat) : Plan × Int :=
  let d := p.off.getD j 0
  let cand := fun (v : Int) => if v < -p.dev ∨ p.dev < v then none else
    let q := { p with off := p.off.set j v }
    some (q, q.costOf)
  let best := match cand (d - 10), cand (d + 10) with
    | some a, some b => if b.2 < a.2 then some b else some a
    | some a, none => some a
    | none, r => r
  match best with
  | some b => if q32 ≤ 10000 * (cost - b.2) then b else (p, cost)
  | none => (p, cost)

/-- The four sweeps of an iteration. -/
def Plan.sweeps (p : Plan) : Plan × Int :=
  (List.range 384).foldl (fun acc k => acc.1.tryStep acc.2 (k % 96)) (p, p.costOf)

/-- An iteration of a zone: it ends the zone's round at its limit or when neither an offset nor a received trajectory changed. -/
def Plan.iterate (p : Plan) : Plan :=
  if p.finished then p
  else
    let r := p.sweeps
    let n := p.iter + 1
    let still := r.1.off == p.off && !p.moved
    { r.1 with cost := r.2, iter := n, traj := r.1.trajectory, finished := still || decide (p.limit ≤ n), moved := false }

def Chip.plan? (c : Chip) (z : Nat) : Option Plan := (c.zones.plan.find? (fun p => p.1 == z)).map Prod.snd
def Chip.setPlan (c : Chip) (z : Nat) (p : Plan) : Chip := { c with zones.plan := Tab.ins z p (Tab.del z c.zones.plan) }

/-- The zones of the running round on a terrace, ascending. -/
def Chip.roundZones (c : Chip) (t : Nat) : List Nat := (c.zones.plan.map Prod.fst).filter (fun z => z / 256 == t)

/-- A neighbour's value for the next iteration (R220, R221): its published trajectory, or its estimate where it has dropped out. -/
def Chip.received (c : Chip) (n : PlanNb) (old : List Int) : List Int :=
  match n with
  | .zone nz => (match c.plan? nz with
    | some p => if p.traj.isEmpty then old else p.traj
    | none => List.replicate 96 ((c.zrt nz).est * 65536))
  | _ => old

/-- Zones that have dropped out of the round are held from now on (R230). -/
def Chip.takeTrajectories (c : Chip) : Chip :=
  c.eachOf c.zones.plan (fun c p =>
    match c.plan? p.1 with
    | none => c
    | some x =>
      let gone := fun (n : PlanNb) => match n with
        | .zone nz => (c.plan? nz).isNone
        | _ => false
      let recv := (x.nbs.zip x.recv).map (fun y => c.received y.1 y.2)
      let nbs := x.nbs.map (fun n => match n with
        | .zone nz => if (c.plan? nz).isNone then .fixed ((c.zrt nz).est * 65536) else .zone nz
        | n => n)
      c.setPlan p.1 { x with recv := recv, nbs := nbs, fixed := x.fixed || x.nbs.any gone, moved := x.moved || recv != x.recv })

/-- The deadline of the terrace's next iteration i, Q + 720 s × (i + 1) / I, has come (Table 6.8). -/
def Chip.iterationDue (c : Chip) (t q : Nat) : Bool :=
  match c.zones.plan.find? (fun p => p.1 / 256 == t) with
  | some p => decide ((c.ter t).iter < p.2.limit)
      && decide (q * p.2.limit + 720 * ticksPerSecond * ((c.ter t).iter + 1) ≤ c.now * p.2.limit)
  | none => false

/-- `PLAN_ITERATION_DEADLINE` of a terrace: the zones named have completed their iteration; the trajectories are exchanged. -/
def Chip.planIterationDeadline (c : Chip) (t doneMask : Nat) : Chip :=
  match (c.ter t).roundQ with
  | none => c
  | some q =>
    if !c.iterationDue t q then c
    else
      let zs := (c.roundZones t).filter (fun z => doneMask.testBit (z % 256))
      let c := c.eachOf zs (fun c z => match c.plan? z with
        | some p => c.setPlan z p.iterate
        | none => c)
      (c.modTer t (fun x => { x with iter := x.iter + 1 })).takeTrajectories

/-! ## The round (Table 6.8) -/

/-- `PLAN_LATE_DEADLINE`: at Q + 720 s the zones of the terrace that have not finished are late and keep their previous plans; a
lower mode's relock may now begin (R29). -/
def Chip.planLateDeadline (c : Chip) (t : Nat) : Chip :=
  match (c.ter t).roundQ with
  | none => c
  | some q =>
    if c.now < q + 720 * ticksPerSecond then c
    else
      let late := (c.roundZones t).filter (fun z => match c.plan? z with | some p => !p.finished | none => false)
      let c := c.eachOf late (fun c z => (c.upd ZONE_PLAN z [(ZONE_PLAN.LATE, 1)]).dropRound z)
      let n := late.length
      if n = 0 then c
      else
        let v := min (c.getF PLAN_ROUND t PLAN_ROUND.LATE_CNT + n) (2 ^ 32 - 1)
        let c := c.upd PLAN_ROUND t [(PLAN_ROUND.LATE_NOW, n), (PLAN_ROUND.LATE_CNT, v),
          (PLAN_ROUND.SAT, if v = 2 ^ 32 - 1 then 1 else c.getF PLAN_ROUND t PLAN_ROUND.SAT)]
        c.raise 0x0404 1 t (u16 n ++ rsvBytes 2) evDiag

/-- The steps of a plan as `ZONE_PLAN` shows them (Table 6.20). -/
def Plan.fields (p : Plan) : List (Fld × Nat) :=
  let med := p.run (p.scen / 2)
  let runs := (List.range p.scen).map p.run
  (List.range 96).flatMap (fun j =>
    let sp := p.setpoints j (p.off.getD j 0)
    let tp := match med[j]? with
      | some s => divFree 216 (s.t * 100) q32
      | none => 0
    let disc := runs.any (fun r => match r[j]? with | some s => decide (0 < s.comfort) | none => false)
    [(ZONE_PLAN.SP_HEAT j, ofSigned 16 sp.1), (ZONE_PLAN.SP_COOL j, ofSigned 16 sp.2), (ZONE_PLAN.T_PRED j, ofSigned 16 tp),
     (ZONE_PLAN.P_OCC j, p.prob.getD j 0), (ZONE_PLAN.DISCOMFORT j, if disc then 1 else 0),
     (ZONE_PLAN.DC_BAND j, if p.rate.getD j 0 = 0 then 0 else 1), (ZONE_PLAN.OCC_MODE j, if p.mode1.getD j false then 1 else 0)])

/-- The new plan of a zone is committed between two windows of it (R197). -/
def Chip.commitPlan (c : Chip) (z : Nat) (p : Plan) : Chip :=
  let b := fun (x : Bool) => if x then 1 else 0
  let cost := divFree 217 p.cost 65536
  let c := c.upd ZONE_PLAN z ([(ZONE_PLAN.PSTATE, 1), (ZONE_PLAN.LATE, 0), (ZONE_PLAN.NB_FIXED, b p.fixed),
    (ZONE_PLAN.FORECAST_HELD, b p.held), (ZONE_PLAN.ITER, p.iter), (ZONE_PLAN.SCEN, p.scen),
    (ZONE_PLAN.START, p.q + ticksPerQuarter), (ZONE_PLAN.COST, ofSigned 32 (sat32 cost)), (ZONE_PLAN.ROUND, p.q)] ++ p.fields)
  (c.modLink z (fun k => { k with planOk := true })).modZrt z (fun x => { x with offs := p.off })

/-- `PLAN_COMMIT` of a terrace, at Q + 900 s. -/
def Chip.planCommit (c : Chip) (t : Nat) : Chip :=
  match (c.ter t).roundQ with
  | none => c
  | some q =>
    if c.now < q + ticksPerQuarter then c
    else
      let c := c.planLateDeadline t
      let zs := c.roundZones t
      let best := zs.foldl (fun m z => match c.plan? z with | some p => max m p.iter | none => m) 0
      let c := c.eachOf zs (fun c z => match c.plan? z with
        | some p => (c.commitPlan z p).dropRound z
        | none => c)
      let c := c.upd PLAN_ROUND t [(PLAN_ROUND.ITER_MAX, best)]
      c.modTer t (fun x => { x with roundQ := none })

/-- The running round of a terrace is abandoned: the previous plans stay in force (R222). -/
def Chip.abandonRound (c : Chip) (t : Nat) : Chip :=
  let c := { c with zones.plan := c.zones.plan.filter (fun p => p.1 / 256 != t) }
  c.modTer t (fun x => { x with roundQ := none })

/-- Planning is suspended from throttle step 1 and resumes at step 0 (R227). -/
def Chip.planSuspend (c : Chip) (t : Nat) (b : Bool) : Chip :=
  let v := if b then 1 else 0
  let c := if b then c.abandonRound t else c
  let c := c.upd TERRACE_STATUS t [(TERRACE_STATUS.PLAN_SUSPENDED, v)]
  let c := c.upd PLAN_ROUND t [(PLAN_ROUND.SUSP, v)]
  c.eachOf ((terraceZones t).filter c.planEn) (fun c z => c.upd ZONE_PLAN z [(ZONE_PLAN.SUSPENDED, v)])

/-- A terrace plans in a round that starts now (Table 6.8): in service, in Full service, not throttled. -/
def Chip.terracePlans (c : Chip) (t : Nat) : Bool :=
  c.tstate t == tsInService && c.level == lvFull && c.getF TERRACE_STATUS t TERRACE_STATUS.THROTTLE == 0

/-- The mode whose counts a round takes: while `AVS_FAULT` refuses a rise of the clock, the mode of the clock in force (R492). -/
def Chip.planMode (c : Chip) (t : Nat) : Nat :=
  let m := c.getF TERRACE_PERF t TERRACE_PERF.MODE
  let clk := c.getF TERRACE_STATUS t TERRACE_STATUS.CLK_MHZ
  let run := if clk ≤ 50 then 0 else if clk ≤ 100 then 1 else 2
  if c.getB SUPPLY_STATUS 0 SUPPLY_STATUS.AVS_FAULT then min m run else m

/-- `PLAN_ROUND_START`: at an RTC quarter-hour Q every planning zone's inputs are captured. A round that ends now commits first. -/
def Chip.planRoundStart (c : Chip) : Chip :=
  if c.now % ticksPerQuarter ≠ 0 then c
  else
    let q := c.now
    let c := c.each 4 Chip.planCommit
    let ts := (List.range 4).filter (fun t => c.terracePlans t && (c.ter t).roundQ.isNone)
    let zs := ts.flatMap (fun t => (terraceZones t).filter c.plannable)
    let planned := fun (z : Nat) => zs.contains z
    let c0 := c
    let c := c.eachOf zs (fun c z =>
      c.setPlan z (c0.capture z q (c0.planMode (z / 256)) planned))
    c.eachOf ts (fun c t =>
      let mode := c.planMode t
      let c := c.modTer t (fun x => { x with roundQ := some q, iter := 0 })
      c.upd PLAN_ROUND t [(PLAN_ROUND.LAST_Q, q), (PLAN_ROUND.PLANNED, (c.roundZones t).length), (PLAN_ROUND.LATE_NOW, 0),
        (PLAN_ROUND.SCEN, (modeCounts mode).1)])

/-- `PLAN_EXPIRY`: a plan becomes invalid at the end of its last step (R222). -/
def Chip.planExpiry (c : Chip) (z : Nat) : Chip :=
  if c.getF ZONE_PLAN z ZONE_PLAN.PSTATE = 1 ∧ c.getF ZONE_PLAN z ZONE_PLAN.START + 96 * ticksPerQuarter ≤ c.now then
    c.planInvalid z
  else c

/-! ## The fight arbiter (R224 to R226) -/

def Chip.fightF (c : Chip) (f : Fld) : Nat := c.getF FIGHT_CFG 0 f

/-- A zone can be watched: it plans, it is RUNNING in Full service, and it is not under a relay test. -/
def Chip.watchable (c : Chip) (z : Nat) : Bool :=
  c.planEn z && c.zstate z == zsRunning && c.level == lvFull && (c.zrt z).model.test.isNone

/-- Entry `n` of zone `z` is an open boundary that the arbiter watches (R224). -/
def Chip.openEntry (c : Chip) (z n : Nat) : Bool :=
  let nz := c.neighbour z n
  c.nbIncluded z n && c.watchable nz
    && ((c.getF MODEL_CFG z MODEL_CFG.OPEN_MASK).testBit n
        || (c.getB MODEL_CFG z MODEL_CFG.AUTO_OPEN && c.modelUsable z
            && decide ((c.fightF FIGHT_CFG.G_OPEN : Int) * 65536 ≤ 1000 * c.getS MODEL_COEF z (MODEL_COEF.GN n))))
    && (c.zoneOwner z == c.zoneOwner nz || c.getB FIGHT_CFG 0 FIGHT_CFG.XOWNER)

/-- The watched pairs, the lower zone first, each once. -/
def Chip.watchedPairs (c : Chip) : List (Nat × Nat) :=
  if !c.getB FIGHT_CFG 0 FIGHT_CFG.EN then []
  else ((List.range 1024).filter c.watchable).flatMap (fun z =>
    ((List.range 8).filter (c.openEntry z)).map (fun n => let nz := c.neighbour z n; (min z nz, max z nz))) |>.eraseDups

/-- A zone's applied demand of a family over the last 60 s reaches `DEM_MIN`. -/
def Chip.demandReaches (c : Chip) (z : Nat) (heat : Bool) : Bool :=
  let x := c.zrt z
  x.fightN != 0 && decide (c.fightF FIGHT_CFG.DEM_MIN * x.fightN ≤ if heat then x.heatSum else x.coolSum)

/-- The roles of a pair that fights: heating zone, cooling zone. -/
def Chip.fightRoles (c : Chip) (a b : Nat) : Option (Nat × Nat) :=
  if c.demandReaches a true && c.demandReaches b false then some (a, b)
  else if c.demandReaches b true && c.demandReaches a false then some (b, a)
  else none

/-- The offsets of a zone over all its pairs (R225), shown while its plan is valid (R226). -/
def Chip.showArb (c : Chip) (z : Nat) : Chip :=
  let mine := c.zones.fights.filter (fun f => f.episode && (f.heater == z || f.cooler == z))
  let h := mine.foldl (fun m f => min m (if f.heater = z then f.hh else f.ch)) 0
  let k := mine.foldl (fun m f => max m (if f.heater = z then f.hc else f.cc)) 0
  let ok := c.getF ZONE_PLAN z ZONE_PLAN.PSTATE == 1
  let h := if ok then h else 0
  let k := if ok then k else 0
  c.upd ZONE_PLAN z [(ZONE_PLAN.ARB_HEAT, ofSigned 16 h), (ZONE_PLAN.ARB_COOL, ofSigned 16 k),
    (ZONE_PLAN.FIGHT, if h = 0 ∧ k = 0 then 0 else 1)]

def Chip.showFight (c : Chip) (f : Fight) : Chip := (c.showArb f.heater).showArb f.cooler

/-- `ACTIVE` counts the episodes. -/
def Chip.showActive (c : Chip) : Chip :=
  c.upd FIGHT_STATUS 0 [(FIGHT_STATUS.ACTIVE, (c.zones.fights.filter Fight.episode).length)]

/-- Replace a pair's entry. -/
def Chip.setFight (c : Chip) (f : Fight) : Chip :=
  { c with zones.fights := sortOn (fun x => 1024 * x.z + x.n) (f :: c.zones.fights.filter (fun x => x.z != f.z || x.n != f.n)) }

def Chip.pair (c : Chip) (z n : Nat) : Option Fight := c.zones.fights.find? (fun f => f.z == z && f.n == n)

/-- An episode starts (R225). -/
def Chip.startEpisode (c : Chip) (f : Fight) (heater cooler : Nat) : Chip :=
  let w := divFree 225 (c.fightF FIGHT_CFG.WIDEN) 2
  let f := { f with episode := true, heater := heater, cooler := cooler, hh := -w, hc := w, ch := -w, cc := w }
  let c := (c.setFight f).showFight f
  let c := (c.incSat FIGHT_STATUS 0 FIGHT_STATUS.EPISODES FIGHT_STATUS.SAT 0).showActive
  let c := c.raiseZone 0x0405 0 heater (u8 0) (u8 0)
  c.raiseZone 0x0405 0 cooler (u8 1) (u8 0)

/-- An episode ends when all four offsets are zero (R225). -/
def Chip.endEpisode (c : Chip) (f : Fight) : Chip :=
  if f.episode ∧ f.hh = 0 ∧ f.hc = 0 ∧ f.ch = 0 ∧ f.cc = 0 then
    let c := (c.setFight { f with episode := false }).showActive
    let c := c.showFight f
    (c.raiseZone 0x0406 0 f.heater [] []).raiseZone 0x0406 0 f.cooler [] []
  else c

/-- Judge one pair. -/
def Chip.judgePair (c : Chip) (watched : List (Nat × Nat)) (z n : Nat) : Chip :=
  let f := (c.pair z n).getD { z := z, n := n, since := c.up }
  let roles := if watched.contains (z, n) then c.fightRoles z n else none
  let fights := roles.isSome
  let f := if fights = f.fighting then f else { f with fighting := fights, since := c.up }
  let c := (c.setFight f).endEpisode f
  let c := if fights then c.incSat FIGHT_STATUS 0 FIGHT_STATUS.MINUTES FIGHT_STATUS.SAT 1 else c
  match roles with
  | some (h, k) => if !f.episode && decide (c.fightF FIGHT_CFG.DETECT_S * ticksPerSecond ≤ c.since f.since) then
      c.startEpisode f h k else c
  | none => c

/-- `FIGHT_EVALUATE`: every 60 s the watched pairs are judged on the demands of the last 60 s. -/
def Chip.fightEvaluate (c : Chip) : Chip :=
  let w := c.watchedPairs
  let all := (w ++ c.zones.fights.map (fun f => (f.z, f.n))).eraseDups
  let c := c.eachOf all (fun c p => c.judgePair w p.1 p.2)
  let c := { c with zones.fights := c.zones.fights.filter (fun f => f.episode || w.contains (f.z, f.n)) }
  let c := c.upd FIGHT_STATUS 0 [(FIGHT_STATUS.WATCHED, w.length)]
  c.each 1024 (fun c z => if (c.zrt z).fightN = 0 then c
    else c.modZrt z (fun x => { x with heatSum := 0, coolSum := 0, fightN := 0 }))

/-- An offset 0.10 K nearer to zero. -/
def towardZero (v : Int) : Int := if 10 < v then v - 10 else if v < -10 then v + 10 else 0

/-- `FIGHT_OFFSET_STEP` of the pair of zones `z` and `n`: wider while it fights, back once it has not fought for `RELEASE_S` (R225). -/
def Chip.fightOffsetStep (c : Chip) (z n : Nat) : Chip :=
  match c.pair (min z n) (max z n) with
  | none => c
  | some f =>
    let top := divFree 225 (c.fightF FIGHT_CFG.WIDEN) 2 + c.fightF FIGHT_CFG.DRAW_MAX
    if !f.episode then c
    else if f.fighting then
      let f := { f with hh := max (-top) (f.hh - 10), cc := min top (f.cc + 10) }
      (c.setFight f).showFight f
    else if c.fightF FIGHT_CFG.RELEASE_S * ticksPerSecond ≤ c.since f.since then
      let f := { f with hh := towardZero f.hh, hc := towardZero f.hc, ch := towardZero f.ch, cc := towardZero f.cc }
      ((c.setFight f).showFight f).endEpisode f
    else c

/-- Below Full the offsets are zero, so every episode ends (R226). -/
def Chip.fightsEnd (c : Chip) : Chip :=
  c.eachOf c.zones.fights (fun c f =>
    let f := { f with hh := 0, hc := 0, ch := 0, cc := 0, fighting := false }
    (c.setFight f).endEpisode f)

/-! ## The learning archive (R229) -/

/-- The records of a zone that the archive holds. -/
def archRecords : List RecDesc := [ MODEL_COEF, TUNE_STATUS, OCC_TIMELINE, PRESENCE_PROFILE]

def Chip.archZone (c : Chip) (z : Nat) : ArchZone :=
  let o := c.zoneOwner z
  { owner := o, keyGen := (c.plotSecret o).keyGen, link := (c.zrt z).link, model := (c.zrt z).model,
    recs := archRecords.map (fun r => (recKey r z, c.img r z)) }

/-- `LEARNING_ARCHIVE_WRITE`: at 00:00, 06:00, 12:00 and 18:00 of the RTC, in Full service, the older copy is written. -/
def Chip.learningArchiveWrite (c : Chip) : Chip :=
  if c.level ≠ lvFull ∨ c.now % (21600 * ticksPerSecond) ≠ 0 then c
  else
    let a := c.zones.archA
    let b := c.zones.archB
    let seq := max a.seq b.seq + 1
    let copy : Archive := ⟨true, seq, c.now, (List.range 1024).map (fun z => (z, c.archZone z))⟩
    if b.valid ∧ (¬ a.valid ∨ a.seq ≤ b.seq) then { c with zones.archA := copy } else { c with zones.archB := copy }

/-- The first entry to Full service after power-up: each zone whose owner and key are unchanged is restored from the newer valid
copy of the last 7 days; VALID becomes HELD. -/
def Chip.learningRestore (c : Chip) : Chip :=
  let a := c.zones.archA
  let b := c.zones.archB
  let young := fun (x : Archive) => x.valid && decide (c.now ≤ x.time + 604800 * ticksPerSecond)
  let pick := if young a && (!young b || decide (b.seq ≤ a.seq)) then some a else if young b then some b else none
  let c := { c with boot.archiveDue := false }
  match pick with
  | none => c
  | some x => c.eachOf x.zones (fun c p =>
    let z := p.1
    let s := p.2
    let o := c.zoneOwner z
    if s.owner = o ∧ (256 ≤ o ∨ s.keyGen = (c.plotSecret o).keyGen) then
      let c := c.eachOf s.recs (fun c r => c.restoreRec r.1 r.2)
      let c := c.modZrt z (fun y => { y with model := { s.model with test := none, testDue := none },
                                             link := { s.link with relayFam := 3, relayHigh := false, planOk := false } })
      if s.link.mstate = 2 then c.setMState z 3 o else c
    else c)

/-! ## Records (R235 to R238) -/

/-- `PLAN_PLANT` (R235). -/
def Chip.planPlantWrite (c : Chip) (x : Ctx) (z ver img : Nat) : Res :=
  c.setRecord x.h PLAN_PLANT z ver img
    { may := x.who.estateOnly,
      bad := decide (toSigned 16 (PLAN_PLANT.SP_MAX_E.get img) < toSigned 16 (PLAN_PLANT.SP_MIN_E.get img)) } (fun c _ => c)

/-- `PLAN_PREFS` (R236): the owning plot while its slot is ENROLLED; of an estate zone, the estate. -/
def Chip.planPrefsWrite (c : Chip) (x : Ctx) (z ver img : Nat) : Res :=
  let o := c.zoneOwner z
  c.setRecord x.h PLAN_PREFS z ver img
    { may := x.who.owns o && (decide (256 ≤ o) || c.enrolledZone z),
      bad := decide (500 < PLAN_PREFS.DEV_MAX.get img) } (fun c _ => c)

/-- `FORECAST` (R238): it starts at an RTC quarter-hour. -/
def Chip.forecastWrite (c : Chip) (x : Ctx) (i ver img : Nat) : Res :=
  let s := FORECAST.START.get img
  c.setRecord x.h FORECAST i ver img { may := x.who.estateOnly, bad := badTime s || s % ticksPerQuarter != 0 } (fun c _ => c)

/-- `FIGHT_CFG` (R238). -/
def Chip.fightCfgWrite (c : Chip) (x : Ctx) (i ver img : Nat) : Res :=
  c.setRecord x.h FIGHT_CFG i ver img { may := x.who.estateOnly } (fun c _ => c)

end Sys2Proof.Machine
end

