-- ==== Sys2Proof/Machine/ActOps.lean ====
section
/-!
DEFINITION. Reading and changing the state of the allocator, the channels, axes, encoders, fans and converters, and the facts
about a target that more than one chapter uses: which channels an axis has, whether an output is driven, the ownership of a
target's sources, the forces on a channel.
-/

namespace Sys2Proof.Machine

def Chip.tgt (c : Chip) (i : Nat) : Tgt := Tab.get {} c.act.tgt i
def Chip.setTgt (c : Chip) (i : Nat) (x : Tgt) : Chip := { c with act.tgt := Tab.set {} c.act.tgt i x }
def Chip.modTgt (c : Chip) (i : Nat) (f : Tgt → Tgt) : Chip := c.setTgt i (f (c.tgt i))

def Chip.chan (c : Chip) (i : Nat) : Chan := Tab.get {} c.act.chan i
def Chip.setChan (c : Chip) (i : Nat) (x : Chan) : Chip := { c with act.chan := Tab.set {} c.act.chan i x }
def Chip.modChan (c : Chip) (i : Nat) (f : Chan → Chan) : Chip := c.setChan i (f (c.chan i))

def Chip.axis (c : Chip) (a : Nat) : Axis := Tab.get {} c.act.axis a
def Chip.setAxis (c : Chip) (a : Nat) (x : Axis) : Chip := { c with act.axis := Tab.set {} c.act.axis a x }
def Chip.modAxis (c : Chip) (a : Nat) (f : Axis → Axis) : Chip := c.setAxis a (f (c.axis a))

def Chip.enc (c : Chip) (e : Nat) : Enc := Tab.get {} c.act.enc e
def Chip.setEnc (c : Chip) (e : Nat) (x : Enc) : Chip := { c with act.enc := Tab.set {} c.act.enc e x }
def Chip.modEnc (c : Chip) (e : Nat) (f : Enc → Enc) : Chip := c.setEnc e (f (c.enc e))

def Chip.fport (c : Chip) (p : Nat) : FanPort := Tab.get {} c.act.port p
def Chip.setFport (c : Chip) (p : Nat) (x : FanPort) : Chip := { c with act.port := Tab.set {} c.act.port p x }
def Chip.modFport (c : Chip) (p : Nat) (f : FanPort → FanPort) : Chip := c.setFport p (f (c.fport p))

def Chip.fgroup (c : Chip) (g : Nat) : FanGroup := Tab.get {} c.act.group g
def Chip.setFgroup (c : Chip) (g : Nat) (x : FanGroup) : Chip := { c with act.group := Tab.set {} c.act.group g x }
def Chip.modFgroup (c : Chip) (g : Nat) (f : FanGroup → FanGroup) : Chip := c.setFgroup g (f (c.fgroup g))

def Chip.arr (c : Chip) (a : Nat) : Arr := Tab.get {} c.sense.arr a
def Chip.setArr (c : Chip) (a : Nat) (x : Arr) : Chip := { c with sense.arr := Tab.set {} c.sense.arr a x }
def Chip.modArr (c : Chip) (a : Nat) (f : Arr → Arr) : Chip := c.setArr a (f (c.arr a))

/-- A time in milliseconds has passed since an instant of `up` (assumption 7). -/
def Chip.passedMs (c : Chip) (t ms : Nat) : Bool := decide (ms * 32768 ≤ c.since t * 1000)

/-- A time in seconds has passed since an instant of `up`. -/
def Chip.passedS (c : Chip) (t s : Nat) : Bool := decide (s * ticksPerSecond ≤ c.since t)

/-! ## Channels -/

/-- Channel kinds (Table 8.2). -/
abbrev ckUnused : Nat := 0
abbrev ckValve : Nat := 1
abbrev ckAxis : Nat := 2

/-- `CSTATE` (Table 8.3). -/
abbrev csUnused : Nat := 0
abbrev csOff : Nat := 1
abbrev csBoost : Nat := 2
abbrev csHold : Nat := 3
abbrev csEcon : Nat := 4
abbrev csHot : Nat := 5
abbrev csFault : Nat := 6
abbrev csForced : Nat := 7
abbrev csAxis : Nat := 8

def Chip.chKind (c : Chip) (ch : Nat) : Nat := c.getF CH_CFG ch CH_CFG.KIND
def Chip.cstate (c : Chip) (ch : Nat) : Nat := c.getF CH_STATUS ch CH_STATUS.CSTATE
def Chip.chFault (c : Chip) (ch : Nat) : Nat := c.getF CH_STATUS ch CH_STATUS.FAULT
def Chip.setCstate (c : Chip) (ch s : Nat) : Chip := c.upd CH_STATUS ch [(CH_STATUS.CSTATE, s)]

/-- A valve channel runs its profile: it is boosting, holding or in economy hold. -/
def Chip.chDriven (c : Chip) (ch : Nat) : Bool := decide (csBoost ≤ c.cstate ch) && decide (c.cstate ch ≤ csEcon)

/-- A field of the valve type of a channel. -/
def Chip.vt (c : Chip) (ch : Nat) (f : Fld) : Nat := c.getF VALVE_TYPE (c.getF CH_CFG ch CH_CFG.VALVE_TYPE) f

/-- Axis states (Table 9.2). -/
abbrev asUnused : Nat := 0
abbrev asOff : Nat := 1
abbrev asUnhomed : Nat := 2
abbrev asHoming : Nat := 3
abbrev asIdle : Nat := 4
abbrev asMoving : Nat := 5
abbrev asSettling : Nat := 6
abbrev asStalled : Nat := 7
abbrev asStopped : Nat := 8
abbrev asFault : Nat := 9

def Chip.astate (c : Chip) (a : Nat) : Nat := c.getF AX_STATUS a AX_STATUS.ASTATE
def Chip.axEn (c : Chip) (a : Nat) : Bool := c.getB AX_CFG a AX_CFG.EN
def Chip.axEnc (c : Chip) (a : Nat) : Nat := c.getF AX_CFG a AX_CFG.ENC

/-- The two channels of an axis (R293). -/
def Chip.axPair (c : Chip) (a : Nat) : List Nat :=
  let p := c.getF AX_CFG a AX_CFG.CH_PAIR
  [p, p + 1]

/-- The enabled axis that uses a channel. -/
def Chip.axisOfChannel (c : Chip) (ch : Nat) : Option Nat :=
  (List.range 24).find? (fun a => c.axEn a && (c.axPair a).contains ch)

/-- The enabled axis bound to an encoder. -/
def Chip.axisOfEnc (c : Chip) (e : Nat) : Option Nat := (List.range 24).find? (fun a => c.axEn a && c.axEnc a == e)

/-- An axis is in motion (R307): homing, moving or settling. -/
def Chip.axMoving (c : Chip) (a : Nat) : Bool :=
  c.astate a == asHoming || c.astate a == asMoving || c.astate a == asSettling

/-- The bridge of an axis is at COAST: its state is OFF or FAULT, STOPPED under a force or for want of budget, or at rest without the brake
(Table 9.2, R305). -/
def Chip.axCoasts (c : Chip) (a : Nat) : Bool :=
  let s := c.astate a
  s == asUnused || s == asOff || s == asFault
    || (s == asStopped && (c.getB AX_STATUS a AX_STATUS.FORCED || c.act.b == 0))
    || ((s == asUnhomed || s == asIdle) && !c.getB AX_CFG a AX_CFG.REST_BRAKE)

/-- The switches of a channel are in another setting than OPEN (Tables 8.1 and 9.1). -/
def Chip.notOpen (c : Chip) (ch : Nat) : Bool :=
  if c.chKind ch = ckAxis then
    match c.axisOfChannel ch with
    | some a => !c.axCoasts a
    | none => false
  else c.chDriven ch

/-! ## Targets -/

/-- The map entry in force: the record as it stood at the last frame boundary (R242). -/
def Chip.amap (c : Chip) (i : Nat) : Nat := Tab.get (ACT_MAP.resetImg i) c.act.maps i

def Chip.mapF (c : Chip) (i : Nat) (f : Fld) : Nat := f.get (c.amap i)

/-- The sources of the entry in force. -/
def Chip.sources (c : Chip) (i : Nat) : List (Nat × Nat × Nat) := mapSources (c.amap i)

/-- A source zone of a target with `ISO_OFF` is isolated (Table 7.2 rank 3). -/
def Chip.isoStop (c : Chip) (i : Nat) : Bool :=
  c.mapF i ACT_MAP.EN == 1 && c.mapF i ACT_MAP.ISO_OFF == 1 && (c.sources i).any (fun s => c.isolated s.1)

/-- Plant stop kinds (R260). -/
def Chip.stopped (c : Chip) (kind : Nat) : Bool := c.act.stopMask.testBit kind

/-- A forcing cause of a channel (Table 8.4): the Firebreak's line, `PLANT_STOP`, `CHANNEL_FORCE_OFF`. -/
def Chip.forced (c : Chip) (ch : Nat) : Bool := c.forcedLines.testBit ch || c.stopped 0 || c.act.forceMask.testBit ch

/-- An output is held by the Firebreak's line or by `CHANNEL_FORCE_OFF` (R318 `FORCED`). -/
def Chip.axForced (c : Chip) (a : Nat) : Bool :=
  (c.axPair a).any (fun ch => c.forcedLines.testBit ch || c.act.forceMask.testBit ch)

/-! ## Audiences -/

/-- Group 0x05: the estate and operators with `CHANNELS` (R267). -/
def evChannels : Audience := audOps scChannels

/-- Groups 0x06 and 0x07: the estate, operators with `CHANNELS` or `DIAG` (R292, R320). -/
def evDrive : Audience := audOps (scChannels ||| scDiag)

/-- Group 0x08: the estate, operators with `FANS` or `DIAG` (R337). -/
def evFans : Audience := audOps (scFans ||| scDiag)

end Sys2Proof.Machine
end

