-- ==== Sys2Proof/Machine/Arrays.lean ====
section
/-!
DEFINITION. The converter arrays (R340 to R348, R365, R368): triggers and overruns, sequences, results, self-calibration, the
plausibility check and the commands.
-/

namespace Sys2Proof.Machine

/-- Events of the arrays: the estate, operators with `DIAG` (R369). -/
def evArrays : Audience := audOps scDiag

/-- `ASTATE` of an array. -/
abbrev arOff : Nat := 0
abbrev arIdle : Nat := 1
abbrev arRunning : Nat := 2
abbrev arCalibrating : Nat := 3

def Chip.arState (c : Chip) (a : Nat) : Nat := c.getF ARRAY_STATUS a ARRAY_STATUS.ASTATE
def Chip.setArState (c : Chip) (a s : Nat) : Chip := c.upd ARRAY_STATUS a [(ARRAY_STATUS.ASTATE, s)]

/-- Array B's results are absent to their users while the plausibility fault is latched (R348). -/
def Chip.plausLatched (c : Chip) : Bool := c.sense.plaus.phase == 3

/-! ## Sequences -/

/-- What an entry of array A converts: input n, or PLk as 64 + k. -/
abbrev srcPl : Nat := 64
/-- What an entry of array B converts beside PL0 to PL3: a channel as 256 + n, anything else as 128. -/
abbrev srcChan : Nat := 256
abbrev srcOther : Nat := 128

/-- Array A's regular sequence (R345). -/
def Chip.regularA (c : Chip) : List Nat :=
  let pls := (List.range 4).map (fun k => srcPl + k)
  if c.getF ARRAY_CFG 0 ARRAY_CFG.PERIOD_MS = 0 then pls
  else (List.range 64).filter (fun n => c.getF AIN_CFG n AIN_CFG.KIND != 0) ++ pls

/-- Array A's injected sequence (R345). -/
def Chip.injectedA (c : Chip) : List Nat :=
  ((List.range 64).filter (fun n => c.getF AIN_CFG n AIN_CFG.KIND != 0 && c.getB AIN_CFG n AIN_CFG.INJ)).take 8

/-- The channels the rotating entries convert: those not OPEN in ascending order after the last one taken, each once (R346). -/
def Chip.rotation (c : Chip) : List Nat :=
  let order := (List.range 96).map (fun k => (c.act.rot + k) % 96)
  (order.filter c.notOpen).take 48

/-- Array B's regular sequence (Table 11.2) with the rotating entries filled, and the point the rotation has reached. -/
def Chip.regularB (c : Chip) : List Nat × Nat :=
  let chs := c.rotation
  let rot := (List.range 48).map (fun k => match chs[k]? with
    | some ch => srcChan + ch
    | none => srcOther)
  let rest := (List.range 16).map (fun k => if 8 ≤ k ∧ k < 12 then srcPl + (k - 8) else srcOther)
  (rot ++ rest, match chs.getLast? with
    | some ch => (ch + 1) % 96
    | none => c.act.rot)

/-- Channels with a watch entry in use (R276). -/
def Chip.watching (c : Chip) : List Nat := (List.range 96).filter (fun ch => (c.chan ch).watch.isSome)

/-- A watch ends with a result code and frees its entry (R276, R278). -/
def Chip.endWatch (c : Chip) (ch result : Nat) : Chip :=
  (c.modChan ch (fun x => { x with watch := none, entry := none })).upd CH_STATUS ch [(CH_STATUS.LAST_CLOSE, result)]

/-- A watch is abandoned without a result (R287). -/
def Chip.abandonWatch (c : Chip) (ch : Nat) : Chip := c.modChan ch (fun x => { x with watch := none, entry := none })

/-- Every watch in use ends as `NOT_WATCHED` (R341, R365). -/
def Chip.endWatches (c : Chip) : Chip := c.eachOf c.watching (fun c ch => c.endWatch ch 3)

/-- The counters of `ARRAY_STATUS` with their `SAT` bits: overruns regular and injected, queue, blocked, plausibility. -/
def arrCounters : List Fld := [ARRAY_STATUS.OVR_REG, ARRAY_STATUS.OVR_INJ, ARRAY_STATUS.QUEUE_OVF, ARRAY_STATUS.BLOCKED,
  ARRAY_STATUS.PLAUS_CNT]

/-- An overrun of a kind is counted, and reported at most once per 10 s (R343, R344, R347, R369). -/
def Chip.overrun (c : Chip) (a kind : Nat) : Chip :=
  let c := c.incSat ARRAY_STATUS a (arrCounters.getD kind ARRAY_STATUS.OVR_REG) ARRAY_STATUS.SAT kind
  let x := Tab.get (0, 0) (c.arr a).ovr kind
  let n := satInc 16 x.2
  if x.1 = 0 ∨ 10 * ticksPerSecond ≤ c.since (x.1 - 1) then
    let c := c.modArr a (fun y => { y with ovr := Tab.set (0, 0) y.ovr kind (c.up + 1, 0) })
    c.raise 0x0900 1 a (u8 kind ++ rsvBytes 1 ++ u16 n) evArrays
  else c.modArr a (fun y => { y with ovr := Tab.set (0, 0) y.ovr kind (x.1, n) })

/-- With no sequence running, the mode asked for takes effect (R340, R365). -/
def Chip.takeMode (c : Chip) (a : Nat) : Chip :=
  let x := c.arr a
  if x.reg.isSome ∨ x.inj.isSome then c
  else c.upd ARRAY_STATUS a [(ARRAY_STATUS.MODE, c.getF ARRAY_MODE a ARRAY_MODE.MODE)]

/-- The state of an array follows its sequences. -/
def Chip.settleArr (c : Chip) (a : Nat) : Chip :=
  let x := c.arr a
  if c.arState a = arOff ∨ c.arState a = arCalibrating then c
  else c.setArState a (if x.reg.isSome ∨ x.inj.isSome then arRunning else arIdle)

/-- A regular trigger (R343): lost during calibration, an overrun while the sequence runs, otherwise the sequence starts. -/
def Chip.regularTrigger (c : Chip) (a : Nat) (entries : List Nat) : Chip :=
  if c.arState a = arOff then c
  else if c.arState a = arCalibrating then c.overrun a 3
  else if (c.arr a).reg.isSome then c.overrun a 0
  else
    let c := c.takeMode a
    (c.modArr a (fun x => { x with reg := some ⟨entries, 0, x.regTag % 256⟩, regTag := x.regTag + 1 })).settleArr a

/-- `ARRAY_REGULAR_TRIGGER`: array A's trigger, every `PERIOD_MS` or every 100 ms. -/
def Chip.arrayRegularTrigger (c : Chip) : Chip := c.regularTrigger 0 c.regularA

/-- Array B's regular trigger at a frame boundary (R346). -/
def Chip.triggerB (c : Chip) : Chip :=
  let r := c.regularB
  let free := (c.arr 1).reg.isNone && c.arState 1 != arCalibrating && c.arState 1 != arOff
  let c := c.regularTrigger 1 r.1
  if free then { c with act.rot := r.2 } else c

/-- The entries an injected sequence starts with. -/
def Chip.injEntries (c : Chip) (a : Nat) : List Nat := if a = 0 then c.injectedA else c.watching.map (fun ch => srcChan + ch)

/-- An injected sequence starts (R344). -/
def Chip.startInjected (c : Chip) (a : Nat) (pend : Bool) : Chip :=
  let c := c.takeMode a
  let es := c.injEntries a
  (c.modArr a (fun x => { x with inj := some ⟨es, 0, x.injTag % 256⟩, injTag := x.injTag + 1, injPend := pend })).settleArr a

/-- `ARRAY_INJECTED_TRIGGER` (R344): one may be pending while an injected sequence runs, a further one is lost. Array A's is not
triggered in Limited service (Table 11.8). -/
def Chip.arrayInjectedTrigger (c : Chip) (a : Nat) : Chip :=
  if c.arState a = arOff ∨ (c.injEntries a).isEmpty ∨ (a = 0 ∧ c.level < lvFull) then c
  else if c.arState a = arCalibrating then c.overrun a 3
  else match (c.arr a).inj with
    | none => c.startInjected a false
    | some _ => if (c.arr a).injPend then c.overrun a 1 else c.modArr a (fun x => { x with injPend := true })

/-! ## Results -/

/-- A slice's raw conversion after its correction (R341). -/
def Chip.corrected (c : Chip) (a slice raw : Nat) : Nat :=
  let o := c.getS ARRAY_CAL a (ARRAY_CAL.OFS (slice % 4))
  let g := c.getF ARRAY_CAL a (ARRAY_CAL.GAIN (slice % 4))
  (clampI 0 0xFFFF (divRound (((raw : Int) - o) * g) 32768)).toNat

/-- The result of a conversion (R340): one slice's in SPEED, its two low bits zero; in PRECISION the mean of sixteen, four of each
slice, whose rounding is not stated. -/
def Chip.convResult (c : Chip) (a slice : Nat) (raws : List Nat) : Nat :=
  if c.getB ARRAY_STATUS a ARRAY_STATUS.MODE then
    let l := (List.range 16).map (fun k => c.corrected a (k % 4) (raws.getD k 0))
    (clampI 0 0xFFFF (divFree 340 (l.foldl (· + ·) 0 : Nat) 16)).toNat
  else
    let v := c.corrected a slice (raws.getD 0 0)
    v - v % 4

/-- A result enters its queue, or is discarded and counted (R347). -/
def Chip.queueResult (c : Chip) (a word src : Nat) : Chip :=
  if (c.arr a).queue.length < 512 then
    let c := c.modArr a (fun x => { x with queue := x.queue ++ [⟨word, src, c.now⟩] })
    c.upd ARRAY_STATUS a [(ARRAY_STATUS.FILL, (c.arr a).queue.length)]
  else c.overrun a 2

/-- Array B's supply entries reach their monitors (R346, Table 11.2): VBUS, VHOLD and VCORE. VCORE below its target minus 50 mV in 10
frames in a row sets `VCORE_LOW` (R480). -/
def Chip.supplyResult (c : Chip) (idx v : Nat) : Chip :=
  let conv := fun (full : Nat) => (divFree 346 ((v : Int) * full) 65535).toNat
  if c.plausLatched then c
  else if idx = 52 then c.upd SUPPLY_STATUS 0 [(SUPPLY_STATUS.VBUS, conv 720)]
  else if idx = 54 then c.upd BUCK_STATUS 0 [(BUCK_STATUS.VHOLD, conv 3600)]
  else if idx = 63 then
    let c := c.upd SUPPLY_STATUS 0 [(SUPPLY_STATUS.VCORE_MV, conv 1800)]
    let t := c.getF SUPPLY_STATUS 0 SUPPLY_STATUS.VCORE_TARGET
    let n := if v * 1800 + 50 * 65535 < t * 65535 then c.boot.coreLow + 1 else 0
    let c := { c with boot.coreLow := min n 10 }
    if 10 ≤ n then c.upd SUPPLY_STATUS 0 [(SUPPLY_STATUS.VCORE_LOW, 1)] else c
  else c

/-- `CONVERSION_COMPLETE`: an entry of a running sequence has its result. Array B's channel results refresh the sense of their
channel (R286, R346). -/
def Chip.conversionComplete (c : Chip) (a kind idx slice : Nat) (raws : List Nat) : Chip :=
  let x := c.arr a
  match if kind = 0 then x.reg else x.inj with
  | none => c
  | some s =>
    match s.entries[idx]? with
    | none => c
    | some src =>
      if s.done.testBit idx ∨ c.arState a ≠ arRunning then c
      else
        let v := c.convResult a slice raws
        let s' := { s with done := setBit s.done idx }
        let c := c.modArr a (fun x => if kind = 0 then { x with reg := some s' } else { x with inj := some s' })
        let c := c.queueResult a (s.tag * 2 ^ 24 + kind * 2 ^ 22 + idx * 2 ^ 16 + v) src
        let c := if srcPl ≤ src ∧ src < srcPl + 4 then c.modArr a (fun x => { x with pl := Tab.ins (src - srcPl) v (Tab.del (src - srcPl) x.pl) }) else c
        let c := if srcChan ≤ src ∧ a = 1 ∧ ¬ c.plausLatched then
            c.modChan (src - srcChan) (fun y => { y with senseAt := c.up }) else c
        let c := if a = 1 ∧ kind = 0 then c.supplyResult idx v else c
        if kind = 0 ∨ (List.range s.entries.length).any (fun k => !s'.done.testBit k) then c
        else
          let c := c.modArr a (fun x => { x with inj := none })
          if x.injPend ∧ ¬ (c.injEntries a).isEmpty then c.startInjected a false
          else (c.modArr a (fun x => { x with injPend := false })).settleArr a

/-! ## Self-calibration (R341) -/

/-- A self-calibration is asked for; `cause` as in `ARRAY_CAL_DONE`. -/
def Chip.askCal (c : Chip) (a cause : Nat) : Chip :=
  if c.arState a = arOff then c
  else c.modArr a (fun x => { x with calDue := x.calDue ++ [(cause, c.up)] })

/-- A change of the temperature band asks both arrays (R341); while one such calibration waits, a further change adds none (R365). -/
def Chip.bandCal (c : Chip) : Chip :=
  c.each 2 (fun c a => if (c.arr a).calDue.any (fun d => d.1 == 3) then c else c.askCal a 3)

/-- The calibration at the head of those asked for may start. -/
def Chip.calReady (c : Chip) (a cause at_ : Nat) : Bool :=
  if cause = 0 then decide (32 * 32768 ≤ c.since (c.arr a).upAt * 10000)
  else if cause = 3 ∧ a = 1 then c.watching.isEmpty || c.passedMs at_ 300
  else true

/-- `SELF_CALIBRATION_START`. -/
def Chip.selfCalStart (c : Chip) (a : Nat) : Chip :=
  let x := c.arr a
  match x.calDue with
  | [] => c
  | (cause, at_) :: rest =>
    if c.arState a ≠ arIdle ∨ ¬ c.calReady a cause at_ then c
    else
      let c := if a = 1 then c.endWatches else c
      let c := c.modArr a (fun x => { x with calDue := rest, cal := some cause, pl := [] })
      c.setArState a arCalibrating

/-- Waiting replies to `ARRAY_SELF_CAL` (cause 1) and `ARRAY_RESET` (cause 2). -/
def arrWait (a cause : Nat) : Nat := 0x40000 + 4 * a + cause

/-- Factors in range (R341): offset, gain and skew of a slice. -/
def factorOk (f : Int × Int × Int) : Bool :=
  decide (-512 ≤ f.1 ∧ f.1 ≤ 512) && decide (29491 ≤ f.2.1 ∧ f.2.1 ≤ 36045) && decide (-200 ≤ f.2.2 ∧ f.2.2 ≤ 200)

def factorFields (fs : List (Int × Int × Int)) : List (Fld × Nat) :=
  (List.range 4).flatMap (fun k =>
    let f := fs.getD k (0, 32768, 0)
    [(ARRAY_CAL.OFS k, ofSigned 16 f.1), (ARRAY_CAL.GAIN k, ofSigned 16 f.2.1), (ARRAY_CAL.SKEW k, ofSigned 16 f.2.2)])

/-- The plausibility check goes on after a calibration (R348, R365): its counts restart. -/
def Chip.plausCalDone (c : Chip) (a cause : Nat) : Chip :=
  let c := { c with sense.plaus.runs := [], sense.plaus.agree := 0 }
  if c.sense.plaus.phase = 1 ∧ cause = 4 then
    if a = 1 then c.askCal 0 4 else { c with sense.plaus.phase := 2 }
  else c

/-- `SELF_CALIBRATION_COMPLETE` with the factors found for the four slices; `late` says that the array took more than 10 ms, for
which a command waiting on it is answered `HW_FAULT` (R368). -/
def Chip.selfCalComplete (c : Chip) (a : Nat) (fs : List (Int × Int × Int)) (late : Bool) : Chip :=
  match (c.arr a).cal with
  | none => c
  | some cause =>
    let had := c.getF ARRAY_CAL a ARRAY_CAL.RESULT % 2 == 1
    let ok := fs.length == 4 && fs.all factorOk
    let result := if ok then 1 else if had then 3 else 2
    let c := c.upd ARRAY_CAL a ([(ARRAY_CAL.CAL_TIME, c.now), (ARRAY_CAL.RESULT, result),
      (ARRAY_CAL.BAND, c.getF THERMAL_STATUS 0 THERMAL_STATUS.BAND)]
      ++ (if ok then factorFields fs else if had then [] else factorFields []))
    let c := c.upd ARRAY_STATUS a [(ARRAY_STATUS.CAL_BAD, if ok then 0 else 1)]
    let c := c.modArr a (fun x => { x with cal := none })
    let c := (c.setArState a arIdle).takeMode a
    let c := c.raise 0x0901 (if ok then 0 else 2) a (u8 result ++ u8 cause ++ rsvBytes 2) evArrays
    let c := c.plausCalDone a cause
    if cause = 1 ∨ cause = 2 then
      c.answerWaits (arrWait a cause) (if late then stHwFault else stOk) (u8 result ++ rsvBytes 3)
    else c

/-! ## Plausibility (R348) -/

/-- The PL numbers whose results of the two arrays differ, with the largest difference. -/
def Chip.plDiffs (c : Chip) : List (Nat × Nat) :=
  (List.range 4).filterMap (fun k =>
    match (c.arr 0).pl.find? (fun p => p.1 == k), (c.arr 1).pl.find? (fun p => p.1 == k) with
    | some a, some b => some (k, (a.2 - b.2) + (b.2 - a.2))
    | _, _ => none)

def evPlaus : Audience := evArrays

/-- The latch sets: every analogue input in use reads `PLAUSIBILITY` and has no value. -/
def Chip.plausLatch (c : Chip) : Chip :=
  let c := c.each 2 (fun c a => c.upd ARRAY_STATUS a [(ARRAY_STATUS.PLAUS_LATCHED, 1)])
  let c := c.each 64 (fun c n => if c.getF AIN_CFG n AIN_CFG.KIND = 0 then c
    else c.upd AIN_STATUS n [(AIN_STATUS.STATE, 4), (AIN_STATUS.VALUE, 0x80000000)])
  { c with sense.ain := c.sense.ain.map (fun p => (p.1, { p.2 with fresh := false })), sense.plaus.phase := 3,
           sense.plaus.agree := 0, sense.plaus.reset := false }

/-- The comparisons after an array A sequence. -/
def Chip.plausCompare (c : Chip) : Chip :=
  let ds := c.plDiffs
  if ds.isEmpty ∨ c.arState 0 = arCalibrating ∨ c.arState 1 = arCalibrating ∨ c.sense.plaus.phase = 1 then c
  else
    let bad := ds.filter (fun d => decide (c.getF PLAUS_CFG 0 PLAUS_CFG.PL_THRESH < d.2))
    let n := c.getF PLAUS_CFG 0 PLAUS_CFG.PL_COUNT
    let c := if bad.isEmpty then c else c.each 2 (fun c a => c.incSat ARRAY_STATUS a ARRAY_STATUS.PLAUS_CNT ARRAY_STATUS.SAT 4)
    let p := c.sense.plaus
    let runs := (List.range 4).foldl (fun t k =>
      if bad.any (fun d => d.1 == k) then Tab.set 0 t k (Tab.get 0 p.runs k + 1)
      else if ds.any (fun d => d.1 == k) then Tab.set 0 t k 0 else t) p.runs
    let agree := if bad.isEmpty then p.agree + 1 else 0
    let c := { c with sense.plaus.runs := runs, sense.plaus.agree := agree }
    let hit := maskOf ((List.range 4).filter (fun k => decide (n ≤ Tab.get 0 runs k)))
    let data := fun (st : Nat) => u8 st ++ u8 (maskOf (bad.map Prod.fst)) ++ u16 (ds.foldl (fun m d => max m d.2) 0)
    if p.phase = 0 ∧ hit ≠ 0 then
      (Chip.askCal { c with sense.plaus.phase := 1 } 1 4).raise 0x0902 2 0 (data 2) evPlaus
    else if p.phase = 2 ∧ hit ≠ 0 then c.plausLatch.raise 0x0902 2 0 (data 1) evPlaus
    else if p.phase = 2 ∧ n ≤ agree then { c with sense.plaus := {} }
    else if p.phase = 3 ∧ p.reset ∧ n ≤ agree then
      let c := c.each 2 (fun c a => c.upd ARRAY_STATUS a [(ARRAY_STATUS.PLAUS_LATCHED, 0)])
      Chip.raise { c with sense.plaus := {} } 0x0902 2 0 (data 0) evPlaus
    else c

/-- `ARRAY_SEQUENCE_END`: every entry of the regular sequence is converted. -/
def Chip.arraySequenceEnd (c : Chip) (a : Nat) : Chip :=
  match (c.arr a).reg with
  | none => c
  | some s =>
    if (List.range s.entries.length).any (fun k => !s.done.testBit k) then c
    else
      let c := c.modArr a (fun x => { x with reg := none })
      let c := (c.takeMode a).settleArr a
      if a = 0 then c.plausCompare else c

/-! ## Power, reset and commands -/

/-- The arrays come up with their domain and ask for a self-calibration (R341, Table 11.8). -/
def Chip.arraysOn (c : Chip) : Chip :=
  Chip.each { c with sense.plaus := {} } 2 (fun c a =>
    let c := c.clearRec ARRAY_STATUS a
    let c := (c.setArr a { upAt := c.up }).setArState a arIdle
    (c.takeMode a).askCal a 0)

/-- The arrays are off below the Limited tier. -/
def Chip.arraysOff (c : Chip) : Chip :=
  Chip.each { c with sense.plaus := {} } 2 (fun c a => (c.clearRec ARRAY_STATUS a).setArr a {})

def arrSpec (opcode : Nat) : CmdSpec where
  opcode := opcode
  classes := [2]
  who := Who.estateOr scDiag
  len := fun n => n == 4

/-- `ARRAY_SELF_CAL` (R368): the reply follows the calibration. -/
def Chip.arraySelfCal (c : Chip) (h : Hdr) (a : Nat) : Chip :=
  c.command h (arrSpec 0x0900) (fun x c => checks c [(decide (1 < a), stBadParam), (h.prsv != 0, stBadParam)]
    (fun _ => { chip := (c.askCal a 1).waitReply x (arrWait a 1) 0x0900, held := true }))

/-- An array stops and is emptied (R365, R368): a calibration it was running is asked for again. -/
def Chip.arrayClear (c : Chip) (a : Nat) : Chip :=
  let c := if a = 1 then c.endWatches else c
  let x := c.arr a
  let due := (match x.cal with
    | some k => [(k, c.up)]
    | none => []) ++ x.calDue
  let c := c.upd ARRAY_STATUS a ([(ARRAY_STATUS.FILL, 0), (ARRAY_STATUS.SAT, 0), (ARRAY_STATUS.PLAUS_LATCHED, 0),
    (ARRAY_STATUS.ASTATE, arIdle)] ++ arrCounters.map (fun f => (f, 0)))
  let c := c.setArr a { upAt := x.upAt, calDue := (2, c.up) :: due }
  let c := c.takeMode a
  { c with sense.plaus.reset := true, sense.plaus.agree := 0 }

/-- `ARRAY_RESET`. -/
def Chip.arrayReset (c : Chip) (h : Hdr) (a : Nat) : Chip :=
  c.command h (arrSpec 0x0901) (fun x c => checks c [(decide (1 < a), stBadParam), (h.prsv != 0, stBadParam)]
    (fun _ => { chip := (c.arrayClear a).waitReply x (arrWait a 2) 0x0901, held := true }))

/-- `ARRAY_MODE` is written by the estate and by operators with `DIAG` (R366). -/
def Chip.arrayModeWrite (c : Chip) (x : Ctx) (a ver img : Nat) : Res :=
  c.setRecord x.h ARRAY_MODE a ver img { may := Who.estateOr scDiag x.who }
    (fun c _ => if c.arState a = arOff then c else c.takeMode a)

end Sys2Proof.Machine
end

