-- ==== Sys2Proof/Machine/Channels.lean ====
section
/-!
DEFINITION. Actuator channels (R268 to R292): the valve profile, faults, the closure watch, the coil model, the boost supply, the
diagnostics and the channel commands. What only the allocator does at a frame boundary is in `Alloc.lean`.
-/

namespace Sys2Proof.Machine

/-! ## States and faults -/

/-- The state a channel has when nothing forces it and no profile runs (R272). -/
def Chip.unforcedState (c : Chip) (ch : Nat) : Nat :=
  if c.chKind ch = ckUnused then csUnused
  else if c.chKind ch = ckAxis then csAxis
  else if c.chFault ch ≠ 0 then csFault
  else if (c.chan ch).hot then csHot else csOff

/-- A valve channel leaves its profile or changes its state at rest: OPEN, its watch abandoned; its diagnostic starts anew in OFF
and FAULT (R272, R285, R287). -/
def Chip.rest (c : Chip) (ch : Nat) : Chip :=
  let was := c.cstate ch
  let new := if c.chKind ch = ckValve ∧ c.forced ch then csForced else c.unforcedState ch
  let c := if c.chDriven ch then
      let c := c.abandonWatch ch
      let c := c.upd CH_STATUS ch [(CH_STATUS.ECON_REQ, 0)]
      c.modTgt ch (fun t => { t with closedAt := some c.act.frame })
    else c
  if new = was then c
  else (c.modChan ch (fun x => { x with diagAt := c.up, hotReq := false })).setCstate ch new

/-- The latching faults of Table 8.7. -/
def latching (code : Nat) : Bool := code == 1 || code == 2 || code == 3 || code == 8

/-- A fault of Table 8.7 is found (R283, R284): recorded if none stands, if it has a lower code, or if it latches and the one that
stands does not. A recorded fault opens the channel. -/
def Chip.channelFault (c : Chip) (ch code : Nat) : Chip :=
  let was := c.chFault ch
  let before := c.cstate ch
  if c.chKind ch = ckUnused then c
  else if was = 0 ∨ code < was ∨ (latching code ∧ ¬ latching was) then
    let c := c.incSat CH_STATUS ch CH_STATUS.FAULT_CNT CH_STATUS.SAT 2
    let c := c.upd CH_STATUS ch [(CH_STATUS.FAULT, code)]
    let c := c.modChan ch (fun x => { x with passes := 0, faultAt := c.up })
    let c := if c.chKind ch = ckValve then c.rest ch else c
    if was = 0 ∨ code < was then
      c.raise 0x0600 2 ch (u8 code ++ u8 before ++ u16 (c.getF CH_STATUS ch CH_STATUS.I_MA)) evDrive
    else c
  else c

/-- A trip of the power die acts at once, and is recorded when the Keeper runs (R284). -/
def Chip.dieTrip (c : Chip) (ch code : Nat) : Chip :=
  if c.holding 0 then
    let t := (c.chan ch).trip
    (c.modChan ch (fun x => { x with trip := if t = 0 then code else min t code })).rest ch
  else c.channelFault ch code

/-- The target is queued under R254 step 1 when it next wants something. -/
def Chip.requeue (c : Chip) (i : Nat) : Chip := c.modTgt i (fun t => { t with restore := true })

/-- A fault clears (R272): cause 0 reset, 1 self-clear. -/
def Chip.clearChFault (c : Chip) (ch cause : Nat) : Chip :=
  let was := c.chFault ch
  if was = 0 then c
  else
    let c := c.upd CH_STATUS ch [(CH_STATUS.FAULT, 0)]
    let c := (c.modChan ch (fun x => { x with passes := 0 })).requeue ch
    let c := if c.chKind ch = ckValve ∧ ¬ c.chDriven ch then c.rest ch else c
    c.raise 0x0601 0 ch (u8 was ++ u8 cause ++ rsvBytes 2) evDrive

/-! ## Costs and the coil (R248, R279 to R281) -/

/-- A degree Celsius in the coil model's units: 0.01 °C / 65536. -/
abbrev degC : Int := 6553600

/-- A resistance is a numerator over this: 0.1 Ω × 10^6 × `degC`. -/
abbrev rUnit : Int := 1000000 * degC

/-- The coil's resistance at a temperature, in 0.1 Ω over `rUnit` (R248, R279); above 0. -/
def Chip.coilR (c : Chip) (ch : Nat) (t : Int) : Int :=
  max 1 ((c.vt ch VALVE_TYPE.COIL_RES_20C : Int) * (rUnit + (c.vt ch VALVE_TYPE.COIL_TEMPCO : Int) * (t - 20 * degC)))

/-- R_cost: at the lower of 20 °C and the present temperature (R248). -/
def Chip.costR (c : Chip) (ch : Nat) : Int := c.coilR ch (min (20 * degC) (c.chan ch).coilT)

def ceilDiv (a b : Int) : Nat := (-(Int.fdiv (-a) b)).toNat

/-- A cost in tokens of 0.1 W at a voltage in 0.1 V (R248): ⌈V² / R / 0.1 W⌉. -/
def Chip.costAt (c : Chip) (ch dv : Nat) : Nat := ceilDiv ((dv : Int) * dv * rUnit) (c.costR ch)

def Chip.vHold (c : Chip) : Nat := c.getF HOLD_RAIL_CFG 0 HOLD_RAIL_CFG.V_HOLD
def Chip.vBoostCost (c : Chip) : Nat := 10 * c.getF BUDGET_CFG 0 BUDGET_CFG.VBOOST_COST_V
def Chip.holdCost (c : Chip) (ch : Nat) : Nat := c.costAt ch c.vHold
def Chip.pullCost (c : Chip) (ch : Nat) (holdPull : Bool) : Nat := if holdPull then c.holdCost ch else c.costAt ch c.vBoostCost
def econCost (hold : Nat) : Nat := (hold + 1) / 2

/-- The ambient of the coils (R279). -/
def Chip.coilAmb (c : Chip) : Int :=
  toSigned 16 (c.getF CH_GLOBAL 0 (CH_GLOBAL.AMB_BAND (c.getF THERMAL_STATUS 0 THERMAL_STATUS.BAND))) * 65536

/-- The rise at a power given as a fraction in watts. -/
def Chip.coilRise (c : Chip) (ch : Nat) (num den : Int) : Int := divFree 279 (num * (c.vt ch VALVE_TYPE.COIL_RTH : Int) * 65536) den

/-- The steady temperature at a mean-square current in mA² (R279). -/
def Chip.coilSteady (c : Chip) (ch : Nat) (ms : Nat) : Int :=
  c.coilAmb + c.coilRise ch ((ms : Int) * c.coilR ch (c.chan ch).coilT) (1000000 * 10 * rUnit)

/-- The steady temperature at V²/R(T), V in 0.1 V, times `n`/2 (R281). -/
def Chip.coilSteadyV (c : Chip) (ch dv : Nat) (n : Int) : Int :=
  c.coilAmb + c.coilRise ch ((dv : Int) * dv * rUnit * n) (10 * c.coilR ch (c.chan ch).coilT * 2)

def Chip.coilMax (c : Chip) (ch : Nat) : Int := toSigned 16 (c.vt ch VALVE_TYPE.COIL_TMAX) * 65536

/-- A temperature field of `CH_STATUS`: limited to its valid range, since arithmetic never makes a no-value code (R9). -/
def tempField (v : Int) : Nat := ofSigned 16 (clampI (-32767) 32767 (divFree 279 v 65536))

/-- The channel's temperature is shown. -/
def Chip.showCoil (c : Chip) (ch : Nat) : Chip :=
  let x := c.chan ch
  c.upd CH_STATUS ch [(CH_STATUS.COIL_T, tempField x.coilT), (CH_STATUS.COIL_T_SS, tempField x.coilSs)]

/-- `COIL_HOT` (R281): its temperature is masked where the channel is read at non-owner resolution (R292, R106). -/
def Chip.coilHotEvent (c : Chip) (ch st : Nat) : Chip :=
  let t := c.getF CH_STATUS ch CH_STATUS.COIL_T
  let d := u8 st ++ rsvBytes 1 ++ u16 (if c.plotTarget ch then 0x8000 else t)
  c.raise 0x0604 1 ch d evDrive

/-- A channel goes to HOT (R272, R281). -/
def Chip.goHot (c : Chip) (ch : Nat) : Chip :=
  if (c.chan ch).hot then c
  else ((c.modChan ch (fun x => { x with hot := true, hotReq := false })).rest ch).coilHotEvent ch 1

/-- The coil model refuses a request (R281): the end of the boost, or full hold without a fitting economy hold, is too hot. `boost`
is the boost's voltage in 0.1 V. -/
def Chip.coilRefuses (c : Chip) (ch boost : Nat) : Bool :=
  let t := (c.chan ch).coilT
  let ss := c.coilSteadyV ch boost 2
  let endT := ss + decay 281 (t - ss) (c.vt ch VALVE_TYPE.BOOST_MS) (1000 * c.vt ch VALVE_TYPE.COIL_TAU_S)
  let m := c.coilMax ch
  decide (m < endT) || (decide (m < c.coilSteadyV ch c.vHold 2)
    && (c.vt ch VALVE_TYPE.ECON_EN == 0 || decide (m < c.coilSteadyV ch c.vHold 1)))

/-- Array B gives no sense: it is off, calibrating, or its results are taken as absent (Table 8.8, R348). -/
def Chip.noSense (c : Chip) : Bool := c.arState 1 == arOff || c.arState 1 == arCalibrating || c.plausLatched

/-- The model of one channel moves on by 10 ms (R279) and is judged (R281). `ma` is the mean current, `ms` the mean square. -/
def Chip.coilStep (c : Chip) (ch ma ms : Nat) : Chip :=
  if c.chKind ch ≠ ckValve then c
  else
    let ms := if c.chDriven ch then ms else 0
    let ma := if c.chDriven ch then ma else 0
    let ss := c.coilSteady ch ms
    let x := c.chan ch
    let t := ss + decay 279 (x.coilT - ss) 1 (100 * c.vt ch VALVE_TYPE.COIL_TAU_S)
    let c := c.modChan ch (fun x => { x with coilT := t, coilSs := ss, tAt := c.now })
    let c := (c.upd CH_STATUS ch [(CH_STATUS.I_MA, ma)]).showCoil ch
    let econ := c.vt ch VALVE_TYPE.ECON_EN == 1
    let m := c.coilMax ch
    let c := if c.cstate ch = csHold ∧ econ ∧ m < ss then c.upd CH_STATUS ch [(CH_STATUS.ECON_REQ, 1)] else c
    let c := if m ≤ t ∧ ((c.cstate ch = csHold ∧ ¬ econ) ∨ c.cstate ch = csEcon) then
        c.modChan ch (fun x => { x with hotReq := true }) else c
    if (c.chan ch).hot ∧ t ≤ m - 10 * degC then
      let c := (c.modChan ch (fun x => { x with hot := false })).requeue ch
      (c.rest ch).coilHotEvent ch 0
    else c

/-- `COIL_MODEL_UPDATE` with, for each channel, the mean and the mean square of its current over the 10 ms. The model holds T while
array B gives nothing (Table 8.8) and stands still below Limited. -/
def Chip.coilModelUpdate (c : Chip) (currents : List (Nat × Nat)) : Chip :=
  if c.level < lvLimited ∨ c.boot.pfHalt ∨ c.noSense then c
  else c.each 96 (fun c ch => let i := currents.getD ch (0, 0); c.coilStep ch i.1 i.2)

/-- The model starts again after a reset or a time below Limited; after a loss of VAON every coil is taken to be half way to its limit
(R280). -/
def Chip.coilStart (c : Chip) : Chip :=
  c.each 96 (fun c ch =>
    let x := c.chan ch
    let amb := c.coilAmb
    if !x.tStarted then
      (c.modChan ch (fun x => { x with coilT := amb + Int.fdiv (c.coilMax ch - amb) 2, coilSs := amb, tAt := c.now, tStarted := true })).showCoil ch
    else if c.chKind ch ≠ ckValve then c
    else
      let t := amb + decay 280 (x.coilT - amb) (c.now - x.tAt) (ticksPerSecond * c.vt ch VALVE_TYPE.COIL_TAU_S)
      (c.modChan ch (fun x => { x with coilT := t, coilSs := amb, tAt := c.now })).showCoil ch)

/-- A loss of VAON loses the coils' temperatures (R280). -/
def Chip.coilLost (c : Chip) : Chip := c.each 96 (fun c ch => c.modChan ch (fun x => { x with tStarted := false }))

/-! ## The closure watch (R276 to R278) -/

/-- A field of the valve type as it stood at the channel's pull-in (R287). -/
def Chip.vtRun (c : Chip) (ch : Nat) (f : Fld) : Nat := f.get (c.chan ch).vtImg

/-- A pull-in starts (R272, R276): the profile runs from its boost, and a watch starts if the valve type asks for one and an entry is
free. -/
def Chip.startBoost (c : Chip) (ch : Nat) (holdPull : Bool) : Chip :=
  let c := c.abandonWatch ch
  let used := (c.watching.filterMap (fun k => (c.chan k).entry))
  let entry := (List.range 8).find? (fun e => !used.contains e)
  let kink := c.vt ch VALVE_TYPE.KINK_EN == 1
  let c := c.modChan ch (fun x => { x with
    holdPull := holdPull, boostAt := c.up, senseAt := c.up, vtImg := c.img VALVE_TYPE (c.getF CH_CFG ch CH_CFG.VALVE_TYPE),
    watch := if kink ∧ entry.isSome then some {} else none, entry := if kink then entry else none })
  let c := c.upd CH_STATUS ch ((CH_STATUS.CSTATE, csBoost) :: (CH_STATUS.ECON_REQ, 0) ::
    (if !kink then [(CH_STATUS.LAST_CLOSE, 4)] else if entry.isNone then [(CH_STATUS.LAST_CLOSE, 3)] else []))
  c.modTgt ch (fun t => { t with openAt := c.act.frame })

/-- `NO_MOVE` (R278): the channel keeps holding, but a run that reaches the limit makes it `STUCK`. -/
def Chip.noMove (c : Chip) (ch : Nat) : Chip :=
  let win := c.vtRun ch VALVE_TYPE.KINK_WIN_END_MS
  let c := c.endWatch ch 2
  let c := c.incSat CH_STATUS ch CH_STATUS.NOMOVE_CNT CH_STATUS.SAT 1
  let c := c.inc CH_STATUS ch CH_STATUS.NOMOVE_RUN
  let n := c.getF CH_STATUS ch CH_STATUS.NOMOVE_RUN
  let c := c.raise 0x0602 1 ch (u8 n ++ rsvBytes 1 ++ u16 win) evDrive
  let lim := c.getF CH_CFG ch CH_CFG.NOMOVE_LIMIT
  if lim ≠ 0 ∧ lim ≤ n then c.channelFault ch 8 else c

/-- `CLOSURE_WATCH_SAMPLE` (R277): a sample in mA taken `t` units of 50 µs after the boost start. -/
def Chip.closureWatchSample (c : Chip) (ch t ma : Nat) : Chip :=
  match (c.chan ch).watch with
  | none => c
  | some w =>
    let f := divRound (3 * w.f + ma) 4
    let w := { w with f := f, top := max w.top f }
    let keep := fun (w : Watch) => c.modChan ch (fun x => { x with watch := some w })
    let depth : Int := c.vtRun ch VALVE_TYPE.KINK_DEPTH_MA
    if t < 20 * c.vtRun ch VALVE_TYPE.KINK_WIN_START_MS then keep w
    else if !w.first ∧ ¬ f < w.valley ∧ depth ≤ w.peak - w.valley ∧ depth ≤ 2 * (f - w.valley) then
      let c := c.endWatch ch 1
      let c := c.incSat CH_STATUS ch CH_STATUS.MOVE_CNT CH_STATUS.SAT 0
      c.upd CH_STATUS ch [(CH_STATUS.CLOSE_T, w.tValley), (CH_STATUS.NOMOVE_RUN, 0)]
    else
      let w := if w.first then { w with peak := f, valley := f, tValley := t, first := false }
        else if f < w.valley then { w with valley := f, tValley := t }
        else if w.peak < f then { w with peak := f, valley := f, tValley := t } else w
      if t < 20 * c.vtRun ch VALVE_TYPE.KINK_WIN_END_MS then keep w
      else if w.top < c.vtRun ch VALVE_TYPE.OPEN_MA then (c.abandonWatch ch).channelFault ch 6
      else c.noMove ch

/-! ## Profile and fault rows -/

/-- `BOOST_END` (R272): the rail changes to VHOLD. -/
def Chip.boostEnd (c : Chip) (ch : Nat) : Chip :=
  if c.cstate ch = csBoost ∧ c.passedMs (c.chan ch).boostAt (c.vtRun ch VALVE_TYPE.BOOST_MS) then c.setCstate ch csHold else c

/-- `DIE_SUM_TRIP` (R283): PA drives CH00 to CH47, PB the others. -/
def Chip.dieSumTrip (c : Chip) (die : Nat) : Chip :=
  c.eachOf ((List.range 48).map (fun k => 48 * die + k)) (fun c ch => if c.cstate ch = csBoost then c.dieTrip ch 4 else c)

/-- `PKG_OC_CLEAR`: 1 s after the fault. -/
def Chip.pkgOcClear (c : Chip) (ch : Nat) : Chip :=
  if c.chFault ch = 4 ∧ c.passedS (c.chan ch).faultAt 1 then c.clearChFault ch 1 else c

/-- `CHANNEL_OPEN_LOAD`: the current has been below `OPEN_MA` for 50 ms in HOLD or ECON_HOLD. -/
def Chip.channelOpenLoad (c : Chip) (ch ma : Nat) : Chip :=
  if (c.cstate ch = csHold ∨ c.cstate ch = csEcon) ∧ ma < c.vtRun ch VALVE_TYPE.OPEN_MA ∧ ¬ c.noSense then c.channelFault ch 6
  else c

/-- `CHANNEL_SENSE_LOST`: the sense of a driven valve channel is older than 200 ms. -/
def Chip.channelSenseLost (c : Chip) (ch : Nat) : Chip :=
  if c.chKind ch = ckValve ∧ c.chDriven ch ∧ c.passedMs (c.chan ch).senseAt 200 then c.channelFault ch 5 else c

/-- Array B delivers again at the end of its regular sequence: sense is fresh, and `SENSE_LOST` clears (R283). -/
def Chip.senseBack (c : Chip) : Chip :=
  if c.plausLatched then c else c.each 96 (fun c ch => if c.chFault ch = 5 then c.clearChFault ch 1 else c)

/-- Waiting replies to `CHANNEL_RESET`, and to `CHANNEL_MANUAL` with `WAIT` 0 by their place in the queue. -/
def chResetWait (ch : Nat) : Nat := 0x20000 + ch
def manualWait (seq : Nat) : Nat := 0x30000 + seq

/-- The diagnostic of a commanded reset has run, or none runs (R291). -/
def Chip.resetAnswer (c : Chip) (ch code : Nat) : Chip :=
  match (c.chan ch).resetting with
  | none => c
  | some old =>
    let c := c.modChan ch (fun x => { x with resetting := none })
    let c := if code = 0 then
        let c := c.requeue ch
        if old = 0 then c else c.raise 0x0601 0 ch (u8 old ++ u8 0 ++ rsvBytes 2) evDrive
      else c
    c.answerWaits (chResetWait ch) stOk (u8 code ++ rsvBytes 3)

/-- `OFF_STATE_DIAGNOSTIC` (R285) with the two readings in mV, without and with the pull-up. -/
def Chip.offStateDiagnostic (c : Chip) (ch mv0 mv1 : Nat) : Chip :=
  let x := c.chan ch
  let st := c.cstate ch
  let due := x.resetting.isSome || (c.getB CH_CFG ch CH_CFG.OFF_DIAG_EN && c.passedMs x.diagAt (c.getF CH_GLOBAL 0 CH_GLOBAL.OFF_DIAG_MS))
  if c.level < lvLimited ∨ c.chKind ch ≠ ckValve ∨ (st ≠ csOff ∧ st ≠ csFault) ∨ c.forced ch ∨ c.arState 1 = arCalibrating ∨ ¬ due then c
  else
    let code := if 2000 < mv0 then 7 else if 2000 < mv1 then 6 else 0
    let was := c.chFault ch
    let c := c.modChan ch (fun x => { x with diagAt := c.up })
    if x.resetting.isSome then
      (if code = 0 then c else c.channelFault ch code).resetAnswer ch code
    else if code ≠ 0 then (c.channelFault ch code).modChan ch (fun x => { x with passes := 0 })
    else if was = 6 ∨ was = 7 then
      if 2 ≤ x.passes then c.clearChFault ch 1 else c.modChan ch (fun x => { x with passes := x.passes + 1 })
    else c

/-! ## Boost supply (R282) -/

/-- A valve's pull-in waits, for the allocator or for a manual request. -/
def Chip.pullWaiting (c : Chip) : Bool := !c.act.man0.isEmpty || (List.range 96).any (fun ch => (c.tgt ch).wait.isSome)

/-- `BOOST_NOT_READY` is raised at the first instant at which VBOOST has been low for 2 s and a pull-in waits. -/
def Chip.boostNotReady (c : Chip) : Chip :=
  match c.act.lowSince with
  | none => c
  | some t =>
    if c.act.bnr ∨ ¬ c.passedS t 2 ∨ ¬ c.pullWaiting ∨ c.level < lvLimited then c
    else
      let c := Chip.each { c with act.bnr := true } 96 (fun c ch => c.upd CH_STATUS ch [(CH_STATUS.BNR, 1)])
      c.raise 0x0603 2 0 (u8 1 ++ rsvBytes 1 ++ u16 (c.getF SUPPLY_STATUS 0 SUPPLY_STATUS.VBOOST)) evDrive

/-- `BOOST_READY_CLEAR`: VBOOST has been restored for 100 ms; refused requests are queued again. -/
def Chip.boostReadyClear (c : Chip) : Chip :=
  match c.act.okSince with
  | none => c
  | some t =>
    if !c.act.bnr ∨ ¬ c.passedMs t 100 then c
    else
      let c := Chip.each { c with act.bnr := false } 96 (fun c ch =>
        let c := c.upd CH_STATUS ch [(CH_STATUS.BNR, 0)]
        if (c.tgt ch).refused then c.modTgt ch (fun t => { t with refused := false, restore := true }) else c)
      c.raise 0x0603 2 0 (u8 0 ++ rsvBytes 1 ++ u16 (c.getF SUPPLY_STATUS 0 SUPPLY_STATUS.VBOOST)) evDrive

/-- `VBOOST_MONITOR`: a reading in 0.1 V. -/
def Chip.vboostMonitor (c : Chip) (v : Nat) : Chip :=
  if c.level < lvLimited then c
  else
    let lo := c.getF CH_GLOBAL 0 CH_GLOBAL.VBOOST_MIN
    let hi := lo + c.getF CH_GLOBAL 0 CH_GLOBAL.VBOOST_HYST
    let low := decide (v < lo)
    let c := c.upd SUPPLY_STATUS 0 [(SUPPLY_STATUS.VBOOST, v)]
    let keep := fun (o : Option Nat) (b : Bool) => if !b then none else match o with
      | some t => some t
      | none => some c.up
    let c := { c with act.lowSince := keep c.act.lowSince low, act.okSince := keep c.act.okSince (decide (hi ≤ v)) }
    c.each 96 (fun c ch => c.upd CH_STATUS ch [(CH_STATUS.BOOST_LOW, if low then 1 else 0)])

/-! ## Commands (R291) -/

def chSpec (opcode : Nat) (classes : List Nat) (len : Nat) : CmdSpec where
  opcode := opcode
  classes := classes
  who := Who.estateOr scChannels
  len := fun n => n == len

/-- The manual mode of a channel changes; `cause` 0 command, 1 timeout, 2 reset or tier. -/
def Chip.setManual (c : Chip) (ch mode timeout cause : Nat) : Chip :=
  let was := c.getF CH_STATUS ch CH_STATUS.MANUAL_MODE
  let c := c.upd CH_STATUS ch [(CH_STATUS.MANUAL_MODE, mode), (CH_STATUS.MANUAL, if mode = 0 then 0 else 1)]
  let c := c.modChan ch (fun x => { x with until_ := if timeout = 0 then none else some (c.up + timeout * ticksPerSecond) })
  if was = mode then c else c.raise 0x0606 1 ch (u8 mode ++ u8 cause ++ rsvBytes 2) evDrive

/-- The manual mode ends: the channel is queued under R254 step 1. -/
def Chip.manualEnd (c : Chip) (ch cause : Nat) : Chip :=
  if c.getF CH_STATUS ch CH_STATUS.MANUAL_MODE = 0 then c else (c.setManual ch 0 0 cause).requeue ch

/-- The place of a new manual request. -/
def Chip.takeSeq (c : Chip) : Chip := { c with act.seq := c.act.seq + 1 }

/-- `CHANNEL_MANUAL`. -/
def Chip.channelManual (c : Chip) (h : Hdr) (ch mode wait timeout : Nat) : Chip :=
  c.command h (chSpec 0x0600 [1, 2] 8) (fun x c => checks c [
    (decide (95 < ch), stBadParam),
    (mode == 1 && c.forcedLines.testBit ch && !c.tripped.isEmpty, stSafetyLock),
    (decide (2 < mode) || decide (1 < wait) || h.prsv != 0, stBadParam),
    (c.chKind ch != ckValve || c.forced ch || c.cstate ch == csForced, stBadState),
    (mode == 1 && c.chFault ch != 0, stHwFault)]
    (fun _ =>
      if mode = 0 then { chip := c.manualEnd ch 0 }
      else if mode = 2 then { chip := (c.setManual ch 2 timeout 0).modTgt ch (fun t => { t with wait := none }) }
      else
        let seq := c.act.seq
        let c := c.takeSeq
        if wait = 1 then
          let c := (c.setManual ch 1 timeout 0).modTgt ch (fun t => { t with
            wait := some { order := 2, cls := h.cls, seq := seq, since := c.act.frame }, refused := false })
          { chip := c.modChan ch (fun y => { y with mseq := seq, mcls := h.cls }) }
        else
          { chip := Chip.waitReply { c with act.man0 := c.act.man0 ++ [{ ch := ch, cls := h.cls, seq := seq, timeout := timeout }] }
              x (manualWait seq) 0x0600,
            held := true }))

/-- `CHANNEL_MANUAL_TIMEOUT`. -/
def Chip.channelManualTimeout (c : Chip) (ch : Nat) : Chip :=
  match (c.chan ch).until_ with
  | some t => if t ≤ c.up then c.manualEnd ch 1 else c
  | none => c

/-- The counters of a channel clear. -/
def chCounters : List (Fld × Nat) :=
  [(CH_STATUS.MOVE_CNT, 0), (CH_STATUS.NOMOVE_CNT, 0), (CH_STATUS.FAULT_CNT, 0), (CH_STATUS.SAT, 0)]

/-- `CHANNEL_RESET` (R291): on a channel that is forced, or of an axis, no diagnostic runs. -/
def Chip.channelReset (c : Chip) (h : Hdr) (ch : Nat) : Chip :=
  c.command h (chSpec 0x0601 [2] 4) (fun x c => checks c [
    (decide (95 < ch), stBadParam), (h.prsv != 0, stBadParam), (c.chKind ch == ckUnused, stBadState)]
    (fun _ =>
      let old := c.chFault ch
      let c := c.upd CH_STATUS ch ([(CH_STATUS.FAULT, 0), (CH_STATUS.NOMOVE_RUN, 0)] ++ chCounters)
      let c := c.modTgt ch (fun t => { t with wait := none })
      if c.chKind ch = ckValve ∧ ¬ c.forced ch then
        let c := c.modChan ch (fun y => { y with resetting := some old, passes := 0 })
        { chip := (c.rest ch).waitReply x (chResetWait ch) 0x0601, held := true }
      else
        let c := if old = 0 then c else c.raise 0x0601 0 ch (u8 old ++ u8 0 ++ rsvBytes 2) evDrive
        { chip := c, data := rsvBytes 4 }))

/-- `FORCED` of `CH_STATUS` shows the force-off mask, and the mask is reported (R291). -/
def Chip.showForce (c : Chip) : Chip :=
  let m := c.act.forceMask
  let c := c.each 96 (fun c ch => c.upd CH_STATUS ch [(CH_STATUS.FORCED, if m.testBit ch then 1 else 0)])
  c.raise 0x0605 2 0 (u8 (bitsOf 96 m).length ++ rsvBytes 3 ++ leBytes 12 m) evDrive

/-- A 12-byte mask of channels. -/
def badMask (mask : Nat) : Bool := mask == 0 || decide (2 ^ 96 ≤ mask)

/-- `CHANNEL_FORCE_OFF`: the outputs open in the next micro-slot. -/
def Chip.channelForceOff (c : Chip) (h : Hdr) (mask : Nat) : Chip :=
  c.command h (chSpec 0x0610 [0, 1] 16) (fun _ c => checks c [(badMask mask || h.prsv != 0, stBadParam)]
    (fun _ =>
      let c := { c with act.forceMask := c.act.forceMask ||| mask, act.release := maskOff c.act.release mask }
      { chip := c.showForce }))

/-- `CHANNEL_FORCE_RELEASE`: the bits clear at the next frame boundary. -/
def Chip.channelForceRelease (c : Chip) (h : Hdr) (mask : Nat) : Chip :=
  c.command h (chSpec 0x0611 [1, 2] 16) (fun _ c => checks c [(badMask mask || h.prsv != 0, stBadParam)]
    (fun _ => { chip := { c with act.release := c.act.release ||| mask } }))

/-! ## Records -/

/-- The readers and writers of the configuration of channels and axes: the estate writes. -/
def estateMay (x : Ctx) : WriteCheck := { may := Who.estateOnly x.who }

/-- The channel is an axis's, or its kind or valve type would change while it is mapped or driven (R270). -/
def Chip.chCfgHeld (c : Chip) (ch img : Nat) : Bool :=
  let moves := CH_CFG.KIND.get img != c.chKind ch || CH_CFG.VALVE_TYPE.get img != c.getF CH_CFG ch CH_CFG.VALVE_TYPE
  c.chKind ch == ckAxis || (moves && (c.getB ACT_MAP ch ACT_MAP.EN || c.chDriven ch))

/-- `CH_CFG_WRITE` (R270, R272): setting `KIND` to UNUSED also forgets a recorded fault, which nothing could clear there. -/
def Chip.chCfgWrite (c : Chip) (x : Ctx) (ch ver img : Nat) : Res :=
  c.setRecord x.h CH_CFG ch ver img { estateMay x with
      bad := decide (1 < CH_CFG.KIND.get img)
      state := if c.chCfgHeld ch img then stBadState else 0 }
    (fun c old =>
      if CH_CFG.KIND.get old = c.chKind ch then c
      else if c.chKind ch = ckValve then c.rest ch
      else
        let c := c.upd CH_STATUS ch [(CH_STATUS.FAULT, 0)]
        (c.modChan ch (fun y => { y with hot := false, passes := 0 })).rest ch)

/-- `VALVE_TYPE` (R288). -/
def Chip.valveTypeWrite (c : Chip) (x : Ctx) (i ver img : Nat) : Res :=
  c.setRecord x.h VALVE_TYPE i ver img
    { estateMay x with bad := decide (VALVE_TYPE.KINK_WIN_END_MS.get img ≤ VALVE_TYPE.KINK_WIN_START_MS.get img) } (fun c _ => c)

end Sys2Proof.Machine
end

