-- ==== Sys2Proof/Machine/Axes.lean ====
section
/-!
DEFINITION. Damper axes and encoder interfaces (R293 to R320): counting, speed, the two loops, homing, stalls, faults and the axis
commands; and the power die's trips, which concern valve channels and axes alike (R283, R311).
-/

namespace Sys2Proof.Machine

/-- Rounding of this chapter: to nearest, ties upward (R303). -/
def roundN (num den : Int) : Int := if den = 0 then 0 else Int.fdiv (2 * num + den) (2 * den)

/-- A q16 fraction of full scale over 65536, in which 0xFFFF means full (Table 0.4). -/
def qFull (q : Nat) : Int := if q = 0xFFFF then 65536 else q

/-! ## Events at the axis's resolution (R320) -/

/-- Raise an event of an axis or encoder. Shown at non-owner resolution, only events of `SEV` 2, masked but for the fault code, and
`AXIS_MANUAL_CHANGED` are delivered; another one may still trigger a snapshot, which is judged before masking (R513). -/
def Chip.raiseAxis (c : Chip) (plot : Bool) (code sev source : Nat) (data seen : List Nat) : Chip :=
  if !plot ∨ code = 0x0707 then c.raise code sev source data evDrive
  else if sev = 2 then c.raise code sev source seen evDrive
  else if c.snapArmed code then c.snapTrigger 4 code else c

def Chip.axPlot (c : Chip) (a : Nat) : Bool := c.plotTarget (axBase + a)

def Chip.encPlot (c : Chip) (e : Nat) : Bool :=
  match c.axisOfEnc e with
  | some a => c.axPlot a
  | none => false

/-! ## Positions (R303) -/

def Chip.encPos (c : Chip) (e : Nat) : Int := c.getS ENC_STATUS e ENC_STATUS.POSITION
def Chip.axPos (c : Chip) (a : Nat) : Int := c.encPos (c.axEnc a)
def Chip.axSpan (c : Chip) (a : Nat) : Int := c.getF AX_CFG a AX_CFG.SPAN_COUNTS

/-- The target in counts of a setpoint. -/
def Chip.axCounts (c : Chip) (a sp : Nat) : Int := roundN ((sp : Int) * c.axSpan a) 65535

/-- A position in counts as q16. -/
def Chip.axQ16 (c : Chip) (a : Nat) (p : Int) : Nat := (clampI 0 0xFFFF (roundN (p * 65535) (c.axSpan a))).toNat

def Chip.axTarget (c : Chip) (a : Nat) : Int := c.getS AX_STATUS a AX_STATUS.TARGET
def Chip.axErr (c : Chip) (a : Nat) : Int := c.axTarget a - c.axPos a

/-- The axis takes a setpoint as its target. -/
def Chip.axAim (c : Chip) (a sp : Nat) : Chip :=
  (c.modAxis a (fun x => { x with sp := sp })).upd AX_STATUS a
    [(AX_STATUS.TARGET, ofSigned 32 (c.axCounts a sp)), (AX_STATUS.TARGET_Q16, sp)]

/-- The target becomes the present position (R307, R319). -/
def Chip.axHere (c : Chip) (a : Nat) : Chip :=
  let p := c.axPos a
  let q := c.axQ16 a p
  (c.modAxis a (fun x => { x with sp := q })).upd AX_STATUS a [(AX_STATUS.TARGET, ofSigned 32 p), (AX_STATUS.TARGET_Q16, q)]

/-- The position is shown (Table 9.6). -/
def Chip.axShow (c : Chip) (a : Nat) : Chip :=
  let p := c.axPos a
  c.upd AX_STATUS a [(AX_STATUS.POSITION, ofSigned 32 p), (AX_STATUS.POS_Q16, c.axQ16 a p),
    (AX_STATUS.SPEED, c.getF ENC_STATUS (c.axEnc a) ENC_STATUS.SPEED)]

def Chip.homed (c : Chip) (a : Nat) : Bool := c.getB AX_STATUS a AX_STATUS.HOMED

/-- A field of the configuration in force for the move (R316). -/
def Chip.axRun (c : Chip) (a : Nat) (f : Fld) : Nat := f.get (c.axis a).cfg

/-- Duty and integral are numerators over this, so that the loop of R304 is exact. -/
def Chip.dutyDen (c : Chip) (a : Nat) : Int := 256 * 10000000 * (c.axRun a AX_CFG.V_MAX : Int) * 65536

/-- A q16 duty over `dutyDen`. -/
def Chip.dutyOf (c : Chip) (a q : Nat) : Int := qFull q * 256 * 10000000 * (c.axRun a AX_CFG.V_MAX : Int)

/-- The bridge takes a duty. -/
def Chip.axDrive (c : Chip) (a : Nat) (num : Int) : Chip :=
  (c.modAxis a (fun x => { x with duty := num })).upd AX_STATUS a
    [(AX_STATUS.DUTY, ofSigned 16 (clampI (-32768) 32767 (roundN (num * 32768) (c.dutyDen a))))]

/-! ## Axis states (R306 to R312) -/

def Chip.setAstate (c : Chip) (a s : Nat) : Chip := c.upd AX_STATUS a [(AX_STATUS.ASTATE, s)]

/-- The state of an axis at rest that nothing stops. -/
def Chip.axRest (c : Chip) (a : Nat) : Nat :=
  if !c.axEn a then asUnused else if c.getF AX_STATUS a AX_STATUS.FAULT ≠ 0 then asFault
  else if c.homed a then asIdle else asUnhomed

/-- A move or homing ends: the loop stops. -/
def Chip.axHalt (c : Chip) (a new : Nat) : Chip :=
  let c := c.axDrive a 0
  let c := c.modAxis a (fun x => { x with
    vcmd := 0, integ := 0, settleAt := none, stallAt := none, driftAt := none, homePhase := 0, homeGrant := false })
  c.setAstate a new

/-- The homing of `AXIS_HOME` ends with a result (R319). -/
def Chip.homeResult (c : Chip) (a status : Nat) (data : List Nat) : Chip :=
  let k := (c.axis a).handle
  (c.finish k status data).modAxis a (fun x => { x with handle := none })

/-- A homing is abandoned: the axis is no longer homed. -/
def Chip.abandonHoming (c : Chip) (a status : Nat) : Chip :=
  if c.astate a = asHoming then (c.upd AX_STATUS a [(AX_STATUS.HOMED, 0)]).homeResult a status [] else c

/-- A fault of Table 9.5 is found (R311, R312). -/
def Chip.axisFault (c : Chip) (a code : Nat) : Chip :=
  let was := c.getF AX_STATUS a AX_STATUS.FAULT
  let before := c.astate a
  if !c.axEn a ∨ before = asUnused ∨ before = asOff ∨ ¬ (was = 0 ∨ code < was ∨ (was = 2 ∧ code ≠ 2)) then c
  else
    let c := c.incSat AX_STATUS a AX_STATUS.FAULT_CNT AX_STATUS.SAT 2
    let c := c.abandonHoming a stHwFault
    let c := c.upd AX_STATUS a ((AX_STATUS.FAULT, code) ::
      (if code = 4 ∨ code = 5 ∨ code = 6 ∨ code = 9 then [(AX_STATUS.HOMED, 0)] else []))
    let c := if before = asStopped then c else c.axHalt a asFault
    let data := u8 code ++ u8 before ++ rsvBytes 2 ++ s32 (c.axPos a)
    c.raiseAxis (c.axPlot a) 0x0700 2 a data (u8 code ++ rsvBytes 7)

/-- A fault clears: cause 0 reset, 1 self-clear. The axis is queued under R254 step 1. -/
def Chip.clearAxFault (c : Chip) (a cause : Nat) : Chip :=
  let was := c.getF AX_STATUS a AX_STATUS.FAULT
  if was = 0 then c
  else
    let c := c.upd AX_STATUS a [(AX_STATUS.FAULT, 0)]
    let c := if c.astate a = asFault then c.setAstate a (c.axRest a) else c
    let d := u8 was ++ u8 cause ++ rsvBytes 2
    (c.requeue (axBase + a)).raiseAxis (c.axPlot a) 0x0701 0 a d d

/-- A stopping cause of Table 9.3 acts: the bridge takes its STOPPED setting and a homing is abandoned. -/
def Chip.axStop (c : Chip) (a : Nat) : Chip :=
  let s := c.astate a
  let c := c.upd AX_STATUS a [(AX_STATUS.FORCED, if c.axForced a then 1 else 0)]
  if s = asUnused ∨ s = asOff ∨ s = asStopped then c
  else (c.abandonHoming a stBadState).axHalt a asStopped

/-- A move starts (R304, R307): v_cmd and the integral are zero, the move timer starts. -/
def Chip.axMove (c : Chip) (a : Nat) : Chip :=
  let c := c.modAxis a (fun x => { x with
    cfg := c.img AX_CFG a, vcmd := 0, integ := 0, duty := 0, moveAt := c.up, settleAt := none, stallAt := none, driftAt := none,
    retry := false, retryAt := none, corr := false, homePhase := 0, homeGrant := false })
  c.setAstate a asMoving

/-- A homing starts (R309): toward the stop. -/
def Chip.axHome (c : Chip) (a : Nat) (grant : Bool) : Chip :=
  let c := c.modAxis a (fun x => { x with
    cfg := c.img AX_CFG a, vcmd := 0, integ := 0, homePhase := 1, homeAt := c.up, homeGrant := grant, stallAt := none,
    retry := false, retryAt := none, corr := false })
  let c := if c.getF AX_CFG a AX_CFG.HOME_METHOD = 1 then c.upd ENC_STATUS (c.axEnc a) [(ENC_STATUS.ARMED, 1)] else c
  let c := c.upd AX_STATUS a [(AX_STATUS.HOMED, 0)]
  (c.setAstate a asHoming).axDrive a (-(c.dutyOf a (c.axRun a AX_CFG.HOME_DUTY)))

/-- An UNHOMED axis can start homing (R308). -/
def Chip.canHome (c : Chip) (a : Nat) : Bool :=
  c.getB AX_CFG a AX_CFG.HOME_ON_START && c.getF AX_CFG a AX_CFG.HOME_METHOD != 2

/-- Homing is complete (R307, R309): within a move grant the axis goes on to its target, under `AXIS_HOME` it is at it. -/
def Chip.axHomed (c : Chip) (a : Nat) (found : Int) : Chip :=
  let m := c.getF AX_CFG a AX_CFG.HOME_METHOD
  let grant := (c.axis a).homeGrant
  let c := c.upd AX_STATUS a [(AX_STATUS.HOMED, 1), (AX_STATUS.POS_DOUBTFUL, 0)]
  let c := c.upd ENC_STATUS (c.axEnc a) [(ENC_STATUS.WRAP, 0)]
  let d := u8 m ++ rsvBytes 3 ++ s32 found
  let c := c.raiseAxis (c.axPlot a) 0x0703 0 a d d
  let c := c.homeResult a stOk (s32 found ++ rsvBytes 4)
  if grant then (c.axAim a (c.axis a).sp).axMove a else (c.axHalt a asIdle).axHere a

/-! ## Encoders (R296 to R302) -/

/-- An encoder takes a fault: it is recorded and reported, and a bound axis faults with it (R311). -/
def Chip.encFault (c : Chip) (e code : Nat) : Chip :=
  let was := c.getF ENC_STATUS e ENC_STATUS.ENC_FAULT
  if was ≠ 0 ∧ was ≤ code then c
  else
    let c := c.upd ENC_STATUS e [(ENC_STATUS.ENC_FAULT, code)]
    let d := u8 code ++ rsvBytes 3 ++ u32 (c.getF ENC_STATUS e ENC_STATUS.EDGE_FAULT_CNT)
    let c := c.raiseAxis (c.encPlot e) 0x0704 2 e d (u8 code ++ rsvBytes 7)
    match c.axisOfEnc e with
    | some a => c.axisFault a (code + 3)
    | none => c

/-- An edge fault at instant `t` in 100 ns (R297): more than `EDGE_FAULT_LIMIT` within 1 s is the fault `EDGE`. -/
def Chip.edgeFault (c : Chip) (e t : Nat) : Chip :=
  let c := c.incSat ENC_STATUS e ENC_STATUS.EDGE_FAULT_CNT ENC_STATUS.SAT 0
  let l := ((c.enc e).faults.filter (fun s => decide (t < s + 10000000))) ++ [t]
  let c := c.modEnc e (fun x => { x with faults := l })
  if c.getF ENC_CFG e ENC_CFG.EDGE_FAULT_LIMIT < l.length then c.encFault e 1 else c

/-- An illegal transition or a wrap makes the position of a bound axis doubtful (R296). -/
def Chip.doubt (c : Chip) (e : Nat) (b : Nat) : Chip :=
  match c.axisOfEnc e with
  | some a => c.upd AX_STATUS a [(AX_STATUS.POS_DOUBTFUL, b)]
  | none => c

/-- `DIR` as reported (R300). -/
def Chip.dirEvent (c : Chip) (e : Nat) : Chip :=
  let d := c.getF ENC_STATUS e ENC_STATUS.DIR
  let c := c.modEnc e (fun x => { x with dirTold := some c.up, dirLast := d == 1 })
  let data := u8 d ++ rsvBytes 3 ++ s32 (c.encPos e)
  c.raiseAxis (c.encPlot e) 0x0705 0 e data data

/-- One accepted count in a direction at instant `t` (R296, R300 to R302). -/
def Chip.encCount (c : Chip) (e : Nat) (up : Bool) (t : Nat) : Chip :=
  let p := c.encPos e
  let q := p + (if up then 1 else -1)
  let wraps := decide (2 ^ 31 ≤ q) || decide (q < -2 ^ 31)
  let c := c.upd ENC_STATUS e [(ENC_STATUS.POSITION, ofSigned 32 q)]
  let x := c.enc e
  let run := if x.runDir = up then x.run + 1 else 1
  let c := c.setEnc e { x with runDir := up, run := run, prevCount := x.lastCount, lastCount := some t,
                               gate := x.gate ++ [(t, if up then 1 else -1)] }
  let dir := c.getB ENC_STATUS e ENC_STATUS.DIR
  let c := if dir ≠ up ∧ c.getF ENC_CFG e ENC_CFG.DIR_HYST ≤ run then
      let c := c.upd ENC_STATUS e [(ENC_STATUS.DIR, if up then 1 else 0)]
      let c := c.incSat ENC_STATUS e ENC_STATUS.DIR_CHANGE_CNT ENC_STATUS.SAT 2
      match (c.enc e).dirTold with
      | some s => if c.passedMs s 100 then c.dirEvent e else c
      | none => c.dirEvent e
    else c
  if wraps then
    let c := c.upd ENC_STATUS e [(ENC_STATUS.WRAP, 1)]
    let d := u8 (c.getF ENC_STATUS e ENC_STATUS.DIR) ++ rsvBytes 3
    c.raiseAxis (c.encPlot e) 0x0706 1 e d d
  else c

/-- The homing by index is over (R309): the counter has been reset by the index that was found. -/
def Chip.indexHomed (c : Chip) (e : Nat) (found : Int) : Chip :=
  match c.axisOfEnc e with
  | some a => if c.astate a = asHoming ∧ c.getF AX_CFG a AX_CFG.HOME_METHOD = 1 then c.axHomed a found else c
  | none => c

/-- The mode in which an index acts: during a search of index homing, 2 (R309). -/
def Chip.indexMode (c : Chip) (e : Nat) : Nat :=
  match c.axisOfEnc e with
  | some a => if c.astate a = asHoming ∧ c.getF AX_CFG a AX_CFG.HOME_METHOD = 1 then 2 else c.getF ENC_CFG e ENC_CFG.INDEX_MODE
  | none => c.getF ENC_CFG e ENC_CFG.INDEX_MODE

/-- An accepted rising edge on I (R299). -/
def Chip.indexHit (c : Chip) (e : Nat) : Chip :=
  let c := c.incSat ENC_STATUS e ENC_STATUS.INDEX_CNT ENC_STATUS.SAT 1
  let m := c.indexMode e
  let armed := c.getB ENC_STATUS e ENC_STATUS.ARMED
  if m = 1 ∨ (m = 2 ∧ armed) then
    let p := c.encPos e
    let c := c.upd ENC_STATUS e ([(ENC_STATUS.INDEX_POS, ofSigned 32 p), (ENC_STATUS.POSITION, c.getF ENC_CFG e ENC_CFG.INDEX_VALUE)]
      ++ (if m = 2 then [(ENC_STATUS.ARMED, 0), (ENC_STATUS.INDEX_SEEN, 1)] else []))
    (c.doubt e 0).indexHomed e p
  else c

/-- The place of a pair of levels of A (bit 0) and B (bit 1) in the quadrature cycle in which A leads B. -/
def quadPos (levels : Nat) : Nat := [0, 1, 3, 2].getD (levels % 4) 0

/-- Accepted levels replace the decoder's at instant `t`: a quadrature step counts, a change of both lines is illegal, a rising I
is an index (R296, R299). -/
def Chip.takeLevels (c : Chip) (e new t : Nat) : Chip :=
  let old := (c.enc e).levels
  let c := c.modEnc e (fun x => { x with levels := new, lastEdge := some t, ignored := 0 })
  let d := (quadPos new + 4 - quadPos old) % 4
  let c := if c.getF ENC_CFG e ENC_CFG.MODE ≠ 1 ∨ d = 0 then c
    else if d = 2 then (c.edgeFault e t).doubt e 1
    else c.encCount e ((d == 1) != c.getB ENC_CFG e ENC_CFG.DIR_INV) t
  if new.testBit 2 ∧ ¬ old.testBit 2 then c.indexHit e else c

/-- The scan domain runs and the interface is in use. -/
def Chip.encOn (c : Chip) (e : Nat) : Bool :=
  decide (lvLimited ≤ c.level) && !c.boot.pfHalt && c.getF ENC_CFG e ENC_CFG.MODE != 0

/-- The lines an interface watches for edges: in SINCOS the index alone. -/
def Chip.encLines (c : Chip) (e : Nat) : Nat := if c.getF ENC_CFG e ENC_CFG.MODE = 2 then 4 else 7

/-- `MIN_EDGE` has passed since the last accepted edge (R297). -/
def Chip.edgeFree (c : Chip) (e t : Nat) : Bool :=
  match (c.enc e).lastEdge with
  | some s => decide (s + c.getF ENC_CFG e ENC_CFG.MIN_EDGE ≤ t)
  | none => true

/-- The lines of an encoder take new levels (bits A, B, I) at instant `t` in 100 ns (R297): accepted, or rejected with an edge fault
and then ignored until `MIN_EDGE` has passed. -/
def Chip.encoderEdge (c : Chip) (e levels t : Nat) : Chip :=
  if !c.encOn e then c
  else
    let x := c.enc e
    let watched := c.encLines e
    let changed := ((x.pins ^^^ levels) &&& watched)
    let c := c.modEnc e (fun x => { x with pins := levels % 8 })
    if c.edgeFree e t then
      let keep := maskOff x.levels (watched)
      let new := keep ||| (levels % 8 &&& watched)
      if new = x.levels then c.modEnc e (fun x => { x with ignored := 0 }) else c.takeLevels e new t
    else
      let fresh := maskOff changed x.ignored
      if fresh = 0 then c else (c.modEnc e (fun x => { x with ignored := x.ignored ||| fresh })).edgeFault e t

/-- `INDEX_EDGE`: the I line rises. -/
def Chip.indexEdge (c : Chip) (e t : Nat) : Chip := c.encoderEdge e (setBit (c.enc e).pins 2) t

/-- `MIN_EDGE_EXPIRY`: a line that was ignored and still differs is accepted now (R297). -/
def Chip.minEdgeExpiry (c : Chip) (e t : Nat) : Chip :=
  let x := c.enc e
  if !c.encOn e ∨ x.ignored = 0 ∨ ¬ c.edgeFree e t then c
  else
    let watched := c.encLines e
    let new := maskOff x.levels watched ||| (x.pins &&& watched)
    if new = x.levels then c.modEnc e (fun x => { x with ignored := 0 }) else c.takeLevels e new t

/-- `ENC_DIRECTION` at the end of the 100 ms (R300). -/
def Chip.encDirection (c : Chip) (e : Nat) : Chip :=
  match (c.enc e).dirTold with
  | some s => if c.passedMs s 100 ∧ c.getB ENC_STATUS e ENC_STATUS.DIR ≠ (c.enc e).dirLast then c.dirEvent e else c
  | none => c

/-- The square root rounded to nearest. -/
def sqrtN (n : Nat) : Nat :=
  let r := (List.range 16).foldl (fun r k => let s := r + 2 ^ (15 - k); if s * s ≤ n then s else r) 0
  if r * r + r < n then r + 1 else r

/-- `SINCOS_SAMPLE` (R298): sine and cosine in mV about VDDA/2, at instant `t` in 100 ns. -/
def Chip.sincosSample (c : Chip) (e : Nat) (sin cos : Int) (t : Nat) : Chip :=
  if !c.encOn e ∨ c.getF ENC_CFG e ENC_CFG.MODE ≠ 2 then c
  else
    let s := sin - c.getS ENC_CFG e ENC_CFG.SIN_OFS
    let k := cos - c.getS ENC_CFG e ENC_CFG.COS_OFS
    let sq := (s * s + k * k).toNat
    let lo := c.getF ENC_CFG e ENC_CFG.AMP_MIN
    let hi := c.getF ENC_CFG e ENC_CFG.AMP_MAX
    let c := c.upd ENC_STATUS e [(ENC_STATUS.AMP, min 0xFFFF (sqrtN sq))]
    if sq < lo * lo ∨ hi * hi < sq then
      let run := (c.enc e).ampRun + 1
      let c := c.modEnc e (fun x => { x with ampRun := run, ampBad := true })
      if run = c.getF ENC_CFG e ENC_CFG.AMP_FAULT_SAMPLES then c.encFault e 2 else c
    else
      let n := 4 ^ (c.getF ENC_CFG e ENC_CFG.INTERP + 1)
      let a := angleOf s k n
      let last := (c.enc e).angle
      let c := c.modEnc e (fun x => { x with ampRun := 0, ampBad := false, angle := some a })
      match last with
      | none => c
      | some b =>
        let fwd := (a + n - b) % n
        let d := min fwd (n - fwd)
        if n < 4 * d then c.edgeFault e t
        else c.each d (fun c _ => c.encCount e ((decide (2 * fwd ≤ n)) != c.getB ENC_CFG e ENC_CFG.DIR_INV) t)

/-- The speed by the period method (R301) at instant `t`. -/
def Chip.periodSpeed (c : Chip) (e t : Nat) : Int :=
  let x := c.enc e
  match x.lastCount with
  | none => 0
  | some l =>
    let idle := t - l
    if c.getF ENC_CFG e ENC_CFG.SPD_ZERO * 100000 ≤ idle then 0
    else match x.prevCount with
      | none => 0
      | some p =>
        let v := roundN 10000000 (max 1 (max (l - p) idle) : Nat)
        if c.getB ENC_STATUS e ENC_STATUS.DIR then v else -v

/-- The speed by the count method at instant `t`. -/
def Chip.countSpeed (c : Chip) (e t : Nat) : Int :=
  let ms := c.getF ENC_CFG e ENC_CFG.SPD_GATE_MS
  let net := ((c.enc e).gate.filter (fun p => decide (t < p.1 + 10000 * ms))).foldl (fun s p => s + p.2) 0
  roundN (net * 1000) ms

/-- `SPEED` is brought up to date and the method chosen (R301). -/
def Chip.encSpeed (c : Chip) (e t : Nat) : Chip :=
  let meth := c.getF ENC_STATUS e ENC_STATUS.SPD_METHOD
  let v := clampI (-2147483648) 2147483647 (if meth = 1 then c.countSpeed e t else c.periodSpeed e t)
  let m := v.natAbs
  let meth := if meth = 0 ∧ c.getF ENC_CFG e ENC_CFG.SPD_HI < m then 1 else if meth = 1 ∧ m < c.getF ENC_CFG e ENC_CFG.SPD_LO then 0 else meth
  let c := c.modEnc e (fun x => { x with gate := x.gate.filter (fun p => decide (t < p.1 + 1000000)) })
  c.upd ENC_STATUS e [(ENC_STATUS.SPEED, ofSigned 32 v), (ENC_STATUS.SPD_METHOD, meth)]

/-! ## The loops (R304) -/

def Chip.encSpeedOf (c : Chip) (a : Nat) : Int := c.getS ENC_STATUS (c.axEnc a) ENC_STATUS.SPEED

/-- The speed loop of an axis in MOVING or SETTLING. -/
def Chip.speedLoop (c : Chip) (a : Nat) : Chip :=
  let x := c.axis a
  let dv := x.vcmd - 1000 * c.encSpeedOf a
  let dm := c.dutyOf a (c.axRun a AX_CFG.DUTY_MAX)
  let raw := x.vcmd * qFull (c.axRun a AX_CFG.DUTY_MAX) * 256 * 10000 + (c.axRun a AX_CFG.KP_VEL : Int) * dv * 65536 * 10000 + x.integ
  let i := if raw.natAbs < dm.natAbs ∨ dv * raw < 0 then
      clampI (-dm) dm (x.integ + (c.axRun a AX_CFG.KI_VEL : Int) * dv * 65536) else x.integ
  (c.modAxis a (fun x => { x with integ := i })).axDrive a (clampI (-dm) dm raw)

/-- Low speed at high duty is timed (R310): judged in MOVING and HOMING. -/
def Chip.watchStall (c : Chip) (a : Nat) : Chip :=
  let s := c.astate a
  let low := decide ((c.encSpeedOf a).natAbs < c.axRun a AX_CFG.STALL_SPEED)
    && decide ((c.dutyOf a (c.axRun a AX_CFG.STALL_DUTY)).natAbs ≤ (c.axis a).duty.natAbs)
  c.modAxis a (fun x => { x with
    stallAt := if (s = asMoving ∨ s = asHoming) ∧ low then (match x.stallAt with
      | some t => some t
      | none => some c.up) else none })

/-- `SPEED_LOOP_UPDATE`: every 100 µs, at instant `t` in 100 ns. -/
def Chip.speedLoopUpdate (c : Chip) (e t : Nat) : Chip :=
  if !c.encOn e then c
  else
    let c := c.encSpeed e t
    match c.axisOfEnc e with
    | none => c
    | some a =>
      let c := if c.astate a = asMoving ∨ c.astate a = asSettling then c.speedLoop a else c
      c.watchStall a

/-- v_cmd of the position loop. -/
def Chip.vcmdNext (c : Chip) (a : Nat) : Int :=
  let vm := 1000 * (c.axRun a AX_CFG.V_MAX : Int)
  let req := clampI (-vm) vm (c.axErr a * (c.axRun a AX_CFG.KP_POS : Int) * 10)
  let v := (c.axis a).vcmd
  if req * v < 0 then 0
  else if v.natAbs < req.natAbs then
    v + (if req < 0 then -1 else 1) * (min (req.natAbs - v.natAbs) (c.axRun a AX_CFG.ACC_MAX) : Nat)
  else req

/-- `POSITION_LOOP_UPDATE`: every 1 ms, with the bridge's mean current in mA. A homing by index that has searched too far fails
(R309); a homed axis outside its range faults (R311); drift is timed at rest (R305). -/
def Chip.positionLoopUpdate (c : Chip) (a ma : Nat) : Chip :=
  if !c.axEn a ∨ c.level < lvLimited ∨ c.boot.pfHalt then c
  else
    let c := (c.axShow a).upd AX_STATUS a [(AX_STATUS.I_MA, ma)]
    let s := c.astate a
    let p := c.axPos a
    let span := c.axSpan a
    let margin : Int := c.getF AX_CFG a AX_CFG.RANGE_MARGIN
    let e := (c.axErr a).natAbs
    if s = asHoming ∧ (c.axis a).homePhase = 2 ∧ span + 2 * margin ≤ (p - (c.axis a).homeFrom).natAbs then c.axisFault a 9
    else if s ≠ asHoming ∧ c.homed a ∧ (p < -margin ∨ span + margin < p) then c.axisFault a 6
    else if s = asMoving ∨ s = asSettling then
      let c := c.modAxis a (fun x => { x with vcmd := c.vcmdNext a })
      let inPos := decide (e ≤ c.axRun a AX_CFG.IN_POS_COUNTS)
      if s = asMoving ∧ inPos then (c.modAxis a (fun x => { x with settleAt := some c.up, stallAt := none })).setAstate a asSettling
      else if s = asSettling ∧ ¬ inPos then (c.modAxis a (fun x => { x with settleAt := none })).setAstate a asMoving
      else c
    else
      let lim := c.getF AX_CFG a AX_CFG.DRIFT_COUNTS
      c.modAxis a (fun x => { x with
        driftAt := if s = asIdle ∧ lim ≠ 0 ∧ lim < e then (match x.driftAt with
          | some t => some t
          | none => some c.up) else none })

/-- `AXIS_IN_POSITION` (R305). -/
def Chip.axisInPosition (c : Chip) (a : Nat) : Chip :=
  match (c.axis a).settleAt with
  | none => c
  | some t =>
    if c.astate a ≠ asSettling ∨ c.axRun a AX_CFG.IN_POS_COUNTS < (c.axErr a).natAbs
      ∨ ¬ c.passedMs t (c.axRun a AX_CFG.SETTLE_MS) then c
    else (c.axHalt a asIdle).upd AX_STATUS a [(AX_STATUS.STALL_RUN, 0), (AX_STATUS.CORR_PENDING, 0)]

/-- `DRIFT_CORRECTION` (R305): the axis asks for a move to the same target. -/
def Chip.driftCorrection (c : Chip) (a : Nat) : Chip :=
  match (c.axis a).driftAt with
  | none => c
  | some t =>
    if c.astate a ≠ asIdle ∨ ¬ c.passedS t 1 then c
    else (c.modAxis a (fun x => { x with corr := true })).upd AX_STATUS a [(AX_STATUS.CORR_PENDING, 1)]

/-- A stall other than homing's end stop (R310). -/
def Chip.axStalled (c : Chip) (a : Nat) : Chip :=
  let moving := c.astate a == asMoving
  let c := if moving then (c.incSat AX_STATUS a AX_STATUS.STALL_CNT AX_STATUS.SAT 1).inc AX_STATUS a AX_STATUS.STALL_RUN else c
  let run := c.getF AX_STATUS a AX_STATUS.STALL_RUN
  if moving ∧ run = c.axRun a AX_CFG.STALL_LIMIT then c.axisFault a 7
  else
    let c := (c.homeResult a stHwFault []).axHalt a asStalled
    let c := c.modAxis a (fun x => { x with retryAt := some c.up })
    let d := u8 run ++ rsvBytes 3 ++ s32 (c.axPos a)
    c.raiseAxis (c.axPlot a) 0x0702 1 a d d

/-- `AXIS_STALL` (R309, R310): in END_STOP homing the stop is found, in INDEX homing the search turns round. -/
def Chip.axisStall (c : Chip) (a : Nat) : Chip :=
  match (c.axis a).stallAt with
  | none => c
  | some t =>
    if !c.passedMs t (c.axRun a AX_CFG.STALL_MS) then c
    else if c.astate a = asMoving then c.axStalled a
    else if c.astate a = asHoming then
      let p := c.axPos a
      let m := c.getF AX_CFG a AX_CFG.HOME_METHOD
      if m = 0 then
        (c.upd ENC_STATUS (c.axEnc a) [(ENC_STATUS.POSITION, c.getF AX_CFG a AX_CFG.HOME_POS)]).axHomed a p
      else if (c.axis a).homePhase = 1 then
        (c.modAxis a (fun x => { x with homePhase := 2, homeFrom := p, stallAt := none })).axDrive a (c.dutyOf a (c.axRun a AX_CFG.HOME_DUTY))
      else c.axStalled a
    else c

/-- `STALL_RETRY` (R310): a retry move is asked for. -/
def Chip.stallRetry (c : Chip) (a : Nat) : Chip :=
  match (c.axis a).retryAt with
  | none => c
  | some t =>
    if c.astate a ≠ asStalled ∨ ¬ c.passedS t (c.getF AX_CFG a AX_CFG.STALL_RETRY_S) then c
    else c.modAxis a (fun x => { x with retry := true })

/-- `AXIS_MOVE_TIMEOUT`. -/
def Chip.axisMoveTimeout (c : Chip) (a : Nat) : Chip :=
  if (c.astate a = asMoving ∨ c.astate a = asSettling) ∧ c.passedS (c.axis a).moveAt (c.axRun a AX_CFG.MOVE_TIMEOUT_S) then
    c.axisFault a 8 else c

/-- `HOME_TIMEOUT`. -/
def Chip.homeTimeout (c : Chip) (a : Nat) : Chip :=
  if c.astate a = asHoming ∧ c.passedS (c.axis a).homeAt (c.axRun a AX_CFG.HOME_TIMEOUT_S) then c.axisFault a 9 else c

/-- `AXIS_NO_CURRENT`: the current has been below `OPEN_MA` for 100 ms at a duty of 0x4000 or more. -/
def Chip.axisNoCurrent (c : Chip) (a ma : Nat) : Chip :=
  if c.axMoving a ∧ (c.dutyOf a 0x4000).natAbs ≤ (c.axis a).duty.natAbs ∧ ma < c.axRun a AX_CFG.OPEN_MA then c.axisFault a 3 else c

/-- The newest sense of an axis's pair. -/
def Chip.pairSense (c : Chip) (a : Nat) : Nat := (c.axPair a).foldl (fun m ch => max m (c.chan ch).senseAt) (c.axis a).moveAt

/-- `AXIS_SENSE_STALE`: the pair's sense is older than 200 ms while the bridge drives. -/
def Chip.axisSenseStale (c : Chip) (a : Nat) : Chip :=
  if c.axMoving a ∧ c.passedMs (max (c.pairSense a) (if c.astate a = asHoming then (c.axis a).homeAt else 0)) 200 then c.axisFault a 2
  else c

/-- Array B delivers again: the fault `SENSE` clears. -/
def Chip.axSenseBack (c : Chip) : Chip :=
  if c.plausLatched then c else c.each 24 (fun c a => if c.getF AX_STATUS a AX_STATUS.FAULT = 2 then c.clearAxFault a 1 else c)

/-! ## Trips of the power die (R283, R284, R311) -/

/-- A trip of a channel: on an axis it is also the fault `CH_FAULT`. While the Keeper restarts the output opens and the fault is
recorded later. -/
def Chip.tripChannel (c : Chip) (ch code : Nat) : Chip :=
  let c := c.dieTrip ch code
  match c.axisOfChannel ch with
  | none => c
  | some a => if c.holding 0 then (if c.axMoving a then c.axHalt a asFault else c) else c.axisFault a 1

/-- `CHANNEL_SHORT_TRIP`, in any driven setting. -/
def Chip.channelShortTrip (c : Chip) (ch : Nat) : Chip := if c.notOpen ch then c.tripChannel ch 1 else c

/-- `CHANNEL_JUNCTION_TRIP`. -/
def Chip.channelJunctionTrip (c : Chip) (ch : Nat) : Chip := if c.chKind ch = ckUnused then c else c.tripChannel ch 3

/-- `CHANNEL_OVERCURRENT`: a mean current in mA above the limit for 200 ms outside boost; on an axis the limit is 1.25 ×
`I_LIMIT_MA`. -/
def Chip.channelOvercurrent (c : Chip) (ch ma : Nat) : Chip :=
  if c.noSense then c
  else match c.axisOfChannel ch with
    | some a => if c.notOpen ch ∧ 5 * c.getF AX_CFG a AX_CFG.I_LIMIT_MA < 4 * ma then (c.channelFault ch 2).axisFault a 1 else c
    | none => if (c.cstate ch = csHold ∨ c.cstate ch = csEcon) ∧ c.vtRun ch VALVE_TYPE.OC_MA < ma then c.channelFault ch 2 else c

/-- Trips that waited for the Keeper are recorded (R284). -/
def Chip.recordTrips (c : Chip) : Chip :=
  c.each 96 (fun c ch =>
    let t := (c.chan ch).trip
    if t = 0 then c
    else
      let c := (c.modChan ch (fun x => { x with trip := 0 })).channelFault ch t
      match c.axisOfChannel ch with
      | some a => if t = 4 then c else c.axisFault a 1
      | none => c)

/-! ## Commands (R319) -/

/-- The Firebreak holds an axis: a channel of it is cut (R378). -/
def Chip.axHeld (c : Chip) (a : Nat) : Bool := !c.tripped.isEmpty && (c.axPair a).any (fun ch => c.forcedLines.testBit ch)

/-- A rank 1 to 3 cause stops an axis (Table 7.2). -/
def Chip.axStopped3 (c : Chip) (a : Nat) : Bool := c.axForced a || c.stopped 1 || c.isoStop (axBase + a)

/-- The manual mode of an axis changes; `cause` 0 command, 1 timeout, 2 reset or tier. -/
def Chip.setAxManual (c : Chip) (a mode pos timeout cause : Nat) : Chip :=
  let was := c.getF AX_STATUS a AX_STATUS.MANUAL_MODE
  let c := c.upd AX_STATUS a [(AX_STATUS.MANUAL_MODE, mode), (AX_STATUS.MANUAL, if mode = 0 then 0 else 1)]
  let c := c.modAxis a (fun x => { x with pos := pos, until_ := if timeout = 0 then none else some (c.up + timeout * ticksPerSecond) })
  let d := u8 mode ++ u8 cause ++ rsvBytes 2
  if was = mode then c else c.raiseAxis (c.axPlot a) 0x0707 1 a d d

def Chip.axManualEnd (c : Chip) (a cause : Nat) : Chip :=
  if c.getF AX_STATUS a AX_STATUS.MANUAL_MODE = 0 then c else (c.setAxManual a 0 0 0 cause).requeue (axBase + a)

/-- The waiting request of a target is discarded; a homing of `AXIS_HOME` so stopped ends with `BAD_STATE` (R260, R319). -/
def Chip.discardWait (c : Chip) (i : Nat) : Chip :=
  match (c.tgt i).wait with
  | none => c
  | some r =>
    let c := c.modTgt i (fun t => { t with wait := none })
    if axBase ≤ i ∧ r.home then c.homeResult (i - axBase) stBadState [] else c

/-- `AXIS_MANUAL`. -/
def Chip.axisManual (c : Chip) (h : Hdr) (a mode pos timeout : Nat) : Chip :=
  c.command h (chSpec 0x0700 [1, 2] 8) (fun _ c => checks c [
    (decide (23 < a), stBadParam),
    (mode == 1 && c.axEn a && c.axHeld a, stSafetyLock),
    (decide (2 < mode) || h.prsv != 0, stBadParam),
    (!c.axEn a || (c.astate a == asStopped && c.axStopped3 a), stBadState),
    (mode == 1 && c.astate a == asFault, stHwFault)]
    (fun _ =>
      if mode = 0 then { chip := c.axManualEnd a 0 }
      else
        let seq := c.act.seq
        let c := c.takeSeq.setAxManual a mode pos timeout 0
        let c := c.modAxis a (fun x => { x with mseq := seq, mcls := h.cls })
        if mode = 2 then { chip := c.discardWait (axBase + a) }
        else { chip := (c.discardWait (axBase + a)).modTgt (axBase + a) (fun t => { t with
          wait := some { order := 2, cls := h.cls, seq := seq, since := c.act.frame } }) }))

/-- `AXIS_MANUAL_TIMEOUT`. -/
def Chip.axisManualTimeout (c : Chip) (a : Nat) : Chip :=
  match (c.axis a).until_ with
  | some t => if t ≤ c.up then c.axManualEnd a 1 else c
  | none => c

/-- `AXIS_HOME`: the homing is queued with a result handle. -/
def Chip.axisHome (c : Chip) (h : Hdr) (a : Nat) : Chip :=
  c.command h (chSpec 0x0701 [2] 4) (fun x c => checks c [
    (decide (23 < a), stBadParam),
    (c.axEn a && c.axHeld a, stSafetyLock),
    (h.prsv != 0, stBadParam),
    (!c.axEn a || c.axMoving a || c.astate a == asStopped || c.getF AX_CFG a AX_CFG.HOME_METHOD == 2, stBadState)]
    (fun _ => c.accept x (fun c k =>
      let seq := c.act.seq
      let c := (c.takeSeq.discardWait (axBase + a)).modAxis a (fun y => { y with handle := some k })
      c.modTgt (axBase + a) (fun t => { t with
        wait := some { order := 2, cls := h.cls, seq := seq, since := c.act.frame, home := true } }))))

/-- The counters of an axis and its encoder clear. -/
def axCounters : List (Fld × Nat) :=
  [(AX_STATUS.MOVE_CNT, 0), (AX_STATUS.STALL_CNT, 0), (AX_STATUS.FAULT_CNT, 0), (AX_STATUS.SAT, 0)]
def encCounters : List (Fld × Nat) :=
  [(ENC_STATUS.EDGE_FAULT_CNT, 0), (ENC_STATUS.INDEX_CNT, 0), (ENC_STATUS.DIR_CHANGE_CNT, 0), (ENC_STATUS.SAT, 0)]

/-- `AXIS_RESET`: `trip` says that a channel's trip is still present. -/
def Chip.axisReset (c : Chip) (h : Hdr) (a : Nat) (trip : Bool) : Chip :=
  c.command h (chSpec 0x0702 [2] 4) (fun _ c => checks c [
    (decide (23 < a), stBadParam), (h.prsv != 0, stBadParam), (!c.axEn a, stBadState)]
    (fun _ =>
      let e := c.axEnc a
      let old := c.getF AX_STATUS a AX_STATUS.FAULT
      let bad := c.getF ENC_CFG e ENC_CFG.MODE == 2 && (c.enc e).ampBad
      let c := c.abandonHoming a stBadState
      let c := c.discardWait (axBase + a)
      let c := c.eachOf (c.axPair a) (fun c ch => c.upd CH_STATUS ch [(CH_STATUS.FAULT, 0)])
      let c := c.upd ENC_STATUS e ([(ENC_STATUS.ENC_FAULT, 0), (ENC_STATUS.WRAP, 0)] ++ encCounters)
      let c := c.modEnc e (fun x => { x with faults := [], ampRun := 0 })
      let c := c.upd AX_STATUS a ([(AX_STATUS.FAULT, 0), (AX_STATUS.STALL_RUN, 0), (AX_STATUS.POS_DOUBTFUL, 0), (AX_STATUS.HOMED, 0)]
        ++ axCounters)
      let c := c.axDrive a 0
      let stop := c.astate a == asStopped
      if trip ∨ bad then
        let c := if trip then c else c.upd ENC_STATUS e [(ENC_STATUS.ENC_FAULT, 2)]
        let c := c.upd AX_STATUS a [(AX_STATUS.FAULT, if trip then 1 else 5)]
        { chip := if stop then c else c.axHalt a asFault, status := stHwFault }
      else
        let c := if stop then c else c.axHalt a asUnhomed
        let c := c.requeue (axBase + a)
        let d := u8 old ++ u8 0 ++ rsvBytes 2
        { chip := if old = 0 then c else c.raiseAxis (c.axPlot a) 0x0701 0 a d d }))

/-- `ENC_ARM_INDEX`. -/
def Chip.encArmIndex (c : Chip) (h : Hdr) (e arm : Nat) : Chip :=
  c.command h (chSpec 0x0703 [2] 4) (fun _ c => checks c [
    (decide (23 < e), stBadParam), (decide (1 < arm) || h.prsv != 0, stBadParam),
    (c.getF ENC_CFG e ENC_CFG.INDEX_MODE != 2, stBadState)]
    (fun _ => { chip := c.upd ENC_STATUS e [(ENC_STATUS.ARMED, arm)] }))

/-- `ENC_PRESET`. -/
def Chip.encPreset (c : Chip) (h : Hdr) (e pos : Nat) : Chip :=
  c.command h (chSpec 0x0704 [2] 8) (fun _ c =>
    let bound := c.axisOfEnc e
    checks c [
      (decide (23 < e), stBadParam), (h.prsv != 0, stBadParam),
      ((match bound with
        | some a => c.axMoving a
        | none => false), stBadState)]
      (fun _ =>
        let c := c.upd ENC_STATUS e [(ENC_STATUS.POSITION, pos), (ENC_STATUS.WRAP, 0)]
        match bound with
        | none => { chip := c.upd ENC_STATUS e [(ENC_STATUS.ENC_FAULT, 0)] }
        | some a =>
          let c := c.doubt e 0
          if c.astate a = asUnhomed ∨ c.astate a = asIdle then
            { chip := ((c.upd AX_STATUS a [(AX_STATUS.HOMED, 1)]).setAstate a asIdle).axHere a |>.axShow a }
          else { chip := c.axShow a }))

/-! ## Records -/

/-- A channel enters or leaves an axis (R293). -/
def Chip.pairChannel (c : Chip) (ch kind : Nat) : Chip :=
  let c := (c.upd CH_CFG ch [(CH_CFG.KIND, kind)]).recStored CH_CFG ch
  let c := c.upd CH_STATUS ch [(CH_STATUS.FAULT, 0)]
  (c.modChan ch (fun y => { y with hot := false, passes := 0 })).setCstate ch (if kind = ckAxis then csAxis else csUnused)

/-- What stands against enabling an axis with a configuration (R293). -/
def Chip.axBlocked (c : Chip) (a img : Nat) : Bool :=
  let p := AX_CFG.CH_PAIR.get img
  let e := AX_CFG.ENC.get img
  [p, p + 1].any (fun ch => c.chKind ch != ckUnused || c.getB ACT_MAP ch ACT_MAP.EN)
    || (List.range 24).any (fun k => k != a && c.axEn k && (c.axEnc k == e || (c.axPair k).contains p))
    || c.getF ENC_CFG e ENC_CFG.MODE == 0

/-- An `AX_CFG` image names an odd pair, a span that is too short, or a homing duty above the greatest (R316). -/
def axCfgBad (img : Nat) : Bool :=
  AX_CFG.CH_PAIR.get img % 2 == 1 || (AX_CFG.EN.get img == 1 && decide (AX_CFG.SPAN_COUNTS.get img < 16))
    || decide (AX_CFG.DUTY_MAX.get img < AX_CFG.HOME_DUTY.get img)

/-- The axis cannot take the image now: a field fixed while it is enabled, what it would use is in use, or it is mapped or moves (R293). -/
def Chip.axCfgHeld (c : Chip) (a img : Nat) : Bool :=
  let old := c.img AX_CFG a
  let was := AX_CFG.EN.get old
  let en := AX_CFG.EN.get img
  let fixed := [AX_CFG.CH_PAIR, AX_CFG.ENC, AX_CFG.SPAN_COUNTS, AX_CFG.HOME_METHOD].any (fun f => f.get img != f.get old)
  (was == 1 && fixed) || (was == 0 && en == 1 && c.axBlocked a img)
    || (was == 1 && en == 0 && (c.getB ACT_MAP (axBase + a) ACT_MAP.EN || c.axMoving a))

/-- `AX_CFG_WRITE` (R293, R316). -/
def Chip.axCfgWrite (c : Chip) (x : Ctx) (a ver img : Nat) : Res :=
  let was := c.getF AX_CFG a AX_CFG.EN
  let en := AX_CFG.EN.get img
  c.setRecord x.h AX_CFG a ver img { estateMay x with bad := axCfgBad img, state := if c.axCfgHeld a img then stBadState else 0 }
    (fun c _ =>
      if was = en then c
      else if en = 1 then
        let c := c.eachOf (c.axPair a) (fun c ch => c.pairChannel ch ckAxis)
        let c := c.modAxis a (fun y => { y with cfg := c.img AX_CFG a })
        (c.setAstate a (c.axRest a)).axShow a
      else
        let c := c.eachOf (c.axPair a) (fun c ch => c.pairChannel ch ckUnused)
        let c := c.discardWait (axBase + a)
        c.upd AX_STATUS a [(AX_STATUS.ASTATE, asUnused), (AX_STATUS.FAULT, 0), (AX_STATUS.HOMED, 0), (AX_STATUS.CORR_PENDING, 0)])

/-- An `ENC_CFG` image asks for SINCOS of an interface without it, or for limits that cross (R317). -/
def encCfgBad (e img : Nat) : Bool :=
  (ENC_CFG.MODE.get img == 2 && decide (8 ≤ e)) || decide (ENC_CFG.SPD_HI.get img ≤ ENC_CFG.SPD_LO.get img)
    || decide (ENC_CFG.AMP_MAX.get img ≤ ENC_CFG.AMP_MIN.get img)

/-- The mode or the direction of an interface bound to an axis would change (R317). -/
def Chip.encCfgHeld (c : Chip) (e img : Nat) : Bool :=
  (c.axisOfEnc e).isSome && (ENC_CFG.MODE.get img != c.getF ENC_CFG e ENC_CFG.MODE || ENC_CFG.DIR_INV.get img != c.getF ENC_CFG e ENC_CFG.DIR_INV)

/-- `ENC_CFG_WRITE` (R317). -/
def Chip.encCfgWrite (c : Chip) (x : Ctx) (e ver img : Nat) : Res :=
  let bound := (c.axisOfEnc e).isSome
  let moved := ENC_CFG.MODE.get img != c.getF ENC_CFG e ENC_CFG.MODE
  c.setRecord x.h ENC_CFG e ver img { estateMay x with bad := encCfgBad e img, state := if c.encCfgHeld e img then stBadState else 0 }
    (fun c _ =>
      let c := if bound then c else c.upd ENC_STATUS e [(ENC_STATUS.ENC_FAULT, 0)]
      if moved then c.modEnc e (fun y => { levels := y.pins, pins := y.pins, dirTold := y.dirTold, dirLast := y.dirLast }) else c)

end Sys2Proof.Machine
end

