-- ==== Sys2Proof/Machine/Alloc.lean ====
section
/-!
DEFINITION. The actuation allocator (R241 to R267): the ledger, combined demands and precedence, time proportioning, shedding,
grants, port status, the frame boundary, the class-0 micro-slot, and the commands and records of the allocator.
-/

namespace Sys2Proof.Machine

/-! ## The ledger (R248 to R252) -/

/-- Held tokens: the sum of the charges of the channels and axes (R251). -/
def Chip.heldTokens (c : Chip) : Nat := (List.range 120).foldl (fun s i => s + (c.tgt i).charge) 0

/-- Free tokens: what the budget leaves beside the held tokens and the reserve (R251). -/
def Chip.freeTokens (c : Chip) : Int := (c.act.b : Int) - c.heldTokens - c.act.c

/-- The cap of a PD code (Table 7.4). -/
def Chip.pdCap (c : Chip) (code : Nat) : Nat :=
  if code = 0 then c.getF BUDGET_CFG 0 BUDGET_CFG.DC_CAP_TOKENS else [0, 30, 155, 300, 410, 520, 613, 0].getD code 0

/-- The code in force: 7 until one has been accepted (R250). -/
def Chip.pdNow (c : Chip) : Nat := c.act.pdCode.getD 7

/-- Buck phases in service (R475). -/
def Chip.phases (c : Chip) : Nat := (bitsOf 4 (c.getF BUCK_STATUS 0 BUCK_STATUS.IN_SERVICE)).length

/-- `B_est` is a quarter of the cap (R250). -/
def Chip.defaultBudget (c : Chip) : Bool := !c.act.loaded || c.getF BUDGET_CFG 0 BUDGET_CFG.BUDGET_TOKENS == 0

/-- The effective budget B (R250). -/
def Chip.budget (c : Chip) : Nat :=
  let cap := c.pdCap c.pdNow
  let est := if c.defaultBudget then cap / 4 else c.getF BUDGET_CFG 0 BUDGET_CFG.BUDGET_TOKENS
  if 2 ≤ c.phases then min est cap * c.phases / 4 else 0

/-- The nominal reserve. -/
def Chip.cNom (c : Chip) : Nat := min (c.getF BUDGET_CFG 0 BUDGET_CFG.C0_RESERVE) c.act.b

/-- A target's charge is changed; tokens that it frees refill the reserve first (R251). -/
def Chip.recharge (c : Chip) (i kind charge : Nat) : Chip :=
  let freed := (c.tgt i).charge - charge
  let c := c.modTgt i (fun t => { t with charge := charge, ckind := kind })
  { c with act.c := max c.act.c (min c.cNom (c.act.c + freed)) }

def Chip.releaseCharge (c : Chip) (i : Nat) : Chip := if (c.tgt i).charge = 0 ∧ (c.tgt i).ckind = 0 then c else c.recharge i 0 0

/-- A sum of fractions. -/
def sumFrac (l : List (Nat × Nat)) : Nat × Nat := l.foldl (fun s p => (s.1 * p.2 + p.1 * s.2, s.2 * p.2)) (0, 1)

/-- The current of a channel in A at a voltage in 0.1 V, as a fraction (R252). -/
def Chip.ampsAt (c : Chip) (ch dv : Nat) : Nat × Nat := (dv * rUnit.toNat, (c.costR ch).toNat)

def Chip.pullVolts (c : Chip) (holdPull : Bool) : Nat := if holdPull then c.vHold else c.vBoostCost

/-- Both bounds of R252 hold with one more pull-in: 10.0 A of pull-in current, 1.8 A of hold current for each phase. -/
def Chip.currentsFit (c : Chip) (ch : Nat) (holdPull : Bool) : Bool :=
  let others := (List.range 96).filter (fun k => k != ch && c.chDriven k)
  let pull := sumFrac (c.ampsAt ch (c.pullVolts holdPull) ::
    (others.filter (fun k => c.cstate k == csBoost)).map (fun k => c.ampsAt k (c.pullVolts (c.chan k).holdPull)))
  let hold := sumFrac ((ch :: others).map (fun k => c.ampsAt k c.vHold))
  decide (pull.1 ≤ 10 * pull.2) && decide (10 * hold.1 ≤ 18 * c.phases * hold.2)

/-! ## Combined demands (R243) -/

def Chip.srcDemand (c : Chip) (s : Nat × Nat × Nat) : Nat := if s.1 < 1024 ∧ s.2.1 < 8 then c.portDemand s.1 s.2.1 else 0

/-- A target's combined demand from its sources' latest demands; a fan group's is always the highest. -/
def Chip.combined (c : Chip) (i : Nat) : Nat :=
  let img := c.amap i
  let ds := (mapSources img).map (fun s => (c.srcDemand s, s.2.2))
  match ds with
  | [] => 0
  | d :: rest =>
    if fgBase ≤ i then rest.foldl (fun m x => max m x.1) d.1
    else if ACT_MAP.COMBINE.get img = 1 then rest.foldl (fun m x => min m x.1) d.1
    else if ACT_MAP.COMBINE.get img = 2 then
      let w := ds.foldl (fun s x => s + x.2) 0
      (2 * ds.foldl (fun s x => s + x.1 * x.2) 0 + w) / (2 * w)
    else rest.foldl (fun m x => max m x.1) d.1

/-! ## Precedence (R244) -/

/-- The purge set started last among those in force that name an axis (R331, R333). -/
def Chip.axPurge (c : Chip) (a : Nat) : Option Purge :=
  (c.act.purges.filter (fun p => (c.getF PURGE_CFG p.set PURGE_CFG.AXES).testBit a)).foldl (fun m p =>
    match m with
    | some q => if q.order < p.order then some p else some q
    | none => some p) none

/-- A fault of an axis as the allocator sees it (Table 9.2): FAULT, STALLED before its retry, or UNHOMED with no way to home. -/
def Chip.axFaulted (c : Chip) (a : Nat) : Bool :=
  let s := c.astate a
  s == asFault || c.getF AX_STATUS a AX_STATUS.FAULT != 0 || (s == asStalled && !(c.axis a).retry) || (s == asUnhomed && !c.canHome a)

/-- The rank of Table 7.2 that decides a target, and the `CAUSE` of an override. -/
def Chip.rankOf (c : Chip) (i : Nat) : Nat × Nat :=
  if i < axBase then
    if c.forcedLines.testBit i then (1, 1) else if c.stopped 0 then (2, 2) else if c.act.forceMask.testBit i then (2, 3)
    else if c.isoStop i then (3, 4)
    else if c.getF CH_STATUS i CH_STATUS.MANUAL_MODE ≠ 0 then (4, 5)
    else if c.chFault i ≠ 0 ∨ (c.chan i).hot ∨ (c.tgt i).refused then (5, 0) else (6, 0)
  else if i < fgBase then
    let a := i - axBase
    if (c.axPair a).any (fun ch => c.forcedLines.testBit ch) then (1, 1) else if c.stopped 1 then (2, 2)
    else if (c.axPair a).any (fun ch => c.act.forceMask.testBit ch) then (2, 3)
    else if c.isoStop i then (3, 4)
    else if (c.axPurge a).isSome ∨ c.getF AX_STATUS a AX_STATUS.MANUAL_MODE ≠ 0 then (4, 5)
    else if c.axFaulted a then (5, 0) else (6, 0)
  else
    let s := c.getF FAN_GROUP_STATUS (i - fgBase) FAN_GROUP_STATUS.SOURCE
    if s = 6 then (1, 1) else if c.stopped 2 then (2, 2) else if c.isoStop i then (3, 4)
    else if s = 3 ∨ s = 2 ∨ s = 1 ∨ s = 7 then (4, 5) else if s = 4 then (5, 0) else (6, 0)

/-- Targets the boundary deals with: those in the map, and those that are driven, charged, waiting or commanded. -/
def Chip.liveTargets (c : Chip) : List Nat :=
  (List.range 136).filter (fun i => c.mapF i ACT_MAP.EN == 1 || c.getB ACT_MAP i ACT_MAP.EN || (c.tgt i).charge != 0
    || (c.tgt i).wait.isSome
    || (if i < axBase then c.chDriven i || c.chKind i == ckValve else if i < fgBase then c.axEn (i - axBase) else false))

/-! ## Counting time (R245, R259, R266) -/

def Chip.targetOpen (c : Chip) (i : Nat) : Bool := if i < axBase then c.chDriven i else if i < fgBase then c.axMoving (i - axBase) else false

/-- The time up to frame `f` is counted for a target with the demand and the state it has had. -/
def Chip.countTo (c : Chip) (i f : Nat) : Chip :=
  let t := c.tgt i
  let ms := f - t.accAt
  let op := if c.targetOpen i then ms else 0
  let srcs := c.sources i
  let sums := (List.range srcs.length).map (fun k => (k, Tab.get 0 t.srcSum k + c.srcDemand (srcs.getD k (0, 0, 0)) * ms))
  let s := (t.msOpen + op) / 1000
  let c := c.setTgt i { t with
    accAt := f, dSum := t.dSum + t.dem * ms, dN := t.dN + ms, openMs := t.openMs + op, msOpen := (t.msOpen + op) % 1000,
    tickOpen := t.tickOpen + op, tickEst := t.tickEst + (if t.rank = 4 then op else 0),
    srcSum := if i < axBase ∨ fgBase ≤ i then sums else [], srcN := t.srcN + ms }
  c.each s (fun c _ => c.incSat TARGET_STATUS i TARGET_STATUS.OPEN_S TARGET_STATUS.SAT 0)

/-! ## Time proportioning (R245) -/

def Chip.cycleMs (c : Chip) (ch : Nat) : Nat := 1000 * c.mapF ch ACT_MAP.TP_CYCLE_S
def Chip.minOnMs (c : Chip) (ch : Nat) : Nat := 1000 * c.mapF ch ACT_MAP.MIN_ON_S
def Chip.minOffMs (c : Chip) (ch : Nat) : Nat := 1000 * c.mapF ch ACT_MAP.MIN_OFF_S

/-- The offset of a channel's cycles from the allocator's start. -/
def Chip.phaseMs (c : Chip) (ch : Nat) : Nat :=
  let p := c.mapF ch ACT_MAP.TP_PHASE_S
  1000 * (if p = 0xFFFF then ch * c.mapF ch ACT_MAP.TP_CYCLE_S / 96 else p)

/-- The number of the cycle a frame lies in, and how far into it. -/
def Chip.cycleAt (c : Chip) (ch f : Nat) : Int := Int.fdiv ((f : Int) - c.phaseMs ch) (c.cycleMs ch)
def Chip.elapsed (c : Chip) (ch f : Nat) : Nat := (Int.fmod ((f : Int) - c.phaseMs ch) (c.cycleMs ch)).toNat

/-- The on time of the cycle. The carry is held in 1/65536 ms. -/
def Chip.onTime (c : Chip) (ch : Nat) : Nat :=
  let t := c.tgt ch
  let cyc := c.cycleMs ch
  let on : Int := if t.dem = 0xFFFF then cyc else divRound ((t.dem : Int) * cyc + t.carry) 65536
  let on := if on < c.minOnMs ch then 0 else on
  if (cyc : Int) - c.minOffMs ch < on then cyc else on.toNat

/-- A cycle has ended: the carry takes what the demand asked for less the time open, and a new cycle begins. -/
def Chip.endCycle (c : Chip) (ch : Nat) (idx : Int) : Chip :=
  let t := c.tgt ch
  let cyc := c.cycleMs ch
  let want : Int := if t.dN = cyc then t.dSum else if t.dN = 0 then 0 else divFree 245 ((t.dSum : Int) * cyc) t.dN
  let lim : Int := (cyc : Int) * 65536
  let carry := if t.cyc.isNone ∨ t.dSum = 0 ∨ t.rank ≤ 4 then 0 else clampI (-lim) lim (t.carry + want - (t.openMs : Int) * 65536)
  c.setTgt ch { t with carry := carry, cyc := some idx, dSum := 0, dN := 0, openMs := 0, closed := false }

/-- The cycle a frame lies in has begun. -/
def Chip.cycleTo (c : Chip) (ch f : Nat) : Chip :=
  let idx := c.cycleAt ch f
  if (c.tgt ch).cyc = some idx then c else c.endCycle ch idx

/-- `VALVE_CYCLE_END`: the cycle ends at the coming frame boundary. -/
def Chip.valveCycleEnd (c : Chip) (ch : Nat) : Chip :=
  if !c.act.running ∨ c.mapF ch ACT_MAP.EN ≠ 1 then c else (c.countTo ch (c.act.frame + 1)).cycleTo ch (c.act.frame + 1)

/-- What the cycle asks of a valve at frame `f`: open, and whether a dwell limit holds it back. -/
def Chip.valveWants (c : Chip) (ch f : Nat) : Bool × Bool :=
  let t := c.tgt ch
  let on := t.ton
  if c.chDriven ch then
    let due := decide (on ≤ t.openMs)
    let long := decide (c.minOnMs ch ≤ f - t.openAt)
    (!(due && long), due && !long)
  else
    let wants := !t.closed && decide (c.elapsed ch f + c.minOnMs ch < on)
    let free := match t.closedAt with
      | some k => decide (c.minOffMs ch ≤ f - k)
      | none => true
    (wants && free, wants && !free)

/-! ## Switching off -/

/-- A channel is switched off by the allocator. -/
def Chip.switchOff (c : Chip) (ch : Nat) : Chip := if c.chDriven ch then c.rest ch else c

/-- A manual request with `WAIT` 0 is judged: its command is answered (R291). -/
def Chip.judgeMan0 (c : Chip) (seq status : Nat) : Chip :=
  Chip.answerWaits { c with act.man0 := c.act.man0.filter (fun m => m.seq != seq) } (manualWait seq) status []

/-- The output of a target goes as a rank 1 to 3 cause, or a manual off, orders (Tables 7.2, 8.4 and 9.3); pending requests are
discarded. -/
def Chip.obey (c : Chip) (i : Nat) : Chip :=
  if i < axBase then
    if c.chKind i ≠ ckValve then c
    else
      let r := (c.rankOf i).1
      let off := r == 4 && c.getF CH_STATUS i CH_STATUS.MANUAL_MODE == 2
      if r ≤ 2 then
        let c := (if c.cstate i = csForced then c else c.rest i).discardWait i
        let c := if (c.chan i).resetting.isSome then c.resetAnswer i 0 else c
        c.eachOf (c.act.man0.filter (fun m => m.ch == i)) (fun c m => c.judgeMan0 m.seq stBadState)
      else if r = 3 ∨ off then (c.switchOff i).discardWait i
      else if c.cstate i = csForced then (c.rest i).requeue i else c
  else if i < fgBase then
    let a := i - axBase
    if !c.axEn a ∨ c.astate a = asOff then c
    else
      let r := (c.rankOf i).1
      let off := r == 4 && (c.axPurge a).isNone && c.getF AX_STATUS a AX_STATUS.MANUAL_MODE == 2
      if r ≤ 3 ∨ off then (c.axStop a).discardWait i
      else if c.act.b = 0 then c.axStop a
      else if c.astate a = asStopped ∧ ¬ (c.tgt i).shed then
        ((c.upd AX_STATUS a [(AX_STATUS.FORCED, 0)]).setAstate a (c.axRest a)).requeue i
      else c
  else if (c.rankOf i).1 ≤ 3 then c.modFgroup (i - fgBase) (fun g => { g with dem := 0 })
  else c

/-- A target holds tokens that nothing drives any longer. -/
def Chip.idleCharge (c : Chip) (i : Nat) : Bool := (c.tgt i).charge != 0 && !c.targetOpen i

/-- The Firebreak's forced-off lines act at the gate drivers at once (R377, R272). -/
def Chip.settleForced (c : Chip) : Chip :=
  let lines := c.forcedLines
  if lines = 0 then c
  else
    let c := c.each 96 (fun c ch =>
      if lines.testBit ch ∧ c.chKind ch = ckValve ∧ c.cstate ch ≠ csForced then c.rest ch else c)
    c.each 24 (fun c a => if c.axEn a ∧ (c.axPair a).any (fun ch => lines.testBit ch) then c.axStop a else c)

/-! ## Shedding (R255) -/

/-- Held targets in the order of shedding: ascending `PRIORITY`, then the highest instance number. -/
def Chip.shedOrder (c : Chip) : List Nat :=
  let held := (List.range 120).filter (fun i => (c.tgt i).charge != 0)
  sortOn (fun i => 256 * c.mapF i ACT_MAP.PRIORITY + (135 - i)) held

/-- What shedding must reach: no shortfall in free tokens, given what the reserve must keep. -/
def Chip.shortOf (c : Chip) (keep : Nat) : Bool := decide ((c.act.b : Int) < c.heldTokens + keep)

/-- Put a holding channel into economy hold, if its type allows. -/
def Chip.shedEcon (c : Chip) (i : Nat) : Chip :=
  if i < axBase ∧ c.cstate i = csHold ∧ (c.tgt i).ckind = 2 ∧ c.vtRun i VALVE_TYPE.ECON_EN = 1 then
    let n := econCost (c.tgt i).charge
    (c.setCstate i csEcon).modTgt i (fun t => { t with charge := n, ckind := 3 })
  else c

/-- Switch a channel off or stop an axis. -/
def Chip.shedOff (c : Chip) (i : Nat) : Chip :=
  let c := c.modTgt i (fun t => { t with shed := true, charge := 0, ckind := 0 })
  let c := c.incSat TARGET_STATUS i TARGET_STATUS.SHED_CNT TARGET_STATUS.SAT 2
  if i < axBase then c.switchOff i else c.axStop (i - axBase)

/-- Shed until the held tokens leave the budget room for `keep`: economy holds first, then targets off; `top` bounds the targets
taken (120: all). Answers the targets switched off. -/
def Chip.shedTo (c : Chip) (keep top : Nat) : Chip × List Nat :=
  let c := c.eachOf c.shedOrder (fun c i => if c.shortOf keep then c.shedEcon i else c)
  (c.shedOrder.filter (fun i => decide (i < top))).foldl
    (fun s i => if s.1.shortOf keep then (s.1.shedOff i, s.2 ++ [i]) else s) (c, [])

/-- The reserve is filled to its nominal value from free tokens, as far as they go. -/
def Chip.topUp (c : Chip) : Chip :=
  let room := ((c.act.b : Int) - c.heldTokens).toNat
  { c with act.c := min c.cNom room }

/-- An axis whose purge move STRICT has put off can take it at this boundary. -/
def Chip.deferredReady (c : Chip) (a : Nat) : Bool :=
  let s := c.astate a
  (c.axis a).c0Deferred && (c.axPurge a).isSome && s != asStopped && s != asFault && s != asOff && !c.axMoving a
    && (c.homed a || c.canHome a)

/-- What the purge moves that STRICT has put off cost: shedding frees as much as the reserve does not cover (R254). -/
def Chip.deferredCost (c : Chip) : Nat :=
  ((List.range 24).filter c.deferredReady).foldl (fun n a => n + c.mapF (axBase + a) ACT_MAP.RUN_TOKENS) 0

/-- Shedding at a frame boundary (Table 7.5 step 6). -/
def Chip.boundaryShed (c : Chip) : Chip :=
  let keep := max c.cNom c.deferredCost
  if !c.shortOf keep then c.topUp
  else
    let econ := c.act.tgt.map (fun p => p.2.ckind)
    let r := c.shedTo keep 120
    let c := r.1.topUp
    if r.2.isEmpty ∧ c.act.tgt.map (fun p => p.2.ckind) = econ then c
    else
      let c := { c with act.lastShed := some c.act.frame }
      let c := c.eachOf r.2 (fun c _ => c.incSat BUDGET_STATUS 0 BUDGET_STATUS.SHED_CNT BUDGET_STATUS.SAT 1)
      let top := r.2.foldl (fun m i => max m (c.mapF i ACT_MAP.PRIORITY)) 0
      c.raise 0x0501 2 0 (u16 r.2.length ++ u8 top ++ rsvBytes 1) evChannels

/-- `SHED_HOLDOFF_EXPIRY`: after the quiet time the shed targets are queued again under R254 step 1. -/
def Chip.shedHoldoffExpiry (c : Chip) : Chip :=
  match c.act.lastShed with
  | none => c
  | some f =>
    if c.act.frame < f + 1000 * c.getF BUDGET_CFG 0 BUDGET_CFG.SHED_HOLDOFF_S then c
    else Chip.each { c with act.lastShed := none } 120 (fun c i =>
      if (c.tgt i).shed then c.modTgt i (fun t => { t with shed := false, restore := true }) else c)

/-! ## Requests (R245, R246, R254) -/

/-- The setpoint an axis is to take: of the purge in force, the manual command, or the combined demand (R246, R331). -/
def Chip.axSetpoint (c : Chip) (a : Nat) : Option Nat :=
  let i := axBase + a
  match c.axPurge a with
  | some p => some (c.getF PURGE_CFG p.set PURGE_CFG.POSITION)
  | none =>
    let m := c.getF AX_STATUS a AX_STATUS.MANUAL_MODE
    if m = 1 then some (c.axis a).pos
    else if m = 2 ∨ c.mapF i ACT_MAP.EN ≠ 1 then none
    else
      let lo := c.mapF i ACT_MAP.POS_MIN
      let hi := c.mapF i ACT_MAP.POS_MAX
      some (lo + (roundN (((c.tgt i).dem : Int) * ((hi : Int) - lo)) 65535).toNat)

/-- A setpoint calls for a move from the present target position (R246): by the deadband, or at an end of the range. -/
def Chip.axCalls (c : Chip) (a sp : Nat) : Bool :=
  let i := axBase + a
  let now := (c.axis a).sp
  let d := (sp - now) + (now - sp)
  let zone := (c.axPurge a).isNone && c.getF AX_STATUS a AX_STATUS.MANUAL_MODE == 0
  decide (d ≠ 0) && (!zone || decide (c.mapF i ACT_MAP.POS_DEADBAND ≤ d) || sp == c.mapF i ACT_MAP.POS_MIN || sp == c.mapF i ACT_MAP.POS_MAX)

/-- A request joins the queue: first where a higher rank or shedding has ended, second for a manual command, third from zones. -/
def Chip.enqueue (c : Chip) (i : Nat) (manual : Bool) (cls seq : Nat) : Chip :=
  c.modTgt i (fun t => match t.wait with
    | some _ => t
    | none => { t with wait := some { order := if t.restore then 1 else if manual then 2 else 3, cls := cls, seq := seq, since := c.act.frame },
                       restore := false })

/-- A valve channel's request at a boundary (Table 7.5 step 7). -/
def Chip.queueChannel (c : Chip) (i : Nat) : Chip :=
  let t := c.tgt i
  let r := (c.rankOf i).1
  if c.chKind i ≠ ckValve then c
  else if r = 4 then
    if c.getF CH_STATUS i CH_STATUS.MANUAL_MODE = 1 ∧ c.cstate i = csOff ∧ (c.chan i).trip = 0 ∧ ¬ t.shed then
      c.enqueue i true (c.chan i).mcls (c.chan i).mseq
    else c
  else if r = 6 ∧ c.mapF i ACT_MAP.EN = 1 then
    let w := c.valveWants i c.act.frame
    let c := c.modTgt i (fun t => { t with dwell := w.2 })
    if c.cstate i = csOff ∧ w.1 ∧ ¬ t.shed ∧ (c.chan i).resetting.isNone ∧ (c.chan i).trip = 0 then c.enqueue i false 0 0
    else c.modTgt i (fun t => { t with wait := none, restore := t.restore && t.shed })
  else if r ≤ 3 ∨ r = 5 then (if (t.wait.map Req.order) = some 2 then c else c.modTgt i (fun t => { t with wait := none }))
  else c.modTgt i (fun t => { t with wait := none })

/-- An axis's request at a boundary; a target in motion is replaced at once (R308). -/
def Chip.queueAxis (c : Chip) (i : Nat) : Chip :=
  let a := i - axBase
  let r := (c.rankOf i).1
  let s := c.astate a
  let x := c.axis a
  let manual := r == 4
  if !c.axEn a ∨ r ≤ 3 ∨ s = asStopped ∨ s = asFault ∨ s = asOff ∨ ((c.tgt i).wait.map Req.home) = some true then c
  else match c.axSetpoint a with
    | none => if s = asMoving ∨ s = asSettling ∨ s = asHoming then c else
        c.modTgt i (fun t => { t with wait := none, restore := false })
    | some sp =>
      let calls := c.axCalls a sp
      if s = asMoving ∨ s = asSettling then
        if calls then ((c.axAim a sp).modAxis a (fun x => { x with moveAt := c.up, settleAt := none })).setAstate a asMoving else c
      else if s = asHoming then c.modAxis a (fun x => { x with sp := sp })
      else if s = asUnhomed then
        if c.canHome a then c.enqueue i manual x.mcls x.mseq else c
      else if s = asStalled then
        if x.retry ∨ manual then (if x.retry then c.requeue i else c).enqueue i manual x.mcls x.mseq else c
      else if calls then c.enqueue i manual x.mcls x.mseq
      else if x.corr then c.enqueue i false 0 0
      else if (c.tgt i).wait.isSome then c.modTgt i (fun t => { t with wait := none }) else c.modTgt i (fun t => { t with restore := false })

/-! ## Grants (R254) -/

/-- Where a request stands: compared entry by entry. -/
def Chip.place (c : Chip) (i : Nat) (r : Req) : List Nat :=
  if r.order = 2 then [2, r.cls, r.seq] else [r.order, 255 - c.mapF i ACT_MAP.PRIORITY, r.since, i]

/-- The waiting requests in the order in which they are served: a target, or a manual request with `WAIT` 0. -/
def Chip.queue (c : Chip) : List (List Nat × Option Man0 × Nat) :=
  let ts := (List.range 120).filterMap (fun i => (c.tgt i).wait.map (fun r => (c.place i r, (none : Option Man0), i)))
  let ms := c.act.man0.map (fun m => ([2, if m.carried then 0 else m.cls, m.seq], some m, m.ch))
  let ins := fun (acc : List (List Nat × Option Man0 × Nat)) (x : List Nat × Option Man0 × Nat) =>
    let before := acc.takeWhile (fun y => !lexLt x.1 y.1)
    before ++ x :: acc.drop before.length
  (ts ++ ms).foldl ins []

/-- A grant is counted. -/
def Chip.countGrant (c : Chip) (i : Nat) : Chip :=
  (c.incSat BUDGET_STATUS 0 BUDGET_STATUS.GRANT_CNT BUDGET_STATUS.SAT 0).incSat TARGET_STATUS i TARGET_STATUS.PULL_CNT TARGET_STATUS.SAT 1

/-- A pull-in is granted: the tokens the channel holds are released in the same step (R273). -/
def Chip.grantPull (c : Chip) (ch cost : Nat) (holdPull : Bool) : Chip :=
  let c := c.modTgt ch (fun t => { t with charge := cost, ckind := 1, wait := none, restore := false })
  let c := c.upd TARGET_STATUS ch [(TARGET_STATUS.PULL_TOKENS, cost)]
  (c.countGrant ch).startBoost ch holdPull

/-- A move, or the homing before it, starts: the axis holds `RUN_TOKENS` (R246, R307). -/
def Chip.startMove (c : Chip) (a : Nat) (home : Bool) : Chip :=
  let i := axBase + a
  let c := c.modTgt i (fun t => { t with charge := c.mapF i ACT_MAP.RUN_TOKENS, ckind := 4, wait := none, restore := false })
  let c := (c.countGrant i).incSat AX_STATUS a AX_STATUS.MOVE_CNT AX_STATUS.SAT 0
  let sp := (c.axSetpoint a).getD (c.axis a).sp
  if home then c.axHome a false
  else if !c.homed a then (c.modAxis a (fun x => { x with sp := sp })).axHome a true
  else (c.axAim a sp).axMove a

/-- What becomes of a request: granted, waiting while others are served, refused, or stopping the frame's grants. -/
inductive Verdict where
  | grant (c : Chip)
  | pass (c : Chip)
  | stop (c : Chip)

/-- A pull-in is judged (R252, R281, R282, R291). -/
def Chip.judgePull (c : Chip) (ch : Nat) (m : Option Man0) : Verdict :=
  let seq := (m.map Man0.seq).getD 0
  let say := fun (c : Chip) (st : Nat) => if m.isSome then c.judgeMan0 seq st else c
  let holdOk := c.vt ch VALVE_TYPE.HOLD_PULL_EN == 1
  let holdPull := c.act.bnr && holdOk
  let manual := m.isSome || (c.rankOf ch).1 == 4
  if c.chFault ch ≠ 0 then .pass (say c stHwFault)
  else if c.chKind ch ≠ ckValve ∨ c.forced ch ∨ c.isoStop ch ∨ (c.chan ch).trip ≠ 0 ∨ (c.chan ch).resetting.isSome then .pass (say c stBadState)
  else if (c.chan ch).hot then .pass (say c stBadState)
  else if c.act.bnr ∧ ¬ holdOk then
    .pass (if m.isSome then say c stBadState else if manual then c
      else c.modTgt ch (fun t => { t with refused := true, wait := none }))
  else if c.coilRefuses ch (if holdPull then c.vHold else c.getF SUPPLY_STATUS 0 SUPPLY_STATUS.VBOOST) then
    .pass (if m.isSome then say c stBadState else if c.chDriven ch then c else c.goHot ch)
  else
    let cost := c.pullCost ch holdPull
    let fits := decide ((cost : Int) ≤ c.freeTokens + (c.tgt ch).charge) && c.currentsFit ch holdPull
      && (c.act.lowSince.isNone || holdPull)
    if !fits then .stop (say c stBudget)
    else
      let c := match m with
        | some m => c.setManual ch 1 m.timeout 0
        | none => c
      .grant (say (c.grantPull ch cost holdPull) stOk)

/-- A move is judged. -/
def Chip.judgeMove (c : Chip) (i : Nat) : Verdict :=
  let a := i - axBase
  let s := c.astate a
  let home := ((c.tgt i).wait.map Req.home).getD false
  if s = asStopped ∨ s = asFault ∨ s = asOff ∨ s = asUnused ∨ c.axMoving a ∨ (¬ home ∧ ¬ c.homed a ∧ ¬ c.canHome a) then .pass c
  else if (c.mapF i ACT_MAP.RUN_TOKENS : Int) ≤ c.freeTokens then .grant (c.startMove a home)
  else .stop c

/-- Requests are granted in their order (R254): the first that does not fit stops granting for the frame. -/
def grantAll : Nat → Chip → List (List Nat × Option Man0 × Nat) → Chip
  | _, c, [] => c
  | 0, c, (_, m, _) :: rest =>
    let c := match m with
      | some m => { c with act.man0 := c.act.man0.map (fun y => if y.seq = m.seq then { y with carried := true } else y) }
      | none => c
    grantAll 0 c rest
  | n + 1, c, (_, m, i) :: rest =>
    match if i < axBase then c.judgePull i m else c.judgeMove i with
    | .grant c => grantAll n c rest
    | .pass c => grantAll (n + 1) c rest
    | .stop c => c.eachOf (rest.filterMap (fun x => x.2.1)) (fun c m => c.judgeMan0 m.seq stBudget)

/-! ## Class-0 moves of a purge (R254, R331) -/

/-- An axis takes its purge position: paid from the reserve first, then from free tokens. Answers whether it had to wait. -/
def Chip.class0Move (c : Chip) (a : Nat) : Chip :=
  let i := axBase + a
  let s := c.astate a
  let done := fun (c : Chip) => c.modAxis a (fun x => { x with c0 := false, c0Deferred := false, corr := false })
  match c.axPurge a with
  | none => done c
  | some p =>
    let sp := c.getF PURGE_CFG p.set PURGE_CFG.POSITION
    let c := c.upd AX_STATUS a [(AX_STATUS.CORR_PENDING, 0)]
    if (c.rankOf i).1 ≤ 3 ∨ s = asStopped ∨ s = asFault ∨ s = asOff ∨ ¬ c.axEn a ∨ (s = asUnhomed ∧ ¬ c.canHome a) then done c
    else if s = asMoving ∨ s = asSettling then
      done (((c.axAim a sp).modAxis a (fun x => { x with moveAt := c.up, settleAt := none })).setAstate a asMoving)
    else if s = asHoming then done (c.modAxis a (fun x => { x with sp := sp }))
    else if s = asIdle ∧ (c.axis a).sp = sp then done c
    else
      let cost := c.mapF i ACT_MAP.RUN_TOKENS
      let short := ((cost : Int) - (c.act.c + c.freeTokens)).toNat
      let pay := fun (c : Chip) => (done { c with act.c := c.act.c - min cost c.act.c }).startMove a false
      if short = 0 then pay c
      else if c.act.borrow then
        let r := (pay c).shedTo 0 axBase
        let c := { r.1 with act.lastShed := some c.act.frame }
        let c := c.eachOf r.2 (fun c _ => c.incSat BUDGET_STATUS 0 BUDGET_STATUS.SHED_CNT BUDGET_STATUS.SAT 1)
        let c := c.incSat BUDGET_STATUS 0 BUDGET_STATUS.BORROW_CNT BUDGET_STATUS.SAT 2
        c.raise 0x0504 1 0 (u16 short ++ u8 r.2.length ++ rsvBytes 1) evChannels
      else
        let c := c.modAxis a (fun x => { x with c0 := false, c0Deferred := true })
        c.incSat BUDGET_STATUS 0 BUDGET_STATUS.DEFER_CNT BUDGET_STATUS.SAT 3

/-- `CLASS0_MICROSLOT`: the outputs obey the masks, isolations and manual offs admitted since the last micro-slot, their tokens are
released at once, and purges move their axes (R249, R254, R260, R291). -/
def Chip.class0Microslot (c : Chip) : Chip :=
  if !c.act.running then c
  else
    let c := c.eachOf c.liveTargets (fun c i => if (c.rankOf i).1 ≤ 4 then c.obey i else c)
    let c := c.eachOf ((List.range 120).filter (fun i => c.idleCharge i && decide ((c.rankOf i).1 ≤ 4))) Chip.releaseCharge
    c.each 24 (fun c a => if (c.axis a).c0 then c.class0Move a else c)

/-! ## Feedback (R257, R258, R266) -/

/-- The severity of a target's execution (Table 7.6), from the target's side. -/
def Chip.execCode (c : Chip) (i : Nat) : Nat :=
  let r := (c.rankOf i).1
  let t := c.tgt i
  if r ≤ 4 then 6
  else if r = 5 then 5
  else if t.shed then 3
  else match t.wait with
    | some w => if c.getF BUDGET_CFG 0 BUDGET_CFG.LIMIT_REPORT_MS ≤ c.act.frame - w.since then 3 else 2
    | none => if t.dwell then 2 else 1

/-- The code a source port reads of a target. -/
def Chip.portCode (c : Chip) (i : Nat) (z : Nat) : Nat :=
  let code := c.execCode i
  if c.isolated z then (if (c.rankOf i).1 = 3 then 4 else max 4 code) else code

/-- What a target delivers, as q16 (R258, R303). -/
def Chip.delivered (c : Chip) (i : Nat) : Nat :=
  if i < axBase then
    let cyc := c.cycleMs i
    if (c.tgt i).ton = cyc then 0xFFFF else (clampI 0 0xFFFF (divFree 258 ((c.tgt i).ton * 65536 : Nat) cyc)).toNat
  else if i < fgBase then
    let q : Int := c.getF AX_STATUS (i - axBase) AX_STATUS.POS_Q16
    let lo : Int := c.mapF i ACT_MAP.POS_MIN
    let hi : Int := c.mapF i ACT_MAP.POS_MAX
    if lo = hi then (if lo ≤ q then 0xFFFF else 0) else (clampI 0 0xFFFF (roundN ((q - lo) * 65535) (hi - lo))).toNat
  else (c.tgt i).dem

/-- The ports that feed enabled targets, each with the worst code and the least demand delivered. -/
def Chip.portReports (c : Chip) (targets : List Nat) : List ((Nat × Nat) × (Nat × Nat)) :=
  targets.foldl (fun acc i =>
    let dl := c.delivered i
    (c.sources i).foldl (fun acc s =>
      if 1024 ≤ s.1 ∨ 8 ≤ s.2.1 then acc
      else
        let code := c.portCode i s.1
        let old := acc.find? (fun p => p.1 == (s.1, s.2.1))
        let rest := acc.filter (fun p => p.1 != (s.1, s.2.1))
        rest ++ [((s.1, s.2.1), match old with
          | some o => (max o.2.1 code, min o.2.2 dl)
          | none => (code, dl))]) acc) []

/-- A zone takes the reports of its ports at a boundary. -/
def Chip.takeReports (c : Chip) (z : Nat) (rs : List ((Nat × Nat) × (Nat × Nat))) : Chip :=
  let own := fun p => c.portDemand z p
  c.modZrt z (fun x =>
    rs.foldl (fun x r =>
      let p := r.1.2
      { x with
        worst := Tab.set 0 x.worst p (max (Tab.get 0 x.worst p) r.2.1)
        appSum := Tab.set 0 x.appSum p (Tab.get 0 x.appSum p + min (own p) r.2.2)
        badNow := if r.2.1 = 5 ∨ r.2.1 = 6 then setBit x.badNow p else x.badNow
        limNow := if r.2.1 = 3 then setBit x.limNow p else x.limNow }) { x with appN := x.appN + 1 })

/-- `TSTATE` and `CAUSE` of a target (Table 7.12). -/
def Chip.tstateOf (c : Chip) (i : Nat) : Nat × Nat :=
  let r := c.rankOf i
  let s := if i < axBase then 0 else c.astate (i - axBase)
  let st :=
    if r.1 ≤ 4 then 9
    else if c.mapF i ACT_MAP.EN ≠ 1 then 0
    else if (c.tgt i).shed then 8
    else if r.1 = 5 then 10
    else if i < axBase then
      if c.chDriven i then c.cstate i else if (c.tgt i).wait.isSome then 1 else 0
    else if i < fgBase then
      if s = asStopped then 11 else if c.axMoving (i - axBase) then 5 else if (c.tgt i).wait.isSome then 1
      else if s = asIdle then 6 else 0
    else 7
  (st, r.2)

/-- The mean of R105 takes a sample. -/
def Chip.sampleMean (c : Chip) (key : Nat) (v : Int) : Chip :=
  { c with act.acc := Tab.set {} c.act.acc key ((Tab.get {} c.act.acc key).add v) }

/-- The key of a mean shown to non-owners: a record instance and the byte at which the field stands. -/
def meanKey (r : RecDesc) (inst byte : Nat) : Nat := recKey r inst * 256 + byte

/-- The target's status is shown. -/
def Chip.showTarget (c : Chip) (i : Nat) : Chip :=
  let t := c.tgt i
  let s := c.tstateOf i
  let duty := if i < axBase then c.delivered i else if i < fgBase then (c.axis (i - axBase)).sp else t.dem
  let wait := match t.wait with
    | some w => min 0xFFFF (c.act.frame - w.since)
    | none => 0
  let c := c.upd TARGET_STATUS i [(TARGET_STATUS.TSTATE, s.1), (TARGET_STATUS.CAUSE, s.2), (TARGET_STATUS.TOKENS, t.charge),
    (TARGET_STATUS.DEMAND, t.dem), (TARGET_STATUS.DUTY, duty), (TARGET_STATUS.WAIT_MS, wait)]
  (c.sampleMean (meanKey TARGET_STATUS i 4) t.dem).sampleMean (meanKey TARGET_STATUS i 6) duty

/-- The ledger is shown (R265). -/
def Chip.showBudget (c : Chip) (targets : List Nat) : Chip :=
  let lim := (targets.filter (fun i => c.mapF i ACT_MAP.EN == 1 && c.execCode i == 3)).length
  let was := c.getF BUDGET_STATUS 0 BUDGET_STATUS.LIMITED_NOW
  let waiting := ((List.range 120).filter (fun i => (c.tgt i).wait.isSome)).length + c.act.man0.length
  let strict := decide (c.level = lvLimited) && !c.act.loaded
  let c := c.upd BUDGET_STATUS 0 [
    (BUDGET_STATUS.BUDGET_EFF, c.act.b), (BUDGET_STATUS.CAP_PD, c.pdCap c.pdNow), (BUDGET_STATUS.PD_CLS, c.pdNow),
    (BUDGET_STATUS.PHASES, c.phases), (BUDGET_STATUS.STOP, c.act.stopMask),
    (BUDGET_STATUS.DEFAULT_BUDGET, if c.defaultBudget then 1 else 0), (BUDGET_STATUS.STRICT_FORCED, if strict then 1 else 0),
    (BUDGET_STATUS.FREE, c.freeTokens.toNat), (BUDGET_STATUS.HELD, c.heldTokens), (BUDGET_STATUS.RESERVE, c.act.c),
    (BUDGET_STATUS.WAITING, waiting), (BUDGET_STATUS.LIMITED_NOW, lim),
    (BUDGET_STATUS.PEAK_HELD, max c.heldTokens (c.getF BUDGET_STATUS 0 BUDGET_STATUS.PEAK_HELD))]
  if (was = 0) ≠ (lim = 0) then c.raise 0x0502 1 0 (u16 lim) evChannels else c

/-! ## The frame boundary (R253) -/

/-- Step 1: `ACT_MAP` changes. A target that leaves the map is switched off or stopped (R242). -/
def Chip.takeMaps (c : Chip) : Chip :=
  c.each 136 (fun c i =>
    let new := c.img ACT_MAP i
    if new = c.amap i then c
    else
      let was := c.mapF i ACT_MAP.EN == 1
      let c := { c with act.maps := Tab.set (ACT_MAP.resetImg i) c.act.maps i new }
      if was ∧ c.mapF i ACT_MAP.EN ≠ 1 then
        let c := c.modTgt i (fun t => { t with wait := none, shed := false, refused := false, restore := false, dem := 0, ton := 0, cyc := none, carry := 0 })
        if i < axBase then (if c.getF CH_STATUS i CH_STATUS.MANUAL_MODE = 1 then c else c.switchOff i)
        else if i < fgBase then
          (if c.axMoving (i - axBase) ∧ c.getF AX_STATUS (i - axBase) AX_STATUS.MANUAL_MODE ≠ 1 ∧ (c.axPurge (i - axBase)).isNone then
            (c.abandonHoming (i - axBase) stBadState).axHalt (i - axBase) (c.axRest (i - axBase)) else c)
        else c
      else c)

/-- Step 1: B, c_nom and the mode; releases of masks and isolations take effect. One `BUDGET_CHANGED` names every cause (R255). -/
def Chip.takeBudget (c : Chip) : Chip :=
  let old := c.act.b
  let new := c.budget
  let cause := maskOf ((if c.act.estWrite then [0] else []) ++
    (if c.pdNow ≠ c.getF BUDGET_STATUS 0 BUDGET_STATUS.PD_CLS then [1] else []) ++
    (if c.phases ≠ c.getF BUDGET_STATUS 0 BUDGET_STATUS.PHASES then [2] else []) ++ (if c.act.tierWrite then [3] else []))
  let strict := decide (c.level = lvLimited) && !c.act.loaded
  let c := { c with act.b := new, act.estWrite := false, act.tierWrite := false,
                    act.borrow := c.getB ALLOC_MODE 0 ALLOC_MODE.MODE && !strict }
  let c := { c with act.c := min c.act.c c.cNom }
  if old = new then c else c.raise 0x0500 1 0 (u16 old ++ u16 new ++ u8 cause ++ rsvBytes 1) evChannels

def Chip.takeReleases (c : Chip) : Chip :=
  let res := c.act.resume
  let rel := c.act.release
  let zs := c.act.zoneRelease
  let c := { c with act.stopMask := maskOff c.act.stopMask res, act.forceMask := maskOff c.act.forceMask rel,
                    act.resume := 0, act.release := 0, act.zoneRelease := [] }
  let c := if res = 0 then c else
      let c := c.each 120 (fun c i => if (i < axBase ∧ res.testBit 0) ∨ (axBase ≤ i ∧ res.testBit 1) then c.requeue i else c)
      c.raise 0x0503 2 0 (u8 c.act.stopMask ++ rsvBytes 1) evChannels
  let c := if rel = 0 then c else c.showForce
  c.eachOf zs (fun c z => c.setIsolated z false)

/-- Steps 2 and 3: a target's demand, rank and what the rank orders. -/
def Chip.takeDemand (c : Chip) (i : Nat) : Chip :=
  let dem := if c.mapF i ACT_MAP.EN = 1 then c.combined i else 0
  let c := c.modTgt i (fun t => { t with dem := dem })
  if fgBase ≤ i then c.modFgroup (i - fgBase) (fun g => { g with dem := dem }) else c

def Chip.applyRank (c : Chip) (i : Nat) : Chip :=
  let c := c.obey i
  let r := (c.rankOf i).1
  let high := decide (r ≤ 4)
  let was := (c.tgt i).hadRank
  c.modTgt i (fun t => { t with rank := r, hadRank := high, carry := if high then 0 else t.carry, restore := t.restore || (was && !high) })

/-- Steps 2 and 4 for a valve: the cycle, its on time, and closing (R245); a HOT that was found takes effect (R272). -/
def Chip.runValve (c : Chip) (i : Nat) : Chip :=
  if c.chKind i ≠ ckValve then c
  else
    let f := c.act.frame
    let c := if (c.chan i).hotReq ∧ (c.cstate i = csHold ∨ c.cstate i = csEcon) then c.goHot i else c
    if c.mapF i ACT_MAP.EN ≠ 1 then (if (c.tgt i).rank = 6 then c.switchOff i else c)
    else
      let c := c.cycleTo i f
      let c := c.modTgt i (fun t => { t with ton := c.onTime i })
      if (c.tgt i).rank = 6 ∧ c.chDriven i ∧ ¬ (c.valveWants i f).1 then
        (c.switchOff i).modTgt i (fun t => { t with closed := true })
      else c

/-- Step 4: boosts that have ended are charged as holds, and what is over is released. -/
def Chip.convert (c : Chip) (i : Nat) : Chip :=
  if c.idleCharge i then c.releaseCharge i
  else if i < axBase ∧ c.cstate i = csHold ∧ (c.tgt i).ckind = 1 then
    let h := c.holdCost i
    (c.recharge i 2 h).upd TARGET_STATUS i [(TARGET_STATUS.HOLD_TOKENS, h)]
  else c

/-- Step 5: an economy hold asked for by the coil model starts (R281). -/
def Chip.startEcon (c : Chip) (i : Nat) : Chip :=
  if i < axBase ∧ c.cstate i = csHold ∧ c.getB CH_STATUS i CH_STATUS.ECON_REQ ∧ (c.tgt i).ckind = 2 then
    ((c.recharge i 3 (econCost (c.tgt i).charge)).setCstate i csEcon).upd CH_STATUS i [(CH_STATUS.ECON_REQ, 0)]
  else c

/-- Purge moves that STRICT has put off: granted first, paid from the reserve and then from free tokens (R254). -/
def Chip.deferredMoves (c : Chip) : Chip :=
  c.each 24 (fun c a =>
    if !(c.axis a).c0Deferred then c
    else
      let cost := c.mapF (axBase + a) ACT_MAP.RUN_TOKENS
      let go := c.deferredReady a && decide ((cost : Int) ≤ c.freeTokens + c.act.c)
      let c := c.modAxis a (fun x => { x with c0Deferred := false })
      if !go then c else Chip.startMove { c with act.c := c.act.c - min cost c.act.c } a false)

/-- `ALLOC_FRAME_BOUNDARY`: the nine steps of Table 7.5, and array B's regular trigger (R346). -/
def Chip.allocFrameBoundary (c : Chip) : Chip :=
  if !c.act.running ∨ c.boot.pfHalt then c
  else
    let f := c.act.frame + 1
    let live := c.liveTargets
    let c := c.eachOf live (fun c i => c.countTo i f)
    let c := { c with act.frame := f }
    let c := c.takeBudget.takeMaps.takeReleases
    let live := c.liveTargets
    let c := c.eachOf live Chip.takeDemand
    let c := c.eachOf live Chip.applyRank
    let c := c.eachOf (live.filter (fun i => decide (i < axBase))) Chip.runValve
    let c := c.eachOf live Chip.convert
    let c := c.eachOf live Chip.startEcon
    let c := c.boundaryShed
    let c := c.eachOf live (fun c i => if i < axBase then c.queueChannel i else if i < fgBase then c.queueAxis i else c)
    let c := c.boostNotReady
    let c := c.deferredMoves
    let c := grantAll (c.getF BUDGET_CFG 0 BUDGET_CFG.PULL_PER_FRAME) c c.queue
    let on := live.filter (fun i => c.mapF i ACT_MAP.EN == 1)
    let rs := c.portReports on
    let zs := (rs.map (fun r => r.1.1)).eraseDups
    let c := c.eachOf zs (fun c z => c.takeReports z (rs.filter (fun r => r.1.1 == z)))
    let c := c.eachOf live Chip.showTarget
    (c.showBudget on).triggerB

/-! ## PD class (R250) -/

/-- `PD_CLASS_SAMPLE`: a code is accepted after two equal samples. -/
def Chip.pdClassSample (c : Chip) (code : Nat) : Chip :=
  if !c.act.running then c
  else
    let same := c.act.pdLast == some code
    let c := { c with act.pdLast := some code }
    if !same ∨ c.act.pdCode = some code then c
    else
      let old := c.act.pdCode.getD 0xFF
      Chip.raise { c with act.pdCode := some code } 0x0505 2 0 (u8 old ++ u8 code ++ u16 (c.pdCap code)) evChannels

/-! ## Start and stop (R261) -/

/-- The allocator starts, as after its reset: the ledger is empty, carries are zero, isolations end, and every enabled target is
queued under R254 step 3 as it comes to want something. -/
def Chip.allocStart (c : Chip) : Chip :=
  let a := c.act
  let keep := fun (t : Tgt) => { ({} : Tgt) with tickOpen := t.tickOpen, tickEst := t.tickEst, srcSum := t.srcSum, srcN := t.srcN }
  let c := { c with act := { a with
    running := true, frame := 0, b := 0, c := 0, borrow := false, estWrite := false, tierWrite := true, pdLast := none, pdCode := none,
    resume := 0, release := 0, zoneRelease := [], lastShed := none, bnr := false, lowSince := none, okSince := none, man0 := [],
    tgt := a.tgt.map (fun (p : Nat × Tgt) => (p.1, keep p.2)), purges := [] } }
  let c := { c with act.stopMask := maskOff a.stopMask a.resume, act.forceMask := maskOff a.forceMask a.release }
  let c := (c.clearRec BUDGET_STATUS 0).upd BUDGET_STATUS 0 [(BUDGET_STATUS.PD_CLS, 7), (BUDGET_STATUS.STOP, c.act.stopMask)]
  let c := c.each 136 (fun c i => c.clearRec TARGET_STATUS i)
  let c := c.each 96 (fun c ch => (c.rest ch).upd CH_STATUS ch [(CH_STATUS.BNR, 0)])
  let c := c.each 24 (fun c a => if c.axEn a ∧ c.astate a = asOff then c.setAstate a (c.axRest a) else c)
  let c := c.each 1024 (fun c z => c.upd ZONE_STATUS z [(ZONE_STATUS.ISOLATED, 0)])
  c.coilStart

/-- Every manual mode of a channel or axis ends (R291, R319), and what waits for the allocator is answered. -/
def Chip.endManuals (c : Chip) (status : Nat) : Chip :=
  let c := c.eachOf c.act.man0 (fun c m => c.judgeMan0 m.seq status)
  let c := c.each 96 (fun c ch =>
    let c := c.manualEnd ch 2
    if (c.chan ch).resetting.isSome then
      (c.modChan ch (fun x => { x with resetting := none })).answerWaits (chResetWait ch) status []
    else c)
  c.each 24 (fun c a => c.axManualEnd a 2)

/-- Below the Limited tier, on chip reset and at power-fail every channel is OPEN and every axis COASTs (Tables 8.8 and 9.8):
watches are abandoned, homings end, positions are lost. -/
def Chip.allOff (c : Chip) : Chip :=
  let c := { c with act.running := false }
  let c := c.each 96 (fun c ch => c.rest ch)
  let c := c.each 24 (fun c a =>
    if c.astate a = asUnused then c
    else
      let c := (c.discardWait (axBase + a)).homeResult a stBadState []
      ((c.upd AX_STATUS a [(AX_STATUS.HOMED, 0)]).axHalt a asOff))
  Chip.each { c with act.c := 0, act.b := 0 } 136 (fun c i => c.modTgt i (fun t => { t with charge := 0, ckind := 0, wait := none }))

/-! ## Commands (R260, R162) -/

/-- `PLANT_STOP`. -/
def Chip.plantStop (c : Chip) (h : Hdr) (mask : Nat) : Chip :=
  c.command h (chSpec 0x0510 [0, 1] 4) (fun _ c => checks c [
    (mask == 0 || decide (8 ≤ mask) || h.prsv != 0, stBadParam)]
    (fun _ =>
      let new := c.act.stopMask ||| mask
      let again := new == c.act.stopMask && c.act.resume &&& mask == 0
      let c := { c with act.stopMask := new, act.resume := maskOff c.act.resume mask }
      { chip := if again then c else c.raise 0x0503 2 0 (u8 new ++ rsvBytes 1) evChannels }))

/-- `PLANT_RESUME`: at the next frame boundary. -/
def Chip.plantResume (c : Chip) (h : Hdr) (mask : Nat) : Chip :=
  c.command h (chSpec 0x0511 [1, 2] 4) (fun _ c => checks c [
    (mask == 0 || decide (8 ≤ mask) || h.prsv != 0, stBadParam)]
    (fun _ => { chip := { c with act.resume := c.act.resume ||| mask } }))

/-- `ZONE_ISOLATE` (R162): the outputs follow in the next micro-slot. -/
def Chip.zoneIsolate (c : Chip) (h : Hdr) (z : Nat) : Chip :=
  c.command h (zoneCmdSpec 0x0210 [0, 1] (Who.estateOr scChannels)) (fun _ c => checks c [
    (decide (1023 < z), stBadParam), (h.prsv != 0, stBadParam)]
    (fun _ =>
      let c := { c with act.zoneRelease := c.act.zoneRelease.filter (· != z) }
      { chip := if c.isolated z then c else c.setIsolated z true }))

/-- `ZONE_RELEASE` (R162): at the next allocator frame. -/
def Chip.zoneRelease (c : Chip) (h : Hdr) (z : Nat) : Chip :=
  c.command h (zoneCmdSpec 0x0211 [1, 2] (Who.estateOr scChannels)) (fun _ c => checks c [
    (decide (1023 < z), stBadParam), (h.prsv != 0, stBadParam)]
    (fun _ => { chip := if !c.isolated z ∨ c.act.zoneRelease.contains z then c
                else { c with act.zoneRelease := c.act.zoneRelease ++ [z] } }))

/-! ## Records (R242, R263, R264) -/

/-- An `ACT_MAP` image breaks a rule of R242 or R263: sources, combination, times or positions. -/
def actMapBad (i img : Nat) : Bool :=
  let comb := ACT_MAP.COMBINE.get img
  let n := ACT_MAP.SRC_COUNT.get img
  let used := (List.range (min n 8)).map (srcOf img)
  decide (8 < n) || used.any (fun s => decide (1023 < s.1) || decide (7 < s.2.1) || (comb == 2 && s.2.2 == 0))
    || ((List.range 8).drop n).any (fun k => (ACT_MAP.SRC k).get img != 0x0000FFFF)
    || comb == 3 || (decide (fgBase ≤ i) && comb != 0)
    || decide (ACT_MAP.TP_CYCLE_S.get img < ACT_MAP.MIN_ON_S.get img + ACT_MAP.MIN_OFF_S.get img)
    || decide (ACT_MAP.POS_MAX.get img < ACT_MAP.POS_MIN.get img)

/-- The entry may not be enabled: its channel is no valve, or its axis is not enabled (R242, R294). -/
def Chip.actMapBlocked (c : Chip) (i img : Nat) : Bool :=
  ACT_MAP.EN.get img == 1 &&
    ((decide (i < axBase) && c.chKind i != ckValve) || (decide (axBase ≤ i) && decide (i < fgBase) && !c.axEn (i - axBase)))

/-- `ACT_MAP_WRITE` (R242, R294). -/
def Chip.actMapWrite (c : Chip) (x : Ctx) (i ver img : Nat) : Res :=
  c.setRecord x.h ACT_MAP i ver img
    { estateMay x with bad := actMapBad i img, state := if c.actMapBlocked i img then stBadState else 0 } (fun c _ => c)

/-- `BUDGET_CFG_WRITE`: B follows at the next boundary. -/
def Chip.budgetCfgWrite (c : Chip) (x : Ctx) (i ver img : Nat) : Res :=
  c.setRecord x.h BUDGET_CFG i ver img (estateMay x) (fun c _ => { c with act.loaded := true, act.estWrite := true })

def Chip.allocModeWrite (c : Chip) (x : Ctx) (i ver img : Nat) : Res :=
  c.setRecord x.h ALLOC_MODE i ver img (estateMay x) (fun c _ => c)

end Sys2Proof.Machine
end

