-- ==== Sys2Proof/Machine/Fans.lean ====
section
/-!
DEFINITION. Fan ports, fan groups and purge sets (R321 to R337): the source of a group's duty, its curve, ramp and skip
bands, the tachometers and the judging of failures, the autonomous table, and the commands and records of the fan unit.
-/

namespace Sys2Proof.Machine

/-- `SOURCE` of a group (Table 10.9). -/
abbrev fsCurve : Nat := 0
abbrev fsTable : Nat := 1
abbrev fsManual : Nat := 2
abbrev fsPurge : Nat := 3
abbrev fsFailFull : Nat := 4
abbrev fsStopped : Nat := 5
abbrev fsFbStop : Nat := 6
abbrev fsOff : Nat := 7

/-- `PSTATE` of a port (Table 10.8). -/
abbrev fpUnused : Nat := 0
abbrev fpOff : Nat := 1
abbrev fpSpinup : Nat := 2
abbrev fpRunning : Nat := 3
abbrev fpFailed : Nat := 4
abbrev fpFbStop : Nat := 5
abbrev fpReleased : Nat := 6

def Chip.portGroup (c : Chip) (p : Nat) : Nat := c.getF FAN_PORT_CFG p FAN_PORT_CFG.GROUP

/-- The ports of a group. -/
def Chip.groupPorts (c : Chip) (g : Nat) : List Nat := (List.range 32).filter (fun p => c.portGroup p == g)

def Chip.dutyOff (c : Chip) (g : Nat) : Nat := c.getF FAN_GROUP_CFG g FAN_GROUP_CFG.DUTY_OFF

/-- The fan unit runs: REF is present, from the Survival tier upward (Table 10.3). -/
def Chip.fansRun (c : Chip) : Bool := decide (lvSurvival ≤ c.level)

/-! ## The PWM output (R322, R323) -/

/-- The steps of a port's PWM period and its active steps. -/
def Chip.fanPwm (c : Chip) (p : Nat) : Nat × Nat :=
  let steps := (roundN 25000000 (c.getF FAN_PORT_CFG p FAN_PORT_CFG.PWM_HZ : Nat)).toNat
  (steps, (roundN (c.getF FAN_PORT_STATUS p FAN_PORT_STATUS.DUTY * steps : Nat) 65535).toNat)

/-- The steps of a period in which the line is released: none while the stop switch holds it low, all while the port has no
group or the fan unit does not run. -/
def Chip.fanReleased (c : Chip) (p : Nat) : Nat :=
  let w := c.fanPwm p
  if c.stopSwitches.testBit p then 0
  else if c.portGroup p = 0xFF ∨ ¬ c.fansRun then w.1
  else if c.getB FAN_PORT_CFG p FAN_PORT_CFG.INVERT then w.1 - w.2 else w.2

/-! ## Tachometers (R324) -/

/-- `TACH_EDGE`: a falling edge of a port's tach at `t` µs, unless the filter rejects it. -/
def Chip.tachEdge (c : Chip) (p t : Nat) : Chip :=
  if !c.fansRun then c
  else
    let x := c.fport p
    let ppr := max 1 (c.getF FAN_PORT_CFG p FAN_PORT_CFG.PPR)
    match x.edges with
    | [] => c.setFport p { x with edges := [t] }
    | last :: _ =>
      if t < last + c.getF FAN_GLOBAL 0 FAN_GLOBAL.TACH_FILTER_US then c
      else
        let whole := decide (ppr ≤ x.part + 1)
        let c := c.setFport p { x with edges := (t :: x.edges).take 9, part := if whole then 0 else x.part + 1 }
        if whole then c.incSat FAN_PORT_STATUS p FAN_PORT_STATUS.REVS FAN_PORT_STATUS.SAT 0 else c

/-- The speed at `t` µs, truncated as the example of Table 10.2 shows; 0 before a whole revolution has been seen. A speed that
does not fit the field is stated nowhere. -/
def Chip.rpmAt (c : Chip) (p t : Nat) : Nat :=
  let ppr := max 1 (c.getF FAN_PORT_CFG p FAN_PORT_CFG.PPR)
  match (c.fport p).edges with
  | [] => 0
  | last :: rest =>
    match (last :: rest)[ppr]? with
    | none => 0
    | some first =>
      let rev := last - first
      let since := t - last
      let rpm := if 2000000 ≤ since then 0 else if rev < since * ppr then 60000000 / (since * ppr) else 60000000 / rev
      if 0xFFFF < rpm then (Config.unstated 324 [rpm]).toNat % 0x10000 else rpm

/-! ## Autonomous mode (R328, R329) -/

/-- The causes of autonomous mode that hold: [0] watchdog, [1] no terrace in service, [2] the Survival tier, or the demands
are absent after a chip reset. At a power-fail the unit stays as it is (Table 10.3). -/
def Chip.autoCauses (c : Chip) : Nat :=
  let wd := c.getF FAN_GLOBAL 0 FAN_GLOBAL.WD_S
  maskOf ((if wd ≠ 0 ∧ c.passedS c.host.lastOpFrame wd then [0] else [])
    ++ (if (List.range 4).all (fun t => c.getF TERRACE_STATUS t TERRACE_STATUS.TSTATE != 0) then [1] else [])
    ++ (if c.level < lvLimited ∨ c.boot.resetLow ∨ (¬ c.act.running ∧ ¬ c.boot.pfHalt) then [2] else []))

/-- The causes are judged; `FAN_AUTONOMOUS` on entering and on leaving. -/
def Chip.judgeAuto (c : Chip) : Chip :=
  if !c.fansRun ∨ c.boot.pfHalt then c
  else
    let was := c.act.fanAuto
    let new := c.autoCauses
    let c := { c with act.fanAuto := new }
    let c := c.each 16 (fun c g => c.upd FAN_GROUP_STATUS g [(FAN_GROUP_STATUS.AUTO_CAUSE, new)])
    if (was = 0) = (new = 0) then c
    else c.raise 0x0802 2 0 (u8 (if new = 0 then 0 else 1) ++ u8 (4 * (if new = 0 then was else new)) ++ rsvBytes 2) evFans

/-- The thermistors selected by a group and enabled (R329, R485). -/
def Chip.groupTherms (c : Chip) (g : Nat) : List Nat :=
  (bitsOf 4 (c.getF FAN_GROUP_CFG g FAN_GROUP_CFG.THERM_MASK)).filter (fun k => c.getF THERMAL_STATUS 0 (THERMAL_STATUS.SENS_STATE (3 + k)) != 3)

/-- One of them is open or shorted: it counts as above shutdown. -/
def Chip.thermBroken (c : Chip) (g : Nat) : Bool :=
  (c.groupTherms g).any (fun k => c.getF THERMAL_STATUS 0 (THERMAL_STATUS.SENS_STATE (3 + k)) != 0)

/-- The table temperature: the highest valid reading, or the no-value code 0x8000. -/
def Chip.tableTemp (c : Chip) (g : Nat) : Int :=
  ((c.groupTherms g).map (fun k => c.getS THERMAL_STATUS 0 (THERMAL_STATUS.TEMP (3 + k)))).foldl max (-32768)

/-- The used points of a group's table: temperature and duty. -/
def tablePoints (img : Nat) : List (Int × Nat) :=
  ((List.range 4).map (fun k => let v := (FAN_GROUP_CFG.TABLE k).get img; (toSigned 16 (v % 0x10000), v / 0x10000))).filter
    (fun p => p.1 != -32768)

/-- Linear interpolation between two points (R329). -/
def tableBetween (t : Int) : List (Int × Nat) → Nat
  | [] => 0
  | [p] => p.2
  | p :: q :: l =>
    if t ≤ p.1 then p.2
    else if t < q.1 then ((p.2 : Int) + roundN ((t - p.1) * ((q.2 : Int) - p.2)) (q.1 - p.1)).toNat
    else tableBetween t (q :: l)

/-- The table duty. A table without a used point, and a temperature that no round has supplied yet, give no stated duty. -/
def Chip.tableDuty (c : Chip) (g : Nat) : Nat :=
  let pts := tablePoints (c.img FAN_GROUP_CFG g)
  if (c.groupTherms g).isEmpty then c.getF FAN_GROUP_CFG g FAN_GROUP_CFG.AUTO_DUTY
  else if c.thermBroken g then
    match pts.getLast? with
    | some p => p.2
    | none => (Config.unstated 329 [g]).toNat % 0x10000
  else if pts.isEmpty ∨ c.tableTemp g = -32768 then (Config.unstated 329 [g, c.tableTemp g]).toNat % 0x10000
  else tableBetween (c.tableTemp g) pts

/-! ## The source of a group's duty (R321) -/

/-- A group is in an active stop set, or the stop switches stand at their harmless state. -/
def Chip.groupFbStop (c : Chip) (g : Nat) : Bool := c.stopGroups.testBit g || c.fbHarmless

/-- The purge sets in force that name a group. -/
def Chip.groupPurges (c : Chip) (g : Nat) : List Purge :=
  c.act.purges.filter (fun p => (c.getF PURGE_CFG p.set PURGE_CFG.GROUPS).testBit g)

/-- The rank of Table 10.1 that applies: its `SOURCE`, its duty, and whether ramp and skip bands are bypassed. -/
def Chip.groupSource (c : Chip) (g : Nat) : Nat × Nat × Bool :=
  let f := c.getF FAN_GROUP_CFG g
  let m := c.fgroup g
  if c.groupFbStop g then (fsFbStop, c.dutyOff g, true)
  else if c.stopped 2 ∨ c.isoStop (fgBase + g) then (fsStopped, c.dutyOff g, true)
  else if !(c.groupPurges g).isEmpty then
    (fsPurge, (c.groupPurges g).foldl (fun d p => max d (c.getF PURGE_CFG p.set PURGE_CFG.DUTY)) 0, true)
  else if m.mode = 1 then (fsManual, m.duty, false)
  else if m.mode = 2 then (fsManual, c.dutyOff g, false)
  else if (c.groupPorts g).any (fun p => (c.fport p).failed) then (fsFailFull, 0xFFFF, true)
  else if c.act.fanAuto ≠ 0 then (fsTable, c.tableDuty g, false)
  else if c.getB FAN_GROUP_STATUS g FAN_GROUP_STATUS.ON then
    let lo : Int := f FAN_GROUP_CFG.DUTY_MIN
    (fsCurve, (lo + roundN ((m.dem : Int) * (f FAN_GROUP_CFG.DUTY_MAX - lo)) 65535).toNat, false)
  else (fsCurve, c.dutyOff g, false)

/-- The ramped value moves toward the target (R326). -/
def rampTo (r target step : Nat) : Nat :=
  if r < target then min target (r + step) else max target (r - step)

/-- One skip band: the output, and whether the band holds it at an edge. -/
def skipBand (lo hi r last : Nat) : Nat × Bool :=
  if lo < hi ∧ lo < r ∧ r < hi then (if last ≤ lo then lo else hi, true) else (r, false)

/-- The four bands in order (R326). -/
def Chip.skipBands (c : Chip) (g r last : Nat) : Nat × Bool :=
  (List.range 4).foldl (fun a k =>
    let v := c.getF FAN_GROUP_CFG g (FAN_GROUP_CFG.SKIP k)
    let s := skipBand (v % 0x10000) (v / 0x10000) a.1 last
    (s.1, a.2 || s.2)) (r, false)

/-- The curve's state follows the demand (R325). -/
def Chip.curveState (c : Chip) (g : Nat) : Chip :=
  let d := (c.fgroup g).dem
  let f := c.getF FAN_GROUP_CFG g
  if f FAN_GROUP_CFG.START_DEM ≤ d then c.upd FAN_GROUP_STATUS g [(FAN_GROUP_STATUS.ON, 1)]
  else if d ≤ f FAN_GROUP_CFG.STOP_DEM then c.upd FAN_GROUP_STATUS g [(FAN_GROUP_STATUS.ON, 0)]
  else c

/-- A group takes an output, which its ports show. -/
def Chip.groupOutput (c : Chip) (g src target out : Nat) (skipping : Bool) : Chip :=
  let ports := c.groupPorts g
  let c := c.modFgroup g (fun x => { x with out := out })
  let c := c.upd FAN_GROUP_STATUS g [(FAN_GROUP_STATUS.SOURCE, src), (FAN_GROUP_STATUS.SKIPPING, if skipping then 1 else 0),
    (FAN_GROUP_STATUS.DEMAND, (c.fgroup g).dem), (FAN_GROUP_STATUS.TARGET, target), (FAN_GROUP_STATUS.DUTY, out),
    (FAN_GROUP_STATUS.PORTS, ports.length), (FAN_GROUP_STATUS.FAILED, (ports.filter (fun p => (c.fport p).failed)).length),
    (FAN_GROUP_STATUS.TEMP, ofSigned 16 (c.tableTemp g))]
  c.eachOf ports (fun c p => c.upd FAN_PORT_STATUS p [(FAN_PORT_STATUS.DUTY, out)])

/-- A group's output at a fan step (R321, R326). -/
def Chip.groupStep (c : Chip) (g : Nat) : Chip :=
  let c := c.curveState g
  let s := c.groupSource g
  if s.2.2 then (c.modFgroup g (fun x => { x with r := s.2.1 })).groupOutput g s.1 s.2.1 s.2.1 false
  else
    let x := c.fgroup g
    let r := rampTo x.r s.2.1 (roundN (c.getF FAN_GROUP_CFG g FAN_GROUP_CFG.RAMP : Nat) 100).toNat
    let o := c.skipBands g r x.out
    (c.modFgroup g (fun x => { x with r := r })).groupOutput g s.1 s.2.1 o.1 o.2

/-! ## Fan failure (R327) -/

/-- A port's speed is judged at `t` µs. -/
def Chip.portJudge (c : Chip) (p t : Nat) : Chip :=
  let g := c.portGroup p
  let rpm := c.rpmAt p t
  let minR := c.getF FAN_PORT_CFG p FAN_PORT_CFG.TACH_MIN_RPM
  let low := decide (rpm < minR)
  let c := c.upd FAN_PORT_STATUS p [(FAN_PORT_STATUS.RPM, rpm), (FAN_PORT_STATUS.TACH_LOW, if low then 1 else 0)]
  let x := c.fport p
  let idle := c.setFport p { x with lowAt := none, okAt := none }
  if g = 0xFF ∨ ¬ c.getB FAN_PORT_CFG p FAN_PORT_CFG.TACH_EN then idle
  else if (c.groupSource g).1 = fsFbStop ∨ (c.groupSource g).1 = fsStopped then c.setFport p { x with lowAt := none, okAt := none, spinAt := none }
  else if x.failed then
    if low then c.setFport p { x with okAt := none }
    else match x.okAt with
      | none => c.setFport p { x with okAt := some t }
      | some t0 =>
        if t < t0 + 1000000 * c.getF FAN_GLOBAL 0 FAN_GLOBAL.FAIL_CLEAR_S then c
        else
          let c := c.setFport p { x with failed := false, okAt := none, lowAt := none }
          c.raise 0x0801 0 p (u8 g ++ u8 0 ++ rsvBytes 2) evFans
  else match x.spinAt with
    | none => idle
    | some t0 =>
      if t < t0 + 1000000 * c.getF FAN_PORT_CFG p FAN_PORT_CFG.SPINUP_S ∨ ¬ low then idle
      else match x.lowAt with
        | none => c.setFport p { x with lowAt := some t, okAt := none }
        | some t1 =>
          if t < t1 + 3000000 then c
          else
            let c := c.setFport p { x with failed := true, lowAt := none, okAt := none }
            let c := c.incSat FAN_PORT_STATUS p FAN_PORT_STATUS.FAIL_CNT FAN_PORT_STATUS.SAT 1
            c.raise 0x0800 2 p (u8 g ++ rsvBytes 1 ++ u16 rpm) evFans

/-- A port's state after its group's output: the spin-up time runs while the duty is other than `DUTY_OFF`. -/
def Chip.portShow (c : Chip) (p t : Nat) : Chip :=
  let g := c.portGroup p
  let x := c.fport p
  if g = 0xFF then
    (c.setFport p { x with spinAt := none }).upd FAN_PORT_STATUS p [(FAN_PORT_STATUS.PSTATE, fpUnused), (FAN_PORT_STATUS.DUTY, 0)]
  else
    let on := (c.fgroup g).out != c.dutyOff g
    let spin := if on then some (x.spinAt.getD t) else none
    let c := c.setFport p { x with spinAt := spin }
    let st := if c.groupFbStop g then fpFbStop else if x.failed then fpFailed else match spin with
      | none => fpOff
      | some t0 => if t < t0 + 1000000 * c.getF FAN_PORT_CFG p FAN_PORT_CFG.SPINUP_S then fpSpinup else fpRunning
    c.upd FAN_PORT_STATUS p [(FAN_PORT_STATUS.PSTATE, st)]

/-- The samples of the means that non-owners are shown (R105, R335). -/
def Chip.fanSamples (c : Chip) : Chip :=
  let c := c.each 16 (fun c g => if !c.plotSourced (fgBase + g) then c else
    ((c.sampleMean (meanKey FAN_GROUP_STATUS g 2) (c.getF FAN_GROUP_STATUS g FAN_GROUP_STATUS.DEMAND)).sampleMean
      (meanKey FAN_GROUP_STATUS g 4) (c.getF FAN_GROUP_STATUS g FAN_GROUP_STATUS.TARGET)).sampleMean
      (meanKey FAN_GROUP_STATUS g 6) (c.getF FAN_GROUP_STATUS g FAN_GROUP_STATUS.DUTY))
  c.each 32 (fun c p => if c.portGroup p = 0xFF ∨ ¬ c.plotSourced (fgBase + c.portGroup p) then c else
    (c.sampleMean (meanKey FAN_PORT_STATUS p 2) (c.getF FAN_PORT_STATUS p FAN_PORT_STATUS.DUTY)).sampleMean
      (meanKey FAN_PORT_STATUS p 4) (c.getF FAN_PORT_STATUS p FAN_PORT_STATUS.RPM))

/-- The duty that stood over the 10 ms before a fan step is summed for the metering unit (R399). -/
def Chip.fanTally (c : Chip) (g : Nat) : Chip :=
  let d := 10 * c.getF FAN_GROUP_STATUS g FAN_GROUP_STATUS.DUTY
  if c.getF FAN_GROUP_STATUS g FAN_GROUP_STATUS.SOURCE = fsCurve then c.modFgroup g (fun x => { x with curve := x.curve + d })
  else c.modFgroup g (fun x => { x with other := x.other + d })

/-- `FAN_STEP` at `t` µs of the fan unit's own count: autonomous causes, speeds and failures, then every group's output. -/
def Chip.fanStep (c : Chip) (t : Nat) : Chip :=
  if !c.fansRun then c
  else
    let c := c.each 16 Chip.fanTally
    let c := c.judgeAuto
    let c := c.each 32 (fun c p => c.portJudge p t)
    let c := c.each 16 Chip.groupStep
    let c := c.each 32 (fun c p => c.portShow p t)
    c.fanSamples

/-- `FAN_WATCHDOG_EXPIRY`: the causes of R328 are judged. -/
def Chip.fanWatchdogExpiry (c : Chip) : Chip := c.judgeAuto

/-- The groups that a stop or a purge reaches take its duty in the allocator's micro-slot (R260, R331). -/
def Chip.fanMicroslot (c : Chip) : Chip :=
  if !c.fansRun then c
  else c.each 16 (fun c g => if (c.groupSource g).1 = fsPurge ∨ (c.groupSource g).1 = fsStopped then c.groupStep g else c)

/-- The fan unit stops running: every line is released (Table 10.3). -/
def Chip.fansStop (c : Chip) : Chip :=
  let c := c.each 16 (fun c g => c.upd FAN_GROUP_STATUS g [(FAN_GROUP_STATUS.SOURCE, fsOff)])
  c.each 32 (fun c p => c.upd FAN_PORT_STATUS p [(FAN_PORT_STATUS.PSTATE, if c.portGroup p = 0xFF then fpUnused else fpReleased)])

/-! ## Purge sets (R331) -/

/-- The groups of a set that rank 1 or 2 holds. -/
def Chip.purgeHeld (c : Chip) (s : Nat) : Nat :=
  maskOf ((bitsOf 16 (c.getF PURGE_CFG s PURGE_CFG.GROUPS)).filter (fun g => c.groupFbStop g || c.stopped 2 || c.isoStop (fgBase + g)))

def Chip.purgeEvent (c : Chip) (s state cause : Nat) : Chip :=
  c.raise 0x0803 2 s (u8 state ++ u8 cause ++ u16 (c.purgeHeld s)) evFans

/-- A set in force. -/
def Chip.purgeOn (c : Chip) (s : Nat) : Bool := c.act.purges.any (fun p => p.set == s)

/-- A set ends: its axes are queued first (R254 step 1). Cause 0 command, 1 duration, 2 reset or tier. -/
def Chip.purgeEnd (c : Chip) (s cause : Nat) : Chip :=
  if !c.purgeOn s then c
  else
    let c := { c with act.purges := c.act.purges.filter (fun p => p.set != s) }
    let c := c.eachOf (bitsOf 24 (c.getF PURGE_CFG s PURGE_CFG.AXES)) (fun c a => if c.axEn a then c.requeue (axBase + a) else c)
    c.purgeEvent s 0 cause

/-- `PURGE_DURATION_END`: `DURATION_S` has elapsed from the set's start. -/
def Chip.purgeDurationEnd (c : Chip) (s : Nat) : Chip :=
  match c.act.purges.find? (fun p => p.set == s) with
  | some p =>
    let d := c.getF PURGE_CFG s PURGE_CFG.DURATION_S
    if d ≠ 0 ∧ c.passedS p.at_ d then c.purgeEnd s 1 else c
  | none => c

/-- Commands of this chapter: the estate, operators with `FANS` (R336). -/
def fanSpec (opcode : Nat) (classes : List Nat) (len : Nat) : CmdSpec where
  opcode := opcode
  classes := classes
  who := Who.estateOr scFans
  len := fun n => n == len

/-- `PURGE_REQUEST`: the set is in force or ended at once; the outputs follow in the next micro-slot. -/
def Chip.purgeRequest (c : Chip) (h : Hdr) (s action : Nat) : Chip :=
  c.command h (fanSpec 0x0810 [0, 1] 4) (fun _ c => checks c [
    (decide (7 < s), stBadParam), (decide (1 < action) || h.prsv != 0, stBadParam),
    (c.getF PURGE_CFG s PURGE_CFG.GROUPS == 0 && c.getF PURGE_CFG s PURGE_CFG.AXES == 0, stBadState)]
    (fun _ =>
      if action = 0 then { chip := c.purgeEnd s 0 }
      else
        let n := c.act.purgeSeq + 1
        let rest : List Purge := c.act.purges.filter (fun (p : Purge) => p.set != s)
        let entry : Purge := ⟨s, c.up, n⟩
        let c := { c with act.purgeSeq := n, act.purges := rest ++ [entry] }
        let c := c.eachOf (bitsOf 24 (c.getF PURGE_CFG s PURGE_CFG.AXES)) (fun c a =>
          if c.axEn a then c.modAxis a (fun x => { x with c0 := true }) else c)
        { chip := c.purgeEvent s 1 0 }))

/-! ## Manual modes (R336) -/

def Chip.setFanManual (c : Chip) (g mode duty timeout cause : Nat) : Chip :=
  let was := (c.fgroup g).mode
  let c := c.modFgroup g (fun x => { x with mode := mode, duty := duty, until_ := if timeout = 0 then none else some (c.up + timeout * ticksPerSecond) })
  if was = mode then c else c.raise 0x0804 1 g (u8 mode ++ u8 cause ++ rsvBytes 2) evFans

/-- `FAN_MANUAL`. -/
def Chip.fanManual (c : Chip) (h : Hdr) (g mode duty timeout : Nat) : Chip :=
  c.command h (fanSpec 0x0800 [1, 2] 8) (fun _ c => checks c [
    (decide (15 < g), stBadParam), (mode == 1 && c.stopGroups.testBit g && !c.tripped.isEmpty, stSafetyLock),
    (decide (2 < mode) || h.prsv != 0, stBadParam)]
    (fun _ => { chip := if mode = 0 then c.setFanManual g 0 0 0 0 else c.setFanManual g mode duty timeout 0 }))

/-- `FAN_MANUAL_TIMEOUT`. -/
def Chip.fanManualTimeout (c : Chip) (g : Nat) : Chip :=
  match (c.fgroup g).until_ with
  | some t => if t ≤ c.up then c.setFanManual g 0 0 0 1 else c
  | none => c

/-- Manual modes and purge sets end on a chip reset and on a fall below Limited (R331, R336). -/
def Chip.fansRelease (c : Chip) : Chip :=
  let c := c.eachOf (c.act.purges.map Purge.set) (fun c s => c.purgeEnd s 2)
  c.each 16 (fun c g => c.setFanManual g 0 0 0 2)

/-- `FANGROUP_RESET`. -/
def Chip.fangroupReset (c : Chip) (h : Hdr) (g : Nat) : Chip :=
  c.command h (fanSpec 0x0801 [2] 4) (fun _ c => checks c [
    (decide (15 < g), stBadParam), (h.prsv != 0, stBadParam)]
    (fun _ =>
      { chip := c.eachOf (c.groupPorts g) (fun c p =>
          let was := (c.fport p).failed
          let c := c.modFport p (fun x => { x with failed := false, spinAt := none, lowAt := none, okAt := none })
          let c := c.upd FAN_PORT_STATUS p [(FAN_PORT_STATUS.TACH_LOW, 0), (FAN_PORT_STATUS.SAT, 0), (FAN_PORT_STATUS.REVS, 0),
            (FAN_PORT_STATUS.FAIL_CNT, 0)]
          if was then c.raise 0x0801 0 p (u8 g ++ u8 1 ++ rsvBytes 2) evFans else c) }))

/-! ## Records (R334) -/

/-- A group is named in the stop set of some function. -/
def Chip.inStopSet (c : Chip) (g : Nat) : Bool := (List.range 3).any (fun f => (c.getF FB_FUNC_CFG f FB_FUNC_CFG.STOP_GROUPS).testBit g)

/-- `FAN_PORT_CFG_WRITE`: a change of stop-set membership is a commit of the safety configuration (R334, R392). A port that moves
restarts its failure state and spin-up time (R333). -/
def Chip.fanPortCfgWrite (c : Chip) (x : Ctx) (p ver img : Nat) : Res :=
  let new := FAN_PORT_CFG.GROUP.get img
  let moved := new != c.portGroup p
  let safety := moved && (c.inStopSet new || c.inStopSet (c.portGroup p))
  c.setRecord x.h FAN_PORT_CFG p ver img
    { may := x.who.estateOnly && (!safety || c.mayCommit x.who), bad := decide (15 < new) && new != 0xFF,
      state := if safety && c.commitBlocked then stBadState else 0 }
    (fun c _ =>
      let c := if moved then c.modFport p (fun x => { x with failed := false, spinAt := none, lowAt := none, okAt := none }) else c
      if safety then c.fbCommit FAN_PORT_CFG p else c)

/-- What a group's configuration must satisfy (R334). -/
def fanGroupBad (img : Nat) : Bool :=
  let f := fun (x : Fld) => x.get img
  let pts := (List.range 4).map (fun k => toSigned 16 ((FAN_GROUP_CFG.TABLE k).get img % 0x10000))
  decide (f FAN_GROUP_CFG.START_DEM < f FAN_GROUP_CFG.STOP_DEM) || decide (f FAN_GROUP_CFG.DUTY_MAX < f FAN_GROUP_CFG.DUTY_MIN)
    || (List.range 4).any (fun k => let v := f (FAN_GROUP_CFG.SKIP k); v != 0 && decide (v / 0x10000 ≤ v % 0x10000))
    || (List.range 3).any (fun k =>
      let a := pts.getD k 0
      let b := pts.getD (k + 1) 0
      if a = -32768 then b != -32768 else b != -32768 && decide (b ≤ a))

def Chip.fanGroupCfgWrite (c : Chip) (x : Ctx) (g ver img : Nat) : Res :=
  c.setRecord x.h FAN_GROUP_CFG g ver img { may := x.who.estateOnly, bad := fanGroupBad img } (fun c _ => c)

def Chip.fanGlobalWrite (c : Chip) (x : Ctx) (i ver img : Nat) : Res :=
  c.setRecord x.h FAN_GLOBAL i ver img { may := x.who.estateOnly } (fun c _ => c)

def Chip.purgeCfgWrite (c : Chip) (x : Ctx) (s ver img : Nat) : Res :=
  c.setRecord x.h PURGE_CFG s ver img { may := x.who.estateOnly } (fun c _ => c)

end Sys2Proof.Machine
end

