-- ==== Sys2Proof/Machine/Sensing.lean ====
section
/-!
DEFINITION. Field inputs (R338, R349 to R359, R541): analogue inputs, presence contacts, ladder keypads, the warden matrix, the
key queue and logs, feeder sources, with their records and commands.
-/

namespace Sys2Proof.Machine

/-- The no-value code of fx32 (R9). -/
abbrev fxNone : Int := -0x80000000

/-- The limits of a valid value (R541). -/
def fxLimit (v : Int) : Int := clampI (-0x7FFFFFFF) 0x7FFFFFFF v

/-- An event whose source is an owned input or keypad (R339, R369): the owner in full, others masked from `SEV` 2. -/
def Chip.raiseOwned (c : Chip) (code sev src : Nat) (data : List Nat) (owner : Nat) : Chip :=
  if owner < 256 then c.raiseMasked code sev src data (rsvBytes data.length) (audZone owner sev)
  else c.raise code sev src data (audOps scDiag)

/-! ## Analogue inputs (R349, R350) -/

def Chip.ain (c : Chip) (n : Nat) : Ain := Tab.get {} c.sense.ain n
def Chip.setAin (c : Chip) (n : Nat) (x : Ain) : Chip := { c with sense.ain := Tab.set {} c.sense.ain n x }

/-- The engineering value of a code (R349): `GAIN` and `OFFSET` hold `R25` and `BETA` of a thermistor. -/
def Chip.ainValue (c : Chip) (n code : Nat) : Int :=
  if c.getF AIN_CFG n AIN_CFG.KIND = 2 then
    fxLimit (thermistor 349 (c.getF AIN_CFG n AIN_CFG.R_PU * code) ((65536 - code) * c.getF AIN_CFG n AIN_CFG.GAIN)
      (c.getF AIN_CFG n AIN_CFG.OFFSET) 65536)
  else fxLimit (c.getS AIN_CFG n AIN_CFG.OFFSET + divRound (c.getS AIN_CFG n AIN_CFG.GAIN * code) 65536)

/-- The filtered value after a valid one (R349); `dt` is the time since the previous sample in RTC ticks. -/
def filtered (y v : Int) (ms dt : Nat) : Int :=
  if ms = 0 then v else y + divFree 349 ((v - y) * (1000 * dt : Nat)) (ms * 32768 + 1000 * dt : Nat)

/-- A code is judged: 2 SHORT_LOW, 3 OPEN_HIGH, 1 inside the window. -/
def Chip.ainJudge (c : Chip) (n code : Nat) : Nat :=
  if code < c.getF AIN_CFG n AIN_CFG.LO_CODE ∨ (c.getF AIN_CFG n AIN_CFG.KIND = 2 ∧ code = 0) then 2
  else if c.getF AIN_CFG n AIN_CFG.HI_CODE < code then 3 else 1

/-- A conversion of an input is processed. -/
def Chip.ainTake (c : Chip) (n code t : Nat) : Chip :=
  let x := c.ain n
  let owner := c.getF AIN_CFG n AIN_CFG.OWNER
  let was := c.getF AIN_STATUS n AIN_STATUS.STATE
  let judged := c.ainJudge n code
  let data := fun (st : Nat) => u8 st ++ rsvBytes 1 ++ u16 code
  let none_ := fun (c : Chip) (st : Nat) => c.upd AIN_STATUS n [(AIN_STATUS.STATE, st), (AIN_STATUS.CODE, code),
    (AIN_STATUS.VALUE, 0x80000000), (AIN_STATUS.TIME, t)]
  if c.plausLatched then (none_ c 4).setAin n { x with y := none, at_ := t, good := 0, fresh := false }
  else if judged ≠ 1 then
    let c := (none_ c judged).setAin n { y := none, at_ := t, good := 0, fresh := false }
    if was = judged then c else c.raiseOwned 0x0903 2 n (data judged) owner
  else if (was = 2 ∨ was = 3) ∧ x.good < 9 then (none_ c was).setAin n { x with at_ := t, good := x.good + 1 }
  else
    let v := c.ainValue n code
    let y := match x.y with
      | none => v
      | some y => fxLimit (filtered y v (c.getF AIN_CFG n AIN_CFG.FILTER_MS) (t - x.at_))
    let c := c.upd AIN_STATUS n [(AIN_STATUS.STATE, 1), (AIN_STATUS.CODE, code), (AIN_STATUS.VALUE, ofSigned 32 y), (AIN_STATUS.TIME, t)]
    let c := c.setAin n { y := some y, at_ := t, good := 0, fresh := true }
    if was = 2 ∨ was = 3 then c.raiseOwned 0x0903 2 n (data 1) owner else c

/-- `AIN_PROCESS`: the oldest result of array A's queue is drained. During a Keeper tier hold nobody drains it (Table 11.8). -/
def Chip.ainProcess (c : Chip) : Chip :=
  match (c.arr 0).queue with
  | [] => c
  | r :: rest =>
    if c.level < lvLimited ∨ c.boot.hold.isSome then c
    else
      let c := (c.modArr 0 (fun x => { x with queue := rest })).upd ARRAY_STATUS 0 [(ARRAY_STATUS.FILL, rest.length)]
      if 64 ≤ r.src ∨ c.getF AIN_CFG r.src AIN_CFG.KIND = 0 then c else c.ainTake r.src (r.word % 0x10000) r.time

/-- `AIN_PUBLISH`: at a multiple of `PUB_MS`, the latest value, or the no-value code if no valid one came since. -/
def Chip.ainPublish (c : Chip) (n : Nat) : Chip :=
  if c.getF AIN_CFG n AIN_CFG.KIND = 0 ∨ c.level < lvLimited ∨ c.boot.hold.isSome then c
  else
    let x := c.ain n
    let v := if x.fresh then x.y.getD fxNone else fxNone
    (c.setAin n { x with fresh := false }).queueUpdate 2 n v (c.getF AIN_STATUS n AIN_STATUS.TIME)

/-- `AIN_CFG_WRITE` (R345, R349, R366). -/
def Chip.ainCfgWrite (c : Chip) (x : Ctx) (n ver img : Nat) : Res :=
  let f := fun (k : Fld) => k.get img
  let kind := f AIN_CFG.KIND
  let inj := f AIN_CFG.INJ == 1
  let used := (List.range 64).filter (fun k => k != n && c.getF AIN_CFG k AIN_CFG.KIND != 0)
  let bad := kind == 3 || decide (f AIN_CFG.HI_CODE ≤ f AIN_CFG.LO_CODE) || (inj && kind == 0) || decide (f AIN_CFG.PUB_MS % 250 ≠ 0)
    || (kind == 2 && (f AIN_CFG.GAIN == 0 || f AIN_CFG.OFFSET == 0 || f AIN_CFG.R_PU == 0)) || (kind == 1 && f AIN_CFG.R_PU != 0)
  let full := (kind != 0 && decide (60 ≤ used.length)) || (inj && decide (8 ≤ (used.filter (fun k => c.getB AIN_CFG k AIN_CFG.INJ)).length))
  c.setRecord x.h AIN_CFG n ver img
    { badId := badOwner (f AIN_CFG.OWNER), may := x.who.estateOnly, bad := bad, state := if full then stBadState else 0 }
    (fun c old =>
      let c := if AIN_CFG.OWNER.get old ≠ f AIN_CFG.OWNER then
          ((c.setAin n { c.ain n with y := none, fresh := false }).upd AIN_STATUS n [(AIN_STATUS.VALUE, 0x80000000)]).voidBindings 2 n else c
      if kind = 0 then (c.setAin n {}).upd AIN_STATUS n [(AIN_STATUS.STATE, 0), (AIN_STATUS.VALUE, 0x80000000)]
      else if AIN_CFG.KIND.get old = 0 then c.setAin n {} else c)

/-- `ARRAY_CFG` and `PLAUS_CFG`: from the next sequence (R345, R366). -/
def Chip.arrayCfgWrite (c : Chip) (x : Ctx) (i ver img : Nat) : Res :=
  c.setRecord x.h ARRAY_CFG i ver img { may := x.who.estateOnly } (fun c _ => c)

def Chip.plausCfgWrite (c : Chip) (x : Ctx) (i ver img : Nat) : Res :=
  c.setRecord x.h PLAUS_CFG i ver img { may := x.who.estateOnly } (fun c _ => c)

/-! ## Presence contacts (R351) -/

def Chip.prs (c : Chip) (n : Nat) : Prs := Tab.get {} c.sense.prs n
def Chip.setPrs (c : Chip) (n : Nat) (x : Prs) : Chip := { c with sense.prs := Tab.set {} c.sense.prs n x }

/-- The reported state into the bindings, with the time of the write. -/
def Chip.prsBind (c : Chip) (n : Nat) : Chip :=
  c.queueUpdate 3 n (if c.getB PRS_STATUS n PRS_STATUS.ACTIVE then 65536 else 0) c.now

/-- The reported state changes. -/
def Chip.prsReport (c : Chip) (n : Nat) (active : Bool) : Chip :=
  if c.getB PRS_STATUS n PRS_STATUS.ACTIVE = active then c
  else
    let c := c.incSat PRS_STATUS n PRS_STATUS.CHANGES PRS_STATUS.SAT 0
    c.upd PRS_STATUS n [(PRS_STATUS.ACTIVE, if active then 1 else 0), (PRS_STATUS.SINCE, c.now)]

/-- One sample of a contact; `active` is its level after `INVERT`. -/
def Chip.prsTake (c : Chip) (n : Nat) (active : Bool) : Chip :=
  let x := c.prs n
  let level := c.getB PRS_STATUS n PRS_STATUS.LEVEL
  let count := if active = level then 0 else x.n + 1
  let change := decide (active ≠ level) && decide (c.getF PRS_CFG n PRS_CFG.DEBOUNCE_MS < count)
  let x := { x with n := if change then 0 else count }
  if change then
    let c := c.upd PRS_STATUS n [(PRS_STATUS.LEVEL, if active then 1 else 0)]
    let hold := 1000 * c.getF PRS_CFG n PRS_CFG.STRETCH_S
    let c := c.setPrs n { x with stretch := if active then 0 else hold }
    (c.prsReport n (active || decide (hold ≠ 0))).prsBind n
  else if level ∨ x.stretch = 0 then c.setPrs n x
  else
    let c := c.setPrs n { x with stretch := x.stretch - 1 }
    if x.stretch = 1 then c.prsReport n false else c

/-- `PRS_SAMPLE`: bit n says that contact n is closed to ground. -/
def Chip.prsSample (c : Chip) (closed : Nat) : Chip :=
  if c.level < lvLimited then c
  else c.eachOf ((List.range 32).filter (fun n => c.getB PRS_CFG n PRS_CFG.EN)) (fun c n =>
    c.prsTake n (closed.testBit n != c.getB PRS_CFG n PRS_CFG.INVERT))

/-- `PRESENCE_REFRESH`. -/
def Chip.presenceRefresh (c : Chip) : Chip :=
  if c.level < lvLimited ∨ c.boot.hold.isSome then c
  else c.eachOf ((List.range 32).filter (fun n => c.getB PRS_CFG n PRS_CFG.EN)) Chip.prsBind

/-- `PRS_CFG`: a change of owner leaves no held value (R338). -/
def Chip.prsCfgWrite (c : Chip) (x : Ctx) (n ver img : Nat) : Res :=
  c.setRecord x.h PRS_CFG n ver img { badId := badOwner (PRS_CFG.OWNER.get img), may := x.who.estateOnly }
    (fun c old =>
      let c := if PRS_CFG.OWNER.get old ≠ PRS_CFG.OWNER.get img then
          ((c.setPrs n {}).upd PRS_STATUS n [(PRS_STATUS.ACTIVE, 0), (PRS_STATUS.LEVEL, 0)]).voidBindings 3 n else c
      if PRS_CFG.EN.get img = 0 then c.setPrs n {} else c)

/-! ## Ladder keypads (R352 to R355) -/

/-- `LINE0` and `LINE1` (Table 11.10). -/
abbrev klIdle : Nat := 0
abbrev klKey : Nat := 1
abbrev klAmbiguous : Nat := 2
abbrev klShort : Nat := 3
abbrev klOpen : Nat := 4

def lineFld (l : Nat) : Fld := if l = 0 then KP_STATUS.LINE0 else KP_STATUS.LINE1

def Chip.kline (c : Chip) (kp l : Nat) : KLine := Tab.get {} c.sense.kline (2 * kp + l)
def Chip.setKline (c : Chip) (kp l : Nat) (x : KLine) : Chip := { c with sense.kline := Tab.set {} c.sense.kline (2 * kp + l) x }
def Chip.lineState (c : Chip) (kp l : Nat) : Nat := c.getF KP_STATUS kp (lineFld l)
def Chip.setLine (c : Chip) (kp l s : Nat) : Chip := c.upd KP_STATUS kp [(lineFld l, s)]

/-- The class of a ratio in 1/1000 of VIO (Table 11.5): 0 to 7 a key, 8 idle, 9 short, 10 open, 11 between. -/
def ratioClass (r : Nat) : Nat :=
  if r < 50 then 9 else if 950 < r then 10 else if 875 ≤ r ∧ r ≤ 925 then 8
  else match (List.range 8).find? (fun k => decide (100 * (k + 1) ≤ r + 25 ∧ r ≤ 100 * (k + 1) + 25)) with
    | some k => k
    | none => 11

/-- Kinds of a report (R357). -/
abbrev krRelease : Nat := 0
abbrev krPress : Nat := 1
abbrev krStuck : Nat := 2
abbrev krStuckCleared : Nat := 3
abbrev krGhost : Nat := 4
abbrev krLineFault : Nat := 5
abbrev krLineRestored : Nat := 6

/-- The source number of the warden matrix. -/
abbrev wardenSrc : Nat := 0x80

def Chip.keyOwner (c : Chip) (src : Nat) : Nat := if src = wardenSrc then estateOwner else c.getF KP_CFG src KP_CFG.OWNER

/-- A report enters the key queue, or is discarded and counted when 256 wait (R357); stuck keys and line faults raise
`KEY_FAULT`. The key number of a ghost or a line report is not stated. -/
def Chip.keyReport (c : Chip) (src key kind line : Nat) : Chip :=
  let key := if krGhost ≤ kind then (Config.unstated 357 [src, kind, line]).toNat % 256 else key
  let c := if c.sense.keyq.length < 256 then { c with sense.keyq := c.sense.keyq ++ [⟨src, key, kind, line, c.now⟩] }
    else c.inc KP_GLOBAL 0 KP_GLOBAL.KEYQ_OVF
  if kind = krStuck ∨ kind = krStuckCleared ∨ kind = krLineFault ∨ kind = krLineRestored then
    c.raiseOwned 0x0904 2 src (u8 kind ++ u8 line ++ u8 key ++ rsvBytes 1) (c.keyOwner src)
  else c

/-- A key comes up: its release is reported, or that it is no longer stuck. -/
def Chip.keyUp (c : Chip) (kp l : Nat) : Chip :=
  let x := c.kline kp l
  match x.key with
  | none => c
  | some k =>
    let key := 8 * l + k
    let stuck := (c.getF KP_STATUS kp KP_STATUS.STUCK).testBit key
    let c := (c.setKline kp l { x with key := none }).upd KP_STATUS kp [
      (KP_STATUS.HELD, clearBit (c.getF KP_STATUS kp KP_STATUS.HELD) key),
      (KP_STATUS.STUCK, clearBit (c.getF KP_STATUS kp KP_STATUS.STUCK) key)]
    c.keyReport kp key (if stuck then krStuckCleared else krRelease) l

/-! ### Nudges -/

/-- The largest offset of a zone in 0.01 K (R355). -/
def Chip.nudgeMax (c : Chip) (z : Nat) : Nat :=
  let o := c.zoneOwner z
  if o < 256 then min (c.getF PLOT_PREFS o PLOT_PREFS.NUDGE_LIMIT) (c.getF PLOT_LIMITS o PLOT_LIMITS.NUDGE_CAP)
  else c.getF KP_GLOBAL 0 KP_GLOBAL.NUDGE_CAP_E

/-- The zones bound to a keypad that it may write. -/
def Chip.keypadZones (c : Chip) (kp : Nat) : List Nat :=
  (List.range 1024).filter (fun z => c.mayBind z 4 kp && !(c.bindsOf z 4 kp).isEmpty)

/-- A zone's own offset of a keypad's nudge, in 0.01 K (R355 steps 1 and 2). -/
def Chip.zoneNudge (c : Chip) (kp z : Nat) : Int :=
  let lim : Int := c.nudgeMax z
  let off := clampI (-lim) lim (c.getS KP_STATUS kp KP_STATUS.OFFSET)
  let o := c.zoneOwner z
  let b := if o < 256 then c.limitsOf o
    else (c.getS PLAN_PLANT z PLAN_PLANT.SP_MIN_E, c.getS PLAN_PLANT z PLAN_PLANT.SP_MAX_E)
  let s := c.schedAt z c.localTime
  min (max off (b.1 - s.heat)) (b.2 - s.cool)

/-- The offset is written into every bound zone (R355); only a press moves the bindings' time. -/
def Chip.keypadWrite (c : Chip) (kp : Nat) (press : Bool) : Chip :=
  if c.level < lvFull ∨ c.boot.hold.isSome then c
  else c.eachOf (c.keypadZones kp) (fun c z =>
    let v := if c.sense.kpBad.testBit kp then fxNone else fxLimit (divFree 355 (c.zoneNudge kp z * 65536) 100)
    c.upd ZONE_BINDINGS z ((c.bindsOf z 4 kp).flatMap (fun n =>
      (ZONE_BINDINGS.VALUE n, ofSigned 32 v) :: (if press then [(ZONE_BINDINGS.TIME n, c.now)] else []))))

/-- An accepted press (R354): in Full service it moves the offset. -/
def Chip.keypadPress (c : Chip) (kp key : Nat) : Chip :=
  let c := c.upd KP_STATUS kp [(KP_STATUS.LAST_PRESS, c.now)]
  if c.level < lvFull ∨ c.boot.hold.isSome then c
  else
    let f := c.getF KP_CFG kp (KP_CFG.FUNC key)
    let step : Int := c.getF KP_CFG kp KP_CFG.NUDGE_STEP
    let off := c.getS KP_STATUS kp KP_STATUS.OFFSET
    let new := if f = 1 then off + step else if f = 2 then off - step else if f = 3 then 0 else off
    let lim : Int := ((c.keypadZones kp).foldl (fun m z => max m (c.nudgeMax z)) 0 : Nat)
    (c.upd KP_STATUS kp [(KP_STATUS.OFFSET, ofSigned 16 (clampI (-lim) lim new))]).keypadWrite kp true

/-! ### Lines -/

/-- A stable reading of a line moves its state (Table 11.6); `long` says that it has lasted 1 s. -/
def Chip.lineStable (c : Chip) (kp l cls : Nat) (long : Bool) : Chip :=
  let s := c.lineState kp l
  if cls = 9 ∨ cls = 10 then
    let new := if cls = 9 then klShort else klOpen
    if !long ∨ s = new then c
    else
      let c := { c.setLine kp l new with sense.kpBad := setBit c.sense.kpBad kp }
      (c.keyReport kp 0 krLineFault l).keyUp kp l
  else if cls = 8 then
    if s = klIdle then c
    else if s = klShort ∨ s = klOpen then (c.setLine kp l klIdle).keyReport kp 0 krLineRestored l
    else (c.setLine kp l klIdle).keyUp kp l
  else if s = klIdle then
    if cls = 11 then (c.setLine kp l klAmbiguous).keyReport kp 0 krGhost l
    else
      let key := 8 * l + cls
      let c := (c.setLine kp l klKey).setKline kp l { c.kline kp l with key := some cls, since := c.up }
      let c := c.upd KP_STATUS kp [(KP_STATUS.HELD, setBit (c.getF KP_STATUS kp KP_STATUS.HELD) key)]
      (c.keyReport kp key krPress l).keypadPress kp key
  else if s = klKey ∧ (c.kline kp l).key ≠ some cls then (c.setLine kp l klAmbiguous).keyReport kp 0 krGhost l
  else c

/-- One sample of a line, every 2 ms. -/
def Chip.lineTake (c : Chip) (kp l r : Nat) : Chip :=
  let cls := ratioClass r
  let x := c.kline kp l
  let n := if cls = x.cls then min (x.n + 1) 501 else 1
  let c := c.setKline kp l { x with cls := cls, n := n }
  if 2 * (n - 1) < c.getF KP_GLOBAL 0 KP_GLOBAL.DEBOUNCE_MS then c else c.lineStable kp l cls (decide (501 ≤ n))

/-- A keypad's bindings have a value again once both lines are IDLE or KEY (R355). -/
def Chip.keypadGood (c : Chip) (kp : Nat) : Chip :=
  if c.lineState kp 0 ≤ klKey ∧ c.lineState kp 1 ≤ klKey then { c with sense.kpBad := clearBit c.sense.kpBad kp } else c

/-- `KEYPAD_SCAN`: the ratios of the 48 lines, in 1/1000, line l of keypad k at 2k + l. -/
def Chip.keypadScan (c : Chip) (ratios : List Nat) : Chip :=
  if c.level < lvLimited then c
  else c.eachOf ((List.range 24).filter (fun kp => c.getB KP_CFG kp KP_CFG.EN)) (fun c kp =>
    (((c.lineTake kp 0 (ratios.getD (2 * kp) 900)).lineTake kp 1 (ratios.getD (2 * kp + 1) 900)).keypadGood kp))

/-- `KEY_STUCK`: a key held for `STUCK_S` (R353). -/
def Chip.keyStuck (c : Chip) (kp l : Nat) : Chip :=
  let x := c.kline kp l
  match x.key with
  | none => c
  | some k =>
    let key := 8 * l + k
    let st := c.getF KP_STATUS kp KP_STATUS.STUCK
    if st.testBit key ∨ ¬ c.passedS x.since (c.getF KP_GLOBAL 0 KP_GLOBAL.STUCK_S) then c
    else (c.upd KP_STATUS kp [(KP_STATUS.STUCK, setBit st key)]).keyReport kp key krStuck l

/-- `NUDGE_HOLD_EXPIRY`: the offset returns to 0 (R354). -/
def Chip.nudgeHoldExpiry (c : Chip) (kp : Nat) : Chip :=
  let m := c.getF KP_CFG kp KP_CFG.NUDGE_HOLD_MIN
  if c.level < lvFull ∨ m = 0 ∨ c.getF KP_STATUS kp KP_STATUS.OFFSET = 0
    ∨ c.now < c.getF KP_STATUS kp KP_STATUS.LAST_PRESS + 60 * m * ticksPerSecond then c
  else (c.upd KP_STATUS kp [(KP_STATUS.OFFSET, 0)]).keypadWrite kp false

/-- `KEYPAD_BINDING_REFRESH`: every 1 s each bound zone receives its limited offset. -/
def Chip.keypadBindingRefresh (c : Chip) : Chip :=
  c.eachOf ((List.range 24).filter (fun kp => c.getB KP_CFG kp KP_CFG.EN)) (fun c kp => c.keypadWrite kp false)

/-- `KP_CFG`: a change of owner leaves no held value; a keypad that is no longer scanned forgets its lines. -/
def Chip.kpCfgWrite (c : Chip) (x : Ctx) (kp ver img : Nat) : Res :=
  c.setRecord x.h KP_CFG kp ver img { badId := badOwner (KP_CFG.OWNER.get img), may := x.who.estateOnly }
    (fun c old =>
      let c := if KP_CFG.OWNER.get old ≠ KP_CFG.OWNER.get img then (c.upd KP_STATUS kp [(KP_STATUS.OFFSET, 0)]).voidBindings 4 kp else c
      if KP_CFG.EN.get img = 1 then c
      else
        let c := ((c.setKline kp 0 {}).setKline kp 1 {}).upd KP_STATUS kp [(KP_STATUS.LINE0, 0), (KP_STATUS.LINE1, 0),
          (KP_STATUS.HELD, 0), (KP_STATUS.STUCK, 0)]
        { c with sense.kpBad := clearBit c.sense.kpBad kp })

def Chip.kpGlobalWrite (c : Chip) (x : Ctx) (i ver img : Nat) : Res :=
  c.setRecord x.h KP_GLOBAL i ver img { may := x.who.estateOnly, bad := decide (KP_GLOBAL.DEBOUNCE_MS.get img % 2 ≠ 0) } (fun c _ => c)

/-! ## The warden matrix (R356, R379) -/

/-- A report of the warden matrix is queued in Survival service and above. -/
def Chip.wardenReport (c : Chip) (key kind : Nat) : Chip :=
  if c.level < lvSurvival then c else c.keyReport wardenSrc key kind 0xFF

/-- A key's judged state changes. -/
def Chip.wardenChange (c : Chip) (k : Nat) (down : Bool) : Chip :=
  if down then
    let c := { c with fb.keyDown := setBit c.fb.keyDown k, fb.keyPressed := Tab.set 0 c.fb.keyPressed k c.up }
    (c.wardenReport k krPress).wardenPress k
  else
    let stuck := c.fb.keyStuck.testBit k
    let c := { c with fb.keyDown := clearBit c.fb.keyDown k, fb.keyStuck := clearBit c.fb.keyStuck k,
                      fb.resetDone := clearBit c.fb.resetDone k }
    c.wardenReport k (if stuck then krStuckCleared else krRelease)

/-- `WARDEN_SCAN`: bit k says that key k is closed; a key is judged on three equal scans. -/
def Chip.wardenScan (c : Chip) (keys : Nat) : Chip :=
  if !c.boot.vaon ∨ ¬ c.boot.fbkOk then c
  else
    let prev := c.fb.keyPrev
    let c := { c with fb.keyPrev := (keys :: prev).take 2 }
    if prev.length < 2 then c
    else c.eachOf ((List.range 64).filter (fun k => prev.all (fun m => m.testBit k == keys.testBit k) && keys.testBit k != c.fb.keyDown.testBit k))
      (fun c k => c.wardenChange k (keys.testBit k))

/-- `WARDEN_KEY_STUCK`: a key held for `WM_STUCK_S` is stuck until its release. -/
def Chip.wardenKeyStuck (c : Chip) (k : Nat) : Chip :=
  if c.fb.keyDown.testBit k ∧ ¬ c.fb.keyStuck.testBit k
    ∧ c.passedS (Tab.get 0 c.fb.keyPressed k) (c.getF FB_GLOBAL 0 FB_GLOBAL.WM_STUCK_S) then
    Chip.wardenReport { c with fb.keyStuck := setBit c.fb.keyStuck k } k krStuck
  else c

/-! ## Key logs (R357, R368) -/

/-- A report joins the log of its source, which keeps the newest 16. -/
def Chip.logKey (c : Chip) (r : KeyRep) : Chip :=
  let n := Tab.get 0 c.sense.logSeq r.src + 1
  let log := Tab.get [] c.sense.logs r.src ++ [(n, r)]
  { c with sense.logSeq := Tab.set 0 c.sense.logSeq r.src n,
           sense.logs := Tab.set [] c.sense.logs r.src (log.drop (log.length - 16)) }

/-- `KEY_LOG_MOVE`: whenever the Keeper runs. -/
def Chip.keyLogMove (c : Chip) : Chip :=
  if c.level < lvLimited ∨ c.holding 0 then c
  else
    let l := c.sense.keyq
    Chip.eachOf { c with sense.keyq := [] } l Chip.logKey

def keyLogEntry (e : Nat × KeyRep) : List Nat := u32 e.1 ++ u8 e.2.src ++ u8 e.2.key ++ u8 e.2.kind ++ u8 e.2.line ++ u64 e.2.time

def keyLogSpec : CmdSpec where
  opcode := 0x0918
  classes := [2]
  who := fun w => w.estateOnly || w.plotOf.isSome || Who.estateOr scDiag w
  len := fun n => n == 8

/-- `KEY_LOG_READ`. -/
def Chip.keyLogRead (c : Chip) (h : Hdr) (src from_ : Nat) : Chip :=
  c.command h keyLogSpec (fun x c => checks c [
    (decide (23 < src) && src != wardenSrc, stBadParam),
    (if src = wardenSrc then !Who.estateOr scDiag x.who else !x.who.owns (c.keyOwner src), stDenied),
    (h.prsv != 0, stBadParam)]
    (fun _ =>
      let log := Tab.get [] c.sense.logs src
      let next := Tab.get 0 c.sense.logSeq src + 1
      let oldest := match log with
        | e :: _ => e.1
        | [] => next
      let out := log.filter (fun e => decide (from_ ≤ e.1))
      { chip := c, data := u32 oldest ++ u32 next ++ u8 out.length ++ rsvBytes 3 ++ out.flatMap keyLogEntry }))

/-! ## Feeder sources (R358, R359) -/

/-- A feeder's value as fx32, the no-value code where it is outside its unit's range (Table 11.7). -/
def feedValue (unit raw : Nat) : Int :=
  let v := toSigned 32 raw
  let within := fun (lo hi : Int) (x : Int) => if lo ≤ v ∧ v ≤ hi then fxLimit x else fxNone
  if unit = 1 then within (-4000) 12500 (divFree 359 (v * 65536) 100)
  else if unit = 2 then within 0 10000 (divFree 359 (v * 65536) 100)
  else if unit = 3 then within 0 65534 (v * 65536)
  else if unit = 4 then within 0 1 (v * 65536)
  else if unit = 5 then within 0 2000 (v * 65536)
  else v

/-- An entry of `FEEDER_REPORT`: source, age in ms, value. -/
structure FeedEntry where
  src : Nat
  age : Nat
  value : Nat
  deriving DecidableEq, Repr

/-- The counts of a report's reply. -/
structure FeedCount where
  accepted : Nat := 0
  notReg : Nat := 0
  rate : Nat := 0
  aged : Nat := 0
  taken : List Nat := []

/-- An entry is refused: counted in its source. -/
def Chip.feedRefused (c : Chip) (s : Nat) : Chip := c.incSat FEED_STATUS s FEED_STATUS.REFUSED FEED_STATUS.SAT 0

/-- One entry is judged (R359). -/
def feedJudge (a : Chip × FeedCount) (e : FeedEntry) : Chip × FeedCount :=
  let c := a.1
  let n := a.2
  let unit := c.getF FEED_SRC e.src FEED_SRC.UNIT
  let soon := n.taken.contains e.src || (match c.sense.feedAt.find? (fun p => p.1 == e.src) with
    | some p => !c.passedMs p.2 (c.getF FEED_SRC e.src FEED_SRC.MIN_INTERVAL_MS)
    | none => false)
  if unit = 0 then (c.feedRefused e.src, { n with notReg := n.notReg + 1 })
  else if soon then (c.feedRefused e.src, { n with rate := n.rate + 1 })
  else if 60000 < e.age then (c.feedRefused e.src, { n with aged := n.aged + 1 })
  else
    let v := feedValue unit e.value
    let t := ((c.now : Int) - divFree 359 (e.age * 32768 : Nat) 1000).toNat
    let c := c.upd FEED_STATUS e.src [(FEED_STATUS.TIME, t), (FEED_STATUS.VALUE, ofSigned 32 v)]
    let c := { c with sense.feedAt := Tab.ins e.src c.up (Tab.del e.src c.sense.feedAt) }
    (c.queueUpdate 1 e.src v t, { n with accepted := n.accepted + 1, taken := e.src :: n.taken })

/-- `FEEDER_REPORT`: feeders alone, its length by its `COUNT` (R358). -/
def feederSpec (count : Nat) : CmdSpec where
  opcode := 0x0910
  classes := [1, 2]
  who := fun w => match w with
    | .feeder _ _ => true
    | _ => false
  len := fun n => n == 4 + 8 * count
  level := lvFull

def inBound (w : Who) (s : Nat) : Bool :=
  match w with
  | .feeder first count => decide (first ≤ s) && decide (s < first + count)
  | _ => false

def Chip.feederReport (c : Chip) (h : Hdr) (es : List FeedEntry) : Chip :=
  c.command h (feederSpec es.length) (fun x c => checks c [
    (es.any (fun e => decide (4095 < e.src)), stBadParam),
    (es.any (fun e => !inBound x.who e.src), stDenied),
    (es.isEmpty || decide (127 < es.length) || h.prsv != 0, stBadParam)]
    (fun _ =>
      let r := es.foldl feedJudge (c, {})
      { chip := r.1, data := u16 r.2.accepted ++ u16 r.2.notReg ++ u16 r.2.rate ++ u16 r.2.aged }))

/-- `FEED_SRC_WRITE` (R338, R358): the status clears; a change of owner voids the bindings. -/
def Chip.feedSrcWrite (c : Chip) (x : Ctx) (s ver img : Nat) : Res :=
  c.setRecord x.h FEED_SRC s ver img
    { badId := badOwner (FEED_SRC.OWNER.get img), may := x.who.estateOnly, bad := decide (6 < FEED_SRC.UNIT.get img) }
    (fun c old =>
      let c := { c.clearRec FEED_STATUS s with sense.feedAt := Tab.del s c.sense.feedAt }
      if FEED_SRC.OWNER.get old ≠ FEED_SRC.OWNER.get img then c.voidBindings 1 s else c)

/-! ## Start and stop (Table 11.8) -/

/-- Filters, debounces, key lines, logs and offsets restart after a chip reset; the queue of the housekeeping domain stays. -/
def Chip.inputsReset (c : Chip) : Chip :=
  let s := c.sense
  let c := { c with sense := { s with ain := [], prs := [], kline := [], kpBad := 0, logs := [], logSeq := [], feedAt := [] } }
  let c := c.each 64 (fun c n => c.clearRec AIN_STATUS n)
  let c := c.each 32 (fun c n => c.clearRec PRS_STATUS n)
  let c := c.each 24 (fun c n => c.clearRec KP_STATUS n)
  c.eachOf ((c.recs.filter (fun p => p.1 % 0x10000 == FEED_STATUS.id)).map (fun p => p.1 / 0x10000)) (fun c s => c.clearRec FEED_STATUS s)

end Sys2Proof.Machine
end

