-- ==== Sys2Proof/Machine/Metering.lean ====
section
/-!
DEFINITION. Per-plot metering (R397 to R420) and the heat meters it reads (R360 to R363): the metering tick, accumulation and
apportionment, demand intervals and peaks, outages, checkpoints, epoch statements, and the Modbus master.
-/

namespace Sys2Proof.Machine

/-- Ten seconds and a quarter-hour of the RTC. -/
abbrev ticksPer10s : Nat := 10 * ticksPerSecond
/-- The instance of the estate's common areas. -/
abbrev estateParty : Nat := 256

def Chip.mreg (c : Chip) (m : Nat) : MReg := Tab.get {} c.meter.meters m
def Chip.setMreg (c : Chip) (m : Nat) (x : MReg) : Chip := { c with meter.meters := Tab.set {} c.meter.meters m x }
def Chip.modMreg (c : Chip) (m : Nat) (f : MReg → MReg) : Chip := c.setMreg m (f (c.mreg m))

/-- Events 0x0B00 to 0x0B02: the plot and the estate (R420). -/
def audParty (party : Nat) : Audience := if party < 256 then { plot := some party } else audEstate

/-- The shadow store works: it has an image and is not halted (R412). -/
def Chip.storeWorks (c : Chip) : Bool :=
  let s := c.getF STORE_STATUS 0 STORE_STATUS.STSTATE
  s != 0 && s != 1 && s != 7

/-- The metering unit can run (R412). -/
def Chip.meteringAble (c : Chip) : Bool := decide (lvLimited ≤ c.level) && !c.boot.pfHalt && !c.boot.resetLow && c.storeWorks

/-- A store is requested with a cause of Table 15.4 (R452). -/
def Chip.requestStore (c : Chip) (cause : Nat) : Chip :=
  c.upd STORE_STATUS 0 [(STORE_STATUS.PENDING_CAUSE, setBit (c.getF STORE_STATUS 0 STORE_STATUS.PENDING_CAUSE) cause)]

/-! ## Counters (R403) -/

/-- A counter of a party takes a booking; at its largest value it stays, sets its `SAT` bit and is reported once. The estate's share of
R401 is below zero where carried residues give the plots more than the delta; a counter that would pass below zero has no stated value. -/
def Chip.bookCounter (c : Chip) (party : Nat) (f : Fld) (sat kind band : Nat) (n : Int) : Chip :=
  if n = 0 then c
  else
    let v := (c.getF PLOT_ENERGY party f : Int) + n
    if v < 2 ^ 64 then
      c.upd PLOT_ENERGY party [(f, if v < 0 then (Config.unstated 401 [party, kind, band, v]).toNat % 2 ^ 64 else v.toNat)]
    else
      let s := c.getF PLOT_ENERGY party PLOT_ENERGY.SAT
      let c := c.upd PLOT_ENERGY party [(f, 2 ^ 64 - 1), (PLOT_ENERGY.SAT, setBit s sat)]
      if s.testBit sat then c
      else
        let d := u8 kind ++ u8 band ++ rsvBytes 2
        c.raise 0x0B00 2 party d (audParty party)

def Chip.bookEnergy (c : Chip) (party kind band : Nat) (n : Int) : Chip :=
  c.bookCounter party (PLOT_ENERGY.ENERGY (8 * kind + band)) (8 * kind + band) kind band n
def Chip.bookOutage (c : Chip) (party kind : Nat) (n : Int) : Chip := c.bookCounter party (PLOT_ENERGY.OUTAGE kind) (24 + kind) kind 0xF0 n
def Chip.bookRecovered (c : Chip) (party kind n : Nat) : Chip := c.bookCounter party (PLOT_ENERGY.RECOVERED kind) (27 + kind) kind 0xF1 n

/-- A party's counters of one kind, summed (R413). -/
def Chip.kindTotal (c : Chip) (party kind : Nat) : Nat :=
  (List.range 8).foldl (fun s b => s + c.getF PLOT_ENERGY party (PLOT_ENERGY.ENERGY (8 * kind + b)))
    (c.getF PLOT_ENERGY party (PLOT_ENERGY.OUTAGE kind) + c.getF PLOT_ENERGY party (PLOT_ENERGY.RECOVERED kind))

/-- Parties with a counter that is not zero. -/
def Chip.totals (c : Chip) : List (Nat × Nat) :=
  (List.range 257).flatMap (fun o => (List.range 3).filterMap (fun k =>
    let v := c.kindTotal o k
    if v = 0 then none else some (3 * o + k, v)))

/-! ## Accumulation (R398, R399) -/

def addTo (t : List (Nat × Nat)) (k v : Nat) : List (Nat × Nat) := Tab.set 0 t k (Tab.get 0 t k + v)

/-- A meter's map in force. -/
def Chip.meterMap (c : Chip) (m : Nat) : Nat := Tab.get (METER_MAP.resetImg m) c.meter.maps m
def Chip.meterKind (c : Chip) (m : Nat) : Nat := METER_MAP.KIND.get (c.meterMap m)

/-- The time and the share of each owner of a target's time, the share as 1/65536 (R259): all of it to the estate where the sources' demands
sum to zero or `whole` says so. -/
def Chip.ownerShares (c : Chip) (i t : Nat) (whole : Bool) : List (Nat × Nat × Nat) :=
  let x := c.tgt i
  let srcs := c.sources i
  let sum := x.srcSum.foldl (fun s p => s + p.2) (0 : Nat)
  if whole ∨ sum = 0 then [(estateParty, t, 65536)]
  else (List.range srcs.length).map (fun k =>
    (c.zoneOwner (srcs.getD k (0, 0, 0)).1, t, (divFree 259 (Tab.get 0 x.srcSum k * 65536 : Nat) sum).toNat))

/-- What is added to the accumulators of a meter: weight × time × share, by owner. A sum that leaves 64 bits has no stated value. -/
def addWeighted (acc : List (Nat × Nat)) (w band : Nat) (l : List (Nat × Nat × Nat)) : List (Nat × Nat) :=
  l.foldl (fun a s =>
    let k := 8 * min s.1 estateParty + band
    let v := Tab.get 0 a k + w * s.2.1 * s.2.2
    Tab.set 0 a k (if v < 2 ^ 64 then v else (Config.unstated 398 [k, v]).toNat % 2 ^ 64)) acc

/-- The tick is sealed (R398): every meter takes what its actuators did under the band in force. -/
def Chip.sealTick (c : Chip) : Chip :=
  let b := c.meter.band
  let w := c.meter.weights
  let c := c.each 32 (fun c m =>
    let img := c.meterMap m
    let kind := METER_MAP.KIND.get img
    if kind = 0 then c
    else
      let parts := if kind = 3 then
          (bitsOf 16 (METER_MAP.FG_MASK.get img)).map (fun g =>
            let x := c.fgroup g
            ((METER_WEIGHTS.FG_W g).get w, c.ownerShares (fgBase + g) x.curve false ++ [(estateParty, x.other, 65536)]))
        else
          (bitsOf 96 (METER_MAP.CH_MASK.get img)).map (fun ch =>
            let t := c.tgt ch
            ((METER_WEIGHTS.CH_W ch).get w, c.ownerShares ch t.tickOpen (decide (t.tickEst ≠ 0))))
      c.modMreg m (fun x => { x with from_ := some (x.from_.getD c.meter.tickAt),
                                     acc := parts.foldl (fun a p => addWeighted a p.1 b p.2) x.acc }))
  let c := c.each 96 (fun c i => c.modTgt i (fun t => { t with tickOpen := 0, tickEst := 0, srcSum := [], srcN := 0 }))
  let c := c.each 16 (fun c g => (c.modTgt (fgBase + g) (fun t => { t with srcSum := [], srcN := 0 })).modFgroup g
    (fun x => { x with curve := 0, other := 0 }))
  { c with meter.bandLast := b }

/-! ## Demand intervals (R406 to R408) -/

def clamp32 (v : Nat) : Nat := min v 0xFFFFFFFF

/-- An accrual as its field shows it: it saturates; below zero it is not stated. -/
def showAcc (v : Int) : Nat := if v < 0 then (Config.unstated 406 [v]).toNat % 2 ^ 32 else clamp32 v.toNat

/-- The running interval as every party's record shows it. -/
def Chip.showInterval (c : Chip) : Chip :=
  match c.meter.cur with
  | none => c
  | some i => c.each 257 (fun c o => c.upd PLOT_DEMAND o ([(PLOT_DEMAND.INT_START, i.start), (PLOT_DEMAND.INT_FLAGS, i.flags)]
      ++ (List.range 3).map (fun k => (PLOT_DEMAND.INT_ACC k, showAcc (Tab.get 0 i.acc (3 * o + k))))))

/-- An interval is settled (R406): each party's demand, and its peak unless the interval is `SHORT` or `PARTIAL`. -/
def Chip.settleInterval (c : Chip) (i : Interval) : Chip :=
  let dur := i.fin - i.start
  let demand := fun (o k : Nat) =>
    let a := Tab.get 0 i.acc (3 * o + k)
    if dur = 0 ∨ a < 0 then (Config.unstated 406 [a, dur]).toNat % 2 ^ 32 else clamp32 (a.toNat * 36 * ticksPerSecond / (10 * dur))
  let whole := !i.flags.testBit 1 && !i.flags.testBit 2
  c.each 257 (fun c o =>
    let c := c.upd PLOT_DEMAND o ([(PLOT_DEMAND.LAST_FLAGS, i.flags), (PLOT_DEMAND.LAST_BAND, i.band), (PLOT_DEMAND.LAST_START, i.start)]
      ++ (List.range 3).map (fun k => (PLOT_DEMAND.LAST_DEMAND k, demand o k)))
    if !whole then c
    else c.each 3 (fun c k =>
      let j := 8 * k + i.band
      if c.getF PLOT_DEMAND o (PLOT_DEMAND.PEAK j) < demand o k then
        c.upd PLOT_DEMAND o [(PLOT_DEMAND.PEAK j, demand o k), (PLOT_DEMAND.PEAK_TIME j, i.start)]
      else c))

/-- The interval that waits is settled. -/
def Chip.settleAwait (c : Chip) : Chip :=
  match c.meter.await with
  | none => c
  | some i => { c.settleInterval i with meter.await := none }

/-- The running interval ends at `fin`; it waits for the bookings of its last tick. -/
def Chip.endInterval (c : Chip) (fin : Nat) (short : Bool) : Chip :=
  match c.meter.cur with
  | none => c
  | some i =>
    let i := { i with fin := fin, band := c.meter.band, flags := if short then setBit i.flags 2 else i.flags }
    { c with meter.cur := none, meter.await := some i }

/-- The interval length of `METERING_CFG`, in RTC ticks. -/
def Chip.intervalLen (c : Chip) : Nat := ([5, 15, 30, 60].getD (c.getF METERING_CFG 0 METERING_CFG.INTERVAL) 15) * 60 * ticksPerSecond

/-- An interval begins at `b`: it ends at the next multiple of its length. -/
def Chip.startInterval (c : Chip) (b : Nat) (part : Bool) : Chip :=
  let l := max 1 c.meter.len
  let fl := if part ∨ b % l ≠ 0 then 2 else 0
  Chip.showInterval { c with meter.cur := some { start := b, fin := (b / l + 1) * l, flags := fl } }

/-! ## Apportionment (R401, R402) -/

/-- What a booking makes: the counters' growth by party and band (key 8 × party + band), and the residues. -/
structure Booking where
  parts : List (Nat × Int) := []
  res : List (Nat × Nat) := []

def addPart (t : List (Nat × Int)) (k : Nat) (v : Int) : List (Nat × Int) := Tab.set 0 t k (Tab.get 0 t k + v)

/-- One band's share of a booking among the parties; `acc` holds the parties' weights. The estate takes what is left, which is below zero
where the residues carried give the plots more. -/
def bookBand (bk : Booking) (acc : List (Nat × Nat)) (band d : Nat) : Booking :=
  let a := acc.foldl (fun s p => s + p.2) 0
  let bk := (acc.filter (fun p => decide (p.1 < 256) && decide (0 < p.2))).foldl (fun (x : Booking × Nat) p =>
    let n := d * p.2 * 65536 / a + Tab.get 0 x.1.res p.1
    ({ parts := addPart x.1.parts (8 * p.1 + band) (n / 65536 : Nat), res := Tab.set 0 x.1.res p.1 (n % 65536) }, x.2 + n / 65536)) (bk, 0)
  { bk.1 with parts := addPart bk.1.parts (8 * estateParty + band) ((d : Int) - bk.2) }

/-- The parties' weights in one band. -/
def bandWeights (acc : List (Nat × Nat)) (band : Nat) : List (Nat × Nat) :=
  (acc.filter (fun p => p.1 % 8 == band)).map (fun p => (p.1 / 8, p.2))

/-- R401: a delta of `d` mWh is divided among the bands and the parties. -/
def apportion (acc res : List (Nat × Nat)) (last d : Nat) : Booking :=
  let sumOf := fun (l : List (Nat × Nat)) => l.foldl (fun s p => s + p.2) 0
  let a := sumOf acc
  if a = 0 then { parts := addPart [] (8 * estateParty + last) d, res := res }
  else
    let share := fun (b : Nat) => if b = last then 0 else d * sumOf (bandWeights acc b) / a
    let rest := d - sumOf ((List.range 8).map (fun b => (b, share b)))
    (List.range 8).foldl (fun bk b =>
      let n := if b = last then rest else share b
      if n = 0 then bk else bookBand bk (bandWeights acc b) b n) { res := res }

/-- An interval is credited with a booking of one kind. -/
def Interval.credit (i : Interval) (kind : Nat) (parts : List (Nat × Int)) (late : Bool) : Interval :=
  { i with acc := parts.foldl (fun a p => addPart a (3 * (p.1 / 8) + kind) p.2) i.acc, flags := if late then setBit i.flags 0 else i.flags }

/-- The bookings of a meter's last ticks are credited to the interval that holds the last tick covered (R401). -/
def Chip.creditInterval (c : Chip) (kind from_ : Nat) (parts : List (Nat × Int)) : Chip :=
  match c.meter.await with
  | some i => { c with meter.await := some (i.credit kind parts (decide (from_ < i.start))) }
  | none =>
    match c.meter.cur with
    | some i => Chip.showInterval { c with meter.cur := some (i.credit kind parts (decide (from_ < i.start))) }
    | none => c

/-- `AS_OF`: the end of the last sealed tick. -/
def Chip.showAsOf (c : Chip) : Chip := c.each 257 (fun c o => c.upd PLOT_ENERGY o [(PLOT_ENERGY.AS_OF, c.meter.lastEnd)])

/-- A good reading's delta is booked whole (R401, R402). A meter of kind 0 is booked nowhere. -/
def Chip.bookDelta (c : Chip) (m d : Nat) : Chip :=
  let kind := c.meterKind m
  let x := c.mreg m
  let c := c.setMreg m { x with acc := [], from_ := none }
  if kind = 0 then c
  else
    let bk := apportion x.acc x.res c.meter.bandLast d
    let c := c.modMreg m (fun x => { x with res := bk.res })
    let c := c.eachOf bk.parts (fun c p => c.bookEnergy (p.1 / 8) (kind - 1) (p.1 % 8) p.2)
    (c.creditInterval (kind - 1) (x.from_.getD c.meter.tickAt) bk.parts).showAsOf

/-- The accumulation of a meter ends without a booking: a discontinuity, or a change of its map (R397, R400, R401). -/
def Chip.meterBreak (c : Chip) (m : Nat) : Chip := c.modMreg m (fun x => { x with acc := [], from_ := none, res := [] })

/-- The outage delta of a meter at its first good reading after an outage (R411): booked with the bands collapsed, or rejected. -/
def Chip.outageDelta (c : Chip) (m raw : Nat) : Chip :=
  let x := c.mreg m
  match x.out with
  | none => c
  | some (old, at_) =>
    let f := c.getF METER_CFG m
    let dRaw := (raw + 2 ^ (16 * f METER_CFG.ENERGY_WORDS) - old) % 2 ^ (16 * f METER_CFG.ENERGY_WORDS)
    let d := dRaw * 10 ^ (c.getS METER_CFG m METER_CFG.ENERGY_EXP + 3).toNat
    let n := (c.now - at_ + ticksPer10s - 1) / ticksPer10s
    let kind := c.meterKind m
    let c := c.setMreg m { x with out := none, oacc := [] }
    if f METER_CFG.MAX_DELTA_WH * 1000 * n < d then
      let c := c.incSat METERING_STATUS 0 METERING_STATUS.OUTAGE_REJ_CNT METERING_STATUS.SAT 0
      c.raise 0x0B04 2 m (u64 dRaw) audEstate
    else
      let bk := if kind = 0 then {} else
        apportion (x.oacc.map (fun p => (8 * p.1, p.2))) x.res 0 d
      let c := if kind = 0 then c else c.modMreg m (fun x => { x with res := bk.res })
      let c := c.eachOf bk.parts (fun c p => c.bookOutage (p.1 / 8) (kind - 1) p.2)
      c.showAsOf.raise 0x0B03 1 m (u64 d ++ u32 (divFree 411 (c.now - at_ : Nat) ticksPerSecond).toNat) audEstate

/-! ## Good readings (R362) -/

/-- A good energy reading: the outage delta, the tick delta, or neither. -/
def Chip.meterReading (c : Chip) (m raw : Nat) : Chip :=
  let x := c.mreg m
  let bits := 16 * c.getF METER_CFG m METER_CFG.ENERGY_WORDS
  let take := fun (c : Chip) (st : Nat) =>
    (c.modMreg m (fun x => { x with raw := some (raw, c.now) })).upd METER_STATUS m
      [(METER_STATUS.STATE, st), (METER_STATUS.RAW, raw), (METER_STATUS.TIME, c.now)]
  match x.raw with
  | none =>
    let c := (take c 1).outageDelta m raw
    c.modMreg m (fun x => { x with acc := [], from_ := none })
  | some (old, _) =>
    let dRaw := (raw + 2 ^ bits - old) % 2 ^ bits
    let d := dRaw * 10 ^ (c.getS METER_CFG m METER_CFG.ENERGY_EXP + 3).toNat
    if c.getF METER_CFG m METER_CFG.MAX_DELTA_WH * 1000 < d then
      ((take c 3).meterBreak m).raise 0x0906 2 m (u64 old ++ u64 raw) audEstate
    else (take c 1).bookDelta m d

/-! ## Epochs and statements (R415 to R417) -/

abbrev stScheduled : Nat := 1
abbrev stmPending : Nat := 2
abbrev stmClosed : Nat := 3
abbrev stmEvicted : Nat := 4
abbrev stmUnsigned : Nat := 5

def Chip.stmtState (c : Chip) (o : Nat) : Nat := c.getF EPOCH_STATEMENT o EPOCH_STATEMENT.STATE

/-- "GENMOR-EPOCH-1" in ASCII (R415). -/
def epochLabel : List Nat := [0x47, 0x45, 0x4E, 0x4D, 0x4F, 0x52, 0x2D, 0x45, 0x50, 0x4F, 0x43, 0x48, 0x2D, 0x31]

/-- The body of a statement: bytes 0x004 to 0x18F. -/
def stmtBody (img : Nat) : List Nat := leBytes 0x18C (img / 2 ^ 32)

/-- A statement is formed for a party (R416): readings, peaks and the tariff's hash, signed by the device; the epoch advances and the
peaks start again. -/
def Chip.formStatement (c : Chip) (o state cut tariff : Nat) : Chip :=
  let e := c.getF PLOT_ENERGY o
  let prev := if c.getF EPOCH_STATEMENT o EPOCH_STATEMENT.STMT_SEQ = 0 then 0 else c.getF EPOCH_STATEMENT o EPOCH_STATEMENT.CUT
  let seq := c.meter.stmtSeq + 1
  let epoch := e PLOT_ENERGY.EPOCH
  let img := setFields ([(EPOCH_STATEMENT.STATE, state), (EPOCH_STATEMENT.EPOCH, epoch), (EPOCH_STATEMENT.STMT_SEQ, seq),
      (EPOCH_STATEMENT.EPOCH_START, prev), (EPOCH_STATEMENT.CUT, cut), (EPOCH_STATEMENT.TARIFF_HASH, leValue (sha256 (leBytes 192 tariff)))]
    ++ (List.range 24).map (fun k => (EPOCH_STATEMENT.ENERGY_WH k, e (PLOT_ENERGY.ENERGY k) / 1000))
    ++ (List.range 3).map (fun k => (EPOCH_STATEMENT.OUTAGE_WH k, e (PLOT_ENERGY.OUTAGE k) / 1000))
    ++ (List.range 3).map (fun k => (EPOCH_STATEMENT.RECOVERED_WH k, e (PLOT_ENERGY.RECOVERED k) / 1000))
    ++ (List.range 24).map (fun k => (EPOCH_STATEMENT.PEAK_W k, c.getF PLOT_DEMAND o (PLOT_DEMAND.PEAK k)))) 0
  let sig := leValue (devSign (epochLabel ++ u64 c.sec.serial ++ stmtBody img))
  let c := c.setImg EPOCH_STATEMENT o (EPOCH_STATEMENT.SIG_DEV.set sig img)
  let c := { c with meter.stmtSeq := seq, meter.cuts := Tab.del o c.meter.cuts, meter.cutTariff := Tab.del o c.meter.cutTariff }
  let c := c.upd PLOT_ENERGY o [(PLOT_ENERGY.EPOCH, (epoch + 1) % 2 ^ 32)]
  let c := c.upd PLOT_DEMAND o ((List.range 24).flatMap (fun k => [(PLOT_DEMAND.PEAK k, 0), (PLOT_DEMAND.PEAK_TIME k, 0)]))
  c.raise 0x0B01 1 o (u32 epoch ++ u32 seq) (audParty o)

/-- Statements whose cut lies at least one tick back are formed (Table 13.7 step 6, R418). -/
def Chip.formDue (c : Chip) (b : Nat) : Chip :=
  c.eachOf (c.meter.cuts.filter (fun p => decide (p.2 + ticksPer10s ≤ b))) (fun c p =>
    c.formStatement p.1 stmPending p.2 (Tab.get (c.img TARIFF 0) c.meter.cutTariff p.1))

/-- An eviction's statement (R416): the counters of the last sealed tick, final without a plot signature. -/
def Chip.evictStatement (c : Chip) (p : Nat) : Chip := c.formStatement p stmEvicted c.meter.lastEnd (c.img TARIFF 0)

/-- `STATEMENT_EXPIRY`: a statement still PENDING `STMT_EXPIRY_D` days after its cut. -/
def Chip.statementExpiry (c : Chip) (o : Nat) : Chip :=
  if c.stmtState o = stmPending
    ∧ c.getF EPOCH_STATEMENT o EPOCH_STATEMENT.CUT + c.getF METERING_CFG 0 METERING_CFG.STMT_EXPIRY_D * 86400 * ticksPerSecond ≤ c.now then
    c.upd EPOCH_STATEMENT o [(EPOCH_STATEMENT.STATE, stmUnsigned)]
  else c

def epochCutSpec : CmdSpec where
  opcode := 0x0B00
  classes := [2]
  who := Who.estateOnly
  len := fun n => n == 12

/-- `EPOCH_CUT`. -/
def Chip.epochCut (c : Chip) (h : Hdr) (o cut : Nat) : Chip :=
  c.command h epochCutSpec (fun _ c =>
    let at_ := if cut = 0 then (c.now / ticksPerQuarter + 1) * ticksPerQuarter else cut
    checks c [
      (decide (256 < o), stBadParam),
      (h.prsv != 0 || badTime cut || decide (at_ % ticksPerQuarter ≠ 0) || decide (at_ ≤ c.now)
        || decide (c.now + 31 * 86400 * ticksPerSecond < at_), stBadParam),
      (c.stmtState o == stScheduled || c.stmtState o == stmPending
        || (decide (o < 256) && (c.slotState o == slEmpty || c.slotState o == slWiping)), stBadState)]
      (fun _ =>
        let c := c.upd EPOCH_STATEMENT o [(EPOCH_STATEMENT.STATE, stScheduled)]
        { chip := { c with meter.cuts := Tab.ins o at_ (Tab.del o c.meter.cuts) }, data := u64 at_ }))

def epochSignSpec : CmdSpec where
  opcode := 0x0B01
  classes := [2]
  who := fun w => w.estateOnly || w.plotOf.isSome
  len := fun n => n == 72

/-- The credential instance and the public key with which an estate session was opened. -/
def Chip.estateKey (c : Chip) (si : Nat) : Nat × Nat :=
  let i := (c.ses si).index
  (i, c.getF CRED_ESTATE i CRED_ESTATE.PUBKEY)

/-- `EPOCH_SIGN`: the signature is stored, and the statement closes once its parties have signed. -/
def Chip.epochSign (c : Chip) (h : Hdr) (o seq : Nat) (sig : Sig) : Chip :=
  c.command h epochSignSpec (fun x c =>
    let estate := x.who.estateOnly
    let key := if estate then (c.estateKey x.si).2 else (c.plotSecret o).key.getD 0
    let st := c.stmtState o
    let sigs := c.getF EPOCH_STATEMENT o EPOCH_STATEMENT.SIGS
    checks c [
      (decide (256 < o), stBadParam), (!estate && x.who.plotOf != some o, stDenied),
      (h.prsv != 0 || !Sig.verifies sig key, stBadParam),
      ((st != stmPending && st != stmEvicted) || c.getF EPOCH_STATEMENT o EPOCH_STATEMENT.STMT_SEQ != seq
        || (!estate && st == stmEvicted) || sigs.testBit (if estate then 0 else 1), stBadState)]
      (fun _ =>
        let sigs := setBit sigs (if estate then 0 else 1)
        let c := c.upd EPOCH_STATEMENT o ([(EPOCH_STATEMENT.SIGS, sigs)] ++ (if estate then
          [(EPOCH_STATEMENT.SIG_ESTATE, sig.bytes), (EPOCH_STATEMENT.ESTATE_CRED, (c.estateKey x.si).1)]
          else [(EPOCH_STATEMENT.SIG_PLOT, sig.bytes)]))
        let closes := st == stmPending && (sigs == 3 || (o == estateParty && sigs == 1))
        let c := if closes then
            (c.upd EPOCH_STATEMENT o [(EPOCH_STATEMENT.STATE, stmClosed)]).raise 0x0B02 1 o
              (u32 (c.getF EPOCH_STATEMENT o EPOCH_STATEMENT.EPOCH) ++ u8 stmClosed ++ rsvBytes 3) (audParty o)
          else c
        { chip := c, data := u8 (c.stmtState o) ++ u8 sigs ++ rsvBytes 2 }))

/-! ## Checkpoints (R413, R462) -/

/-- The sectors still in use. -/
def Chip.ringLeft (c : Chip) : List Nat :=
  (List.range 16).filter (fun k => !(c.getF STORE_STATUS 0 STORE_STATUS.RING_RETIRED).testBit k)

/-- The sector after one, in ascending order, wrapping. -/
def Chip.ringAfter (c : Chip) (k : Nat) : Nat :=
  match c.ringLeft.find? (fun j => decide (k < j)) with
  | some j => j
  | none => c.ringLeft.headD k

def Chip.ckFail (c : Chip) : Chip :=
  c.upd METERING_STATUS 0 [(METERING_STATUS.FLAGS, setBit (c.getF METERING_STATUS 0 METERING_STATUS.FLAGS) 1)]

/-- A sector is retired (R462). -/
def Chip.ringRetire (c : Chip) (k : Nat) : Chip :=
  let m := setBit (c.getF STORE_STATUS 0 STORE_STATUS.RING_RETIRED) k
  let c := c.upd STORE_STATUS 0 [(STORE_STATUS.RING_RETIRED, m)]
  let c := { c with store.ring := Tab.del k c.store.ring }
  c.raise 0x0D07 1 k (u16 m ++ rsvBytes 2) (audOps scDiag)

/-- The erase of the next sector begins in the background: what it held is gone. -/
def Chip.ringErase (c : Chip) (k : Nat) : Chip :=
  { c with store.ringNext := k, store.ringErased := false, store.ring := Tab.del k c.store.ring }

/-- The checkpoint that waits is written once neither a store nor a bank erase runs and its sector is erased; `fails` says that the sector's
program does not verify. -/
def Chip.ckWrite (c : Chip) (fails : Bool) : Chip :=
  match c.store.ckWait with
  | none => c
  | some ck =>
    let s := c.getF STORE_STATUS 0 STORE_STATUS.STSTATE
    if c.ringLeft.length < 4 then { c with store.ckWait := none }.ckFail
    else if s = 3 ∨ s = 4 ∨ s = 7 ∨ ¬ c.store.ringErased then c
    else
      let k := c.store.ringNext
      if fails then
        let c := (c.ringRetire k).ckFail
        c.ringErase (c.ringAfter k)
      else
        let c := { c with store.ckWait := none, store.ring := Tab.ins k ck (Tab.del k c.store.ring) }
        (c.upd METERING_STATUS 0 [(METERING_STATUS.CK_SEQ, ck.seq)]).ringErase (c.ringAfter k)

/-- `RING_SECTOR_ERASE_DONE`: the erase verifies, or the sector is retired and the next one is erased. -/
def Chip.ringSectorEraseDone (c : Chip) (ok fails : Bool) : Chip :=
  if c.store.ringErased then c
  else if ok then Chip.ckWrite { c with store.ringErased := true } fails
  else
    let k := c.store.ringNext
    let c := c.ringRetire k
    (c.ringErase (c.ringAfter k)).ckWrite fails

/-- The growth of the counters since the last metering store. A sum that has fallen, as the estate's may under R401, gives no stated
increment. -/
def Chip.increments (c : Chip) : List (Nat × Nat) :=
  (List.range 771).filterMap (fun i =>
    let v := c.kindTotal (i / 3) (i % 3)
    let b := Tab.get 0 c.meter.base i
    if v = b then none else some (i, if v < b then (Config.unstated 413 [i, v, b]).toNat % 2 ^ 32 else v - b))

/-- A checkpoint is taken at a quarter-hour; an increment too large for its field asks for a store instead (R413). -/
def Chip.checkpoint (c : Chip) (b : Nat) (fails : Bool) : Chip :=
  let inc := c.increments
  if inc.any (fun p => decide (0xFFFFFFFF < p.2)) then c.requestStore 4
  else
    let raws := (List.range 32).filterMap (fun m => (c.mreg m).raw.map (fun r => (m, r)))
    let ck : Ckpt := { seq := (c.getF METERING_STATUS 0 METERING_STATUS.CK_SEQ + 1) % 2 ^ 32,
                       base := c.getF METERING_STATUS 0 METERING_STATUS.MSEQ, time := b, raw := raws, inc := inc }
    Chip.ckWrite { c with store.ckWait := some ck } fails

/-- Step 6 of Table 13.7: the boundary whose polls have ended takes its checkpoint, if it is a quarter-hour, and forms the statements that
are due. -/
def Chip.afterPolls (c : Chip) : Chip :=
  match c.sense.after with
  | none => c
  | some (b, fails) =>
    let c := { c with sense.after := none }
    let c := if b % ticksPerQuarter = 0 then c.checkpoint b fails else c
    c.formDue b

/-! ## The Modbus master (R360, R361, R363) -/

/-- The polls of the running tick have ended: step 6 follows. -/
def Chip.pollsDone (c : Chip) : Chip :=
  if c.sense.pollTick = some c.meter.tickAt ∧ c.sense.line.isNone ∧ c.sense.todo.isEmpty then c.afterPolls else c

def Chip.smeter (c : Chip) (m : Nat) : Meter := Tab.get {} c.sense.meter m
def Chip.setSmeter (c : Chip) (m : Nat) (x : Meter) : Chip := { c with sense.meter := Tab.set {} c.sense.meter m x }

def Chip.meterEn (c : Chip) (m : Nat) : Bool := c.getB METER_CFG m METER_CFG.EN

/-- The next request goes onto the line if it is free. -/
def Chip.nextPoll (c : Chip) : Chip :=
  match c.sense.line with
  | some _ => c
  | none =>
    match c.sense.todo with
    | [] => c
    | p :: rest => { c with sense.todo := rest, sense.line := some p }

/-- The tick that ends is judged for a meter it was to poll (R361). -/
def Chip.judgeMissed (c : Chip) (m : Nat) : Chip :=
  let x := c.smeter m
  if !x.due ∨ ¬ c.meterEn m then c
  else if x.good then c.setSmeter m {}
  else
    let late := c.sense.todo.any (fun p => p.meter == m && !p.bind)
    let c := c.incSat METER_STATUS m METER_STATUS.FAIL_CNT METER_STATUS.SAT 0
    let c := if late then c.incSat METER_STATUS m METER_STATUS.POLL_LATE METER_STATUS.SAT 2 else c
    let c := c.setSmeter m { missed := min 3 (x.missed + 1) }
    if x.missed + 1 = 3 then
      let c := c.upd METER_STATUS m [(METER_STATUS.STATE, 2)]
      c.raise 0x0905 2 m (u8 2 ++ u8 (c.getF METER_STATUS m METER_STATUS.EXC) ++ u16 (min 0xFFFF (c.getF METER_STATUS m METER_STATUS.FAIL_CNT))) audEstate
    else c

/-- `METER_POLL`: once in each metering tick, the last tick's misses are judged and the enabled meters are queued in ascending
number; during a tier hold polling pauses (Table 11.8). -/
def Chip.meterPoll (c : Chip) : Chip :=
  if !c.meter.on ∨ ¬ c.meteringAble ∨ c.sense.pollTick = some c.meter.tickAt then c
  else
    let c := c.each 32 Chip.judgeMissed
    let ms := (List.range 32).filter c.meterEn
    let c := c.eachOf ms (fun c m => c.setSmeter m { c.smeter m with due := true, good := false })
    let todo := if c.boot.hold.isSome then [] else ms.flatMap (fun m => { meter := m, bind := false } ::
      (if c.getF METER_CFG m METER_CFG.BIND_QTY = 0 then [] else [{ meter := m, bind := true }]))
    Chip.pollsDone (Chip.nextPoll { c with sense.pollTick := some c.meter.tickAt, sense.todo := todo })

/-- A failed attempt: another one, or the next request (R361). -/
def Chip.pollFailed (c : Chip) (p : Poll) : Chip :=
  if p.tries ≤ c.getF RS485_CFG 0 RS485_CFG.RETRIES then { c with sense.line := some { p with tries := p.tries + 1 } }
  else Chip.pollsDone (Chip.nextPoll { c with sense.line := none })

/-- `MODBUS_TIMEOUT`: no good response within `TIMEOUT_MS`. -/
def Chip.modbusTimeout (c : Chip) : Chip :=
  match c.sense.line with
  | some p => c.pollFailed p
  | none => c

/-- The registers of an energy reading, in `WORD_ORDER`. -/
def energyOf (low : Bool) (regs : List Nat) : Nat := (if low then regs.reverse else regs).foldl (fun v r => v * 65536 + r % 65536) 0

/-- The bound quantity of a response (R363): s16 times a power of ten, as fx32. -/
def bindValue (reg : Nat) (scale : Int) : Int :=
  let v := toSigned 16 reg * 65536
  fxLimit (if 0 ≤ scale then v * (10 ^ scale.toNat : Nat) else divFree 363 v (10 ^ scale.natAbs : Nat))

/-- `MODBUS_RESPONSE`: a frame received while a request is on the line: its address, function, whether its CRC is right, and its
registers (of an exception response, the code). -/
def Chip.modbusResponse (c : Chip) (addr func : Nat) (crcOk : Bool) (regs : List Nat) : Chip :=
  match c.sense.line with
  | none => c
  | some p =>
    let m := p.meter
    let f := c.getF METER_CFG m
    let fn := if c.getB METER_CFG m METER_CFG.FUNC4 then 4 else 3
    if !crcOk then c.incSat METER_STATUS m METER_STATUS.CRC_ERR_CNT METER_STATUS.SAT 1
    else if addr ≠ f METER_CFG.ADDR then c
    else if func = 0x80 + fn ∧ regs.length = 1 then
      (c.upd METER_STATUS m [(METER_STATUS.EXC, regs.headD 0 % 256)]).pollFailed p
    else if func ≠ fn ∨ regs.length ≠ (if p.bind then 1 else f METER_CFG.ENERGY_WORDS) then c
    else if p.bind then
      let c := c.queueUpdate 5 m (bindValue (regs.headD 0) (c.getS METER_CFG m METER_CFG.BIND_SCALE)) c.now
      Chip.pollsDone (Chip.nextPoll { c with sense.line := none })
    else
      let c := c.setSmeter m { c.smeter m with good := true, missed := 0 }
      let c := c.meterReading m (energyOf (c.getB METER_CFG m METER_CFG.WORD_ORDER) regs)
      Chip.pollsDone (Chip.nextPoll { c with sense.line := none })

/-- `METER_CFG_WRITE` (R361): the status clears, `STATE` is OK while enabled; the next good reading gives no delta (R362). -/
def Chip.meterCfgWrite (c : Chip) (x : Ctx) (m ver img : Nat) : Res :=
  let w := METER_CFG.ENERGY_WORDS.get img
  c.setRecord x.h METER_CFG m ver img { may := x.who.estateOnly, bad := w != 2 && w != 4 }
    (fun c _ =>
      let c := (c.clearRec METER_STATUS m).upd METER_STATUS m [(METER_STATUS.STATE, if METER_CFG.EN.get img = 1 then 1 else 0)]
      let c := (c.setSmeter m {}).modMreg m (fun x => { x with raw := none, out := none, oacc := [] })
      let gone := fun (p : Poll) => p.meter == m
      let c := { c with sense.todo := c.sense.todo.filter (fun p => !gone p) }
      match c.sense.line with
      | some p => if gone p then Chip.nextPoll { c with sense.line := none } else c
      | none => c)

def Chip.rs485CfgWrite (c : Chip) (x : Ctx) (i ver img : Nat) : Res :=
  c.setRecord x.h RS485_CFG i ver img
    { may := x.who.estateOnly, bad := decide (4 < RS485_CFG.BAUD.get img) || decide (2 < RS485_CFG.PARITY.get img) } (fun c _ => c)

/-! ## The metering tick (R410) -/

/-- The maps, the weights and, at a full hour, the interval length take what their records hold (R397, R407). -/
def Chip.takeMeterMaps (c : Chip) (b : Nat) : Chip :=
  let maps := (List.range 32).map (fun m => (m, c.img METER_MAP m))
  { c with meter.maps := maps, meter.weights := c.img METER_WEIGHTS 0,
           meter.len := if b % (3600 * ticksPerSecond) = 0 ∨ c.meter.len = 0 then c.intervalLen else c.meter.len }

/-- The images that non-owners are shown until the next quarter-hour, and the tariffs of the cuts at this instant. -/
def Chip.meterQuarter (c : Chip) (b : Nat) : Chip :=
  { c with meter.lastQ := (c.recs.filter (fun p => p.1 % 0x10000 == PLOT_ENERGY.id)), meter.lastQAt := b,
           meter.cutTariff := c.meter.cuts.foldl (fun t p => if p.2 = b then Tab.ins p.1 (c.img TARIFF 0) (Tab.del p.1 t) else t) c.meter.cutTariff }

/-! ## Outages (R411, R412, R414) -/

/-- The unit stops and its close record is formed (R411): at a power failure the partial tick is sealed and f is this instant, at a chip reset
or a fall of the tier f is the end of the last sealed tick. -/
def Chip.meteringClose (c : Chip) (powerFail : Bool) : Chip :=
  if !c.meter.on then c
  else
    let f := if powerFail then c.now else c.meter.lastEnd
    let c := if powerFail then c.sealTick else c
    let c := c.settleAwait
    { c with meter.on := false, meter.close := some f, meter.lastEnd := f, sense.todo := [], sense.line := none, sense.after := none }

/-- The weights of the parties in stored accumulators: the bands collapsed into one (R411). -/
def partyWeights (acc : List (Nat × Nat)) : List (Nat × Nat) := acc.foldl (fun t p => addTo t (p.1 / 8) p.2) []

/-- The newest checkpoint that builds on the loaded image (R414). -/
def Chip.newestCkpt (c : Chip) : Option Ckpt :=
  (c.store.ring.filter (fun p => p.2.base == c.getF METERING_STATUS 0 METERING_STATUS.MSEQ)).foldl (fun b p =>
    match b with
    | some x => if x.seq < p.2.seq then some p.2 else some x
    | none => some p.2) none

/-- Checkpoint recovery (R414). -/
def Chip.recoverCkpt (c : Chip) (ck : Ckpt) : Chip :=
  let c := c.eachOf ck.inc (fun c p => c.bookRecovered (p.1 / 3) (p.1 % 3) p.2)
  let c := c.each 32 (fun c m =>
    let kind := c.meterKind m
    let w := (ck.inc.filter (fun p => p.1 % 3 + 1 == kind)).map (fun p => (p.1 / 3, p.2))
    c.setMreg m { out := (ck.raw.find? (fun p => p.1 == m)).map (fun p => p.2), oacc := w })
  let c := { c with meter.cur := none, meter.await := none }
  let c := c.upd METERING_STATUS 0 [(METERING_STATUS.FLAGS, setBit (c.getF METERING_STATUS 0 METERING_STATUS.FLAGS) 0)]
  c.raise 0x0B05 2 0 (u32 ck.seq ++ u64 ck.time) audEstate

/-- The unit runs again (R411): the frozen interval closes `SHORT` with its duration up to f, every meter keeps its stored raw value for the
outage delta, and the first tick starts a `PARTIAL` interval. `powerUp` says that the image was loaded, so checkpoints count (R414). -/
def Chip.meteringStart (c : Chip) (powerUp : Bool) : Chip :=
  if c.meter.on ∨ ¬ c.storeWorks then c
  else
    let f := c.meter.close.getD (c.getF STORE_STATUS 0 STORE_STATUS.LAST_COMMIT)
    let keep := fun (c : Chip) => c.each 32 (fun c m =>
      let x := c.mreg m
      match x.raw with
      | some r => c.setMreg m { x with raw := none, out := some r, oacc := partyWeights x.acc, acc := [], from_ := none }
      | none => c.setMreg m { x with acc := [], from_ := none })
    let c := match (if powerUp then c.newestCkpt else none) with
      | some ck => c.recoverCkpt ck
      | none =>
        let c := (c.settleAwait.endInterval f true).settleAwait
        keep c
    let c := { c with meter.on := true, meter.close := none, meter.len := 0, time.stepFrom := none, sense.pollTick := none,
                      sense.meter := [], sense.after := none }
    c.eachOf ((List.range 32).filter c.meterEn) (fun c m => c.upd METER_STATUS m [(METER_STATUS.STATE, 1)])

/-- A tick boundary: B is the last multiple of 10 s that the RTC has reached; the steps of Table 13.7. Step 6 follows the polls of step 5, or
at the latest the next boundary; `fails` is told to the checkpoint's write. -/
def Chip.tickBoundary (c : Chip) (fails : Bool) : Chip :=
  let b := c.now / ticksPer10s * ticksPer10s
  if c.meter.tickAt = b ∧ c.meter.len ≠ 0 then c
  else
    let quarter := decide (b % ticksPerQuarter = 0)
    let first := decide (c.meter.len = 0)
    let c := c.afterPolls
    let c := if first then c else { c.sealTick with meter.lastEnd := b }
    let c := if quarter then c.meterQuarter b else c
    let c := c.settleAwait
    let c := match c.time.stepFrom with
      | some t => { c.endInterval t true with time.stepFrom := none }
      | none => c
    let c := match c.meter.cur with
      | some i => if i.fin ≤ b then c.endInterval i.fin false else c
      | none => c
    let c := c.takeMeterMaps b
    let c := { c with meter.band := tariffBand (c.img TARIFF 0) (c.localAt b), meter.tickAt := b }
    let c := c.upd METERING_STATUS 0 [(METERING_STATUS.LAST_TICK, b)]
    let c := match c.meter.cur with
      | some _ => c
      | none => c.startInterval b first
    let c := if decide (b % (86400 * ticksPerSecond) = 0) && c.getB METERING_CFG 0 METERING_CFG.DAILY_STORE then c.requestStore 3 else c
    if first then c.formDue b else { c with sense.after := some (b, fails) }

/-- `METERING_TICK`: a unit that may run but has not started starts. -/
def Chip.meteringTick (c : Chip) (fails : Bool) : Chip :=
  if !c.meteringAble then c else (c.meteringStart false).tickBoundary fails

/-! ## Records (R397, R404, R409) -/

/-- A `METER_MAP` image serves what its kind does not, or what another meter of its kind serves (R397). -/
def Chip.meterMapBad (c : Chip) (m img : Nat) : Bool :=
  let kind := METER_MAP.KIND.get img
  let chs := METER_MAP.CH_MASK.get img
  let fgs := METER_MAP.FG_MASK.get img
  let others := (List.range 32).filter (fun k => k != m && c.getF METER_MAP k METER_MAP.KIND == kind)
  (decide (kind = 1 ∨ kind = 2) && fgs != 0) || (kind == 3 && chs != 0) || (kind == 0 && (chs != 0 || fgs != 0))
    || (decide (kind = 1 ∨ kind = 2) && others.any (fun k => c.getF METER_MAP k METER_MAP.CH_MASK &&& chs != 0))
    || (kind == 3 && others.any (fun k => c.getF METER_MAP k METER_MAP.FG_MASK &&& fgs != 0))

/-- `METER_MAP_WRITE`: the accumulation ends and the residues clear; the map applies from the next tick. -/
def Chip.meterMapWrite (c : Chip) (x : Ctx) (m ver img : Nat) : Res :=
  c.setRecord x.h METER_MAP m ver img { may := x.who.estateOnly, bad := c.meterMapBad m img } (fun c _ => c.meterBreak m)

def Chip.meterWeightsWrite (c : Chip) (x : Ctx) (i ver img : Nat) : Res :=
  c.setRecord x.h METER_WEIGHTS i ver img { may := x.who.estateOnly } (fun c _ => c)

/-- `TARIFF` (R404): an entry's minute, reserved day bit and band in their ranges. -/
def Chip.tariffWrite (c : Chip) (x : Ctx) (i ver img : Nat) : Res :=
  let bad := (List.range 32).any (fun j => decide (1439 < (TARIFF.MINUTE j).get img) || decide (127 < (TARIFF.DAYS j).get img)
    || decide (7 < (TARIFF.BAND j).get img))
  c.setRecord x.h TARIFF i ver img { may := x.who.estateOnly, bad := bad } (fun c _ => c)

def Chip.meteringCfgWrite (c : Chip) (x : Ctx) (i ver img : Nat) : Res :=
  c.setRecord x.h METERING_CFG i ver img { may := x.who.estateOnly } (fun c _ => c)

end Sys2Proof.Machine
end

