-- ==== Sys2Proof/Machine/Memory.lean ====
section
/-!
DEFINITION. The shadow SRAM and the flash banks as bytes (R449 to R451): reading and writing them, the requests the units
make to them, and the plant area of Table 15.3. The sealed areas are held as records (`Sealed`); their bytes are never listed.
-/

namespace Sys2Proof.Machine

/-- Bytes of the shadow SRAM: 512 pages of 256. -/
abbrev shadowSize : Nat := 0x20000

/-- A byte list in its canonical form: addresses strictly rising and inside the image, no entry zero. -/
def cellsWf (l : List Host.Cell) : Bool := Tab.wf (0 : Byte) l && l.all (fun p => decide (p.1 < shadowSize))

/-- Every list of the memory is in canonical form. -/
def Mem.wf (m : Mem) : Bool := cellsWf m.sram && cellsWf m.snap && cellsWf m.bankA && cellsWf m.bankB

/-- One byte; an unlisted byte is zero. -/
def byteAt (l : List Host.Cell) (a : Nat) : Byte := Tab.get (0 : Byte) l a

/-- The value of `n` bytes from an address, least significant first (R7). -/
def valueAt (l : List Host.Cell) (a n : Nat) : Nat := leValue ((List.range n).map (fun k => (byteAt l (a + k)).toNat))

/-- Bytes written at ascending addresses: a write that runs past a page goes on in the next one (R451). -/
def writeBytes : List Host.Cell → Nat → List Nat → List Host.Cell
  | l, _, [] => l
  | l, a, b :: bs => writeBytes (Tab.set (0 : Byte) l a (BitVec.ofNat 8 b)) (a + 1) bs

/-- A write that would run past the last byte has no effect (R451). -/
def writeInside (l : List Host.Cell) (a : Nat) (bs : List Nat) : List Host.Cell :=
  if a + bs.length ≤ shadowSize then writeBytes l a bs else l

/-- A bank's bytes: 0 A, 1 B. -/
def Mem.bank (m : Mem) (b : Nat) : List Host.Cell := if b = 0 then m.bankA else m.bankB
def Mem.setBank (m : Mem) (b : Nat) (l : List Host.Cell) : Mem := if b = 0 then { m with bankA := l } else { m with bankB := l }

/-- The bytes of one page. -/
def pageBytes (l : List Host.Cell) (page : Nat) : List Nat := (List.range 256).map (fun k => (byteAt l (256 * page + k)).toNat)

/-- One request to the memory. -/
def Mem.apply (m : Mem) : MemOp → Mem
  | .write a bs => { m with sram := writeInside m.sram a bs }
  | .snapshot => { m with snap := m.sram }
  | .commit b => m.setBank b m.snap
  | .eraseBank b => m.setBank b []
  | .load b => { m with sram := m.bank b }
  | .reloadPage b p => { m with sram := writeInside m.sram (256 * p) (pageBytes (m.bank b) p) }
  | .zero => { m with sram := [] }

/-- The requests of a step, in their order. -/
def Mem.applyAll (m : Mem) (l : List MemOp) : Mem := l.foldl Mem.apply m

/-! ## The plant area (Table 15.3) -/

/-- The three fan records, which live on VAON (R330, R450). -/
def isFanRecord (r : RecDesc) : Bool := r.id == FAN_PORT_CFG.id || r.id == FAN_GROUP_CFG.id || r.id == FAN_GLOBAL.id

/-- The writes that put a record's image into the plant area. -/
def plantWrite (r : RecDesc) (inst img : Nat) : List MemOp :=
  match plantAddr r inst with
  | some a => [.write a (leBytes r.len img)]
  | none => []

/-- The initial image (R460, R470): `LAYOUT` 1 and every record of Table 15.3 at its reset value. -/
def initialOps : List MemOp :=
  [.zero, .write 0 (leBytes 2 1)] ++ plantRecords.flatMap (fun p => plantWrite p.1 p.2 (p.1.resetImg p.2))

def initialImage : List Host.Cell := (Mem.applyAll {} initialOps).sram

/-- A record of the plant area takes the value its bytes hold. -/
def Chip.takePlant (c : Chip) (l : List Host.Cell) (r : RecDesc) (inst : Nat) : Chip :=
  match plantAddr r inst with
  | some a => c.setImg r inst (valueAt l a r.len &&& r.coverMask)
  | none => c

end Sys2Proof.Machine
end

