-- ==== Sys2Proof/Machine/Store.lean ====
section
/-!
DEFINITION. The shadow store (R449 to R471): the sealed areas, the journal, stores from their snapshot to the commit, the background
erases, the store at a power failure or a reset, margin reads, the power-up actions, page reloads and the raw commands.
-/

namespace Sys2Proof.Machine

/-! ## States (Tables 15.7, 15.11) -/

abbrev ssLoading : Nat := 0
abbrev ssBlank : Nat := 1
abbrev ssReady : Nat := 2
abbrev ssStoring : Nat := 3
abbrev ssErasing : Nat := 4
abbrev ssMargin : Nat := 5
abbrev ssDegraded : Nat := 6
abbrev ssHalted : Nat := 7

abbrev bkBlank : Nat := 0
abbrev bkCommitted : Nat := 1
abbrev bkPartial : Nat := 2
abbrev bkErasing : Nat := 3
abbrev bkRetired : Nat := 4

def Chip.ststate (c : Chip) : Nat := c.getF STORE_STATUS 0 STORE_STATUS.STSTATE
def Chip.bstate (c : Chip) (b : Nat) : Nat := c.getF BANK_INFO b BANK_INFO.BSTATE

/-- A new store state; cause [12] of Table 17.7 stands while it is BLANK or DEGRADED. -/
def Chip.setStstate (c : Chip) (s : Nat) : Chip :=
  (c.upd STORE_STATUS 0 [(STORE_STATUS.STSTATE, s)]).putCause 12 (s == ssBlank || s == ssDegraded)

def Chip.storeSeq (c : Chip) : Nat := c.getF STORE_STATUS 0 STORE_STATUS.SEQ

/-- The bank of the newest commit. -/
def Chip.newestBank (c : Chip) : Option Nat :=
  [0, 1].find? (fun b => c.bstate b == bkCommitted && c.getF BANK_INFO b BANK_INFO.SEQ == c.storeSeq)

/-- The spare bank: the bank that does not hold the newest commit, A where neither does (R453). -/
def Chip.spareBank (c : Chip) : Nat :=
  match c.newestBank with
  | some 0 => 1
  | some _ => 0
  | none => if c.bstate 0 = bkBlank ∨ c.bstate 1 ≠ bkBlank then 0 else 1

/-! ## Sealed areas -/

/-- The records of the Gatehouse, counter and metering areas (Table 15.2). -/
def sealedIds : List Nat :=
  [CRED_ESTATE.id, CRED_OPERATOR.id, CRED_FEEDER.id, PRIVACY_CFG.id, OCC_GROUP.id, PLOT_SLOT.id, RAW_WORDS.id, PLOT_ENERGY.id, PLOT_DEMAND.id,
   EPOCH_STATEMENT.id]

def isSealed (key : Nat) : Bool := sealedIds.contains (key % 0x10000)

/-- The sealed areas as they stand. -/
def Chip.sealedNow (c : Chip) : Sealed :=
  { recs := c.recs.filter (fun p => isSealed p.1), plots := c.sec.plots, policy := c.boot.policy, meter := c.meter }

def Chip.bankSealed (c : Chip) (b : Nat) : Sealed := if b = 0 then c.store.sealedA else c.store.sealedB
def Chip.setBankSealed (c : Chip) (b : Nat) (x : Sealed) : Chip :=
  if b = 0 then { c with store.sealedA := x } else { c with store.sealedB := x }

/-- The records of an image take the place of those held. -/
def Chip.restoreRecs (c : Chip) (recs : List (Nat × Nat)) (p : Nat → Bool) : Chip :=
  let keys := ((c.recs.map Prod.fst) ++ (recs.map Prod.fst)).filter p
  c.eachOf keys (fun c k => c.restoreRec k (Tab.get (resetOfKey k) recs k))

/-- The sealed areas take what an image holds. -/
def Chip.restoreSealed (c : Chip) (x : Sealed) : Chip :=
  let c := c.restoreRecs x.recs isSealed
  { c with sec.plots := x.plots, boot.policy := x.policy, meter := { x.meter with on := false } }

/-! ## Journal (R459) -/

/-- The latest entry of a bank in the current half. -/
def Chip.latestEntry (c : Chip) (b : Nat) : List JEntry :=
  match c.store.journal.reverse.find? (fun e => e.bank == b) with
  | some e => [e]
  | none => []

/-- Append an entry with the next `ESEQ`. -/
def Chip.journalAppend (c : Chip) (kind bank : Nat) : Chip :=
  let n := c.store.eseq + 1
  { c with store.eseq := n, store.journal := c.store.journal ++ [⟨kind, bank, n, c.storeSeq⟩] }

/-- A full half gives way to the other one: `HALF_OPEN`, then the latest entry of each bank. -/
def Chip.journalTurn (c : Chip) : Chip :=
  if c.store.journal.length < 256 then c
  else
    let keep := c.latestEntry 0 ++ c.latestEntry 1
    let c := Chip.journalAppend { c with store.journal := [] } 3 0xFF
    c.eachOf keep (fun c e => c.journalAppend e.kind e.bank)

def Chip.journalWrite (c : Chip) (kind bank : Nat) : Chip := c.journalTurn.journalAppend kind bank

/-- The bank's latest `ERASE_INTENT` is followed by no `ERASE_DONE`. -/
def Chip.openIntent (c : Chip) (b : Nat) : Bool := (c.latestEntry b).any (fun e => e.kind == 1)

/-! ## Requests and stores (R452, R453) -/

/-- A tier hold runs (R35). -/
def Chip.held (c : Chip) : Bool := c.boot.hold.isSome

/-- The causes that may be served now: all in Full service, power-fail and reset below it, none while a tier hold runs (R467). -/
def Chip.storeMask (c : Chip) : Nat := if c.held then 0 else if c.level = lvFull then 0xFFFF else 6

def Chip.pendingStore (c : Chip) : Nat := c.getF STORE_STATUS 0 STORE_STATUS.PENDING_CAUSE

/-- `SHADOW_MIN` takes the values that wait for the next store (R123). -/
def Chip.takeShadowMin (c : Chip) : Chip :=
  let l := c.boot.secRun
  Chip.eachOf { c with boot.secRun := [] } l (fun c p =>
    (c.upd SECURITY_STATUS 0 [(SECURITY_STATUS.SHADOW_MIN p.1, p.2)]).memOp (.write (2 + 2 * p.1) (leBytes 2 p.2)))

/-- What waits for a store (R102, R118) is in the one whose snapshot follows it, or again in none. -/
def Chip.stages (c : Chip) (a b : Nat) : Chip :=
  let e := fun (x : Evict) => if x.stage = a then { x with stage := b } else x
  let u := fun (x : Unlock) => if x.stage = a then { x with stage := b } else x
  { c with sec.evicting := c.sec.evicting.map e, sec.unlockOp := c.sec.unlockOp.map u }

/-- The snapshot of a store that serves the causes of a mask (R453 step 2). -/
def Chip.storeBegin (c : Chip) (mask : Nat) : Chip :=
  let c := c.takeShadowMin.stages 1 2
  let p := c.pendingStore
  let b := c.spareBank
  let c := { c with store.carry := p &&& mask, store.snapTime := c.now, store.snapClose := c.meter.close.isSome, store.target := b,
                    store.serving := c.store.serving ++ c.store.waiting, store.waiting := [], store.snapSealed := c.sealedNow,
                    meter.snapBase := c.totals }
  let c := c.upd STORE_STATUS 0 [(STORE_STATUS.BUSY, 1), (STORE_STATUS.PENDING_CAUSE, maskOff p mask)]
  let c := c.upd BANK_INFO b [(BANK_INFO.BSTATE, bkPartial)]
  (c.setStstate ssStoring).memOp .snapshot

/-- The older bank is erased in the background (R453 step 5). -/
def Chip.eraseBegin (c : Chip) (b : Nat) : Chip :=
  let c := c.journalWrite 1 b
  let c := c.upd BANK_INFO b [(BANK_INFO.BSTATE, bkErasing), (BANK_INFO.SEQ, 0), (BANK_INFO.CAUSE, 0), (BANK_INFO.LAYOUT, 0),
    (BANK_INFO.SNAP_TIME, 0), (BANK_INFO.DATA_CRC, 0), (BANK_INFO.CLOSE, 0)]
  let c := c.setBankSealed b {}
  Chip.memOp { c with store.erasing := some b } (.eraseBank b)

/-- The image is committed (R453 steps 4 and 5). -/
def Chip.storeCommit (c : Chip) : Chip :=
  let st := c.store
  let b := st.target
  let seq := if st.initSeq then 1 else c.storeSeq + 1
  let crc := c.freeVal 32
  let c := c.spend
  let c := (c.memOp (.commit b)).setBankSealed b st.snapSealed
  let c := c.upd BANK_INFO b [(BANK_INFO.BSTATE, bkCommitted), (BANK_INFO.SEQ, seq), (BANK_INFO.CAUSE, st.carry), (BANK_INFO.LAYOUT, 1),
    (BANK_INFO.SNAP_TIME, st.snapTime), (BANK_INFO.DATA_CRC, crc), (BANK_INFO.CLOSE, if st.snapClose then 1 else 0)]
  let c := c.upd STORE_STATUS 0 [(STORE_STATUS.BUSY, 0), (STORE_STATUS.SEQ, seq), (STORE_STATUS.LAST_CAUSE, st.carry),
    (STORE_STATUS.LAST_COMMIT, st.snapTime)]
  let c := c.incSat STORE_STATUS 0 STORE_STATUS.STORE_CNT STORE_STATUS.SAT 0
  let c := c.upd METERING_STATUS 0 [(METERING_STATUS.MSEQ, seq)]
  let c := { c with store.serving := [], store.initSeq := false, store.carry := 0, store.snapSealed := {},
                    store.verifyFails := Tab.del b c.store.verifyFails, store.ckWait := none, meter.base := c.meter.snapBase }
  let c := c.eachOf st.serving (fun c k => c.finish (some k) stOk (u32 seq ++ u8 b ++ rsvBytes 3 ++ u64 st.snapTime))
  let c := c.raise 0x0D00 0 b (u32 seq ++ u16 st.carry ++ rsvBytes 2) (audOps scDiag)
  (c.eraseBegin (1 - b)).setStstate ssErasing

/-- A bank is retired (R461): every store that waits ends with `HW_FAULT`. -/
def Chip.retireBank (c : Chip) (b : Nat) : Chip :=
  let c := c.upd BANK_INFO b [(BANK_INFO.BSTATE, bkRetired)]
  let l := c.store.serving ++ c.store.waiting
  let c := { c with store.serving := [], store.waiting := [], store.erasing := none }
  let c := (c.upd STORE_STATUS 0 [(STORE_STATUS.BUSY, 0)]).setStstate ssDegraded
  let c := c.eachOf l (fun c k => c.finish (some k) stHwFault [])
  c.raise 0x0D06 2 b (u32 (c.getF BANK_INFO b BANK_INFO.FAIL_CNT)) (audOps scDiag)

/-- A page or the commit page (0x200) fails its verify: the store is requested again, and the second failure in a row retires the bank (R461). -/
def Chip.storeFail (c : Chip) (page : Nat) : Chip :=
  let c := c.stages 2 1
  let b := c.store.target
  let n := Tab.get 0 c.store.verifyFails b + 1
  let c := c.incSat BANK_INFO b BANK_INFO.FAIL_CNT BANK_INFO.SAT 1
  let c := c.upd STORE_STATUS 0 [(STORE_STATUS.BUSY, 0), (STORE_STATUS.PENDING_CAUSE, c.pendingStore ||| c.store.carry)]
  let c := { c with store.verifyFails := Tab.ins b n (Tab.del b c.store.verifyFails), store.carry := 0, store.snapSealed := {},
                    store.waiting := c.store.serving ++ c.store.waiting, store.serving := [] }
  let c := c.raise 0x0D01 2 b (u16 page ++ rsvBytes 2) (audOps scDiag)
  if 2 ≤ n then c.retireBank b else (c.eraseBegin b).setStstate ssErasing

/-- The spare bank is erased and a cause that may be served is pending; while the store is BLANK only an initial image is stored. -/
def Chip.storeDue (c : Chip) (mask : Nat) : Bool :=
  let s := c.ststate
  (c.pendingStore &&& mask != 0) && c.bstate c.spareBank == bkBlank
    && (s == ssReady || s == ssMargin || (s == ssBlank && c.store.initSeq))

/-- `STORE_START`. -/
def Chip.storeStart (c : Chip) : Chip := c.when (c.storeDue c.storeMask) (fun c => c.storeBegin c.storeMask)

/-- `STORE_COMMIT`: every page and the commit page verify, or `page` is the first that does not. -/
def Chip.storeCommitRow (c : Chip) (ok : Bool) (page : Nat) : Chip :=
  if c.ststate ≠ ssStoring then c else if ok then c.storeCommit else c.storeFail page

/-- An erase has verified: `ERASE_DONE`, and the store is READY unless it is BLANK or halted. -/
def Chip.eraseEnd (c : Chip) (b : Nat) : Chip :=
  let c := c.upd BANK_INFO b [(BANK_INFO.BSTATE, bkBlank)]
  let c := c.incSat BANK_INFO b BANK_INFO.ERASE_CNT BANK_INFO.SAT 0
  let c := Chip.journalWrite { c with store.erasing := none } 2 b
  if c.ststate = ssErasing then c.setStstate ssReady else c

/-- `BANK_ERASE_DONE`: the erase verifies or the bank is retired. A store that waited follows at once, a checkpoint that waited is
written (R468); `ckFails` says that its sector does not verify. -/
def Chip.bankEraseDone (c : Chip) (ok ckFails : Bool) : Chip :=
  match c.store.erasing with
  | none => c
  | some b =>
    if ok then
      let c := c.eraseEnd b
      let other := c.bstate (1 - b)
      let c := if c.ststate = ssBlank ∧ other ≠ bkBlank ∧ other ≠ bkRetired then c.eraseBegin (1 - b) else c
      c.storeStart.ckWrite ckFails
    else (c.incSat BANK_INFO b BANK_INFO.FAIL_CNT BANK_INFO.SAT 1).retireBank b

/-! ## Power failure and reset (R455 to R457) -/

/-- The store of a power failure (R455 step 4, R456): a running store goes on to its commit, a background erase is abandoned with its
intent open, otherwise a store with cause [1] runs if the spare bank is erased. -/
def Chip.storePowerFail (c : Chip) : Chip :=
  let s := c.ststate
  let c :=
    if s = ssStoring then c.storeCommit
    else if s = ssErasing then c
    else if (s = ssReady ∨ s = ssMargin) ∧ c.bstate c.spareBank = bkBlank then
      ((c.requestStore 1).storeBegin (c.storeMask ||| 2)).storeCommit
    else c
  let c := { c with store.erasing := none }
  if c.ststate = ssLoading then c else c.setStstate ssHalted

/-- The store of a chip reset or of a fall below Limited (R457): a running store and a background erase end first. -/
def Chip.storeReset (c : Chip) : Chip :=
  let c := if c.ststate = ssStoring then c.storeCommit else c
  let c := match c.store.erasing with
    | some b => if c.ststate = ssErasing then c.eraseEnd b else c
    | none => c
  if (c.ststate = ssReady ∨ c.ststate = ssMargin) ∧ c.bstate c.spareBank = bkBlank then
    ((c.requestStore 2).storeBegin (c.storeMask ||| 4)).storeCommit
  else c

/-- The shadow store domain is reset or loses VCORE: its counters go, the results that waited end, the flash stays. `RAW_FAIL` and the
lock live in the always-on domain (R465), retired ring sectors stay retired. -/
def Chip.storeOff (c : Chip) : Chip :=
  let l := c.store.serving ++ c.store.waiting
  let c := c.eachOf l (fun c k => c.finish (some k) stTierDown [])
  let keep := [(STORE_STATUS.RAW_FAIL, c.getF STORE_STATUS 0 STORE_STATUS.RAW_FAIL), (STORE_STATUS.RAW_LOCKED, c.getF STORE_STATUS 0 STORE_STATUS.RAW_LOCKED),
    (STORE_STATUS.RING_RETIRED, c.getF STORE_STATUS 0 STORE_STATUS.RING_RETIRED)]
  let c := { c with store.serving := [], store.waiting := [], store.erasing := none, store.carry := 0, store.initSeq := false,
                    store.snapSealed := {}, store.verifyFails := [], store.ckWait := none, act.loaded := false }
  let c := c.setImg STORE_STATUS 0 (setFields keep (STORE_STATUS.resetImg 0))
  c.endCause 12

/-! ## Margin reads (R463) -/

/-- The interval of the temperature band in force. -/
def marginInterval (band : Nat) : Nat :=
  (if band = 0 then 7 * 86400 else if band = 1 then 86400 else 21600) * ticksPerSecond

/-- `NEXT_MARGIN` follows the band. -/
def Chip.marginNext (c : Chip) : Chip :=
  c.upd STORE_STATUS 0 [(STORE_STATUS.NEXT_MARGIN,
    c.getF STORE_STATUS 0 STORE_STATUS.LAST_MARGIN + marginInterval (c.getF THERMAL_STATUS 0 THERMAL_STATUS.BAND))]

/-- `MARGIN_READ_START`: READY, in Full service, with no store to make and the read due. -/
def Chip.marginStart (c : Chip) : Chip :=
  c.when (c.ststate == ssReady && c.level == lvFull && !c.held && !c.storeDue c.storeMask
    && decide (c.getF STORE_STATUS 0 STORE_STATUS.NEXT_MARGIN ≤ c.now)) (fun c => c.setStstate ssMargin)

/-- Weak cells of one area: 0 bank, 1 commit page, 2 ring. -/
def Chip.weakCells (c : Chip) (area n : Nat) : Chip :=
  if n = 0 then c
  else
    let v := min (c.getF STORE_STATUS 0 STORE_STATUS.WEAK_CNT + n) 0xFFFFFFFF
    let s := c.getF STORE_STATUS 0 STORE_STATUS.SAT
    let c := c.upd STORE_STATUS 0 [(STORE_STATUS.WEAK_CNT, v), (STORE_STATUS.SAT, if v = 0xFFFFFFFF then setBit s 1 else s)]
    (c.requestStore 5).raise 0x0D04 1 0 (u8 area ++ rsvBytes 1 ++ u16 (min n 0xFFFF)) (audOps scDiag)

/-- `MARGIN_READ_DONE`: the weak cells found in the bank, the commit page and the ring. -/
def Chip.marginDone (c : Chip) (bank page ring : Nat) : Chip :=
  if c.ststate ≠ ssMargin then c
  else
    let c := c.setStstate ssReady
    let c := (c.upd STORE_STATUS 0 [(STORE_STATUS.LAST_MARGIN, c.now)]).marginNext
    ((c.weakCells 0 bank).weakCells 1 page).weakCells 2 ring

/-! ## Power-up (R460) -/

/-- The bank is wholly erased and the journal says so. -/
def Chip.repairBank (c : Chip) (b : Nat) : Chip :=
  let c := c.upd BANK_INFO b [(BANK_INFO.BSTATE, bkBlank), (BANK_INFO.SEQ, 0), (BANK_INFO.CAUSE, 0), (BANK_INFO.LAYOUT, 0),
    (BANK_INFO.SNAP_TIME, 0), (BANK_INFO.DATA_CRC, 0), (BANK_INFO.CLOSE, 0)]
  let c := c.incSat BANK_INFO b BANK_INFO.ERASE_CNT BANK_INFO.SAT 0
  ((c.setBankSealed b {}).memOp (.eraseBank b)).journalWrite 2 b

/-- The records of the plant area take the image's values; the fan records do so after a loss of VAON, and otherwise keep their own, from
which the plant area is rewritten (R450). -/
def Chip.loadPlant (c : Chip) (l : List Host.Cell) : Chip :=
  let kept := c.boot.fansLoaded
  let c := c.eachOf plantRecords (fun c p =>
    if isFanRecord p.1 && kept then { c with store.ops := c.store.ops ++ plantWrite p.1 p.2 (c.img p.1 p.2) } else c.takePlant l p.1 p.2)
  { c with boot.fansLoaded := true, act.loaded := true }

/-- The newest checkpoint's number. -/
def Chip.ringSeq (c : Chip) : Nat := c.store.ring.foldl (fun m p => max m p.2.seq) 0

/-- A bank is copied into the SRAM. -/
def Chip.loadBank (c : Chip) (m : Mem) (b : Nat) (fellBack : Bool) (erased : Nat) : Chip :=
  let seq := c.getF BANK_INFO b BANK_INFO.SEQ
  let time := c.getF BANK_INFO b BANK_INFO.SNAP_TIME
  let l := m.bank b
  let c := c.memOp (.load b)
  let c := (c.restoreSealed (c.bankSealed b)).loadPlant l
  let c := c.upd STORE_STATUS 0 [(STORE_STATUS.LOADED_BANK, b), (STORE_STATUS.FELL_BACK, if fellBack then 1 else 0), (STORE_STATUS.SEQ, seq),
    (STORE_STATUS.LAST_CAUSE, c.getF BANK_INFO b BANK_INFO.CAUSE), (STORE_STATUS.LAST_COMMIT, time)]
  let c := c.upd SECURITY_STATUS 0 ((List.range 3).map (fun i => (SECURITY_STATUS.SHADOW_MIN i, valueAt l (2 + 2 * i) 2)))
  let c := c.upd METERING_STATUS 0 [(METERING_STATUS.MSEQ, seq), (METERING_STATUS.CK_SEQ, c.ringSeq)]
  let c := { c with meter.base := c.totals }
  let c := c.marginNext
  let other := c.bstate (1 - b)
  let c := if c.bstate 0 = bkRetired ∨ c.bstate 1 = bkRetired then c.setStstate ssDegraded
    else if other = bkBlank then c.setStstate ssReady
    else (c.eraseBegin (1 - b)).setStstate ssErasing
  c.raise 0x0D02 1 b (u32 seq ++ u8 (if fellBack then 1 else 0) ++ u8 erased ++ rsvBytes 2 ++ u64 time) (audOps scDiag)

/-- No bank has a valid commit: the SRAM is zero. Banks that are not blank are erased in the background, A first. -/
def Chip.loadBlank (c : Chip) : Chip :=
  let c := (c.memOp .zero).restoreSealed {}
  let c := c.upd SECURITY_STATUS 0 ((List.range 3).map (fun i => (SECURITY_STATUS.SHADOW_MIN i, 0)))
  let c := c.upd METERING_STATUS 0 [(METERING_STATUS.MSEQ, 0), (METERING_STATUS.CK_SEQ, c.ringSeq)]
  let c := c.setStstate ssBlank
  let dirty := [0, 1].find? (fun b => c.bstate b != bkBlank && c.bstate b != bkRetired)
  let c := match dirty with
    | some b => c.eraseBegin b
    | none => c
  c.raise 0x0D03 2 0 [] (audOps scDiag)

/-- `SHADOW_POWER_UP`: the actions of R460. `badA` and `badB` say that a bank's commit is not valid although it was committed (an
uncorrectable error), `copyFails` that the first copy fails. -/
def Chip.shadowPowerUp (m : Mem) (c : Chip) (badA badB copyFails : Bool) : Chip :=
  if c.ststate ≠ ssLoading ∨ ¬ c.getB SUPPLY_STATUS 0 SUPPLY_STATUS.PLLA_LOCK then c
  else
    let open_ := [0, 1].filter (fun b => c.openIntent b && c.bstate b != bkRetired)
    let c := c.eachOf open_ Chip.repairBank
    let valid := [0, 1].filter (fun b => c.bstate b == bkCommitted && !(if b = 0 then badA else badB))
    let seq := fun b => c.getF BANK_INFO b BANK_INFO.SEQ
    match valid with
    | [0, 1] =>
      let new := if seq 0 < seq 1 then 1 else 0
      if copyFails then c.loadBank m (1 - new) true open_.length else c.loadBank m new false open_.length
    | [b] => if copyFails then c.loadBlank else c.loadBank m b false open_.length
    | _ => c.loadBlank

/-! ## Page reload (R451) -/

/-- An area whose layout the spec does not give lies on this page: left free. -/
def onPage (page key : Nat) : Bool := Config.unstated 451 [page, key] % 2 == 1

/-- The secrets and the metering state that lie on a page take the bank's values. -/
def Chip.reloadSealed (c : Chip) (x : Sealed) (page : Nat) : Chip :=
  if 164 ≤ page ∧ page ≤ 420 then c.restoreRecs x.recs (fun k => k == recKey PLOT_ENERGY (page - 164))
  else if 4 ≤ page ∧ page ≤ 163 then
    let gate := fun k => isSealed k && !([PLOT_ENERGY.id, PLOT_DEMAND.id, EPOCH_STATEMENT.id].contains (k % 0x10000)) && onPage page k
    let c := c.restoreRecs x.recs gate
    let c := c.each 256 (fun c p => if onPage page (0x1000000 + p) then c.setPlotSecret p (Tab.get {} x.plots p) else c)
    if onPage page 0x2000000 then { c with boot.policy := x.policy } else c
  else if 429 ≤ page then
    let c := c.restoreRecs x.recs (fun k => [PLOT_DEMAND.id, EPOCH_STATEMENT.id].contains (k % 0x10000) && onPage page k)
    let c := c.each 32 (fun c m => if onPage page (0x3000000 + m) then c.setMreg m (Tab.get {} x.meter.meters m) else c)
    if onPage page 0x4000000 then { c with meter.cur := x.meter.cur, meter.await := x.meter.await } else c
  else c

/-- `SHADOW_PAGE_RELOAD`: a double-bit error in the SRAM reloads the page from the newest committed bank. -/
def Chip.shadowPageReload (m : Mem) (c : Chip) (page : Nat) : Chip :=
  match c.newestBank with
  | none => c
  | some b =>
    let c := c.memOp (.reloadPage b page)
    let c := c.reloadSealed (c.bankSealed b) page
    let c := if page = 0 then
        c.upd SECURITY_STATUS 0 ((List.range 3).map (fun i => (SECURITY_STATUS.SHADOW_MIN i, valueAt (m.bank b) (2 + 2 * i) 2)))
      else c
    c.raise 0x0D08 2 0 (u16 page ++ rsvBytes 2) (audOps scDiag)

/-! ## Commands (R464, R465, R470) -/

/-- A service session (R80). -/
def Who.inService : Who → Bool
  | .estate s => s
  | .operator _ s => s
  | _ => false

/-- The estate in a service session. -/
def Who.estateService : Who → Bool
  | .estate s => s
  | _ => false

def storeSpec : CmdSpec where
  opcode := 0x0D00
  classes := [2]
  who := Who.estateOr scDiag
  len := fun n => n == 4
  level := lvFull

/-- `STORE`: requests a store with cause [0]; its handle is answered at the commit that serves it. -/
def Chip.storeCmd (c : Chip) (h : Hdr) : Chip :=
  c.command h storeSpec (fun x c =>
    let s := c.ststate
    checks c [(h.prsv != 0, stBadParam), (s == ssBlank || s == ssHalted, stBadState)] (fun _ =>
      c.accept x (fun c k =>
        if s = ssDegraded then c.finish (some k) stHwFault []
        else Chip.requestStore { c with store.waiting := c.store.waiting ++ [k] } 0)))

def rawOpenSpec : CmdSpec where
  opcode := 0x0D01
  classes := [2]
  who := Who.inService
  len := fun n => n == 12
  level := lvFull

/-- A mismatch counts; the eighth locks raw access (R465). -/
def Chip.rawMiss (c : Chip) : Chip :=
  let c := c.inc STORE_STATUS 0 STORE_STATUS.RAW_FAIL
  if c.getF STORE_STATUS 0 STORE_STATUS.RAW_FAIL = 8 then
    (c.upd STORE_STATUS 0 [(STORE_STATUS.RAW_LOCKED, 1)]).raise 0x0D05 2 0 [] (audOps scDiag)
  else c

/-- `RAW_OPEN`. -/
def Chip.rawOpen (c : Chip) (h : Hdr) (kind word : Nat) : Chip :=
  c.command h rawOpenSpec (fun x c => checks c [(decide (1 < kind) || h.prsv != 0, stBadParam)] (fun _ =>
    let stored := c.getF RAW_WORDS 0 (if kind = 0 then RAW_WORDS.READ_WORD else RAW_WORDS.WRITE_WORD)
    if c.getB STORE_STATUS 0 STORE_STATUS.RAW_LOCKED || stored == 0 || word == 0 then c.no stDenied
    else if stored ≠ word then c.rawMiss.no stDenied
    else { chip := c.modSes x.si (fun s => if kind = 0 then { s with rawRead := true } else { s with rawWrite := true }) }))

def rawReadSpec : CmdSpec where
  opcode := 0x0D02
  classes := [2, 3]
  who := Who.inService
  len := fun n => n == 8
  level := lvFull

/-- The header and the plant area are returned as they stand, the sealed areas as ciphertext (Table 15.2). -/
def rawPlain (a : Nat) : Bool := decide (a < 0x400) || (decide (0x1A500 ≤ a) && decide (a < 0x1AD00))

/-- The bytes of a raw read; a byte of ciphertext is left free. -/
def rawBytes (m : Mem) (salt a n : Nat) : List Nat :=
  (List.range n).map (fun k => if rawPlain (a + k) then (byteAt m.sram (a + k)).toNat else Config.cipherByte salt (a + k) 0 % 256)

/-- `RAW_READ`. -/
def Chip.rawRead (m : Mem) (c : Chip) (h : Hdr) (offset len : Nat) : Chip :=
  c.command h rawReadSpec (fun x c =>
    let s := c.ses x.si
    checks c [
      (!s.rawRead && !s.rawWrite, stDenied),
      (decide (shadowSize ≤ offset) || len == 0 || decide (1000 < len) || decide (shadowSize < offset + len) || h.prsv != 0, stBadParam)]
      (fun _ => { chip := c.spend, data := u32 offset ++ u16 len ++ rsvBytes 2 ++ rawBytes m c.freeIdx offset len }))

def rawWriteSpec : CmdSpec where
  opcode := 0x0D03
  classes := [2]
  who := Who.inService
  len := fun n => decide (8 ≤ n)
  level := lvFull

/-- The fan records take what a raw write puts into the plant area (R450). -/
def Chip.takeFans (c : Chip) (l : List Host.Cell) (a n : Nat) : Chip :=
  c.eachOf plantRecords (fun c p =>
    match plantAddr p.1 p.2 with
    | some r => if isFanRecord p.1 && decide (r < a + n) && decide (a < r + p.1.len) then c.takePlant l p.1 p.2 else c
    | none => c)

/-- `RAW_WRITE`: bytes of the plant area; every byte is applied before the reply. -/
def Chip.rawWrite (m : Mem) (c : Chip) (h : Hdr) (offset len : Nat) (data : Bytes) : Chip :=
  c.command h rawWriteSpec (fun x c =>
    checks c [
      (h.len != 8 + len || data.length != len, stBadLength),
      (!(c.ses x.si).rawWrite || decide (offset < 0x1A500) || decide (0x1AD00 < offset + max len 1), stDenied),
      (len == 0 || decide (1000 < len) || h.prsv != 0, stBadParam)]
      (fun _ =>
        let c := c.memOp (.write offset data)
        { chip := c.takeFans (writeInside m.sram offset data) offset len }))

def shadowInitSpec : CmdSpec where
  opcode := 0x0D04
  classes := [2]
  who := Who.estateService
  len := fun n => n == 16
  level := lvFull

/-- `SHADOW_INIT`: the initial image, stored with cause [8] and `SEQ` 1. It asks for Full service (R467), which a BLANK store keeps the
controller from reaching (R460); assumption 66. -/
def Chip.shadowInit (c : Chip) (h : Hdr) (serial confirm : Nat) : Chip :=
  c.command h shadowInitSpec (fun x c => checks c [
    (serial != c.sec.serial || confirm != 0x5EED0001 || h.prsv != 0, stBadParam),
    (c.ststate != ssBlank, stBadState)]
    (fun _ => c.accept x (fun c k =>
      let c := c.eachOf plantRecords (fun c p => c.clearRec p.1 p.2)
      let c := c.each 257 (fun c o => c.clearRec PLOT_ENERGY o)
      let c := { c with store.ops := c.store.ops ++ initialOps, store.initSeq := true, store.waiting := c.store.waiting ++ [k] }
      (c.requestStore 8).storeStart)))

/-- `RAW_WORDS` is written by the estate and requests a store (R464, Table 15.4). -/
def Chip.rawWordsWrite (c : Chip) (x : Ctx) (i ver img : Nat) : Res :=
  c.setRecord x.h RAW_WORDS i ver img { may := x.who.estateOnly } (fun c _ => c.requestStore 6)

end Sys2Proof.Machine
end

