-- ==== Sys2Proof/Machine/Rail.lean ====
section
/-!
DEFINITION. The hold rail (R474 to R477): its states and stop causes, the retirement of phases, `BUCK_RESTORE` and `HOLD_RAIL_CFG`.
-/

namespace Sys2Proof.Machine

abbrev rlOff : Nat := 0
abbrev rlStarting : Nat := 1
abbrev rlRunning : Nat := 2
abbrev rlStopped : Nat := 3

/-- Stop causes (Table 16.5). -/
abbrev rcUnder : Nat := 1
abbrev rcOver : Nat := 2
abbrev rcVbus : Nat := 3
abbrev rcOnePhase : Nat := 4
abbrev rcThermal : Nat := 5
abbrev rcStart : Nat := 6

/-- The rail's events also reach operators with `CHANNELS` (R495). -/
def evRail : Audience := audOps (scChannels ||| scDiag)

def Chip.railState (c : Chip) : Nat := c.getF BUCK_STATUS 0 BUCK_STATUS.RAIL_STATE
def Chip.railCause (c : Chip) : Nat := c.getF BUCK_STATUS 0 BUCK_STATUS.STOP_CAUSE
def Chip.railF (c : Chip) (f : Fld) : Nat := c.getF HOLD_RAIL_CFG 0 f

/-- The phases enabled and not retired. -/
def Chip.goodPhases (c : Chip) : Nat := maskOff (c.railF HOLD_RAIL_CFG.PHASE_EN) (c.getF BUCK_STATUS 0 BUCK_STATUS.RETIRED)

def phaseCount (m : Nat) : Nat := (bitsOf 4 m).length

/-- The phases in service follow the state (Table 16.4). -/
def Chip.showPhases (c : Chip) : Chip :=
  c.upd BUCK_STATUS 0 [(BUCK_STATUS.IN_SERVICE, if c.railState = rlRunning then c.goodPhases else 0)]

/-- A new state and stop cause; a change of either raises `HOLD_RAIL_STATE` (R475). -/
def Chip.setRail (c : Chip) (st cause : Nat) : Chip :=
  if c.railState = st ∧ c.railCause = cause then c.showPhases
  else
    let moved := c.railState != st
    let c := c.upd BUCK_STATUS 0 [(BUCK_STATUS.RAIL_STATE, st), (BUCK_STATUS.STOP_CAUSE, cause)]
    let c := if moved then { c with boot.railAt := c.up } else c
    c.showPhases.raise 0x0E01 2 0 (u8 st ++ u8 cause ++ u16 (c.getF BUCK_STATUS 0 BUCK_STATUS.VHOLD)) evRail

/-- The stops by `UNDERVOLT` and `START` of the last 60 s. -/
def Chip.showUv (c : Chip) : Chip :=
  let l := c.boot.uvStops.filter (fun t => decide (c.since t < 60 * ticksPerSecond))
  Chip.upd { c with boot.uvStops := l } BUCK_STATUS 0 [(BUCK_STATUS.UV_RUN, min l.length 3)]

/-- A sensor that guards the rail is at its shutdown level or broken (R485, Table 16.8). -/
def Chip.railHot (c : Chip) : Bool :=
  let hot := fun k => c.getF THERMAL_STATUS 0 (THERMAL_STATUS.LEVEL k) == 3 ||
    (let s := c.getF THERMAL_STATUS 0 (THERMAL_STATUS.SENS_STATE k); s == 1 || s == 2)
  hot 1 || hot 2 || (List.range 4).any (fun n => c.getB THERM_CFG n THERM_CFG.GUARD && c.getB THERM_CFG n THERM_CFG.EN && hot (3 + n))

/-- The rail stops: a latched stop keeps its cause. -/
def Chip.railStop (c : Chip) (cause : Nat) : Chip :=
  if c.railState = rlOff ∨ (c.railState = rlStopped ∧ (c.boot.railLatched ∨ c.railCause = cause)) then c
  else
    let uv := cause == rcUnder || cause == rcStart
    let c := (if uv then { c with boot.uvStops := c.boot.uvStops ++ [c.up] } else c).showUv
    let latch := cause == rcOver || cause == rcOnePhase || (uv && decide (3 ≤ c.getF BUCK_STATUS 0 BUCK_STATUS.UV_RUN))
    let c := { c with boot.railLatched := latch }
    let c := if c.railState = rlStopped then c else c.incSat BUCK_STATUS 0 BUCK_STATUS.STOP_CNT BUCK_STATUS.SAT 1
    c.setRail rlStopped cause

/-- The rail starts in Limited and Full with `EN` = 1, unless a cause of Table 16.5 stands. -/
def Chip.railStart (c : Chip) : Chip :=
  if c.level < lvLimited ∨ ¬ c.getB HOLD_RAIL_CFG 0 HOLD_RAIL_CFG.EN then c
  else
    let c := c.setRail rlStarting 0
    if c.boot.vbusOv then c.railStop rcVbus
    else if c.railHot then c.railStop rcThermal
    else if phaseCount c.goodPhases < 2 then c.railStop rcOnePhase
    else c

/-- The tier is below Limited or `EN` is 0. -/
def Chip.railOff (c : Chip) : Chip := Chip.setRail { c with boot.railLatched := false } rlOff 0

/-- A stop by a cause that has ended: `VBUS_OV` or `THERMAL`. -/
def Chip.railResume (c : Chip) (cause : Nat) : Chip :=
  if c.railState = rlStopped ∧ c.railCause = cause ∧ ¬ c.boot.railLatched then c.railStart else c

/-- The measured output, 0.01 V. -/
def Chip.showVhold (c : Chip) (v : Nat) : Chip := c.upd BUCK_STATUS 0 [(BUCK_STATUS.VHOLD, min v 0xFFFF)]

/-- `HOLD_RAIL_START_DONE`: the output is within 3 % of `V_HOLD` (0.1 V). -/
def Chip.holdRailStartDone (c : Chip) (v : Nat) : Chip :=
  let c := c.showVhold v
  let set := 10 * c.railF HOLD_RAIL_CFG.V_HOLD
  if c.railState = rlStarting ∧ 97 * set ≤ 100 * v ∧ 100 * v ≤ 103 * set then
    Chip.setRail { c with boot.offsetNext := 0, boot.offsetRun := [], boot.disagreeRun := [] } rlRunning 0
  else c

/-- `HOLD_RAIL_START_TIMEOUT`: 20 ms in STARTING. -/
def Chip.holdRailStartTimeout (c : Chip) : Chip :=
  if c.railState = rlStarting ∧ c.passedMs c.boot.railAt 20 then c.railStop rcStart else c

/-- `HOLD_RAIL_UNDERVOLT`: the output has been below 85 % for 10 ms. -/
def Chip.holdRailUndervolt (c : Chip) (v : Nat) : Chip :=
  let c := c.showVhold v
  if c.railState = rlRunning ∧ 100 * v < 85 * (10 * c.railF HOLD_RAIL_CFG.V_HOLD) then c.railStop rcUnder else c

/-- `HOLD_RAIL_OVERVOLT`: the output has been above 110 % for 100 µs. -/
def Chip.holdRailOvervolt (c : Chip) (v : Nat) : Chip :=
  let c := c.showVhold v
  if c.railState ≠ rlOff ∧ 110 * (10 * c.railF HOLD_RAIL_CFG.V_HOLD) < 100 * v then c.railStop rcOver else c

/-- `HOLD_RAIL_RESTART`: 1 s after an unlatched stop by `UNDERVOLT` or `START`. -/
def Chip.holdRailRestart (c : Chip) : Chip :=
  if c.railState = rlStopped ∧ (c.railCause = rcUnder ∨ c.railCause = rcStart) ∧ ¬ c.boot.railLatched ∧ c.passedS c.boot.railAt 1 then
    c.showUv.railStart
  else c

/-! ## Phases (R476) -/

/-- A phase in service is retired. -/
def Chip.retirePhase (c : Chip) (p cause ma : Nat) : Chip :=
  if c.railState ≠ rlRunning ∨ ¬ c.goodPhases.testBit p then c
  else
    let c := c.upd BUCK_STATUS 0 [(BUCK_STATUS.RETIRED, setBit (c.getF BUCK_STATUS 0 BUCK_STATUS.RETIRED) p), (BUCK_STATUS.RET_CAUSE p, cause)]
    let c := (c.incSat BUCK_STATUS 0 BUCK_STATUS.RETIRE_CNT BUCK_STATUS.SAT 0).showPhases
    let n := phaseCount c.goodPhases
    let c := c.raise 0x0E00 2 p (u8 cause ++ u8 n ++ u16 ma) evRail
    if n < 2 then c.railStop rcOnePhase else c

/-- The phase whose offset is due: the phases in service in ascending number. -/
def Chip.offsetPhase (c : Chip) : Option Nat :=
  let l := bitsOf 4 (c.getF BUCK_STATUS 0 BUCK_STATUS.IN_SERVICE)
  match l.find? (fun p => decide (c.boot.offsetNext ≤ p)) with
  | some p => some p
  | none => l.head?

/-- `OFFSET_CHECK`: the reading lies `uv` µV from the offset calibrated at the rail's start; `ma` is the phase's current. -/
def Chip.offsetCheck (c : Chip) (uv ma : Nat) : Chip :=
  match c.offsetPhase with
  | none => c
  | some p =>
    let n := if 3000 < uv then Tab.get 0 c.boot.offsetRun p + 1 else 0
    let c := { c with boot.offsetNext := p + 1, boot.offsetRun := Tab.set 0 c.boot.offsetRun p n }
    if 3 ≤ n then c.retirePhase p 2 ma else c

/-- `PHASE_OPEN_DETECT`: for 32 switching cycles the phase's current was below a tenth of the mean, at a mean of 100 mA or more and a duty
above 5 %. -/
def Chip.phaseOpenDetect (c : Chip) (p ma mean dutyPermille : Nat) : Chip :=
  if 10 * ma < mean ∧ 100 ≤ mean ∧ 50 < dutyPermille then c.retirePhase p 1 ma else c

/-- `PHASE_DISAGREE`: the comparison of one 1 ms frame; the tenth in a row that differs by more than 400 mA retires the phase. -/
def Chip.phaseDisagree (c : Chip) (p own arrayB : Nat) : Chip :=
  let c := c.upd BUCK_STATUS 0 [(BUCK_STATUS.I_PHASE p, min own 0xFFFF)]
  if c.railState ≠ rlRunning ∨ ¬ c.goodPhases.testBit p ∨ c.noSense then c
  else
    let far := decide (own + 400 < arrayB) || decide (arrayB + 400 < own)
    let n := if far then Tab.get 0 c.boot.disagreeRun p + 1 else 0
    let c := { c with boot.disagreeRun := Tab.set 0 c.boot.disagreeRun p n }
    if 10 ≤ n then c.retirePhase p 3 own else c

/-! ## Commands -/

def buckRestoreSpec : CmdSpec where
  opcode := 0x0E10
  classes := [2]
  who := Who.estateOr scChannels
  len := fun n => n == 4

/-- `BUCK_RESTORE`: `v` is the output reached in STARTING, 0.01 V, and `bad` the phases whose offset check fails (R494). -/
def Chip.buckRestore (c : Chip) (h : Hdr) (mask v bad : Nat) : Chip :=
  c.command h buckRestoreSpec (fun _ c =>
    let back := mask &&& c.getF BUCK_STATUS 0 BUCK_STATUS.RETIRED
    checks c [
      (mask == 0 || decide (15 < mask) || h.prsv != 0, stBadParam),
      (back == 0 && !c.boot.railLatched, stBadState)]
      (fun _ =>
        let c := c.upd BUCK_STATUS 0 ([(BUCK_STATUS.RETIRED, maskOff (c.getF BUCK_STATUS 0 BUCK_STATUS.RETIRED) mask), (BUCK_STATUS.UV_RUN, 0)]
          ++ (bitsOf 4 mask).map (fun p => (BUCK_STATUS.RET_CAUSE p, 0)))
        let c := { c with boot.railLatched := false, boot.uvStops := [] }
        let c := c.railStart.holdRailStartDone v
        let c := if c.railState = rlStarting then c.railStop rcStart else c
        let c := c.eachOf (bitsOf 4 (c.goodPhases &&& bad)) (fun c p => c.retirePhase p 2 (c.getF BUCK_STATUS 0 (BUCK_STATUS.I_PHASE p)))
        let ins := c.getF BUCK_STATUS 0 BUCK_STATUS.IN_SERVICE
        let ret := c.getF BUCK_STATUS 0 BUCK_STATUS.RETIRED
        let c := c.raise 0x0E09 0 0 (u8 (phaseCount (maskOff back ret)) ++ u8 ins ++ rsvBytes 2) evRail
        { chip := c, data := u8 ins ++ u8 ret ++ u8 c.railState ++ rsvBytes 1 }))

/-- Some valve channel or axis holds tokens (R477). -/
def Chip.tokensHeld (c : Chip) : Bool := (List.range 120).any (fun i => (c.tgt i).charge != 0)

/-- `HOLD_RAIL_CFG_WRITE`: a change of the rail's working is refused while tokens are held; `EN` = 0 takes the rail OFF (R477, R493). -/
def Chip.holdRailCfgWrite (c : Chip) (x : Ctx) (i ver img : Nat) : Res :=
  let changes := [HOLD_RAIL_CFG.PHASE_EN, HOLD_RAIL_CFG.V_HOLD, HOLD_RAIL_CFG.FSW_KHZ, HOLD_RAIL_CFG.RSENSE].any
    (fun f => f.get img != c.railF f)
  c.setRecord x.h HOLD_RAIL_CFG i ver img
    { may := x.who.estateOnly, bad := decide (phaseCount (HOLD_RAIL_CFG.PHASE_EN.get img) < 2),
      state := if changes && c.tokensHeld then stBadState else 0 }
    (fun c _ =>
      let on := c.getB HOLD_RAIL_CFG 0 HOLD_RAIL_CFG.EN
      if !on then c.railOff
      else if c.railState = rlOff then c.railStart
      else if phaseCount c.goodPhases < 2 then c.railStop rcOnePhase
      else c.showPhases)

end Sys2Proof.Machine
end

