-- ==== Sys2Proof/Machine/Tier.lean ====
section
/-!
DEFINITION. Service tiers (R31 to R40, Tables 1.8 to 1.10): which tier the working units support, falling and rising, the tier holds of
Keeper and Gatehouse restarts, and the always-on fault record (R512).
-/

namespace Sys2Proof.Machine

/-! ## Units of Table 1.8 -/

/-- A unit that restarts under a tier hold does not lower the tier (R35). -/
def Chip.keeperOk (c : Chip) : Bool := c.boot.keeper || c.holding 0
def Chip.gatehouseOk (c : Chip) : Bool := c.boot.gatehouse || c.holding 1

/-- A terrace that is not out of service (R20). -/
def Chip.terraceLeft (c : Chip) : Bool := (List.range 4).any (fun t => c.tstate t != tsOutOfService)

/-- An Ethernet port on which the estate has enabled an endpoint (Table 1.8). -/
def Chip.portEnabled (c : Chip) (p : Nat) : Bool :=
  (List.range 16).any (fun k => c.getB ENDPOINT_CFG (k + 2) ENDPOINT_CFG.EN && c.getF ENDPOINT_CFG (k + 2) ENDPOINT_CFG.PORT == p)

/-- Every enabled port works. -/
def Chip.portsOk (c : Chip) : Bool := (List.range 2).all (fun p => !c.portEnabled p || c.linkUp p)

def Chip.firebreakUnits (c : Chip) : Bool := c.boot.vaon && !c.boot.vbusBelow && c.boot.fbkOk && c.boot.fbReady
def Chip.survivalUnits (c : Chip) : Bool := c.firebreakUnits && c.boot.refRun && c.boot.slowDone
def Chip.limitedUnits (c : Chip) : Bool :=
  c.survivalUnits && c.getB SUPPLY_STATUS 0 SUPPLY_STATUS.PG_CORE && c.getB SUPPLY_STATUS 0 SUPPLY_STATUS.PLLA_LOCK && c.keeperOk
    && c.gatehouseOk && c.boot.allocUp && c.terraceLeft && !c.boot.resetLow && !c.boot.pfHalt
    && (c.lifecycle == lcField || c.lifecycle == lcUnlocked)
def Chip.fullUnits (c : Chip) : Bool :=
  c.limitedUnits && c.getB SUPPLY_STATUS 0 SUPPLY_STATUS.REF_XTAL && c.getB SUPPLY_STATUS 0 SUPPLY_STATUS.PLLB_LOCK
    && decide (c.getF AON_STATUS 0 AON_STATUS.FW_OUTCOME ≤ 1) && c.getF STORE_STATUS 0 STORE_STATUS.LOADED_BANK != 0xFF
    && c.boot.metering && c.boot.fabric && c.boot.timeUnit && c.portsOk

/-- The highest tier whose units all work (R31). -/
def Chip.supported (c : Chip) : Level :=
  if !c.firebreakUnits then lvNone
  else if !c.survivalUnits then lvFirebreak
  else if !c.limitedUnits then lvSurvival
  else if !c.fullUnits then lvLimited
  else lvFull

/-- The causes [18] and [19] follow the units they name (Table 17.7). -/
def Chip.unitCauses (c : Chip) : Chip :=
  (c.putCause 18 (!(c.boot.metering && c.boot.fabric && c.boot.timeUnit))).putCause 19 (!c.portsOk)

/-! ## The fault record (R512) and the tier -/

/-- The code a tier is recorded with; below the Firebreak tier reads as FIREBREAK. -/
def tierCode (l : Level) : Nat := l - 1

/-- A new entry in front, the oldest dropped. -/
def Chip.logEntry (c : Chip) (cause old new : Nat) : Chip :=
  let c := c.each 15 (fun c k => c.setImg AON_FAULT_LOG (15 - k) (c.img AON_FAULT_LOG (14 - k)))
  let n := c.boot.logSeq + 1
  let c := { c with boot.logSeq := n }
  c.setImg AON_FAULT_LOG 0 (setFields [(AON_FAULT_LOG.TIME, c.now), (AON_FAULT_LOG.CAUSE, cause), (AON_FAULT_LOG.OLD_TIER, tierCode old),
    (AON_FAULT_LOG.NEW_TIER, tierCode new), (AON_FAULT_LOG.BOOT_STEP, c.getF AON_STATUS 0 AON_STATUS.BOOT_STEP),
    (AON_FAULT_LOG.FW_OUTCOME, c.getF AON_STATUS 0 AON_STATUS.FW_OUTCOME), (AON_FAULT_LOG.SEQ, n % 2 ^ 32)] 0)

/-- `TIER` is written and `TIER_CHANGED` is raised: plots learn the fact without the causes (R40). -/
def Chip.setTier (c : Chip) (new causes : Nat) : Chip :=
  let old := c.level
  let c := { c with boot.below := new == lvNone }
  let c := c.upd AON_STATUS 0 [(AON_STATUS.TIER, tierCode new)]
  if tierCode old = tierCode new then c
  else
    let d := fun (m : Nat) => u8 (tierCode old) ++ u8 (tierCode new) ++ u32 m ++ u64 c.now
    c.raiseWith { code := 0x0010, sev := 2, source := 0, data := d causes, seen := d causes, plots := d 0,
                  aud := { anyOperator := true, allPlots := true } }

/-! ## Leaving a tier (Tables 1.9 and 1.10) -/

/-- The zones' ports, models, rounds and offsets as Full service ends: relay tests end with `TIER`, the arbiter's offsets go, rounds are
abandoned, and every zone runs its ROM program from its next phase (R34, R209, R226). -/
def Chip.leaveFull (c : Chip) : Chip :=
  let c := c.each 1024 (fun c z => (c.endTest z 5).modZrt z (fun x => { x with zrt := false }))
  let c := c.fightsEnd
  c.each 4 Chip.abandonRound

/-- A terrace is powered down; OUT_OF_SERVICE and retirements stay (R20). -/
def Chip.terraceDown (c : Chip) (t : Nat) : Chip :=
  let x := c.ter t
  let c := (c.dropLoad t stTierDown).abandonRound t
  let c := match x.prog with
    | some p => c.finish p.handle stTierDown []
    | none => c
  let c := match x.reset with
    | some (_, h) => c.finish h stTierDown []
    | none => c
  let c := c.modTer t (fun y => { y with prog := none, reset := none, moves := [], target := 0, relockTo := 0, lockedAt := none })
  let c := c.upd TERRACE_STATUS t [(TERRACE_STATUS.RELOCKING, 0), (TERRACE_STATUS.CLK_MHZ, 0)]
  let c := if c.tstate t = tsOutOfService then c else c.upd TERRACE_STATUS t [(TERRACE_STATUS.TSTATE, tsOff)]
  let c := c.eachOf (terracePergolas t) (fun c p =>
    let c := (c.answerWaits (pergolaWait p) stTierDown []).modPerg p (fun y => { y with migrate := false })
    if c.pstate p = psRetired then c else c.upd PERGOLA_STATUS p [(PERGOLA_STATUS.PSTATE, psOff)])
  let c := c.each 64 (fun c k => c.setLane (64 * t + k) {})
  c.eachOf (terraceZones t) (fun c z =>
    let c := (c.zoneUnused z).latchFallback z
    if c.zstate z = zsUnused then c else c.upd ZONE_STATUS z [(ZONE_STATUS.ZSTATE, zsUnused)])

/-- Every session closes and every endpoint empties (R50, R506). -/
def Chip.hostDown (c : Chip) : Chip :=
  let c := c.closeSessions (fun _ => true)
  { c with host.frags := [], host.waits := [], sec.challenges := [],
           host.endpoints := c.host.endpoints.map (fun p => (p.1, { p.2 with refusals := [], out := [], inbound := 0 })) }

/-- Service below Limited begins: outputs harmless first, then the metering close and the store, then the units (Table 1.9, R411, R457). -/
def Chip.leaveLimited (c : Chip) : Chip :=
  let c := (c.endManuals stTierDown).allOff.fansRelease
  let c := c.hostDown
  let c := c.meteringClose false
  let c := if c.getB SUPPLY_STATUS 0 SUPPLY_STATUS.PG_CORE then c.storeReset else c
  let c := c.railOff.arraysOff
  let c := c.each 24 (fun c e => (c.clearRec ENC_STATUS e).setEnc e {})
  let c := c.each 4 Chip.terraceDown
  let c := { c with zones.laneReset := [], zones.updates := [] }
  c.upd SUPPLY_STATUS 0 [(SUPPLY_STATUS.VCORE_TARGET, 0), (SUPPLY_STATUS.TRIM_MV, 0), (SUPPLY_STATUS.AVS_FAULT, 0), (SUPPLY_STATUS.VCORE_LOW, 0)]

/-- Service below Survival begins: the fan unit releases its outputs. -/
def Chip.leaveSurvival (c : Chip) : Chip := c.fansStop

/-- The tier falls: one log entry, one event naming every cause (R33, R512). -/
def Chip.dropTo (c : Chip) (new causes : Nat) : Chip :=
  let old := c.level
  if old ≤ new then c
  else
    let c := if c.boot.hold.isSome ∧ new < lvLimited then
        Chip.upd { c with boot.hold := none } AON_STATUS 0 [(AON_STATUS.TIER_HOLD, 0)] else c
    let c := if old = lvFull then c.leaveFull else c
    let c := if lvLimited ≤ old ∧ new < lvLimited then c.leaveLimited else c
    let c := if lvSurvival ≤ old ∧ new < lvSurvival then c.leaveSurvival else c
    ((c.logEntry causes old new).setTier new causes).flushDeferred

/-- The tier falls to what the working units support. -/
def Chip.fallCheck (c : Chip) (causes : Nat) : Chip := c.dropTo (min c.supported c.level) causes

/-! ## Entering a tier (Table 1.9) -/

/-- The fan unit takes its table (R328). -/
def Chip.enterSurvival (c : Chip) : Chip := (c.setTier lvSurvival 0).judgeAuto

/-- A terrace comes up: its programs and table are there, its clock starts at REF and its mode's clock is due (R29, R478). -/
def Chip.terraceUp (c : Chip) (t : Nat) : Chip :=
  let c := c.modTer t (fun x => { x with frame := 0, frameAt := c.up, target := 0, badProgs := [] })
  let c := c.eachOf (terraceZones t) (fun c z => ((c.takeFallback z).latchFallback z).upd ZONE_STATUS z [(ZONE_STATUS.FIRST_TICK, 1)])
  if c.tstate t = tsOutOfService then c
  else
    let c := c.upd TERRACE_STATUS t [(TERRACE_STATUS.TSTATE, tsInService), (TERRACE_STATUS.CLK_MHZ, 25)]
    let c := c.modTer t (fun x => { x with target := modeClock (c.getF TERRACE_PERF t TERRACE_PERF.MODE) (c.getF THERMAL_STATUS 0 THERMAL_STATUS.THROTTLE) })
    let c := c.eachOf (terracePergolas t) (fun c p =>
      if c.pstate p = psRetired then c.modPerg p (fun y => { y with migrate := true })
      else c.upd PERGOLA_STATUS p [(PERGOLA_STATUS.PSTATE, psActive)])
    ((c.showPergolas t).showEngines t).showUsers t

/-- Limited is entered: terraces with ROM programs, the allocator as after its reset, the arrays, the hold rail and the PMBus, whose
`VOUT_MODE` is read once: `linear` says what it holds (R261, R132, R475, R478). -/
def Chip.enterLimited (c : Chip) (linear : Bool) : Chip :=
  let c := c.setTier lvLimited 0
  let c := c.each 4 Chip.terraceUp
  let c := c.arraysOn.allocStart
  let c := { c with boot.voutMode := linear, boot.firstRaise := true, boot.raising := [], boot.coreLow := 0 }
  let c := if linear then c else
      (c.upd SUPPLY_STATUS 0 [(SUPPLY_STATUS.AVS_FAULT, 1)]).raise 0x0E07 2 0 (u8 1 ++ rsvBytes 1 ++ u16 0) (audOps scDiag)
  c.railStart

/-- Full is entered: the learning archive is restored at the first entry since the core came up (R229), and what waited for Full service
goes on. -/
def Chip.enterFull (c : Chip) : Chip :=
  let c := (c.setTier lvFull 0)
  let c := { c with boot.runSince := c.up }
  let c := c.each 4 (fun c t => c.planSuspend t (c.getF THERMAL_STATUS 0 THERMAL_STATUS.THROTTLE != 0))
  if c.boot.archiveDue then c.learningRestore else c

/-- The tier rises by one step where every unit of the next tier works and the start-up sequence has passed it before. -/
def Chip.riseStep (c : Chip) (linear : Bool) : Chip :=
  let step := c.getF AON_STATUS 0 AON_STATUS.BOOT_STEP
  if c.supported ≤ c.level then c
  else if c.level = lvNone then c.setTier lvFirebreak 0
  else if c.level = lvFirebreak then c.enterSurvival
  else if c.level = lvSurvival ∧ 10 ≤ step then c.enterLimited linear
  else if c.level = lvLimited ∧ 10 ≤ step then c.enterFull
  else c

/-- Bits of the units that have no row of their own: metering unit, coordination fabric, time unit, allocator, housekeeping and fan unit. -/
def Chip.markUnits (c : Chip) (mask : Nat) (works : Bool) : Chip :=
  let b := c.boot
  let pick := fun (k : Nat) (old : Bool) => if mask.testBit k then works else old
  { c with boot.metering := pick 0 b.metering, boot.fabric := pick 1 b.fabric, boot.timeUnit := pick 2 b.timeUnit,
           boot.allocUp := pick 3 b.allocUp, boot.slowDone := pick 4 b.slowDone }

/-- `TIER_FALL`: the units of a mask fail. -/
def Chip.tierFall (c : Chip) (mask : Nat) : Chip :=
  let c := (c.markUnits mask false).unitCauses
  c.fallCheck (if mask % 8 = 0 then 0 else 2 ^ 18)

/-- `TIER_RISE`: the units of a mask work again, and the tier rises one step if every unit of the next tier works. -/
def Chip.tierRise (c : Chip) (mask : Nat) (linear : Bool) : Chip := ((c.markUnits mask true).unitCauses).riseStep linear

/-! ## Tier holds (R35, R36) -/

/-- Restarts of the last 10 min. -/
def Chip.recentRestarts (c : Chip) : List (Nat × Nat) :=
  c.boot.restarts.filter (fun p => decide (c.since p.2 < 600 * ticksPerSecond))

/-- The cause bits that a restarting unit sets. -/
def restartCauses (unit cause : Nat) : Nat :=
  (if unit = 1 then 0 else if cause = 1 then 2 ^ 8 else 2 ^ 7) ||| (if unit = 0 then 0 else 2 ^ 9)

/-- A unit restarts: a tier hold begins, or, on the second restart within 10 min or below Limited, none. -/
def Chip.startHold (c : Chip) (unit cause : Nat) : Chip :=
  let again := !c.recentRestarts.isEmpty
  let c := { c with boot.restarts := c.recentRestarts ++ [(unit, c.up)] }
  let hold := !again && decide (lvLimited ≤ c.level)
  let c := { c with boot.hold := if hold then some ⟨unit, c.up, cause⟩ else none }
  let c := c.upd AON_STATUS 0 [(AON_STATUS.TIER_HOLD, if hold then 1 else 0)]
  c.fallCheck (restartCauses unit cause)

/-- What is in flight at a Keeper fault: every command that waits, and every assembly, is answered `TIER_DOWN` and frees its slot. -/
def Chip.inFlightDown (c : Chip) : Chip :=
  let ws := c.host.waits
  let fs := c.host.frags
  let c := { c with host.waits := [], host.frags := [] }
  let c := c.eachOf ws (fun c w => (c.showSlots w.ep).reply ⟨w.ep, w.ses, .nobody, w.hdr⟩ w.opcode stTierDown [])
  c.eachOf fs (fun c f =>
    let s := c.ses f.ses
    let h : Hdr := { ep := s.ep, session := c.sidOf f.ses, tag := f.tag, cls := f.cls, addr := s.addr }
    (c.showSlots s.ep).reply ⟨s.ep, f.ses, .nobody, h⟩ f.opcode stTierDown [])

/-- `KEEPER_FAULT`: 0 lockstep mismatch, 1 watchdog. -/
def Chip.keeperFault (c : Chip) (cause : Nat) : Chip :=
  if !c.boot.keeper then c
  else
    let c := c.inFlightDown
    let c := Chip.setCause { c with boot.keeper := false } (if cause = 1 then 8 else 7)
    let c := c.incSat AON_STATUS 0 AON_STATUS.KEEPER_RESTART_CNT AON_STATUS.SAT 1
    c.startHold 0 cause

/-- The hold ends with its unit at work: the deferred events go out. -/
def Chip.endHold (c : Chip) (unit : Nat) : Chip :=
  match c.boot.hold with
  | some h =>
    if h.unit = unit then
      (Chip.upd { c with boot.hold := none } AON_STATUS 0 [(AON_STATUS.TIER_HOLD, 0)]).flushDeferred
    else if h.unit = 2 then { c with boot.hold := some { h with unit := 1 - unit } }
    else c
  | none => c

/-- `KEEPER_RESTART_COMPLETE`: the Keeper runs verified KFW again. -/
def Chip.keeperRestartComplete (c : Chip) : Chip :=
  if c.boot.keeper ∨ c.getF AON_STATUS 0 AON_STATUS.BOOT_STEP < 9 then c
  else
    let c := ((Chip.endCause { c with boot.keeper := true } 7).endCause 8).loadDst
    match c.boot.hold with
    | some h =>
      if h.unit = 1 then c
      else
        let ms := (divFree 35 ((c.since h.since : Nat) * 1000) 32768).toNat
        let c := (c.endHold 0).recordTrips.loadDst
        c.raise 0x0011 2 0 (u8 h.cause ++ u32 ms) { anyOperator := true, allPlots := true }
    | none => c

/-- `GATEHOUSE_FAULT`: every session closes and no frame is answered until the Gatehouse works again. -/
def Chip.gatehouseFault (c : Chip) : Chip :=
  if !c.boot.gatehouse then c
  else
    let c := c.hostDown
    let c := Chip.setCause { c with boot.gatehouse := false } 9
    c.startHold 1 0

/-- `GATEHOUSE_RESTART_COMPLETE`. -/
def Chip.gatehouseRestartComplete (c : Chip) : Chip :=
  if c.boot.gatehouse ∨ c.getF AON_STATUS 0 AON_STATUS.BOOT_STEP < 9 then c
  else (Chip.endCause { c with boot.gatehouse := true } 9).endHold 1

/-- `TIER_HOLD_EXPIRY`: 2.0 s without the unit (R35). -/
def Chip.tierHoldExpiry (c : Chip) : Chip :=
  match c.boot.hold with
  | some h =>
    if c.passedS h.since 2 then
      let c := Chip.upd { c with boot.hold := none } AON_STATUS 0 [(AON_STATUS.TIER_HOLD, 0)]
      c.fallCheck (restartCauses h.unit h.cause)
    else c
  | none => c

/-- `ETHERNET_LINK_CHANGE`: the link of an enabled port decides whether Full service can be held; it rises again under R33. -/
def Chip.ethernetLinkChange (c : Chip) (p : Nat) (isUp : Bool) : Chip :=
  let c := { c with host.ethLink := Tab.set false c.host.ethLink p isUp }
  let c := c.unitCauses
  if isUp then c else c.fallCheck (2 ^ 19)

/-! ## The Firebreak's clock (R371, R540) -/

/-- `FBK_CLOCK_LOSS`: the Firebreak's outputs are harmless at once and the controller is below its tiers. -/
def Chip.fbkClockLoss (c : Chip) : Chip :=
  if !c.boot.fbkOk then c
  else (Chip.setCause { c with boot.fbkOk := false, boot.fbReady := false } 1).fallCheck 2

/-- `FBK_CLOCK_RETURN`: FBK has been in range for 1 ms; a fresh evaluation begins. -/
def Chip.fbkClockReturn (c : Chip) : Chip :=
  if !c.boot.vaon ∨ c.boot.fbkOk then c
  else (Chip.endCause { c with boot.fbkOk := true } 1).freshStart

/-- `FRESH_EVALUATION_END`: every enabled input has a class; the functions are judged afresh. -/
def Chip.freshEvaluationEnd (c : Chip) : Chip :=
  if !c.boot.fbkOk ∨ c.boot.fbReady ∨ ¬ c.allClassed then c
  else Chip.judgeFuncs { c with boot.fbReady := true }

end Sys2Proof.Machine
end

