-- ==== Sys2Proof/Machine/Reset.lean ====
section
/-!
DEFINITION. Chip reset and what it keeps (R506 to R508, Table 17.8), the loss of the core supply and of VAON, power failure and its
return (R455, R499), the VBUS conditions (R472), brown-out and the reset pin.
-/

namespace Sys2Proof.Machine

/-! ## What a reset keeps (Table 17.8) -/

/-- Status records that a chip reset puts back to their reset values. -/
def volatileIds : List Nat :=
  [ENDPOINT_STATUS, OCC_AGG, PLAN_ROUND, FIGHT_STATUS, BUDGET_STATUS, TARGET_STATUS, ENC_STATUS, ARRAY_CAL, ARRAY_STATUS, AIN_STATUS,
   PRS_STATUS, KP_STATUS, FEED_STATUS, METER_STATUS, METERING_STATUS, PTP_STATUS, SNAP_STATUS, FW_STATUS].map RecDesc.id

/-- Records that live in the terraces' context and plan SRAM: they go with VCORE. -/
def contextIds : List Nat :=
  [ZONE_STATE, ZONE_BINDINGS, ZONE_STATUS, ZONE_OCC, MODEL_COEF, TUNE_STATUS, OCC_TIMELINE, PRESENCE_PROFILE, ZONE_PLAN].map RecDesc.id

def Chip.clearIds (c : Chip) (ids : List Nat) : Chip := c.restoreRecs [] (fun k => ids.contains (k % 0x10000))

/-- The fields of a record that survive; all others take their reset values. -/
def Chip.keepFields (c : Chip) (r : RecDesc) (inst : Nat) (fs : List Fld) : Chip :=
  c.setImg r inst (setFields (fs.map (fun f => (f, c.getF r inst f))) (r.resetImg inst))

/-- Channels keep their latched faults, `NOMOVE_RUN`, the coil's temperature and the force-off mask (Table 8.8, R290). -/
def Chip.resetChannel (c : Chip) (ch : Nat) : Chip :=
  let x := c.chan ch
  let c := if latching (c.chFault ch) then c else c.upd CH_STATUS ch [(CH_STATUS.FAULT, 0)]
  let c := c.setChan ch { coilT := x.coilT, coilSs := x.coilSs, tAt := x.tAt, tStarted := x.tStarted, trip := x.trip }
  (c.keepFields CH_STATUS ch [CH_STATUS.CSTATE, CH_STATUS.FAULT, CH_STATUS.NOMOVE_RUN, CH_STATUS.COIL_T, CH_STATUS.FORCED]).rest ch

/-- Axes keep their latched faults; only `SENSE` clears itself (Table 9.5, R314, R318). -/
def Chip.resetAxis (c : Chip) (a : Nat) : Chip :=
  let c := if c.getF AX_STATUS a AX_STATUS.FAULT = 2 then c.upd AX_STATUS a [(AX_STATUS.FAULT, 0)] else c
  let c := Chip.setAxis c a {}
  c.keepFields AX_STATUS a [AX_STATUS.ASTATE, AX_STATUS.FAULT, AX_STATUS.FORCED]

/-- The time unit restarts at LOCKED on LOCAL; the RTC, `CAL_OFS`, `LOCAL_HWM` and the rate word are kept (Table 14.9, R446). -/
def Chip.resetTime (c : Chip) : Chip :=
  let c := c.stopSlew
  let t := c.time
  let c := { c with time := { t with epsAt := none, epsFrom := 3, stepAt := none, qualSince := none, betterSeen := false, down := false,
                                     ppsLast := none, ppsGood := false, ppsEps := none, rateAt := none, lockedEver := false, ptp := [] } }
  c.keepFields TIME_STATUS 0 [TIME_STATUS.RTC_VALID, TIME_STATUS.RTC_END, TIME_STATUS.XTAL_FAIL, TIME_STATUS.CAL_RANGE, TIME_STATUS.DST,
    TIME_STATUS.UTC_OFS, TIME_STATUS.CAL_OFS, TIME_STATUS.LOCAL_HWM, TIME_STATUS.RATE_PPB]

/-- A terrace restarts: OUT_OF_SERVICE, retirements and the table in force stay. -/
def Chip.resetTerrace (c : Chip) (t : Nat) : Chip :=
  let c := c.setTer t {}
  let c := c.keepFields TERRACE_STATUS t [TERRACE_STATUS.TSTATE, TERRACE_STATUS.RETIRED, TERRACE_STATUS.TABLE_ID]
  c.eachOf (terracePergolas t) (fun c p => (c.setPerg p {}).keepFields PERGOLA_STATUS p [PERGOLA_STATUS.PSTATE])

/-- Every unit that Table 17.8 does not keep is reset (R507); `core` says that VCORE has stayed up. -/
def Chip.resetUnits (c : Chip) (core : Bool) : Chip :=
  let c := (c.each 96 Chip.resetChannel).each 24 Chip.resetAxis
  let a := c.act
  let c := { c with act := { stopMask := maskOff a.stopMask a.resume, forceMask := maskOff a.forceMask a.release, chan := a.chan, port := a.port,
                             group := a.group, fanAuto := a.fanAuto } }
  let k := c.sense.keyq.filter (fun r => r.src == wardenSrc)
  let c := Chip.inputsReset { c with sense := {} }
  let c := { c with sense.keyq := k }
  let c := c.resetTime.each 4 Chip.resetTerrace
  let z := c.zones
  let c := { c with zones := { zone := if core then z.zone else [], terrace := z.terrace, pergola := z.pergola, archA := z.archA, archB := z.archB } }
  let c := if core then c else (c.clearIds contextIds).each 1024 (fun c n => c.upd ZONE_STATUS n [(ZONE_STATUS.FIRST_TICK, 1)])
  let h := c.host
  let c := { c with host := { lastOpFrame := h.lastOpFrame, ethLink := h.ethLink, heldFb := h.heldFb, wire := h.wire } }
  let c := c.clearIds volatileIds
  let c := c.storeOff
  let c := { c with meter := {}, sec.challenges := [], sec.evicting := [], sec.debugChallenge := none, sec.unlockOp := none, sec.occPending := [] }
  let b := c.boot
  let c := { c with boot := { b with keeper := false, gatehouse := false, gateTested := false, gateTries := 0, kfwTries := 0, metering := true,
                                     fabric := true, timeUnit := true, allocUp := true, hold := none, restarts := [], bootDone := false,
                                     segments := [], bundleDirty := none, secRun := [], archiveDue := b.archiveDue || !core, voutMode := false,
                                     raising := [], coreLow := 0, firstRaise := false, xtalMay := true } }
  let c := c.upd SUPPLY_STATUS 0 [(SUPPLY_STATUS.PLLA_LOCK, 0), (SUPPLY_STATUS.PLLB_LOCK, 0)]
  let c := c.upd THERMAL_STATUS 0 [(THERMAL_STATUS.THROTTLE, 0)]
  c.upd AON_STATUS 0 [(AON_STATUS.TIER_HOLD, 0)]

/-- A debug unlock ends: the JTAG clock stops and the lifecycle returns to FIELD (R119). -/
def Chip.endUnlock (c : Chip) : Chip :=
  if c.lifecycle ≠ lcUnlocked then c
  else
    let c := { c with sec.jtag := false, sec.unlockEnd := none }
    (c.upd SECURITY_STATUS 0 [(SECURITY_STATUS.LIFECYCLE, lcField), (SECURITY_STATUS.UNLOCK_EXPIRY, 0)]).raise 0x0102 2 0
      (u8 lcUnlocked ++ u8 lcField ++ rsvBytes 2) audEstate

/-! ## The core supply -/

/-- `EN_CORE` goes low: VCORE and every domain on it are lost (R490, R497, R499). -/
def Chip.coreOff (c : Chip) : Chip :=
  let c := c.resetUnits false
  let c := { c with boot.enCore := false, boot.coreWait := none }
  let c := c.upd SUPPLY_STATUS 0 [(SUPPLY_STATUS.PG_CORE, 0), (SUPPLY_STATUS.VCORE_MV, 0), (SUPPLY_STATUS.IOUT_MA, 0)]
  c.upd AON_STATUS 0 [(AON_STATUS.BOOT_STEP, min (c.getF AON_STATUS 0 AON_STATUS.BOOT_STEP) 4)]

/-- A chip reset (Table 17.6) for a cause of Table 17.7. `core` says that VCORE stays up, so that the sequence goes on from step 6. -/
def Chip.chipReset (c : Chip) (cause : Nat) (core : Bool) : Chip :=
  let old := c.level
  let c := if old = lvFull then c.leaveFull else c
  let c := if lvLimited ≤ old then c.leaveLimited
    else if c.getB SUPPLY_STATUS 0 SUPPLY_STATUS.PG_CORE then c.hostDown.storeReset else c
  let c := c.endUnlock
  let c := { c with host.heldChip := [], host.deferred := [] }
  let c := if core then c.resetUnits true else c.coreOff
  let c := c.incSat AON_STATUS 0 AON_STATUS.CHIP_RESET_CNT AON_STATUS.SAT 0
  let c := c.upd AON_STATUS 0 [(AON_STATUS.LAST_RESET, c.now), (AON_STATUS.LAST_RESET_CAUSE, 2 ^ cause),
    (AON_STATUS.LATCH, setBit (c.getF AON_STATUS 0 AON_STATUS.LATCH) cause),
    (AON_STATUS.BOOT_STEP, min (c.getF AON_STATUS 0 AON_STATUS.BOOT_STEP) (if core then 5 else 4))]
  let new := min old lvSurvival
  let c := c.logEntry (2 ^ cause) old new
  let c := if new < old then (c.setTier new (2 ^ cause)) else c
  c.judgeAuto

/-- `CHIP_RESET`: a reset made for one of the causes of R506. -/
def Chip.chipResetRow (c : Chip) (cause : Nat) : Chip :=
  if !c.boot.vaon ∨ ¬ [0, 3, 4, 5, 14, 16].contains cause then c else c.chipReset cause (5 ≤ cause)

/-! ## Loss of VAON -/

/-- Records whose values lie in flash or OTP. -/
def flashIds : List Nat := [BANK_INFO, FW_SLOT, SECURITY_STATUS].map RecDesc.id

/-- VBUS falls below range and VAON with it: what stays is flash, OTP and, on VBAK, the RTC with its offset and daylight instants (R421, R426). -/
def Chip.vaonLost (c : Chip) : Chip :=
  let t := c.time
  let keep : List Nat := flashIds ++ (if t.vbak then [TIME_STATUS.id] else [])
  let rtc : Time := if t.vbak then
      { up := t.up, rtc := t.rtc, vbak := true, acc := t.acc, servo := t.servo, freq := t.freq,
        xtalDead := t.xtalDead, dst := t.dst, localPrev := t.localPrev, rates := t.rates }
    else { up := t.up, lost := true, xtalDead := t.xtalDead }
  let c0 := c.endUnlock
  let s := c0.store
  let b := c0.boot
  let ret := c0.getF STORE_STATUS 0 STORE_STATUS.RING_RETIRED
  let c : Chip := {
    recs := c0.recs.filter (fun p => keep.contains (p.1 % 0x10000)), vers := c0.vers.filter (fun p => keep.contains (p.1 % 0x10000)),
    freeIdx := c0.freeIdx, host := { wire := c0.host.wire, ethLink := c0.host.ethLink },
    sec := { serial := c0.sec.serial, identityBurned := c0.sec.identityBurned },
    fb := { copyA := c0.fb.copyA, copyB := c0.fb.copyB, committed := c0.fb.committed },
    boot := { vbusPf := b.vbusPf, vbusLow := b.vbusLow, slots := b.slots, dirA := b.dirA, dirB := b.dirB, bundleA := b.bundleA, bundleB := b.bundleB, bundleBroken := b.bundleBroken,
              vddaGood := b.vddaGood, vioGood := b.vioGood },
    store := { journal := s.journal, eseq := s.eseq, sealedA := s.sealedA, sealedB := s.sealedB, ring := s.ring, ringNext := s.ringNext, ringErased := s.ringErased,
               ops := s.ops },
    zones := { archA := c0.zones.archA, archB := c0.zones.archB }, time := rtc }
  let c := c.upd STORE_STATUS 0 [(STORE_STATUS.RING_RETIRED, ret)]
  let c := c.upd SECURITY_STATUS 0 [(SECURITY_STATUS.PINS, 0)]
  if t.vbak then c.resetTime else c

/-! ## Power failure and VBUS (R455, R472, R499) -/

/-- The actions of R455. A second detection while they run has no effect; without VCORE there is nothing to halt or store. -/
def Chip.powerFailActs (c : Chip) : Chip :=
  let c := (c.setCause 0).incSat SUPPLY_STATUS 0 SUPPLY_STATUS.PF_CNT SUPPLY_STATUS.SAT 0
  if c.boot.pfHalt ∨ ¬ c.boot.enCore then c
  else
    let c := (c.endManuals stTierDown).allOff
    let c := c.each 256 (fun c e => c.setLane e {})
    let c := c.each 64 (fun c p => if c.pstate p = psRetired then c else c.upd PERGOLA_STATUS p [(PERGOLA_STATUS.PSTATE, psOff)])
    let c := c.arraysOff
    let c := (c.meteringClose true).storePowerFail
    { c with boot.pfHalt := true }

/-- `POWER_FAIL`: VBUS (0.1 V) has been below 30 V for 50 µs and the detector was armed. -/
def Chip.powerFail (c : Chip) (dv : Nat) : Chip :=
  if c.boot.vbusPf ∨ 300 ≤ dv then c
  else
    let c := Chip.upd { c with boot.vbusPf := true } SUPPLY_STATUS 0 [(SUPPLY_STATUS.VBUS, dv)]
    let c := c.raise 0x0E02 1 0 (u8 1 ++ u8 1 ++ u16 dv) evRail
    c.powerFailActs

/-- The tests of Table 16.2, VBUS in 0.1 V. -/
def vbusTest (code : Nat) (entered : Bool) (dv : Nat) : Bool :=
  if code = 0 then (if entered then decide (dv < 180) else decide (200 ≤ dv))
  else if code = 1 then (if entered then decide (dv < 300) else decide (340 ≤ dv))
  else if code = 2 then (if entered then decide (dv < 360) else decide (370 ≤ dv))
  else if code = 3 then (if entered then decide (575 < dv) else decide (dv ≤ 570))
  else if entered then decide (600 < dv) else decide (dv ≤ 580)

/-- A condition of Table 16.2 is in force. -/
def Chip.vbusIn (c : Chip) (code : Nat) : Bool :=
  if code = 0 then c.boot.vbusBelow else if code = 1 then c.boot.vbusPf else if code = 2 then c.boot.vbusLow
  else if code = 3 then c.boot.vbusHigh else c.boot.vbusOv

/-- What entering or leaving a condition does. -/
def Chip.vbusAct (c : Chip) (code : Nat) (entered : Bool) : Chip :=
  let b := c.boot
  if code = 0 then
    if entered then ((Chip.setCause { c with boot.vbusBelow := true } 0).fallCheck 1).vaonLost else { c with boot.vbusBelow := false }
  else if code = 1 then
    if entered then Chip.powerFailActs { c with boot.vbusPf := true }
    else Chip.putCause { c with boot.vbusPf := false } 0 b.vbusBelow
  else if code = 2 then
    Chip.upd { c with boot.vbusLow := entered } SUPPLY_STATUS 0 [(SUPPLY_STATUS.VBUS_LOW, if entered then 1 else 0)]
  else if code = 3 then
    Chip.upd { c with boot.vbusHigh := entered } SUPPLY_STATUS 0 [(SUPPLY_STATUS.VBUS_HIGH, if entered then 1 else 0)]
  else
    let c := Chip.upd { c with boot.vbusOv := entered } SUPPLY_STATUS 0 [(SUPPLY_STATUS.VBUS_OV, if entered then 1 else 0)]
    if entered then c.railStop rcVbus else c.railResume rcVbus

/-- `VBUS_CONDITION_CHANGE`: a condition is entered or left after its dwell, at a VBUS of `dv` × 0.1 V. No event before VAON is valid. -/
def Chip.vbusConditionChange (c : Chip) (code : Nat) (entered : Bool) (dv : Nat) : Chip :=
  if c.vbusIn code = entered ∨ ¬ vbusTest code entered dv then c
  else
    let c := c.upd SUPPLY_STATUS 0 [(SUPPLY_STATUS.VBUS, min dv 0xFFFF)]
    let c := if c.boot.vaon then
        c.raise 0x0E02 (if code = 4 then 2 else 1) 0 (u8 code ++ u8 (if entered then 1 else 0) ++ u16 (min dv 0xFFFF)) evRail else c
    c.vbusAct code entered

/-- `POWER_RETURN`: VBUS is back after R455 began, with VAON kept: the core goes off for 100 ms and the sequence runs from step 5 (R499). -/
def Chip.powerReturn (c : Chip) : Chip :=
  if !c.boot.vaon ∨ ¬ c.boot.pfHalt ∨ c.boot.vbusPf then c
  else { c.chipReset 0 false with boot.pfHalt := false, boot.coreLowAt := some c.up }

/-! ## Brown-out, the core supply's loss, PLL locks (R483, R497, R498) -/

/-- `BROWNOUT`: VDDA (0) or VIO (1) becomes good or not good. -/
def Chip.brownout (c : Chip) (rail : Nat) (good : Bool) : Chip :=
  let c := if rail = 0 then { c with boot.vddaGood := good } else { c with boot.vioGood := good }
  if c.boot.vddaGood && c.boot.vioGood then c.endCause 4
  else if !good ∧ c.boot.enCore then (c.setCause 4).chipReset 4 false
  else c

/-- `PG_CORE_LOSS`: `PG_CORE` has fallen for 10 µs in operation. -/
def Chip.pgCoreLoss (c : Chip) : Chip :=
  if !c.getB SUPPLY_STATUS 0 SUPPLY_STATUS.PG_CORE then c
  else
    let c := (c.upd SUPPLY_STATUS 0 [(SUPPLY_STATUS.PG_CORE, 0)]).setCause 3
    Chip.upd { c.chipReset 3 false with boot.coreLowAt := some c.up, boot.coreFails := 0 } AON_STATUS 0 [(AON_STATUS.CORE_TRIES, 0)]

/-- `PLL_LOSS_OF_LOCK`: 0 the PLL-A core, 1 to 4 a terrace output, 5 PLL-B. -/
def Chip.pllLossOfLock (c : Chip) (k : Nat) : Chip :=
  let locked := if k = 0 then c.getB SUPPLY_STATUS 0 SUPPLY_STATUS.PLLA_LOCK
    else if k = 5 then c.getB SUPPLY_STATUS 0 SUPPLY_STATUS.PLLB_LOCK
    else decide (c.tstate (k - 1) ≤ tsResetting) && !c.getB TERRACE_STATUS (k - 1) TERRACE_STATUS.RELOCKING
  if !locked then c
  else
    let c := (c.incSat SUPPLY_STATUS 0 SUPPLY_STATUS.UNLOCK_CNT SUPPLY_STATUS.SAT 1).raise 0x0E08 2 k [] (audOps scDiag)
    if k = 0 then ((c.upd SUPPLY_STATUS 0 [(SUPPLY_STATUS.PLLA_LOCK, 0)]).setCause 5).chipReset 5 true
    else if k = 5 then ((c.upd SUPPLY_STATUS 0 [(SUPPLY_STATUS.PLLB_LOCK, 0)]).setCause 6).fallCheck (2 ^ 6)
    else
      let t := k - 1
      let c := c.modTer t (fun x => { x with relockTo := c.getF TERRACE_STATUS t TERRACE_STATUS.CLK_MHZ, lockedAt := none })
      c.upd TERRACE_STATUS t [(TERRACE_STATUS.RELOCKING, 1), (TERRACE_STATUS.CLK_MHZ, 25)]

/-- `PLLB_RELOCK`: PLL-B locks again while REF is the crystal. -/
def Chip.pllbRelock (c : Chip) : Chip :=
  if c.boot.enCore ∧ c.getB SUPPLY_STATUS 0 SUPPLY_STATUS.REF_XTAL ∧ c.getB SUPPLY_STATUS 0 SUPPLY_STATUS.PLLA_LOCK then
    (c.upd SUPPLY_STATUS 0 [(SUPPLY_STATUS.PLLB_LOCK, 1)]).endCause 6
  else c

/-! ## The reset pin (R508) -/

/-- `RESET_PIN_CHANGE`: a level of `RESET_N` has held for 10 ms. Accepted low, it also ends the wait after four failed attempts of step 5
(R497). -/
def Chip.resetPinChange (c : Chip) (isLow : Bool) : Chip :=
  if !c.boot.vaon ∨ c.boot.resetStuck ∨ c.boot.resetLow = isLow then c
  else if isLow then
    let c := Chip.setCause { c with boot.resetLow := true, boot.resetSince := c.up } 14
    let c := c.chipReset 14 (c.getB SUPPLY_STATUS 0 SUPPLY_STATUS.PG_CORE)
    let dead := decide (4 ≤ c.boot.coreFails)
    if dead then
      (Chip.upd { c with boot.coreFails := 0, boot.coreLowAt := none } AON_STATUS 0 [(AON_STATUS.CORE_TRIES, 0)]).endCause 3
    else c
  else Chip.endCause { c with boot.resetLow := false } 14

/-- `RESET_PIN_STUCK`: low for 30 s without a break: the pin is failed closed and the controller leaves reset. -/
def Chip.resetPinStuck (c : Chip) : Chip :=
  if c.boot.resetLow ∧ c.passedS c.boot.resetSince 30 then
    let c := (Chip.endCause { c with boot.resetLow := false, boot.resetStuck := true } 14).setCause 15
    c.raise 0x0F00 2 0 (u8 1 ++ rsvBytes 3) (audOps scDiag)
  else c

/-- `RESET_PIN_RECOVER`: high for 1 s, and the pin acts again. -/
def Chip.resetPinRecover (c : Chip) : Chip :=
  if c.boot.resetStuck then
    (Chip.endCause { c with boot.resetStuck := false } 15).raise 0x0F00 2 0 (u8 0 ++ rsvBytes 3) (audOps scDiag)
  else c

end Sys2Proof.Machine
end

