-- ==== Sys2Proof/Machine/Power.lean ====
section
/-!
DEFINITION. The core voltage and the terrace clocks (R478 to R482), and the slow round (R485 to R490): sensors, levels, throttle, band
and logic shutdown, with the records `AVS_CFG` and `THERM_CFG`.
-/

namespace Sys2Proof.Machine

/-! ## The core voltage (R479, R480) -/

/-- The base voltage in mV for the highest terrace clock (Table 16.8a). -/
def coreBase (mhz : Nat) : Nat := if mhz ≤ 50 then 720 else if mhz ≤ 100 then 780 else 860

def Chip.supplyF (c : Chip) (f : Fld) : Nat := c.getF SUPPLY_STATUS 0 f
def Chip.avsFault (c : Chip) : Bool := c.getB SUPPLY_STATUS 0 SUPPLY_STATUS.AVS_FAULT

/-- The clock of a terrace in force or being relocked to, and while its voltage is being raised the clock it is raised to. -/
def Chip.clockNeed (c : Chip) (t : Nat) : Nat :=
  let x := c.ter t
  let clk := if c.getB TERRACE_STATUS t TERRACE_STATUS.RELOCKING then x.relockTo else c.getF TERRACE_STATUS t TERRACE_STATUS.CLK_MHZ
  if c.boot.raising.contains t then max clk x.target else clk

/-- The base that the terraces need now. -/
def Chip.baseNeed (c : Chip) : Nat :=
  coreBase ((List.range 4).foldl (fun m t => if c.tstate t ≤ tsResetting then max m (c.clockNeed t) else m) 0)

/-- The base written last: the target without its trim. -/
def Chip.baseNow (c : Chip) : Nat := ((c.supplyF SUPPLY_STATUS.VCORE_TARGET : Int) - c.getS SUPPLY_STATUS 0 SUPPLY_STATUS.TRIM_MV).toNat

/-- A PMBus transaction of which `fails` attempts failed, the third of them for good, with `STATUS_WORD` after it (R480). -/
def Chip.pmbus (c : Chip) (fails word : Nat) : Chip :=
  let c := c.each (min fails 3) (fun c _ => c.incSat SUPPLY_STATUS 0 SUPPLY_STATUS.PMBUS_ERR_CNT SUPPLY_STATUS.SAT 2)
  if fails < 3 ∨ c.avsFault then c
  else (c.upd SUPPLY_STATUS 0 [(SUPPLY_STATUS.AVS_FAULT, 1)]).raise 0x0E07 2 0 (u8 1 ++ rsvBytes 1 ++ u16 word) (audOps scDiag)

/-- The target follows a base: a change of base resets the trim (R479). -/
def Chip.setBase (c : Chip) (mv : Nat) : Chip :=
  if c.baseNow = mv then c
  else c.upd SUPPLY_STATUS 0 [(SUPPLY_STATUS.VCORE_TARGET, max 650 (min mv 900)), (SUPPLY_STATUS.TRIM_MV, 0)]

/-- The PMBus master may write: Limited or Full, no tier hold, a linear `VOUT_MODE` (R478, Table 16.9). -/
def Chip.avsRuns (c : Chip) : Bool := decide (lvLimited ≤ c.level) && c.boot.hold.isNone && c.boot.voutMode

/-- The terrace output starts to relock: the terrace runs from REF (R482 steps 2 and 3). -/
def Chip.startRelock (c : Chip) (t : Nat) : Chip :=
  let c := c.modTer t (fun x => { x with relockTo := x.target, lockedAt := none })
  c.upd TERRACE_STATUS t [(TERRACE_STATUS.RELOCKING, 1), (TERRACE_STATUS.CLK_MHZ, 25)]

/-- A terrace whose clock differs from the one its mode and the throttle step give. -/
def Chip.wantsRelock (c : Chip) (t : Nat) : Bool :=
  decide (lvLimited ≤ c.level) && decide (c.tstate t ≤ tsResetting) && !c.getB TERRACE_STATUS t TERRACE_STATUS.RELOCKING
    && (c.ter t).target != 0 && (c.ter t).target != c.getF TERRACE_STATUS t TERRACE_STATUS.CLK_MHZ

def Chip.rises (c : Chip) (t : Nat) : Bool := decide (c.getF TERRACE_STATUS t TERRACE_STATUS.CLK_MHZ < (c.ter t).target)

/-- `VCORE_RAISE`: the target for a terrace that is to rise is written. Until every terrace has reached its first clock the regulator's
start-up output serves (R478). -/
def Chip.vcoreRaise (c : Chip) (t fails word : Nat) : Chip :=
  if !c.avsRuns ∨ c.boot.firstRaise ∨ c.avsFault ∨ !c.wantsRelock t ∨ !c.rises t ∨ c.boot.raising.contains t then c
  else
    let c := { c with boot.raising := c.boot.raising ++ [t] }
    let c := (c.setBase c.baseNeed).pmbus fails word
    if 3 ≤ fails then { c with boot.raising := c.boot.raising.filter (· != t) } else c

/-- `VCORE_SETTLED`: `mv` is `READ_VOUT`, `us` the time since the write. The terraces that waited relock. -/
def Chip.vcoreSettled (c : Chip) (mv us fails word : Nat) : Chip :=
  if !c.avsRuns ∨ c.boot.raising.isEmpty then c
  else
    let c := c.pmbus fails word
    if 3 ≤ fails then { c with boot.raising := [] }
    else if c.supplyF SUPPLY_STATUS.VCORE_TARGET ≤ mv + 10 ∧ c.getF AVS_CFG 0 AVS_CFG.SETTLE_US ≤ us then
      let l := c.boot.raising
      Chip.eachOf { c with boot.raising := [] } l (fun c t => if c.wantsRelock t then c.startRelock t else c)
    else c

/-- A lower mode's relock waits for the end of the iterations of a running round (R29). -/
def Chip.mayLower (c : Chip) (t : Nat) : Bool :=
  match (c.ter t).roundQ with
  | none => true
  | some q => decide (q + 720 * ticksPerSecond ≤ c.now)

/-- `TERRACE_RELOCK_START`: a terrace whose relock waits for no voltage. -/
def Chip.terraceRelockStart (c : Chip) (t : Nat) : Chip :=
  if !c.wantsRelock t then c
  else if c.rises t then
    if c.avsFault ∨ ¬ c.boot.raising.isEmpty ∨ (!c.boot.firstRaise ∧ c.baseNow < coreBase (c.ter t).target) then c else c.startRelock t
  else if c.mayLower t then c.startRelock t
  else c

/-- `TERRACE_RELOCK_LOCKED`. -/
def Chip.terraceRelockLocked (c : Chip) (t : Nat) : Chip :=
  if c.getB TERRACE_STATUS t TERRACE_STATUS.RELOCKING ∧ (c.ter t).lockedAt.isNone then
    c.modTer t (fun x => { x with lockedAt := some c.up })
  else c

/-- Every terrace in service runs at the clock of its mode. -/
def Chip.clocksReached (c : Chip) : Bool :=
  (List.range 4).all (fun t => decide (tsOutOfService ≤ c.tstate t) ||
    (!c.getB TERRACE_STATUS t TERRACE_STATUS.RELOCKING && c.getF TERRACE_STATUS t TERRACE_STATUS.CLK_MHZ == (c.ter t).target))

/-- A first or a lower target is written where the PMBus may and no transaction stands failed. -/
def Chip.settleBase (c : Chip) (fails word : Nat) : Chip :=
  if !c.avsRuns ∨ c.avsFault then c
  else if c.boot.firstRaise then
    if c.clocksReached then (Chip.setBase { c with boot.firstRaise := false } c.baseNeed).pmbus fails word else c
  else if c.baseNeed < c.baseNow then (c.setBase c.baseNeed).pmbus fails word
  else c

/-- `TERRACE_RELOCK_RETURN`: the terrace is back on its output; then the voltage is lowered where no terrace needs the higher base, or
the first target is written. -/
def Chip.terraceRelockReturn (c : Chip) (t fails word : Nat) : Chip :=
  let x := c.ter t
  if !c.getB TERRACE_STATUS t TERRACE_STATUS.RELOCKING ∨ x.lockedAt.isNone then c
  else
    let c := c.upd TERRACE_STATUS t [(TERRACE_STATUS.RELOCKING, 0), (TERRACE_STATUS.CLK_MHZ, x.relockTo)]
    let c := c.modTer t (fun y => { y with lockedAt := none, relockTo := 0 })
    c.settleBase fails word

/-- The path monitors move the trim by `dir` × 5 mV (R479). -/
def Chip.moveTrim (c : Chip) (dir : Int) (fails word : Nat) : Chip :=
  if !c.avsRuns ∨ c.avsFault ∨ c.boot.firstRaise ∨ ¬ c.getB AVS_CFG 0 AVS_CFG.TRIM_EN then c
  else
    let top : Int := c.getF AVS_CFG 0 AVS_CFG.TRIM_MAX_MV
    let old := c.getS SUPPLY_STATUS 0 SUPPLY_STATUS.TRIM_MV
    let new := max (-top) (min (old + 5 * dir) top)
    if new = old then c
    else
      let base : Int := c.baseNow
      (c.upd SUPPLY_STATUS 0 [(SUPPLY_STATUS.TRIM_MV, ofSigned 16 new),
        (SUPPLY_STATUS.VCORE_TARGET, (max 650 (min (base + new) 900)).toNat)]).pmbus fails word

/-- The PMBus part of a slow round: what failed is tried again, and `AVS_FAULT` clears once `READ_VOUT` confirms the target (R480). -/
def Chip.avsRound (c : Chip) (mv ma fails word : Nat) (dir : Int) : Chip :=
  if !c.avsRuns then c
  else
    let c := if fails < 3 then c.upd SUPPLY_STATUS 0 [(SUPPLY_STATUS.IOUT_MA, min ma 0xFFFF)] else c
    if c.avsFault then
      let c := c.pmbus fails word
      let t := c.supplyF SUPPLY_STATUS.VCORE_TARGET
      if fails < 3 ∧ t ≠ 0 ∧ t ≤ mv + 10 ∧ mv ≤ t + 10 then
        (c.upd SUPPLY_STATUS 0 [(SUPPLY_STATUS.AVS_FAULT, 0)]).raise 0x0E07 2 0 (u8 0 ++ rsvBytes 1 ++ u16 word) (audOps scDiag)
      else c
    else if c.boot.firstRaise ∨ c.baseNeed < c.baseNow then c.settleBase fails word
    else c.moveTrim dir fails word

/-! ## Sensors and levels (R485, R487) -/

def Chip.thermF (c : Chip) (f : Fld) : Nat := c.getF THERMAL_STATUS 0 f
def Chip.sensState (c : Chip) (k : Nat) : Nat := c.thermF (THERMAL_STATUS.SENS_STATE k)
def Chip.sensTemp (c : Chip) (k : Nat) : Int := c.getS THERMAL_STATUS 0 (THERMAL_STATUS.TEMP k)
def Chip.sensBroken (c : Chip) (k : Nat) : Bool := c.sensState k == 1 || c.sensState k == 2

/-- What a reading says: 0 valid, 1 open, 2 short. A diode is read in mV, a thermistor as a ratio in 1/65536. -/
def sensRaw (k raw : Nat) : Nat :=
  if k < 3 then (if 900 < raw then 1 else if raw < 200 then 2 else 0)
  else if 98 * 65536 < 100 * raw then 1 else if 100 * raw < 2 * 65536 then 2 else 0

/-- The temperature of a valid reading in 0.01 °C: a diode's as converted, a thermistor's by the formula of R485, in units
of 0.01 °C. -/
def Chip.sensConvert (c : Chip) (k raw : Nat) (temp : Int) : Int :=
  if k < 3 then temp
  else thermistor 485 (10000 * raw) ((65536 - raw) * c.getF THERM_CFG (k - 3) THERM_CFG.R25) (c.getF THERM_CFG (k - 3) THERM_CFG.BETA) 100

/-- Steps 1 and 2 of R486 for one sensor. A broken sensor returns to OK after 10 valid rounds in a row. -/
def Chip.judgeSensor (c : Chip) (k raw : Nat) (temp : Int) : Chip :=
  let r := sensRaw k raw
  let show_ := fun (c : Chip) (st t : Nat) => c.upd THERMAL_STATUS 0 [(THERMAL_STATUS.SENS_STATE k, st), (THERMAL_STATUS.TEMP k, t)]
  let run := fun (c : Chip) (n : Nat) => { c with boot.sensGood := Tab.set 0 c.boot.sensGood k n }
  if 3 ≤ k ∧ ¬ c.getB THERM_CFG (k - 3) THERM_CFG.EN then run (show_ c 3 0x8000) 0
  else if r ≠ 0 then
    let was := c.sensState k
    let c := run (show_ c r 0x8000) 0
    if was = r then c else c.raise 0x0E06 2 k (u8 r ++ rsvBytes 3) (audOps scDiag)
  else
    let n := Tab.get 0 c.boot.sensGood k + 1
    let t := ofSigned 16 (max (-32767) (min (c.sensConvert k raw temp) 32767))
    if c.sensBroken k ∧ n < 10 then run c n else run (show_ c 0 t) (min n 10)

/-- The thresholds of a sensor for the levels 1 to 3 (Table 16.8). -/
def Chip.thresholds (c : Chip) (k : Nat) : List (Nat × Int) :=
  if k < 3 then [(1, 10500), (2, 11500), (3, 12500)]
  else [(1, c.getS THERM_CFG (k - 3) THERM_CFG.WARN_C), (3, c.getS THERM_CFG (k - 3) THERM_CFG.SHUT_C)]

/-- A level is entered at its threshold and left at the threshold minus 6 °C. -/
def Chip.newLevel (c : Chip) (k : Nat) : Nat :=
  if c.sensBroken k then 3
  else if c.sensState k = 3 then 0
  else
    let old := c.thermF (THERMAL_STATUS.LEVEL k)
    let t := c.sensTemp k
    (c.thresholds k).foldl (fun m p => if p.2 ≤ t ∨ (p.1 ≤ old ∧ p.2 - 600 < t) then max m p.1 else m) (0 : Nat)

/-- Step 3 of R486 for one sensor. -/
def Chip.setLevel (c : Chip) (k : Nat) : Chip :=
  let old := c.thermF (THERMAL_STATUS.LEVEL k)
  let new := c.newLevel k
  if new = old then c
  else (c.upd THERMAL_STATUS 0 [(THERMAL_STATUS.LEVEL k, new)]).raise 0x0E03 (if 2 ≤ new then 2 else 1) k
    (u8 old ++ u8 new ++ u16 (c.thermF (THERMAL_STATUS.TEMP k))) (audOps scDiag)

/-! ## Logic shutdown (R490) -/

/-- `DIODE_L` is below its shutdown level and not broken. -/
def Chip.logicCool (c : Chip) : Bool := decide (c.thermF (THERMAL_STATUS.LEVEL 0) < 3) && !c.sensBroken 0

/-- The logic shutdown: tier, store, `EN_CORE`. -/
def Chip.logicShutdown (c : Chip) : Chip :=
  if c.boot.shutdown ∨ c.boot.pfHalt then c
  else
    let c := Chip.setCause { c with boot.shutdown := true, boot.coolRounds := 0 } 13
    let c := c.incSat THERMAL_STATUS 0 THERMAL_STATUS.SHUTDOWN_CNT THERMAL_STATUS.SAT 0
    let c := if c.level ≤ lvSurvival ∧ c.getB SUPPLY_STATUS 0 SUPPLY_STATUS.PG_CORE then c.storeReset else c
    let c := c.dropTo lvSurvival (2 ^ 13)
    if c.boot.enCore then c.coreOff else c

/-- Step 5 of Table 17.1 may take `EN_CORE` high: Survival, VBUS, VDDA and VIO good, no shutdown, no reset held, and the 100 ms of R497
and R499 over. -/
def Chip.coreMay (c : Chip) : Bool :=
  c.level == lvSurvival && c.survivalUnits && !c.boot.enCore && !c.boot.vbusPf && c.boot.vddaGood && c.boot.vioGood && c.logicCool
    && !c.boot.shutdown && !c.boot.resetLow && !c.boot.pfHalt && decide (c.boot.coreFails < 4)
    && (match c.boot.coreLowAt with
        | some t => c.passedMs t 100
        | none => true)

/-- `EN_CORE` goes high: an attempt of R497. -/
def Chip.coreHigh (c : Chip) : Chip :=
  let c := { c with boot.enCore := true, boot.enCoreSince := c.up, boot.coreLowAt := none, boot.coreWait := none }
  c.upd AON_STATUS 0 [(AON_STATUS.CORE_TRIES, min 4 (c.getF AON_STATUS 0 AON_STATUS.CORE_TRIES + 1))]

/-- Ten rounds with `DIODE_L` valid and below 119 °C end the shutdown, and `EN_CORE` rises where step 5 allows. -/
def Chip.coolRound (c : Chip) (cool : Bool) : Chip :=
  if !c.boot.shutdown then c
  else
    let n := if cool then c.boot.coolRounds + 1 else 0
    let c := { c with boot.coolRounds := n }
    if n < 10 ∨ !c.logicCool then c
    else
      let c := Chip.endCause { c with boot.shutdown := false, boot.coolRounds := 0 } 13
      if c.coreMay then c.coreHigh else c

/-! ## Throttle and band (R488, R489) -/

/-- The clocks of every terrace follow their modes and the throttle step (Table 1.7). -/
def Chip.retarget (c : Chip) : Chip :=
  c.each 4 (fun c t =>
    let st := c.thermF THERMAL_STATUS.THROTTLE
    let c := c.upd TERRACE_STATUS t [(TERRACE_STATUS.THROTTLE, st)]
    if c.tstate t ≤ tsResetting then c.modTer t (fun x => { x with target := modeClock (c.getF TERRACE_PERF t TERRACE_PERF.MODE) st }) else c)

/-- The base that a throttle step would need. -/
def Chip.baseAtStep (c : Chip) (st : Nat) : Nat :=
  coreBase ((List.range 4).foldl (fun m t =>
    if c.tstate t ≤ tsResetting then max m (modeClock (c.getF TERRACE_PERF t TERRACE_PERF.MODE) st) else m) 0)

/-- The throttle step moves (R488); during a tier hold a fall that needs a higher voltage waits (Table 16.9). -/
def Chip.moveThrottle (c : Chip) : Chip :=
  let t := c.sensTemp 0
  let old := c.thermF THERMAL_STATUS.THROTTLE
  let new := if 11500 ≤ t then min (old + 1) 3 else if 10900 ≤ t then old else old - 1
  if c.level < lvLimited ∨ c.sensState 0 ≠ 0 ∨ new = old then c
  else if new < old ∧ c.boot.hold.isSome ∧ c.baseNow < c.baseAtStep new then c
  else
    let c := if old = 0 then c.each 4 (fun c t => c.planSuspend t true) else c
    let c := (c.upd THERMAL_STATUS 0 [(THERMAL_STATUS.THROTTLE, new)]).retarget
    let c := if new = 0 then c.each 4 (fun c t => c.planSuspend t false) else c
    c.raise 0x0E04 1 0 (u8 old ++ u8 new ++ u16 (c.thermF (THERMAL_STATUS.TEMP 0))) (audOps scDiag)

/-- The lower boundary of a temperature band, 0.01 °C. -/
def bandFloor (b : Nat) : Int := if b = 0 then -32768 else if b = 1 then 4000 else if b = 2 then 7000 else 10000

/-- The dead time of the rail in ns by band (Table 16.3). -/
def deadTime (band : Nat) : Nat := if band = 0 then 20 else if band = 1 then 25 else if band = 2 then 30 else 40

/-- The temperature band moves by one band (R489); what it is with a broken diode is not stated. -/
def Chip.moveBand (c : Chip) : Chip :=
  let broken := (List.range 3).any c.sensBroken
  let top := max (c.sensTemp 0) (max (c.sensTemp 1) (c.sensTemp 2))
  let old := c.thermF THERMAL_STATUS.BAND
  let new := if old < 3 ∧ (broken ∨ bandFloor (old + 1) ≤ top) then old + 1
    else if 0 < old ∧ !broken ∧ top < bandFloor old - 300 then old - 1
    else old
  if new = old then c
  else
    let shown := if broken then Config.unstated 489 [c.sensTemp 0, c.sensTemp 1, c.sensTemp 2] else top
    let c := (c.upd THERMAL_STATUS 0 [(THERMAL_STATUS.BAND, new)]).raise 0x0E05 0 0 (u8 old ++ u8 new ++ u16 (ofSigned 16 shown)) (audOps scDiag)
    c.marginNext.bandCal

/-! ## The slow round (R486) -/

/-- The actions of Table 16.8: the rail stops while a sensor that guards it is at shutdown, the logic shuts down. -/
def Chip.thermalActions (c : Chip) : Chip :=
  let c := if c.railHot then (if c.railState = rlStarting ∨ c.railState = rlRunning then c.railStop rcThermal else c) else c.railResume rcThermal
  if c.logicCool then c else c.logicShutdown

/-- Step 4 of Table 17.1: the first round completes, and with it Survival is reached. -/
def Chip.firstRound (c : Chip) : Chip :=
  let c := { c with boot.slowDone := true }
  let c := c.upd AON_STATUS 0 [(AON_STATUS.BOOT_STEP, max 4 (c.getF AON_STATUS 0 AON_STATUS.BOOT_STEP))]
  if c.level = lvFirebreak ∧ lvSurvival ≤ c.supported then c.enterSurvival else c

/-- `SLOW_ROUND`: the readings of the seven sensors (mV and 0.01 °C for a diode, ratio for a thermistor), and what the PMBus and the
path monitors report. -/
def Chip.slowRound (c : Chip) (sens : List (Nat × Int)) (mv ma fails word : Nat) (slack : Nat) : Chip :=
  if !c.boot.vaon ∨ !c.boot.refRun ∨ c.level = lvNone then c
  else
    let rd := fun (k : Nat) => sens.getD k (0, 0)
    let c := c.each 7 (fun c k => c.judgeSensor k (rd k).1 (rd k).2)
    let c := c.each 7 Chip.setLevel
    let c := c.thermalActions
    let c := c.moveThrottle
    let c := c.moveBand
    let c := c.coolRound (sensRaw 0 (rd 0).1 == 0 && decide ((rd 0).2 < 11900))
    let c := if c.boot.slowDone then c else c.firstRound
    c.avsRound mv ma fails word ((slack : Int) - 1)

/-! ## Records -/

/-- `AVS_CFG` (R493): the estate. -/
def Chip.avsCfgWrite (c : Chip) (x : Ctx) (i ver img : Nat) : Res :=
  c.setRecord x.h AVS_CFG i ver img { may := x.who.estateOnly } (fun c _ => c)

/-- `THERM_CFG` (R493): the estate; `SHUT_C` lies above `WARN_C`. -/
def Chip.thermCfgWrite (c : Chip) (x : Ctx) (i ver img : Nat) : Res :=
  c.setRecord x.h THERM_CFG i ver img
    { may := x.who.estateOnly, bad := decide (THERM_CFG.SHUT_C.get img ≤ THERM_CFG.WARN_C.get img) } (fun c _ => c)

end Sys2Proof.Machine
end

