-- ==== Sys2Proof/Machine/Bundle.lean ====
section
/-!
DEFINITION. The configuration bundle in QSPI flash (R505): what it holds, how the Keeper writes the older copy, and how KFW loads it.
-/

namespace Sys2Proof.Machine

/-- A record of the bundle: what may be written and is kept nowhere else, tick tables and programs included (R505). -/
def inBundle (key : Nat) : Bool :=
  let id := key % 0x10000
  [TICK_TABLE.id, PROGRAM_INFO.id, PROGRAM_IMAGE.id].contains id ||
    (match findRecord id with
     | some r => bundled r
     | none => false)

/-- The images as they stand. -/
def Chip.bundleNow (c : Chip) : List (Nat × Nat) := c.recs.filter (fun p => inBundle p.1)

/-- The newer copy is copy B. -/
def Chip.bundleNewerB (c : Chip) : Bool :=
  let a := c.boot.bundleA
  let b := c.boot.bundleB
  b.valid && (!a.valid || decide (a.seq < b.seq))

/-- The older copy is written and becomes the newer; a write cut off leaves it invalid (R505, R520). -/
def Chip.bundleWrite (c : Chip) (cut : Bool) : Chip :=
  let n := max (if c.boot.bundleA.valid then c.boot.bundleA.seq else 0) (if c.boot.bundleB.valid then c.boot.bundleB.seq else 0) + 1
  let new : Bundle := if cut then {} else { valid := true, seq := n, recs := c.bundleNow }
  let c := if c.bundleNewerB then { c with boot.bundleA := new } else { c with boot.bundleB := new }
  if cut then { c with boot.bundleBroken := true } else Chip.upd { c with boot.bundleDirty := none, boot.bundleBroken := false } FW_STATUS 0 [(FW_STATUS.BUNDLE_SEQ, n % 2 ^ 32)]

/-- `CONFIG_BUNDLE_WRITE`: a change waits to be saved. -/
def Chip.configBundleWrite (c : Chip) (cut : Bool) : Chip :=
  if c.boot.keeper ∧ c.boot.bundleDirty.isSome then c.bundleWrite cut else c

/-- A plot's records leave both copies: what they held cannot be read any more (R102, R505). -/
def Chip.bundleForget (c : Chip) (gone : Nat → Bool) : Chip :=
  let f := fun (b : Bundle) => { b with recs := b.recs.filter (fun p => !gone p.1) }
  { c with boot.bundleA := f c.boot.bundleA, boot.bundleB := f c.boot.bundleB }

/-- Each plot's zones follow the owners in the configuration (R161). -/
def Chip.showPlotZones (c : Chip) : Chip :=
  let own := (List.range 1024).map c.zoneOwner
  c.each 256 (fun c p =>
    let m := maskOf ((List.range 1024).filter (fun z => own.getD z 256 == p))
    c.upd PLOT_ZONES p [(PLOT_ZONES.ZONE_MAP, m), (PLOT_ZONES.COUNT, (bitsOf 1024 m).length)])

/-- Channels and axes follow their configuration below Limited: off, or not in use (Tables 8.3 and 9.2). -/
def Chip.showOutputs (c : Chip) : Chip :=
  let c := c.each 96 (fun c ch => c.rest ch)
  c.each 24 (fun c a =>
    if !c.axEn a then c.setAstate a asUnused else if c.astate a = asUnused then c.setAstate a asOff else c)

/-- What shows the configuration follows it: plot zones, outputs, tables in force, slots of the endpoints. -/
def Chip.showLoaded (c : Chip) : Chip :=
  let c := c.showPlotZones.showOutputs
  let c := c.each 4 (fun c t => c.upd TERRACE_STATUS t [(TERRACE_STATUS.TABLE_ID, c.getF TICK_TABLE t TICK_TABLE.TABLE_ID),
    (TERRACE_STATUS.MODE, c.getF TERRACE_PERF t TERRACE_PERF.MODE)])
  c.showIsolations.each 18 Chip.showSlots

/-- KFW loads the newer valid copy, the older if that is not valid, or reset values (R505). `THERM_CFG` is kept in the housekeeping
domain and takes the bundle only after a loss of VAON (R493). -/
def Chip.bundleLoad (c : Chip) : Chip :=
  let newer := if c.bundleNewerB then c.boot.bundleB else c.boot.bundleA
  let any := c.boot.bundleA.valid || c.boot.bundleB.valid
  let lost := !(c.boot.bundleA.valid && c.boot.bundleB.valid) && c.boot.bundleBroken
  let st := if !any then 2 else if lost then 1 else 0
  let recs := if any then newer.recs else []
  let kept := c.boot.thermLoaded
  let c := c.restoreRecs recs (fun k => inBundle k && !(kept && k % 0x10000 == THERM_CFG.id))
  let c := { c with boot.thermLoaded := true, boot.bundleDirty := none, boot.bundleBroken := false }
  let c := c.upd FW_STATUS 0 [(FW_STATUS.BUNDLE_STATE, st), (FW_STATUS.BUNDLE_SEQ, if any then newer.seq % 2 ^ 32 else 0)]
  let c := if st = 0 then c else c.raise 0x0F07 2 0 (u8 st ++ rsvBytes 3) (audOps scDiag)
  c.showLoaded

end Sys2Proof.Machine
end

