-- ==== Sys2Proof/Machine/Security.lean ====
section
/-!
DEFINITION. Principals and secrecy (R80 to R126): identity and attestation, opening a session, credentials, plot slots, enrolment and
eviction, what non-owners see, the presence pins, the lifecycle and anti-rollback.
-/

namespace Sys2Proof.Machine

/-- The ASCII bytes of a quoted string (R89). -/
def ascii (s : String) : List Nat := s.toList.map Char.toNat

/-- A random value of `n` bytes: the value and the machine after the draw. -/
def Chip.draw (c : Chip) (n : Nat) : Nat × Chip := (c.freeVal (8 * n), c.spend)

/-! ## Images that run (R91, Table 17.5) -/

/-- The slot an image runs from, if it does not run from ROM. -/
def Chip.runSlot (c : Chip) (i : Nat) : Option Nat := (c.boot.running.find? (fun p => p.1 == i)).map Prod.snd

/-- The record instance of a firmware slot. -/
def fwInst (i s : Nat) : Nat := 2 * i + s

def Chip.secF (c : Chip) (f : Fld) : Nat := c.getF SECURITY_STATUS 0 f

/-- An image block of `ATTEST`; what identifies the ROM fallback is not stated. -/
def Chip.imageBlock (c : Chip) (i : Nat) : List Nat :=
  let u := fun (k : Nat) => (Config.unstated 91 [(i : Int), (k : Int)]).toNat
  let tail := u16 (c.secF (SECURITY_STATUS.OTP_FLOOR i)) ++ u16 (c.secF (SECURITY_STATUS.SHADOW_MIN i)) ++ rsvBytes 4
  match c.runSlot i with
  | some s =>
    let k := fwInst i s
    let x := c.slot k
    u32 (c.getF FW_SLOT k FW_SLOT.BUILD_ID) ++ u16 (c.getF FW_SLOT k FW_SLOT.SEC_VER) ++ u8 s ++ rsvBytes 1 ++ sha256 (leBytes x.len x.content)
      ++ tail
  | none => u32 (u 0) ++ u16 (u 1) ++ u8 0xFF ++ rsvBytes 1 ++ leBytes 32 (u 2) ++ tail

/-! ## Identity (R89 to R91) -/

def getIdentitySpec : CmdSpec where
  opcode := 0x0100
  classes := [2]
  inSession0 := true
  who := Who.any
  len := fun n => n == 4

/-- The challenges of an endpoint with a new one: at most 32, the oldest gives way. -/
def addChallenge (l : List (Nat × Nat × Nat)) (e v at_ : Nat) : List (Nat × Nat × Nat) :=
  let mine := l.filter (fun x => x.1 == e)
  let l := if 32 ≤ mine.length then
      (match mine with
       | o :: _ => l.erase o
       | [] => l)
    else l
  l ++ [(e, v, at_)]

/-- `GET_IDENTITY`. -/
def Chip.getIdentity (c : Chip) (h : Hdr) (cert : Nat) : Chip :=
  c.command h getIdentitySpec (fun x c => checks c [(decide (1 < cert) || h.prsv != 0, stBadParam)]
    (fun _ =>
      let r := c.draw 16
      let c := r.2
      let c := { c with sec.challenges := addChallenge c.sec.challenges x.ep r.1 c.up }
      let n := (Config.unstated 90 [cert]).toNat % 881
      let body := u64 c.sec.serial ++ u8 0xB0 ++ u8 c.lifecycle ++ u8 (c.getF AON_STATUS 0 AON_STATUS.TIER) ++ u8 cert ++ leBytes 16 r.1
        ++ u16 n ++ rsvBytes 2 ++ (List.range n).map (fun k => Config.certByte cert k % 256)
      { chip := c, data := body ++ devSign (ascii "GENMOR-ID-1" ++ body) }))

def attestSpec : CmdSpec where
  opcode := 0x0101
  classes := [2]
  inSession0 := true
  who := Who.any
  len := fun n => n == 32

/-- `ATTEST`: the 32 bytes of the nonce are echoed. -/
def Chip.attest (c : Chip) (h : Hdr) (nonce : Nat) : Chip :=
  c.command h attestSpec (fun _ c =>
    let body := leBytes 32 nonce ++ u64 c.sec.serial ++ u8 0xB0 ++ u8 c.lifecycle ++ u8 (c.getF AON_STATUS 0 AON_STATUS.TIER)
      ++ u8 (c.secF SECURITY_STATUS.UNLOCK_COUNT) ++ u64 c.now ++ c.imageBlock 0 ++ c.imageBlock 1 ++ c.imageBlock 2
      ++ u8 (c.getF FW_STATUS 0 FW_STATUS.POLICY_IN_FORCE) ++ rsvBytes 3
    { chip := c, data := body ++ devSign (ascii "GENMOR-ATTEST-1" ++ body) })

/-! ## Credentials (R82 to R84) -/

/-- The credential records in the order of their numbers. -/
def credRec (k : Nat) : RecDesc := if k = 0 then CRED_ESTATE else if k = 1 then CRED_OPERATOR else CRED_FEEDER

/-- `VALID`, `GEN` and `PUBKEY` stand at the same place in the three records (Table 3.2). -/
def Chip.credValid (c : Chip) (r : RecDesc) (i : Nat) : Bool := c.getB r i CRED_ESTATE.VALID

/-- `CRED_CHANGED`, with the store that makes the change durable. -/
def Chip.credChanged (c : Chip) (r : RecDesc) (i : Nat) : Chip :=
  (c.raise 0x0101 1 i (u16 r.id ++ u16 i ++ u32 (c.getF r i CRED_ESTATE.GEN)) audEstate).requestStore 6

/-- `GEN` advances when `PUBKEY` changes or `VALID` goes from 1 to 0. -/
def Chip.credGen (c : Chip) (r : RecDesc) (i old : Nat) : Chip :=
  let new := c.img r i
  if CRED_ESTATE.PUBKEY.get old ≠ CRED_ESTATE.PUBKEY.get new ∨ (CRED_ESTATE.VALID.get old = 1 ∧ CRED_ESTATE.VALID.get new = 0) then
    c.upd r i [(CRED_ESTATE.GEN, (CRED_ESTATE.GEN.get old + 1) % 2 ^ 32)]
  else c

/-- `CREDENTIAL_WRITE` of one of the three records. -/
def Chip.credentialWrite (c : Chip) (x : Ctx) (k i ver img : Nat) : Res :=
  let r := credRec k
  let valid := CRED_ESTATE.VALID.get img == 1
  let first := CRED_FEEDER.SRC_FIRST.get img
  let n := CRED_FEEDER.SRC_COUNT.get img
  let feeder := k != 0 && k != 1
  let bad := (valid && !onCurve (CRED_ESTATE.PUBKEY.get img))
    || (feeder && ((valid && n == 0) || decide (4096 < first + n) || decide (4095 < first)))
    || (k != 0 && badTime (CRED_OPERATOR.EXPIRY.get img))
  c.setRecord x.h r i ver img
    { may := x.who.estateOnly, bad := bad,
      state := if k = 0 ∧ !valid ∧ ¬ c.credValid CRED_ESTATE (1 - i) then stBadState else 0 }
    (fun c old => (c.credGen r i old).credChanged r i)

/-- A claim clears every credential before it writes the new key (R84, Table 3.17). -/
def Chip.clearCreds (c : Chip) : Chip :=
  let one := fun (r : RecDesc) (c : Chip) (i : Nat) =>
    let old := c.img r i
    if old = r.resetImg i then c
    else
      let was := c.credValid r i
      let g := c.getF r i CRED_ESTATE.GEN + (if was ∨ c.getF r i CRED_ESTATE.PUBKEY ≠ 0 then 1 else 0)
      let c := c.setImg r i (setFields [(CRED_ESTATE.GEN, g % 2 ^ 32)] (r.resetImg i))
      if was then c.credChanged r i else c
  ((c.each 2 (one CRED_ESTATE)).each 16 (one CRED_OPERATOR)).each 64 (one CRED_FEEDER)

/-- The new estate key of a claim. -/
def Chip.claim (c : Chip) (key : Nat) : Chip :=
  let c := c.clearCreds
  let old := c.img CRED_ESTATE 0
  ((c.upd CRED_ESTATE 0 [(CRED_ESTATE.VALID, 1), (CRED_ESTATE.PUBKEY, key)]).credGen CRED_ESTATE 0 old).credChanged CRED_ESTATE 0

/-! ## Plot slots (R96 to R101) -/

/-- The new key of a plot: its generation advances, so that its other sessions are revoked. -/
def Chip.takePlotKey (c : Chip) (p key : Nat) : Chip :=
  let s := c.plotSecret p
  let c := c.setPlotSecret p { s with key := some key, keyGen := s.keyGen + 1, code := none }
  (c.upd PLOT_SLOT p [(PLOT_SLOT.ENROL_TIME, c.now), (PLOT_SLOT.KEY_HASH, beValue (sha256 (leBytes 64 key)).reverse)]).requestStore 6

def evPlotKey (p : Nat) : Audience := { plot := some p }

/-- A valid enrolment (R99): the plot's words start from the estate's defaults (R131). -/
def Chip.enrol (c : Chip) (p key : Nat) : Chip :=
  let c := (c.takePlotKey p key).upd PLOT_SLOT p [(PLOT_SLOT.STATE, slEnrolled), (PLOT_SLOT.CODE_EXPIRY, 0)]
  let c := c.eachOf (c.plotZones p) (fun c z => c.copyPdef z plotClass)
  c.raise 0x0300 0 p (u8 p) (evPlotKey p)

/-- A slot's code is dead. -/
def Chip.codeDead (c : Chip) (p : Nat) : Chip :=
  let c := c.setPlotSecret p { c.plotSecret p with code := none }
  c.upd PLOT_SLOT p [(PLOT_SLOT.STATE, slCodeDead), (PLOT_SLOT.CODE_EXPIRY, 0)]

/-- A wrong `CODE_MAC`: the fifth kills the code (R97). -/
def Chip.wrongCode (c : Chip) (p : Nat) : Chip :=
  let n := c.getF PLOT_SLOT p PLOT_SLOT.FAIL_CNT + 1
  let c := c.upd PLOT_SLOT p [(PLOT_SLOT.FAIL_CNT, min n 5)]
  if 5 ≤ n then (c.codeDead p).raise 0x0302 1 p (u8 p) audEstate else c

def plotCreateSpec : CmdSpec where
  opcode := 0x0300
  classes := [2]
  who := Who.estateOnly
  len := fun n => n == 8

/-- `PLOT_CREATE`. -/
def Chip.plotCreate (c : Chip) (h : Hdr) (p lifetime : Nat) : Chip :=
  c.command h plotCreateSpec (fun _ c =>
    let st := c.slotState p
    checks c [(decide (2160 < lifetime) || h.prsv != 0, stBadParam),
      ((st != slEmpty && st != slCodeDead) || c.lifecycle == lcUnlocked, stBadState)]
    (fun _ =>
      let r := c.draw 16
      let c := r.2
      let exp := c.now + (if lifetime = 0 then 336 else lifetime) * 3600 * ticksPerSecond
      let c := c.setPlotSecret p { c.plotSecret p with code := some r.1 }
      let c := c.upd PLOT_SLOT p [(PLOT_SLOT.STATE, slAwaiting), (PLOT_SLOT.FAIL_CNT, 0), (PLOT_SLOT.CODE_EXPIRY, exp)]
      { chip := c.requestStore 6, data := leBytes 16 r.1 ++ u64 exp }))

/-- `ENROL_CODE_EXPIRY`. -/
def Chip.enrolCodeExpiry (c : Chip) (p : Nat) : Chip :=
  if c.slotState p = slAwaiting ∧ c.getF PLOT_SLOT p PLOT_SLOT.CODE_EXPIRY ≤ c.now then c.codeDead p else c

def plotKeyRotateSpec : CmdSpec where
  opcode := 0x0302
  classes := [2]
  who := fun w => w.plotOf.isSome
  len := fun n => n == 128

/-- `PLOT_KEY_ROTATE`: the calling session keeps its authority (R101). -/
def Chip.plotKeyRotate (c : Chip) (h : Hdr) (key : Nat) (sig : Sig) : Chip :=
  c.command h plotKeyRotateSpec (fun x c =>
    match x.who.plotOf with
    | none => c.no stDenied
    | some p => checks c [(!onCurve key || !Sig.verifies sig key, stBadParam)]
      (fun _ =>
        let c := c.takePlotKey p key
        let c := c.modSes x.si (fun s => { s with credGen := (c.plotSecret p).keyGen })
        let c := c.raise 0x0303 1 p (u8 p) (evPlotKey p)
        { chip := c, data := sha256 (leBytes 64 key) }))

/-! ## Opening a session (R92 to R95) -/

/-- The fields of a `SESSION_OPEN` request (Table 3.9). The code's MAC is made with a code over the bytes R92 names. -/
structure OpenReq where
  kind : Nat
  index : Nat
  challenge : Nat
  nonce : Nat
  eph : Nat
  sig : Sig
  newKey : Nat
  mac : Sig

/-- Check 1: `KIND`, `INDEX` and the endpoint (Table 3.1). -/
def OpenReq.ranges (q : OpenReq) (e : Nat) : Bool :=
  let i := q.index
  if q.kind = 1 then decide (i ≤ 1)
  else if q.kind = 2 then decide (i ≤ 15)
  else if q.kind = 3 ∨ q.kind = 6 then decide (i ≤ 255)
  else if q.kind = 4 then decide (i ≤ 63)
  else if q.kind = 5 then (decide (i ≤ 1) || (decide (16 ≤ i) && decide (i ≤ 31))) && e == 1
  else if q.kind = 7 then i == 0 && e == 1
  else false

/-- Check 3: the credential exists and is valid. -/
def Chip.openCred (c : Chip) (q : OpenReq) : Bool :=
  if q.kind ≤ 4 then (c.credOf q.kind q.index).2
  else if q.kind = 5 then
    c.serviceEn && (c.credOf kService q.index).2 &&
      (decide (q.index < 16) || scopeHas (c.getF CRED_OPERATOR (q.index - 16) CRED_OPERATOR.SCOPE) scService)
  else if q.kind = 6 then true
  else c.serviceEn && (c.safeKey || !((List.range 2).any (fun i => c.credValid CRED_ESTATE i)))

/-- The key that signs the request (Table 3.1). -/
def Chip.openKey (c : Chip) (q : OpenReq) : Option Nat :=
  if q.kind = 1 then some (c.getF CRED_ESTATE q.index CRED_ESTATE.PUBKEY)
  else if q.kind = 2 then some (c.getF CRED_OPERATOR q.index CRED_OPERATOR.PUBKEY)
  else if q.kind = 3 then (c.plotSecret q.index).key
  else if q.kind = 4 then some (c.getF CRED_FEEDER q.index CRED_FEEDER.PUBKEY)
  else if q.kind = 5 then
    (if q.index < 16 then some (c.getF CRED_ESTATE q.index CRED_ESTATE.PUBKEY)
     else some (c.getF CRED_OPERATOR (q.index - 16) CRED_OPERATOR.PUBKEY))
  else some q.newKey

/-- The kind a session is held with: an enrolment opens a plot session, a claim an estate session. -/
def sessionKind (k : Nat) : Nat := if k = 6 then kPlot else if k = 7 then kEstate else k

/-- Check 8: the counts of Table 3.1, and a free index; 120 to 127 are kept from plots and feeders (R45, R81). -/
def Chip.openIndex (c : Chip) (q : OpenReq) : Option Nat :=
  let k := sessionKind q.kind
  let same := c.openSessions.filter (fun i => (c.ses i).kind == k && (k == kEstate || k == kService || (c.ses i).index == q.index))
  let cap := if k = kEstate then 16 else if k = kService then 1 else 4
  if cap ≤ same.length then none
  else (List.range (if k = kPlot ∨ k = kFeeder then 120 else 128)).find? (fun i => !(c.ses i).isOpen)

/-- Check 6: the slot's state and the code's MAC. -/
def Chip.codeRight (c : Chip) (q : OpenReq) : Bool :=
  match (c.plotSecret q.index).code with
  | some code => q.mac.good && q.mac.key == code
  | none => false

/-- The code may still be used. -/
def Chip.codeLive (c : Chip) (p : Nat) : Bool := c.slotState p == slAwaiting && decide (c.now < c.getF PLOT_SLOT p PLOT_SLOT.CODE_EXPIRY)

/-- The session is open and its keys are derived; the reply of Table 3.10 (R94). -/
def Chip.sessionStart (c : Chip) (x : Ctx) (q : OpenReq) (i : Nat) : Res :=
  let k := sessionKind q.kind
  let n := c.draw 32
  let e := n.2.draw 64
  let c := e.2
  let old := (c.ses i).gen
  let keys := Config.sessionKeys [q.nonce, n.1, q.eph, e.1]
  let c := c.setSes i { isOpen := true, gen := if old = 511 then 1 else old + 1, ep := x.ep, kind := k, index := q.index,
                        credGen := (c.credOf k q.index).1, lastFrame := c.up, addr := x.h.addr, keys := keys }
  let c := c.upd ENDPOINT_STATUS x.ep [(ENDPOINT_STATUS.SESSIONS, c.getF ENDPOINT_STATUS x.ep ENDPOINT_STATUS.SESSIONS + 1)]
  let scope := if k = kOperator then c.getF CRED_OPERATOR q.index CRED_OPERATOR.SCOPE else 0
  let req := u8 q.kind ++ u8 q.index ++ rsvBytes 2 ++ leBytes 16 q.challenge ++ leBytes 32 q.nonce ++ leBytes 64 q.eph ++ leBytes 64 q.sig.bytes
    ++ (if q.kind < 6 then [] else leBytes 64 q.newKey ++ leBytes 32 q.mac.bytes)
  let body := u16 (c.sidOf i) ++ u8 q.kind ++ rsvBytes 1 ++ u16 scope ++ rsvBytes 2 ++ leBytes 32 n.1 ++ leBytes 64 e.1
  { chip := c, data := body ++ devSign (ascii "GENMOR-ACCEPT-1" ++ u64 c.sec.serial ++ req ++ body) }

/-- The checks of R93 once the challenge is spent; `held` is when the challenge was issued. -/
def Chip.openChecks (c : Chip) (x : Ctx) (q : OpenReq) (held : Option Nat) : Res :=
  let fresh := match held with
    | some t => decide (c.since t < 30 * ticksPerSecond)
    | none => false
  let signed := match c.openKey q with
    | some k => Sig.verifies q.sig k
    | none => false
  if !q.ranges x.ep ∨ x.h.prsv ≠ 0 then c.no stBadParam
  else if !fresh ∨ !c.openCred q ∨ !onCurve q.eph ∨ (6 ≤ q.kind ∧ !onCurve q.newKey) ∨ !signed then c.no stDenied
  else if q.kind = 6 ∧ !c.codeLive q.index then c.no stDenied
  else if q.kind = 6 ∧ !c.codeRight q then { chip := c.wrongCode q.index, status := stDenied }
  else if c.level < lvFull ∧ ¬ (q.kind = 1 ∨ q.kind = 7 ∨ (q.kind = 5 ∧ q.index < 16)) then c.no stLimited
  else match c.openIndex q with
    | none => c.no stBusy
    | some i =>
      let c := if q.kind = 6 then c.enrol q.index q.newKey else if q.kind = 7 then c.claim q.newKey else c
      c.sessionStart x q i

def sessionOpenSpec (kind : Nat) : CmdSpec where
  opcode := 0x0001
  classes := [2]
  inSession0 := true
  who := fun _ => false
  len := fun n => if kind = 6 ∨ kind = 7 then n == 276 else if kind = 0 ∨ 8 ≤ kind then n == 180 || n == 276 else n == 180

/-- `SESSION_OPEN`: a held challenge is spent whatever the open later fails (R93). -/
def Chip.sessionOpen (c : Chip) (h : Hdr) (q : OpenReq) : Chip :=
  c.command h (sessionOpenSpec q.kind) (fun x c =>
    let held := c.sec.challenges.find? (fun k => k.1 == x.ep && k.2.1 == q.challenge)
    match held with
    | some k => Chip.openChecks { c with sec.challenges := c.sec.challenges.erase k } x q (some k.2.2)
    | none => c.openChecks x q none)

/-! ## Eviction (R102, R103) -/

/-- Step 1: the slot is WIPING and has a new storage salt; code and key are gone. -/
def Chip.evictBegin (c : Chip) (p : Nat) : Chip :=
  let r := c.draw 32
  let c := r.2
  let c := c.setPlotSecret p { salt := r.1, keyGen := (c.plotSecret p).keyGen + 1 }
  c.upd PLOT_SLOT p [(PLOT_SLOT.STATE, slWiping), (PLOT_SLOT.CODE_EXPIRY, 0), (PLOT_SLOT.KEY_HASH, 0)]

/-- The plot-private records of a zone or of the plot that the bundle holds. -/
def privateKey (p : Nat) (zones : List Nat) (key : Nat) : Bool :=
  let id := key % 0x10000
  let i := key / 0x10000
  (id == PLOT_PREFS.id && i == p) || ([ZONE_SCHEDULE.id, PLAN_PREFS.id, ZONE_PARAMS.id].contains id && zones.contains i)

/-- Steps 2 to 5: sessions, fallback demands, the epoch and the private data, the plot's running interval (R450) among them. -/
def Chip.evictWipe (c : Chip) (p : Nat) : Chip :=
  let zs := c.plotZones p
  let c := c.closeSessions (fun s => s.kind == kPlot && s.index == p)
  let c := c.eachOf zs (fun c z => ((c.displace z).unload z).latchFallback z)
  let c := c.evictStatement p
  let c := c.eachOf zs (fun c z =>
    ((((c.wipePrivate z p).copyPdef z (fun _ => true)).clearRec PLAN_PREFS z).upd ZONE_STATUS z ((ZONE_STATUS.FIRST_TICK, 1) :: zoneCounters)))
  let c := (c.clearRec PLOT_PREFS p).upd PLOT_DEMAND p ([(PLOT_DEMAND.INT_FLAGS, 0), (PLOT_DEMAND.LAST_FLAGS, 0), (PLOT_DEMAND.LAST_BAND, 0),
    (PLOT_DEMAND.LAST_START, 0)] ++ (List.range 3).flatMap (fun k => [(PLOT_DEMAND.INT_ACC k, 0), (PLOT_DEMAND.LAST_DEMAND k, 0)]))
  let drop := fun (i : Interval) => { i with acc := i.acc.filter (fun a => a.1 / 3 != p) }
  let c := { c with meter.cur := c.meter.cur.map drop }
  let arch := fun (a : Archive) => { a with zones := a.zones.filter (fun y => !zs.contains y.1) }
  let c := { c with zones.archA := arch c.zones.archA, zones.archB := arch c.zones.archB }
  let c := (c.bundleForget (privateKey p zs)).bundleWrite false
  c.setPlotSecret p { c.plotSecret p with wiped := true }

/-- Step 7: the slot is EMPTY. -/
def Chip.evictEnd (c : Chip) (p : Nat) (handle : Option Nat) : Chip :=
  let zs := c.plotZones p
  let ep := c.getF EPOCH_STATEMENT p EPOCH_STATEMENT.EPOCH
  let c := c.setPlotSecret p { c.plotSecret p with wiped := false }
  let c := c.upd PLOT_SLOT p [(PLOT_SLOT.STATE, slEmpty), (PLOT_SLOT.FAIL_CNT, 0)]
  let c := c.eachOf zs Chip.undisplace
  let c := c.finish handle stOk (u16 zs.length ++ rsvBytes 2 ++ u32 ep)
  c.raise 0x0301 1 p (u8 p ++ u32 ep) audEstate

/-- What is left of an eviction found in WIPING (R103). -/
def Chip.evictFinish (c : Chip) (p : Nat) (handle : Option Nat) : Chip :=
  (if (c.plotSecret p).wiped then c else c.evictWipe p).evictEnd p handle

def plotEvictSpec : CmdSpec where
  opcode := 0x0301
  classes := [2]
  who := Who.estateOnly
  len := fun n => n == 4

/-- `PLOT_EVICT`: accepted, and step 1 of R102. -/
def Chip.plotEvict (c : Chip) (h : Hdr) (p : Nat) : Chip :=
  c.command h plotEvictSpec (fun x c =>
    let st := c.slotState p
    checks c [(h.prsv != 0, stBadParam), (st == slEmpty || st == slWiping, stBadState)]
    (fun _ => c.accept x (fun c k =>
      let c := c.evictBegin p
      { c with sec.evicting := c.sec.evicting ++ [{ plot := p, handle := some k }] })))

/-- A store can be made. -/
def Chip.storeAble (c : Chip) : Bool := let s := c.ststate; s == ssReady || s == ssStoring || s == ssErasing || s == ssMargin

/-- `PLOT_WIPE`: steps 2 to 6 of R102. The slot is EMPTY once the store has been made (`storeDone`). -/
def Chip.plotWipe (c : Chip) (p : Nat) : Chip :=
  match c.sec.evicting.find? (fun e => e.plot == p && e.stage == 0) with
  | none => c
  | some e =>
    let c := (c.evictWipe p).requestStore 6
    let rest := c.sec.evicting.filter (fun y => y.plot != p)
    if c.storeAble then { c with sec.evicting := rest ++ [{ e with stage := 1 }] }
    else Chip.evictEnd { c with sec.evicting := rest } p e.handle

/-! ## Debug unlock (R117 to R119) -/

/-- The lifecycle moves. -/
def Chip.setLifecycle (c : Chip) (new : Nat) : Chip :=
  let old := c.lifecycle
  (c.upd SECURITY_STATUS 0 [(SECURITY_STATUS.LIFECYCLE, new)]).raise 0x0102 2 0 (u8 old ++ u8 new) { anyOperator := true }

/-- Step 4 of R118. -/
def Chip.unlockEnter (c : Chip) (handle : Option Nat) (minutes evicted : Nat) : Chip :=
  let exp := c.now + minutes * 60 * ticksPerSecond
  let c := { c with sec.jtag := true, sec.unlockOp := none, sec.unlockEnd := some exp }
  let c := (c.upd SECURITY_STATUS 0 [(SECURITY_STATUS.UNLOCK_EXPIRY, exp)]).setLifecycle lcUnlocked
  c.finish handle stOk (u16 evicted ++ u64 exp)

/-- What waited for a store goes on once the store that follows it has been made (R102, R118). -/
def Chip.storeDone (c : Chip) : Chip :=
  let l := c.sec.evicting.filter (fun e => e.stage == 2)
  let c := { c with sec.evicting := c.sec.evicting.filter (fun e => e.stage != 2) }
  let c := c.eachOf l (fun c e => c.evictEnd e.plot e.handle)
  match c.sec.unlockOp with
  | some u => if u.stage = 2 then c.unlockEnter u.handle u.minutes u.evicted else c
  | none => c

/-- `STORE_COMMIT`, with what waited for the commit. -/
def Chip.storeCommitAll (c : Chip) (ok : Bool) (page : Nat) : Chip :=
  let was := c.ststate == ssStoring
  let c := c.storeCommitRow ok page
  if was && ok then c.storeDone else c

def debugSpec (opcode len : Nat) : CmdSpec where
  opcode := opcode
  classes := [2]
  who := fun w => w == .estate true
  len := fun n => n == len

/-- `DEBUG_CHALLENGE`. -/
def Chip.debugChallenge (c : Chip) (h : Hdr) : Chip :=
  c.command h (debugSpec 0x0102 0) (fun _ c => checks c [(!(c.serviceEn && c.safeKey), stDenied)]
    (fun _ =>
      let r := c.draw 32
      let c := r.2
      let c := { c with sec.debugChallenge := some (r.1, c.up) }
      { chip := c, data := u64 c.sec.serial ++ leBytes 32 r.1 ++ u8 (c.secF SECURITY_STATUS.UNLOCK_COUNT) ++ rsvBytes 3 }))

/-- `DEBUG_UNLOCK`: `vsig` is made by the vendor debug key its `key` numbers (R118, assumption 3). -/
def Chip.debugUnlock (c : Chip) (h : Hdr) (serial challenge minutes keyId : Nat) (vsig : Sig) : Chip :=
  c.command h (debugSpec 0x0103 108) (fun x c =>
    let live := match c.sec.debugChallenge with
      | some (v, t) => v == challenge && decide (c.since t < 600 * ticksPerSecond)
      | none => false
    checks c [(decide (3 < keyId), stBadParam),
      (!(c.serviceEn && c.safeKey) || serial != c.sec.serial || !live || !Sig.verifies vsig keyId, stDenied),
      (minutes == 0 || decide (1440 < minutes) || h.prsv != 0, stBadParam),
      (decide (32 ≤ c.secF SECURITY_STATUS.UNLOCK_COUNT) || c.lifecycle != lcField || c.sec.unlockOp.isSome, stBadState)]
    (fun _ => c.accept x (fun c k =>
      { c with sec.debugChallenge := none, sec.unlockOp := some { handle := some k, minutes := minutes } })))

/-- The slots that are not EMPTY. -/
def Chip.usedSlots (c : Chip) : List Nat := (List.range 256).filter (fun p => c.slotState p != slEmpty)

/-- Every slot is evicted as R102 lays down, its own store apart. -/
def Chip.evictAll (c : Chip) : Chip :=
  c.eachOf c.usedSlots (fun c p =>
    let e := c.sec.evicting.find? (fun y => y.plot == p)
    let c := { c with sec.evicting := c.sec.evicting.filter (fun y => y.plot != p) }
    let c := if c.slotState p = slWiping then c else c.evictBegin p
    c.evictFinish p (match e with
      | some y => y.handle
      | none => none))

/-- `DEBUG_UNLOCK_APPLY`: steps 1 to 3 of R118; the lifecycle moves once the store has been made. -/
def Chip.debugUnlockApply (c : Chip) : Chip :=
  match c.sec.unlockOp with
  | none => c
  | some u =>
    if u.stage ≠ 0 then c
    else
      let c := c.upd SECURITY_STATUS 0 [(SECURITY_STATUS.UNLOCK_COUNT, c.secF SECURITY_STATUS.UNLOCK_COUNT + 1)]
      let n := c.usedSlots.length
      let c := c.evictAll.requestStore 6
      if c.storeAble then { c with sec.unlockOp := some { u with stage := 1, evicted := n } }
      else c.unlockEnter u.handle u.minutes n

/-- The end of an unlock in operation: the Gatehouse and the Keeper restart under a tier hold. -/
def Chip.unlockStop (c : Chip) : Chip :=
  let c := c.endUnlock.inFlightDown.hostDown
  let c := Chip.setCause { c with boot.keeper := false, boot.gatehouse := false } 9
  let c := c.incSat AON_STATUS 0 AON_STATUS.KEEPER_RESTART_CNT AON_STATUS.SAT 1
  c.startHold 2 2

def debugLockSpec : CmdSpec where
  opcode := 0x0104
  classes := [2]
  who := Who.estateOnly
  len := fun n => n == 0

/-- `DEBUG_LOCK`. -/
def Chip.debugLock (c : Chip) (h : Hdr) : Chip :=
  c.command h debugLockSpec (fun _ c => checks c [(c.lifecycle != lcUnlocked, stBadState)]
    (fun _ => { chip := c, post := Chip.unlockStop }))

/-- `UNLOCK_END`: `MINUTES` have elapsed or `SERVICE_EN` is released. -/
def Chip.unlockEndRow (c : Chip) : Chip :=
  if c.lifecycle = lcUnlocked ∧ (c.secF SECURITY_STATUS.UNLOCK_EXPIRY ≤ c.now ∨ !c.serviceEn) then c.unlockStop else c

/-- `SERVICE_PIN_CHANGE`: the debounced pins. Raw access ends with `SERVICE_EN` (R465). -/
def Chip.servicePinChange (c : Chip) (pins : Nat) : Chip :=
  if !c.boot.vaon ∨ c.secF SECURITY_STATUS.PINS = pins % 4 then c
  else
    let c := c.upd SECURITY_STATUS 0 [(SECURITY_STATUS.PINS, pins % 4)]
    let c := if c.serviceEn then c else
      c.eachOf c.openSessions (fun c i => c.modSes i (fun s => { s with rawRead := false, rawWrite := false }))
    c.raise 0x0104 1 0 (u8 (pins % 4)) { anyOperator := true }

/-- What `DECOMMISSION` erases (R120, Table 3.17). -/
def Chip.eraseAll (c : Chip) : Chip :=
  let c := ((c.memOp (.eraseBank 0)).memOp (.eraseBank 1)).memOp .zero
  let c := (c.clearRec BANK_INFO 0).clearRec BANK_INFO 1
  let s := c.store
  let c := { c with store := { ops := s.ops }, boot.bundleA := {}, boot.bundleB := {}, boot.policy := none, zones.archA := {}, zones.archB := {},
                    sec.plots := [], meter := {} }
  let c := c.restoreRecs [] (fun k => isSealed k || inBundle k)
  c.setStstate ssBlank

/-- `DECOMMISSION`. -/
def Chip.decommission (c : Chip) (h : Hdr) (serial confirm : Nat) : Chip :=
  c.command h (debugSpec 0x0105 16) (fun _ c => checks c [(!(c.serviceEn && c.safeKey), stDenied),
      (serial != c.sec.serial || confirm != 0xDEC00515 || h.prsv != 0, stBadParam)]
    (fun _ => { chip := c, post := fun c =>
      let c := c.evictAll.eraseAll
      let c := Chip.setLifecycle { c with sec.identityBurned := true } lcDecommissioned
      c.chipReset 20 true }))

/-! ## Anti-rollback (R122 to R124) -/

def rollbackCommitSpec : CmdSpec where
  opcode := 0x0106
  classes := [2]
  who := Who.estateOnly
  len := fun n => n == 4

/-- `ROLLBACK_COMMIT`. -/
def Chip.rollbackCommit (c : Chip) (h : Hdr) (image : Nat) : Chip :=
  c.command h rollbackCommitSpec (fun _ c =>
    let free := c.secF (SECURITY_STATUS.OTP_SLOTS_FREE image)
    checks c [(decide (2 < image) || h.prsv != 0, stBadParam), ((c.runSlot image).isNone || free == 0, stBadState)]
    (fun _ =>
      let v := c.getF FW_SLOT (fwInst image ((c.runSlot image).getD 0)) FW_SLOT.SEC_VER
      let floor := c.secF (SECURITY_STATUS.OTP_FLOOR image)
      let c := if floor < v then
          c.upd SECURITY_STATUS 0 [(SECURITY_STATUS.OTP_FLOOR image, v), (SECURITY_STATUS.OTP_SLOTS_FREE image, free - 1)] else c
      { chip := c, data := u16 (c.secF (SECURITY_STATUS.OTP_FLOOR image)) ++ u8 (c.secF (SECURITY_STATUS.OTP_SLOTS_FREE image)) ++ rsvBytes 1 }))

/-- `SHADOW_MIN_RAISE`: an image newer than its minimum has run for 1 h in Full service. -/
def Chip.shadowMinRaise (c : Chip) : Chip :=
  if c.level ≠ lvFull ∨ ¬ c.passedS c.boot.runSince 3600 then c
  else
    let l := (List.range 3).filterMap (fun i =>
      match c.runSlot i with
      | some s =>
        let v := c.getF FW_SLOT (fwInst i s) FW_SLOT.SEC_VER
        if c.secF (SECURITY_STATUS.SHADOW_MIN i) < v then some (i, v) else none
      | none => none)
    if l.isEmpty then c else Chip.requestStore { c with boot.secRun := l } 7

/-! ## Occupancy groups and the quarter-hour (R105, R108 to R110) -/

/-- `PRIVACY_CFG`. -/
def Chip.privacyCfgWrite (c : Chip) (x : Ctx) (i ver img : Nat) : Res :=
  c.setRecord x.h PRIVACY_CFG i ver img { may := x.who.estateOnly } (fun c _ => c.requestStore 6)

/-- The zones of a group's image. -/
def groupZones (img : Nat) : List Nat := (List.range (OCC_GROUP.COUNT.get img)).map (fun k => (OCC_GROUP.ZONE k).get img)

/-- A group's image breaks a rule of R109: its size, a zone named twice, in another group or that does not exist, or a zone past the
count. -/
def Chip.occGroupBad (c : Chip) (i img : Nat) : Bool :=
  let n := OCC_GROUP.COUNT.get img
  let new := groupZones img
  let others := ((List.range 64).filter (· != i)).flatMap (fun g => groupZones (c.img OCC_GROUP g))
  decide (64 < n) || (n != 0 && decide (n < c.getF PRIVACY_CFG 0 PRIVACY_CFG.K_MIN)) || new.eraseDups.length != new.length
    || new.any (fun z => others.contains z || decide (1023 < z))
    || (List.range 64).any (fun j => decide (n ≤ j) && (OCC_GROUP.ZONE j).get img != 0)

/-- A change of a group comes within 24 h of its last, or moves fewer zones than `K_MIN` (R109). -/
def Chip.occGroupHeld (c : Chip) (i img : Nat) : Bool :=
  let new := groupZones img
  let was := groupZones (c.img OCC_GROUP i)
  let moved := (new.filter (fun z => !was.contains z)).length + (was.filter (fun z => !new.contains z)).length
  let last := c.getF OCC_GROUP i OCC_GROUP.LAST_CHANGE
  decide ((last ≠ 0 ∧ c.now < last + 86400 * ticksPerSecond) ∨ moved < c.getF PRIVACY_CFG 0 PRIVACY_CFG.K_MIN)

/-- `OCC_GROUP` (R109): a change takes effect at the next quarter-hour, so that the image in force is remembered until then. -/
def Chip.occGroupWrite (c : Chip) (x : Ctx) (i ver img : Nat) : Res :=
  c.setRecord x.h OCC_GROUP i ver img
    { may := x.who.estateOnly, bad := c.occGroupBad i img, state := if c.occGroupHeld i img then stBadState else 0 }
    (fun c old =>
      let c := c.upd OCC_GROUP i [(OCC_GROUP.LAST_CHANGE, c.now)]
      let c := if c.sec.occPending.any (fun p => p.1 == i) then c else { c with sec.occPending := c.sec.occPending ++ [(i, old)] }
      c.requestStore 6)

/-- The entry of a group for the interval that has closed (R110). -/
def Chip.occEntry (c : Chip) (zs : List Nat) : Nat × Nat × Nat :=
  let k := c.getF PRIVACY_CFG 0 PRIVACY_CFG.K_MIN
  let rep := zs.filter (fun z => decide (900000 ≤ 2 * (c.zrt z).valMs))
  let n := rep.length
  let occ := rep.foldl (fun s z => s + min (c.zrt z).occMs 900000) (0 : Nat)
  if n < k ∨ zs.length < k then (0, n, 1)
  else ((min 0xFFFF (divFree 110 ((65536 * occ : Nat) : Int) ((n * 900000 : Nat) : Int))).toNat, n, 0)

/-- A group's history takes an entry for the interval from `start`; intervals that were passed over are withheld. -/
def Chip.occPublish (c : Chip) (g start : Nat) (e : Nat × Nat × Nat) : Chip :=
  let newest := c.getF OCC_AGG g OCC_AGG.NEWEST_START
  let gap := if newest = 0 then 0 else min 96 ((start - newest) / ticksPerQuarter - 1)
  let img := c.img OCC_AGG g
  let at_ := fun (k : Nat) => ((OCC_AGG.VALUE k).get img, (OCC_AGG.REPORTING k).get img, (OCC_AGG.WITHHELD k).get img)
  let l := (e :: (List.replicate gap (0, 0, 1) ++ (List.range 96).map at_)).take 96
  c.upd OCC_AGG g ((OCC_AGG.NEWEST_START, start) :: (List.range 96).flatMap (fun k =>
    let v := l.getD k (0, 0, 0)
    [(OCC_AGG.VALUE k, v.1), (OCC_AGG.REPORTING k, v.2.1), (OCC_AGG.WITHHELD k, v.2.2)]))

/-- The mean of an accumulation rounded to a step, ties upward. -/
def Acc.mean (a : Acc) (step : Nat) : Int := Int.fdiv (2 * a.sum + (step * a.n : Nat)) (2 * step * a.n : Nat) * step

/-- The step of a mean shown to non-owners: 1 rpm for the speed of a fan port, 1/16 otherwise. -/
def meanStep (key : Nat) : Nat := if key / 256 % 0x10000 = FAN_PORT_STATUS.id ∧ key % 256 = 4 then 1 else 4096

/-- The records whose counters non-owners read as they stood at the quarter-hour. -/
def quarterIds : List Nat := [TARGET_STATUS, CH_STATUS, AX_STATUS, ENC_STATUS, FAN_PORT_STATUS, FAN_GROUP_STATUS].map RecDesc.id

/-- `QUARTER_HOUR_AGGREGATE`: once for each quarter-hour that the RTC has reached. -/
def Chip.quarterHourAggregate (c : Chip) : Chip :=
  let q := c.now / ticksPerQuarter * ticksPerQuarter
  if q = 0 ∨ q = c.sec.aggAt ∨ c.level < lvLimited then c
  else
    let c := c.each 64 (fun c g =>
      let img := Tab.get (c.img OCC_GROUP g) c.sec.occPending g
      if OCC_GROUP.COUNT.get img = 0 then c else c.occPublish g (q - ticksPerQuarter) (c.occEntry (groupZones img)))
    let c := c.each 1024 (fun c z => c.modZrt z (fun x =>
      { x with means := (x.acc.filter (fun a => a.2.n != 0)).map (fun a => (a.1, a.2.mean 32768)), acc := [], meanAt := q, occMs := 0, valMs := 0 }))
    let a := c.act
    { c with sec.occPending := [], sec.aggAt := q,
             act.means := (a.acc.filter (fun p => p.2.n != 0)).map (fun p => (p.1, min 0xFFFF (p.2.mean (meanStep p.1)).toNat)), act.acc := [],
             act.lastQ := c.recs.filter (fun p => quarterIds.contains (p.1 % 0x10000)) }

end Sys2Proof.Machine
end

