-- ==== Sys2Proof/Machine/Startup.lean ====
section
/-!
DEFINITION. Start-up (R496 to R498): the steps of Table 17.1 from VAON to Full, the firmware images (R500 to R504), the snapshot
commands (R513 to R518) and the firmware commands (R518).
-/

namespace Sys2Proof.Machine

def Chip.aonF (c : Chip) (f : Fld) : Nat := c.getF AON_STATUS 0 f
def Chip.bootStep (c : Chip) : Nat := c.aonF AON_STATUS.BOOT_STEP

/-- A step of Table 17.1 is complete. -/
def Chip.stepDone (c : Chip) (k : Nat) : Chip := c.upd AON_STATUS 0 [(AON_STATUS.BOOT_STEP, max k c.bootStep)]

/-- The sequence ends: at Full, or at the tier where it stops (`BOOT_COMPLETE`). -/
def Chip.bootEnd (c : Chip) : Chip :=
  if c.boot.bootDone then c
  else Chip.raise { c with boot.bootDone := true } 0x0F03 1 0
    (u8 (c.aonF AON_STATUS.TIER) ++ u8 (c.aonF AON_STATUS.FW_OUTCOME) ++ rsvBytes 2 ++ u32 (c.aonF AON_STATUS.BOOT_MS)
      ++ u32 (c.aonF AON_STATUS.LIVE)) (audOps scDiag)

/-! ## Steps 1 to 6 -/

/-- The RTC starts at 0, not valid (R426). -/
def Chip.rtcLost (c : Chip) (vbak : Bool) : Chip :=
  let c := (c.clearRec TIME_STATUS 0).eachOf [0, 1] (fun c i => c.clearRec PTP_STATUS i)
  let c := { c with time := { up := c.time.up, vbak := vbak, xtalDead := c.time.xtalDead } }
  c.raise 0x0C04 2 0 [] audTime

/-- `VAON_VALID` (step 1). `vbak`: 0 VBAK is absent, 1 it is present now and was absent with VAON, 2 it has held the RTC throughout. -/
def Chip.vaonValid (c : Chip) (vbak : Nat) : Chip :=
  if c.boot.vaon then c
  else
    let lost := vbak != 2 || c.time.lost
    let b := c.boot
    let c := { c with boot := { b with vaon := true, below := true, vbusBelow := false, xtalMay := true, bootDone := false } }
    let c := (c.putCause 0 b.vbusPf).upd SUPPLY_STATUS 0 [(SUPPLY_STATUS.VBUS_LOW, if b.vbusLow then 1 else 0),
      (SUPPLY_STATUS.VBUS_HIGH, if b.vbusHigh then 1 else 0), (SUPPLY_STATUS.VBUS_OV, if b.vbusOv then 1 else 0)]
    let c := if lost then c.rtcLost (vbak != 0) else c
    c.fbLoad.freshStart.coilLost.stepDone 1

/-- `FIREBREAK_TIER_REACHED` (step 2): FBK is in range, the configuration loaded and every enabled input judged. -/
def Chip.firebreakTierReached (c : Chip) : Chip :=
  if !c.boot.vaon ∨ c.level ≠ lvNone then c
  else
    let c := { c with boot.fbkOk := true }
    if !c.allClassed then c
    else
      let c := Chip.judgeFuncs { c with boot.fbReady := true }
      let c := c.stepDone 2
      if lvFirebreak ≤ c.supported then c.setTier lvFirebreak 0 else c

/-- `CRYSTAL_STARTED` (step 3): REF runs from the crystal. After the internal RC it comes back only through a reset (R25). -/
def Chip.crystalStarted (c : Chip) : Chip :=
  if !c.boot.vaon ∨ !c.boot.xtalMay ∨ c.getB SUPPLY_STATUS 0 SUPPLY_STATUS.REF_XTAL then c
  else ((Chip.upd { c with boot.refRun := true } SUPPLY_STATUS 0 [(SUPPLY_STATUS.REF_XTAL, 1)]).endCause 2).stepDone 3

/-- `REF_RC_SWITCH`: REF from the internal RC; PLL-B stops and Full cannot be held (R25). -/
def Chip.refRcSwitch (c : Chip) : Chip :=
  if !c.boot.vaon ∨ (c.boot.refRun ∧ ¬ c.getB SUPPLY_STATUS 0 SUPPLY_STATUS.REF_XTAL) then c
  else
    let c := Chip.upd { c with boot.refRun := true, boot.xtalMay := false } SUPPLY_STATUS 0 [(SUPPLY_STATUS.REF_XTAL, 0), (SUPPLY_STATUS.PLLB_LOCK, 0)]
    (((c.setCause 2).endCause 6).stepDone 3).fallCheck (2 ^ 2)

/-- `CORE_ENABLE` (step 5). While only the rails are missing the wait is timed: after 100 ms cause [4] is set (R498). -/
def Chip.coreEnable (c : Chip) : Chip :=
  if c.coreMay then c.coreHigh
  else
    let ready := Chip.coreMay { c with boot.vddaGood := true, boot.vioGood := true }
    if !ready then c
    else match c.boot.coreWait with
      | none => { c with boot.coreWait := some c.up }
      | some t => if c.passedMs t 100 then c.setCause 4 else c

/-- `PG_CORE_RISE` (step 6): `PG_CORE` is high, and says which PLLs lock. From step 6 the sequence also starts where VCORE stayed up. -/
def Chip.pgCoreRise (c : Chip) (pllA pllB : Bool) : Chip :=
  if !c.boot.enCore ∨ c.bootStep < 4 ∨ 5 < c.bootStep ∨ c.boot.resetLow ∨ c.boot.pfHalt then c
  else
    let again := c.getB SUPPLY_STATUS 0 SUPPLY_STATUS.PG_CORE && c.bootStep == 5
    let c := if again then { c with boot.enCoreSince := c.up } else c
    let c := (c.upd SUPPLY_STATUS 0 [(SUPPLY_STATUS.PG_CORE, 1)]).stepDone 5
    if !pllA then c
    else
      let xtal := c.getB SUPPLY_STATUS 0 SUPPLY_STATUS.REF_XTAL
      let c := Chip.upd { c with boot.coreFails := 0 } SUPPLY_STATUS 0 [(SUPPLY_STATUS.PLLA_LOCK, 1), (SUPPLY_STATUS.PLLB_LOCK, if pllB && xtal then 1 else 0)]
      ((((c.endCause 3).endCause 5).putCause 6 (xtal && !pllB)).stepDone 6)

/-- `CORE_START_TIMEOUT`: an attempt has failed; `EN_CORE` is low for 100 ms, and the fourth failure ends the attempts (R497). -/
def Chip.coreStartTimeout (c : Chip) : Chip :=
  let pg := c.getB SUPPLY_STATUS 0 SUPPLY_STATUS.PG_CORE
  if !c.boot.enCore ∨ c.getB SUPPLY_STATUS 0 SUPPLY_STATUS.PLLA_LOCK ∨ (!pg ∧ ¬ c.passedMs c.boot.enCoreSince 10) then c
  else
    let n := c.boot.coreFails + 1
    let c := c.coreOff
    let c := { c with boot.coreFails := n, boot.coreLowAt := some c.up }
    if 4 ≤ n then (c.setCause 3).bootEnd else c

/-! ## Step 7 -/

/-- The shadow store has done its power-up actions. -/
def Chip.shadowUp (c : Chip) : Bool := c.ststate != ssLoading

/-- Both halves of step 7 are done: in MANUFACTURE and DECOMMISSIONED the boot ROM stops here (R116, R120). -/
def Chip.stepSeven (c : Chip) : Chip :=
  if c.bootStep = 6 ∧ c.shadowUp ∧ c.boot.gateTested then
    let c := c.stepDone 7
    if c.lifecycle = lcManufacture ∨ c.lifecycle = lcDecommissioned then (c.setCause 20).bootEnd else c
  else c

/-- `SHADOW_POWER_UP` (step 7a). -/
def Chip.shadowPowerUpRow (m : Mem) (c : Chip) (badA badB copyFails : Bool) : Chip :=
  if c.bootStep ≠ 6 then c else (Chip.shadowPowerUp m c badA badB copyFails).stepSeven

/-- `GATEHOUSE_SELF_TEST` (step 7b), with one retry. -/
def Chip.gatehouseSelfTest (c : Chip) (ok : Bool) : Chip :=
  if c.bootStep ≠ 6 ∨ c.boot.gateTested ∨ 2 ≤ c.boot.gateTries then c
  else if ok then Chip.stepSeven { c.endCause 9 with boot.gateTested := true, boot.gatehouse := true }
  else
    let n := c.boot.gateTries + 1
    let c := { c with boot.gateTries := n }
    if n = 1 then c else (c.setCause 9).bootEnd

/-! ## Firmware images (R500 to R504) -/

/-- Fields of an image header (Table 17.4): bytes from the start of the slot. -/
def hdrField (x : Slot) (at_ n : Nat) : Nat := (⟨8 * at_, 8 * n⟩ : Fld).get x.content

def Slot.magic (x : Slot) : Nat := hdrField x 0x000 4
def Slot.image (x : Slot) : Nat := hdrField x 0x004 1
def Slot.hdrVer (x : Slot) : Nat := hdrField x 0x005 1
def Slot.keyId (x : Slot) : Nat := hdrField x 0x006 1
def Slot.buildId (x : Slot) : Nat := hdrField x 0x008 4
def Slot.secVer (x : Slot) : Nat := hdrField x 0x00C 2
def Slot.epoch (x : Slot) : Nat := hdrField x 0x00E 2
def Slot.length (x : Slot) : Nat := hdrField x 0x010 4
def Slot.lists (x : Slot) : Bool := (List.range 4).any (fun k => hdrField x (0x014 + k) 1 == 0xB0)
def Slot.peers (x : Slot) : List (Nat × Nat) :=
  (List.range (min 24 (hdrField x 0x018 1))).map (fun k => (hdrField x (0x020 + 8 * k) 1, hdrField x (0x024 + 8 * k) 4))
def Slot.hashHead (x : Slot) : Nat := hdrField x 0x0E0 16

/-- The size of a slot (Table 17.3). -/
def slotSize (i : Nat) : Nat := if i = 0 then 0x200000 else if i = 1 then 0x100000 else 0x80000

/-- The least `SEC_VER` that R122 accepts; with no valid commit record only the OTP floor applies. -/
def Chip.secFloor (c : Chip) (i : Nat) : Nat :=
  let otp := c.secF (SECURITY_STATUS.OTP_FLOOR i)
  if c.ststate = ssBlank then otp else max otp (c.secF (SECURITY_STATUS.SHADOW_MIN i))

/-- `STATE` of a slot: 0 EMPTY, 1 VALID, 2 STAGING, 3 BAD_HEADER, 4 BAD_SIG, 5 BAD_HASH, 6 ROLLBACK (R502, Table 17.14). -/
def Chip.slotJudge (c : Chip) (i : Nat) (x : Slot) : Nat :=
  if x.staging then 2
  else if x.len = 0 then 0
  else if x.magic ≠ 0x5A43494D ∨ x.hdrVer ≠ 1 ∨ x.image ≠ i ∨ slotSize i < x.length + 320 then 3
  else if !x.sigOk ∨ 3 < x.keyId then 4
  else if !x.hashOk then 5
  else if x.secVer < c.secFloor i then 6
  else 1

/-- A slot's record shows its header. -/
def Chip.showSlot (c : Chip) (i s : Nat) : Chip :=
  let k := fwInst i s
  let x := c.slot k
  let st := c.slotJudge i x
  c.upd FW_SLOT k ((FW_SLOT.STATE, st) :: (if st = 0 ∨ st = 2 then
      [(FW_SLOT.STEP_OK, 0), (FW_SLOT.EPOCH, 0), (FW_SLOT.BUILD_ID, 0), (FW_SLOT.SEC_VER, 0), (FW_SLOT.KEY_ID, 0), (FW_SLOT.LENGTH, 0),
       (FW_SLOT.HASH_HEAD, 0)]
    else
      [(FW_SLOT.STEP_OK, if x.lists then 1 else 0), (FW_SLOT.EPOCH, x.epoch), (FW_SLOT.BUILD_ID, x.buildId), (FW_SLOT.SEC_VER, x.secVer),
       (FW_SLOT.KEY_ID, x.keyId), (FW_SLOT.LENGTH, x.length), (FW_SLOT.HASH_HEAD, x.hashHead)]))

/-- The directory in use: the valid copy with the higher sequence, or slot A for every image (R500). -/
def Chip.dirNow (c : Chip) : DirCopy :=
  let a := c.boot.dirA
  let b := c.boot.dirB
  if b.valid && (!a.valid || decide (a.seq < b.seq)) then b else if a.valid then a else {}

/-- The active slot of an image. -/
def Chip.activeSlot (c : Chip) (i : Nat) : Nat := if c.dirNow.active.testBit i then 1 else 0

/-- `ACTIVE` of every slot and `DIR_SEQ` follow the directory. -/
def Chip.showDir (c : Chip) : Chip :=
  let c := c.each 3 (fun c i => c.each 2 (fun c s => c.upd FW_SLOT (fwInst i s) [(FW_SLOT.ACTIVE, if c.activeSlot i = s then 1 else 0)]))
  c.upd FW_STATUS 0 [(FW_STATUS.DIR_SEQ, c.dirNow.seq % 2 ^ 32)]

/-- The slot the boot ROM takes for an image: the active slot if usable, otherwise the other (R502). -/
def Chip.pickSlot (c : Chip) (i : Nat) : Option Nat :=
  let a := c.activeSlot i
  if c.slotJudge i (c.slot (fwInst i a)) = 1 then some a
  else if c.slotJudge i (c.slot (fwInst i (1 - a))) = 1 then some (1 - a)
  else none

/-- The images selected, with their slots. -/
abbrev Picks := List (Nat × Slot)

def pickOf (l : Picks) (i : Nat) : Option Slot := (l.find? (fun p => p.1 == i)).map Prod.snd

/-- A pair is tested when either image lists the other (R503). -/
def pairTested (l : Picks) (i j : Nat) : Bool :=
  match pickOf l i, pickOf l j with
  | some x, some y => x.peers.contains (j, y.buildId) || y.peers.contains (i, x.buildId)
  | _, _ => false

/-- `PAIRS`: KFW with ZRT, KFW with GHP, ZRT with GHP. -/
def pairBits (l : Picks) : Nat :=
  (if pairTested l 0 1 then 1 else 0) + (if pairTested l 0 2 then 2 else 0) + (if pairTested l 1 2 then 4 else 0)

/-- The first row of Table 17.5 that applies; `policy` says that an untested-pairing policy is in force. -/
def outcomeOf (l : Picks) (policy : Bool) : Nat :=
  if (pickOf l 0).isNone then 6
  else if l.any (fun p => !p.2.lists) then 5
  else if l.any (fun p => l.any (fun q => p.2.epoch != q.2.epoch)) then 4
  else if (pickOf l 1).isNone || (pickOf l 2).isNone then 3
  else if pairBits l ≠ 7 then (if policy then 1 else 2)
  else 0

/-- The images that Table 17.5 runs. -/
def runsUnder (l : Picks) (outcome i : Nat) : Bool :=
  match pickOf l 0, pickOf l i with
  | some k, some x =>
    if outcome = 6 then false
    else if i = 0 then true
    else if outcome = 5 then i == 2 && x.lists
    else if outcome = 4 then i == 2 && x.epoch == k.epoch
    else true
  | _, _ => false

/-- The untested-pairing policy names the images selected and its signature verifies under an estate key of the loaded image (R504). -/
def Chip.policyHolds (c : Chip) (l : Picks) : Bool :=
  match c.boot.policy with
  | none => false
  | some p =>
    let id := fun (i : Nat) => match pickOf l i with
      | some x => x.buildId
      | none => 0
    id 0 == p.kfw && id 1 == p.zrt && id 2 == p.ghp &&
      (List.range 2).any (fun i => c.credValid CRED_ESTATE i && c.getF CRED_ESTATE i CRED_ESTATE.PUBKEY == p.key)

/-- The policy shown in `FW_STATUS`. -/
def Chip.showPolicy (c : Chip) : Chip :=
  let v := match c.boot.policy with
    | some p => (p.kfw, p.zrt, p.ghp)
    | none => (0, 0, 0)
  c.upd FW_STATUS 0 [(FW_STATUS.POLICY 0, v.1), (FW_STATUS.POLICY 1, v.2.1), (FW_STATUS.POLICY 2, v.2.2)]

/-- An image slot as an in-circuit programmer has left it while the QSPI outputs were high-impedance (R500): image, slot, content, and
whether the signature and the body's hash verify (assumption 3). -/
def Chip.programSlot (c : Chip) (p : Nat × Nat × Nat × Bool × Bool) : Chip :=
  let x : Slot := { content := p.2.2.1, sigOk := p.2.2.2.1, hashOk := p.2.2.2.2 }
  c.setSlot (fwInst p.1 p.2.1) { x with len := x.length + 320 }

/-- What R122 and R502 report of an image whose active slot is not taken. -/
def Chip.reportSlots (c : Chip) (i : Nat) : Chip :=
  let a := c.activeSlot i
  let refused := fun (c : Chip) (s : Nat) =>
    let x := c.slot (fwInst i s)
    if c.slotJudge i x = 6 then c.raise 0x0103 2 0 (u8 i ++ u8 s ++ u16 x.secVer ++ u16 (c.secFloor i)) (audOps scDiag) else c
  let st := c.slotJudge i (c.slot (fwInst i a))
  if st = 1 then c
  else
    let c := refused c a
    if c.pickSlot i = some (1 - a) then c.raise 0x0F02 2 i (u8 (1 - a) ++ u8 st ++ rsvBytes 2) (audOps scDiag) else refused c (1 - a)

/-- `BOOT_IMAGE_SELECT` (step 8). `prog` is what an in-circuit programmer has written before. -/
def Chip.bootImageSelect (c : Chip) (prog : List (Nat × Nat × Nat × Bool × Bool)) : Chip :=
  if c.bootStep ≠ 7 ∨ (c.lifecycle ≠ lcField ∧ c.lifecycle ≠ lcUnlocked) ∨ c.boot.resetLow then c
  else
    let c := c.eachOf prog Chip.programSlot
    let c := c.each 6 (fun c k => c.setSlot k { c.slot k with staging := false, handle := none })
    let c := (c.each 3 (fun c i => c.each 2 (fun c s => c.showSlot i s))).showDir
    let c := c.each 3 Chip.reportSlots
    let sel := (List.range 3).filterMap (fun i => (c.pickSlot i).map (fun s => (i, s)))
    let picks : Picks := sel.map (fun p => (p.1, c.slot (fwInst p.1 p.2)))
    let policy := c.policyHolds picks
    let out := outcomeOf picks policy
    let bits := pairBits picks
    let c := c.each 3 (fun c i => c.each 2 (fun c s => c.upd FW_SLOT (fwInst i s) [(FW_SLOT.RUNNING, if sel.contains (i, s) then 1 else 0)]))
    let c := { c with boot.running := sel.filter (fun p => runsUnder picks out p.1) }
    let c := (c.showPolicy.upd FW_STATUS 0 [(FW_STATUS.OUTCOME, out), (FW_STATUS.PAIRS, bits), (FW_STATUS.STAGING, 0xFF),
      (FW_STATUS.POLICY_IN_FORCE, if policy then 1 else 0)]).upd AON_STATUS 0 [(AON_STATUS.FW_OUTCOME, out)]
    let c := (c.putCause 10 (out == 6)).putCause 11 (decide (2 ≤ out) && decide (out ≤ 5))
    let c := if out = 1 ∨ out = 2 then c.raise 0x0F01 2 0 (u8 bits ++ u8 out ++ rsvBytes 2) (audOps scDiag) else c
    let c := c.stepDone 8
    if out = 6 then c.bootEnd else c

/-! ## Steps 9 to 11 -/

/-- Every wipe found is completed before a session may open (R103). -/
def Chip.completeWipes (c : Chip) : Chip :=
  let l := (List.range 256).filter (fun p => c.slotState p == slWiping)
  if l.isEmpty then c else (c.eachOf l (fun c p => c.evictFinish p none)).requestStore 6

/-- `KFW_START` (step 9): `ok` says that KFW is ready in time; after a failure the Keeper is restarted from step 8 once. -/
def Chip.kfwStart (c : Chip) (ok : Bool) : Chip :=
  if c.bootStep ≠ 8 ∨ c.aonF AON_STATUS.FW_OUTCOME = 6 ∨ c.boot.resetLow ∨ 2 ≤ c.boot.kfwTries then c
  else if !ok then
    let n := c.boot.kfwTries + 1
    let c := { c with boot.kfwTries := n }
    if n = 1 then c.upd AON_STATUS 0 [(AON_STATUS.BOOT_STEP, 7)] else (c.setCause 8).bootEnd
  else
    let c := Chip.endCause { c.endCause 7 with boot.keeper := true } 8
    let c := c.bundleLoad.completeWipes.loadDst
    (c.meteringStart true).stepDone 9

/-- `TERRACES_START` (step 10): the terraces of a mask fail their self-test; `linear` is what `VOUT_MODE` holds (R478). -/
def Chip.terracesStart (c : Chip) (fails : Nat) (linear : Bool) : Chip :=
  if c.bootStep ≠ 9 ∨ c.level ≠ lvSurvival then c
  else
    let c := c.each 4 (fun c t => if fails.testBit t then c.upd TERRACE_STATUS t [(TERRACE_STATUS.TSTATE, tsOutOfService)] else c)
    let c := c.putCause 17 (!c.terraceLeft)
    if !c.terraceLeft then c.bootEnd
    else if c.supported < lvLimited then c
    else
      let c := c.upd AON_STATUS 0 [(AON_STATUS.BOOT_MS, c.since c.boot.enCoreSince * 1000 / 32768 % 2 ^ 32)]
      (c.stepDone 10).enterLimited linear

/-- `FULL_CHECK` (step 11): Full, or Limited with the causes set. -/
def Chip.fullCheck (c : Chip) : Chip :=
  if c.bootStep ≠ 10 ∨ c.level ≠ lvLimited then c
  else
    let c := c.unitCauses.stepDone 11
    (if c.fullUnits then c.enterFull else c).bootEnd

/-! ## Snapshot commands (R513 to R518) -/

/-- `SNAP_IN_TRIGGER`: an edge that has held for 100 ns. -/
def Chip.snapInTrigger (c : Chip) : Chip := if c.getB SNAP_CFG 0 SNAP_CFG.SNAP_IN_EN then c.snapTrigger 1 0 else c

def snapSpec (opcode : Nat) (classes : List Nat) : CmdSpec where
  opcode := opcode
  classes := classes
  who := Who.estateOr scDiag
  len := fun n => n == 4

/-- `SNAPSHOT`. -/
def Chip.snapshot (c : Chip) (h : Hdr) : Chip :=
  c.command h (snapSpec 0x0F00 [1, 2]) (fun _ c => checks c [(h.prsv != 0, stBadParam), (c.getB SNAP_STATUS 0 SNAP_STATUS.SNAP_STATE, stBadState)]
    (fun _ =>
      let c := c.snapTrigger 2 0
      { chip := c, data := u32 (c.getF SNAP_STATUS 0 SNAP_STATUS.SNAP_ID) ++ rsvBytes 4 ++ u64 (c.getF SNAP_STATUS 0 SNAP_STATUS.TIME) }))

/-- `SNAP_CLEAR`. -/
def Chip.snapClear (c : Chip) (h : Hdr) : Chip :=
  c.command h (snapSpec 0x0F02 [2]) (fun _ c => checks c [(h.prsv != 0, stBadParam)]
    (fun _ =>
      let c := Chip.upd { c with boot.segments := [] } SNAP_STATUS 0 [(SNAP_STATUS.SNAP_STATE, 0)]
      { chip := c }))

/-- The event codes that the chapters assign, by group: the codes from 0x00 up, and the others. -/
def eventAssigned (code : Nat) : Bool :=
  let lo := code % 256
  let g := code / 256
  if g = 0 then [1, 2, 3, 0x10, 0x11].contains lo
  else if g = 1 then decide (1 ≤ lo ∧ lo ≤ 4)
  else if g = 2 then [0, 1, 2, 8, 9, 0xA, 0x10, 0x11, 0x12, 0x13, 0x40, 0x41, 0x42].contains lo
  else decide (g < 16 ∧ lo < [0, 0, 0, 4, 7, 6, 7, 8, 5, 7, 10, 6, 7, 9, 10, 8].getD g 0)

/-- `SNAP_CFG` (R516). -/
def Chip.snapCfgWrite (c : Chip) (x : Ctx) (i ver img : Nat) : Res :=
  let n := SNAP_CFG.COUNT.get img
  c.setRecord x.h SNAP_CFG i ver img
    { may := x.who.estateOr scDiag,
      bad := decide (8 < n) || (List.range 8).any (fun k =>
        let e := (SNAP_CFG.EVENTS k).get img
        if k < n then !eventAssigned e else e != 0) }
    (fun c _ => c)

/-! ## Firmware commands (R518) -/

def fwWho : Who → Bool := Who.estateOr scFwStage

def fwSpec (opcode : Nat) (who : Who → Bool) (cls : Nat) (len : Nat → Bool) : CmdSpec where
  opcode := opcode
  classes := [cls]
  who := who
  len := len

/-- The slot an image is staged into: the one not `RUNNING`. -/
def Chip.stageSlot (c : Chip) (i : Nat) : Nat := if c.getB FW_SLOT (fwInst i 0) FW_SLOT.RUNNING then 1 else 0

/-- `FW_STAGE_OPEN`: a new open of the image already staging restarts its staging. -/
def Chip.fwStageOpen (c : Chip) (h : Hdr) (image length : Nat) : Chip :=
  c.command h (fwSpec 0x0F10 fwWho 2 (fun n => n == 8)) (fun x c =>
    let stg := c.getF FW_STATUS 0 FW_STATUS.STAGING
    checks c [(decide (2 < image), stBadParam), (decide (length < 320) || decide (slotSize image < length) || h.prsv != 0, stBadParam),
      (stg != 0xFF && stg != image, stBusy)]
    (fun _ => c.accept x (fun c k =>
      let s := c.stageSlot image
      let old := c.slot (fwInst image s)
      let c := if old.staging && !old.erased then c.finish old.handle stBadState [] else c
      let c := c.setSlot (fwInst image s) { staging := true, len := length, handle := some k }
      (c.upd FW_STATUS 0 [(FW_STATUS.STAGING, image)]).showSlot image s)))

/-- `FW_STAGE_ERASE_DONE`: the erase of the staging slot is verified. -/
def Chip.fwStageEraseDone (c : Chip) : Chip :=
  let i := c.getF FW_STATUS 0 FW_STATUS.STAGING
  let s := c.stageSlot i
  let x := c.slot (fwInst i s)
  if 2 < i ∨ !x.staging ∨ x.erased then c
  else
    let c := c.setSlot (fwInst i s) { x with erased := true, handle := none, content := 2 ^ (8 * x.len) - 1 }
    c.finish x.handle stOk (u8 s ++ rsvBytes 3)

/-- Some byte of a range has been written before. -/
def written (l : List (Nat × Nat)) (a n : Nat) : Bool := l.any (fun r => decide (r.1 < a + n) && decide (a < r.1 + r.2))

/-- The bytes of a slot with a range replaced. -/
def putRange (content a : Nat) (data : List Nat) : Nat := (⟨8 * a, 8 * data.length⟩ : Fld).set content (beValue data.reverse)

/-- The image's slot is open for staging and erased. -/
def Chip.stageLive (c : Chip) (image : Nat) : Bool :=
  let x := c.slot (fwInst image (c.stageSlot image))
  c.getF FW_STATUS 0 FW_STATUS.STAGING == image && x.staging && x.erased

/-- A write of `n` bytes that its offset or length does not allow: whole units of 256 bytes but for the last, inside the image (R518). -/
def Chip.stageBad (c : Chip) (image offset n : Nat) : Bool :=
  let x := c.slot (fwInst image (c.stageSlot image))
  offset % 256 != 0 || (c.stageLive image && (decide (x.len < offset + n) ||
    (if offset + n = x.len then decide (16376 < n) else decide (n < 256) || decide (16128 < n) || n % 256 != 0)))

/-- `FW_STAGE_WRITE`. -/
def Chip.fwStageWrite (c : Chip) (h : Hdr) (image offset : Nat) (data : List Nat) : Chip :=
  c.command h (fwSpec 0x0F11 fwWho 3 (fun n => decide (9 ≤ n))) (fun _ c =>
    let s := c.stageSlot image
    let x := c.slot (fwInst image s)
    let n := data.length
    checks c [(decide (2 < image), stBadParam), (c.stageBad image offset n || h.prsv != 0, stBadParam),
      (!c.stageLive image || written x.ranges offset n, stBadState)]
    (fun _ => { chip := c.setSlot (fwInst image s) { x with content := putRange x.content offset data, ranges := x.ranges ++ [(offset, n)] } }))

/-- Every byte of an image has been written. -/
def Slot.complete (x : Slot) : Bool := x.ranges.foldl (fun n r => n + r.2) (0 : Nat) == x.len

/-- `FW_STAGE_CLOSE`: the slot is judged; `sigOk` and `hashOk` are what its signature and body hash give (assumption 3). -/
def Chip.fwStageClose (c : Chip) (h : Hdr) (image : Nat) (sigOk hashOk : Bool) : Chip :=
  c.command h (fwSpec 0x0F12 fwWho 2 (fun n => n == 4)) (fun x c =>
    let s := c.stageSlot image
    let k := fwInst image s
    let sl := c.slot k
    checks c [(decide (2 < image), stBadParam), (h.prsv != 0, stBadParam),
      (c.getF FW_STATUS 0 FW_STATUS.STAGING != image || !sl.staging || !sl.erased, stBadState)]
    (fun _ => c.accept x (fun c hk =>
      let done := sl.complete
      let new : Slot := { sl with staging := false, sigOk := done && sigOk, hashOk := done && hashOk, handle := none }
      let c := (c.setSlot k new).upd FW_STATUS 0 [(FW_STATUS.STAGING, 0xFF)]
      let c := c.showSlot image s
      let st := c.slotJudge image new
      let reason := if !done then 1
        else if st = 3 then (if new.magic = 0x5A43494D ∧ new.hdrVer = 1 ∧ new.image ≠ image then 6 else 2)
        else if st = 4 then 3 else if st = 5 then 4 else if st = 6 then 5 else 0
      let others := (List.range 3).filter (fun i => i != image && (c.runSlot i).isSome)
      let picks : Picks := (if reason = 0 then [(image, new)] else []) ++ others.map (fun i => (i, c.slot (fwInst i ((c.runSlot i).getD 0))))
      let out := outcomeOf picks (c.policyHolds picks)
      let c := c.finish (some hk) stOk (u8 reason ++ rsvBytes 1 ++ u8 out ++ rsvBytes 1 ++ u32 new.buildId ++ u16 new.secVer ++ u16 new.epoch)
      c.raise 0x0F05 1 image (u8 reason ++ u8 s ++ rsvBytes 2 ++ u32 new.buildId) (audOps (scDiag ||| scFwStage)))))

/-- A new directory copy makes other slots active; the older copy gives way (R500). -/
def Chip.writeDir (c : Chip) (active : Nat) : Chip :=
  let old := c.dirNow
  let new : DirCopy := ⟨true, old.seq + 1, active⟩
  let useB := c.boot.dirA.valid && (!c.boot.dirB.valid || decide (c.boot.dirB.seq < c.boot.dirA.seq))
  (if useB then { c with boot.dirB := new } else { c with boot.dirA := new }).showDir

/-- `FW_ACTIVATE`: with bit [3] a chip reset follows once the reply is queued. -/
def Chip.fwActivate (c : Chip) (h : Hdr) (mask : Nat) : Chip :=
  c.command h (fwSpec 0x0F13 Who.estateOnly 2 (fun n => n == 4)) (fun _ c =>
    let l := bitsOf 3 mask
    let other := fun (i : Nat) => 1 - c.activeSlot i
    checks c [(mask == 0 || decide (15 < mask) || h.prsv != 0, stBadParam),
      (l.any (fun i => c.getF FW_SLOT (fwInst i (other i)) FW_SLOT.STATE != 1), stBadState)]
    (fun _ =>
      let act := l.foldl (fun m i => putBit m i (other i == 1)) c.dirNow.active
      let c := if l.isEmpty then c else c.writeDir act
      let c := c.raise 0x0F06 1 0 (u8 mask ++ rsvBytes 3 ++ u32 (c.getF FW_STATUS 0 FW_STATUS.DIR_SEQ)) (audOps (scDiag ||| scFwStage))
      { chip := c, post := fun c => if mask.testBit 3 then c.chipReset 16 true else c }))

/-- `ACCEPT_UNTESTED_SET`: the signature is made under the key of the session's estate credential (R504). -/
def Chip.acceptUntestedSet (c : Chip) (h : Hdr) (kfw zrt ghp : Nat) (sig : Sig) : Chip :=
  c.command h (fwSpec 0x0F14 Who.estateOnly 2 (fun n => n == 80)) (fun x c =>
    let key := c.getF CRED_ESTATE (c.ses x.si).index CRED_ESTATE.PUBKEY
    checks c [(h.prsv != 0 || !Sig.verifies sig key, stBadParam)]
    (fun _ =>
      let p : Option Policy := if kfw = 0 ∧ zrt = 0 ∧ ghp = 0 then none else some ⟨kfw, zrt, ghp, key⟩
      { chip := Chip.showPolicy { c with boot.policy := p } }))

end Sys2Proof.Machine
end

