-- ==== Sys2Proof/Machine/TimeRows.lean ====
section
/-!
DEFINITION. The commands of the time unit (R426 to R447): the crystal's monitor, the selector's evaluations and commits, the
PTP messages, `PPS_IN`, the steps and slews, the local-time edges, `TIME_CAPTURE`, `TIME_SET` and the records' writes.
-/

namespace Sys2Proof.Machine

/-- The selector, PTP and the daylight changes run: from Limited up (Table 14.9). -/
def Chip.timeRuns (c : Chip) : Bool := decide (lvLimited ≤ c.level) && c.boot.timeUnit

/-! ## The crystal (R426) -/

/-- `RTC_XTAL_FAILURE`: the 32.768 kHz crystal has stopped, or runs more than 1000 ppm off. Without REF on the 25 MHz crystal
nothing monitors it, and a stopped one only holds the count. -/
def Chip.rtcXtalFailure (c : Chip) (stopped : Bool) : Chip :=
  let c := { c with time.xtalDead := c.time.xtalDead || stopped }
  if !c.boot.vaon ∨ !c.getB SUPPLY_STATUS 0 SUPPLY_STATUS.REF_XTAL ∨ c.getB TIME_STATUS 0 TIME_STATUS.XTAL_FAIL then c
  else ((c.upd TIME_STATUS 0 [(TIME_STATUS.XTAL_FAIL, 1)]).raise 0x0C03 2 0 (u8 1 ++ rsvBytes 3) audTime).judgeTrust

/-- `RTC_XTAL_RESTORE`: the crystal counts again, judged within 100 ppm of REF for 10 s where REF can judge it. -/
def Chip.rtcXtalRestore (c : Chip) : Chip :=
  let c := { c with time.xtalDead := false }
  if !c.boot.vaon ∨ !c.getB SUPPLY_STATUS 0 SUPPLY_STATUS.REF_XTAL ∨ !c.getB TIME_STATUS 0 TIME_STATUS.XTAL_FAIL then c
  else ((c.upd TIME_STATUS 0 [(TIME_STATUS.XTAL_FAIL, 0)]).raise 0x0C03 2 0 (u8 0 ++ rsvBytes 3) audTime).judgeTrust

/-! ## The selector (R439 to R441) -/

/-- The availability bits and the PTP ports' states. -/
def Chip.showRefs (c : Chip) : Chip :=
  let c := c.each 2 Chip.showPtp
  c.upd TIME_STATUS 0 [(TIME_STATUS.AVAIL, maskOf ((List.range 4).filter c.refAvail))]

/-- The qualification of the candidate: it runs while the candidate is qualified, and a break starts it afresh (Table 14.6). -/
def Chip.qualify (c : Chip) (spread0 spread1 : Nat) : Chip :=
  let cand := c.getF TIME_STATUS 0 TIME_STATUS.CANDIDATE
  if c.getF TIME_STATUS 0 TIME_STATUS.SSTATE = ssLocked ∨ ¬ c.refQualified cand spread0 spread1 then
    Chip.upd { c with time.qualSince := none } TIME_STATUS 0 [(TIME_STATUS.QUAL_MS, 0)]
  else
    let t := c.time.qualSince.getD c.up
    Chip.upd { c with time.qualSince := some t } TIME_STATUS 0 [(TIME_STATUS.QUAL_MS, min (c.since t * 1000 / 32768) 0xFFFFFFFF)]

/-- `SELECTOR_EVALUATE`, every 10 ms. `spread0` and `spread1` are the spreads of the PTP references' offset samples over the last
second after rate removal, in microseconds. A forward step already decided completes before a loss is acted on (R444). -/
def Chip.selectorEvaluate (c : Chip) (spread0 spread1 : Nat) : Chip :=
  if !c.timeRuns then c
  else
    let c := c.showRefs
    let c := if c.time.stepAt.isSome then c else c.selectorMove
    let c := c.qualify spread0 spread1
    let c := if c.lockedRef then
        (Chip.upd { c with time.lockedEver := true } TIME_STATUS 0 [(TIME_STATUS.LAST_LOCK, c.now)]).spanEnds
      else c
    c.judgeRetire.judgeTrust

/-- The time for which a candidate must be qualified (Table 14.6). -/
def qualSeconds (st : Nat) : Nat := if st = ssSwitching then 8 else if st = ssReturning then 2 else 60

/-- The last error measured against a reference. -/
def Chip.refEps (c : Chip) (k : Nat) : Option Int :=
  if k < 2 then (c.ptp k).eps else if k = 2 then c.time.ppsEps else none

/-- A reference drives the RTC: its error is corrected, unless a step already decided is still to be made (R431, R444). -/
def Chip.drive (c : Chip) (k : Nat) : Chip :=
  if !c.driving k ∨ !c.refAvail k ∨ c.time.stepAt.isSome then c
  else match c.refEps k with
    | some e => c.correct e k
    | none => c

/-- `REFERENCE_QUALIFIED`: the candidate has been qualified for its time without a break, and becomes the active reference. A
commit out of SWITCHING is a downward one unless the candidate is better than the lost reference; a new active reference
replaces the error being corrected (Table 14.6, R444). -/
def Chip.referenceQualified (c : Chip) : Chip :=
  let st := c.getF TIME_STATUS 0 TIME_STATUS.SSTATE
  let cand := c.getF TIME_STATUS 0 TIME_STATUS.CANDIDATE
  match c.time.qualSince with
  | some t =>
    if c.timeRuns ∧ st ≠ ssLocked ∧ c.refAvail cand ∧ c.passedS t (qualSeconds st) then
      let down := decide (st = ssSwitching) && !decide (c.refPrio cand < c.refPrio (c.getF TIME_STATUS 0 TIME_STATUS.ACTIVE))
      let c := Chip.moveSelector { c with time.down := down, time.betterSeen := false } cand ssLocked 0xFF 0
      let c := if cand < 3 then Chip.upd { c with time.lockedEver := true } TIME_STATUS 0 [(TIME_STATUS.LAST_LOCK, c.now)] else c
      (c.drive cand).judgeRetire.judgeTrust
    else c
  | none => c

/-- `HOLDOVER_EXPIRY`: LOCAL has been active for more than `HOLDOVER_S` since the last lock (R427). -/
def Chip.holdoverExpiry (c : Chip) : Chip := if c.timeRuns then c.judgeTrust else c

/-! ## PTP (R435 to R437) -/

/-- A PTP port listens. -/
def Chip.ptpListens (c : Chip) (p : Nat) : Bool :=
  c.timeRuns && (c.getF TIME_REF_CFG 0 TIME_REF_CFG.REF_EN).testBit p && c.linkUp p
    && c.getB SUPPLY_STATUS 0 SUPPLY_STATUS.PLLB_LOCK && c.ptpAddr p

/-- A malformed message or a lost timestamp is counted. -/
def Chip.ptpErr (c : Chip) (p : Nat) : Chip := c.incSat PTP_STATUS p PTP_STATUS.ERR_CNT PTP_STATUS.SAT 2

/-- The offset from UTC in use for a master (R437). -/
def Chip.utcOfs (c : Chip) (p : Nat) (m : PtpMaster) : Int :=
  if m.utcValid then m.utcOfs else c.getF PTP_CFG p PTP_CFG.UTC_OFS_DEFAULT

/-- The master of a port changes or goes: its exchange starts again; the record shows the master selected. -/
def Chip.ptpReselect (c : Chip) (p : Nat) (old : Option PtpMaster) : Chip :=
  let m := c.ptpMaster p
  let ident := fun (x : PtpMaster) => (x.identity, x.port)
  let c := if m.map ident = old.map ident then c
    else
      let x := c.ptp p
      c.setPtp p { x with lastSync := none, twoStepSeq := none, t1 := 0, t2 := 0, pathDelay := none, delayReqs := [], lastReq := none,
                          unanswered := 0, eps := none }
  match m with
  | some m =>
    c.upd PTP_STATUS p [(PTP_STATUS.GM_CLASS, m.cls), (PTP_STATUS.STEPS_REMOVED, min m.steps 255),
      (PTP_STATUS.GM_IDENTITY, beValue (leBytes 8 m.gm)), (PTP_STATUS.MASTER_PORT, m.port), (PTP_STATUS.UTC_OFS, ofSigned 16 m.utcOfs)]
  | none => c.upd PTP_STATUS p [(PTP_STATUS.GM_CLASS, 0), (PTP_STATUS.STEPS_REMOVED, 0), (PTP_STATUS.GM_IDENTITY, 0),
      (PTP_STATUS.MASTER_PORT, 0), (PTP_STATUS.UTC_OFS, 0)]

/-- `PTP_ANNOUNCE`: a master is heard. Another domain, an interval outside the profile and a `stepsRemoved` of 255 are not taken
(Table 14.5). -/
def Chip.ptpAnnounce (c : Chip) (p : Nat) (a : Announce) (good : Bool) : Chip :=
  if !c.ptpListens p then c
  else if !good then c.ptpErr p
  else if a.domain ≠ c.getF PTP_CFG p PTP_CFG.DOMAIN ∨ a.logInterval < -3 ∨ 3 < a.logInterval ∨ 255 ≤ a.steps then c
  else
    let old := c.ptpMaster p
    let m : PtpMaster := ⟨a.identity, a.port, a.prio1, a.cls, a.accuracy, a.variance, a.prio2, a.gm, a.steps, a.utcOfs, a.utcValid,
      c.up, a.logInterval, a.ptpTimescale⟩
    let x := c.ptp p
    let l := x.masters.filter (fun y => y.identity != a.identity || y.port != a.port)
    ((c.setPtp p { x with masters := sortOn (fun y => y.identity * 65536 + y.port) (m :: l) }).ptpReselect p old).showRefs

/-- `ANNOUNCE_TIMEOUT`: three of its Announce intervals without a message drop a master; with none left the reference is not
available (R434, Table 14.8). -/
def Chip.announceTimeout (c : Chip) (p : Nat) : Chip :=
  if !c.timeRuns then c
  else
    let old := c.ptpMaster p
    let x := c.ptp p
    let l := x.masters.filter (fun m => decide (c.since m.announced ≤ 3 * intervalTicks m.announceLog))
    ((c.setPtp p { x with masters := l }).ptpReselect p old).showRefs

/-- The present civil time at a count of 4 ns periods since the last RTC increment, in 1/64 ns (R424, R436). -/
def Chip.civilFine (c : Chip) (fine : Nat) : Int := c.civil * tickUnits + 256 * fine

/-- A master's time in nanoseconds since the PTP epoch, as civil time in 1/64 ns (R437). -/
def Chip.ptpCivil (c : Chip) (p : Nat) (m : PtpMaster) (ns : Int) : Int := 64 * ns - (c.utcOfs p m + 946684800) * secUnits

/-- A correctionField, in 2^-16 ns, in 1/64 ns. -/
def corrUnits (corr : Int) : Int := divFree 436 corr 1024

/-- The offset of the latest Sync: the end-to-end equation, with ε its negative (R436). -/
def Chip.ptpOffset (c : Chip) (p : Nat) : Chip :=
  let x := c.ptp p
  match x.pathDelay with
  | some d =>
    let off := x.t2 - x.t1 - d
    let c := c.setPtp p { x with eps := some (-off) }
    let ns := clampI (-9223372036854775808) 9223372036854775807 (divFree 446 off 64)
    (c.upd PTP_STATUS p [(PTP_STATUS.OFFSET_NS, ofSigned 64 ns)]).showRefs
  | none => c

/-- A Sync that gives an offset is used: counted, and where the reference drives the RTC its error is corrected. -/
def Chip.ptpUse (c : Chip) (p : Nat) (m : PtpMaster) : Chip :=
  let c := (c.incSat PTP_STATUS p PTP_STATUS.SYNC_CNT PTP_STATUS.SAT 0).ptpOffset p
  let c := if c.driving p then c.upd TIME_STATUS 0 [(TIME_STATUS.UTC_OFS, ofSigned 16 (c.utcOfs p m))] else c
  c.drive p

/-- The selected master sent the message. -/
def PtpMaster.sent (m : PtpMaster) (g : PtpMsg) : Bool := m.identity == g.identity && m.port == g.port

/-- `PTP_SYNC`: a Sync of the selected master. `origin` is its originTimestamp in nanoseconds of the PTP epoch, `corr` its
correctionField; a two-step one waits for its Follow_Up. -/
def Chip.ptpSync (c : Chip) (p : Nat) (g : PtpMsg) (twoStep : Bool) (origin corr : Int) : Chip :=
  if !c.ptpListens p then c
  else if !g.good then c.ptpErr p
  else match c.ptpMaster p with
    | some m =>
      if !m.sent g ∨ g.logInterval < -4 ∨ 1 < g.logInterval then c
      else
        let t2 := c.civilFine g.fine - 64 * c.getF PTP_CFG p PTP_CFG.RX_LAT_NS
        let x := c.ptp p
        if twoStep then c.setPtp p { x with syncLog := g.logInterval, twoStepSeq := some (g.seq, corrUnits corr, t2) }
        else
          let c := c.setPtp p { x with syncLog := g.logInterval, twoStepSeq := none, lastSync := some c.up, t2 := t2,
                                       t1 := c.ptpCivil p m origin + corrUnits corr }
          c.ptpUse p m
    | none => c

/-- `PTP_FOLLOW_UP`: the precise origin time of the two-step Sync it names. -/
def Chip.ptpFollowUp (c : Chip) (p : Nat) (g : PtpMsg) (origin corr : Int) : Chip :=
  if !c.ptpListens p then c
  else if !g.good then c.ptpErr p
  else match c.ptpMaster p, (c.ptp p).twoStepSeq with
    | some m, some (seq, corr0, t2) =>
      if !m.sent g ∨ g.seq ≠ seq then c
      else
        let x := c.ptp p
        let c := c.setPtp p { x with twoStepSeq := none, lastSync := some c.up, t2 := t2,
                                     t1 := c.ptpCivil p m origin + corr0 + corrUnits corr }
        c.ptpUse p m
    | _, _ => c

/-- The interval since the last Delay_Req has passed, never less than 1/16 s (R435). -/
def Chip.delayDue (c : Chip) (p : Nat) : Bool :=
  match (c.ptp p).lastReq with
  | some t => decide (max (intervalTicks (c.ptp p).delayLog) 2048 ≤ c.since t)
  | none => true

/-- `DELAY_REQ_SEND`: a Delay_Req goes to the master at its interval, never more than 16 in a second; its transmit timestamp has
`TX_LAT_NS` added (R435, R436). -/
def Chip.delayReqSend (c : Chip) (p : Nat) (fine : Nat) (stamped : Bool) : Chip :=
  let x := c.ptp p
  if !c.ptpListens p ∨ (c.ptpMaster p).isNone ∨ x.lastSync.isNone ∨ !c.delayDue p then c
  else
    let seq := (x.delaySeq + 1) % 65536
    let t3 := c.civilFine fine + 64 * c.getF PTP_CFG p PTP_CFG.TX_LAT_NS
    let c := { c with time.ptpOut := c.time.ptpOut ++ [(p, seq)] }
    let c := c.setPtp p { x with delaySeq := seq, lastReq := some c.up, unanswered := x.unanswered + 1,
                                 delayReqs := if stamped then ((seq, t3) :: x.delayReqs).take 4 else x.delayReqs }
    (if stamped then c else c.ptpErr p).showRefs

/-- `PTP_DELAY_RESP`: the answer to one of the last four Delay_Req completes the mean path delay; `received` is its
receiveTimestamp in nanoseconds of the PTP epoch. -/
def Chip.ptpDelayResp (c : Chip) (p : Nat) (g : PtpMsg) (received corr : Int) : Chip :=
  if !c.ptpListens p then c
  else if !g.good then c.ptpErr p
  else match c.ptpMaster p, (c.ptp p).delayReqs.find? (fun q => q.1 == g.seq) with
    | some m, some (_, t3) =>
      if !m.sent g ∨ (c.ptp p).lastSync.isNone then c
      else
        let x := c.ptp p
        let t4 := c.ptpCivil p m received - corrUnits corr
        let d := divFree 436 ((x.t2 - x.t1) + (t4 - t3)) 2
        let later := (x.delayReqs.takeWhile (fun q => q.1 != g.seq)).length
        let c := c.setPtp p { x with pathDelay := some d, delayLog := g.logInterval, unanswered := later,
                                     delayReqs := x.delayReqs.filter (fun q => q.1 != g.seq) }
        let c := c.incSat PTP_STATUS p PTP_STATUS.DELAY_CNT PTP_STATUS.SAT 1
        let c := c.upd PTP_STATUS p [(PTP_STATUS.PATH_DELAY_NS, (divFree 446 d 64 % 2 ^ 32).toNat)]
        c.ptpOffset p
    | _, _ => c

/-! ## PPS (R438) -/

/-- `PPS_EDGE`: a rising edge marks a whole civil second. `fine` counts 4 ns periods since the last RTC increment and is used
while PLL-B runs; the distance from the edge before is measured on the RTC. -/
def Chip.ppsEdge (c : Chip) (fine : Nat) : Chip :=
  if !c.timeRuns ∨ ¬ (c.getF TIME_REF_CFG 0 TIME_REF_CFG.REF_EN).testBit 2 then c
  else
    let fine := if c.getB SUPPLY_STATUS 0 SUPPLY_STATUS.PLLB_LOCK then fine else 0
    let t : Int := c.now * tickUnits + 256 * fine
    let tol : Int := c.getF TIME_REF_CFG 0 TIME_REF_CFG.PPS_TOL_US * 64000
    let good := c.time.ppsLast.isSome && decide ((t - c.time.ppsRtc - secUnits).natAbs ≤ tol)
    let civil := c.civilFine fine
    let eps := (Int.fdiv (civil + secUnits / 2) secUnits) * secUnits - civil
    let c := { c with time.ppsLast := some c.up, time.ppsRtc := t, time.ppsGood := good, time.ppsEps := some eps }
    c.showRefs.drive 2

/-! ## Steps, slews and the servo (R431, R538) -/

/-- The calendar's end passes for civil or local time: `CAL_RANGE`, raised once (R429). -/
def Chip.judgeCalRange (c : Chip) : Chip :=
  if c.getB TIME_STATUS 0 TIME_STATUS.CAL_RANGE ∨ (Int.fdiv c.civil 32768 ≤ calendarEnd ∧ Int.fdiv c.localTime 32768 ≤ calendarEnd) then c
  else (c.upd TIME_STATUS 0 [(TIME_STATUS.CAL_RANGE, 1)]).raise 0x0C06 2 0 [] audTime

/-- `RTC_FORWARD_STEP`: the reference's next whole second has come, within the ticks the crystal resolves; the seconds field takes
that civil second and the prescaler 0. -/
def Chip.rtcForwardStep (c : Chip) : Chip :=
  match c.time.stepAt with
  | some (_, rest) =>
    let t := c.civil * tickUnits + rest
    if !c.timeRuns ∨ 2 * tickUnits ≤ t % secUnits then c
    else (c.forwardStep (Int.fdiv t secUnits).toNat).judgeCalRange.judgeTrust
  | none => c

/-- `SERVO_PHASE_EXPIRY`: `SERVO_TC_S` without a further error return the servo rate to f; a slew holds it (R538). -/
def Chip.servoPhaseExpiry (c : Chip) : Chip :=
  match c.time.epsAt with
  | some t =>
    if c.timeRuns ∧ ¬ c.getB TIME_STATUS 0 TIME_STATUS.SLEWING ∧ c.passedS t (c.getF TIME_REF_CFG 0 TIME_REF_CFG.SERVO_TC_S) then
      let c := c.spanEnds
      Chip.showRate { c with time.servo := c.time.freq }
    else c
  | none => c

/-- `SLEW_END`: what is left of the error has come down to 1 ms; the slew rate returns to 0 and the servo takes the errors again. -/
def Chip.slewEnd (c : Chip) : Chip :=
  if c.timeRuns ∧ c.getB TIME_STATUS 0 TIME_STATUS.SLEWING ∧ c.time.slewLeft.natAbs ≤ 64000000 then c.stopSlew.judgeRetire else c

/-! ## Local time (R428, R430) -/

/-- `DAYLIGHT_CHANGE`: a loaded instant has come; the Keeper then loads the next two. -/
def Chip.daylightChange (c : Chip) : Chip :=
  match c.time.dst with
  | (t, on) :: l =>
    if c.timeRuns ∧ t ≤ c.now then
      (c.localJump (fun c => Chip.upd { c with time.dst := l } TIME_STATUS 0 [(TIME_STATUS.DST, if on then 1 else 0)])).loadDst.judgeCalRange
    else c
  | [] => c

/-- The presence profile takes the share of the ended quarter-hour for every zone that had a tick in it (R212). -/
def Chip.profileQuarter (c : Chip) (endsAt : Int) : Chip :=
  let d := dateOf (calSeconds (endsAt - 1))
  let k := 96 * d.wday + 4 * d.hour + d.minute / 15
  c.eachOf (c.zones.zone.map Prod.fst) (fun c z =>
    let x := c.zrt z
    if x.lqVal = 0 then c
    else
      let old := c.getF PRESENCE_PROFILE z (PRESENCE_PROFILE.ENTRY k)
      let new : Int := if old = 0xFF then divFree 212 (200 * x.lqOcc) x.lqVal
        else divRound (3 * old * x.lqVal + 200 * x.lqOcc) (4 * x.lqVal)
      c.upd PRESENCE_PROFILE z [(PRESENCE_PROFILE.ENTRY k, new.toNat),
        (PRESENCE_PROFILE.LEARNT, c.getF PRESENCE_PROFILE z PRESENCE_PROFILE.LEARNT + (if old = 0xFF then 1 else 0))])

/-- `LOCAL_TIME_EDGE`: local time has run on. An edge counts only beyond the highest local time reached, and the held local time
past the calendar has none (R429, R430). -/
def Chip.localTimeEdge (c : Chip) : Chip :=
  if !c.timeRuns then c
  else
    let c := c.judgeCalRange
    let l := c.localTime
    let prev := c.time.localPrev.getD 0
    let from_ := max prev (c.getF TIME_STATUS 0 TIME_STATUS.LOCAL_HWM : Int)
    if l ≤ prev ∨ calendarEnd < Int.fdiv l 32768 then c
    else
      let edge := (Int.fdiv from_ ticksPerLocalQuarter + 1) * ticksPerLocalQuarter
      let c := if edge ≤ l then c.profileQuarter edge else c
      let c := if Int.fdiv prev ticksPerLocalQuarter < Int.fdiv l ticksPerLocalQuarter then c.quarterClear else c
      Chip.upd { c with time.localPrev := some l } TIME_STATUS 0
        [(TIME_STATUS.LOCAL_HWM, max l.toNat (c.getF TIME_STATUS 0 TIME_STATUS.LOCAL_HWM))]

/-! ## Commands and records (R445, R447) -/

/-- Table 3.5: `TIME_CAPTURE` for the estate, operators with `TIME` and plots. -/
def timeCaptureSpec : CmdSpec := { opcode := 0x0C00, classes := [1, 2, 3], who := fun w => w.estateOr scTime || w.plotOf.isSome, len := (· == 0) }

/-- `TIME_CAPTURE`: everything at one instant; the calendar fields give local time. -/
def Chip.timeCapture (c : Chip) (h : Hdr) (fine : Nat) : Chip :=
  c.command h timeCaptureSpec (fun _ c =>
    checks c [(h.prsv != 0, stBadParam)] (fun _ =>
      let g := c.getF TIME_STATUS 0
      let d := dateOf (calSeconds c.localTime)
      let fine := if c.getB SUPPLY_STATUS 0 SUPPLY_STATUS.PLLB_LOCK then fine else 0xFFFFFFFF
      { chip := c, data := u64 c.now ++ s64 c.civil ++ s64 c.localTime ++ u32 fine ++ u8 (g TIME_STATUS.ACTIVE)
          ++ u8 (g TIME_STATUS.SSTATE) ++ u8 (g TIME_STATUS.TRUST) ++ u8 (c.img TIME_STATUS 0 / 2 ^ 32 % 256)
          ++ u16 d.year ++ u8 d.month ++ u8 d.day ++ u8 d.hour ++ u8 d.minute ++ u8 d.second ++ u8 d.wday }))

def timeSetSpec : CmdSpec := { opcode := 0x0C01, classes := [2], who := fun w => w.estateOr scTime, len := (· == 8) }

/-- A civil second is applied as an error; a forward step is made at once (R433). -/
def Chip.applyTimeSet (c : Chip) (seconds : Nat) : Chip :=
  let eps := (seconds : Int) * secUnits - c.civil * tickUnits
  let c := Chip.upd { c with time.stepAt := none, time.down := false } TIME_STATUS 0 [(TIME_STATUS.RTC_VALID, 1)]
  let c := c.correct eps 9
  let c := if c.time.stepAt.isSome then c.forwardStep seconds else c
  (Chip.judgeCalRange { c with time.stepAt := none }).judgeTrust

/-- `TIME_SET` (R433, R447). -/
def Chip.timeSet (c : Chip) (h : Hdr) (seconds : Nat) : Chip :=
  c.command h timeSetSpec (fun _ c =>
    checks c [
      (h.prsv != 0 || decide (6311433599 < seconds), stBadParam),
      (decide (c.getF TIME_STATUS 0 TIME_STATUS.ACTIVE < 2), stBadState)]
      (fun _ => { chip := c.applyTimeSet seconds }))

/-- Who writes the records of chapter 14. -/
def timeMay (w : Who) : Bool := w.estateOr scTime

/-- `TIME_REF_MODE`: taken at the next evaluation. -/
def Chip.timeRefModeWrite (c : Chip) (x : Ctx) (i ver img : Nat) : Res :=
  c.setRecord x.h TIME_REF_MODE i ver img { may := timeMay x.who } (fun c _ => c)

/-- What a `TIME_REF_CFG` image must satisfy beside its fields' ranges: distinct priorities and a jump limit of 0 or 3 s to a year. -/
def timeRefCfgBad (img : Nat) : Bool :=
  let p0 := TIME_REF_CFG.PRIO_ETH0.get img
  let p1 := TIME_REF_CFG.PRIO_ETH1.get img
  let p2 := TIME_REF_CFG.PRIO_PPS.get img
  let lim := TIME_REF_CFG.JUMP_LIMIT_S.get img
  p0 == p1 || p0 == p2 || p1 == p2 || (lim != 0 && (decide (lim < 3) || decide (31536000 < lim)))

/-- `TIME_REF_CFG_WRITE`: the priorities are distinct; after a write that reorders them the active reference counts as not
committed by a downward switch (R440). -/
def Chip.timeRefCfgWrite (c : Chip) (x : Ctx) (i ver img : Nat) : Res :=
  let p0 := TIME_REF_CFG.PRIO_ETH0.get img
  let p1 := TIME_REF_CFG.PRIO_ETH1.get img
  let p2 := TIME_REF_CFG.PRIO_PPS.get img
  c.setRecord x.h TIME_REF_CFG i ver img { may := timeMay x.who, bad := timeRefCfgBad img } (fun c old =>
    if TIME_REF_CFG.PRIO_ETH0.get old = p0 ∧ TIME_REF_CFG.PRIO_ETH1.get old = p1 ∧ TIME_REF_CFG.PRIO_PPS.get old = p2 then c
    else { c with time.down := false })

/-- `PTP_CFG_WRITE`: the port's master selection starts again. -/
def Chip.ptpCfgWrite (c : Chip) (x : Ctx) (i ver img : Nat) : Res :=
  c.setRecord x.h PTP_CFG i ver img { may := timeMay x.who } (fun c _ =>
    (Chip.ptpReselect (c.setPtp i {}) i none).showRefs)

/-- `TIME_ZONE_WRITE`: the local instant reached under the old rules is kept, and the Keeper loads the daylight instants. -/
def Chip.timeZoneWrite (c : Chip) (x : Ctx) (i ver img : Nat) : Res :=
  c.setRecord x.h TIME_ZONE i ver img { may := timeMay x.who } (fun c old =>
    let new := c.img TIME_ZONE 0
    let ver := c.version TIME_ZONE 0
    let c := { c with recs := Tab.set (TIME_ZONE.resetImg 0) c.recs (recKey TIME_ZONE 0) old }
    let c := c.localJump (fun c => { c with recs := Tab.set (TIME_ZONE.resetImg 0) c.recs (recKey TIME_ZONE 0) new })
    (Chip.loadDst { c with vers := Tab.set 1 c.vers (recKey TIME_ZONE 0) ver }).judgeCalRange)

end Sys2Proof.Machine
end

