-- ==== Sys2Proof/Machine/Authority.lean ====
section
/-!
DEFINITION. Who reads which record and in what form (R85, R105, R106 and the "Who may" lines of the chapters): `GET_RECORD` and
`SNAP_READ` (R62, R64, R515, R518).
-/

namespace Sys2Proof.Machine

/-! ## Records that every reader who may read them sees whole -/

def whoPlots (w : Who) : Bool := w.plotOf.isSome

def Who.anyOperator : Who → Bool
  | .operator _ _ => true
  | _ => false

/-- The records with one reading for all, and who reads them. -/
def plainReaders : List (List RecDesc × (Who → Bool)) := [
  ([CRED_ESTATE, CRED_OPERATOR, CRED_FEEDER, PRIVACY_CFG, OCC_GROUP, OCC_AGG, METER_MAP, METER_WEIGHTS, METERING_CFG,
    METERING_STATUS, RS485_CFG, METER_CFG, METER_STATUS, FORECAST, RAW_WORDS], Who.estateOnly),
  ([ENDPOINT_CFG, ENDPOINT_STATUS, SECURITY_STATUS, ZONE_CFG, TICK_TABLE, TERRACE_PERF, TERRACE_STATUS, PERGOLA_STATUS,
    PLOT_ISOLATION, PROGRAM_INFO, PROGRAM_IMAGE, MODEL_CFG, PLAN_PLANT, PLAN_ROUND, FIGHT_CFG, FIGHT_STATUS, ARRAY_MODE,
    ARRAY_CFG, PLAUS_CFG, AIN_CFG, PRS_CFG, KP_CFG, KP_GLOBAL, FEED_SRC, ARRAY_CAL, ARRAY_STATUS, STORE_STATUS, BANK_INFO,
    AVS_CFG, THERM_CFG, SUPPLY_STATUS, THERMAL_STATUS, AON_STATUS, AON_FAULT_LOG, SNAP_CFG], Who.estateOr scDiag),
  ([ACT_MAP, ALLOC_MODE, BUDGET_CFG, BUDGET_STATUS], Who.estateOr scChannels),
  ([CH_CFG, VALVE_TYPE, CH_GLOBAL, AX_CFG, ENC_CFG, HOLD_RAIL_CFG, BUCK_STATUS], Who.estateOr (scChannels ||| scDiag)),
  ([FAN_PORT_CFG, FAN_GROUP_CFG, PURGE_CFG], Who.estateOr scFans),
  ([FAN_GLOBAL], Who.estateOr (scFans ||| scDiag)),
  ([FB_INPUT_CFG, FB_FUNC_CFG, FB_OUT_CFG, FB_GLOBAL, FB_WARDEN_CFG], fun w => w.estateOnly || w.anyOperator),
  ([FB_CONFIG_INFO, FB_STATUS], Who.estateOr (scChannels ||| scFans ||| scDiag)),
  ([TIME_REF_MODE, TIME_REF_CFG, PTP_CFG, TIME_ZONE, TIME_STATUS, PTP_STATUS], fun w => w.estateOr scTime || whoPlots w),
  ([TARIFF], fun w => w.estateOnly || whoPlots w),
  ([FW_SLOT, FW_STATUS], Who.estateOr (scFwStage ||| scDiag))]

/-! ## Masked forms (R106) -/

/-- A field's no-value code: temperatures and fx32 source values have one, everything else takes zero. -/
def noValue (r : RecDesc) (f : Fld) : Nat :=
  if r.id = CH_STATUS.id ∧ (f = CH_STATUS.COIL_T ∨ f = CH_STATUS.COIL_T_SS) then 0x8000
  else if (r.id = AIN_STATUS.id ∧ f = AIN_STATUS.VALUE) ∨ (r.id = FEED_STATUS.id ∧ f = FEED_STATUS.VALUE) then 0x80000000
  else 0

/-- The fields of a zone or source record that only its owner reads (R157, R339, R367). -/
def ownerFields (r : RecDesc) : List Fld :=
  if r.id = ZONE_STATUS.id then
    [ZONE_STATUS.SAT_CNT, ZONE_STATUS.CYC_LAST, ZONE_STATUS.CYC_MAX] ++ (List.range 8).map ZONE_STATUS.DEMAND
      ++ (List.range 8).map ZONE_STATUS.PORT_STATUS
  else if r.id = AIN_STATUS.id then [AIN_STATUS.CODE, AIN_STATUS.VALUE, AIN_STATUS.TIME]
  else if r.id = PRS_STATUS.id then [PRS_STATUS.ACTIVE, PRS_STATUS.LEVEL, PRS_STATUS.CHANGES, PRS_STATUS.SINCE]
  else if r.id = KP_STATUS.id then [KP_STATUS.HELD, KP_STATUS.OFFSET, KP_STATUS.LAST_PRESS]
  else if r.id = FEED_STATUS.id then [FEED_STATUS.TIME, FEED_STATUS.VALUE]
  else []

/-- The image with its owner's fields masked. -/
def maskFields (r : RecDesc) (fs : List Fld) (img : Nat) : Nat := setFields (fs.map (fun f => (f, noValue r f))) img

/-! ## Non-owner resolution (R105, R266, R290, R318, R335) -/

/-- State codes that stand for several states: the field and what it shows. -/
def hiddenCode (r : RecDesc) (img : Nat) : List (Fld × Nat) :=
  if r.id = TARGET_STATUS.id then
    let s := TARGET_STATUS.TSTATE.get img
    if 1 ≤ s ∧ s ≤ 7 then [(TARGET_STATUS.TSTATE, 12)] else []
  else if r.id = CH_STATUS.id then
    let s := CH_STATUS.CSTATE.get img
    if 2 ≤ s ∧ s ≤ 4 then [(CH_STATUS.CSTATE, 9)] else []
  else if r.id = AX_STATUS.id then
    let s := AX_STATUS.ASTATE.get img
    if 3 ≤ s ∧ s ≤ 7 then [(AX_STATUS.ASTATE, 10)] else []
  else []

/-- Fields that read as at the last quarter-hour. -/
def hiddenLast (r : RecDesc) : List Fld :=
  if r.id = TARGET_STATUS.id then [TARGET_STATUS.OPEN_S, TARGET_STATUS.PULL_CNT, TARGET_STATUS.SHED_CNT, TARGET_STATUS.SAT]
  else if r.id = CH_STATUS.id then
    [CH_STATUS.I_MA, CH_STATUS.COIL_T, CH_STATUS.COIL_T_SS, CH_STATUS.CLOSE_T, CH_STATUS.LAST_CLOSE, CH_STATUS.MOVE_CNT,
     CH_STATUS.NOMOVE_CNT, CH_STATUS.FAULT_CNT, CH_STATUS.SAT]
  else if r.id = AX_STATUS.id then
    [AX_STATUS.POS_Q16, AX_STATUS.TARGET_Q16, AX_STATUS.TARGET, AX_STATUS.POSITION, AX_STATUS.SPEED, AX_STATUS.DUTY,
     AX_STATUS.I_MA, AX_STATUS.MOVE_CNT, AX_STATUS.STALL_CNT, AX_STATUS.FAULT_CNT, AX_STATUS.SAT]
  else if r.id = ENC_STATUS.id then
    [ENC_STATUS.DIR, ENC_STATUS.POSITION, ENC_STATUS.SPEED, ENC_STATUS.INDEX_POS, ENC_STATUS.EDGE_FAULT_CNT,
     ENC_STATUS.INDEX_CNT, ENC_STATUS.DIR_CHANGE_CNT, ENC_STATUS.SAT]
  else []

/-- Fields that read as the mean of the last quarter-hour, with the byte that names the mean. -/
def hiddenMean (r : RecDesc) : List (Fld × Nat) :=
  if r.id = TARGET_STATUS.id then [(TARGET_STATUS.DEMAND, 4), (TARGET_STATUS.DUTY, 6)]
  else if r.id = FAN_GROUP_STATUS.id then [(FAN_GROUP_STATUS.DEMAND, 2), (FAN_GROUP_STATUS.TARGET, 4), (FAN_GROUP_STATUS.DUTY, 6)]
  else if r.id = FAN_PORT_STATUS.id then [(FAN_PORT_STATUS.DUTY, 2), (FAN_PORT_STATUS.RPM, 4)]
  else []

/-- An axis is shown live: STOPPED, FAULT, or under a manual mode. -/
def axisShown (img : Nat) : Bool :=
  AX_STATUS.ASTATE.get img == asStopped || AX_STATUS.ASTATE.get img == asFault || AX_STATUS.MANUAL.get img == 1

/-- The instance is in a state that shows it live whoever drives it. `at_` gives the images of other records of the same
instant: an encoder follows its axes, a fan port its group. -/
def Chip.shownLive (c : Chip) (at_ : RecDesc → Nat → Nat) (r : RecDesc) (i : Nat) : Bool :=
  let img := at_ r i
  if r.id = TARGET_STATUS.id then decide (8 ≤ TARGET_STATUS.TSTATE.get img ∧ TARGET_STATUS.TSTATE.get img ≤ 11)
  else if r.id = CH_STATUS.id then
    decide (5 ≤ CH_STATUS.CSTATE.get img ∧ CH_STATUS.CSTATE.get img ≤ 7) || CH_STATUS.MANUAL.get img == 1
  else if r.id = AX_STATUS.id then axisShown img
  else if r.id = ENC_STATUS.id then
    ((List.range 24).filter (fun a => c.getB AX_CFG a AX_CFG.EN && c.getF AX_CFG a AX_CFG.ENC == i && c.plotTarget (axBase + a))).all
      (fun a => axisShown (at_ AX_STATUS a))
  else if r.id = FAN_GROUP_STATUS.id then FAN_GROUP_STATUS.SOURCE.get img != 0
  else if r.id = FAN_PORT_STATUS.id then
    FAN_GROUP_STATUS.SOURCE.get (at_ FAN_GROUP_STATUS (c.getF FAN_PORT_CFG i FAN_PORT_CFG.GROUP)) != 0
  else true

/-- An actuator's record as a reader sees it who owns none of its sources. Before the first quarter-hour the fields of the last one
read as after a reset. -/
def Chip.coarseForm (c : Chip) (r : RecDesc) (i : Nat) : Nat :=
  let img := c.img r i
  if !c.hidden r i || c.shownLive c.img r i then img
  else
    let q := Tab.get (r.resetImg i) c.act.lastQ (recKey r i)
    setFields (hiddenCode r img ++ (hiddenLast r).map (fun f => (f, f.get q))
      ++ (hiddenMean r).map (fun p => (p.1, (Tab.get 0 c.act.means (recKey r i * 256 + p.2)).toNat))) img

/-! ## The view of a reader -/

/-- A plot's energy as the estate reads it (R403): at the last quarter-hour, in whole watt-hours. -/
def Chip.coarseEnergy (c : Chip) (p : Nat) : Nat :=
  let q := Tab.get (PLOT_ENERGY.resetImg p) c.meter.lastQ (recKey PLOT_ENERGY p)
  let fs := (List.range 24).map PLOT_ENERGY.ENERGY ++ (List.range 3).map PLOT_ENERGY.OUTAGE ++ (List.range 3).map PLOT_ENERGY.RECOVERED
  setFields ((PLOT_ENERGY.AS_OF, c.meter.lastQAt) :: fs.map (fun f => (f, f.get q / 1000 * 1000))) (c.img PLOT_ENERGY p)

/-- A plot's demand as the estate reads it (R408). -/
def Chip.coarseDemand (c : Chip) (p : Nat) : Nat :=
  let img := c.img PLOT_DEMAND p
  let fs := [PLOT_DEMAND.INT_START, PLOT_DEMAND.INT_FLAGS, PLOT_DEMAND.LAST_FLAGS, PLOT_DEMAND.LAST_BAND, PLOT_DEMAND.LAST_START]
    ++ (List.range 3).map PLOT_DEMAND.INT_ACC ++ (List.range 3).map PLOT_DEMAND.LAST_DEMAND
  setFields (fs.map (fun f => (f, 0)) ++ (List.range 24).map (fun k =>
    (PLOT_DEMAND.PEAK_TIME k, (PLOT_DEMAND.PEAK_TIME k).get img / ticksPerQuarter * ticksPerQuarter))) img

/-- The image of a record instance as a principal reads it; none where it may not (R85). -/
def Chip.view (c : Chip) (w : Who) (r : RecDesc) (i : Nat) : Option Nat :=
  let img := c.img r i
  let only := fun (b : Bool) (v : Nat) => if b then some v else none
  let z := c.zoneOwner i
  let diag := w.estateOr scDiag
  match plainReaders.find? (fun p => (p.1.map RecDesc.id).contains r.id) with
  | some p => only (p.2 w) img
  | none =>
    if [PLOT_SLOT.id, PLOT_ZONES.id, PLOT_LIMITS.id].contains r.id then only (w.estateOnly || w == .plot i) img
    else if r.id = PLOT_PREFS.id then only (w == .plot i) img
    else if r.id = ZONE_PARAMS.id then
      if w.owns z then some img
      else if z < 256 then only w.estateOnly 0
      else only diag img
    else if [ZONE_STATE.id, ZONE_BINDINGS.id, ZONE_OCC.id].contains r.id then only (w.owns z || (decide (256 ≤ z) && diag)) img
    else if r.id = ZONE_STATUS.id then
      if w.owns z then some img else only diag (if z < 256 then maskFields r (ownerFields r) img else img)
    else if r.id = ZONE_SCHEDULE.id then only (w == .plot z && c.slotState z == slEnrolled) img
    else if r.id = ZONE_SCHED_DEF.id then only (w.estateOnly || w == .plot z) img
    else if r.id = MODEL_COEF.id then
      if w.owns z then some img else only diag (setFields [(MODEL_COEF.VALID, MODEL_COEF.VALID.get img)] 0)
    else if r.id = TUNE_STATUS.id then
      if w.owns z then some img
      else only diag (setFields ((List.range 3).flatMap (fun k => [(TUNE_STATUS.TSTATE k, (TUNE_STATUS.TSTATE k).get img),
        (TUNE_STATUS.SOURCE k, (TUNE_STATUS.SOURCE k).get img), (TUNE_STATUS.CAUSE k, (TUNE_STATUS.CAUSE k).get img)])) 0)
    else if [OCC_TIMELINE.id, PRESENCE_PROFILE.id, ZONE_PLAN.id].contains r.id then only (w.owns z) img
    else if r.id = PLAN_PREFS.id then only (w.owns z && (decide (256 ≤ z) || c.slotState z == slEnrolled)) img
    else if r.id = TARGET_STATUS.id then only (w.estateOr scChannels) (c.coarseForm r i)
    else if [CH_STATUS.id, AX_STATUS.id, ENC_STATUS.id].contains r.id then
      only (w.estateOr (scChannels ||| scDiag)) (c.coarseForm r i)
    else if [FAN_PORT_STATUS.id, FAN_GROUP_STATUS.id].contains r.id then only (w.estateOr (scFans ||| scDiag)) (c.coarseForm r i)
    else if [AIN_STATUS.id, PRS_STATUS.id, KP_STATUS.id, FEED_STATUS.id].contains r.id then
      let o := c.ownerOf r i
      if w.owns o then some img else only diag (if o < 256 then maskFields r (ownerFields r) img else img)
    else if r.id = PLOT_ENERGY.id then
      if w == .plot i ∨ (w.estateOnly ∧ i = 256) then some img else only w.estateOnly (c.coarseEnergy i)
    else if r.id = PLOT_DEMAND.id then
      if w == .plot i ∨ (w.estateOnly ∧ i = 256) then some img else only w.estateOnly (c.coarseDemand i)
    else if r.id = EPOCH_STATEMENT.id then only (w.estateOnly || w == .plot i) img
    else if r.id = SNAP_STATUS.id then
      if diag then some img else only (whoPlots w) (setFields [(SNAP_STATUS.EVENT, 0)] img)
    else none

/-! ## `GET_RECORD` (R62, R63) -/

def getRecordSpec : CmdSpec where
  opcode := 0x0005
  classes := [1, 2, 3]
  who := Who.notFeeder
  len := fun n => n == 8

/-- Bytes `offset` to `offset + maxLen - 1` of an image, cut at its length. -/
def imageBytes (img len offset maxLen : Nat) : List Nat := ((leBytes len img).drop offset).take maxLen

/-- `GET_RECORD`. WO fields read as zero (Table 0.6). -/
def Chip.getRecord (c : Chip) (h : Hdr) (rec inst offset maxLen : Nat) : Chip :=
  c.command h getRecordSpec (fun x c =>
    match findRecord rec with
    | none => c.no stBadParam
    | some r =>
      let v := c.view x.who r inst
      checks c [
        (decide (r.count ≤ inst), stBadParam),
        (v.isNone, stDenied),
        (h.prsv != 0 || maxLen == 0 || decide (1008 < maxLen) || decide (r.len ≤ offset), stBadParam)]
        (fun _ =>
          let img := v.getD 0
          { chip := c, data := u16 rec ++ u16 inst ++ u16 r.len ++ u16 offset ++ u32 (c.version r inst)
              ++ imageBytes (img - (img &&& r.hiddenMask)) r.len offset maxLen }))

/-! ## `SNAP_READ` (R515, R518) -/

/-- Segments that plots may read. -/
def plotSegments : List Nat := [ZONE_STATUS.id, AIN_STATUS.id, PRS_STATUS.id, KP_STATUS.id]

/-- A segment's image as the estate and operators receive it: what the record, read at that instant, would not have given live is
masked, state codes included. -/
def Chip.maskSegment (c : Chip) (r : RecDesc) (s : Segment) : Nat :=
  let at_ := fun (r : RecDesc) (i : Nat) =>
    ((c.boot.segments.find? (fun t => t.record == r.id && t.inst == i)).map Segment.img).getD (r.resetImg i)
  if s.owner < 256 then maskFields r (ownerFields r) s.img
  else if s.hide ∧ ¬ c.shownLive at_ r s.inst then
    maskFields r ((hiddenCode r s.img).map Prod.fst ++ hiddenLast r ++ (hiddenMean r).map Prod.fst) s.img
  else s.img

def snapReadSpec : CmdSpec where
  opcode := 0x0F01
  classes := [2, 3]
  who := fun w => w.estateOr scDiag || whoPlots w
  len := fun n => n == 8

/-- A plot's reach: segments of its own zones and sources, owned by it when they were latched and still. -/
def Chip.segmentMay (c : Chip) (w : Who) (r : RecDesc) (s : Option Segment) (inst : Nat) : Bool :=
  match w with
  | .plot p => plotSegments.contains r.id && c.ownerOf r inst == p && (match s with | some s => s.owner == p | none => true)
  | _ => true

/-- `SNAP_READ`. -/
def Chip.snapRead (c : Chip) (h : Hdr) (segment inst offset maxLen : Nat) : Chip :=
  c.command h snapReadSpec (fun x c =>
    match snapRecords.find? (fun r => r.id == segment) with
    | none => c.no stBadParam
    | some r =>
      let s := c.boot.segments.find? (fun t => t.record == segment && t.inst == inst)
      checks c [
        (decide (r.count ≤ inst), stBadParam),
        (!c.segmentMay x.who r s inst, stDenied),
        (h.prsv != 0 || maxLen == 0 || decide (996 < maxLen) || decide (r.len ≤ offset), stBadParam),
        (s.isNone || !c.getB SNAP_STATUS 0 SNAP_STATUS.SNAP_STATE, stBadState)]
        (fun _ => match s with
          | some s =>
            let img := if whoPlots x.who then s.img else c.maskSegment r s
            { chip := c, data := u32 (c.getF SNAP_STATUS 0 SNAP_STATUS.SNAP_ID) ++ u16 segment ++ u16 inst ++ u16 r.len ++ u16 offset
                ++ u8 s.flags ++ rsvBytes 3 ++ u64 (c.getF SNAP_STATUS 0 SNAP_STATUS.TIME) ++ imageBytes img r.len offset maxLen }
          | none => c.no stBadState))

end Sys2Proof.Machine
end

