-- ==== Sys2Proof/Machine/Protocol.lean ====
section
/-!
DEFINITION. The session layer and the transports (R41 to R78, R539): `PING`, sessions and subscriptions, result handles,
endpoints, fragments, the SPI operations, ARP and neighbour replies, the sending of events, refusals, and `SET_RECORD` with the
writer of every record.
-/

namespace Sys2Proof.Machine

/-! ## The opcodes (Tables 2.4, 2.12 and the tables of the chapters) -/

/-- Every opcode a host may send, with its classes. -/
def opcodeTable : List (Nat × List Nat) :=
  [(0x0000, [1, 2, 3]), (0x0001, [2]), (0x0002, [1, 2, 3]), (0x0003, [2]),
   (0x0004, [2]), (0x0005, [1, 2, 3]), (0x0006, [1, 2, 3]), (0x0007, [1, 2, 3]),
   (0x0008, [1, 2, 3]), (0x000B, [2]), (0x0100, [2]), (0x0101, [2]),
   (0x0102, [2]), (0x0103, [2]), (0x0104, [2]), (0x0105, [2]),
   (0x0106, [2]), (0x0200, [1, 2]), (0x0201, [2]), (0x0202, [2]),
   (0x0203, [2]), (0x0204, [2, 3]), (0x0210, [0, 1]), (0x0211, [1, 2]),
   (0x0240, [2, 3]), (0x0241, [2]), (0x0300, [2]), (0x0301, [2]),
   (0x0302, [2]), (0x0310, [2]), (0x0400, [2]), (0x0401, [1, 2]),
   (0x0402, [1, 2]), (0x0510, [0, 1]), (0x0511, [1, 2]), (0x0600, [1, 2]),
   (0x0601, [2]), (0x0610, [0, 1]), (0x0611, [1, 2]), (0x0700, [1, 2]),
   (0x0701, [2]), (0x0702, [2]), (0x0703, [2]), (0x0704, [2]),
   (0x0800, [1, 2]), (0x0801, [2]), (0x0810, [0, 1]), (0x0900, [2]),
   (0x0901, [2]), (0x0910, [1, 2]), (0x0918, [2]), (0x0A10, [1, 2]),
   (0x0B00, [2]), (0x0B01, [2]), (0x0C00, [1, 2, 3]), (0x0C01, [2]),
   (0x0D00, [2]), (0x0D01, [2]), (0x0D02, [2, 3]), (0x0D03, [2]),
   (0x0D04, [2]), (0x0E10, [2]), (0x0F00, [1, 2]), (0x0F01, [2, 3]),
   (0x0F02, [2]), (0x0F10, [2]), (0x0F11, [3]), (0x0F12, [2]),
   (0x0F13, [2]), (0x0F14, [2])]

def opcodeKnown (op : Nat) : Bool := opcodeTable.any (fun p => p.1 == op)

def opcodeClasses (op : Nat) : List Nat := ((opcodeTable.find? (fun p => p.1 == op)).map Prod.snd).getD []

/-- The four opcodes of session 0 (R44). -/
def opcodeOpen (op : Nat) : Bool := [0x0000, 0x0001, 0x0100, 0x0101].contains op

/-! ## Sessions (R50, R62) -/

def baseSpec (opcode : Nat) (classes : List Nat) (who : Who → Bool) (len : Nat → Bool) : CmdSpec where
  opcode := opcode
  classes := classes
  who := who
  len := len

/-- `PING` (R62), also in session 0 (R44). -/
def pingSpec : CmdSpec := { baseSpec 0x0000 [1, 2, 3] Who.any (fun n => decide (n ≤ 1008)) with inSession0 := true }

/-- `PING`. -/
def Chip.ping (c : Chip) (h : Hdr) (echo : List Nat) : Chip :=
  c.command h pingSpec (fun _ c =>
    { chip := c, data := u8 (c.getF AON_STATUS 0 AON_STATUS.TIER) ++ rsvBytes 3 ++ u64 c.now ++ echo })

/-- `SESSION_CLOSE` (R62). -/
def sessionCloseSpec : CmdSpec := baseSpec 0x0002 [1, 2, 3] Who.any (· == 0)

/-- `SESSION_CLOSE`: its reply is the last frame under the closing keys. -/
def Chip.sessionClose (c : Chip) (h : Hdr) : Chip :=
  c.command h sessionCloseSpec (fun x c => { chip := c, post := fun c => c.closeSession x.si })

/-- `SESSION_IDLE_TIMEOUT`: no authenticated frame for `IDLE_TIMEOUT_S`. -/
def Chip.sessionIdleTimeout (c : Chip) (i : Nat) : Chip :=
  let s := c.ses i
  if s.isOpen ∧ c.passedS s.lastFrame (c.getF ENDPOINT_CFG s.ep ENDPOINT_CFG.IDLE_TIMEOUT_S) then c.closeSession i else c

/-- `SUBSCRIBE` (R62). -/
def subscribeSpec : CmdSpec := baseSpec 0x0003 [2] Who.notFeeder (· == 4)

/-- `SUBSCRIBE`: the held events the session may have come ahead of any raised later (R62, R539). -/
def Chip.subscribe (c : Chip) (h : Hdr) (mask minSev : Nat) : Chip :=
  c.command h subscribeSpec (fun x c =>
    checks c [(h.prsv != 0 || decide (3 < minSev), stBadParam)] (fun _ =>
      let c := (c.heldAccount.modSes x.si (fun s => { s with sub := some (mask, minSev) })).giveHeld x.si
      { chip := c }))

/-- `UNSUBSCRIBE` (R62). -/
def unsubscribeSpec : CmdSpec := baseSpec 0x0004 [2] Who.notFeeder (· == 0)

/-- `UNSUBSCRIBE`: `EVENT_SEQ` stays. -/
def Chip.unsubscribe (c : Chip) (h : Hdr) : Chip :=
  c.command h unsubscribeSpec (fun x c =>
    { chip := c.heldAccount.modSes x.si (fun s => { s with sub := none, queue := [], lost := 0 }) })

/-! ## Result handles (R58 to R61) -/

/-- `RESULT_GET` (R60). -/
def resultGetSpec : CmdSpec := baseSpec 0x0007 [1, 2, 3] Who.notFeeder (· == 12)

/-- `RESULT_GET`. The reply shows `READ_COUNT` with this read counted. -/
def Chip.resultGet (c : Chip) (h : Hdr) (handle offset maxLen : Nat) : Chip :=
  c.command h resultGetSpec (fun x c =>
    let k := c.findHandle x.si handle
    let y := c.hnd (k.getD 0)
    checks c [
      (h.prsv != 0 || maxLen == 0 || decide (1004 < maxLen), stBadParam),
      (k.isNone, stStale),
      (y.finished && decide (y.data.length < offset), stBadParam)]
      (fun _ =>
        if !y.finished then { chip := c, status := stPending, data := u8 y.progress ++ rsvBytes 3 }
        else
          let n := satInc 16 y.reads
          let sat := y.rcSat || n == 0xFFFF
          { chip := c.setHnd (k.getD 0) { y with reads := n, rcSat := sat },
            data := u8 y.status ++ u8 (if sat then 1 else 0) ++ u16 n ++ u32 y.data.length ++ u32 offset ++ (y.data.drop offset).take maxLen }))

/-- `RESULT_RELEASE` (R61). -/
def resultReleaseSpec : CmdSpec := baseSpec 0x0008 [1, 2, 3] Who.notFeeder (· == 4)

/-- `RESULT_RELEASE`: a load that may still be cancelled is (R137, R190); every other operation goes on. -/
def Chip.resultRelease (c : Chip) (h : Hdr) (handle : Nat) : Chip :=
  c.command h resultReleaseSpec (fun x c =>
    let k := c.findHandle x.si handle
    checks c [(h.prsv != 0, stBadParam), (k.isNone, stStale)] (fun _ =>
      { chip := (c.cancelLoads (k.getD 0)).dropHandle (k.getD 0) }))

/-! ## Endpoints (R73, R74) -/

/-- The reset of one endpoint. `keep` outbound frames, the reply that is sent first, stay (R73). -/
def Chip.resetEndpoint (c : Chip) (e keep : Nat) : Chip :=
  let l := c.openSessions.filter (fun i => (c.ses i).ep == e)
  let c := c.eachOf l Chip.closeSession
  let out := (c.ep e).out
  let c := c.modEp e (fun x => { x with accepting := true, refusals := [], inbound := 0, started := false,
                                        out := out.drop (out.length - keep) })
  let c := (c.clearRec ENDPOINT_STATUS e).showSlots e
  c.raise 0x0003 1 0 (u8 e ++ u8 l.length) { anyOperator := true, allPlots := true, exceptEndpoint := some e }

/-- `ENDPOINT_RESET` (R74). -/
def endpointResetSpec : CmdSpec := baseSpec 0x000B [2] (Who.estateOr scDiag) (· == 4)

/-- `ENDPOINT_RESET`. -/
def Chip.endpointReset (c : Chip) (h : Hdr) (e : Nat) : Chip :=
  c.command h endpointResetSpec (fun _ c =>
    checks c [(decide (18 ≤ e) || h.prsv != 0, stBadParam)] (fun _ => { chip := c, post := fun c => c.resetEndpoint e 0 }))

/-- What stands against an `ENDPOINT_CFG` image beside its fields' ranges (R73). -/
def Chip.endpointBad (c : Chip) (i img : Nat) : Bool :=
  let g := fun (f : Fld) => f.get img
  if i < 2 then [ENDPOINT_CFG.IPV4_EN, ENDPOINT_CFG.IPV6_EN, ENDPOINT_CFG.PORT, ENDPOINT_CFG.IPV4_ADDR, ENDPOINT_CFG.IPV6_ADDR].any (fun f => g f != 0)
  else g ENDPOINT_CFG.EN == 1 && (List.range 16).any (fun k =>
    let j := k + 2
    j != i && c.getB ENDPOINT_CFG j ENDPOINT_CFG.EN && c.getF ENDPOINT_CFG j ENDPOINT_CFG.PORT == g ENDPOINT_CFG.PORT
      && c.getF ENDPOINT_CFG j ENDPOINT_CFG.VLAN_ID == g ENDPOINT_CFG.VLAN_ID)

/-- `ENDPOINT_CFG_WRITE`: the service UART's `EN` is read-only; a change of what places the endpoint resets it after the reply has
gone, and the ports in use decide whether Full can be held (R31, R73). -/
def Chip.endpointCfgWrite (c : Chip) (x : Ctx) (i ver img : Nat) : Res :=
  let old := c.img ENDPOINT_CFG i
  let img := if i = 1 then ENDPOINT_CFG.EN.set (ENDPOINT_CFG.EN.get old) img else img
  let moved := [ENDPOINT_CFG.EN, ENDPOINT_CFG.PORT, ENDPOINT_CFG.VLAN_ID, ENDPOINT_CFG.IPV4_ADDR, ENDPOINT_CFG.IPV6_ADDR,
    ENDPOINT_CFG.IPV4_EN, ENDPOINT_CFG.IPV6_EN].any (fun f => f.get img != f.get old)
  c.setRecord x.h ENDPOINT_CFG i ver img { may := x.who.estateOnly, bad := c.endpointBad i img }
    (fun c _ => c)
    (fun c => if moved then ((c.resetEndpoint i (if i = x.ep ∧ x.h.ackReq then 1 else 0)).unitCauses).fallCheck (2 ^ 19) else c)

/-! ## Fragments (R55 to R57) -/

/-- `FRAGMENT_STORE`: a non-final fragment. Session 0 keeps no assembly. A broken fragment rule ends the request with `BAD_LENGTH`. -/
def Chip.fragmentStore (c : Chip) (h : Hdr) (opcode : Nat) : Chip :=
  if !c.listening h.ep ∨ h.final then c
  else match c.admitFrame h opcode (opcodeKnown opcode) (opcodeOpen opcode) with
    | .stop c => c
    | .go c x _ =>
      if !(opcodeClasses opcode).contains h.cls then c.reply x opcode stBadParam []
      else if x.si = session0 ∨ h.cls < 2 then c.reply x opcode stBadLength []
      else match c.fragOf x.si h.tag with
        | some f =>
          if f.opcode ≠ opcode ∨ f.cls ≠ h.cls ∨ 16384 < f.bytes + h.len then (c.dropFrag x.si h.tag).reply x opcode stBadLength []
          else
            let l := c.host.frags.filter (fun g => !(g.ses == x.si && g.tag == h.tag))
            let c := { c with host.frags := l ++ [{ f with bytes := f.bytes + h.len, last := c.up }] }
            if h.ackReq then c.reply x opcode stOk [] else c
        | none =>
          if 1024 < h.len then c.epCount h.ep cntFraming
          else if 2 ≤ (c.host.frags.filter (fun g => g.ses == x.si)).length then c.reply x opcode stBadLength []
          else if c.freeGen h.ep = 0 ∨ c.slotCap h.ep ≤ c.sesFrags x.si then (c.epCount h.ep cntCredit).reply x opcode stNoCredit []
          else
            let c := Chip.showSlots { c with host.frags := c.host.frags ++ [⟨x.si, h.tag, opcode, h.cls, h.len, c.up⟩] } h.ep
            if h.ackReq then c.reply x opcode stOk [] else c

/-- `FRAGMENT_TIMEOUT`: more than 1000 ms since the request's last fragment. -/
def Chip.fragmentTimeout (c : Chip) (i tag : Nat) : Chip :=
  match c.fragOf i tag with
  | some f =>
    if c.since f.last * 1000 ≤ 1000 * ticksPerSecond then c
    else
      let e := (c.ses i).ep
      let h : Hdr := { ep := e, session := c.sidOf i, tag := tag, cls := f.cls }
      (c.dropFrag i tag).reply ⟨e, i, .nobody, h⟩ f.opcode stBadState []
  | none => c

/-! ## The SPI target port (R68, R69) -/

/-- `SPI_WRITE`: `whole` says that every byte of the frame was clocked before `SPI_CS_N` rose. A discarded write is counted and
flagged. -/
def Chip.spiWrite (c : Chip) (whole : Bool) : Chip :=
  if !c.listening 0 then c
  else if 4 ≤ (c.ep 0).inbound ∨ ¬ whole then
    (c.epCount 0 cntFraming).modEp 0 (fun x => { x with spiFlags := setBit (if whole then x.spiFlags else setBit x.spiFlags 1) 0 })
  else c.modEp 0 (fun x => { x with inbound := x.inbound + 1 })

/-- The outbound queue with the frame that leaves next in front: one already begun, else the first of class 0, else the oldest
(R54, R69). -/
def nextOut (x : Endpoint) : List Frame :=
  if x.started then x.out
  else match x.out.find? (fun f => f.cls == 0) with
    | some f => f :: x.out.erase f
    | none => x.out

/-- `SPI_READ`: the next outbound frame, which stays queued unless it was read in full. With nothing queued every byte is 0xFF. -/
def Chip.spiRead (c : Chip) (whole : Bool) : Chip :=
  match nextOut (c.ep 0) with
  | [] => c
  | f :: l =>
    if whole then Chip.modEp { c with host.wire := c.host.wire ++ [(0, f)] } 0 (fun x => { x with out := l, started := false })
    else c.modEp 0 (fun x => { x with out := f :: l, started := true })

/-- `SPI_STATUS`: outbound frames, free inbound buffers, flags; the flags clear. -/
def Chip.spiStatus (c : Chip) : Chip :=
  let x := c.ep 0
  Chip.modEp { c with host.spiRead := u8 (min 255 x.out.length) ++ u8 (4 - x.inbound) ++ u8 x.spiFlags ++ rsvBytes 1 } 0
    (fun x => { x with spiFlags := 0 })

/-! ## ARP and neighbour discovery (R71) -/

/-- A UDP endpoint is on a live port. -/
def Chip.udpUp (c : Chip) (e : Nat) : Bool :=
  decide (2 ≤ e) && c.listening e && c.linkUp (c.getF ENDPOINT_CFG e ENDPOINT_CFG.PORT) && c.getB SUPPLY_STATUS 0 SUPPLY_STATUS.PLLB_LOCK

/-- `ARP_REQUEST` for an IPv4 address in network byte order, from `asker`. -/
def Chip.arpRequest (c : Chip) (e target asker : Nat) : Chip :=
  if c.udpUp e ∧ c.getB ENDPOINT_CFG e ENDPOINT_CFG.IPV4_EN ∧ target ≠ 0 ∧ target = c.getF ENDPOINT_CFG e ENDPOINT_CFG.IPV4_ADDR then
    { c with host.arpReplies := c.host.arpReplies ++ [(e, asker)] }
  else c

/-- The link-local address of a port, in network byte order: modified EUI-64 of its MAC address. -/
def linkLocal (port : Nat) : Nat :=
  let m := fun k => Config.macByte port k % 256
  leValue ([0xFE, 0x80, 0, 0, 0, 0, 0, 0] ++ [Nat.xor (m 0) 2, m 1, m 2, 0xFF, 0xFE, m 3, m 4, m 5])

/-- `NEIGHBOUR_SOLICITATION` for an IPv6 address in network byte order, from `asker`. -/
def Chip.neighbourSolicitation (c : Chip) (e target asker : Nat) : Chip :=
  let own := c.getF ENDPOINT_CFG e ENDPOINT_CFG.IPV6_ADDR
  if c.udpUp e ∧ c.getB ENDPOINT_CFG e ENDPOINT_CFG.IPV6_EN ∧ target ≠ 0 ∧
      (target = own ∨ target = linkLocal (c.getF ENDPOINT_CFG e ENDPOINT_CFG.PORT)) then
    { c with host.arpReplies := c.host.arpReplies ++ [(e, asker)] }
  else c

/-! ## Events and refusals on the wire (R65, R66, R75, R539) -/

/-- The payload of Table 2.5; data beyond 1000 bytes is cut and flagged. -/
def eventBytes (q : QEvent) : List Nat :=
  let d := q.data.take 1000
  u16 q.code ++ u8 q.sev ++ u8 (if 1000 < q.data.length then 1 else 0) ++ u16 q.source ++ rsvBytes 2 ++ u32 q.seq ++ u64 q.time
    ++ u16 d.length ++ rsvBytes 2 ++ d

/-- The refusals that wait at an endpoint leave. -/
def Chip.sendRefusals (c : Chip) (e : Nat) : Chip :=
  let l := (c.ep e).refusals
  (c.modEp e (fun x => { x with refusals := [] })).eachOf l (fun c f => c.send e f)

/-- `EVENT_TRANSMIT`: the transport of session `i`'s endpoint has room. Waiting refusals leave, then the session's oldest event, which
never waits for room on UART and UDP; on SPI the outbound queue of 64 bounds events. The entry that comes free takes
`EVENTS_LOST`. -/
def Chip.eventTransmit (c : Chip) (e i : Nat) : Chip :=
  if !c.listening e then c
  else
    let c := c.sendRefusals e
    let s := c.ses i
    match s.queue with
    | [] => c
    | q :: l =>
      if !s.isOpen ∨ s.ep ≠ e ∨ (e = 0 ∧ 64 ≤ (c.ep 0).out.length) then c
      else
        let c := (c.modSes i (fun s => { s with queue := l })).nextTx i
        let cls := if q.sev = 3 then 0 else if q.sev = 2 then 1 else 2
        let c := c.send e ⟨0x0010, c.sidOf i, (c.ses i).txSeq, 0, cls, none, 0, eventBytes q, s.addr⟩
        c.modSes i (fun s => pushLost s c.now)

/-- `HELD_EVENT_RELEASE`: 600 s with some subscription have passed since the event was raised. -/
def Chip.heldEventRelease (c : Chip) : Chip :=
  let c := c.heldAccount
  let keep := fun (h : Held) => decide (h.run < 600 * ticksPerSecond)
  { c with host.heldFb := c.host.heldFb.filter keep, host.heldChip := c.host.heldChip.filter keep }

/-- `FRAME_REFUSAL`: a frame that steps 1 to 7 of Table 2.10 refuse. `fault` 1 is a transport or delimiting fault, 2 a wrong `LEVEL`
or `LENGTH`, 3 a wrong `DIR`: discarded and counted; 0 leaves it to steps 4 to 7. A frame that they pass is its command's own
row and changes nothing here. -/
def Chip.frameRefusal (c : Chip) (h : Hdr) (opcode fault : Nat) : Chip :=
  if !c.listening h.ep then c
  else if fault ≠ 0 then
    let c := (c.popInbound h.ep).epCount h.ep cntFraming
    if h.ep = 0 ∧ fault = 1 then c.modEp 0 (fun x => { x with spiFlags := setBit x.spiFlags 1 }) else c
  else match c.admitFrame h opcode (opcodeKnown opcode) (opcodeOpen opcode) with
    | .stop c => c
    | .go _ _ _ => c

/-! ## `SET_RECORD` (R64) -/

/-- `CH_GLOBAL` (R289). -/
def Chip.chGlobalWrite (c : Chip) (x : Ctx) (i ver img : Nat) : Res :=
  c.setRecord x.h CH_GLOBAL i ver img (estateMay x) (fun c _ => c)

/-- The writer of each record that may be written. -/
def Chip.recordWriters (c : Chip) (x : Ctx) : List (RecDesc × (Nat → Nat → Nat → Res)) := [
  (ENDPOINT_CFG, c.endpointCfgWrite x), (CRED_ESTATE, c.credentialWrite x 0), (CRED_OPERATOR, c.credentialWrite x 1),
  (CRED_FEEDER, c.credentialWrite x 2), (PRIVACY_CFG, c.privacyCfgWrite x), (OCC_GROUP, c.occGroupWrite x),
  (ZONE_CFG, c.zoneCfgWrite x), (ZONE_PARAMS, c.zoneParamsWrite x), (TERRACE_PERF, c.terracePerfWrite x),
  (PLOT_ISOLATION, c.plotIsolationWrite x), (PLOT_LIMITS, c.plotLimitsWrite x), (PLOT_PREFS, c.plotPrefsWrite x),
  (ZONE_SCHEDULE, c.writeSchedule x), (ZONE_SCHED_DEF, c.writeSchedDef x), (MODEL_CFG, c.modelCfgWrite x),
  (PLAN_PLANT, c.planPlantWrite x), (PLAN_PREFS, c.planPrefsWrite x), (FORECAST, c.forecastWrite x),
  (FIGHT_CFG, c.fightCfgWrite x), (ACT_MAP, c.actMapWrite x), (ALLOC_MODE, c.allocModeWrite x), (BUDGET_CFG, c.budgetCfgWrite x),
  (CH_CFG, c.chCfgWrite x), (VALVE_TYPE, c.valveTypeWrite x), (CH_GLOBAL, c.chGlobalWrite x), (AX_CFG, c.axCfgWrite x),
  (ENC_CFG, c.encCfgWrite x), (FAN_PORT_CFG, c.fanPortCfgWrite x), (FAN_GROUP_CFG, c.fanGroupCfgWrite x),
  (FAN_GLOBAL, c.fanGlobalWrite x), (PURGE_CFG, c.purgeCfgWrite x), (ARRAY_MODE, c.arrayModeWrite x),
  (ARRAY_CFG, c.arrayCfgWrite x), (PLAUS_CFG, c.plausCfgWrite x), (AIN_CFG, c.ainCfgWrite x), (PRS_CFG, c.prsCfgWrite x),
  (KP_CFG, c.kpCfgWrite x), (KP_GLOBAL, c.kpGlobalWrite x), (FEED_SRC, c.feedSrcWrite x), (RS485_CFG, c.rs485CfgWrite x),
  (METER_CFG, c.meterCfgWrite x), (FB_INPUT_CFG, c.writeSafety x FB_INPUT_CFG), (FB_FUNC_CFG, c.writeSafety x FB_FUNC_CFG),
  (FB_OUT_CFG, c.writeSafety x FB_OUT_CFG), (FB_GLOBAL, c.writeSafety x FB_GLOBAL), (FB_WARDEN_CFG, c.writeSafety x FB_WARDEN_CFG),
  (TARIFF, c.tariffWrite x), (METER_MAP, c.meterMapWrite x), (METER_WEIGHTS, c.meterWeightsWrite x),
  (METERING_CFG, c.meteringCfgWrite x), (TIME_REF_MODE, c.timeRefModeWrite x), (TIME_REF_CFG, c.timeRefCfgWrite x),
  (PTP_CFG, c.ptpCfgWrite x), (TIME_ZONE, c.timeZoneWrite x), (RAW_WORDS, c.rawWordsWrite x), (HOLD_RAIL_CFG, c.holdRailCfgWrite x),
  (AVS_CFG, c.avsCfgWrite x), (THERM_CFG, c.thermCfgWrite x), (SNAP_CFG, c.snapCfgWrite x)]

/-- A record write by the record's number: an unknown record is `BAD_PARAM`, one that nobody writes `DENIED` (R78, R85). -/
def Chip.writeRecord (c : Chip) (x : Ctx) (rec inst ver img : Nat) : Res :=
  match findRecord rec with
  | none => c.no stBadParam
  | some r =>
    match (c.recordWriters x).find? (fun p => p.1.id == rec) with
    | some p => p.2 inst ver img
    | none => c.setRecord x.h r inst ver img { may := false } (fun c _ => c)

/-- `SET_RECORD`: the row's image is that of record `rec`. -/
def Chip.setRecordRow (c : Chip) (h : Hdr) (rec inst ver img : Nat) : Chip :=
  c.command h setRecordSpec (fun x c => c.writeRecord x rec inst ver img)

/-- A record's own row: `SET_RECORD` of that record. -/
def Chip.writeRow (c : Chip) (h : Hdr) (f : Ctx → Chip → Res) : Chip := c.command h setRecordSpec f

end Sys2Proof.Machine
end

