-- ==== Sys2Proof/Machine/Settle.lean ====
section
/-!
DEFINITION. What follows every command: the requests to the shadow SRAM are carried out, and the lines that follow their conditions
without a step of their own take their levels: `FAULT_N` (R510), the permits and outputs of the Firebreak (R381) and its forced-off
lines (R377). Then the ways in which a meaning answers.
-/

namespace Sys2Proof.Machine

/-- The condition of R510 in which `FAULT_N` is driven low. -/
def Chip.faultLow (c : Chip) : Bool :=
  decide (c.level ≤ lvSurvival) || !c.boot.fbkOk || maskOff (c.getF AON_STATUS 0 AON_STATUS.LIVE) (2 ^ 14 + 2 ^ 16) != 0

/-- `FAULT_N` follows its condition while VAON drives it (R510). -/
def Chip.settleFault (c : Chip) : Chip :=
  if c.boot.vaon then c.upd AON_STATUS 0 [(AON_STATUS.FAULT_N_LOW, if c.faultLow then 1 else 0)] else c

/-- The lines of the part that follow at once. The Firebreak's outputs come last: nothing moves them afterwards. -/
def Chip.settleLines (c : Chip) : Chip := c.settleFault.settleForced.settleFb

/-- After a command: memory, then lines. -/
def State.settle (s : State) : State :=
  { s with mem := s.mem.applyAll s.chip.store.ops, chip := Chip.settleLines { s.chip with store.ops := [] } }

/-- A meaning that changes the part. -/
def State.run (s : State) (f : Chip → Chip) : Host.Outcome State Fault Refusal := .next (State.settle { s with chip := f s.chip })

/-- A meaning that reads the shadow memory as well. -/
def State.runMem (s : State) (f : Mem → Chip → Chip) : Host.Outcome State Fault Refusal :=
  .next (State.settle { s with chip := f s.mem s.chip })

/-- The configuration records that a safety commit names: inputs, functions, outputs, global, warden keys (R392). -/
def safetyRecord (which : Nat) : RecDesc := [FB_INPUT_CFG, FB_FUNC_CFG, FB_OUT_CFG, FB_GLOBAL].getD which FB_WARDEN_CFG

end Sys2Proof.Machine
end

