-- ==== Sys2Proof/Machine/ActuationRows.lean ====
section
/-!
DEFINITION. Meanings of the rows of the allocator, the valve channels, the damper axes and the fan groups.
-/

namespace Sys2Proof.Machine

/-- `ALLOC_FRAME_BOUNDARY` (R253): Each 1 ms the allocator takes changes, combines demands, applies precedence, releases,
sheds, grants and updates port status. -/
def execAllocFrameBoundary (s : State) : Host.Outcome State Fault Refusal :=
  s.run (fun c => c.allocFrameBoundary)

/-- `CLASS0_MICROSLOT` (R254): Class-0 actions are applied in the next 50 µs micro-slot, paid from the reserve. -/
def execClass0Microslot (s : State) : Host.Outcome State Fault Refusal :=
  s.run (fun c => c.class0Microslot.fanMicroslot)

/-- `PD_CLASS_SAMPLE` (R250): Every 100 ms PD_CLS is sampled, and a code is accepted after two equal samples. -/
def execPdClassSample (code : Nat) (s : State) : Host.Outcome State Fault Refusal :=
  if code < 8 then s.run (fun c => c.pdClassSample code) else .refused .noSuchUnit

/-- `VALVE_CYCLE_END` (R245): At the end of a time-proportioning cycle the carry is updated. -/
def execValveCycleEnd (ch : Nat) (s : State) : Host.Outcome State Fault Refusal :=
  if ch < 96 then s.run (fun c => c.valveCycleEnd ch) else .refused .noSuchUnit

/-- `SHED_HOLDOFF_EXPIRY` (R255): Shed targets are queued again after SHED_HOLDOFF_S without shedding. -/
def execShedHoldoffExpiry (s : State) : Host.Outcome State Fault Refusal :=
  s.run (fun c => c.shedHoldoffExpiry)

/-- `PLANT_STOP` (R260): Stops every channel, axis or fan group of the masked kinds in the next micro-slot. -/
def execPlantStop (h : Hdr) (mask : Nat) (s : State) : Host.Outcome State Fault Refusal :=
  s.run (fun c => c.plantStop h mask)

/-- `PLANT_RESUME` (R260): Clears the masked stop bits at the next frame boundary. -/
def execPlantResume (h : Hdr) (mask : Nat) (s : State) : Host.Outcome State Fault Refusal :=
  s.run (fun c => c.plantResume h mask)

/-- `ACT_MAP_WRITE` (R242): Write of the actuation map, applied at the next frame boundary. -/
def execActMapWrite (h : Hdr) (inst : Nat) (ver : Nat) (img : Nat) (s : State) : Host.Outcome State Fault Refusal :=
  s.run (fun c => c.writeRow h (fun x c => c.actMapWrite x inst ver img))

/-- `BUDGET_CFG_WRITE` (R264): Write of BUDGET_CFG, which changes B at the next boundary. -/
def execBudgetCfgWrite (h : Hdr) (inst : Nat) (ver : Nat) (img : Nat) (s : State) : Host.Outcome State Fault Refusal :=
  s.run (fun c => c.writeRow h (fun x c => c.budgetCfgWrite x inst ver img))

/-- `BOOST_END` (R272): When BOOST_MS elapses the rail changes to VHOLD and the channel enters HOLD. -/
def execBoostEnd (ch : Nat) (s : State) : Host.Outcome State Fault Refusal :=
  if ch < 96 then s.run (fun c => c.boostEnd ch) else .refused .noSuchUnit

/-- `CLOSURE_WATCH_SAMPLE` (R277): Each 50 µs watch sample is filtered and judged for the kink or the end of the window. -/
def execClosureWatchSample (ch : Nat) (time : Nat) (ma : Nat) (s : State) : Host.Outcome State Fault Refusal :=
  if ch < 96 then s.run (fun c => c.closureWatchSample ch time ma) else .refused .noSuchUnit

/-- `COIL_MODEL_UPDATE` (R279): Every 10 ms each coil's temperature model is updated and judged. -/
def execCoilModelUpdate (currents : List (Nat × Nat)) (s : State) : Host.Outcome State Fault Refusal :=
  s.run (fun c => c.coilModelUpdate currents)

/-- `OFF_STATE_DIAGNOSTIC` (R285): Every OFF_DIAG_MS the output is read without and with the pull-up and judged. -/
def execOffStateDiagnostic (ch : Nat) (mv0 : Nat) (mv1 : Nat) (s : State) : Host.Outcome State Fault Refusal :=
  if ch < 96 then s.run (fun c => c.offStateDiagnostic ch mv0 mv1) else .refused .noSuchUnit

/-- `CHANNEL_SHORT_TRIP` (R283): A current above the short trip threshold opens the channel and latches SHORT. -/
def execChannelShortTrip (ch : Nat) (s : State) : Host.Outcome State Fault Refusal :=
  if ch < 96 then s.run (fun c => c.channelShortTrip ch) else .refused .noSuchUnit

/-- `CHANNEL_JUNCTION_TRIP` (R283): A switch junction above 170 °C opens the channel with OVERTEMP. -/
def execChannelJunctionTrip (ch : Nat) (s : State) : Host.Outcome State Fault Refusal :=
  if ch < 96 then s.run (fun c => c.channelJunctionTrip ch) else .refused .noSuchUnit

/-- `DIE_SUM_TRIP` (R283): A die sum current above 7.0 A for 100 µs opens the boosting channels with PKG_OC. -/
def execDieSumTrip (die : Nat) (s : State) : Host.Outcome State Fault Refusal :=
  if die < 2 then s.run (fun c => c.dieSumTrip die) else .refused .noSuchUnit

/-- `PKG_OC_CLEAR` (R283): PKG_OC clears itself after 1 s. -/
def execPkgOcClear (ch : Nat) (s : State) : Host.Outcome State Fault Refusal :=
  if ch < 96 then s.run (fun c => c.pkgOcClear ch) else .refused .noSuchUnit

/-- `CHANNEL_OVERCURRENT` (R283): A mean current above OC_MA for 200 ms outside boost latches OVERCURRENT. -/
def execChannelOvercurrent (ch : Nat) (ma : Nat) (s : State) : Host.Outcome State Fault Refusal :=
  if ch < 96 then s.run (fun c => c.channelOvercurrent ch ma) else .refused .noSuchUnit

/-- `CHANNEL_OPEN_LOAD` (R283): A current below OPEN_MA for 50 ms in hold gives OPEN_LOAD. -/
def execChannelOpenLoad (ch : Nat) (ma : Nat) (s : State) : Host.Outcome State Fault Refusal :=
  if ch < 96 then s.run (fun c => c.channelOpenLoad ch ma) else .refused .noSuchUnit

/-- `CHANNEL_SENSE_LOST` (R283): Channel sense older than 200 ms gives SENSE_LOST. -/
def execChannelSenseLost (ch : Nat) (s : State) : Host.Outcome State Fault Refusal :=
  if ch < 96 then s.run (fun c => c.channelSenseLost ch) else .refused .noSuchUnit

/-- `VBOOST_MONITOR` (R282): Every 1 ms VBOOST is compared with VBOOST_MIN, deferring pull-ins. -/
def execVboostMonitor (v : Nat) (s : State) : Host.Outcome State Fault Refusal :=
  s.run (fun c => c.vboostMonitor v)

/-- `BOOST_NOT_READY` (R282): VBOOST low for 2 s with a pull-in waiting sets BNR and raises the event. -/
def execBoostNotReady (s : State) : Host.Outcome State Fault Refusal :=
  s.run (fun c => c.boostNotReady)

/-- `BOOST_READY_CLEAR` (R282): VBOOST restored for 100 ms clears BOOST_NOT_READY and requeues requests. -/
def execBoostReadyClear (s : State) : Host.Outcome State Fault Refusal :=
  s.run (fun c => c.boostReadyClear)

/-- `CHANNEL_MANUAL` (R291): Sets a channel's manual mode. -/
def execChannelManual (h : Hdr) (ch : Nat) (mode : Nat) (wait : Nat) (timeout : Nat) (s : State) : Host.Outcome State Fault Refusal :=
  s.run (fun c => c.channelManual h ch mode wait timeout)

/-- `CHANNEL_MANUAL_TIMEOUT` (R291): When TIMEOUT_S expires the channel returns to auto. -/
def execChannelManualTimeout (ch : Nat) (s : State) : Host.Outcome State Fault Refusal :=
  if ch < 96 then s.run (fun c => c.channelManualTimeout ch) else .refused .noSuchUnit

/-- `CHANNEL_RESET` (R291): Opens the channel, clears its faults and counters and runs one diagnostic. -/
def execChannelReset (h : Hdr) (ch : Nat) (s : State) : Host.Outcome State Fault Refusal :=
  s.run (fun c => c.channelReset h ch)

/-- `CHANNEL_FORCE_OFF` (R291): Sets force-off mask bits and opens those channels in the next micro-slot. -/
def execChannelForceOff (h : Hdr) (mask : Nat) (s : State) : Host.Outcome State Fault Refusal :=
  s.run (fun c => c.channelForceOff h mask)

/-- `CHANNEL_FORCE_RELEASE` (R291): Clears force-off mask bits at the next frame boundary. -/
def execChannelForceRelease (h : Hdr) (mask : Nat) (s : State) : Host.Outcome State Fault Refusal :=
  s.run (fun c => c.channelForceRelease h mask)

/-- `CH_CFG_WRITE` (R270): Write of CH_CFG; a change of KIND moves the channel between UNUSED and OFF. -/
def execChCfgWrite (h : Hdr) (inst : Nat) (ver : Nat) (img : Nat) (s : State) : Host.Outcome State Fault Refusal :=
  s.run (fun c => c.writeRow h (fun x c => c.chCfgWrite x inst ver img))

/-- `ENCODER_EDGE` (R297): An encoder line edge is accepted or rejected and decoded into a count. -/
def execEncoderEdge (e : Nat) (levels : Nat) (time : Nat) (s : State) : Host.Outcome State Fault Refusal :=
  if e < 24 ∧ levels < 8 then s.run (fun c => c.encoderEdge e levels time) else .refused .noSuchUnit

/-- `SINCOS_SAMPLE` (R298): Every 5 µs sin and cos are sampled and converted to counts. -/
def execSincosSample (e : Nat) (sinv : Int) (cosv : Int) (time : Nat) (s : State) : Host.Outcome State Fault Refusal :=
  if e < 24 then s.run (fun c => c.sincosSample e sinv cosv time) else .refused .noSuchUnit

/-- `INDEX_EDGE` (R299): An accepted index rising edge counts or resets the counter by INDEX_MODE. -/
def execIndexEdge (e : Nat) (time : Nat) (s : State) : Host.Outcome State Fault Refusal :=
  if e < 24 then s.run (fun c => c.indexEdge e time) else .refused .noSuchUnit

/-- `ENC_DIRECTION` (R300): Direction changes are reported at most once per 100 ms. -/
def execEncDirection (e : Nat) (s : State) : Host.Outcome State Fault Refusal :=
  if e < 24 then s.run (fun c => c.encDirection e) else .refused .noSuchUnit

/-- `SPEED_LOOP_UPDATE` (R304): Every 100 µs SPEED is updated and the speed loop sets the duty. -/
def execSpeedLoopUpdate (e : Nat) (time : Nat) (s : State) : Host.Outcome State Fault Refusal :=
  if e < 24 then s.run (fun c => c.speedLoopUpdate e time) else .refused .noSuchUnit

/-- `POSITION_LOOP_UPDATE` (R304): Every 1 ms the position loop updates v_cmd and checks position and range. -/
def execPositionLoopUpdate (a : Nat) (ma : Nat) (s : State) : Host.Outcome State Fault Refusal :=
  if a < 24 then s.run (fun c => c.positionLoopUpdate a ma) else .refused .noSuchUnit

/-- `AXIS_IN_POSITION` (R305): Error within IN_POS_COUNTS for SETTLE_MS puts the axis IDLE at rest. -/
def execAxisInPosition (a : Nat) (s : State) : Host.Outcome State Fault Refusal :=
  if a < 24 then s.run (fun c => c.axisInPosition a) else .refused .noSuchUnit

/-- `DRIFT_CORRECTION` (R305): Drift beyond DRIFT_COUNTS for 1 s requests a correction move. -/
def execDriftCorrection (a : Nat) (s : State) : Host.Outcome State Fault Refusal :=
  if a < 24 then s.run (fun c => c.driftCorrection a) else .refused .noSuchUnit

/-- `AXIS_STALL` (R310): Low speed at high duty for STALL_MS is a stall, or the end stop during homing. -/
def execAxisStall (a : Nat) (s : State) : Host.Outcome State Fault Refusal :=
  if a < 24 then s.run (fun c => c.axisStall a) else .refused .noSuchUnit

/-- `STALL_RETRY` (R310): After STALL_RETRY_S a retry move is queued. -/
def execStallRetry (a : Nat) (s : State) : Host.Outcome State Fault Refusal :=
  if a < 24 then s.run (fun c => c.stallRetry a) else .refused .noSuchUnit

/-- `AXIS_MOVE_TIMEOUT` (R311): A move beyond MOVE_TIMEOUT_S latches TIMEOUT. -/
def execAxisMoveTimeout (a : Nat) (s : State) : Host.Outcome State Fault Refusal :=
  if a < 24 then s.run (fun c => c.axisMoveTimeout a) else .refused .noSuchUnit

/-- `HOME_TIMEOUT` (R309): A homing not ended within HOME_TIMEOUT_S takes HOME_FAIL. -/
def execHomeTimeout (a : Nat) (s : State) : Host.Outcome State Fault Refusal :=
  if a < 24 then s.run (fun c => c.homeTimeout a) else .refused .noSuchUnit

/-- `AXIS_NO_CURRENT` (R311): Current below OPEN_MA for 100 ms at high duty latches NO_CURRENT. -/
def execAxisNoCurrent (a : Nat) (ma : Nat) (s : State) : Host.Outcome State Fault Refusal :=
  if a < 24 then s.run (fun c => c.axisNoCurrent a ma) else .refused .noSuchUnit

/-- `AXIS_SENSE_STALE` (R311): Stale pair sense for 200 ms while driving gives SENSE. -/
def execAxisSenseStale (a : Nat) (s : State) : Host.Outcome State Fault Refusal :=
  if a < 24 then s.run (fun c => c.axisSenseStale a) else .refused .noSuchUnit

/-- `AXIS_MANUAL` (R319): Sets an axis's manual mode. -/
def execAxisManual (h : Hdr) (a : Nat) (mode : Nat) (pos : Nat) (timeout : Nat) (s : State) : Host.Outcome State Fault Refusal :=
  s.run (fun c => c.axisManual h a mode pos timeout)

/-- `AXIS_MANUAL_TIMEOUT` (R319): When TIMEOUT_S expires the axis returns to auto. -/
def execAxisManualTimeout (a : Nat) (s : State) : Host.Outcome State Fault Refusal :=
  if a < 24 then s.run (fun c => c.axisManualTimeout a) else .refused .noSuchUnit

/-- `AXIS_HOME` (R319): Queues a homing with a result handle. -/
def execAxisHome (h : Hdr) (a : Nat) (s : State) : Host.Outcome State Fault Refusal :=
  s.run (fun c => c.axisHome h a)

/-- `AXIS_RESET` (R319): Coasts the axis, clears its faults and flags and makes it UNHOMED. -/
def execAxisReset (h : Hdr) (a : Nat) (trip : Bool) (s : State) : Host.Outcome State Fault Refusal :=
  s.run (fun c => c.axisReset h a trip)

/-- `ENC_ARM_INDEX` (R319): Sets or clears ARMED. -/
def execEncArmIndex (h : Hdr) (e : Nat) (arm : Nat) (s : State) : Host.Outcome State Fault Refusal :=
  s.run (fun c => c.encArmIndex h e arm)

/-- `ENC_PRESET` (R319): Sets the counter and homes an idle bound axis. -/
def execEncPreset (h : Hdr) (e : Nat) (pos : Nat) (s : State) : Host.Outcome State Fault Refusal :=
  s.run (fun c => c.encPreset h e pos)

/-- `AX_CFG_WRITE` (R293): Write of AX_CFG; EN pairs or unpairs the channels and the encoder. -/
def execAxCfgWrite (h : Hdr) (inst : Nat) (ver : Nat) (img : Nat) (s : State) : Host.Outcome State Fault Refusal :=
  s.run (fun c => c.writeRow h (fun x c => c.axCfgWrite x inst ver img))

/-- `ENC_CFG_WRITE` (R317): Write of ENC_CFG; clears the fault of an unbound encoder. -/
def execEncCfgWrite (h : Hdr) (inst : Nat) (ver : Nat) (img : Nat) (s : State) : Host.Outcome State Fault Refusal :=
  s.run (fun c => c.writeRow h (fun x c => c.encCfgWrite x inst ver img))

/-- `FAN_STEP` (R321): Every 10 ms each group's duty source, ramp and skip bands are applied and fan failure is judged. -/
def execFanStep (time : Nat) (s : State) : Host.Outcome State Fault Refusal :=
  s.run (fun c => c.fanStep time)

/-- `TACH_EDGE` (R324): An accepted tach falling edge updates the revolution timing. -/
def execTachEdge (p : Nat) (time : Nat) (s : State) : Host.Outcome State Fault Refusal :=
  if p < 32 then s.run (fun c => c.tachEdge p time) else .refused .noSuchUnit

/-- `FAN_WATCHDOG_EXPIRY` (R328): WD_S without an estate or operator frame, or a cause of R328, puts every group on its autonomous table. -/
def execFanWatchdogExpiry (s : State) : Host.Outcome State Fault Refusal :=
  s.run (fun c => c.fanWatchdogExpiry)

/-- `PURGE_DURATION_END` (R331): A purge set ends when DURATION_S elapses. -/
def execPurgeDurationEnd (set : Nat) (s : State) : Host.Outcome State Fault Refusal :=
  if set < 8 then s.run (fun c => c.purgeDurationEnd set) else .refused .noSuchUnit

/-- `FAN_MANUAL` (R336): Sets a fan group's manual mode. -/
def execFanManual (h : Hdr) (g : Nat) (mode : Nat) (duty : Nat) (timeout : Nat) (s : State) : Host.Outcome State Fault Refusal :=
  s.run (fun c => c.fanManual h g mode duty timeout)

/-- `FAN_MANUAL_TIMEOUT` (R336): When TIMEOUT_S expires the group returns to auto. -/
def execFanManualTimeout (g : Nat) (s : State) : Host.Outcome State Fault Refusal :=
  if g < 16 then s.run (fun c => c.fanManualTimeout g) else .refused .noSuchUnit

/-- `FANGROUP_RESET` (R336): Clears the failures and counters of a group's ports. -/
def execFangroupReset (h : Hdr) (g : Nat) (s : State) : Host.Outcome State Fault Refusal :=
  s.run (fun c => c.fangroupReset h g)

/-- `PURGE_REQUEST` (R331): Starts or ends a purge set, applied in the next micro-slot. -/
def execPurgeRequest (h : Hdr) (set : Nat) (action : Nat) (s : State) : Host.Outcome State Fault Refusal :=
  s.run (fun c => c.purgeRequest h set action)

/-- `FAN_PORT_CFG_WRITE` (R334): Write of FAN_PORT_CFG; a change of stop-set membership is a safety commit. -/
def execFanPortCfgWrite (h : Hdr) (inst : Nat) (ver : Nat) (img : Nat) (s : State) : Host.Outcome State Fault Refusal :=
  s.run (fun c => c.writeRow h (fun x c => c.fanPortCfgWrite x inst ver img))

/-- `MIN_EDGE_EXPIRY` (R297): When MIN_EDGE has passed after a rejected edge, a line that still differs from the decoder's
state is accepted then and counted. -/
def execMinEdgeExpiry (e : Nat) (time : Nat) (s : State) : Host.Outcome State Fault Refusal :=
  if e < 24 then s.run (fun c => c.minEdgeExpiry e time) else .refused .noSuchUnit

end Sys2Proof.Machine
end

