-- ==== Sys2Proof/Machine/BillingRows.lean ====
section
/-!
DEFINITION. Meanings of the rows of the metering unit.
-/

namespace Sys2Proof.Machine

/-- `METERING_TICK` (R410): At each 10 s boundary the tick is sealed, intervals are closed and settled, the band is found and
the meters are polled. -/
def execMeteringTick (fails : Bool) (s : State) : Host.Outcome State Fault Refusal :=
  s.run (fun c => c.meteringTick fails)

/-- `STATEMENT_EXPIRY` (R416): A statement still PENDING after STMT_EXPIRY_D days becomes UNSIGNED. -/
def execStatementExpiry (o : Nat) (s : State) : Host.Outcome State Fault Refusal :=
  if o < 257 then s.run (fun c => c.statementExpiry o) else .refused .noSuchUnit

/-- `EPOCH_CUT` (R417): Schedules an epoch cut. -/
def execEpochCut (h : Hdr) (o : Nat) (cut : Nat) (s : State) : Host.Outcome State Fault Refusal :=
  s.run (fun c => c.epochCut h o cut)

/-- `EPOCH_SIGN` (R417): Stores a party's signature on a statement. -/
def execEpochSign (h : Hdr) (o : Nat) (seq : Nat) (sig : Sig) (s : State) : Host.Outcome State Fault Refusal :=
  s.run (fun c => c.epochSign h o seq sig)

/-- `METER_MAP_WRITE` (R397): Write of METER_MAP; ends the meter's accumulation and clears its residues. -/
def execMeterMapWrite (h : Hdr) (inst : Nat) (ver : Nat) (img : Nat) (s : State) : Host.Outcome State Fault Refusal :=
  s.run (fun c => c.writeRow h (fun x c => c.meterMapWrite x inst ver img))

end Sys2Proof.Machine
end

