-- ==== Sys2Proof/Machine/ClockRows.lean ====
section
/-!
DEFINITION. Meanings of the rows of the time unit.
-/

namespace Sys2Proof.Machine

/-- `RTC_XTAL_FAILURE` (R426): A stopped or off-frequency RTC crystal is judged after 1 s and the count uses REF. -/
def execRtcXtalFailure (stopped : Bool) (s : State) : Host.Outcome State Fault Refusal :=
  s.run (fun c => c.rtcXtalFailure stopped)

/-- `RTC_XTAL_RESTORE` (R426): The count returns to the crystal after 10 s of agreement with REF. -/
def execRtcXtalRestore (s : State) : Host.Outcome State Fault Refusal :=
  s.run (fun c => c.rtcXtalRestore)

/-- `SELECTOR_EVALUATE` (R439): Every 10 ms the time reference selector judges availability and moves state. -/
def execSelectorEvaluate (spread0 : Nat) (spread1 : Nat) (s : State) : Host.Outcome State Fault Refusal :=
  s.run (fun c => c.selectorEvaluate spread0 spread1)

/-- `REFERENCE_QUALIFIED` (R439): A candidate qualified for 8 s, 2 s or 60 s becomes the active reference. -/
def execReferenceQualified (s : State) : Host.Outcome State Fault Refusal :=
  s.run (fun c => c.referenceQualified)

/-- `HOLDOVER_EXPIRY` (R427): LOCAL active beyond HOLDOVER_S since the last lock lowers TRUST to FREE. -/
def execHoldoverExpiry (s : State) : Host.Outcome State Fault Refusal :=
  s.run (fun c => c.holdoverExpiry)

/-- `PTP_ANNOUNCE` (R435): An Announce message updates master selection. -/
def execPtpAnnounce (p : Nat) (msg : Announce) (good : Bool) (s : State) : Host.Outcome State Fault Refusal :=
  if p < 2 then s.run (fun c => c.ptpAnnounce p msg good) else .refused .noSuchUnit

/-- `ANNOUNCE_TIMEOUT` (R434): No Announce within the receipt timeout makes the PTP reference unavailable. -/
def execAnnounceTimeout (p : Nat) (s : State) : Host.Outcome State Fault Refusal :=
  if p < 2 then s.run (fun c => c.announceTimeout p) else .refused .noSuchUnit

/-- `PTP_SYNC` (R436): A timestamped Sync message yields an offset. -/
def execPtpSync (p : Nat) (msg : PtpMsg) (twoStep : Bool) (origin : Int) (corr : Int) (s : State) : Host.Outcome State Fault Refusal :=
  if p < 2 then s.run (fun c => c.ptpSync p msg twoStep origin corr) else .refused .noSuchUnit

/-- `PTP_FOLLOW_UP` (R436): A Follow_Up gives the precise origin time of a two-step Sync. -/
def execPtpFollowUp (p : Nat) (msg : PtpMsg) (origin : Int) (corr : Int) (s : State) : Host.Outcome State Fault Refusal :=
  if p < 2 then s.run (fun c => c.ptpFollowUp p msg origin corr) else .refused .noSuchUnit

/-- `PTP_DELAY_RESP` (R436): A Delay_Resp completes the mean path delay measurement. -/
def execPtpDelayResp (p : Nat) (msg : PtpMsg) (received : Int) (corr : Int) (s : State) : Host.Outcome State Fault Refusal :=
  if p < 2 then s.run (fun c => c.ptpDelayResp p msg received corr) else .refused .noSuchUnit

/-- `DELAY_REQ_SEND` (R435): A Delay_Req is sent at the master's logMinDelayReqInterval. -/
def execDelayReqSend (p : Nat) (fine : Nat) (stamped : Bool) (s : State) : Host.Outcome State Fault Refusal :=
  if p < 2 then s.run (fun c => c.delayReqSend p fine stamped) else .refused .noSuchUnit

/-- `PPS_EDGE` (R438): A PPS_IN rising edge is timestamped and gives ε. -/
def execPpsEdge (fine : Nat) (s : State) : Host.Outcome State Fault Refusal :=
  s.run (fun c => c.ppsEdge fine)

/-- `RTC_FORWARD_STEP` (R431): At the reference's next whole second the RTC seconds field is stepped forward. -/
def execRtcForwardStep (s : State) : Host.Outcome State Fault Refusal :=
  s.run (fun c => c.rtcForwardStep)

/-- `SERVO_PHASE_EXPIRY` (R538): tc seconds without a new ε drop the phase term from the servo rate. -/
def execServoPhaseExpiry (s : State) : Host.Outcome State Fault Refusal :=
  s.run (fun c => c.servoPhaseExpiry)

/-- `DAYLIGHT_CHANGE` (R428): The time unit applies a daylight change at its loaded instant. -/
def execDaylightChange (s : State) : Host.Outcome State Fault Refusal :=
  s.run (fun c => c.daylightChange)

/-- `LOCAL_TIME_EDGE` (R430): Local time runs continuously past a new minute, quarter-hour or day edge. -/
def execLocalTimeEdge (s : State) : Host.Outcome State Fault Refusal :=
  s.run (fun c => c.localTimeEdge)

/-- `TIME_CAPTURE` (R447): Latches the RTC, fine time, offsets and selector state, and returns the calendar. -/
def execTimeCapture (h : Hdr) (fine : Nat) (s : State) : Host.Outcome State Fault Refusal :=
  s.run (fun c => c.timeCapture h fine)

/-- `TIME_SET` (R433): Applies a civil second as ε and sets RTC_VALID. -/
def execTimeSet (h : Hdr) (seconds : Nat) (s : State) : Host.Outcome State Fault Refusal :=
  s.run (fun c => c.timeSet h seconds)

/-- `TIME_REF_CFG_WRITE` (R440): Write of TIME_REF_CFG; changes reference availability and priority from the next evaluation. -/
def execTimeRefCfgWrite (h : Hdr) (inst : Nat) (ver : Nat) (img : Nat) (s : State) : Host.Outcome State Fault Refusal :=
  s.run (fun c => c.writeRow h (fun x c => c.timeRefCfgWrite x inst ver img))

/-- `PTP_CFG_WRITE` (R445): Write of PTP_CFG; restarts the port's master selection. -/
def execPtpCfgWrite (h : Hdr) (inst : Nat) (ver : Nat) (img : Nat) (s : State) : Host.Outcome State Fault Refusal :=
  s.run (fun c => c.writeRow h (fun x c => c.ptpCfgWrite x inst ver img))

/-- `TIME_ZONE_WRITE` (R428): Write of TIME_ZONE; the Keeper reloads the daylight instants. -/
def execTimeZoneWrite (h : Hdr) (inst : Nat) (ver : Nat) (img : Nat) (s : State) : Host.Outcome State Fault Refusal :=
  s.run (fun c => c.writeRow h (fun x c => c.timeZoneWrite x inst ver img))

/-- `SLEW_END` (R431): A running slew ends when its remaining error reaches 1 ms, the slew rate returns to 0 and the servo takes over. -/
def execSlewEnd (s : State) : Host.Outcome State Fault Refusal :=
  s.run (fun c => c.slewEnd)

end Sys2Proof.Machine
end

