-- ==== Sys2Proof/Machine/HostRows.lean ====
section
/-!
DEFINITION. Meanings of the rows of the host interface: the session commands, records, handles, endpoints and transports.
-/

namespace Sys2Proof.Machine

/-- `PING` (R62): Echo command that replies with the tier, the RTC time and the echo data. -/
def execPing (h : Hdr) (echo : Bytes) (s : State) : Host.Outcome State Fault Refusal :=
  s.run (fun c => c.ping h echo)

/-- `SESSION_OPEN` (R93): Spends the challenge, checks kind, challenge, credential, keys, signature, tier and limits, then
opens a session and derives its keys. -/
def execSessionOpen (h : Hdr) (kind : Nat) (index : Nat) (challenge : Nat) (nonce : Nat) (eph : Nat) (sig : Sig) (newKey : Nat) (mac : Sig) (s : State) : Host.Outcome State Fault Refusal :=
  s.run (fun c => c.sessionOpen h ⟨kind, index, challenge, nonce, eph, sig, newKey, mac⟩)

/-- `SESSION_CLOSE` (R50): Closes the session in the ordered steps of R50 and zeroises its keys. -/
def execSessionClose (h : Hdr) (s : State) : Host.Outcome State Fault Refusal :=
  s.run (fun c => c.sessionClose h)

/-- `SESSION_IDLE_TIMEOUT` (R50): A session with no authenticated frame for IDLE_TIMEOUT_S closes. -/
def execSessionIdleTimeout (si : Nat) (s : State) : Host.Outcome State Fault Refusal :=
  if si < 128 then s.run (fun c => c.sessionIdleTimeout si) else .refused .noSuchUnit

/-- `SUBSCRIBE` (R62): Replaces the session's subscription and queues the held events that the session may receive. -/
def execSubscribe (h : Hdr) (mask : Nat) (minSev : Nat) (s : State) : Host.Outcome State Fault Refusal :=
  s.run (fun c => c.subscribe h mask minSev)

/-- `UNSUBSCRIBE` (R62): Deletes the subscription and the queued events and sets the lost count to zero. -/
def execUnsubscribe (h : Hdr) (s : State) : Host.Outcome State Fault Refusal :=
  s.run (fun c => c.unsubscribe h)

/-- `GET_RECORD` (R62): Returns part of a record with its VERSION. -/
def execGetRecord (h : Hdr) (rec : Nat) (inst : Nat) (offset : Nat) (maxLen : Nat) (s : State) : Host.Outcome State Fault Refusal :=
  s.run (fun c => c.getRecord h rec inst offset maxLen)

/-- `SET_RECORD` (R64): Writes a whole record image atomically, with a version check, for records that have no row of their own. -/
def execSetRecord (h : Hdr) (rec : Nat) (inst : Nat) (ver : Nat) (img : Nat) (s : State) : Host.Outcome State Fault Refusal :=
  s.run (fun c => c.setRecordRow h rec inst ver img)

/-- `RESULT_GET` (R60): Returns PENDING, or the fixed result of a handle, and counts the read. -/
def execResultGet (h : Hdr) (handle : Nat) (offset : Nat) (maxLen : Nat) (s : State) : Host.Outcome State Fault Refusal :=
  s.run (fun c => c.resultGet h handle offset maxLen)

/-- `RESULT_RELEASE` (R61): Frees a result handle and discards any unfinished result. -/
def execResultRelease (h : Hdr) (handle : Nat) (s : State) : Host.Outcome State Fault Refusal :=
  s.run (fun c => c.resultRelease h handle)

/-- `ENDPOINT_RESET` (R74): Stops an endpoint, closes its sessions, empties its queues, frees its slots, clears its counters
and reloads its configuration. -/
def execEndpointReset (h : Hdr) (e : Nat) (s : State) : Host.Outcome State Fault Refusal :=
  s.run (fun c => c.endpointReset h e)

/-- `ENDPOINT_CFG_WRITE` (R73): Write of ENDPOINT_CFG; a change of EN, PORT, VLAN_ID, an address or IPVx_EN resets the endpoint. -/
def execEndpointCfgWrite (h : Hdr) (inst : Nat) (ver : Nat) (img : Nat) (s : State) : Host.Outcome State Fault Refusal :=
  s.run (fun c => c.writeRow h (fun x c => c.endpointCfgWrite x inst ver img))

/-- `FRAGMENT_STORE` (R57): A non-final fragment of a class 2 or 3 request is checked and stored, and holds its slot. -/
def execFragmentStore (h : Hdr) (opcode : Nat) (s : State) : Host.Outcome State Fault Refusal :=
  s.run (fun c => c.fragmentStore h opcode)

/-- `FRAGMENT_TIMEOUT` (R56): A request with more than 1000 ms between fragments is abandoned and answered with BAD_STATE. -/
def execFragmentTimeout (si : Nat) (tag : Nat) (s : State) : Host.Outcome State Fault Refusal :=
  if si < 128 then s.run (fun c => c.fragmentTimeout si tag) else .refused .noSuchUnit

/-- `SPI_WRITE` (R69): An SPI WRITE operation delivers one frame into an inbound buffer, or is discarded and counted. -/
def execSpiWrite (whole : Bool) (s : State) : Host.Outcome State Fault Refusal :=
  s.run (fun c => c.spiWrite whole)

/-- `SPI_READ` (R69): An SPI READ operation clocks out the next outbound frame, or 0xFF when nothing is queued. -/
def execSpiRead (whole : Bool) (s : State) : Host.Outcome State Fault Refusal :=
  s.run (fun c => c.spiRead whole)

/-- `SPI_STATUS` (R68): An SPI STATUS operation returns the queue counts and clears the discard and framing flags. -/
def execSpiStatus (s : State) : Host.Outcome State Fault Refusal :=
  s.run (fun c => c.spiStatus)

/-- `ARP_REQUEST` (R71): An ARP request for the endpoint's IPv4 address is answered. -/
def execArpRequest (e : Nat) (target : Nat) (asker : Nat) (s : State) : Host.Outcome State Fault Refusal :=
  if e < 18 then s.run (fun c => c.arpRequest e target asker) else .refused .noSuchUnit

/-- `NEIGHBOUR_SOLICITATION` (R71): An IPv6 Neighbour Solicitation for the endpoint's address or link-local address is answered. -/
def execNeighbourSolicitation (e : Nat) (target : Nat) (asker : Nat) (s : State) : Host.Outcome State Fault Refusal :=
  if e < 18 then s.run (fun c => c.neighbourSolicitation e target asker) else .refused .noSuchUnit

/-- `EVENT_TRANSMIT` (R66): A queued event is sent oldest first once the transport has room. -/
def execEventTransmit (e : Nat) (si : Nat) (s : State) : Host.Outcome State Fault Refusal :=
  if e < 18 ∧ si < 128 then s.run (fun c => c.eventTransmit e si) else .refused .noSuchUnit

/-- `HELD_EVENT_RELEASE` (R539): A held event is released from its buffer 600 s after it was raised, counting only time with a subscription. -/
def execHeldEventRelease (s : State) : Host.Outcome State Fault Refusal :=
  s.run (fun c => c.heldEventRelease)

/-- `FRAME_REFUSAL` (R75): A frame arriving on any endpoint is refused at steps 1 to 7 of Table 2.10 (framing, level,
direction, authentication, sequence, reserved bits or undefined opcode), and is either discarded and counted or answered
through the refusal queue. -/
def execFrameRefusal (h : Hdr) (opcode : Nat) (fault : Nat) (s : State) : Host.Outcome State Fault Refusal :=
  if fault < 4 then s.run (fun c => c.frameRefusal h opcode fault) else .refused .noSuchUnit

/-- `ETHERNET_LINK_CHANGE` (R31): An Ethernet port's link goes down or comes up, which stops or starts its receive clock,
changes the availability of PTP on that port and changes whether Full service can be held. -/
def execEthernetLinkChange (p : Nat) (isUp : Bool) (s : State) : Host.Outcome State Fault Refusal :=
  if p < 2 then s.run (fun c => c.ethernetLinkChange p isUp) else .refused .noSuchUnit

end Sys2Proof.Machine
end

