-- ==== Sys2Proof/Machine/InputsRows.lean ====
section
/-!
DEFINITION. Meanings of the rows of the converter arrays, the inputs, the keypads, the feeder and the meters.
-/

namespace Sys2Proof.Machine

/-- `ARRAY_REGULAR_TRIGGER` (R343): A regular trigger starts array A's regular sequence, or counts an overrun. -/
def execArrayRegularTrigger (s : State) : Host.Outcome State Fault Refusal :=
  s.run (fun c => c.arrayRegularTrigger)

/-- `ARRAY_INJECTED_TRIGGER` (R344): An injected trigger interrupts the regular sequence. -/
def execArrayInjectedTrigger (a : Nat) (s : State) : Host.Outcome State Fault Refusal :=
  if a < 2 then s.run (fun c => c.arrayInjectedTrigger a) else .refused .noSuchUnit

/-- `CONVERSION_COMPLETE` (R347): A corrected result is written to the array's result queue. -/
def execConversionComplete (a : Nat) (kind : Nat) (idx : Nat) (slice : Nat) (raws : List Nat) (s : State) : Host.Outcome State Fault Refusal :=
  if a < 2 ∧ kind < 2 then s.run (fun c => c.conversionComplete a kind idx slice raws) else .refused .noSuchUnit

/-- `ARRAY_SEQUENCE_END` (R348): At the end of an array A sequence the PL results are compared and the array may power down. -/
def execArraySequenceEnd (a : Nat) (s : State) : Host.Outcome State Fault Refusal :=
  if a < 2 then s.run (fun c => if a = 1 then (c.arraySequenceEnd 1).senseBack.axSenseBack else c.arraySequenceEnd a) else .refused .noSuchUnit

/-- `SELF_CALIBRATION_START` (R341): A requested self-calibration starts once the running sequence, or the array B watches, end. -/
def execSelfCalibrationStart (a : Nat) (s : State) : Host.Outcome State Fault Refusal :=
  if a < 2 then s.run (fun c => c.selfCalStart a) else .refused .noSuchUnit

/-- `SELF_CALIBRATION_COMPLETE` (R341): After 3.2 ms the factors are applied or CAL_BAD is set. -/
def execSelfCalibrationComplete (a : Nat) (factors : List (Int × Int × Int)) (late : Bool) (s : State) : Host.Outcome State Fault Refusal :=
  if a < 2 then s.run (fun c => c.selfCalComplete a factors late) else .refused .noSuchUnit

/-- `AIN_PROCESS` (R349): A drained array A result is converted to an engineering value, range-checked and filtered. -/
def execAinProcess (s : State) : Host.Outcome State Fault Refusal :=
  s.run (fun c => c.ainProcess)

/-- `AIN_PUBLISH` (R350): At each PUB_MS boundary the input publishes its value into its bindings. -/
def execAinPublish (n : Nat) (s : State) : Host.Outcome State Fault Refusal :=
  if n < 64 then s.run (fun c => c.ainPublish n) else .refused .noSuchUnit

/-- `PRS_SAMPLE` (R351): Each 1 ms presence sample advances the debounce and the stretch. -/
def execPrsSample (closed : Nat) (s : State) : Host.Outcome State Fault Refusal :=
  s.run (fun c => c.prsSample closed)

/-- `PRESENCE_REFRESH` (R351): Every 1 s each presence contact's state is written into its bindings. -/
def execPresenceRefresh (s : State) : Host.Outcome State Fault Refusal :=
  s.run (fun c => c.presenceRefresh)

/-- `KEYPAD_SCAN` (R352): Every 2 ms the ladder lines are sampled and stable readings move the line states. -/
def execKeypadScan (ratios : List Nat) (s : State) : Host.Outcome State Fault Refusal :=
  s.run (fun c => c.keypadScan ratios)

/-- `KEY_STUCK` (R353): A key held for STUCK_S is reported stuck. -/
def execKeyStuck (kp : Nat) (l : Nat) (s : State) : Host.Outcome State Fault Refusal :=
  if kp < 24 ∧ l < 2 then s.run (fun c => c.keyStuck kp l) else .refused .noSuchUnit

/-- `NUDGE_HOLD_EXPIRY` (R354): The offset returns to 0 after NUDGE_HOLD_MIN without a press. -/
def execNudgeHoldExpiry (kp : Nat) (s : State) : Host.Outcome State Fault Refusal :=
  if kp < 24 then s.run (fun c => c.nudgeHoldExpiry kp) else .refused .noSuchUnit

/-- `KEYPAD_BINDING_REFRESH` (R355): Every 1 s each bound zone receives its limited offset. -/
def execKeypadBindingRefresh (s : State) : Host.Outcome State Fault Refusal :=
  s.run (fun c => c.keypadBindingRefresh)

/-- `WARDEN_SCAN` (R356): Every 8 ms the Firebreak scans the warden matrix and judges keys on three equal scans. -/
def execWardenScan (keys : Nat) (s : State) : Host.Outcome State Fault Refusal :=
  s.run (fun c => c.wardenScan keys)

/-- `KEY_LOG_MOVE` (R357): The Keeper moves each queued key report into its source's log within 10 ms. -/
def execKeyLogMove (s : State) : Host.Outcome State Fault Refusal :=
  s.run (fun c => c.keyLogMove)

/-- `FEEDER_REPORT` (R358): Judges feeder entries and accepts values into the sources. -/
def execFeederReport (h : Hdr) (entries : List (Nat × Nat × Nat)) (s : State) : Host.Outcome State Fault Refusal :=
  s.run (fun c => c.feederReport h (entries.map (fun q => ⟨q.1, q.2.1, q.2.2⟩)))

/-- `METER_POLL` (R361): At each metering tick the enabled meters are polled in turn. -/
def execMeterPoll (s : State) : Host.Outcome State Fault Refusal :=
  s.run (fun c => c.meterPoll)

/-- `MODBUS_RESPONSE` (R360): A received Modbus response is judged good or failed and its reading is processed. -/
def execModbusResponse (addr : Nat) (func : Nat) (crcOk : Bool) (regs : List Nat) (s : State) : Host.Outcome State Fault Refusal :=
  s.run (fun c => c.modbusResponse addr func crcOk regs)

/-- `MODBUS_TIMEOUT` (R360): No good response within TIMEOUT_MS is a failed attempt that may be retried. -/
def execModbusTimeout (s : State) : Host.Outcome State Fault Refusal :=
  s.run (fun c => c.modbusTimeout)

/-- `ARRAY_SELF_CAL` (R368): Runs a self-calibration and replies with RESULT. -/
def execArraySelfCal (h : Hdr) (a : Nat) (s : State) : Host.Outcome State Fault Refusal :=
  s.run (fun c => c.arraySelfCal h a)

/-- `ARRAY_RESET` (R368): Stops one array, empties it, clears its counters and latch, and recalibrates. -/
def execArrayReset (h : Hdr) (a : Nat) (s : State) : Host.Outcome State Fault Refusal :=
  s.run (fun c => c.arrayReset h a)

/-- `KEY_LOG_READ` (R368): Returns log entries from FROM_SEQ. -/
def execKeyLogRead (h : Hdr) (src : Nat) (from_ : Nat) (s : State) : Host.Outcome State Fault Refusal :=
  s.run (fun c => c.keyLogRead h src from_)

/-- `FEED_SRC_WRITE` (R338): Write of FEED_SRC; clears FEED_STATUS, and an owner change voids the bindings. -/
def execFeedSrcWrite (h : Hdr) (inst : Nat) (ver : Nat) (img : Nat) (s : State) : Host.Outcome State Fault Refusal :=
  s.run (fun c => c.writeRow h (fun x c => c.feedSrcWrite x inst ver img))

/-- `METER_CFG_WRITE` (R361): Write of METER_CFG; clears METER_STATUS and sets STATE. -/
def execMeterCfgWrite (h : Hdr) (inst : Nat) (ver : Nat) (img : Nat) (s : State) : Host.Outcome State Fault Refusal :=
  s.run (fun c => c.writeRow h (fun x c => c.meterCfgWrite x inst ver img))

end Sys2Proof.Machine
end

