-- ==== Sys2Proof/Machine/LearningRows.lean ====
section
/-!
DEFINITION. Meanings of the rows of the models, the relay tests, the planner, the fight arbiter and the learning archive.
-/

namespace Sys2Proof.Machine

/-- `MODEL_HELD_TIMEOUT` (R205): 24 h in HELD without a break makes the model INVALID. -/
def execModelHeldTimeout (z : Nat) (s : State) : Host.Outcome State Fault Refusal :=
  if z < 1024 then s.run (fun c => c.modelHeldTimeout z) else .refused .noSuchUnit

/-- `NEIGHBOUR_DROP` (R201): A neighbour not fresh for 600 s is dropped; one fresh for 600 s rejoins. -/
def execNeighbourDrop (z : Nat) (n : Nat) (s : State) : Host.Outcome State Fault Refusal :=
  if z < 1024 ∧ n < 8 then s.run (fun c => c.neighbourDrop z n) else .refused .noSuchUnit

/-- `AUTO_TUNE_START` (R207): A relay test starts by itself when its conditions hold at a tick. -/
def execAutoTuneStart (z : Nat) (s : State) : Host.Outcome State Fault Refusal :=
  if z < 1024 then s.run (fun c => c.autoTuneStart z) else .refused .noSuchUnit

/-- `RELAY_TEST_END` (R209): A relay test ends without results on a cause of Table 6.7, including timeout and the NO_ATUN count. -/
def execRelayTestEnd (z : Nat) (s : State) : Host.Outcome State Fault Refusal :=
  if z < 1024 then s.run (fun c => c.relayTestEnd z) else .refused .noSuchUnit

/-- `PLAN_ROUND_START` (R213): At an RTC quarter-hour the planner captures its inputs and starts a round. -/
def execPlanRoundStart (s : State) : Host.Outcome State Fault Refusal :=
  s.run (fun c => c.planRoundStart)

/-- `PLAN_ITERATION_DEADLINE` (R220): At each iteration deadline the zones exchange their trajectories. -/
def execPlanIterationDeadline (t : Nat) (doneMask : Nat) (s : State) : Host.Outcome State Fault Refusal :=
  if t < 4 then s.run (fun c => c.planIterationDeadline t doneMask) else .refused .noSuchUnit

/-- `PLAN_LATE_DEADLINE` (R213): At Q + 720 s zones that have not finished are marked late. -/
def execPlanLateDeadline (t : Nat) (s : State) : Host.Outcome State Fault Refusal :=
  if t < 4 then s.run (fun c => c.planLateDeadline t) else .refused .noSuchUnit

/-- `PLAN_COMMIT` (R213): At Q + 900 s the new plans are committed between windows. -/
def execPlanCommit (t : Nat) (s : State) : Host.Outcome State Fault Refusal :=
  if t < 4 then s.run (fun c => c.planCommit t) else .refused .noSuchUnit

/-- `PLAN_EXPIRY` (R222): A plan becomes invalid at the end of its last step. -/
def execPlanExpiry (z : Nat) (s : State) : Host.Outcome State Fault Refusal :=
  if z < 1024 then s.run (fun c => c.planExpiry z) else .refused .noSuchUnit

/-- `FIGHT_EVALUATE` (R224): Every 60 s the arbiter judges the watched pairs and starts episodes. -/
def execFightEvaluate (s : State) : Host.Outcome State Fault Refusal :=
  s.run (fun c => c.fightEvaluate)

/-- `FIGHT_OFFSET_STEP` (R225): Every 300 s the arbiter offsets widen or return toward zero. -/
def execFightOffsetStep (z : Nat) (y : Nat) (s : State) : Host.Outcome State Fault Refusal :=
  if z < 1024 ∧ y < 1024 then s.run (fun c => c.fightOffsetStep z y) else .refused .noSuchUnit

/-- `LEARNING_ARCHIVE_WRITE` (R229): Every 6 h in Full service the Keeper writes the learning archive. -/
def execLearningArchiveWrite (s : State) : Host.Outcome State Fault Refusal :=
  s.run (fun c => c.learningArchiveWrite)

/-- `MODEL_RESET` (R239): Resets the model, tuning, profile or plan of a zone. -/
def execModelReset (h : Hdr) (z : Nat) (what : Nat) (s : State) : Host.Outcome State Fault Refusal :=
  s.run (fun c => c.modelReset h z what)

/-- `TUNE_START` (R239): Starts a relay test at the zone's next tick. -/
def execTuneStart (h : Hdr) (z : Nat) (fam : Nat) (s : State) : Host.Outcome State Fault Refusal :=
  s.run (fun c => c.tuneStart h z fam)

/-- `TUNE_ABORT` (R239): Ends the running relay test with ABORT. -/
def execTuneAbort (h : Hdr) (z : Nat) (s : State) : Host.Outcome State Fault Refusal :=
  s.run (fun c => c.tuneAbort h z)

/-- `MODEL_CFG_WRITE` (R203): Write of MODEL_CFG; changes to ports or regressors reset the estimate. -/
def execModelCfgWrite (h : Hdr) (inst : Nat) (ver : Nat) (img : Nat) (s : State) : Host.Outcome State Fault Refusal :=
  s.run (fun c => c.writeRow h (fun x c => c.modelCfgWrite x inst ver img))

end Sys2Proof.Machine
end

