-- ==== Sys2Proof/Machine/SafetyRows.lean ====
section
/-!
DEFINITION. Meanings of the rows of the Firebreak.
-/

namespace Sys2Proof.Machine

/-- `FBK_CLOCK_LOSS` (R371): FBK stopped or below 6 MHz asserts every forced-off line and stop switch and opens every safety output. -/
def execFbkClockLoss (s : State) : Host.Outcome State Fault Refusal :=
  s.run (fun c => c.fbkClockLoss)

/-- `FBK_CLOCK_RETURN` (R371): FBK in range for 1 ms starts a fresh evaluation of the inputs. -/
def execFbkClockReturn (s : State) : Host.Outcome State Fault Refusal :=
  s.run (fun c => c.fbkClockReturn)

/-- `FRESH_EVALUATION_END` (R540): Every enabled input has a filtered class and the functions are judged afresh. -/
def execFreshEvaluationEnd (s : State) : Host.Outcome State Fault Refusal :=
  s.run (fun c => c.freshEvaluationEnd)

/-- `INPUT_FILTER_EXPIRY` (R374): A class held for 1520 FBK cycles becomes the filtered class and may change function states. -/
def execInputFilterExpiry (n : Nat) (ohms : Nat) (s : State) : Host.Outcome State Fault Refusal :=
  if n < 4 then s.run (fun c => c.inputFilterExpiry n ohms) else .refused .noSuchUnit

/-- `LINE_FAULT_EXPIRY` (R374): A SHORT, OPEN or INVALID class held for LINE_FAULT_MS becomes a line fault. -/
def execLineFaultExpiry (n : Nat) (ohms : Nat) (s : State) : Host.Outcome State Fault Refusal :=
  if n < 4 then s.run (fun c => c.lineFaultExpiry n ohms) else .refused .noSuchUnit

/-- `DISCREPANCY_EXPIRY` (R375): Fire inputs disagreeing for DISC_MS set DISC. -/
def execDiscrepancyExpiry (s : State) : Host.Outcome State Fault Refusal :=
  s.run (fun c => c.discrepancyExpiry)

/-- `SAFETY_RESET` (R380): A RESET key held for RESET_HOLD_MS clears trips and latches and retests the faulted outputs. -/
def execSafetyReset (key : Nat) (okMask : Nat) (s : State) : Host.Outcome State Fault Refusal :=
  if key < 64 then s.run (fun c => c.safetyReset key okMask) else .refused .noSuchUnit

/-- `WARDEN_KEY_STUCK` (R379): A warden key held for WM_STUCK_S is stuck and its function is ignored. -/
def execWardenKeyStuck (key : Nat) (s : State) : Host.Outcome State Fault Refusal :=
  if key < 64 then s.run (fun c => c.wardenKeyStuck key) else .refused .noSuchUnit

/-- `HEARTBEAT_WRITE` (R382): A heartbeat write from the Keeper or the Gatehouse keeps the heartbeat live. -/
def execHeartbeatWrite (gatehouse : Bool) (s : State) : Host.Outcome State Fault Refusal :=
  s.run (fun c => c.heartbeatWrite gatehouse)

/-- `HEARTBEAT_TIMEOUT` (R382): No heartbeat within HB_TIMEOUT_MS de-energises the outputs. -/
def execHeartbeatTimeout (s : State) : Host.Outcome State Fault Refusal :=
  s.run (fun c => c.heartbeatTimeout)

/-- `SO_ENERGISE` (R384): Energisable outputs close in ascending number, 10 ms apart. -/
def execSoEnergise (s : State) : Host.Outcome State Fault Refusal :=
  s.run (fun c => c.soEnergise)

/-- `OFF_PULSE_TEST` (R385): Every OP_PERIOD_MS one switch of an energised output is opened for OP_LEN_US and judged. -/
def execOffPulseTest (k : Nat) (pass : Bool) (s : State) : Host.Outcome State Fault Refusal :=
  if k < 16 then s.run (fun c => c.offPulseTest k pass) else .refused .noSuchUnit

/-- `SO_READBACK_FAULT` (R386): Readback finds OFF_HIGH, OVERCURRENT or OPEN_LOAD after its dwell and records the fault. -/
def execSoReadbackFault (k : Nat) (kind : Nat) (ma : Nat) (s : State) : Host.Outcome State Fault Refusal :=
  if k < 16 then s.run (fun c => c.soReadback k kind ma) else .refused .noSuchUnit

/-- `VSAFE_CHANGE` (R387): VSAFE becomes low or normal after its dwell. -/
def execVsafeChange (low : Bool) (dv : Nat) (s : State) : Host.Outcome State Fault Refusal :=
  s.run (fun c => c.vsafeChange low dv)

/-- `SAFETY_CONFIG_COMMIT` (R392): A write to a safety configuration record writes both copies, applies them and advances CFG_SEQ. -/
def execSafetyConfigCommit (h : Hdr) (which : Nat) (inst : Nat) (ver : Nat) (img : Nat) (s : State) : Host.Outcome State Fault Refusal :=
  if which < 5 then s.run (fun c => c.writeRow h (fun x c => c.writeSafety x (safetyRecord which) inst ver img)) else .refused .noSuchUnit

/-- `SO_REQUEST` (R395): Sets or clears the requests of COMMAND safety outputs. -/
def execSoRequest (h : Hdr) (set : Nat) (clear : Nat) (s : State) : Host.Outcome State Fault Refusal :=
  s.run (fun c => c.soRequest h set clear)

end Sys2Proof.Machine
end

