-- ==== Sys2Proof/Machine/SecurityRows.lean ====
section
/-!
DEFINITION. Meanings of the rows of the principals, the plots, privacy and the lifecycle.
-/

namespace Sys2Proof.Machine

/-- `GET_IDENTITY` (R90): Returns the signed identity, a certificate and a fresh challenge bound to the endpoint. -/
def execGetIdentity (h : Hdr) (cert : Nat) (s : State) : Host.Outcome State Fault Refusal :=
  s.run (fun c => c.getIdentity h cert)

/-- `ATTEST` (R91): Returns the signed attestation report for the host's nonce. -/
def execAttest (h : Hdr) (nonce : Nat) (s : State) : Host.Outcome State Fault Refusal :=
  s.run (fun c => c.attest h nonce)

/-- `CREDENTIAL_WRITE` (R82): Write of a CRED_ESTATE, CRED_OPERATOR or CRED_FEEDER record, which may revoke sessions. -/
def execCredentialWrite (h : Hdr) (k : Nat) (inst : Nat) (ver : Nat) (img : Nat) (s : State) : Host.Outcome State Fault Refusal :=
  if k < 3 then s.run (fun c => c.writeRow h (fun x c => c.credentialWrite x k inst ver img)) else .refused .noSuchUnit

/-- `PLOT_CREATE` (R98): Moves a slot to AWAITING and returns a new enrolment code and its expiry. -/
def execPlotCreate (h : Hdr) (p : Nat) (lifetime : Nat) (s : State) : Host.Outcome State Fault Refusal :=
  s.run (fun c => c.plotCreate h p lifetime)

/-- `ENROL_CODE_EXPIRY` (R97): The slot moves from AWAITING to CODE_DEAD when CODE_EXPIRY is reached. -/
def execEnrolCodeExpiry (p : Nat) (s : State) : Host.Outcome State Fault Refusal :=
  if p < 256 then s.run (fun c => c.enrolCodeExpiry p) else .refused .noSuchUnit

/-- `PLOT_EVICT` (R102): Accepts the eviction of a plot and returns a result handle. -/
def execPlotEvict (h : Hdr) (p : Nat) (s : State) : Host.Outcome State Fault Refusal :=
  s.run (fun c => c.plotEvict h p)

/-- `PLOT_WIPE` (R102): Wipe sequence after acceptance: new salt, sessions closed, epoch closed, private data zeroed, store made, slot EMPTY. -/
def execPlotWipe (p : Nat) (s : State) : Host.Outcome State Fault Refusal :=
  if p < 256 then s.run (fun c => c.plotWipe p) else .refused .noSuchUnit

/-- `PLOT_KEY_ROTATE` (R101): Replaces the plot key and revokes the plot's other sessions. -/
def execPlotKeyRotate (h : Hdr) (key : Nat) (sig : Sig) (s : State) : Host.Outcome State Fault Refusal :=
  s.run (fun c => c.plotKeyRotate h key sig)

/-- `PRIVACY_CFG_WRITE` (R108): Sets K_MIN and suspends occupancy groups that are smaller than the new value. -/
def execPrivacyCfgWrite (h : Hdr) (inst : Nat) (ver : Nat) (img : Nat) (s : State) : Host.Outcome State Fault Refusal :=
  s.run (fun c => c.writeRow h (fun x c => c.privacyCfgWrite x inst ver img))

/-- `OCC_GROUP_WRITE` (R109): Changes an occupancy group's membership, which takes effect at the next quarter-hour. -/
def execOccGroupWrite (h : Hdr) (inst : Nat) (ver : Nat) (img : Nat) (s : State) : Host.Outcome State Fault Refusal :=
  s.run (fun c => c.writeRow h (fun x c => c.occGroupWrite x inst ver img))

/-- `QUARTER_HOUR_AGGREGATE` (R105): At each RTC quarter-hour the non-owner means and the OCC_AGG entries are formed and published. -/
def execQuarterHourAggregate (s : State) : Host.Outcome State Fault Refusal :=
  s.run (fun c => c.quarterHourAggregate)

/-- `SERVICE_PIN_CHANGE` (R113): The debounced SERVICE_EN or SAFE_KEY changes state. -/
def execServicePinChange (pins : Nat) (s : State) : Host.Outcome State Fault Refusal :=
  if pins < 4 then s.run (fun c => c.servicePinChange pins) else .refused .noSuchUnit

/-- `DEBUG_CHALLENGE` (R117): Issues a 10 min debug challenge. -/
def execDebugChallenge (h : Hdr) (s : State) : Host.Outcome State Fault Refusal :=
  s.run (fun c => c.debugChallenge h)

/-- `DEBUG_UNLOCK` (R118): Checks the vendor token and accepts the unlock. -/
def execDebugUnlock (h : Hdr) (serial : Nat) (challenge : Nat) (minutes : Nat) (keyId : Nat) (vsig : Sig) (s : State) : Host.Outcome State Fault Refusal :=
  s.run (fun c => c.debugUnlock h serial challenge minutes keyId vsig)

/-- `DEBUG_UNLOCK_APPLY` (R118): After acceptance: counts the unlock in OTP, evicts every plot, stores and enters SERVICE_UNLOCKED. -/
def execDebugUnlockApply (s : State) : Host.Outcome State Fault Refusal :=
  s.run (fun c => c.debugUnlockApply)

/-- `DEBUG_LOCK` (R119): Ends an unlock on command. -/
def execDebugLock (h : Hdr) (s : State) : Host.Outcome State Fault Refusal :=
  s.run (fun c => c.debugLock h)

/-- `UNLOCK_END` (R119): When MINUTES elapse or SERVICE_EN is released, JTAG stops, the Keeper and Gatehouse restart and the
lifecycle returns to FIELD. -/
def execUnlockEnd (s : State) : Host.Outcome State Fault Refusal :=
  s.run (fun c => c.unlockEndRow)

/-- `DECOMMISSION` (R120): Evicts every plot, erases the stores, burns the fuses and resets. -/
def execDecommission (h : Hdr) (serial : Nat) (confirm : Nat) (s : State) : Host.Outcome State Fault Refusal :=
  s.run (fun c => c.decommission h serial confirm)

/-- `ROLLBACK_COMMIT` (R124): Writes the running image's SEC_VER into the next OTP slot. -/
def execRollbackCommit (h : Hdr) (image : Nat) (s : State) : Host.Outcome State Fault Refusal :=
  s.run (fun c => c.rollbackCommit h image)

/-- `SHADOW_MIN_RAISE` (R123): After 1 h in Full service on a newer image, SHADOW_MIN is raised at the next store. -/
def execShadowMinRaise (s : State) : Host.Outcome State Fault Refusal :=
  s.run (fun c => c.shadowMinRaise)

end Sys2Proof.Machine
end

