-- ==== Sys2Proof/Machine/ServiceRows.lean ====
section
/-!
DEFINITION. Meanings of the rows of start-up, service tiers, reset, snapshots and firmware.
-/

namespace Sys2Proof.Machine

/-- `VAON_VALID` (R496): VBUS at or above 20 V for 10 ms makes VAON valid and releases the always-on domains. -/
def execVaonValid (vbak : Nat) (s : State) : Host.Outcome State Fault Refusal :=
  s.run (fun c => c.vaonValid vbak)

/-- `FIREBREAK_TIER_REACHED` (R496): FBK runs, the configuration is loaded, the inputs are judged and the Firebreak tier is reached. -/
def execFirebreakTierReached (s : State) : Host.Outcome State Fault Refusal :=
  s.run (fun c => c.firebreakTierReached)

/-- `CRYSTAL_STARTED` (R496): The 25 MHz crystal starts and REF runs from it. -/
def execCrystalStarted (s : State) : Host.Outcome State Fault Refusal :=
  s.run (fun c => c.crystalStarted)

/-- `REF_RC_SWITCH` (R25): No crystal within 20 ms, or a crystal stop, moves REF to the internal RC and stops PLL-B. -/
def execRefRcSwitch (s : State) : Host.Outcome State Fault Refusal :=
  s.run (fun c => c.refRcSwitch)

/-- `CORE_ENABLE` (R496): With Survival, VBUS, VDDA and VIO good, EN_CORE rises. -/
def execCoreEnable (s : State) : Host.Outcome State Fault Refusal :=
  s.run (fun c => c.coreEnable)

/-- `PG_CORE_RISE` (R496): PG_CORE high lets PLL-A and PLL-B lock. -/
def execPgCoreRise (pllA : Bool) (pllB : Bool) (s : State) : Host.Outcome State Fault Refusal :=
  s.run (fun c => c.pgCoreRise pllA pllB)

/-- `CORE_START_TIMEOUT` (R497): PG_CORE or the PLL-A lock missing in time retries or gives up. -/
def execCoreStartTimeout (s : State) : Host.Outcome State Fault Refusal :=
  s.run (fun c => c.coreStartTimeout)

/-- `PG_CORE_LOSS` (R497): PG_CORE falling for 10 µs in operation makes a chip reset. -/
def execPgCoreLoss (s : State) : Host.Outcome State Fault Refusal :=
  s.run (fun c => c.pgCoreLoss)

/-- `BROWNOUT` (R498): VDDA or VIO becoming good or not good gates step 5 or makes a chip reset. -/
def execBrownout (rail : Nat) (good : Bool) (s : State) : Host.Outcome State Fault Refusal :=
  if rail < 2 then s.run (fun c => c.brownout rail good) else .refused .noSuchUnit

/-- `GATEHOUSE_SELF_TEST` (R496): The Gatehouse self-test and the OTP read complete. -/
def execGatehouseSelfTest (ok : Bool) (s : State) : Host.Outcome State Fault Refusal :=
  s.run (fun c => c.gatehouseSelfTest ok)

/-- `BOOT_IMAGE_SELECT` (R503): The boot ROM selects and verifies the images and judges the firmware outcome. -/
def execBootImageSelect (prog : List (Nat × Nat × Nat × Bool × Bool)) (s : State) : Host.Outcome State Fault Refusal :=
  s.run (fun c => c.bootImageSelect prog)

/-- `KFW_START` (R496): The Keeper runs KFW, loads the bundle, completes wipes and recovers metering. -/
def execKfwStart (ok : Bool) (s : State) : Host.Outcome State Fault Refusal :=
  s.run (fun c => c.kfwStart ok)

/-- `TERRACES_START` (R496): Terraces load programs and tables, the allocator starts, the tick base starts and Limited is reached. -/
def execTerracesStart (fails : Nat) (linear : Bool) (s : State) : Host.Outcome State Fault Refusal :=
  s.run (fun c => c.terracesStart fails linear)

/-- `FULL_CHECK` (R496): The Full units are checked and Full service is entered where allowed. -/
def execFullCheck (s : State) : Host.Outcome State Fault Refusal :=
  s.run (fun c => c.fullCheck)

/-- `TIER_FALL` (R33): A required unit fails and the tier drops at once, outputs first. -/
def execTierFall (mask : Nat) (s : State) : Host.Outcome State Fault Refusal :=
  s.run (fun c => c.tierFall mask)

/-- `TIER_RISE` (R33): The tier rises one step once every unit of the next tier works. -/
def execTierRise (mask : Nat) (linear : Bool) (s : State) : Host.Outcome State Fault Refusal :=
  s.run (fun c => c.tierRise mask linear)

/-- `KEEPER_FAULT` (R35): A lockstep mismatch or watchdog restarts the Keeper under a tier hold. -/
def execKeeperFault (cause : Nat) (s : State) : Host.Outcome State Fault Refusal :=
  s.run (fun c => c.keeperFault cause)

/-- `KEEPER_RESTART_COMPLETE` (R35): The Keeper runs verified KFW again and the tier hold ends. -/
def execKeeperRestartComplete (s : State) : Host.Outcome State Fault Refusal :=
  s.run (fun c => c.keeperRestartComplete)

/-- `GATEHOUSE_FAULT` (R36): A Gatehouse self-reset closes every session under a tier hold. -/
def execGatehouseFault (s : State) : Host.Outcome State Fault Refusal :=
  s.run (fun c => c.gatehouseFault)

/-- `GATEHOUSE_RESTART_COMPLETE` (R35): The Gatehouse works again and the tier hold ends. -/
def execGatehouseRestartComplete (s : State) : Host.Outcome State Fault Refusal :=
  s.run (fun c => c.gatehouseRestartComplete)

/-- `TIER_HOLD_EXPIRY` (R35): A tier hold ending after 2.0 s without the unit drops the tier. -/
def execTierHoldExpiry (s : State) : Host.Outcome State Fault Refusal :=
  s.run (fun c => c.tierHoldExpiry)

/-- `POWER_RETURN` (R499): VBUS returning after a power-fail with VAON kept restarts from step 5 after the store. -/
def execPowerReturn (s : State) : Host.Outcome State Fault Refusal :=
  s.run (fun c => c.powerReturn)

/-- `CHIP_RESET` (R506): Opens the outputs, closes the sessions, stores, resets the units outside Table 17.8 and restarts. -/
def execChipReset (cause : Nat) (s : State) : Host.Outcome State Fault Refusal :=
  s.run (fun c => c.chipResetRow cause)

/-- `RESET_PIN_CHANGE` (R508): A RESET_N level held for 10 ms is accepted. -/
def execResetPinChange (isLow : Bool) (s : State) : Host.Outcome State Fault Refusal :=
  s.run (fun c => c.resetPinChange isLow)

/-- `RESET_PIN_STUCK` (R508): RESET_N accepted low for 30 s is failed closed and the controller leaves reset. -/
def execResetPinStuck (s : State) : Host.Outcome State Fault Refusal :=
  s.run (fun c => c.resetPinStuck)

/-- `RESET_PIN_RECOVER` (R508): RESET_N high for 1 s after failing closed makes the pin act again. -/
def execResetPinRecover (s : State) : Host.Outcome State Fault Refusal :=
  s.run (fun c => c.resetPinRecover)

/-- `CONFIG_BUNDLE_WRITE` (R505): Within 10 s of an unsaved change the Keeper writes the older bundle copy. -/
def execConfigBundleWrite (cut : Bool) (s : State) : Host.Outcome State Fault Refusal :=
  s.run (fun c => c.configBundleWrite cut)

/-- `SNAP_IN_TRIGGER` (R513): A SNAP_IN rising edge held 100 ns takes a snapshot. -/
def execSnapInTrigger (s : State) : Host.Outcome State Fault Refusal :=
  s.run (fun c => c.snapInTrigger)

/-- `SNAPSHOT` (R518): Triggers a snapshot on command. -/
def execSnapshot (h : Hdr) (s : State) : Host.Outcome State Fault Refusal :=
  s.run (fun c => c.snapshot h)

/-- `SNAP_READ` (R515): Returns a snapshot segment, masked for its reader. -/
def execSnapRead (h : Hdr) (segment : Nat) (inst : Nat) (offset : Nat) (maxLen : Nat) (s : State) : Host.Outcome State Fault Refusal :=
  s.run (fun c => c.snapRead h segment inst offset maxLen)

/-- `SNAP_CLEAR` (R518): Returns the snapshot to EMPTY. -/
def execSnapClear (h : Hdr) (s : State) : Host.Outcome State Fault Refusal :=
  s.run (fun c => c.snapClear h)

/-- `FW_STAGE_OPEN` (R518): Starts staging into the slot not running and erases it. -/
def execFwStageOpen (h : Hdr) (image : Nat) (length : Nat) (s : State) : Host.Outcome State Fault Refusal :=
  s.run (fun c => c.fwStageOpen h image length)

/-- `FW_STAGE_ERASE_DONE` (R518): The staging slot's erase is verified and the result is OK. -/
def execFwStageEraseDone (s : State) : Host.Outcome State Fault Refusal :=
  s.run (fun c => c.fwStageEraseDone)

/-- `FW_STAGE_WRITE` (R518): Programs image bytes into the staging slot. -/
def execFwStageWrite (h : Hdr) (image : Nat) (offset : Nat) (data : Bytes) (s : State) : Host.Outcome State Fault Refusal :=
  s.run (fun c => c.fwStageWrite h image offset data)

/-- `FW_STAGE_CLOSE` (R518): Judges the staged slot and reports the outcome it would give. -/
def execFwStageClose (h : Hdr) (image : Nat) (sigOk : Bool) (hashOk : Bool) (s : State) : Host.Outcome State Fault Refusal :=
  s.run (fun c => c.fwStageClose h image sigOk hashOk)

/-- `FW_ACTIVATE` (R518): Writes a new directory and may request a chip reset. -/
def execFwActivate (h : Hdr) (mask : Nat) (s : State) : Host.Outcome State Fault Refusal :=
  s.run (fun c => c.fwActivate h mask)

/-- `ACCEPT_UNTESTED_SET` (R504): Sets or clears the signed untested-pairing policy. -/
def execAcceptUntestedSet (h : Hdr) (kfw : Nat) (zrt : Nat) (ghp : Nat) (sig : Sig) (s : State) : Host.Outcome State Fault Refusal :=
  s.run (fun c => c.acceptUntestedSet h kfw zrt ghp sig)

end Sys2Proof.Machine
end

