-- ==== Sys2Proof/Machine/ShadowRows.lean ====
section
/-!
DEFINITION. Meanings of the rows of the shadow store.
-/

namespace Sys2Proof.Machine

/-- `STORE_START` (R453): A requested store takes its snapshot once the spare bank is erased. -/
def execStoreStart (s : State) : Host.Outcome State Fault Refusal :=
  s.run (fun c => c.storeStart)

/-- `STORE_COMMIT` (R453): Pages and the commit page are programmed and verified, and the older bank's erase begins. -/
def execStoreCommit (ok : Bool) (page : Nat) (s : State) : Host.Outcome State Fault Refusal :=
  s.run (fun c => c.storeCommitAll ok page)

/-- `BANK_ERASE_DONE` (R453): A background bank erase completes and ERASE_DONE is journalled. -/
def execBankEraseDone (ok : Bool) (ckFails : Bool) (s : State) : Host.Outcome State Fault Refusal :=
  s.run (fun c => c.bankEraseDone ok ckFails)

/-- `MARGIN_READ_START` (R463): A due margin read starts at READY. -/
def execMarginReadStart (s : State) : Host.Outcome State Fault Refusal :=
  s.run (fun c => c.marginStart)

/-- `MARGIN_READ_DONE` (R463): The margin read completes and weak cells request a refresh store. -/
def execMarginReadDone (bank : Nat) (page : Nat) (ring : Nat) (s : State) : Host.Outcome State Fault Refusal :=
  s.run (fun c => c.marginDone bank page ring)

/-- `RING_SECTOR_ERASE_DONE` (R462): A background ring sector erase completes or retires the sector. -/
def execRingSectorEraseDone (ok : Bool) (fails : Bool) (s : State) : Host.Outcome State Fault Refusal :=
  s.run (fun c => c.ringSectorEraseDone ok fails)

/-- `SHADOW_PAGE_RELOAD` (R451): An SRAM double-bit error reloads the page from the newest committed bank. -/
def execShadowPageReload (page : Nat) (s : State) : Host.Outcome State Fault Refusal :=
  if page < 512 then s.runMem (fun m c => c.shadowPageReload m page) else .refused .noSuchUnit

/-- `POWER_FAIL` (R455): VBUS below 30 V for 50 µs opens every output, halts units, closes metering and makes a store. -/
def execPowerFail (dv : Nat) (s : State) : Host.Outcome State Fault Refusal :=
  s.run (fun c => c.powerFail dv)

/-- `STORE` (R470): Requests a store with cause [0] and returns a result handle. -/
def execStore (h : Hdr) (s : State) : Host.Outcome State Fault Refusal :=
  s.run (fun c => c.storeCmd h)

/-- `RAW_OPEN` (R465): Compares an access word and opens raw read or write access. -/
def execRawOpen (h : Hdr) (kind : Nat) (word : Nat) (s : State) : Host.Outcome State Fault Refusal :=
  s.run (fun c => c.rawOpen h kind word)

/-- `RAW_READ` (R470): Reads shadow SRAM bytes, sealed areas as ciphertext. -/
def execRawRead (h : Hdr) (offset : Nat) (len : Nat) (s : State) : Host.Outcome State Fault Refusal :=
  s.runMem (fun m c => c.rawRead m h offset len)

/-- `RAW_WRITE` (R470): Writes bytes of the plant area. -/
def execRawWrite (h : Hdr) (offset : Nat) (len : Nat) (data : Bytes) (s : State) : Host.Outcome State Fault Refusal :=
  s.runMem (fun m c => c.rawWrite m h offset len data)

/-- `SHADOW_INIT` (R470): Writes and stores an initial image while the store is BLANK. -/
def execShadowInit (h : Hdr) (serial : Nat) (confirm : Nat) (s : State) : Host.Outcome State Fault Refusal :=
  s.run (fun c => c.shadowInit h serial confirm)

/-- `SHADOW_POWER_UP` (R460): The shadow store repairs the journal and banks and loads the newest valid bank. -/
def execShadowPowerUp (badA : Bool) (badB : Bool) (copyFails : Bool) (s : State) : Host.Outcome State Fault Refusal :=
  s.runMem (fun m c => c.shadowPowerUpRow m badA badB copyFails)

end Sys2Proof.Machine
end

