-- ==== Sys2Proof/Machine/StepsRows.lean ====
section
/-!
DEFINITION. Meanings of the rows of the zone program opcodes (Table 5.5): the engine executes one step. Out of range fields of a step are taken
modulo their width (Table 5.1).
-/

namespace Sys2Proof.Machine

/-- `END` (R167): Ends the tick; the results are written back. -/
def execZpEnd (e : Nat) (d : Nat) (a : Nat) (imm : Nat) (s : State) : Host.Outcome State Fault Refusal :=
  if e < 256 then s.run (fun c => c.zoneStep e 0x00 d a (imm / 2048) (imm % 2048)) else .refused .noSuchUnit

/-- `MOV` (R169): Copies a working slot. -/
def execZpMov (e : Nat) (d : Nat) (a : Nat) (imm : Nat) (s : State) : Host.Outcome State Fault Refusal :=
  if e < 256 then s.run (fun c => c.zoneStep e 0x01 d a (imm / 2048) (imm % 2048)) else .refused .noSuchUnit

/-- `LDL` (R169): Loads a zero-extended 16-bit fraction. -/
def execZpLdl (e : Nat) (d : Nat) (a : Nat) (imm : Nat) (s : State) : Host.Outcome State Fault Refusal :=
  if e < 256 then s.run (fun c => c.zoneStep e 0x02 d a (imm / 2048) (imm % 2048)) else .refused .noSuchUnit

/-- `LDH` (R169): Loads the high half of a working slot. -/
def execZpLdh (e : Nat) (d : Nat) (a : Nat) (imm : Nat) (s : State) : Host.Outcome State Fault Refusal :=
  if e < 256 then s.run (fun c => c.zoneStep e 0x03 d a (imm / 2048) (imm % 2048)) else .refused .noSuchUnit

/-- `LDC` (R169): Loads a constant-pool entry. -/
def execZpLdc (e : Nat) (d : Nat) (a : Nat) (imm : Nat) (s : State) : Host.Outcome State Fault Refusal :=
  if e < 256 then s.run (fun c => c.zoneStep e 0x04 d a (imm / 2048) (imm % 2048)) else .refused .noSuchUnit

/-- `LDP` (R169): Loads a parameter word. -/
def execZpLdp (e : Nat) (d : Nat) (a : Nat) (imm : Nat) (s : State) : Host.Outcome State Fault Refusal :=
  if e < 256 then s.run (fun c => c.zoneStep e 0x05 d a (imm / 2048) (imm % 2048)) else .refused .noSuchUnit

/-- `LDS` (R169): Loads a state word. -/
def execZpLds (e : Nat) (d : Nat) (a : Nat) (imm : Nat) (s : State) : Host.Outcome State Fault Refusal :=
  if e < 256 then s.run (fun c => c.zoneStep e 0x06 d a (imm / 2048) (imm % 2048)) else .refused .noSuchUnit

/-- `STS` (R169): Stores a working slot into a state word. -/
def execZpSts (e : Nat) (d : Nat) (a : Nat) (imm : Nat) (s : State) : Host.Outcome State Fault Refusal :=
  if e < 256 then s.run (fun c => c.zoneStep e 0x07 d a (imm / 2048) (imm % 2048)) else .refused .noSuchUnit

/-- `ADD` (R165): Saturating fx32 addition. -/
def execZpAdd (e : Nat) (d : Nat) (a : Nat) (b : Nat) (parm : Nat) (s : State) : Host.Outcome State Fault Refusal :=
  if e < 256 then s.run (fun c => c.zoneStep e 0x08 d a b parm) else .refused .noSuchUnit

/-- `SUB` (R165): Saturating fx32 subtraction. -/
def execZpSub (e : Nat) (d : Nat) (a : Nat) (b : Nat) (parm : Nat) (s : State) : Host.Outcome State Fault Refusal :=
  if e < 256 then s.run (fun c => c.zoneStep e 0x09 d a b parm) else .refused .noSuchUnit

/-- `MUL` (R165): Rounded, saturating fx32 multiplication. -/
def execZpMul (e : Nat) (d : Nat) (a : Nat) (b : Nat) (parm : Nat) (s : State) : Host.Outcome State Fault Refusal :=
  if e < 256 then s.run (fun c => c.zoneStep e 0x0A d a b parm) else .refused .noSuchUnit

/-- `DIV` (R165): fx32 division, with a divide fault on a zero divisor. -/
def execZpDiv (e : Nat) (d : Nat) (a : Nat) (b : Nat) (parm : Nat) (s : State) : Host.Outcome State Fault Refusal :=
  if e < 256 then s.run (fun c => c.zoneStep e 0x0B d a b parm) else .refused .noSuchUnit

/-- `ADDI` (R165): Adds an s8.8 immediate. -/
def execZpAddi (e : Nat) (d : Nat) (a : Nat) (imm : Nat) (s : State) : Host.Outcome State Fault Refusal :=
  if e < 256 then s.run (fun c => c.zoneStep e 0x0C d a (imm / 2048) (imm % 2048)) else .refused .noSuchUnit

/-- `MULI` (R165): Multiplies by an s8.8 immediate. -/
def execZpMuli (e : Nat) (d : Nat) (a : Nat) (imm : Nat) (s : State) : Host.Outcome State Fault Refusal :=
  if e < 256 then s.run (fun c => c.zoneStep e 0x0D d a (imm / 2048) (imm % 2048)) else .refused .noSuchUnit

/-- `ABS` (R169): Absolute value. -/
def execZpAbs (e : Nat) (d : Nat) (a : Nat) (imm : Nat) (s : State) : Host.Outcome State Fault Refusal :=
  if e < 256 then s.run (fun c => c.zoneStep e 0x0E d a (imm / 2048) (imm % 2048)) else .refused .noSuchUnit

/-- `NEG` (R169): Negation. -/
def execZpNeg (e : Nat) (d : Nat) (a : Nat) (imm : Nat) (s : State) : Host.Outcome State Fault Refusal :=
  if e < 256 then s.run (fun c => c.zoneStep e 0x0F d a (imm / 2048) (imm % 2048)) else .refused .noSuchUnit

/-- `MIN` (R169): The lesser of two slots. -/
def execZpMin (e : Nat) (d : Nat) (a : Nat) (b : Nat) (parm : Nat) (s : State) : Host.Outcome State Fault Refusal :=
  if e < 256 then s.run (fun c => c.zoneStep e 0x10 d a b parm) else .refused .noSuchUnit

/-- `MAX` (R169): The greater of two slots. -/
def execZpMax (e : Nat) (d : Nat) (a : Nat) (b : Nat) (parm : Nat) (s : State) : Host.Outcome State Fault Refusal :=
  if e < 256 then s.run (fun c => c.zoneStep e 0x11 d a b parm) else .refused .noSuchUnit

/-- `LIM` (R169): Limits a value between two bound slots and sets the LIM flag. -/
def execZpLim (e : Nat) (d : Nat) (a : Nat) (b : Nat) (parm : Nat) (s : State) : Host.Outcome State Fault Refusal :=
  if e < 256 then s.run (fun c => c.zoneStep e 0x12 d a b parm) else .refused .noSuchUnit

/-- `CLP01` (R169): Limits a value to 0 to 1.0. -/
def execZpClp01 (e : Nat) (d : Nat) (a : Nat) (imm : Nat) (s : State) : Host.Outcome State Fault Refusal :=
  if e < 256 then s.run (fun c => c.zoneStep e 0x13 d a (imm / 2048) (imm % 2048)) else .refused .noSuchUnit

/-- `CMP` (R169): Compares two slots, setting C and writing 1.0 or 0. -/
def execZpCmp (e : Nat) (d : Nat) (a : Nat) (b : Nat) (parm : Nat) (s : State) : Host.Outcome State Fault Refusal :=
  if e < 256 then s.run (fun c => c.zoneStep e 0x14 d a b parm) else .refused .noSuchUnit

/-- `SEL` (R169): Selects one of two slots by C. -/
def execZpSel (e : Nat) (d : Nat) (a : Nat) (b : Nat) (parm : Nat) (s : State) : Host.Outcome State Fault Refusal :=
  if e < 256 then s.run (fun c => c.zoneStep e 0x15 d a b parm) else .refused .noSuchUnit

/-- `SKIP` (R170): Skips forward if the selected flag is 1. -/
def execZpSkip (e : Nat) (d : Nat) (a : Nat) (imm : Nat) (s : State) : Host.Outcome State Fault Refusal :=
  if e < 256 then s.run (fun c => c.zoneStep e 0x16 d a (imm / 2048) (imm % 2048)) else .refused .noSuchUnit

/-- `SKIPN` (R170): Skips forward if the selected flag is 0. -/
def execZpSkipn (e : Nat) (d : Nat) (a : Nat) (imm : Nat) (s : State) : Host.Outcome State Fault Refusal :=
  if e < 256 then s.run (fun c => c.zoneStep e 0x17 d a (imm / 2048) (imm % 2048)) else .refused .noSuchUnit

/-- `TBLC` (R171): Interpolates in a constant-pool table. -/
def execZpTblc (e : Nat) (d : Nat) (a : Nat) (imm : Nat) (s : State) : Host.Outcome State Fault Refusal :=
  if e < 256 then s.run (fun c => c.zoneStep e 0x18 d a (imm / 2048) (imm % 2048)) else .refused .noSuchUnit

/-- `TBLP` (R171): Interpolates in a P-word table. -/
def execZpTblp (e : Nat) (d : Nat) (a : Nat) (imm : Nat) (s : State) : Host.Outcome State Fault Refusal :=
  if e < 256 then s.run (fun c => c.zoneStep e 0x19 d a (imm / 2048) (imm % 2048)) else .refused .noSuchUnit

/-- `LPF` (R172): First-order filter with its state in S. -/
def execZpLpf (e : Nat) (d : Nat) (a : Nat) (b : Nat) (parm : Nat) (s : State) : Host.Outcome State Fault Refusal :=
  if e < 256 then s.run (fun c => c.zoneStep e 0x1A d a b parm) else .refused .noSuchUnit

/-- `RATE` (R172): Rate limiter with its state in S. -/
def execZpRate (e : Nat) (d : Nat) (a : Nat) (b : Nat) (parm : Nat) (s : State) : Host.Outcome State Fault Refusal :=
  if e < 256 then s.run (fun c => c.zoneStep e 0x1B d a b parm) else .refused .noSuchUnit

/-- `HYST` (R172): Hysteresis with its state in S. -/
def execZpHyst (e : Nat) (d : Nat) (a : Nat) (b : Nat) (parm : Nat) (s : State) : Host.Outcome State Fault Refusal :=
  if e < 256 then s.run (fun c => c.zoneStep e 0x1C d a b parm) else .refused .noSuchUnit

/-- `TON` (R172): On-delay timer with its state in S. -/
def execZpTon (e : Nat) (d : Nat) (a : Nat) (b : Nat) (parm : Nat) (s : State) : Host.Outcome State Fault Refusal :=
  if e < 256 then s.run (fun c => c.zoneStep e 0x1D d a b parm) else .refused .noSuchUnit

/-- `RDB` (R173): Reads a fresh binding value, or sets STALE. -/
def execZpRdb (e : Nat) (d : Nat) (a : Nat) (imm : Nat) (s : State) : Host.Outcome State Fault Refusal :=
  if e < 256 then s.run (fun c => c.zoneStep e 0x1E d a (imm / 2048) (imm % 2048)) else .refused .noSuchUnit

/-- `RDBA` (R173): Reads a binding's age in seconds. -/
def execZpRdba (e : Nat) (d : Nat) (a : Nat) (imm : Nat) (s : State) : Host.Outcome State Fault Refusal :=
  if e < 256 then s.run (fun c => c.zoneStep e 0x1F d a (imm / 2048) (imm % 2048)) else .refused .noSuchUnit

/-- `PFUS` (R175): Presence fusion over the masked bindings. -/
def execZpPfus (e : Nat) (d : Nat) (a : Nat) (imm : Nat) (s : State) : Host.Outcome State Fault Refusal :=
  if e < 256 then s.run (fun c => c.zoneStep e 0x20 d a (imm / 2048) (imm % 2048)) else .refused .noSuchUnit

/-- `OCC` (R176): Runs the occupancy state machine once. -/
def execZpOcc (e : Nat) (d : Nat) (a : Nat) (b : Nat) (parm : Nat) (s : State) : Host.Outcome State Fault Refusal :=
  if e < 256 then s.run (fun c => c.zoneStep e 0x21 d a b parm) else .refused .noSuchUnit

/-- `SCHED` (R178): Reads the schedule entry in force, adjusted by the plot limits. -/
def execZpSched (e : Nat) (d : Nat) (a : Nat) (imm : Nat) (s : State) : Host.Outcome State Fault Refusal :=
  if e < 256 then s.run (fun c => c.zoneStep e 0x22 d a (imm / 2048) (imm % 2048)) else .refused .noSuchUnit

/-- `PLAN` (R179): Reads the planned setpoint or occupancy of the current plan step. -/
def execZpPlan (e : Nat) (d : Nat) (a : Nat) (imm : Nat) (s : State) : Host.Outcome State Fault Refusal :=
  if e < 256 then s.run (fun c => c.zoneStep e 0x23 d a (imm / 2048) (imm % 2048)) else .refused .noSuchUnit

/-- `RDSYS` (R180): Reads a system value. -/
def execZpRdsys (e : Nat) (d : Nat) (a : Nat) (imm : Nat) (s : State) : Host.Outcome State Fault Refusal :=
  if e < 256 then s.run (fun c => c.zoneStep e 0x24 d a (imm / 2048) (imm % 2048)) else .refused .noSuchUnit

/-- `PI` (R181): PI controller step with anti-windup. -/
def execZpPi (e : Nat) (d : Nat) (a : Nat) (b : Nat) (parm : Nat) (s : State) : Host.Outcome State Fault Refusal :=
  if e < 256 then s.run (fun c => c.zoneStep e 0x25 d a b parm) else .refused .noSuchUnit

/-- `API` (R182): Auto-tuned PI step using the tuned or fallback gains. -/
def execZpApi (e : Nat) (d : Nat) (a : Nat) (b : Nat) (parm : Nat) (s : State) : Host.Outcome State Fault Refusal :=
  if e < 256 then s.run (fun c => c.zoneStep e 0x26 d a b parm) else .refused .noSuchUnit

/-- `MFF` (R183): Model feedforward demand. -/
def execZpMff (e : Nat) (d : Nat) (a : Nat) (imm : Nat) (s : State) : Host.Outcome State Fault Refusal :=
  if e < 256 then s.run (fun c => c.zoneStep e 0x27 d a (imm / 2048) (imm % 2048)) else .refused .noSuchUnit

/-- `ATUN` (R208): Produces the relay-test output and posts the error to the identification unit. -/
def execZpAtun (e : Nat) (d : Nat) (a : Nat) (b : Nat) (parm : Nat) (s : State) : Host.Outcome State Fault Refusal :=
  if e < 256 then s.run (fun c => c.zoneStep e 0x28 d a b parm) else .refused .noSuchUnit

/-- `RDN` (R174): Reads a same-owner neighbour's estimate. -/
def execZpRdn (e : Nat) (d : Nat) (a : Nat) (imm : Nat) (s : State) : Host.Outcome State Fault Refusal :=
  if e < 256 then s.run (fun c => c.zoneStep e 0x29 d a (imm / 2048) (imm % 2048)) else .refused .noSuchUnit

/-- `PUBT` (R174): Offers the zone's thermal estimate. -/
def execZpPubt (e : Nat) (d : Nat) (a : Nat) (imm : Nat) (s : State) : Host.Outcome State Fault Refusal :=
  if e < 256 then s.run (fun c => c.zoneStep e 0x2A d a (imm / 2048) (imm % 2048)) else .refused .noSuchUnit

/-- `DEM` (R184): Writes a demand port as q16. -/
def execZpDem (e : Nat) (d : Nat) (a : Nat) (imm : Nat) (s : State) : Host.Outcome State Fault Refusal :=
  if e < 256 then s.run (fun c => c.zoneStep e 0x2B d a (imm / 2048) (imm % 2048)) else .refused .noSuchUnit

/-- `PST` (R184): Reads a port's status code. -/
def execZpPst (e : Nat) (d : Nat) (a : Nat) (imm : Nat) (s : State) : Host.Outcome State Fault Refusal :=
  if e < 256 then s.run (fun c => c.zoneStep e 0x2C d a (imm / 2048) (imm % 2048)) else .refused .noSuchUnit

/-- `ALM` (R185): Alarm-bit edge detection. -/
def execZpAlm (e : Nat) (d : Nat) (a : Nat) (imm : Nat) (s : State) : Host.Outcome State Fault Refusal :=
  if e < 256 then s.run (fun c => c.zoneStep e 0x2D d a (imm / 2048) (imm % 2048)) else .refused .noSuchUnit

/-- `MUPD` (R203): Waits for the lane's quantum and runs one RLS model update. -/
def execZpMupd (e : Nat) (d : Nat) (a : Nat) (imm : Nat) (s : State) : Host.Outcome State Fault Refusal :=
  if e < 256 then s.run (fun c => c.zoneStep e 0x2E d a (imm / 2048) (imm % 2048)) else .refused .noSuchUnit

/-- `MRD` (R186): Reads a published model coefficient. -/
def execZpMrd (e : Nat) (d : Nat) (a : Nat) (imm : Nat) (s : State) : Host.Outcome State Fault Refusal :=
  if e < 256 then s.run (fun c => c.zoneStep e 0x2F d a (imm / 2048) (imm % 2048)) else .refused .noSuchUnit

end Sys2Proof.Machine
end

