-- ==== Sys2Proof/Machine/SupplyRows.lean ====
section
/-!
DEFINITION. Meanings of the rows of the supplies, the clocks and the temperatures.
-/

namespace Sys2Proof.Machine

/-- `VBUS_CONDITION_CHANGE` (R472): VBUS enters or leaves a condition of Table 16.2 after its dwell. -/
def execVbusConditionChange (code : Nat) (entered : Bool) (dv : Nat) (s : State) : Host.Outcome State Fault Refusal :=
  if code < 5 then s.run (fun c => c.vbusConditionChange code entered dv) else .refused .noSuchUnit

/-- `HOLD_RAIL_START_DONE` (R475): VHOLD within ±3 % moves the rail from STARTING to RUNNING. -/
def execHoldRailStartDone (v : Nat) (s : State) : Host.Outcome State Fault Refusal :=
  s.run (fun c => c.holdRailStartDone v)

/-- `HOLD_RAIL_START_TIMEOUT` (R475): Starting not complete within 20 ms stops the rail with START. -/
def execHoldRailStartTimeout (s : State) : Host.Outcome State Fault Refusal :=
  s.run (fun c => c.holdRailStartTimeout)

/-- `HOLD_RAIL_UNDERVOLT` (R475): VHOLD below 85 % for 10 ms stops the rail. -/
def execHoldRailUndervolt (v : Nat) (s : State) : Host.Outcome State Fault Refusal :=
  s.run (fun c => c.holdRailUndervolt v)

/-- `HOLD_RAIL_OVERVOLT` (R475): VHOLD above 110 % for 100 µs latches a stop. -/
def execHoldRailOvervolt (v : Nat) (s : State) : Host.Outcome State Fault Refusal :=
  s.run (fun c => c.holdRailOvervolt v)

/-- `HOLD_RAIL_RESTART` (R475): The rail restarts 1 s after an unlatched stop. -/
def execHoldRailRestart (s : State) : Host.Outcome State Fault Refusal :=
  s.run (fun c => c.holdRailRestart)

/-- `OFFSET_CHECK` (R476): Once per 1 ms frame one phase's sense offset is checked. -/
def execOffsetCheck (uv : Nat) (ma : Nat) (s : State) : Host.Outcome State Fault Refusal :=
  s.run (fun c => c.offsetCheck uv ma)

/-- `PHASE_OPEN_DETECT` (R476): A phase current below 10 % of the mean for 32 cycles retires the phase as OPEN. -/
def execPhaseOpenDetect (p : Nat) (ma : Nat) (mean : Nat) (dutyPermille : Nat) (s : State) : Host.Outcome State Fault Refusal :=
  if p < 4 then s.run (fun c => c.phaseOpenDetect p ma mean dutyPermille) else .refused .noSuchUnit

/-- `PHASE_DISAGREE` (R476): Phase sense disagreeing with array B in 10 frames retires the phase. -/
def execPhaseDisagree (p : Nat) (own : Nat) (arrayB : Nat) (s : State) : Host.Outcome State Fault Refusal :=
  if p < 4 then s.run (fun c => c.phaseDisagree p own arrayB) else .refused .noSuchUnit

/-- `HOLD_RAIL_CFG_WRITE` (R477): Write of HOLD_RAIL_CFG; moves V_HOLD or takes the rail OFF. -/
def execHoldRailCfgWrite (h : Hdr) (inst : Nat) (ver : Nat) (img : Nat) (s : State) : Host.Outcome State Fault Refusal :=
  s.run (fun c => c.writeRow h (fun x c => c.holdRailCfgWrite x inst ver img))

/-- `VCORE_RAISE` (R480): The PMBus target is written before a terrace clock rises. -/
def execVcoreRaise (t : Nat) (fails : Nat) (word : Nat) (s : State) : Host.Outcome State Fault Refusal :=
  if t < 4 then s.run (fun c => c.vcoreRaise t fails word) else .refused .noSuchUnit

/-- `VCORE_SETTLED` (R480): READ_VOUT reaches the target, or SETTLE_US passes, and the relock starts. -/
def execVcoreSettled (mv : Nat) (us : Nat) (fails : Nat) (word : Nat) (s : State) : Host.Outcome State Fault Refusal :=
  s.run (fun c => c.vcoreSettled mv us fails word)

/-- `TERRACE_RELOCK_START` (R482): The terrace moves to REF and its output relocks to the new frequency. -/
def execTerraceRelockStart (t : Nat) (s : State) : Host.Outcome State Fault Refusal :=
  if t < 4 then s.run (fun c => c.terraceRelockStart t) else .refused .noSuchUnit

/-- `TERRACE_RELOCK_LOCKED` (R482): The terrace output locks. -/
def execTerraceRelockLocked (t : Nat) (s : State) : Host.Outcome State Fault Refusal :=
  if t < 4 then s.run (fun c => c.terraceRelockLocked t) else .refused .noSuchUnit

/-- `TERRACE_RELOCK_RETURN` (R482): 50 µs after lock the terrace returns to its output and RELOCKING clears. -/
def execTerraceRelockReturn (t : Nat) (fails : Nat) (word : Nat) (s : State) : Host.Outcome State Fault Refusal :=
  if t < 4 then s.run (fun c => c.terraceRelockReturn t fails word) else .refused .noSuchUnit

/-- `PLL_LOSS_OF_LOCK` (R483): A PLL lock detector reports a loss of lock. -/
def execPllLossOfLock (k : Nat) (s : State) : Host.Outcome State Fault Refusal :=
  if k < 6 then s.run (fun c => c.pllLossOfLock k) else .refused .noSuchUnit

/-- `PLLB_RELOCK` (R483): PLL-B relocks within 1 ms and the tier may rise again. -/
def execPllbRelock (s : State) : Host.Outcome State Fault Refusal :=
  s.run (fun c => c.pllbRelock)

/-- `SLOW_ROUND` (R486): Every 100 ms the sensors are converted and judged, the levels, throttle and band move, and the
temperatures go to the fans. -/
def execSlowRound (sens : List (Nat × Int)) (mv : Nat) (ma : Nat) (fails : Nat) (word : Nat) (slack : Nat) (s : State) : Host.Outcome State Fault Refusal :=
  s.run (fun c => c.slowRound sens mv ma fails word slack)

/-- `BUCK_RESTORE` (R494): Clears retirements and latched stops and restarts the rail. -/
def execBuckRestore (h : Hdr) (mask : Nat) (v : Nat) (bad : Nat) (s : State) : Host.Outcome State Fault Refusal :=
  s.run (fun c => c.buckRestore h mask v bad)

end Sys2Proof.Machine
end

