-- ==== Sys2Proof/Machine/ZonesRows.lean ====
section
/-!
DEFINITION. Meanings of the rows of the zone engines, pergolas, terraces, tick tables and programs.
-/

namespace Sys2Proof.Machine

/-- `WINDOW_PORT_PHASE` (R133): At each window start the lane writes back the previous zone's context and loads this window's zone. -/
def execWindowPortPhase (e : Nat) (frame : Nat) (window : Nat) (s : State) : Host.Outcome State Fault Refusal :=
  if e < 256 then s.run (fun c => c.windowPortPhase e frame window) else .refused .noSuchUnit

/-- `ZONE_EXECUTION` (R167): At 50 µs into the window the zone program starts from step 0 with a 2048-cycle budget. -/
def execZoneExecution (e : Nat) (s : State) : Host.Outcome State Fault Refusal :=
  if e < 256 then s.run (fun c => c.zoneExecution e) else .refused .noSuchUnit

/-- `PUBLISH_POINT` (R133): At 200 µs the allocator takes the zone's demands, or its fallback demands. -/
def execPublishPoint (e : Nat) (s : State) : Host.Outcome State Fault Refusal :=
  if e < 256 then s.run (fun c => c.publishPoint e) else .refused .noSuchUnit

/-- `BINDING_UPDATE` (R129): The binding updater writes an accepted source value and time into every bound context within 1 ms. -/
def execBindingUpdate (s : State) : Host.Outcome State Fault Refusal :=
  s.run (fun c => c.bindingUpdate)

/-- `TERRACE_WATCHDOG` (R149): A missed frame marker, a table CRC error or a scheduler double-bit error starts an automatic TERRACE_RESET. -/
def execTerraceWatchdog (t : Nat) (cause : Nat) (s : State) : Host.Outcome State Fault Refusal :=
  if t < 4 then s.run (fun c => c.terraceWatchdog t cause) else .refused .noSuchUnit

/-- `TERRACE_RESET_DONE` (R149): The terrace reset completes its reloads and scrub, and the zones run again from the next boundary. -/
def execTerraceResetDone (t : Nat) (resume : Nat) (pass : Bool) (s : State) : Host.Outcome State Fault Refusal :=
  if t < 4 then s.run (fun c => c.terraceResetDone t resume pass) else .refused .noSuchUnit

/-- `ECC_SCRUB` (R145): The scrubber reads every terrace SRAM word every 8 s and corrects or reports errors. -/
def execEccScrub (t : Nat) (region : Nat) (offset : Nat) (double : Bool) (s : State) : Host.Outcome State Fault Refusal :=
  if t < 4 ∧ region < 5 then s.run (fun c => c.eccScrub t region offset double) else .refused .noSuchUnit

/-- `PROGRAM_STORE_REPAIR` (R145): The Keeper reloads a program marked bad within 10 ms. -/
def execProgramStoreRepair (t : Nat) (id : Nat) (s : State) : Host.Outcome State Fault Refusal :=
  if t < 4 ∧ id < 128 then s.run (fun c => c.programStoreRepair t id) else .refused .noSuchUnit

/-- `PERGOLA_FAULT` (R147): A pergola fault displaces its zones, resets and scrubs the pergola and starts its self-test. -/
def execPergolaFault (p : Nat) (cause : Nat) (s : State) : Host.Outcome State Fault Refusal :=
  if p < 64 then s.run (fun c => c.pergolaFault p cause) else .refused .noSuchUnit

/-- `PERGOLA_SELF_TEST_DONE` (R147): The pergola's self-test completes. -/
def execPergolaSelfTestDone (p : Nat) (pass : Bool) (s : State) : Host.Outcome State Fault Refusal :=
  if p < 64 then s.run (fun c => c.pergolaSelfTestDone p pass) else .refused .noSuchUnit

/-- `PERGOLA_MIGRATION` (R147): At the next tick-table boundary the faulted engines' entries move to free spares. -/
def execPergolaMigration (t : Nat) (s : State) : Host.Outcome State Fault Refusal :=
  if t < 4 then s.run (fun c => c.pergolaMigration t) else .refused .noSuchUnit

/-- `PERGOLA_RETURN_HOME` (R148): Migrated zones return home at the first hyperperiod boundary at least 60 s after the self-test. -/
def execPergolaReturnHome (t : Nat) (s : State) : Host.Outcome State Fault Refusal :=
  if t < 4 then s.run (fun c => c.pergolaReturnHome t) else .refused .noSuchUnit

/-- `ZONE_RESET` (R162): Clears a zone's faults and counters, zeroes its state words, repairs damage and sets FIRST_TICK. -/
def execZoneReset (h : Hdr) (z : Nat) (s : State) : Host.Outcome State Fault Refusal :=
  s.run (fun c => c.zoneReset h z)

/-- `ENGINE_RESET` (R162): Accepts a reset of one ZE. -/
def execEngineReset (h : Hdr) (e : Nat) (s : State) : Host.Outcome State Fault Refusal :=
  s.run (fun c => c.engineReset h e)

/-- `ENGINE_RESET_APPLY` (R162): At the end of the engine's current window its registers and counters clear. -/
def execEngineResetApply (e : Nat) (s : State) : Host.Outcome State Fault Refusal :=
  if e < 256 then s.run (fun c => c.engineResetApply e) else .refused .noSuchUnit

/-- `PERGOLA_RESET` (R162): Runs the pergola reset and self-test without counting a fault, and may return a retired pergola. -/
def execPergolaReset (h : Hdr) (p : Nat) (s : State) : Host.Outcome State Fault Refusal :=
  s.run (fun c => c.pergolaReset h p)

/-- `TERRACE_RESET` (R162): Commanded reset of one terrace under R149. -/
def execTerraceReset (h : Hdr) (t : Nat) (s : State) : Host.Outcome State Fault Refusal :=
  s.run (fun c => c.terraceReset h t)

/-- `TICK_TABLE_LOAD` (R136): Accepts a tick table image for validation. -/
def execTickTableLoad (h : Hdr) (img : Nat) (s : State) : Host.Outcome State Fault Refusal :=
  s.run (fun c => c.tickTableLoad h img)

/-- `TICK_TABLE_VALIDATED` (R136): Validation ends, and the table is refused or made pending. -/
def execTickTableValidated (t : Nat) (s : State) : Host.Outcome State Fault Refusal :=
  if t < 4 then s.run (fun c => c.tickTableValidated t) else .refused .noSuchUnit

/-- `TICK_TABLE_COMMIT_POINT` (R137): 250 ms before activation the pending load can no longer be cancelled. -/
def execTickTableCommitPoint (t : Nat) (s : State) : Host.Outcome State Fault Refusal :=
  if t < 4 then s.run (fun c => c.tickTableCommitPoint t) else .refused .noSuchUnit

/-- `TICK_TABLE_ACTIVE` (R137): The validated table becomes active at the hyperperiod boundary. -/
def execTickTableActive (t : Nat) (s : State) : Host.Outcome State Fault Refusal :=
  if t < 4 then s.run (fun c => c.tickTableActive t) else .refused .noSuchUnit

/-- `ZONE_ISOLATE` (R162): Sets ISOLATED and drives the zone's ports to zero within the class-0 bound. -/
def execZoneIsolate (h : Hdr) (z : Nat) (s : State) : Host.Outcome State Fault Refusal :=
  s.run (fun c => c.zoneIsolate h z)

/-- `ZONE_RELEASE` (R162): Clears ISOLATED at the next allocator frame. -/
def execZoneRelease (h : Hdr) (z : Nat) (s : State) : Host.Outcome State Fault Refusal :=
  s.run (fun c => c.zoneRelease h z)

/-- `PLOT_RESET` (R162): Closes the plot's sessions and then resets each of its zones. -/
def execPlotReset (h : Hdr) (p : Nat) (s : State) : Host.Outcome State Fault Refusal :=
  s.run (fun c => c.plotReset h p)

/-- `ZONE_CFG_WRITE` (R153): Write of ZONE_CFG; updates the allocator's fallback copy and may change the owner. -/
def execZoneCfgWrite (h : Hdr) (inst : Nat) (ver : Nat) (img : Nat) (s : State) : Host.Outcome State Fault Refusal :=
  s.run (fun c => c.writeRow h (fun x c => c.zoneCfgWrite x inst ver img))

/-- `ZONE_PARAMS_WRITE` (R154): Writes the parameter words the writer may write, checking class-1 bounds. -/
def execZoneParamsWrite (h : Hdr) (inst : Nat) (ver : Nat) (img : Nat) (s : State) : Host.Outcome State Fault Refusal :=
  s.run (fun c => c.writeRow h (fun x c => c.zoneParamsWrite x inst ver img))

/-- `PLOT_LIMITS_WRITE` (R161): Write of PLOT_LIMITS; clamps out-of-bound class-1 words. -/
def execPlotLimitsWrite (h : Hdr) (inst : Nat) (ver : Nat) (img : Nat) (s : State) : Host.Outcome State Fault Refusal :=
  s.run (fun c => c.writeRow h (fun x c => c.plotLimitsWrite x inst ver img))

/-- `PLOT_ISOLATION_WRITE` (R142): Sets or clears the PINNED requirement for later tick tables. -/
def execPlotIsolationWrite (h : Hdr) (inst : Nat) (ver : Nat) (img : Nat) (s : State) : Host.Outcome State Fault Refusal :=
  s.run (fun c => c.writeRow h (fun x c => c.plotIsolationWrite x inst ver img))

/-- `TERRACE_PERF_WRITE` (R29): Changes a terrace's performance mode, with its relock and counts applied as R29 lays down. -/
def execTerracePerfWrite (h : Hdr) (inst : Nat) (ver : Nat) (img : Nat) (s : State) : Host.Outcome State Fault Refusal :=
  s.run (fun c => c.writeRow h (fun x c => c.terracePerfWrite x inst ver img))

/-- `PROGRAM_LOAD` (R190): Accepts a program image for checking. -/
def execProgramLoad (h : Hdr) (t : Nat) (id : Nat) (img : Nat) (s : State) : Host.Outcome State Fault Refusal :=
  s.run (fun c => c.programLoad h t id img)

/-- `PROGRAM_LOAD_RESULT` (R190): The checks end within 5 ms and the program is stored or refused. -/
def execProgramLoadResult (t : Nat) (s : State) : Host.Outcome State Fault Refusal :=
  if t < 4 then s.run (fun c => c.programLoadResult t) else .refused .noSuchUnit

/-- `PROGRAM_UNLOAD` (R190): Removes a program, forcing its users to fault if FORCE is 1. -/
def execProgramUnload (h : Hdr) (t : Nat) (id : Nat) (force : Nat) (s : State) : Host.Outcome State Fault Refusal :=
  s.run (fun c => c.programUnload h t id force)

end Sys2Proof.Machine
end

