-- ==== Sys2Proof/Machine/Dispatch.lean ====
section
/-!
DEFINITION. One arm for each command: the one call of its meaning.
-/

namespace Sys2Proof.Machine

def exec (i : Instr) (s : State) : Host.Outcome State Fault Refusal :=
  match i with
  | .ping h echo => Sys2Proof.Machine.execPing h echo s
  | .sessionOpen h kind index challenge nonce eph sig newKey mac => Sys2Proof.Machine.execSessionOpen h kind index challenge nonce eph sig newKey mac s
  | .sessionClose h => Sys2Proof.Machine.execSessionClose h s
  | .sessionIdleTimeout si => Sys2Proof.Machine.execSessionIdleTimeout si s
  | .subscribe h mask minSev => Sys2Proof.Machine.execSubscribe h mask minSev s
  | .unsubscribe h => Sys2Proof.Machine.execUnsubscribe h s
  | .getRecord h rec inst offset maxLen => Sys2Proof.Machine.execGetRecord h rec inst offset maxLen s
  | .setRecord h rec inst ver img => Sys2Proof.Machine.execSetRecord h rec inst ver img s
  | .resultGet h handle offset maxLen => Sys2Proof.Machine.execResultGet h handle offset maxLen s
  | .resultRelease h handle => Sys2Proof.Machine.execResultRelease h handle s
  | .endpointReset h e => Sys2Proof.Machine.execEndpointReset h e s
  | .endpointCfgWrite h inst ver img => Sys2Proof.Machine.execEndpointCfgWrite h inst ver img s
  | .fragmentStore h opcode => Sys2Proof.Machine.execFragmentStore h opcode s
  | .fragmentTimeout si tag => Sys2Proof.Machine.execFragmentTimeout si tag s
  | .spiWrite whole => Sys2Proof.Machine.execSpiWrite whole s
  | .spiRead whole => Sys2Proof.Machine.execSpiRead whole s
  | .spiStatus => Sys2Proof.Machine.execSpiStatus s
  | .arpRequest e target asker => Sys2Proof.Machine.execArpRequest e target asker s
  | .neighbourSolicitation e target asker => Sys2Proof.Machine.execNeighbourSolicitation e target asker s
  | .eventTransmit e si => Sys2Proof.Machine.execEventTransmit e si s
  | .heldEventRelease => Sys2Proof.Machine.execHeldEventRelease s
  | .getIdentity h cert => Sys2Proof.Machine.execGetIdentity h cert s
  | .attest h nonce => Sys2Proof.Machine.execAttest h nonce s
  | .credentialWrite h k inst ver img => Sys2Proof.Machine.execCredentialWrite h k inst ver img s
  | .plotCreate h p lifetime => Sys2Proof.Machine.execPlotCreate h p lifetime s
  | .enrolCodeExpiry p => Sys2Proof.Machine.execEnrolCodeExpiry p s
  | .plotEvict h p => Sys2Proof.Machine.execPlotEvict h p s
  | .plotWipe p => Sys2Proof.Machine.execPlotWipe p s
  | .plotKeyRotate h key sig => Sys2Proof.Machine.execPlotKeyRotate h key sig s
  | .privacyCfgWrite h inst ver img => Sys2Proof.Machine.execPrivacyCfgWrite h inst ver img s
  | .occGroupWrite h inst ver img => Sys2Proof.Machine.execOccGroupWrite h inst ver img s
  | .quarterHourAggregate => Sys2Proof.Machine.execQuarterHourAggregate s
  | .servicePinChange pins => Sys2Proof.Machine.execServicePinChange pins s
  | .debugChallenge h => Sys2Proof.Machine.execDebugChallenge h s
  | .debugUnlock h serial challenge minutes keyId vsig => Sys2Proof.Machine.execDebugUnlock h serial challenge minutes keyId vsig s
  | .debugUnlockApply => Sys2Proof.Machine.execDebugUnlockApply s
  | .debugLock h => Sys2Proof.Machine.execDebugLock h s
  | .unlockEnd => Sys2Proof.Machine.execUnlockEnd s
  | .decommission h serial confirm => Sys2Proof.Machine.execDecommission h serial confirm s
  | .rollbackCommit h image => Sys2Proof.Machine.execRollbackCommit h image s
  | .shadowMinRaise => Sys2Proof.Machine.execShadowMinRaise s
  | .windowPortPhase e frame window => Sys2Proof.Machine.execWindowPortPhase e frame window s
  | .zoneExecution e => Sys2Proof.Machine.execZoneExecution e s
  | .publishPoint e => Sys2Proof.Machine.execPublishPoint e s
  | .bindingUpdate => Sys2Proof.Machine.execBindingUpdate s
  | .terraceWatchdog t cause => Sys2Proof.Machine.execTerraceWatchdog t cause s
  | .terraceResetDone t resume pass => Sys2Proof.Machine.execTerraceResetDone t resume pass s
  | .eccScrub t region offset double => Sys2Proof.Machine.execEccScrub t region offset double s
  | .programStoreRepair t id => Sys2Proof.Machine.execProgramStoreRepair t id s
  | .pergolaFault p cause => Sys2Proof.Machine.execPergolaFault p cause s
  | .pergolaSelfTestDone p pass => Sys2Proof.Machine.execPergolaSelfTestDone p pass s
  | .pergolaMigration t => Sys2Proof.Machine.execPergolaMigration t s
  | .pergolaReturnHome t => Sys2Proof.Machine.execPergolaReturnHome t s
  | .zoneReset h z => Sys2Proof.Machine.execZoneReset h z s
  | .engineReset h e => Sys2Proof.Machine.execEngineReset h e s
  | .engineResetApply e => Sys2Proof.Machine.execEngineResetApply e s
  | .pergolaReset h p => Sys2Proof.Machine.execPergolaReset h p s
  | .terraceReset h t => Sys2Proof.Machine.execTerraceReset h t s
  | .tickTableLoad h img => Sys2Proof.Machine.execTickTableLoad h img s
  | .tickTableValidated t => Sys2Proof.Machine.execTickTableValidated t s
  | .tickTableCommitPoint t => Sys2Proof.Machine.execTickTableCommitPoint t s
  | .tickTableActive t => Sys2Proof.Machine.execTickTableActive t s
  | .zoneIsolate h z => Sys2Proof.Machine.execZoneIsolate h z s
  | .zoneRelease h z => Sys2Proof.Machine.execZoneRelease h z s
  | .plotReset h p => Sys2Proof.Machine.execPlotReset h p s
  | .zoneCfgWrite h inst ver img => Sys2Proof.Machine.execZoneCfgWrite h inst ver img s
  | .zoneParamsWrite h inst ver img => Sys2Proof.Machine.execZoneParamsWrite h inst ver img s
  | .plotLimitsWrite h inst ver img => Sys2Proof.Machine.execPlotLimitsWrite h inst ver img s
  | .plotIsolationWrite h inst ver img => Sys2Proof.Machine.execPlotIsolationWrite h inst ver img s
  | .terracePerfWrite h inst ver img => Sys2Proof.Machine.execTerracePerfWrite h inst ver img s
  | .zpEnd e d a imm => Sys2Proof.Machine.execZpEnd e d a imm s
  | .zpMov e d a imm => Sys2Proof.Machine.execZpMov e d a imm s
  | .zpLdl e d a imm => Sys2Proof.Machine.execZpLdl e d a imm s
  | .zpLdh e d a imm => Sys2Proof.Machine.execZpLdh e d a imm s
  | .zpLdc e d a imm => Sys2Proof.Machine.execZpLdc e d a imm s
  | .zpLdp e d a imm => Sys2Proof.Machine.execZpLdp e d a imm s
  | .zpLds e d a imm => Sys2Proof.Machine.execZpLds e d a imm s
  | .zpSts e d a imm => Sys2Proof.Machine.execZpSts e d a imm s
  | .zpAdd e d a b parm => Sys2Proof.Machine.execZpAdd e d a b parm s
  | .zpSub e d a b parm => Sys2Proof.Machine.execZpSub e d a b parm s
  | .zpMul e d a b parm => Sys2Proof.Machine.execZpMul e d a b parm s
  | .zpDiv e d a b parm => Sys2Proof.Machine.execZpDiv e d a b parm s
  | .zpAddi e d a imm => Sys2Proof.Machine.execZpAddi e d a imm s
  | .zpMuli e d a imm => Sys2Proof.Machine.execZpMuli e d a imm s
  | .zpAbs e d a imm => Sys2Proof.Machine.execZpAbs e d a imm s
  | .zpNeg e d a imm => Sys2Proof.Machine.execZpNeg e d a imm s
  | .zpMin e d a b parm => Sys2Proof.Machine.execZpMin e d a b parm s
  | .zpMax e d a b parm => Sys2Proof.Machine.execZpMax e d a b parm s
  | .zpLim e d a b parm => Sys2Proof.Machine.execZpLim e d a b parm s
  | .zpClp01 e d a imm => Sys2Proof.Machine.execZpClp01 e d a imm s
  | .zpCmp e d a b parm => Sys2Proof.Machine.execZpCmp e d a b parm s
  | .zpSel e d a b parm => Sys2Proof.Machine.execZpSel e d a b parm s
  | .zpSkip e d a imm => Sys2Proof.Machine.execZpSkip e d a imm s
  | .zpSkipn e d a imm => Sys2Proof.Machine.execZpSkipn e d a imm s
  | .zpTblc e d a imm => Sys2Proof.Machine.execZpTblc e d a imm s
  | .zpTblp e d a imm => Sys2Proof.Machine.execZpTblp e d a imm s
  | .zpLpf e d a b parm => Sys2Proof.Machine.execZpLpf e d a b parm s
  | .zpRate e d a b parm => Sys2Proof.Machine.execZpRate e d a b parm s
  | .zpHyst e d a b parm => Sys2Proof.Machine.execZpHyst e d a b parm s
  | .zpTon e d a b parm => Sys2Proof.Machine.execZpTon e d a b parm s
  | .zpRdb e d a imm => Sys2Proof.Machine.execZpRdb e d a imm s
  | .zpRdba e d a imm => Sys2Proof.Machine.execZpRdba e d a imm s
  | .zpPfus e d a imm => Sys2Proof.Machine.execZpPfus e d a imm s
  | .zpOcc e d a b parm => Sys2Proof.Machine.execZpOcc e d a b parm s
  | .zpSched e d a imm => Sys2Proof.Machine.execZpSched e d a imm s
  | .zpPlan e d a imm => Sys2Proof.Machine.execZpPlan e d a imm s
  | .zpRdsys e d a imm => Sys2Proof.Machine.execZpRdsys e d a imm s
  | .zpPi e d a b parm => Sys2Proof.Machine.execZpPi e d a b parm s
  | .zpApi e d a b parm => Sys2Proof.Machine.execZpApi e d a b parm s
  | .zpMff e d a imm => Sys2Proof.Machine.execZpMff e d a imm s
  | .zpAtun e d a b parm => Sys2Proof.Machine.execZpAtun e d a b parm s
  | .zpRdn e d a imm => Sys2Proof.Machine.execZpRdn e d a imm s
  | .zpPubt e d a imm => Sys2Proof.Machine.execZpPubt e d a imm s
  | .zpDem e d a imm => Sys2Proof.Machine.execZpDem e d a imm s
  | .zpPst e d a imm => Sys2Proof.Machine.execZpPst e d a imm s
  | .zpAlm e d a imm => Sys2Proof.Machine.execZpAlm e d a imm s
  | .zpMupd e d a imm => Sys2Proof.Machine.execZpMupd e d a imm s
  | .zpMrd e d a imm => Sys2Proof.Machine.execZpMrd e d a imm s
  | .programLoad h t id img => Sys2Proof.Machine.execProgramLoad h t id img s
  | .programLoadResult t => Sys2Proof.Machine.execProgramLoadResult t s
  | .programUnload h t id force => Sys2Proof.Machine.execProgramUnload h t id force s
  | .modelHeldTimeout z => Sys2Proof.Machine.execModelHeldTimeout z s
  | .neighbourDrop z n => Sys2Proof.Machine.execNeighbourDrop z n s
  | .autoTuneStart z => Sys2Proof.Machine.execAutoTuneStart z s
  | .relayTestEnd z => Sys2Proof.Machine.execRelayTestEnd z s
  | .planRoundStart => Sys2Proof.Machine.execPlanRoundStart s
  | .planIterationDeadline t doneMask => Sys2Proof.Machine.execPlanIterationDeadline t doneMask s
  | .planLateDeadline t => Sys2Proof.Machine.execPlanLateDeadline t s
  | .planCommit t => Sys2Proof.Machine.execPlanCommit t s
  | .planExpiry z => Sys2Proof.Machine.execPlanExpiry z s
  | .fightEvaluate => Sys2Proof.Machine.execFightEvaluate s
  | .fightOffsetStep z y => Sys2Proof.Machine.execFightOffsetStep z y s
  | .learningArchiveWrite => Sys2Proof.Machine.execLearningArchiveWrite s
  | .modelReset h z what => Sys2Proof.Machine.execModelReset h z what s
  | .tuneStart h z fam => Sys2Proof.Machine.execTuneStart h z fam s
  | .tuneAbort h z => Sys2Proof.Machine.execTuneAbort h z s
  | .modelCfgWrite h inst ver img => Sys2Proof.Machine.execModelCfgWrite h inst ver img s
  | .allocFrameBoundary => Sys2Proof.Machine.execAllocFrameBoundary s
  | .class0Microslot => Sys2Proof.Machine.execClass0Microslot s
  | .pdClassSample code => Sys2Proof.Machine.execPdClassSample code s
  | .valveCycleEnd ch => Sys2Proof.Machine.execValveCycleEnd ch s
  | .shedHoldoffExpiry => Sys2Proof.Machine.execShedHoldoffExpiry s
  | .plantStop h mask => Sys2Proof.Machine.execPlantStop h mask s
  | .plantResume h mask => Sys2Proof.Machine.execPlantResume h mask s
  | .actMapWrite h inst ver img => Sys2Proof.Machine.execActMapWrite h inst ver img s
  | .budgetCfgWrite h inst ver img => Sys2Proof.Machine.execBudgetCfgWrite h inst ver img s
  | .boostEnd ch => Sys2Proof.Machine.execBoostEnd ch s
  | .closureWatchSample ch time ma => Sys2Proof.Machine.execClosureWatchSample ch time ma s
  | .coilModelUpdate currents => Sys2Proof.Machine.execCoilModelUpdate currents s
  | .offStateDiagnostic ch mv0 mv1 => Sys2Proof.Machine.execOffStateDiagnostic ch mv0 mv1 s
  | .channelShortTrip ch => Sys2Proof.Machine.execChannelShortTrip ch s
  | .channelJunctionTrip ch => Sys2Proof.Machine.execChannelJunctionTrip ch s
  | .dieSumTrip die => Sys2Proof.Machine.execDieSumTrip die s
  | .pkgOcClear ch => Sys2Proof.Machine.execPkgOcClear ch s
  | .channelOvercurrent ch ma => Sys2Proof.Machine.execChannelOvercurrent ch ma s
  | .channelOpenLoad ch ma => Sys2Proof.Machine.execChannelOpenLoad ch ma s
  | .channelSenseLost ch => Sys2Proof.Machine.execChannelSenseLost ch s
  | .vboostMonitor v => Sys2Proof.Machine.execVboostMonitor v s
  | .boostNotReady => Sys2Proof.Machine.execBoostNotReady s
  | .boostReadyClear => Sys2Proof.Machine.execBoostReadyClear s
  | .channelManual h ch mode wait timeout => Sys2Proof.Machine.execChannelManual h ch mode wait timeout s
  | .channelManualTimeout ch => Sys2Proof.Machine.execChannelManualTimeout ch s
  | .channelReset h ch => Sys2Proof.Machine.execChannelReset h ch s
  | .channelForceOff h mask => Sys2Proof.Machine.execChannelForceOff h mask s
  | .channelForceRelease h mask => Sys2Proof.Machine.execChannelForceRelease h mask s
  | .chCfgWrite h inst ver img => Sys2Proof.Machine.execChCfgWrite h inst ver img s
  | .encoderEdge e levels time => Sys2Proof.Machine.execEncoderEdge e levels time s
  | .sincosSample e sinv cosv time => Sys2Proof.Machine.execSincosSample e sinv cosv time s
  | .indexEdge e time => Sys2Proof.Machine.execIndexEdge e time s
  | .encDirection e => Sys2Proof.Machine.execEncDirection e s
  | .speedLoopUpdate e time => Sys2Proof.Machine.execSpeedLoopUpdate e time s
  | .positionLoopUpdate a ma => Sys2Proof.Machine.execPositionLoopUpdate a ma s
  | .axisInPosition a => Sys2Proof.Machine.execAxisInPosition a s
  | .driftCorrection a => Sys2Proof.Machine.execDriftCorrection a s
  | .axisStall a => Sys2Proof.Machine.execAxisStall a s
  | .stallRetry a => Sys2Proof.Machine.execStallRetry a s
  | .axisMoveTimeout a => Sys2Proof.Machine.execAxisMoveTimeout a s
  | .homeTimeout a => Sys2Proof.Machine.execHomeTimeout a s
  | .axisNoCurrent a ma => Sys2Proof.Machine.execAxisNoCurrent a ma s
  | .axisSenseStale a => Sys2Proof.Machine.execAxisSenseStale a s
  | .axisManual h a mode pos timeout => Sys2Proof.Machine.execAxisManual h a mode pos timeout s
  | .axisManualTimeout a => Sys2Proof.Machine.execAxisManualTimeout a s
  | .axisHome h a => Sys2Proof.Machine.execAxisHome h a s
  | .axisReset h a trip => Sys2Proof.Machine.execAxisReset h a trip s
  | .encArmIndex h e arm => Sys2Proof.Machine.execEncArmIndex h e arm s
  | .encPreset h e pos => Sys2Proof.Machine.execEncPreset h e pos s
  | .axCfgWrite h inst ver img => Sys2Proof.Machine.execAxCfgWrite h inst ver img s
  | .encCfgWrite h inst ver img => Sys2Proof.Machine.execEncCfgWrite h inst ver img s
  | .fanStep time => Sys2Proof.Machine.execFanStep time s
  | .tachEdge p time => Sys2Proof.Machine.execTachEdge p time s
  | .fanWatchdogExpiry => Sys2Proof.Machine.execFanWatchdogExpiry s
  | .purgeDurationEnd set => Sys2Proof.Machine.execPurgeDurationEnd set s
  | .fanManual h g mode duty timeout => Sys2Proof.Machine.execFanManual h g mode duty timeout s
  | .fanManualTimeout g => Sys2Proof.Machine.execFanManualTimeout g s
  | .fangroupReset h g => Sys2Proof.Machine.execFangroupReset h g s
  | .purgeRequest h set action => Sys2Proof.Machine.execPurgeRequest h set action s
  | .fanPortCfgWrite h inst ver img => Sys2Proof.Machine.execFanPortCfgWrite h inst ver img s
  | .arrayRegularTrigger => Sys2Proof.Machine.execArrayRegularTrigger s
  | .arrayInjectedTrigger a => Sys2Proof.Machine.execArrayInjectedTrigger a s
  | .conversionComplete a kind idx slice raws => Sys2Proof.Machine.execConversionComplete a kind idx slice raws s
  | .arraySequenceEnd a => Sys2Proof.Machine.execArraySequenceEnd a s
  | .selfCalibrationStart a => Sys2Proof.Machine.execSelfCalibrationStart a s
  | .selfCalibrationComplete a factors late => Sys2Proof.Machine.execSelfCalibrationComplete a factors late s
  | .ainProcess => Sys2Proof.Machine.execAinProcess s
  | .ainPublish n => Sys2Proof.Machine.execAinPublish n s
  | .prsSample closed => Sys2Proof.Machine.execPrsSample closed s
  | .presenceRefresh => Sys2Proof.Machine.execPresenceRefresh s
  | .keypadScan ratios => Sys2Proof.Machine.execKeypadScan ratios s
  | .keyStuck kp l => Sys2Proof.Machine.execKeyStuck kp l s
  | .nudgeHoldExpiry kp => Sys2Proof.Machine.execNudgeHoldExpiry kp s
  | .keypadBindingRefresh => Sys2Proof.Machine.execKeypadBindingRefresh s
  | .wardenScan keys => Sys2Proof.Machine.execWardenScan keys s
  | .keyLogMove => Sys2Proof.Machine.execKeyLogMove s
  | .feederReport h entries => Sys2Proof.Machine.execFeederReport h entries s
  | .meterPoll => Sys2Proof.Machine.execMeterPoll s
  | .modbusResponse addr func crcOk regs => Sys2Proof.Machine.execModbusResponse addr func crcOk regs s
  | .modbusTimeout => Sys2Proof.Machine.execModbusTimeout s
  | .arraySelfCal h a => Sys2Proof.Machine.execArraySelfCal h a s
  | .arrayReset h a => Sys2Proof.Machine.execArrayReset h a s
  | .keyLogRead h src from_ => Sys2Proof.Machine.execKeyLogRead h src from_ s
  | .feedSrcWrite h inst ver img => Sys2Proof.Machine.execFeedSrcWrite h inst ver img s
  | .meterCfgWrite h inst ver img => Sys2Proof.Machine.execMeterCfgWrite h inst ver img s
  | .fbkClockLoss => Sys2Proof.Machine.execFbkClockLoss s
  | .fbkClockReturn => Sys2Proof.Machine.execFbkClockReturn s
  | .freshEvaluationEnd => Sys2Proof.Machine.execFreshEvaluationEnd s
  | .inputFilterExpiry n ohms => Sys2Proof.Machine.execInputFilterExpiry n ohms s
  | .lineFaultExpiry n ohms => Sys2Proof.Machine.execLineFaultExpiry n ohms s
  | .discrepancyExpiry => Sys2Proof.Machine.execDiscrepancyExpiry s
  | .safetyReset key okMask => Sys2Proof.Machine.execSafetyReset key okMask s
  | .wardenKeyStuck key => Sys2Proof.Machine.execWardenKeyStuck key s
  | .heartbeatWrite gatehouse => Sys2Proof.Machine.execHeartbeatWrite gatehouse s
  | .heartbeatTimeout => Sys2Proof.Machine.execHeartbeatTimeout s
  | .soEnergise => Sys2Proof.Machine.execSoEnergise s
  | .offPulseTest k pass => Sys2Proof.Machine.execOffPulseTest k pass s
  | .soReadbackFault k kind ma => Sys2Proof.Machine.execSoReadbackFault k kind ma s
  | .vsafeChange low dv => Sys2Proof.Machine.execVsafeChange low dv s
  | .safetyConfigCommit h which inst ver img => Sys2Proof.Machine.execSafetyConfigCommit h which inst ver img s
  | .soRequest h set clear => Sys2Proof.Machine.execSoRequest h set clear s
  | .meteringTick fails => Sys2Proof.Machine.execMeteringTick fails s
  | .statementExpiry o => Sys2Proof.Machine.execStatementExpiry o s
  | .epochCut h o cut => Sys2Proof.Machine.execEpochCut h o cut s
  | .epochSign h o seq sig => Sys2Proof.Machine.execEpochSign h o seq sig s
  | .meterMapWrite h inst ver img => Sys2Proof.Machine.execMeterMapWrite h inst ver img s
  | .rtcXtalFailure stopped => Sys2Proof.Machine.execRtcXtalFailure stopped s
  | .rtcXtalRestore => Sys2Proof.Machine.execRtcXtalRestore s
  | .selectorEvaluate spread0 spread1 => Sys2Proof.Machine.execSelectorEvaluate spread0 spread1 s
  | .referenceQualified => Sys2Proof.Machine.execReferenceQualified s
  | .holdoverExpiry => Sys2Proof.Machine.execHoldoverExpiry s
  | .ptpAnnounce p msg good => Sys2Proof.Machine.execPtpAnnounce p msg good s
  | .announceTimeout p => Sys2Proof.Machine.execAnnounceTimeout p s
  | .ptpSync p msg twoStep origin corr => Sys2Proof.Machine.execPtpSync p msg twoStep origin corr s
  | .ptpFollowUp p msg origin corr => Sys2Proof.Machine.execPtpFollowUp p msg origin corr s
  | .ptpDelayResp p msg received corr => Sys2Proof.Machine.execPtpDelayResp p msg received corr s
  | .delayReqSend p fine stamped => Sys2Proof.Machine.execDelayReqSend p fine stamped s
  | .ppsEdge fine => Sys2Proof.Machine.execPpsEdge fine s
  | .rtcForwardStep => Sys2Proof.Machine.execRtcForwardStep s
  | .servoPhaseExpiry => Sys2Proof.Machine.execServoPhaseExpiry s
  | .daylightChange => Sys2Proof.Machine.execDaylightChange s
  | .localTimeEdge => Sys2Proof.Machine.execLocalTimeEdge s
  | .timeCapture h fine => Sys2Proof.Machine.execTimeCapture h fine s
  | .timeSet h seconds => Sys2Proof.Machine.execTimeSet h seconds s
  | .timeRefCfgWrite h inst ver img => Sys2Proof.Machine.execTimeRefCfgWrite h inst ver img s
  | .ptpCfgWrite h inst ver img => Sys2Proof.Machine.execPtpCfgWrite h inst ver img s
  | .timeZoneWrite h inst ver img => Sys2Proof.Machine.execTimeZoneWrite h inst ver img s
  | .storeStart => Sys2Proof.Machine.execStoreStart s
  | .storeCommit ok page => Sys2Proof.Machine.execStoreCommit ok page s
  | .bankEraseDone ok ckFails => Sys2Proof.Machine.execBankEraseDone ok ckFails s
  | .marginReadStart => Sys2Proof.Machine.execMarginReadStart s
  | .marginReadDone bank page ring => Sys2Proof.Machine.execMarginReadDone bank page ring s
  | .ringSectorEraseDone ok fails => Sys2Proof.Machine.execRingSectorEraseDone ok fails s
  | .shadowPageReload page => Sys2Proof.Machine.execShadowPageReload page s
  | .powerFail dv => Sys2Proof.Machine.execPowerFail dv s
  | .store h => Sys2Proof.Machine.execStore h s
  | .rawOpen h kind word => Sys2Proof.Machine.execRawOpen h kind word s
  | .rawRead h offset len => Sys2Proof.Machine.execRawRead h offset len s
  | .rawWrite h offset len data => Sys2Proof.Machine.execRawWrite h offset len data s
  | .shadowInit h serial confirm => Sys2Proof.Machine.execShadowInit h serial confirm s
  | .vbusConditionChange code entered dv => Sys2Proof.Machine.execVbusConditionChange code entered dv s
  | .holdRailStartDone v => Sys2Proof.Machine.execHoldRailStartDone v s
  | .holdRailStartTimeout => Sys2Proof.Machine.execHoldRailStartTimeout s
  | .holdRailUndervolt v => Sys2Proof.Machine.execHoldRailUndervolt v s
  | .holdRailOvervolt v => Sys2Proof.Machine.execHoldRailOvervolt v s
  | .holdRailRestart => Sys2Proof.Machine.execHoldRailRestart s
  | .offsetCheck uv ma => Sys2Proof.Machine.execOffsetCheck uv ma s
  | .phaseOpenDetect p ma mean dutyPermille => Sys2Proof.Machine.execPhaseOpenDetect p ma mean dutyPermille s
  | .phaseDisagree p own arrayB => Sys2Proof.Machine.execPhaseDisagree p own arrayB s
  | .holdRailCfgWrite h inst ver img => Sys2Proof.Machine.execHoldRailCfgWrite h inst ver img s
  | .vcoreRaise t fails word => Sys2Proof.Machine.execVcoreRaise t fails word s
  | .vcoreSettled mv us fails word => Sys2Proof.Machine.execVcoreSettled mv us fails word s
  | .terraceRelockStart t => Sys2Proof.Machine.execTerraceRelockStart t s
  | .terraceRelockLocked t => Sys2Proof.Machine.execTerraceRelockLocked t s
  | .terraceRelockReturn t fails word => Sys2Proof.Machine.execTerraceRelockReturn t fails word s
  | .pllLossOfLock k => Sys2Proof.Machine.execPllLossOfLock k s
  | .pllbRelock => Sys2Proof.Machine.execPllbRelock s
  | .slowRound sens mv ma fails word slack => Sys2Proof.Machine.execSlowRound sens mv ma fails word slack s
  | .buckRestore h mask v bad => Sys2Proof.Machine.execBuckRestore h mask v bad s
  | .vaonValid vbak => Sys2Proof.Machine.execVaonValid vbak s
  | .firebreakTierReached => Sys2Proof.Machine.execFirebreakTierReached s
  | .crystalStarted => Sys2Proof.Machine.execCrystalStarted s
  | .refRcSwitch => Sys2Proof.Machine.execRefRcSwitch s
  | .coreEnable => Sys2Proof.Machine.execCoreEnable s
  | .pgCoreRise pllA pllB => Sys2Proof.Machine.execPgCoreRise pllA pllB s
  | .coreStartTimeout => Sys2Proof.Machine.execCoreStartTimeout s
  | .pgCoreLoss => Sys2Proof.Machine.execPgCoreLoss s
  | .brownout rail good => Sys2Proof.Machine.execBrownout rail good s
  | .shadowPowerUp badA badB copyFails => Sys2Proof.Machine.execShadowPowerUp badA badB copyFails s
  | .gatehouseSelfTest ok => Sys2Proof.Machine.execGatehouseSelfTest ok s
  | .bootImageSelect prog => Sys2Proof.Machine.execBootImageSelect prog s
  | .kfwStart ok => Sys2Proof.Machine.execKfwStart ok s
  | .terracesStart fails linear => Sys2Proof.Machine.execTerracesStart fails linear s
  | .fullCheck => Sys2Proof.Machine.execFullCheck s
  | .tierFall mask => Sys2Proof.Machine.execTierFall mask s
  | .tierRise mask linear => Sys2Proof.Machine.execTierRise mask linear s
  | .keeperFault cause => Sys2Proof.Machine.execKeeperFault cause s
  | .keeperRestartComplete => Sys2Proof.Machine.execKeeperRestartComplete s
  | .gatehouseFault => Sys2Proof.Machine.execGatehouseFault s
  | .gatehouseRestartComplete => Sys2Proof.Machine.execGatehouseRestartComplete s
  | .tierHoldExpiry => Sys2Proof.Machine.execTierHoldExpiry s
  | .powerReturn => Sys2Proof.Machine.execPowerReturn s
  | .chipReset cause => Sys2Proof.Machine.execChipReset cause s
  | .resetPinChange isLow => Sys2Proof.Machine.execResetPinChange isLow s
  | .resetPinStuck => Sys2Proof.Machine.execResetPinStuck s
  | .resetPinRecover => Sys2Proof.Machine.execResetPinRecover s
  | .configBundleWrite cut => Sys2Proof.Machine.execConfigBundleWrite cut s
  | .snapInTrigger => Sys2Proof.Machine.execSnapInTrigger s
  | .snapshot h => Sys2Proof.Machine.execSnapshot h s
  | .snapRead h segment inst offset maxLen => Sys2Proof.Machine.execSnapRead h segment inst offset maxLen s
  | .snapClear h => Sys2Proof.Machine.execSnapClear h s
  | .fwStageOpen h image length => Sys2Proof.Machine.execFwStageOpen h image length s
  | .fwStageEraseDone => Sys2Proof.Machine.execFwStageEraseDone s
  | .fwStageWrite h image offset data => Sys2Proof.Machine.execFwStageWrite h image offset data s
  | .fwStageClose h image sigOk hashOk => Sys2Proof.Machine.execFwStageClose h image sigOk hashOk s
  | .fwActivate h mask => Sys2Proof.Machine.execFwActivate h mask s
  | .acceptUntestedSet h kfw zrt ghp sig => Sys2Proof.Machine.execAcceptUntestedSet h kfw zrt ghp sig s
  | .frameRefusal h opcode fault => Sys2Proof.Machine.execFrameRefusal h opcode fault s
  | .ethernetLinkChange p isUp => Sys2Proof.Machine.execEthernetLinkChange p isUp s
  | .slewEnd => Sys2Proof.Machine.execSlewEnd s
  | .minEdgeExpiry e time => Sys2Proof.Machine.execMinEdgeExpiry e time s

end Sys2Proof.Machine
end

