-- ==== Sys2Proof/Machine/Step.lean ====
section
/-!
DEFINITION. One step: the command at the front of the queue, or one crystal cycle where none waits.
-/

namespace Sys2Proof.Machine

/-- On an empty queue one cycle of the 32.768 kHz crystal passes: elapsed time goes on and the RTC counts (R421, R423). -/
def State.tick (s : State) : State := State.settle { s with chip := s.chip.rtcCycle }

/-- One step of the block. -/
def step (s : State) : Host.Outcome State Fault Refusal :=
  match s.pending with
  | [] => .next s.tick
  | i :: rest => exec i { s with pending := rest }

/-- The command a word spells, put at the front of the queue. -/
def State.withFetchWord (s : State) (nbits w : Nat) : State :=
  match decodeTableWord nbits w with
  | some i => { s with pending := i :: s.pending }
  | none => s

end Sys2Proof.Machine
end

