-- ==== Sys2Proof/WellFormed.lean ====
section
/-!
DEFINITION. Which commands can be sent and which events can happen: every operand inside its field's width, a payload as long as its
header says, and every unit one that the part has (Table 0.5).
-/

namespace Sys2Proof

/-- One thing a well-formed command obeys. -/
inductive Check where
  | header (h : Hdr)                            -- the fields of the frame header (Table 2.1)
  | width (v bits : Nat)                        -- an operand lies inside its field
  | sig (s : Sig)                               -- a signature field of 64 bytes and a key of 64
  | image (v len : Nat)                         -- a record or table image is as long as the payload leaves
  | bytes (l : Bytes) (len : Nat)               -- data bytes, as many as the payload leaves
  | entries (l : List (Nat × Nat × Nat))        -- the entries of a feeder report (R358)
  | unit (v count : Nat)                        -- the part has the unit
  deriving DecidableEq, Repr

/-- The header's fields (Table 2.1): endpoint 0 to 17, class 0 to 3, an assembled length of at most 16 KiB. -/
def Hdr.wf (h : Hdr) : Bool :=
  decide (h.ep < 18) && decide (h.session < 2 ^ 16) && decide (h.seq < 2 ^ 64) && decide (h.tag < 2 ^ 16) && decide (h.cls < 4)
    && decide (h.zero < 2 ^ 16) && decide (h.rsv < 2 ^ 16) && decide (h.len < 2 ^ 16)

/-- The check holds. -/
def Check.holds : Check → Bool
  | .header h => h.wf
  | .width v bits => decide (v < 2 ^ bits)
  | .sig s => decide (s.key < 2 ^ 512) && decide (s.bytes < 2 ^ 512)
  | .image v len => decide (v < 256 ^ len)
  | .bytes l len => l.length == len && l.all (fun b => decide (b < 256))
  | .entries l => l.all (fun e => decide (e.1 < 2 ^ 16) && decide (e.2.1 < 2 ^ 16) && decide (e.2.2 < 2 ^ 32))
  | .unit v count => decide (v < count)

/-- What each command must obey. -/
def Instr.obeys : Instr → List Check
  | .ping h echo => [.header h, .bytes echo (h.len - 0)]
  | .sessionOpen h kind index challenge nonce eph sig newKey mac => [.header h, .width kind 8, .width index 8, .width challenge 128, .width nonce 256, .width eph 512, .sig sig, .width newKey 512, .sig mac]
  | .sessionClose h => [.header h]
  | .sessionIdleTimeout si => [.width si 8, .unit si 128]
  | .subscribe h mask minSev => [.header h, .width mask 16, .width minSev 8]
  | .unsubscribe h => [.header h]
  | .getRecord h rec inst offset maxLen => [.header h, .width rec 16, .width inst 16, .width offset 16, .width maxLen 16]
  | .setRecord h rec inst ver img => [.header h, .width rec 16, .width inst 16, .width ver 32, .image img (h.len - 8)]
  | .resultGet h handle offset maxLen => [.header h, .width handle 16, .width offset 32, .width maxLen 16]
  | .resultRelease h handle => [.header h, .width handle 16]
  | .endpointReset h e => [.header h, .width e 8]
  | .endpointCfgWrite h inst ver img => [.header h, .width inst 16, .width ver 32, .image img (h.len - 8)]
  | .fragmentStore h opcode => [.header h, .width opcode 16]
  | .fragmentTimeout si tag => [.width si 8, .width tag 16, .unit si 128]
  | .spiWrite _ => []
  | .spiRead _ => []
  | .spiStatus => []
  | .arpRequest e target asker => [.width e 8, .width target 128, .width asker 64, .unit e 18]
  | .neighbourSolicitation e target asker => [.width e 8, .width target 128, .width asker 64, .unit e 18]
  | .eventTransmit e si => [.width e 8, .width si 8, .unit e 18, .unit si 128]
  | .heldEventRelease => []
  | .getIdentity h cert => [.header h, .width cert 8]
  | .attest h nonce => [.header h, .width nonce 256]
  | .credentialWrite h k inst ver img => [.header h, .width k 8, .width inst 16, .width ver 32, .image img (h.len - 8), .unit k 3]
  | .plotCreate h p lifetime => [.header h, .width p 8, .width lifetime 32]
  | .enrolCodeExpiry p => [.width p 8, .unit p 256]
  | .plotEvict h p => [.header h, .width p 8]
  | .plotWipe p => [.width p 8, .unit p 256]
  | .plotKeyRotate h key sig => [.header h, .width key 512, .sig sig]
  | .privacyCfgWrite h inst ver img => [.header h, .width inst 16, .width ver 32, .image img (h.len - 8)]
  | .occGroupWrite h inst ver img => [.header h, .width inst 16, .width ver 32, .image img (h.len - 8)]
  | .quarterHourAggregate => []
  | .servicePinChange pins => [.width pins 8, .unit pins 4]
  | .debugChallenge h => [.header h]
  | .debugUnlock h serial challenge minutes keyId vsig => [.header h, .width serial 64, .width challenge 128, .width minutes 16, .width keyId 8, .sig vsig]
  | .debugUnlockApply => []
  | .debugLock h => [.header h]
  | .unlockEnd => []
  | .decommission h serial confirm => [.header h, .width serial 64, .width confirm 32]
  | .rollbackCommit h image => [.header h, .width image 8]
  | .shadowMinRaise => []
  | .windowPortPhase e frame window => [.width e 8, .width frame 32, .width window 8, .unit e 256]
  | .zoneExecution e => [.width e 8, .unit e 256]
  | .publishPoint e => [.width e 8, .unit e 256]
  | .bindingUpdate => []
  | .terraceWatchdog t cause => [.width t 8, .width cause 8, .unit t 4]
  | .terraceResetDone t resume _ => [.width t 8, .width resume 64, .unit t 4]
  | .eccScrub t region offset _ => [.width t 8, .width region 8, .width offset 32, .unit t 4, .unit region 5]
  | .programStoreRepair t id => [.width t 8, .width id 8, .unit t 4, .unit id 128]
  | .pergolaFault p cause => [.width p 8, .width cause 8, .unit p 64]
  | .pergolaSelfTestDone p _ => [.width p 8, .unit p 64]
  | .pergolaMigration t => [.width t 8, .unit t 4]
  | .pergolaReturnHome t => [.width t 8, .unit t 4]
  | .zoneReset h z => [.header h, .width z 16]
  | .engineReset h e => [.header h, .width e 8]
  | .engineResetApply e => [.width e 8, .unit e 256]
  | .pergolaReset h p => [.header h, .width p 8]
  | .terraceReset h t => [.header h, .width t 8]
  | .tickTableLoad h img => [.header h, .image img (h.len - 0)]
  | .tickTableValidated t => [.width t 8, .unit t 4]
  | .tickTableCommitPoint t => [.width t 8, .unit t 4]
  | .tickTableActive t => [.width t 8, .unit t 4]
  | .zoneIsolate h z => [.header h, .width z 16]
  | .zoneRelease h z => [.header h, .width z 16]
  | .plotReset h p => [.header h, .width p 8]
  | .zoneCfgWrite h inst ver img => [.header h, .width inst 16, .width ver 32, .image img (h.len - 8)]
  | .zoneParamsWrite h inst ver img => [.header h, .width inst 16, .width ver 32, .image img (h.len - 8)]
  | .plotLimitsWrite h inst ver img => [.header h, .width inst 16, .width ver 32, .image img (h.len - 8)]
  | .plotIsolationWrite h inst ver img => [.header h, .width inst 16, .width ver 32, .image img (h.len - 8)]
  | .terracePerfWrite h inst ver img => [.header h, .width inst 16, .width ver 32, .image img (h.len - 8)]
  | .zpEnd e d a imm => [.width e 8, .width d 5, .width a 5, .width imm 16, .unit e 256]
  | .zpMov e d a imm => [.width e 8, .width d 5, .width a 5, .width imm 16, .unit e 256]
  | .zpLdl e d a imm => [.width e 8, .width d 5, .width a 5, .width imm 16, .unit e 256]
  | .zpLdh e d a imm => [.width e 8, .width d 5, .width a 5, .width imm 16, .unit e 256]
  | .zpLdc e d a imm => [.width e 8, .width d 5, .width a 5, .width imm 16, .unit e 256]
  | .zpLdp e d a imm => [.width e 8, .width d 5, .width a 5, .width imm 16, .unit e 256]
  | .zpLds e d a imm => [.width e 8, .width d 5, .width a 5, .width imm 16, .unit e 256]
  | .zpSts e d a imm => [.width e 8, .width d 5, .width a 5, .width imm 16, .unit e 256]
  | .zpAdd e d a b parm => [.width e 8, .width d 5, .width a 5, .width b 5, .width parm 11, .unit e 256]
  | .zpSub e d a b parm => [.width e 8, .width d 5, .width a 5, .width b 5, .width parm 11, .unit e 256]
  | .zpMul e d a b parm => [.width e 8, .width d 5, .width a 5, .width b 5, .width parm 11, .unit e 256]
  | .zpDiv e d a b parm => [.width e 8, .width d 5, .width a 5, .width b 5, .width parm 11, .unit e 256]
  | .zpAddi e d a imm => [.width e 8, .width d 5, .width a 5, .width imm 16, .unit e 256]
  | .zpMuli e d a imm => [.width e 8, .width d 5, .width a 5, .width imm 16, .unit e 256]
  | .zpAbs e d a imm => [.width e 8, .width d 5, .width a 5, .width imm 16, .unit e 256]
  | .zpNeg e d a imm => [.width e 8, .width d 5, .width a 5, .width imm 16, .unit e 256]
  | .zpMin e d a b parm => [.width e 8, .width d 5, .width a 5, .width b 5, .width parm 11, .unit e 256]
  | .zpMax e d a b parm => [.width e 8, .width d 5, .width a 5, .width b 5, .width parm 11, .unit e 256]
  | .zpLim e d a b parm => [.width e 8, .width d 5, .width a 5, .width b 5, .width parm 11, .unit e 256]
  | .zpClp01 e d a imm => [.width e 8, .width d 5, .width a 5, .width imm 16, .unit e 256]
  | .zpCmp e d a b parm => [.width e 8, .width d 5, .width a 5, .width b 5, .width parm 11, .unit e 256]
  | .zpSel e d a b parm => [.width e 8, .width d 5, .width a 5, .width b 5, .width parm 11, .unit e 256]
  | .zpSkip e d a imm => [.width e 8, .width d 5, .width a 5, .width imm 16, .unit e 256]
  | .zpSkipn e d a imm => [.width e 8, .width d 5, .width a 5, .width imm 16, .unit e 256]
  | .zpTblc e d a imm => [.width e 8, .width d 5, .width a 5, .width imm 16, .unit e 256]
  | .zpTblp e d a imm => [.width e 8, .width d 5, .width a 5, .width imm 16, .unit e 256]
  | .zpLpf e d a b parm => [.width e 8, .width d 5, .width a 5, .width b 5, .width parm 11, .unit e 256]
  | .zpRate e d a b parm => [.width e 8, .width d 5, .width a 5, .width b 5, .width parm 11, .unit e 256]
  | .zpHyst e d a b parm => [.width e 8, .width d 5, .width a 5, .width b 5, .width parm 11, .unit e 256]
  | .zpTon e d a b parm => [.width e 8, .width d 5, .width a 5, .width b 5, .width parm 11, .unit e 256]
  | .zpRdb e d a imm => [.width e 8, .width d 5, .width a 5, .width imm 16, .unit e 256]
  | .zpRdba e d a imm => [.width e 8, .width d 5, .width a 5, .width imm 16, .unit e 256]
  | .zpPfus e d a imm => [.width e 8, .width d 5, .width a 5, .width imm 16, .unit e 256]
  | .zpOcc e d a b parm => [.width e 8, .width d 5, .width a 5, .width b 5, .width parm 11, .unit e 256]
  | .zpSched e d a imm => [.width e 8, .width d 5, .width a 5, .width imm 16, .unit e 256]
  | .zpPlan e d a imm => [.width e 8, .width d 5, .width a 5, .width imm 16, .unit e 256]
  | .zpRdsys e d a imm => [.width e 8, .width d 5, .width a 5, .width imm 16, .unit e 256]
  | .zpPi e d a b parm => [.width e 8, .width d 5, .width a 5, .width b 5, .width parm 11, .unit e 256]
  | .zpApi e d a b parm => [.width e 8, .width d 5, .width a 5, .width b 5, .width parm 11, .unit e 256]
  | .zpMff e d a imm => [.width e 8, .width d 5, .width a 5, .width imm 16, .unit e 256]
  | .zpAtun e d a b parm => [.width e 8, .width d 5, .width a 5, .width b 5, .width parm 11, .unit e 256]
  | .zpRdn e d a imm => [.width e 8, .width d 5, .width a 5, .width imm 16, .unit e 256]
  | .zpPubt e d a imm => [.width e 8, .width d 5, .width a 5, .width imm 16, .unit e 256]
  | .zpDem e d a imm => [.width e 8, .width d 5, .width a 5, .width imm 16, .unit e 256]
  | .zpPst e d a imm => [.width e 8, .width d 5, .width a 5, .width imm 16, .unit e 256]
  | .zpAlm e d a imm => [.width e 8, .width d 5, .width a 5, .width imm 16, .unit e 256]
  | .zpMupd e d a imm => [.width e 8, .width d 5, .width a 5, .width imm 16, .unit e 256]
  | .zpMrd e d a imm => [.width e 8, .width d 5, .width a 5, .width imm 16, .unit e 256]
  | .programLoad h t id img => [.header h, .width t 8, .width id 8, .image img (h.len - 4)]
  | .programLoadResult t => [.width t 8, .unit t 4]
  | .programUnload h t id force => [.header h, .width t 8, .width id 8, .width force 8]
  | .modelHeldTimeout z => [.width z 16, .unit z 1024]
  | .neighbourDrop z n => [.width z 16, .width n 8, .unit z 1024, .unit n 8]
  | .autoTuneStart z => [.width z 16, .unit z 1024]
  | .relayTestEnd z => [.width z 16, .unit z 1024]
  | .planRoundStart => []
  | .planIterationDeadline t doneMask => [.width t 8, .width doneMask 256, .unit t 4]
  | .planLateDeadline t => [.width t 8, .unit t 4]
  | .planCommit t => [.width t 8, .unit t 4]
  | .planExpiry z => [.width z 16, .unit z 1024]
  | .fightEvaluate => []
  | .fightOffsetStep z y => [.width z 16, .width y 16, .unit z 1024, .unit y 1024]
  | .learningArchiveWrite => []
  | .modelReset h z what => [.header h, .width z 16, .width what 8]
  | .tuneStart h z fam => [.header h, .width z 16, .width fam 8]
  | .tuneAbort h z => [.header h, .width z 16]
  | .modelCfgWrite h inst ver img => [.header h, .width inst 16, .width ver 32, .image img (h.len - 8)]
  | .allocFrameBoundary => []
  | .class0Microslot => []
  | .pdClassSample code => [.width code 8, .unit code 8]
  | .valveCycleEnd ch => [.width ch 8, .unit ch 96]
  | .shedHoldoffExpiry => []
  | .plantStop h mask => [.header h, .width mask 8]
  | .plantResume h mask => [.header h, .width mask 8]
  | .actMapWrite h inst ver img => [.header h, .width inst 16, .width ver 32, .image img (h.len - 8)]
  | .budgetCfgWrite h inst ver img => [.header h, .width inst 16, .width ver 32, .image img (h.len - 8)]
  | .boostEnd ch => [.width ch 8, .unit ch 96]
  | .closureWatchSample ch time ma => [.width ch 8, .width time 64, .width ma 32, .unit ch 96]
  | .coilModelUpdate _ => []
  | .offStateDiagnostic ch mv0 mv1 => [.width ch 8, .width mv0 16, .width mv1 16, .unit ch 96]
  | .channelShortTrip ch => [.width ch 8, .unit ch 96]
  | .channelJunctionTrip ch => [.width ch 8, .unit ch 96]
  | .dieSumTrip die => [.width die 8, .unit die 2]
  | .pkgOcClear ch => [.width ch 8, .unit ch 96]
  | .channelOvercurrent ch ma => [.width ch 8, .width ma 32, .unit ch 96]
  | .channelOpenLoad ch ma => [.width ch 8, .width ma 32, .unit ch 96]
  | .channelSenseLost ch => [.width ch 8, .unit ch 96]
  | .vboostMonitor v => [.width v 16]
  | .boostNotReady => []
  | .boostReadyClear => []
  | .channelManual h ch mode wait timeout => [.header h, .width ch 8, .width mode 8, .width wait 8, .width timeout 16]
  | .channelManualTimeout ch => [.width ch 8, .unit ch 96]
  | .channelReset h ch => [.header h, .width ch 8]
  | .channelForceOff h mask => [.header h, .width mask 96]
  | .channelForceRelease h mask => [.header h, .width mask 96]
  | .chCfgWrite h inst ver img => [.header h, .width inst 16, .width ver 32, .image img (h.len - 8)]
  | .encoderEdge e levels time => [.width e 8, .width levels 8, .width time 64, .unit e 24, .unit levels 8]
  | .sincosSample e _ _ time => [.width e 8, .width time 64, .unit e 24]
  | .indexEdge e time => [.width e 8, .width time 64, .unit e 24]
  | .encDirection e => [.width e 8, .unit e 24]
  | .speedLoopUpdate e time => [.width e 8, .width time 64, .unit e 24]
  | .positionLoopUpdate a ma => [.width a 8, .width ma 32, .unit a 24]
  | .axisInPosition a => [.width a 8, .unit a 24]
  | .driftCorrection a => [.width a 8, .unit a 24]
  | .axisStall a => [.width a 8, .unit a 24]
  | .stallRetry a => [.width a 8, .unit a 24]
  | .axisMoveTimeout a => [.width a 8, .unit a 24]
  | .homeTimeout a => [.width a 8, .unit a 24]
  | .axisNoCurrent a ma => [.width a 8, .width ma 32, .unit a 24]
  | .axisSenseStale a => [.width a 8, .unit a 24]
  | .axisManual h a mode pos timeout => [.header h, .width a 8, .width mode 8, .width pos 16, .width timeout 16]
  | .axisManualTimeout a => [.width a 8, .unit a 24]
  | .axisHome h a => [.header h, .width a 8]
  | .axisReset h a _ => [.header h, .width a 8]
  | .encArmIndex h e arm => [.header h, .width e 8, .width arm 8]
  | .encPreset h e pos => [.header h, .width e 8, .width pos 32]
  | .axCfgWrite h inst ver img => [.header h, .width inst 16, .width ver 32, .image img (h.len - 8)]
  | .encCfgWrite h inst ver img => [.header h, .width inst 16, .width ver 32, .image img (h.len - 8)]
  | .fanStep time => [.width time 64]
  | .tachEdge p time => [.width p 8, .width time 64, .unit p 32]
  | .fanWatchdogExpiry => []
  | .purgeDurationEnd set => [.width set 8, .unit set 8]
  | .fanManual h g mode duty timeout => [.header h, .width g 8, .width mode 8, .width duty 16, .width timeout 16]
  | .fanManualTimeout g => [.width g 8, .unit g 16]
  | .fangroupReset h g => [.header h, .width g 8]
  | .purgeRequest h set action => [.header h, .width set 8, .width action 8]
  | .fanPortCfgWrite h inst ver img => [.header h, .width inst 16, .width ver 32, .image img (h.len - 8)]
  | .arrayRegularTrigger => []
  | .arrayInjectedTrigger a => [.width a 8, .unit a 2]
  | .conversionComplete a kind idx slice _ => [.width a 8, .width kind 8, .width idx 8, .width slice 8, .unit a 2, .unit kind 2]
  | .arraySequenceEnd a => [.width a 8, .unit a 2]
  | .selfCalibrationStart a => [.width a 8, .unit a 2]
  | .selfCalibrationComplete a _ _ => [.width a 8, .unit a 2]
  | .ainProcess => []
  | .ainPublish n => [.width n 8, .unit n 64]
  | .prsSample closed => [.width closed 32]
  | .presenceRefresh => []
  | .keypadScan _ => []
  | .keyStuck kp l => [.width kp 8, .width l 8, .unit kp 24, .unit l 2]
  | .nudgeHoldExpiry kp => [.width kp 8, .unit kp 24]
  | .keypadBindingRefresh => []
  | .wardenScan keys => [.width keys 64]
  | .keyLogMove => []
  | .feederReport h entries => [.header h, .entries entries]
  | .meterPoll => []
  | .modbusResponse addr func _ _ => [.width addr 8, .width func 8]
  | .modbusTimeout => []
  | .arraySelfCal h a => [.header h, .width a 8]
  | .arrayReset h a => [.header h, .width a 8]
  | .keyLogRead h src from_ => [.header h, .width src 8, .width from_ 32]
  | .feedSrcWrite h inst ver img => [.header h, .width inst 16, .width ver 32, .image img (h.len - 8)]
  | .meterCfgWrite h inst ver img => [.header h, .width inst 16, .width ver 32, .image img (h.len - 8)]
  | .fbkClockLoss => []
  | .fbkClockReturn => []
  | .freshEvaluationEnd => []
  | .inputFilterExpiry n ohms => [.width n 8, .width ohms 32, .unit n 4]
  | .lineFaultExpiry n ohms => [.width n 8, .width ohms 32, .unit n 4]
  | .discrepancyExpiry => []
  | .safetyReset key okMask => [.width key 8, .width okMask 16, .unit key 64]
  | .wardenKeyStuck key => [.width key 8, .unit key 64]
  | .heartbeatWrite _ => []
  | .heartbeatTimeout => []
  | .soEnergise => []
  | .offPulseTest k _ => [.width k 8, .unit k 16]
  | .soReadbackFault k kind ma => [.width k 8, .width kind 8, .width ma 32, .unit k 16]
  | .vsafeChange _ dv => [.width dv 16]
  | .safetyConfigCommit h which inst ver img => [.header h, .width which 8, .width inst 16, .width ver 32, .image img (h.len - 8), .unit which 5]
  | .soRequest h set clear => [.header h, .width set 16, .width clear 16]
  | .meteringTick _ => []
  | .statementExpiry o => [.width o 16, .unit o 257]
  | .epochCut h o cut => [.header h, .width o 16, .width cut 64]
  | .epochSign h o seq sig => [.header h, .width o 16, .width seq 32, .sig sig]
  | .meterMapWrite h inst ver img => [.header h, .width inst 16, .width ver 32, .image img (h.len - 8)]
  | .rtcXtalFailure _ => []
  | .rtcXtalRestore => []
  | .selectorEvaluate spread0 spread1 => [.width spread0 64, .width spread1 64]
  | .referenceQualified => []
  | .holdoverExpiry => []
  | .ptpAnnounce p _ _ => [.width p 8, .unit p 2]
  | .announceTimeout p => [.width p 8, .unit p 2]
  | .ptpSync p _ _ _ _ => [.width p 8, .unit p 2]
  | .ptpFollowUp p _ _ _ => [.width p 8, .unit p 2]
  | .ptpDelayResp p _ _ _ => [.width p 8, .unit p 2]
  | .delayReqSend p fine _ => [.width p 8, .width fine 32, .unit p 2]
  | .ppsEdge fine => [.width fine 32]
  | .rtcForwardStep => []
  | .servoPhaseExpiry => []
  | .daylightChange => []
  | .localTimeEdge => []
  | .timeCapture h fine => [.header h, .width fine 32]
  | .timeSet h seconds => [.header h, .width seconds 64]
  | .timeRefCfgWrite h inst ver img => [.header h, .width inst 16, .width ver 32, .image img (h.len - 8)]
  | .ptpCfgWrite h inst ver img => [.header h, .width inst 16, .width ver 32, .image img (h.len - 8)]
  | .timeZoneWrite h inst ver img => [.header h, .width inst 16, .width ver 32, .image img (h.len - 8)]
  | .storeStart => []
  | .storeCommit _ page => [.width page 16]
  | .bankEraseDone _ _ => []
  | .marginReadStart => []
  | .marginReadDone bank page ring => [.width bank 32, .width page 32, .width ring 32]
  | .ringSectorEraseDone _ _ => []
  | .shadowPageReload page => [.width page 16, .unit page 512]
  | .powerFail dv => [.width dv 16]
  | .store h => [.header h]
  | .rawOpen h kind word => [.header h, .width kind 8, .width word 64]
  | .rawRead h offset len => [.header h, .width offset 32, .width len 16]
  | .rawWrite h offset len data => [.header h, .width offset 32, .width len 16, .bytes data (h.len - 8)]
  | .shadowInit h serial confirm => [.header h, .width serial 64, .width confirm 32]
  | .vbusConditionChange code _ dv => [.width code 8, .width dv 16, .unit code 5]
  | .holdRailStartDone v => [.width v 16]
  | .holdRailStartTimeout => []
  | .holdRailUndervolt v => [.width v 16]
  | .holdRailOvervolt v => [.width v 16]
  | .holdRailRestart => []
  | .offsetCheck uv ma => [.width uv 32, .width ma 32]
  | .phaseOpenDetect p ma mean dutyPermille => [.width p 8, .width ma 32, .width mean 32, .width dutyPermille 16, .unit p 4]
  | .phaseDisagree p own arrayB => [.width p 8, .width own 32, .width arrayB 32, .unit p 4]
  | .holdRailCfgWrite h inst ver img => [.header h, .width inst 16, .width ver 32, .image img (h.len - 8)]
  | .vcoreRaise t fails word => [.width t 8, .width fails 16, .width word 64, .unit t 4]
  | .vcoreSettled mv us fails word => [.width mv 16, .width us 32, .width fails 16, .width word 64]
  | .terraceRelockStart t => [.width t 8, .unit t 4]
  | .terraceRelockLocked t => [.width t 8, .unit t 4]
  | .terraceRelockReturn t fails word => [.width t 8, .width fails 16, .width word 64, .unit t 4]
  | .pllLossOfLock k => [.width k 8, .unit k 6]
  | .pllbRelock => []
  | .slowRound _ mv ma fails word slack => [.width mv 16, .width ma 32, .width fails 16, .width word 64, .width slack 32]
  | .buckRestore h mask v bad => [.header h, .width mask 8, .width v 16, .width bad 8]
  | .vaonValid vbak => [.width vbak 8]
  | .firebreakTierReached => []
  | .crystalStarted => []
  | .refRcSwitch => []
  | .coreEnable => []
  | .pgCoreRise _ _ => []
  | .coreStartTimeout => []
  | .pgCoreLoss => []
  | .brownout rail _ => [.width rail 8, .unit rail 2]
  | .shadowPowerUp _ _ _ => []
  | .gatehouseSelfTest _ => []
  | .bootImageSelect _ => []
  | .kfwStart _ => []
  | .terracesStart fails _ => [.width fails 16]
  | .fullCheck => []
  | .tierFall mask => [.width mask 32]
  | .tierRise mask _ => [.width mask 32]
  | .keeperFault cause => [.width cause 8]
  | .keeperRestartComplete => []
  | .gatehouseFault => []
  | .gatehouseRestartComplete => []
  | .tierHoldExpiry => []
  | .powerReturn => []
  | .chipReset cause => [.width cause 8]
  | .resetPinChange _ => []
  | .resetPinStuck => []
  | .resetPinRecover => []
  | .configBundleWrite _ => []
  | .snapInTrigger => []
  | .snapshot h => [.header h]
  | .snapRead h segment inst offset maxLen => [.header h, .width segment 16, .width inst 16, .width offset 16, .width maxLen 16]
  | .snapClear h => [.header h]
  | .fwStageOpen h image length => [.header h, .width image 8, .width length 32]
  | .fwStageEraseDone => []
  | .fwStageWrite h image offset data => [.header h, .width image 8, .width offset 32, .bytes data (h.len - 8)]
  | .fwStageClose h image _ _ => [.header h, .width image 8]
  | .fwActivate h mask => [.header h, .width mask 8]
  | .acceptUntestedSet h kfw zrt ghp sig => [.header h, .width kfw 32, .width zrt 32, .width ghp 32, .sig sig]
  | .frameRefusal h opcode fault => [.header h, .width opcode 16, .width fault 8, .unit fault 4]
  | .ethernetLinkChange p _ => [.width p 8, .unit p 2]
  | .slewEnd => []
  | .minEdgeExpiry e time => [.width e 8, .width time 64, .unit e 24]

/-- The command is well-formed. -/
def Instr.wf (i : Instr) : Bool := i.obeys.all Check.holds

end Sys2Proof
end

