-- ==== Sys2Proof/Safety.lean ====
section
/-!
DEFINITION. What counts as a safe state: the promises the spec makes about the block at every instant.
-/

namespace Sys2Proof.Machine

/-- The shadow SRAM, the snapshot and the banks are byte lists in canonical form. -/
def State.memoryOk (s : State) : Prop := s.mem.wf = true

/-- Every energised safety output is enabled, named by no function that is ACTIVE or LATCHED, not under FAILSAFE, without a latched
output fault, not under a low VSAFE, requested, and has a live heartbeat (R381). -/
def State.outputsOk (s : State) : Prop :=
  ∀ k, k < 16 → (s.chip.getF FB_STATUS 0 FB_STATUS.SO_ON).testBit k = true →
    s.chip.getF FB_OUT_CFG k FB_OUT_CFG.EN = 1 ∧
    (∀ f, f < 3 → s.chip.getF FB_STATUS 0 (FB_STATUS.FUNC_STATE f) ≠ 0 → (s.chip.getF FB_FUNC_CFG f FB_FUNC_CFG.SO_MASK).testBit k = false) ∧
    s.chip.getF FB_CONFIG_INFO 0 FB_CONFIG_INFO.CFG_STATE ≠ 3 ∧
    ¬ (1 ≤ s.chip.getF FB_STATUS 0 (FB_STATUS.SO_FAULT k) ∧ s.chip.getF FB_STATUS 0 (FB_STATUS.SO_FAULT k) ≤ 4) ∧
    s.chip.getF FB_STATUS 0 FB_STATUS.VSAFE_LOW ≠ 1 ∧
    (s.chip.getF FB_STATUS 0 FB_STATUS.SO_REQ).testBit k = true ∧
    s.chip.getF FB_STATUS 0 FB_STATUS.HB_LIVE = 1

/-- While VAON drives it, `FAULT_N` is low exactly in the cases of R510. -/
def State.faultLineOk (s : State) : Prop :=
  s.chip.boot.vaon = true → s.chip.getF AON_STATUS 0 AON_STATUS.FAULT_N_LOW = (if s.chip.faultLow then 1 else 0)

/-- No valve channel whose forced-off line is asserted is driven: it shows FORCED (R377). -/
def State.cutOk (s : State) : Prop :=
  ∀ ch, ch < 96 → s.chip.forcedLines.testBit ch = true → s.chip.chKind ch = ckValve → s.chip.cstate ch = csForced

/-- The shown `FAILSAFE` bit is that of the configuration (R372). -/
def State.failsafeOk (s : State) : Prop :=
  s.chip.getF FB_STATUS 0 FB_STATUS.FAILSAFE = (if s.chip.failsafe then 1 else 0)

/-- Nothing waits for the memory between two commands. -/
def State.drained (s : State) : Prop := s.chip.store.ops = []

/-- A command runs and leaves a state of which `P` holds. -/
def Completes (i : Instr) (s : State) (P : State → Prop) : Prop := ∃ t, exec i s = .next t ∧ P t

/-- A host command's frame passes steps 4 to 13 of Table 2.10 in state `s`; `x` is what the command is then told of it. -/
def Served (s : State) (h : Hdr) (sp : CmdSpec) (x : Ctx) : Prop := ∃ c b, s.chip.ingress h sp = .go c x b

/-- The frames of an endpoint that have been sent: the outbound queue of the SPI port, or what has left the pins of another. -/
def Chip.sent (c : Chip) (e : Nat) : List Frame :=
  if e = 0 then (c.ep 0).out else (c.host.wire.filter (fun p => p.1 == e)).map Prod.snd

/-- From `s` to `t` the endpoint of the frame `h` has sent one frame, the reply to it (R42). -/
def Replied (s t : State) (h : Hdr) (opcode status : Nat) (data : List Nat) : Prop :=
  ∃ f : Frame, t.chip.sent h.ep = s.chip.sent h.ep ++ [f] ∧ f.opcode = opcode ∧ f.session = h.session ∧ f.tag = h.tag ∧ f.cls = h.cls
    ∧ f.status = some status ∧ f.data = data

/-- The reply to a command that succeeds: `OK` with its data where the frame asked for it, else none (R57). -/
def Confirmed (s t : State) (h : Hdr) (opcode : Nat) (data : List Nat) : Prop :=
  if h.ackReq then Replied s t h opcode stOk data else t.chip.sent h.ep = s.chip.sent h.ep

/-- A `SET_RECORD` request meets the checks that every record shares: its length, its instance, no reserved bit set, every field in
range, and the expected `VERSION` or 0xFFFF_FFFF (R63, R64). -/
def WriteFits (c : Chip) (h : Hdr) (r : RecDesc) (inst ver img : Nat) : Prop :=
  h.len = 8 + r.len ∧ inst < r.count ∧ h.prsv = 0 ∧ r.reservedClear img = true ∧ r.inRange (r.merge (c.img r inst) img) = true ∧
    (ver = 0xFFFFFFFF ∨ ver = c.version r inst)

/-- From `s` to `t` the record has taken the image written, its read-only fields kept (R64). -/
def Wrote (s t : State) (r : RecDesc) (inst img : Nat) : Prop := t.chip.img r inst = r.merge (s.chip.img r inst) img

/-- From `s` to `t` nothing outside the lane of engine `e` has changed but what follows a line: the other lanes, every zone's run-time state,
the host's sessions, security, time, metering, sensing, memory, and every record but those that show the lines. -/
def LaneOnly (s t : State) (e : Nat) : Prop :=
  (∀ k, k ≠ e → t.chip.lane k = s.chip.lane k) ∧ t.chip.zones.zone = s.chip.zones.zone ∧ t.chip.host.sessions = s.chip.host.sessions ∧
  t.chip.sec = s.chip.sec ∧ t.chip.time = s.chip.time ∧ t.chip.meter = s.chip.meter ∧ t.chip.sense = s.chip.sense ∧
  t.chip.boot = s.chip.boot ∧ t.chip.fb = s.chip.fb ∧ (s.drained → t.mem = s.mem) ∧ t.pending = s.pending ∧
  (∀ r i, r.id % 0x10000 ∉ [FB_STATUS.id, AON_STATUS.id, CH_STATUS.id, AX_STATUS.id] → t.chip.img r i = s.chip.img r i)

/-- Engine `e`, whose lane is `l` (with the tick begun), holds zone `z` and is about to execute a step with these fields that passes the
checks of R168 at its step pointer and fits the budget of R167. -/
def StepReady (s : State) (e op d a b low : Nat) (l : Lane) (z : Nat) : Prop :=
  e < 256 ∧ d < 32 ∧ a < 32 ∧ b < 32 ∧ low < 2048 ∧ l = (s.chip.beginTick e).lane e ∧ l.zone = some z ∧ l.running = true ∧ l.rom = false ∧
  l.step < 128 ∧
  stepCheck ((⟨128 + 32 * l.step, 32⟩ : Fld).set ((((op * 32 + d) * 32 + a) * 32 + b) * 2048 + low)
    (s.chip.img PROGRAM_IMAGE (l.progIndex z))) l.step = 0 ∧
  l.cycles + stepCost ⟨op, d, a, b, low, b * 2048 + low⟩ < 2048

/-- The step of engine `e` has written `v` to slot `d` with the flags Z and N of `v` and the flags of `fl`, has left the other slots and flags,
has cost `cost` cycles, and has otherwise turned the lane `l` into `k` (R165, R167). -/
def Stepped (t : State) (e : Nat) (l k : Lane) (cost d : Nat) (v : Int) (fl : List (Nat × Bool)) : Prop :=
  ∃ m : Lane, t.chip.lane e = m ∧ m = { k with w := m.w, flags := m.flags, cycles := l.cycles + cost, step := l.step + 1 } ∧
    m.W d = v ∧ (∀ j, j ≠ d → m.W j = l.W j) ∧ m.flags.testBit flZ = (v == 0) ∧ m.flags.testBit flN = decide (v < 0) ∧
    (∀ p ∈ fl, m.flags.testBit p.1 = p.2) ∧ (∀ j, 2 ≤ j → j ∉ fl.map Prod.fst → m.flags.testBit j = l.flags.testBit j)

/-- The zone of engine `e` has faulted with a code at a step: it is FAULTED, counted, and the tick is discarded (R144). -/
def ZoneFaulted (s t : State) (e z code step : Nat) : Prop :=
  t.chip.zstate z = zsFaulted ∧ t.chip.getF ZONE_STATUS z ZONE_STATUS.FAULT_CODE = code ∧
  t.chip.getF ZONE_STATUS z ZONE_STATUS.FAULT_STEP = step ∧
  t.chip.getF ZONE_STATUS z ZONE_STATUS.FAULT_CNT = satInc 32 (s.chip.getF ZONE_STATUS z ZONE_STATUS.FAULT_CNT) ∧
  (t.chip.lane e).zone = none

/-- The axis has taken a fault code: it is in FAULT, the fault is counted, and the codes of a lost position leave it unhomed (R311, R312). -/
def AxisFaulted (s t : State) (a code : Nat) : Prop :=
  t.chip.getF AX_STATUS a AX_STATUS.FAULT = code ∧ t.chip.astate a = asFault ∧
  t.chip.getF AX_STATUS a AX_STATUS.FAULT_CNT = satInc 32 (s.chip.getF AX_STATUS a AX_STATUS.FAULT_CNT) ∧
  (code ∈ [4, 5, 6, 9] → t.chip.homed a = false)

/-- An enabled axis in this state, without a fault and with no forced-off line, that its timers run for. -/
def AxisLive (s : State) (a state : Nat) : Prop :=
  a < 24 ∧ s.chip.axEn a = true ∧ s.chip.astate a = state ∧ s.chip.getF AX_STATUS a AX_STATUS.FAULT = 0 ∧ s.chip.forcedLines = 0

/-- From `s` to `t` the function has been judged on the demand it has in `t`: with one it is ACTIVE; without, an ACTIVE one is LATCHED or
IDLE as its `LATCH` says and any other stays (R376). -/
def FuncJudged (s t : State) (f : Nat) : Prop :=
  t.chip.funcState f = if t.chip.funcDemand f then fnActive
    else if s.chip.funcState f = fnActive then (if s.chip.getB FB_FUNC_CFG f FB_FUNC_CFG.LATCH then fnLatched else fnIdle)
    else s.chip.funcState f

/-- Whether the safety output is energised. -/
def State.outOn (s : State) (k : Nat) : Bool := (s.chip.getF FB_STATUS 0 FB_STATUS.SO_ON).testBit k

end Sys2Proof.Machine
end

