-- ==== Sys2Proof/Certificates/Slice0/Obligations.lean ====
section
/-!
DEFINITION. The statements for the provers. Each is one `Prop`; its docstring names the rules of the spec it formalises. `Completes i s P`
says that command `i` answers a next state of which `P` holds, `Served s h sp x` that a command's frame passes admission.
-/

open Sys2Proof Sys2Proof.Machine

/-- A step of a state with command `c` at the front of its queue is `exec` of `c` with the queue's rest. The queue is the model's own
(INVENTORY, Agents; log entry 6). -/
def Obligations.StepRunsFront : Prop := ∀ (c : Instr) (s : State), step { s with pending := c :: s.pending } = exec c s

/-- On an empty queue a step answers a next state: one crystal cycle has passed and memory is as it was, provided nothing waited for it.
That a step is then one crystal cycle is the model's choice (log entry 7). -/
def Obligations.IdleStepTicks : Prop :=
  ∀ s : State, s.pending = [] → s.drained → ∃ t, step s = .next t ∧ t.pending = [] ∧ t.chip.time.up = s.chip.time.up + 1 ∧ t.mem = s.mem

/-- A well-formed command always runs: the model refuses and faults on nothing the opcode table can spell. -/
def Obligations.WellFormedRuns : Prop := ∀ (i : Instr) (s : State), i.wf = true → ∃ t, exec i s = .next t

/-- The queue is first in, first out: a step takes the front and leaves the rest, and no step faults. -/
def Obligations.QueueInOrder : Prop :=
  ∀ (c : Instr) (l : List Instr) (s t : State), s.pending = c :: l → (∀ f, step s ≠ .fault f) ∧ (step s = .next t → t.pending = l)

/-- Every step keeps the byte lists of the shadow SRAM and of the two banks canonical, and drains what waits for them. -/
def Obligations.StepKeepsMemory : Prop := ∀ s t, s.memoryOk → step s = .next t → t.memoryOk ∧ t.drained

/-- In every next state an energised safety output meets all the conditions of R381. -/
def Obligations.StepOutputsPermitted : Prop := ∀ s t, step s = .next t → t.outputsOk

/-- In every next state `FAULT_N` follows R510 while VAON is present, and `FAILSAFE` follows the configuration (R372). -/
def Obligations.StepFaultLine : Prop := ∀ s t, step s = .next t → t.faultLineOk ∧ t.failsafeOk

/-- In every next state each valve channel whose forced-off line is asserted shows FORCED (R377). -/
def Obligations.StepCutsForced : Prop := ∀ s t, step s = .next t → t.cutOk

/-- `PING`, `SESSION_CLOSE`, `SESSION_IDLE_TIMEOUT`, `SUBSCRIBE` and `UNSUBSCRIBE` (R50, R62). -/
def Obligations.SessionCommandsAct : Prop :=
  (∀ s h x echo, Served s h pingSpec x →
    Completes (.ping h echo) s fun t =>
      Confirmed s t h 0x0000 (u8 (s.chip.getF AON_STATUS 0 AON_STATUS.TIER) ++ rsvBytes 3 ++ u64 s.chip.now ++ echo)) ∧
  (∀ s h x, Served s h sessionCloseSpec x →
    Completes (.sessionClose h) s fun t =>
      t.chip.ses x.si = { gen := (s.chip.ses x.si).gen } ∧ (∀ k, k < 1024 → (t.chip.hnd k).owner ≠ some x.si) ∧
      (∀ f ∈ t.chip.host.frags, f.ses ≠ x.si)) ∧
  (∀ s i, i < 128 → (s.chip.ses i).isOpen = true →
    s.chip.passedS (s.chip.ses i).lastFrame (s.chip.getF ENDPOINT_CFG (s.chip.ses i).ep ENDPOINT_CFG.IDLE_TIMEOUT_S) = true →
    Completes (.sessionIdleTimeout i) s fun t =>
      t.chip.ses i = { gen := (s.chip.ses i).gen } ∧ (∀ k, k < 1024 → (t.chip.hnd k).owner ≠ some i)) ∧
  (∀ s h x mask minSev, Served s h subscribeSpec x → h.prsv = 0 → minSev ≤ 3 →
    Completes (.subscribe h mask minSev) s fun t => (t.chip.ses x.si).sub = some (mask, minSev)) ∧
  (∀ s h x, Served s h unsubscribeSpec x →
    Completes (.unsubscribe h) s fun t =>
      (t.chip.ses x.si).sub = none ∧ (t.chip.ses x.si).queue = [] ∧ (t.chip.ses x.si).lost = 0)

/-- `RESULT_GET` and `RESULT_RELEASE` (R58 to R61). -/
def Obligations.HandlesAct : Prop :=
  (∀ s h x v offset n k, Served s h resultGetSpec x → h.prsv = 0 → 1 ≤ n → n ≤ 1004 → s.chip.findHandle x.si v = some k →
    (s.chip.hnd k).finished = false →
    Completes (.resultGet h v offset n) s fun t =>
      t.chip.hnd k = s.chip.hnd k ∧ Replied s t h 0x0007 stPending (u8 (s.chip.hnd k).progress ++ rsvBytes 3)) ∧
  (∀ s h x v offset n k y, Served s h resultGetSpec x → h.prsv = 0 → 1 ≤ n → n ≤ 1004 → s.chip.findHandle x.si v = some k →
    s.chip.hnd k = y → y.finished = true → offset ≤ y.data.length →
    Completes (.resultGet h v offset n) s fun t =>
      (t.chip.hnd k).reads = satInc 16 y.reads ∧ (t.chip.hnd k).data = y.data ∧
      (satInc 16 y.reads = 0xFFFF → (t.chip.hnd k).rcSat = true) ∧
      Confirmed s t h 0x0007 (u8 y.status ++ u8 (if (t.chip.hnd k).rcSat then 1 else 0) ++ u16 (satInc 16 y.reads) ++ u32 y.data.length
        ++ u32 offset ++ (y.data.drop offset).take n)) ∧
  (∀ s h x v k, Served s h resultReleaseSpec x → h.prsv = 0 → s.chip.findHandle x.si v = some k →
    Completes (.resultRelease h v) s fun t => t.chip.hnd k = { gen := (s.chip.hnd k).gen })

/-- `GET_RECORD` and `SNAP_READ` (R62, R85, R515). `c` is the part after the frame's admission has been counted. -/
def Obligations.ReadsReturnViews : Prop :=
  (∀ s h c x b rec inst offset n r v, s.chip.ingress h getRecordSpec = .go c x b → findRecord rec = some r → inst < r.count →
    c.view x.who r inst = some v → h.prsv = 0 → 1 ≤ n → n ≤ 1008 → offset < r.len →
    Completes (.getRecord h rec inst offset n) s fun t =>
      Confirmed s t h 0x0005 (u16 rec ++ u16 inst ++ u16 r.len ++ u16 offset ++ u32 (c.version r inst)
        ++ imageBytes (v - (v &&& r.hiddenMask)) r.len offset n) ∧
      (∀ q i, q.id % 0x10000 ∉ [FB_STATUS.id, AON_STATUS.id, SNAP_STATUS.id, ENDPOINT_STATUS.id, CH_STATUS.id, AX_STATUS.id] →
        t.chip.img q i = s.chip.img q i)) ∧
  (∀ s h c x b segment inst offset n r g, s.chip.ingress h snapReadSpec = .go c x b → snapRecords.find? (fun r => r.id == segment) = some r →
    inst < r.count → c.boot.segments.find? (fun y => y.record == segment && y.inst == inst) = some g → c.segmentMay x.who r (some g) inst = true →
    c.getB SNAP_STATUS 0 SNAP_STATUS.SNAP_STATE = true → h.prsv = 0 → 1 ≤ n → n ≤ 996 → offset < r.len →
    Completes (.snapRead h segment inst offset n) s fun t =>
      Confirmed s t h 0x0F01 (u32 (c.getF SNAP_STATUS 0 SNAP_STATUS.SNAP_ID) ++ u16 segment ++ u16 inst ++ u16 r.len ++ u16 offset ++ u8 g.flags
        ++ rsvBytes 3 ++ u64 (c.getF SNAP_STATUS 0 SNAP_STATUS.TIME)
        ++ imageBytes (if whoPlots x.who then g.img else c.maskSegment r g) r.len offset n))

/-- `SET_RECORD` (R63, R64): a write of a record with no row of its own, and the refusals. -/
def Obligations.SetRecordWrites : Prop :=
  (∀ s h x ver img r inst, r = CH_GLOBAL ∨ (r = KP_GLOBAL ∧ KP_GLOBAL.DEBOUNCE_MS.get img % 2 = 0) → Served s h setRecordSpec x →
    x.who.estateOnly = true → WriteFits s.chip h r inst ver img →
    Completes (.setRecord h r.id inst ver img) s fun t =>
      Wrote s t r inst img ∧ t.chip.version r inst = bumpVersion (s.chip.version r inst) ∧
      Confirmed s t h 0x0006 (u32 (bumpVersion (s.chip.version r inst)))) ∧
  (∀ s h x rec inst ver img, Served s h setRecordSpec x → findRecord rec = none →
    Completes (.setRecord h rec inst ver img) s fun t => Replied s t h 0x0006 stBadParam []) ∧
  (∀ s h c x b rec inst ver img r, s.chip.ingress h setRecordSpec = .go c x b → findRecord rec = some r → ver ≠ 0xFFFFFFFF →
    ver ≠ c.version r inst →
    Completes (.setRecord h rec inst ver img) s fun t => ∀ q i,
      q.id % 0x10000 ∉ [FB_STATUS.id, AON_STATUS.id, SNAP_STATUS.id, ENDPOINT_STATUS.id, CH_STATUS.id, AX_STATUS.id] → t.chip.img q i = s.chip.img q i)

/-- `ENDPOINT_RESET`, `ENDPOINT_CFG_WRITE` and `ETHERNET_LINK_CHANGE` (R31, R73, R74). -/
def Obligations.EndpointsAct : Prop :=
  (∀ s h x e, Served s h endpointResetSpec x → e < 18 → h.prsv = 0 →
    Completes (.endpointReset h e) s fun t =>
      (t.chip.ep e).accepting = true ∧ (t.chip.ep e).out = [] ∧ (t.chip.ep e).refusals = [] ∧ (t.chip.ep e).inbound = 0 ∧
      (∀ k, k < 7 → t.chip.getF ENDPOINT_STATUS e (epCounter k) = 0) ∧
      (∀ i, i < 128 → (s.chip.ses i).ep = e → (t.chip.ses i).isOpen = false)) ∧
  (∀ s h x inst ver img m, Served s h setRecordSpec x → x.who.estateOnly = true →
    m = (if inst = 1 then ENDPOINT_CFG.EN.set (s.chip.getF ENDPOINT_CFG 1 ENDPOINT_CFG.EN) img else img) →
    WriteFits s.chip h ENDPOINT_CFG inst ver m → s.chip.endpointBad inst m = false →
    (∀ p, p < 2 → s.chip.linkUp p = true) → s.chip.level ≤ s.chip.supported →
    Completes (.endpointCfgWrite h inst ver img) s fun t =>
      Wrote s t ENDPOINT_CFG inst m ∧ t.chip.level = s.chip.level) ∧
  (∀ s p, p < 2 → Completes (.ethernetLinkChange p true) s fun t => t.chip.linkUp p = true ∧ t.chip.level = s.chip.level) ∧
  (∀ s p, p < 2 → s.chip.portEnabled p = false → s.chip.level ≤ s.chip.supported →
    Completes (.ethernetLinkChange p false) s fun t => t.chip.linkUp p = false ∧ t.chip.level = s.chip.level) ∧
  (∀ s p, p < 2 → s.chip.portEnabled p = true → s.chip.level = lvFull → s.chip.limitedUnits = true →
    Completes (.ethernetLinkChange p false) s fun t => t.chip.level = lvLimited)

/-- `FRAGMENT_STORE`, `FRAGMENT_TIMEOUT`, `EVENT_TRANSMIT`, `HELD_EVENT_RELEASE` and `FRAME_REFUSAL` (R55 to R57, R66, R75, R539). -/
def Obligations.FragmentsAndEventsAct : Prop :=
  (∀ s h op c x b, s.chip.listening h.ep = true → h.final = false → s.chip.admitFrame h op (opcodeKnown op) (opcodeOpen op) = .go c x b →
    (opcodeClasses op).contains h.cls = true → x.si ≠ session0 → 2 ≤ h.cls → s.chip.fragOf x.si h.tag = none → h.len ≤ 1024 →
    (s.chip.host.frags.filter (fun g => g.ses == x.si)).length < 2 → 0 < s.chip.freeGen h.ep → s.chip.sesFrags x.si < s.chip.slotCap h.ep →
    Completes (.fragmentStore h op) s fun t =>
      t.chip.host.frags = s.chip.host.frags ++ [⟨x.si, h.tag, op, h.cls, h.len, s.chip.up⟩]) ∧
  (∀ s i tag f, i < 128 → s.chip.fragOf i tag = some f → ticksPerSecond < s.chip.since f.last →
    Completes (.fragmentTimeout i tag) s fun t => t.chip.fragOf i tag = none) ∧
  (∀ s e i q l, 1 ≤ e → e < 18 → i < 128 → s.chip.listening e = true → (s.chip.ses i).isOpen = true → (s.chip.ses i).ep = e →
    (s.chip.ses i).queue = q :: l →
    Completes (.eventTransmit e i) s fun t =>
      (t.chip.ep e).refusals = [] ∧
      ∃ f, t.chip.sent e = s.chip.sent e ++ (s.chip.ep e).refusals ++ [f] ∧ f.opcode = 0x0010 ∧ f.session = s.chip.sidOf i ∧
        f.status = none ∧ f.data = eventBytes q) ∧
  (∀ s, Completes .heldEventRelease s fun t =>
    t.chip.host.heldChip.map Held.ev = (s.chip.host.heldChip.filter (fun y =>
      decide ((if s.chip.anySub then y.run + s.chip.since y.since else y.run) < 600 * ticksPerSecond))).map Held.ev ∧
    t.chip.host.heldFb.map Held.ev = (s.chip.host.heldFb.filter (fun y =>
      decide ((if s.chip.anySub then y.run + s.chip.since y.since else y.run) < 600 * ticksPerSecond))).map Held.ev) ∧
  (∀ s h op fault, s.chip.listening h.ep = true → 1 ≤ fault → fault < 4 →
    Completes (.frameRefusal h op fault) s fun t =>
      t.chip.getF ENDPOINT_STATUS h.ep (epCounter cntFraming) = satInc 32 (s.chip.getF ENDPOINT_STATUS h.ep (epCounter cntFraming))) ∧
  (∀ s h op, s.chip.listening h.ep = true → h.session ≠ 0 → (s.chip.ses (h.session % 128)).isOpen = false →
    (s.chip.ep h.ep).refusals.length < 8 → ((s.chip.ep h.ep).authTimes.filter (fun y => decide (s.chip.since y < ticksPerSecond))).length < 100 →
    Completes (.frameRefusal h op 0) s fun t =>
      ∃ f, (t.chip.ep h.ep).refusals = (s.chip.ep h.ep).refusals ++ [f] ∧ f.session = 0 ∧ f.status = some stAuthFail ∧ f.opcode = op ∧ f.tag = h.tag)

/-- `SPI_WRITE`, `SPI_READ`, `SPI_STATUS`, `ARP_REQUEST` and `NEIGHBOUR_SOLICITATION` (R68 to R71). -/
def Obligations.TransportsAct : Prop :=
  (∀ s, s.chip.listening 0 = true → (s.chip.ep 0).inbound < 4 →
    Completes (.spiWrite true) s fun t => (t.chip.ep 0).inbound = (s.chip.ep 0).inbound + 1) ∧
  (∀ s, s.chip.listening 0 = true → Completes (.spiWrite false) s fun t =>
    (t.chip.ep 0).inbound = (s.chip.ep 0).inbound ∧ (t.chip.ep 0).spiFlags.testBit 0 = true ∧ (t.chip.ep 0).spiFlags.testBit 1 = true) ∧
  (∀ s f l, nextOut (s.chip.ep 0) = f :: l → Completes (.spiRead true) s fun t =>
    t.chip.host.wire = s.chip.host.wire ++ [(0, f)] ∧ (t.chip.ep 0).out = l) ∧
  (∀ s f l, nextOut (s.chip.ep 0) = f :: l → Completes (.spiRead false) s fun t =>
    t.chip.host.wire = s.chip.host.wire ∧ (t.chip.ep 0).out = f :: l ∧ (t.chip.ep 0).started = true) ∧
  (∀ s, Completes .spiStatus s fun t =>
    t.chip.host.spiRead = u8 (min 255 (s.chip.ep 0).out.length) ++ u8 (4 - (s.chip.ep 0).inbound) ++ u8 (s.chip.ep 0).spiFlags ++ rsvBytes 1 ∧
    (t.chip.ep 0).spiFlags = 0) ∧
  (∀ s e target asker, e < 18 → s.chip.udpUp e = true → s.chip.getB ENDPOINT_CFG e ENDPOINT_CFG.IPV4_EN = true → target ≠ 0 →
    target = s.chip.getF ENDPOINT_CFG e ENDPOINT_CFG.IPV4_ADDR →
    Completes (.arpRequest e target asker) s fun t => t.chip.host.arpReplies = s.chip.host.arpReplies ++ [(e, asker)]) ∧
  (∀ s e target asker, e < 18 → s.chip.udpUp e = true → s.chip.getB ENDPOINT_CFG e ENDPOINT_CFG.IPV6_EN = true → target ≠ 0 →
    (target = s.chip.getF ENDPOINT_CFG e ENDPOINT_CFG.IPV6_ADDR ∨ target = linkLocal (s.chip.getF ENDPOINT_CFG e ENDPOINT_CFG.PORT)) →
    Completes (.neighbourSolicitation e target asker) s fun t => t.chip.host.arpReplies = s.chip.host.arpReplies ++ [(e, asker)])

/-- `SESSION_OPEN` (R92 to R94, R99): the open that passes every check, and the one without a challenge. -/
def Obligations.SessionOpens : Prop :=
  (∀ s h x (q : OpenReq) y k i, Served s h (sessionOpenSpec q.kind) x → h.prsv = 0 → q.ranges h.ep = true →
    s.chip.sec.challenges.find? (fun c => c.1 == h.ep && c.2.1 == q.challenge) = some y → s.chip.since y.2.2 < 30 * ticksPerSecond →
    s.chip.openCred q = true → onCurve q.eph = true → q.kind < 6 → s.chip.openKey q = some k → Sig.verifies q.sig k = true →
    (s.chip.level < lvFull → q.kind = 1 ∨ (q.kind = 5 ∧ q.index < 16)) → s.chip.openIndex q = some i →
    Completes (.sessionOpen h q.kind q.index q.challenge q.nonce q.eph q.sig q.newKey q.mac) s fun t =>
      (t.chip.ses i).isOpen = true ∧ (t.chip.ses i).ep = h.ep ∧ (t.chip.ses i).kind = q.kind ∧ (t.chip.ses i).index = q.index ∧
      (t.chip.ses i).gen = (if (s.chip.ses i).gen = 511 then 1 else (s.chip.ses i).gen + 1) ∧
      t.chip.sec.challenges = s.chip.sec.challenges.erase y) ∧
  (∀ s h x (q : OpenReq) y i, Served s h (sessionOpenSpec q.kind) x → h.prsv = 0 → q.kind = 6 → q.index < 256 →
    s.chip.sec.challenges.find? (fun c => c.1 == h.ep && c.2.1 == q.challenge) = some y → s.chip.since y.2.2 < 30 * ticksPerSecond →
    onCurve q.eph = true → onCurve q.newKey = true → Sig.verifies q.sig q.newKey = true → s.chip.codeLive q.index = true →
    s.chip.codeRight q = true → s.chip.level = lvFull → s.chip.openIndex q = some i →
    Completes (.sessionOpen h q.kind q.index q.challenge q.nonce q.eph q.sig q.newKey q.mac) s fun t =>
      (t.chip.ses i).isOpen = true ∧ (t.chip.ses i).kind = kPlot ∧ (t.chip.ses i).index = q.index ∧
      t.chip.slotState q.index = slEnrolled ∧ (t.chip.plotSecret q.index).key = some q.newKey ∧ (t.chip.plotSecret q.index).code = none) ∧
  (∀ s h x (q : OpenReq), Served s h (sessionOpenSpec q.kind) x → h.prsv = 0 → q.ranges h.ep = true →
    s.chip.sec.challenges.find? (fun c => c.1 == h.ep && c.2.1 == q.challenge) = none →
    Completes (.sessionOpen h q.kind q.index q.challenge q.nonce q.eph q.sig q.newKey q.mac) s fun t =>
      Replied s t h 0x0001 stDenied [] ∧ t.chip.openSessions = s.chip.openSessions)

/-- `GET_IDENTITY`, `ATTEST`, `CREDENTIAL_WRITE`, `ROLLBACK_COMMIT` and `SHADOW_MIN_RAISE` (R82, R83, R90, R91, R123, R124). -/
def Obligations.IdentityCommandsAct : Prop :=
  (∀ s h x cert, Served s h getIdentitySpec x → cert ≤ 1 → h.prsv = 0 →
    Completes (.getIdentity h cert) s fun t =>
      (∃ v, (h.ep, v, s.chip.up) ∈ t.chip.sec.challenges) ∧ t.chip.freeIdx = s.chip.freeIdx + 1 ∧
      (h.ackReq = true → ∃ d, Replied s t h 0x0100 stOk d ∧ d.take 8 = u64 s.chip.sec.serial)) ∧
  (∀ s h x nonce, Served s h attestSpec x →
    Completes (.attest h nonce) s fun t => t.chip.sec = s.chip.sec ∧
      (h.ackReq = true → ∃ d, Replied s t h 0x0101 stOk d ∧ d.take 40 = leBytes 32 nonce ++ u64 s.chip.sec.serial)) ∧
  (∀ s h x k inst ver img old new, k < 3 → Served s h setRecordSpec x → x.who.estateOnly = true → WriteFits s.chip h (credRec k) inst ver img →
    old = s.chip.img (credRec k) inst → new = (credRec k).merge old img →
    (CRED_ESTATE.VALID.get img = 1 → onCurve (CRED_ESTATE.PUBKEY.get img) = true) → (k ≠ 0 → badTime (CRED_OPERATOR.EXPIRY.get img) = false) →
    (k = 2 → (CRED_ESTATE.VALID.get img = 1 → CRED_FEEDER.SRC_COUNT.get img ≠ 0) ∧ CRED_FEEDER.SRC_FIRST.get img ≤ 4095 ∧
      CRED_FEEDER.SRC_FIRST.get img + CRED_FEEDER.SRC_COUNT.get img ≤ 4096) →
    (k = 0 → CRED_ESTATE.VALID.get img = 1 ∨ s.chip.credValid CRED_ESTATE (1 - inst) = true) →
    Completes (.credentialWrite h k inst ver img) s fun t =>
      t.chip.getF (credRec k) inst CRED_ESTATE.VALID = CRED_ESTATE.VALID.get new ∧
      t.chip.getF (credRec k) inst CRED_ESTATE.PUBKEY = CRED_ESTATE.PUBKEY.get new ∧
      t.chip.getF (credRec k) inst CRED_ESTATE.GEN =
        (if CRED_ESTATE.PUBKEY.get old ≠ CRED_ESTATE.PUBKEY.get new ∨ (CRED_ESTATE.VALID.get old = 1 ∧ CRED_ESTATE.VALID.get new = 0)
          then (CRED_ESTATE.GEN.get old + 1) % 2 ^ 32 else CRED_ESTATE.GEN.get old) ∧
      (t.chip.getF STORE_STATUS 0 STORE_STATUS.PENDING_CAUSE).testBit 6 = true) ∧
  (∀ s h x image sl v, Served s h rollbackCommitSpec x → image ≤ 2 → h.prsv = 0 → s.chip.runSlot image = some sl →
    s.chip.secF (SECURITY_STATUS.OTP_SLOTS_FREE image) ≠ 0 → v = s.chip.getF FW_SLOT (fwInst image sl) FW_SLOT.SEC_VER →
    Completes (.rollbackCommit h image) s fun t =>
      t.chip.secF (SECURITY_STATUS.OTP_FLOOR image) = max v (s.chip.secF (SECURITY_STATUS.OTP_FLOOR image)) ∧
      t.chip.secF (SECURITY_STATUS.OTP_SLOTS_FREE image) = s.chip.secF (SECURITY_STATUS.OTP_SLOTS_FREE image)
        - (if s.chip.secF (SECURITY_STATUS.OTP_FLOOR image) < v then 1 else 0)) ∧
  (∀ s i sl, s.chip.level = lvFull → s.chip.passedS s.chip.boot.runSince 3600 = true → i < 3 → s.chip.runSlot i = some sl →
    s.chip.secF (SECURITY_STATUS.SHADOW_MIN i) < s.chip.getF FW_SLOT (fwInst i sl) FW_SLOT.SEC_VER →
    Completes .shadowMinRaise s fun t =>
      (i, s.chip.getF FW_SLOT (fwInst i sl) FW_SLOT.SEC_VER) ∈ t.chip.boot.secRun ∧
      (t.chip.getF STORE_STATUS 0 STORE_STATUS.PENDING_CAUSE).testBit 7 = true)

/-- `PLOT_CREATE`, `ENROL_CODE_EXPIRY`, `PLOT_KEY_ROTATE`, `PLOT_EVICT` and `PLOT_WIPE` (R96 to R102). -/
def Obligations.PlotSlotsAct : Prop :=
  (∀ s h x p lifetime, Served s h plotCreateSpec x → p < 256 → lifetime ≤ 2160 → h.prsv = 0 →
    (s.chip.slotState p = slEmpty ∨ s.chip.slotState p = slCodeDead) → s.chip.lifecycle ≠ lcUnlocked →
    Completes (.plotCreate h p lifetime) s fun t =>
      t.chip.slotState p = slAwaiting ∧ t.chip.getF PLOT_SLOT p PLOT_SLOT.FAIL_CNT = 0 ∧ (t.chip.plotSecret p).code.isSome = true ∧
      t.chip.getF PLOT_SLOT p PLOT_SLOT.CODE_EXPIRY =
        (s.chip.now + (if lifetime = 0 then 336 else lifetime) * 3600 * ticksPerSecond) % 2 ^ PLOT_SLOT.CODE_EXPIRY.width) ∧
  (∀ s p, p < 256 → s.chip.slotState p = slAwaiting → s.chip.getF PLOT_SLOT p PLOT_SLOT.CODE_EXPIRY ≤ s.chip.now →
    Completes (.enrolCodeExpiry p) s fun t => t.chip.slotState p = slCodeDead ∧ (t.chip.plotSecret p).code = none) ∧
  (∀ s h x key sig p, Served s h plotKeyRotateSpec x → x.who.plotOf = some p → onCurve key = true → Sig.verifies sig key = true →
    Completes (.plotKeyRotate h key sig) s fun t =>
      (t.chip.plotSecret p).key = some key ∧ (t.chip.plotSecret p).keyGen = (s.chip.plotSecret p).keyGen + 1 ∧
      (t.chip.ses x.si).credGen = (t.chip.plotSecret p).keyGen) ∧
  (∀ s h x p k, Served s h plotEvictSpec x → p < 256 → h.prsv = 0 → s.chip.slotState p ≠ slEmpty → s.chip.slotState p ≠ slWiping →
    s.chip.freeHandle x.si = some k →
    Completes (.plotEvict h p) s fun t =>
      t.chip.slotState p = slWiping ∧ (t.chip.plotSecret p).code = none ∧ (t.chip.plotSecret p).key = none ∧
      (t.chip.hnd k).owner = some x.si ∧ t.chip.sec.evicting = s.chip.sec.evicting ++ [{ plot := p, handle := some k }]) ∧
  (∀ s p e, p < 256 → s.chip.sec.evicting.find? (fun e => e.plot == p && e.stage == 0) = some e →
    Completes (.plotWipe p) s fun t =>
      ({ e with stage := 1 } ∈ t.chip.sec.evicting ∧ (t.chip.plotSecret p).wiped = true) ∨ t.chip.slotState p = slEmpty)

/-- `PRIVACY_CFG_WRITE`, `OCC_GROUP_WRITE` and `QUARTER_HOUR_AGGREGATE` (R105, R108 to R110). -/
def Obligations.PrivacyCommandsAct : Prop :=
  (∀ s h x inst ver img, Served s h setRecordSpec x → x.who.estateOnly = true → WriteFits s.chip h PRIVACY_CFG inst ver img →
    Completes (.privacyCfgWrite h inst ver img) s fun t =>
      Wrote s t PRIVACY_CFG inst img ∧ (t.chip.getF STORE_STATUS 0 STORE_STATUS.PENDING_CAUSE).testBit 6 = true) ∧
  (∀ s h x inst ver img, Served s h setRecordSpec x → x.who.estateOnly = true → WriteFits s.chip h OCC_GROUP inst ver img →
    s.chip.occGroupBad inst img = false → s.chip.occGroupHeld inst img = false →
    Completes (.occGroupWrite h inst ver img) s fun t =>
      (∀ f ∈ OCC_GROUP.COUNT :: (List.range 64).map OCC_GROUP.ZONE,
        t.chip.getF OCC_GROUP inst f = f.get (OCC_GROUP.merge (s.chip.img OCC_GROUP inst) img)) ∧
      t.chip.getF OCC_GROUP inst OCC_GROUP.LAST_CHANGE = s.chip.now % 2 ^ OCC_GROUP.LAST_CHANGE.width ∧
      t.chip.sec.occPending.any (fun p => p.1 == inst) = true) ∧
  (∀ s q, q = s.chip.now / ticksPerQuarter * ticksPerQuarter → q ≠ 0 → q ≠ s.chip.sec.aggAt → lvLimited ≤ s.chip.level →
    Completes .quarterHourAggregate s fun t =>
      t.chip.sec.aggAt = q ∧ t.chip.sec.occPending = [] ∧ t.chip.act.acc = [] ∧
      (∀ g z, g < 64 → z = groupZones (Tab.get (s.chip.img OCC_GROUP g) s.chip.sec.occPending g) → z ≠ [] →
        z.length < s.chip.getF PRIVACY_CFG 0 PRIVACY_CFG.K_MIN →
        t.chip.getF OCC_AGG g (OCC_AGG.WITHHELD 0) = 1 ∧ t.chip.getF OCC_AGG g (OCC_AGG.VALUE 0) = 0))

/-- `SERVICE_PIN_CHANGE`, `DEBUG_CHALLENGE`, `DEBUG_UNLOCK`, `DEBUG_UNLOCK_APPLY`, `DEBUG_LOCK`, `UNLOCK_END` and `DECOMMISSION`
(R113 to R120, R465, R506). That a commanded restart holds the tier is R35's; its cause code is log entry 20. -/
def Obligations.LifecycleCommandsAct : Prop :=
  (∀ s pins, pins < 4 → s.chip.boot.vaon = true → s.chip.secF SECURITY_STATUS.PINS ≠ pins →
    Completes (.servicePinChange pins) s fun t => t.chip.secF SECURITY_STATUS.PINS = pins ∧
      (pins.testBit 0 = false → ∀ i, i < 128 → (s.chip.ses i).isOpen = true → (t.chip.ses i).rawRead = false ∧ (t.chip.ses i).rawWrite = false)) ∧
  (∀ s h x, Served s h (debugSpec 0x0102 0) x → s.chip.serviceEn = true → s.chip.safeKey = true →
    Completes (.debugChallenge h) s fun t => ∃ v, t.chip.sec.debugChallenge = some (v, s.chip.up)) ∧
  (∀ s h x challenge minutes keyId sig at_ k, Served s h (debugSpec 0x0103 108) x → s.chip.serviceEn = true → s.chip.safeKey = true →
    keyId ≤ 3 → s.chip.sec.debugChallenge = some (challenge, at_) → s.chip.since at_ < 600 * ticksPerSecond → Sig.verifies sig keyId = true →
    1 ≤ minutes → minutes ≤ 1440 → h.prsv = 0 → s.chip.secF SECURITY_STATUS.UNLOCK_COUNT < 32 → s.chip.lifecycle = lcField →
    s.chip.sec.unlockOp = none → s.chip.freeHandle x.si = some k →
    Completes (.debugUnlock h s.chip.sec.serial challenge minutes keyId sig) s fun t =>
      t.chip.sec.debugChallenge = none ∧ t.chip.sec.unlockOp = some { handle := some k, minutes := minutes } ∧ (t.chip.hnd k).owner = some x.si) ∧
  (∀ s u, s.chip.sec.unlockOp = some u → u.stage = 0 →
    Completes .debugUnlockApply s fun t =>
      (∃ v, t.chip.sec.unlockOp = some v ∧ v.stage = 1 ∧ v.minutes = u.minutes) ∨ t.chip.lifecycle = lcUnlocked) ∧
  (∀ s h x, Served s h debugLockSpec x → s.chip.lifecycle = lcUnlocked → s.chip.recentRestarts = [] → s.chip.level ≤ s.chip.supported →
    lvLimited ≤ s.chip.level →
    Completes (.debugLock h) s fun t =>
      t.chip.lifecycle = lcField ∧ t.chip.sec.jtag = false ∧ t.chip.boot.hold = some ⟨2, s.chip.up, 2⟩ ∧ t.chip.level = s.chip.level) ∧
  (∀ s, s.chip.lifecycle = lcUnlocked → (s.chip.secF SECURITY_STATUS.UNLOCK_EXPIRY ≤ s.chip.now ∨ s.chip.serviceEn = false) →
    s.chip.recentRestarts = [] → s.chip.level ≤ s.chip.supported → lvLimited ≤ s.chip.level →
    Completes .unlockEnd s fun t =>
      t.chip.lifecycle = lcField ∧ t.chip.sec.jtag = false ∧ t.chip.boot.hold = some ⟨2, s.chip.up, 2⟩ ∧ t.chip.level = s.chip.level) ∧
  (∀ s h x, Served s h (debugSpec 0x0105 16) x → s.chip.serviceEn = true → s.chip.safeKey = true → h.prsv = 0 →
    Completes (.decommission h s.chip.sec.serial 0xDEC00515) s fun t =>
      t.chip.getF AON_STATUS 0 AON_STATUS.LAST_RESET_CAUSE = 2 ^ 20 ∧ t.chip.level ≤ lvSurvival)

/-- `WINDOW_PORT_PHASE`, `ZONE_EXECUTION`, `PUBLISH_POINT` and `BINDING_UPDATE` (R127 to R133, R167, R192, R256). -/
def Obligations.WindowsRun : Prop :=
  (∀ s e frame window x z, e < 256 → (s.chip.lane e).zone = none → lvLimited ≤ s.chip.level → s.chip.boot.pfHalt = false →
    s.chip.tstate (e / 64) = tsInService → s.chip.pergolaUp (e / 4) = true → s.chip.dueEntry e frame window = some x →
    z = 256 * (e / 64) + x.slot → s.chip.getB ZONE_CFG z ZONE_CFG.EN = true → s.chip.zstate z = zsRunning →
    s.chip.getB ZONE_STATUS z ZONE_STATUS.CTX_DAMAGED = false →
    Completes (.windowPortPhase e frame window) s fun t =>
      (t.chip.lane e).zone = some z ∧ (t.chip.lane e).cfg = s.chip.img ZONE_CFG z ∧ (t.chip.lane e).params = s.chip.img ZONE_PARAMS z ∧
      (t.chip.lane e).state = s.chip.img ZONE_STATE z ∧ (t.chip.lane e).running = false ∧ (t.chip.lane e).done = false ∧
      t.chip.getF ZONE_STATUS z ZONE_STATUS.ENGINE = e) ∧
  (∀ s e frame window l z, e < 256 → s.chip.lane e = l → l.zone = some z → l.done = true → s.chip.zstate z = zsRunning →
    s.chip.dueEntry e frame window = none →
    Completes (.windowPortPhase e frame window) s fun t =>
      (t.chip.lane e).zone = none ∧
      t.chip.getF ZONE_STATUS z ZONE_STATUS.RUN_CNT = satInc 32 (s.chip.getF ZONE_STATUS z ZONE_STATUS.RUN_CNT) ∧
      t.chip.getF ZONE_STATUS z ZONE_STATUS.FIRST_TICK = 0 ∧
      t.chip.getF ZONE_STATUS z ZONE_STATUS.CYC_LAST = l.cycles % 2 ^ 16 ∧
      (∀ p, p < 8 → t.chip.getF ZONE_STATUS z (ZONE_STATUS.DEMAND p) = l.port p) ∧
      t.chip.img ZONE_STATE z = l.state ∧ t.chip.getF ZONE_CFG z ZONE_CFG.OWNER = s.chip.getF ZONE_CFG z ZONE_CFG.OWNER) ∧
  (∀ s e l z, e < 256 → l = (s.chip.beginTick e).lane e → l.zone = some z → l.running = true → l.rom = true →
    Completes (.zoneExecution e) s fun t =>
      (t.chip.lane e).done = true ∧ (t.chip.lane e).running = false ∧ (t.chip.lane e).cycles ≤ 160 ∧
      (t.chip.lane e).demand = (l.romTick (s.chip.periodFx z)).demand ∧ t.chip.freeIdx = s.chip.freeIdx + 1 ∧
      t.chip.getF ZONE_STATUS z ZONE_STATUS.LAST_RUN = l.start % 2 ^ 64) ∧
  (∀ s e l z, e < 256 → l = (s.chip.beginTick e).lane e → l.zone = some z → l.running = true → l.rom = false → l.step = 0 → l.cycles = 0 →
    s.chip.getB PROGRAM_INFO (l.progIndex z) PROGRAM_INFO.VALID = true → (s.chip.ter (z / 256)).badProgs.contains (l.progIndex z % 128) = false →
    imgSteps (s.chip.img PROGRAM_IMAGE (l.progIndex z)) = 1 → imgWord (s.chip.img PROGRAM_IMAGE (l.progIndex z)) 0 = 0 →
    Completes (.zoneExecution e) s fun t =>
      (t.chip.lane e).done = true ∧ (t.chip.lane e).running = false ∧ (t.chip.lane e).cycles = 2 ∧
      t.chip.getF ZONE_STATUS z ZONE_STATUS.LAST_RUN = l.start % 2 ^ 64) ∧
  (∀ s e l z, e < 256 → l = (s.chip.beginTick e).lane e → l.zone = some z → l.running = true → l.rom = false → l.step < 256 →
    s.chip.getB PROGRAM_INFO (l.progIndex z) PROGRAM_INFO.VALID = false →
    Completes (.zoneExecution e) s fun t => ZoneFaulted s t e z 6 l.step) ∧
  (∀ s e l z, e < 256 → s.chip.lane e = l → l.zone = some z →
    Completes (.publishPoint e) s fun t =>
      (t.chip.zrt z).latch = (if l.done ∧ s.chip.zstate z = zsRunning then l.demand else (s.chip.zrt z).fallback)) ∧
  (∀ s kind idx v at_, s.chip.boot.hold = none → s.chip.zones.updates = [(kind, idx, v, at_)] →
    Completes .bindingUpdate s fun t =>
      t.chip.zones.updates = [] ∧
      (∀ z n, z < 1024 → s.chip.mayBind z kind idx = true → n ∈ s.chip.bindsOf z kind idx →
        t.chip.getF ZONE_BINDINGS z (ZONE_BINDINGS.VALUE n) = ofSigned 32 v % 2 ^ 32 ∧
        t.chip.getF ZONE_BINDINGS z (ZONE_BINDINGS.TIME n) = at_ % 2 ^ (ZONE_BINDINGS.TIME n).width))

/-- `TERRACE_WATCHDOG`, `TERRACE_RESET`, `TERRACE_RESET_DONE`, `PERGOLA_FAULT`, `PERGOLA_SELF_TEST_DONE`, `PERGOLA_RESET`,
`PERGOLA_MIGRATION`, `PERGOLA_RETURN_HOME`, `ECC_SCRUB` and `PROGRAM_STORE_REPAIR` (R20, R139, R145 to R150, R162). -/
def Obligations.TerracesAct : Prop :=
  (∀ s t₀ cause, t₀ < 4 → s.chip.tstate t₀ = tsInService →
    Completes (.terraceWatchdog t₀ cause) s fun t =>
      if 2 ≤ (s.chip.recent (s.chip.ter t₀).autoResets).length then t.chip.tstate t₀ = tsOutOfService
      else t.chip.tstate t₀ = tsResetting ∧ (t.chip.ter t₀).reset = some (cause, none)) ∧
  (∀ s h x t₀ k, Served s h (zoneCmdSpec 0x0203 [2] (Who.estateOr scDiag)) x → t₀ < 4 → h.prsv = 0 →
    (x.who.estateOnly = true ∨ s.chip.tstate t₀ ≠ tsOutOfService) → s.chip.tstate t₀ ≠ tsResetting → s.chip.tstate t₀ ≠ tsOff →
    s.chip.freeHandle x.si = some k →
    Completes (.terraceReset h t₀) s fun t =>
      t.chip.tstate t₀ = tsResetting ∧ (t.chip.ter t₀).reset = some (0, some k) ∧ (t.chip.hnd k).owner = some x.si) ∧
  (∀ s t₀ resume r, t₀ < 4 → (s.chip.ter t₀).reset = some r →
    Completes (.terraceResetDone t₀ resume true) s fun t =>
      t.chip.tstate t₀ = tsInService ∧ (t.chip.ter t₀).reset = none ∧
      (∀ z ∈ terraceZones t₀, t.chip.getF ZONE_STATUS z ZONE_STATUS.FIRST_TICK = 1)) ∧
  (∀ s t₀ resume r, t₀ < 4 → (s.chip.ter t₀).reset = some r →
    Completes (.terraceResetDone t₀ resume false) s fun t => t.chip.tstate t₀ = tsOutOfService ∧ (t.chip.ter t₀).reset = none) ∧
  (∀ s p cause, p < 64 → cause < 256 → s.chip.pstate p ≠ psRetired → s.chip.pstate p ≠ psOff → s.chip.tstate (p / 16) = tsInService →
    Completes (.pergolaFault p cause) s fun t =>
      t.chip.getF PERGOLA_STATUS p PERGOLA_STATUS.FAULT_CNT = satInc 32 (s.chip.getF PERGOLA_STATUS p PERGOLA_STATUS.FAULT_CNT) ∧
      t.chip.getF PERGOLA_STATUS p PERGOLA_STATUS.LAST_CAUSE = cause ∧
      t.chip.pstate p = (if 2 ≤ (s.chip.recent (s.chip.perg p).faults).length then psRetired else psResetting)) ∧
  (∀ s p, p < 64 → s.chip.pstate p = psResetting → s.chip.tstate (p / 16) = tsInService →
    Completes (.pergolaSelfTestDone p true) s fun t => (t.chip.perg p).passedAt = some s.chip.up ∧ t.chip.pstate p ≠ psResetting) ∧
  (∀ s h x p, Served s h (zoneCmdSpec 0x0202 [2] (Who.estateOr scDiag)) x → p < 64 → h.prsv = 0 →
    (x.who.estateOnly = true ∨ s.chip.pstate p ≠ psRetired) → s.chip.pstate p ∉ [psOff, psSpare, psResetting] →
    s.chip.tstate (p / 16) = tsInService →
    Completes (.pergolaReset h p) s fun t =>
      t.chip.pstate p = psResetting ∧ t.chip.host.waits = s.chip.host.waits ++ [⟨pergolaWait p, 0x0202, x.ep, x.si, h⟩]) ∧
  (∀ s t₀, t₀ < 4 → s.chip.tstate t₀ = tsInService →
    Completes (.pergolaMigration t₀) s fun t => ∀ p ∈ terracePergolas t₀, (t.chip.perg p).migrate = false) ∧
  (∀ s t₀, t₀ < 4 → Completes (.pergolaReturnHome t₀) s fun t =>
    ∀ m, m ∈ (t.chip.ter t₀).moves ↔ m ∈ (s.chip.ter t₀).moves ∧ ¬ (s.chip.pergolaUp (16 * t₀ + m.1 / 4) = true ∧
      ∃ a, (s.chip.perg (16 * t₀ + m.1 / 4)).passedAt = some a ∧ 60 * ticksPerSecond ≤ s.chip.since a)) ∧
  (∀ s t₀ region offset, t₀ < 4 → region < 4 →
    Completes (.eccScrub t₀ region offset false) s fun t =>
      t.chip.getF TERRACE_STATUS t₀ TERRACE_STATUS.ECC_CE_CNT = satInc 32 (s.chip.getF TERRACE_STATUS t₀ TERRACE_STATUS.ECC_CE_CNT)) ∧
  (∀ s t₀ offset a z, t₀ < 4 → contextArea (offset % 1024) = some a → z = 256 * t₀ + offset / 1024 % 256 →
    Completes (.eccScrub t₀ 0 offset true) s fun t =>
      t.chip.getF TERRACE_STATUS t₀ TERRACE_STATUS.ECC_DE_CNT = satInc 32 (s.chip.getF TERRACE_STATUS t₀ TERRACE_STATUS.ECC_DE_CNT) ∧
      t.chip.getF ZONE_STATUS z ZONE_STATUS.CTX_DAMAGED = 1 ∧
      (t.chip.getF ZONE_STATUS z ZONE_STATUS.DAMAGE).testBit a = true) ∧
  (∀ s t₀ offset, t₀ < 4 → Completes (.eccScrub t₀ 4 offset false) s fun t =>
      t.chip.getF PERGOLA_STATUS (16 * t₀ + offset % 16) PERGOLA_STATUS.SCRATCH_CE_CNT =
        satInc 32 (s.chip.getF PERGOLA_STATUS (16 * t₀ + offset % 16) PERGOLA_STATUS.SCRATCH_CE_CNT)) ∧
  (∀ s t₀ id, t₀ < 4 → id < 128 → (s.chip.ter t₀).badProgs.contains id = true →
    Completes (.programStoreRepair t₀ id) s fun t => (t.chip.ter t₀).badProgs = (s.chip.ter t₀).badProgs.filter (· != id))

/-- `TICK_TABLE_LOAD`, `TICK_TABLE_VALIDATED`, `TICK_TABLE_COMMIT_POINT`, `TICK_TABLE_ACTIVE`, `PROGRAM_LOAD`, `PROGRAM_LOAD_RESULT`
and `PROGRAM_UNLOAD` (R136, R137, R187, R190). -/
def Obligations.TablesAndProgramsLoad : Prop :=
  (∀ s h x img t₀ k, Served s h tickTableLoadSpec x → t₀ = TICK_TABLE.TERRACE.get img → t₀ < 4 → (s.chip.ter t₀).load = none →
    s.chip.tstate t₀ = tsInService → s.chip.freeHandle x.si = some k →
    Completes (.tickTableLoad h img) s fun t =>
      (t.chip.ter t₀).load = some { handle := some k, img := img, len := h.len } ∧ (t.chip.hnd k).owner = some x.si) ∧
  (∀ s t₀ l, t₀ < 4 → (s.chip.ter t₀).load = some l → l.valid = false →
    Completes (.tickTableValidated t₀) s fun t =>
      if (s.chip.tableCheck t₀ l.img l.len).1 = 0 then
        (t.chip.ter t₀).load = some { l with valid := true } ∧ t.chip.getF TERRACE_STATUS t₀ TERRACE_STATUS.LOAD_PENDING = 1
      else (t.chip.ter t₀).load = none) ∧
  (∀ s t₀ l, t₀ < 4 → (s.chip.ter t₀).load = some l → l.valid = true →
    Completes (.tickTableCommitPoint t₀) s fun t => (t.chip.ter t₀).load = some { l with committed := true }) ∧
  (∀ s t₀ l, t₀ < 4 → (s.chip.ter t₀).load = some l → l.valid = true → l.committed = true →
    Completes (.tickTableActive t₀) s fun t =>
      t.chip.img TICK_TABLE t₀ = l.img ∧ t.chip.getF TERRACE_STATUS t₀ TERRACE_STATUS.TABLE_ID = TICK_TABLE.TABLE_ID.get l.img ∧
      (t.chip.ter t₀).load = none ∧ t.chip.getF TERRACE_STATUS t₀ TERRACE_STATUS.LOAD_PENDING = 0) ∧
  (∀ s h x t₀ id img k, Served s h programLoadSpec x → t₀ < 4 → id < 128 → h.prsv = 0 → s.chip.tstate t₀ = tsInService →
    (s.chip.ter t₀).prog = none → s.chip.freeHandle x.si = some k →
    Completes (.programLoad h t₀ id img) s fun t =>
      (t.chip.ter t₀).prog = some { handle := some k, id := id, img := img, len := h.len - 4 }) ∧
  (∀ s t₀ p, t₀ < 4 → (s.chip.ter t₀).prog = some p → p.id < 128 →
    Completes (.programLoadResult t₀) s fun t =>
      (t.chip.ter t₀).prog = none ∧
      (if (s.chip.programCheck t₀ p.id p.img p.len).1 = 0 then
        t.chip.getF PROGRAM_INFO (128 * t₀ + p.id) PROGRAM_INFO.VALID = 1 ∧ t.chip.img PROGRAM_IMAGE (128 * t₀ + p.id) = p.img
      else t.chip.img PROGRAM_IMAGE (128 * t₀ + p.id) = s.chip.img PROGRAM_IMAGE (128 * t₀ + p.id))) ∧
  (∀ s h x t₀ id force, Served s h programUnloadSpec x → t₀ < 4 → id < 128 → force ≤ 1 → h.prsv = 0 →
    s.chip.getB PROGRAM_INFO (128 * t₀ + id) PROGRAM_INFO.VALID = true →
    (s.chip.getF PROGRAM_INFO (128 * t₀ + id) PROGRAM_INFO.USERS = 0 ∨ force = 1) → (s.chip.ter t₀).prog = none →
    Completes (.programUnload h t₀ id force) s fun t => t.chip.getF PROGRAM_INFO (128 * t₀ + id) PROGRAM_INFO.VALID = 0)

/-- `ZONE_RESET`, `PLOT_RESET`, `ENGINE_RESET`, `ENGINE_RESET_APPLY`, `ZONE_ISOLATE` and `ZONE_RELEASE` (R142, R143, R162). -/
def Obligations.ZoneCommandsAct : Prop :=
  (∀ s h x z, Served s h (zoneCmdSpec 0x0200 [1, 2] Who.estateOrPlot) x → z < 1024 →
    (x.who.estateOnly = true ∨ x.who = .plot (s.chip.zoneOwner z)) → h.prsv = 0 → s.chip.damagedCfg z = false → s.chip.wipingZone z = false →
    Completes (.zoneReset h z) s fun t =>
      t.chip.getF ZONE_STATUS z ZONE_STATUS.FAULT_CODE = 0 ∧ t.chip.getF ZONE_STATUS z ZONE_STATUS.FIRST_TICK = 1 ∧
      t.chip.getF ZONE_STATUS z ZONE_STATUS.DAMAGE = 0 ∧ t.chip.img ZONE_STATE z = 0 ∧ t.chip.zstate z ≠ zsFaulted) ∧
  (∀ s h x p, Served s h (zoneCmdSpec 0x0310 [2] Who.estateOrPlot) x → p < 256 → (x.who.estateOnly = true ∨ x.who = .plot p) → h.prsv = 0 →
    s.chip.slotState p ≠ slWiping → (s.chip.plotZones p).any s.chip.damagedCfg = false →
    Completes (.plotReset h p) s fun t =>
      (∀ z ∈ s.chip.plotZones p, t.chip.getF ZONE_STATUS z ZONE_STATUS.FAULT_CODE = 0 ∧ t.chip.getF ZONE_STATUS z ZONE_STATUS.FIRST_TICK = 1 ∧
        t.chip.img ZONE_STATE z = 0) ∧
      (∀ i, i < 128 → (s.chip.ses i).kind = kPlot → (s.chip.ses i).index = p → (t.chip.ses i).isOpen = false)) ∧
  (∀ s h x e, Served s h (zoneCmdSpec 0x0201 [2] (Who.estateOr scDiag)) x → e < 256 → h.prsv = 0 →
    s.chip.pstate (e / 4) ∉ [psOff, psResetting, psRetired] →
    Completes (.engineReset h e) s fun t => t.chip.zones.laneReset = s.chip.zones.laneReset ++ [e]) ∧
  (∀ s e, e < 256 → s.chip.zones.laneReset.contains e = true →
    Completes (.engineResetApply e) s fun t => t.chip.lane e = {} ∧ t.chip.zones.laneReset = s.chip.zones.laneReset.filter (· != e)) ∧
  (∀ s h x z, Served s h (zoneCmdSpec 0x0210 [0, 1] (Who.estateOr scChannels)) x → z < 1024 → h.prsv = 0 →
    Completes (.zoneIsolate h z) s fun t => t.chip.isolated z = true ∧ t.chip.act.zoneRelease.contains z = false) ∧
  (∀ s h x z, Served s h (zoneCmdSpec 0x0211 [1, 2] (Who.estateOr scChannels)) x → z < 1024 → h.prsv = 0 → s.chip.isolated z = true →
    Completes (.zoneRelease h z) s fun t => t.chip.isolated z = true ∧ t.chip.act.zoneRelease.contains z = true)

/-- `ZONE_CFG_WRITE`, `ZONE_PARAMS_WRITE`, `PLOT_LIMITS_WRITE`, `PLOT_ISOLATION_WRITE` and `TERRACE_PERF_WRITE` (R29, R142, R153 to R161). -/
def Obligations.ZoneConfigWrites : Prop :=
  (∀ s h x z ver img, Served s h setRecordSpec x → x.who.estateOnly = true → WriteFits s.chip h ZONE_CFG z ver img →
    ZONE_CFG.OWNER.get img ≤ 256 → zoneCfgBad z img = false → s.chip.zoneCfgHeld z img = false →
    Completes (.zoneCfgWrite h z ver img) s fun t => Wrote s t ZONE_CFG z img) ∧
  (∀ s h x z ver img, Served s h setRecordSpec x →
    (x.who.estateOnly = true ∨ (x.who = .plot (s.chip.zoneOwner z) ∧ s.chip.enrolledZone z = true ∧ s.chip.paramsOut z img = false)) →
    WriteFits s.chip h ZONE_PARAMS z ver (s.chip.paramsMerged x.who z img) →
    Completes (.zoneParamsWrite h z ver img) s fun t => ∀ n, n < 64 →
      t.chip.getF ZONE_PARAMS z (ZONE_PARAMS.P n) =
        (if s.chip.mayWord x.who z n then (ZONE_PARAMS.P n).get img else s.chip.getF ZONE_PARAMS z (ZONE_PARAMS.P n))) ∧
  (∀ s h x p ver img, Served s h setRecordSpec x → x.who.estateOnly = true → WriteFits s.chip h PLOT_LIMITS p ver img →
    toSigned 16 (PLOT_LIMITS.SP_MIN.get img) ≤ toSigned 16 (PLOT_LIMITS.SP_MAX.get img) →
    PLOT_LIMITS.OCC_EARLIEST.get img ≤ PLOT_LIMITS.OCC_LATEST.get img →
    Completes (.plotLimitsWrite h p ver img) s fun t => Wrote s t PLOT_LIMITS p img) ∧
  (∀ s h x p ver img, Served s h setRecordSpec x → x.who.estateOnly = true → WriteFits s.chip h PLOT_ISOLATION p ver img →
    Completes (.plotIsolationWrite h p ver img) s fun t =>
      t.chip.getF PLOT_ISOLATION p PLOT_ISOLATION.MODE = PLOT_ISOLATION.MODE.get img) ∧
  (∀ s h x t₀ ver img, Served s h setRecordSpec x → x.who.estateOnly = true → WriteFits s.chip h TERRACE_PERF t₀ ver img →
    Completes (.terracePerfWrite h t₀ ver img) s fun t =>
      Wrote s t TERRACE_PERF t₀ img ∧ t.chip.getF TERRACE_STATUS t₀ TERRACE_STATUS.MODE = t.chip.getF TERRACE_PERF t₀ TERRACE_PERF.MODE ∧
      (t.chip.ter t₀).target = modeClock (t.chip.getF TERRACE_PERF t₀ TERRACE_PERF.MODE) (s.chip.getF TERRACE_STATUS t₀ TERRACE_STATUS.THROTTLE))

/-- `MOV`, `LDL`, `LDH`, `LDC`, `LDP`, `LDS` and `STS` (R169, Table 5.5). -/
def Obligations.MoveSteps : Prop :=
  (∀ s e d a b low l z, StepReady s e 0x01 d a b low l z → Completes (.zpMov e d a (b * 2048 + low)) s fun t =>
    Stepped t e l l 2 d (l.W a) [] ∧ LaneOnly s t e) ∧
  (∀ s e d a b low l z, StepReady s e 0x02 d a b low l z → Completes (.zpLdl e d a (b * 2048 + low)) s fun t =>
    Stepped t e l l 2 d ((b * 2048 + low : Nat) : Int) [] ∧ LaneOnly s t e) ∧
  (∀ s e d a b low l z, StepReady s e 0x03 d a b low l z → Completes (.zpLdh e d a (b * 2048 + low)) s fun t =>
    Stepped t e l l 2 d (toSigned 32 ((b * 2048 + low) * 65536 + ofSigned 32 (l.W d) % 65536)) [] ∧ LaneOnly s t e) ∧
  (∀ s e d a b low l z, StepReady s e 0x04 d a b low l z → Completes (.zpLdc e d a (b * 2048 + low)) s fun t =>
    Stepped t e l l 2 d (imgConst (s.chip.img PROGRAM_IMAGE (l.progIndex z)) (low % 64)) [] ∧ LaneOnly s t e) ∧
  (∀ s e d a b low l z, StepReady s e 0x05 d a b low l z → Completes (.zpLdp e d a (b * 2048 + low)) s fun t =>
    Stepped t e l l 3 d (l.P (low % 64)) [] ∧ LaneOnly s t e) ∧
  (∀ s e d a b low l z, StepReady s e 0x06 d a b low l z → Completes (.zpLds e d a (b * 2048 + low)) s fun t =>
    Stepped t e l l 3 d (l.S (low % 64)) [] ∧ LaneOnly s t e) ∧
  (∀ s e d a b low l z, StepReady s e 0x07 d a b low l z → Completes (.zpSts e d a (b * 2048 + low)) s fun t =>
    t.chip.lane e = { l.setS (low % 64) (l.W a) with cycles := l.cycles + 3, step := l.step + 1 } ∧
    (t.chip.lane e).S (low % 64) = toSigned 32 (ofSigned 32 (l.W a)) ∧ LaneOnly s t e)

/-- `ADD`, `SUB`, `MUL`, `DIV`, `ADDI`, `MULI`, `ABS` and `NEG` (R165, Table 5.5). -/
def Obligations.ArithmeticSteps : Prop :=
  (∀ s e d a b low l z v, StepReady s e 0x08 d a b low l z → v = l.W a + l.W b → Completes (.zpAdd e d a b low) s fun t =>
    Stepped t e l l 2 d (max (-2 ^ 31) (min (2 ^ 31 - 1) v)) (if v < -2 ^ 31 ∨ 2 ^ 31 ≤ v then [(flSat, true)] else []) ∧ LaneOnly s t e) ∧
  (∀ s e d a b low l z v, StepReady s e 0x09 d a b low l z → v = l.W a - l.W b → Completes (.zpSub e d a b low) s fun t =>
    Stepped t e l l 2 d (max (-2 ^ 31) (min (2 ^ 31 - 1) v)) (if v < -2 ^ 31 ∨ 2 ^ 31 ≤ v then [(flSat, true)] else []) ∧ LaneOnly s t e) ∧
  (∀ s e d a b low l z v, StepReady s e 0x0A d a b low l z → v = divRound (l.W a * l.W b) 65536 → Completes (.zpMul e d a b low) s fun t =>
    Stepped t e l l 3 d (max (-2 ^ 31) (min (2 ^ 31 - 1) v)) (if v < -2 ^ 31 ∨ 2 ^ 31 ≤ v then [(flSat, true)] else []) ∧ LaneOnly s t e) ∧
  (∀ s e d a b low l z v, StepReady s e 0x0B d a b low l z → l.W b ≠ 0 → v = fxQuot (l.W a * 65536) (l.W b) →
    Completes (.zpDiv e d a b low) s fun t =>
    Stepped t e l l 18 d (max (-2 ^ 31) (min (2 ^ 31 - 1) v)) (if v < -2 ^ 31 ∨ 2 ^ 31 ≤ v then [(flSat, true)] else []) ∧ LaneOnly s t e) ∧
  (∀ s e d a b low l z v, StepReady s e 0x0C d a b low l z → v = l.W a + toSigned 16 (b * 2048 + low) * 256 →
    Completes (.zpAddi e d a (b * 2048 + low)) s fun t =>
    Stepped t e l l 2 d (max (-2 ^ 31) (min (2 ^ 31 - 1) v)) (if v < -2 ^ 31 ∨ 2 ^ 31 ≤ v then [(flSat, true)] else []) ∧ LaneOnly s t e) ∧
  (∀ s e d a b low l z v, StepReady s e 0x0D d a b low l z → v = divRound (l.W a * (toSigned 16 (b * 2048 + low) * 256)) 65536 →
    Completes (.zpMuli e d a (b * 2048 + low)) s fun t =>
    Stepped t e l l 3 d (max (-2 ^ 31) (min (2 ^ 31 - 1) v)) (if v < -2 ^ 31 ∨ 2 ^ 31 ≤ v then [(flSat, true)] else []) ∧ LaneOnly s t e) ∧
  (∀ s e d a b low l z v, StepReady s e 0x0E d a b low l z → v = (if l.W a < 0 then -(l.W a) else l.W a) → Completes (.zpAbs e d a (b * 2048 + low)) s fun t =>
    Stepped t e l l 2 d (max (-2 ^ 31) (min (2 ^ 31 - 1) v)) (if v < -2 ^ 31 ∨ 2 ^ 31 ≤ v then [(flSat, true)] else []) ∧ LaneOnly s t e) ∧
  (∀ s e d a b low l z v, StepReady s e 0x0F d a b low l z → v = -(l.W a) → Completes (.zpNeg e d a (b * 2048 + low)) s fun t =>
    Stepped t e l l 2 d (max (-2 ^ 31) (min (2 ^ 31 - 1) v)) (if v < -2 ^ 31 ∨ 2 ^ 31 ≤ v then [(flSat, true)] else []) ∧ LaneOnly s t e)

/-- `MIN`, `MAX`, `LIM`, `CLP01`, `CMP`, `SEL`, `SKIP`, `SKIPN` and `END` (R167, R169, R170). -/
def Obligations.ControlSteps : Prop :=
  (∀ s e d a b low l z, StepReady s e 0x10 d a b low l z → Completes (.zpMin e d a b low) s fun t =>
    Stepped t e l l 2 d (min (l.W a) (l.W b)) [] ∧ LaneOnly s t e) ∧
  (∀ s e d a b low l z, StepReady s e 0x11 d a b low l z → Completes (.zpMax e d a b low) s fun t =>
    Stepped t e l l 2 d (max (l.W a) (l.W b)) [] ∧ LaneOnly s t e) ∧
  (∀ s e d a b low l z v, StepReady s e 0x12 d a b low l z → v = max (min (l.W a) (l.W (b + 1))) (l.W b) →
    Completes (.zpLim e d a b low) s fun t => Stepped t e l l 3 d v [(flLim, v != l.W a)] ∧ LaneOnly s t e) ∧
  (∀ s e d a b low l z v, StepReady s e 0x13 d a b low l z → v = max 0 (min 65536 (l.W a)) →
    Completes (.zpClp01 e d a (b * 2048 + low)) s fun t => Stepped t e l l 2 d v [(flLim, v != l.W a)] ∧ LaneOnly s t e) ∧
  (∀ s e d a b low l z r, StepReady s e 0x14 d a b low l z →
    r = [l.W a == l.W b, l.W a != l.W b, decide (l.W a < l.W b), decide (l.W a ≤ l.W b), decide (l.W b < l.W a), decide (l.W b ≤ l.W a)].getD low false →
    Completes (.zpCmp e d a b low) s fun t => Stepped t e l l 2 d (if r then 65536 else 0) [(flC, r)] ∧ LaneOnly s t e) ∧
  (∀ s e d a b low l z, StepReady s e 0x15 d a b low l z → Completes (.zpSel e d a b low) s fun t =>
    Stepped t e l l 2 d (if l.flags.testBit flC then l.W a else l.W b) [] ∧ LaneOnly s t e) ∧
  (∀ s e d a b low l z n, StepReady s e 0x16 d a b low l z → n = b * 2048 + low → Completes (.zpSkip e d a n) s fun t =>
    t.chip.lane e = { l with
      cycles := l.cycles + 2
      step := l.step + 1 + (if l.flags.testBit ([flC, flStale, flInv, flLim, flZ, flN].getD (n / 128) flC) then n % 128 else 0) } ∧
    LaneOnly s t e) ∧
  (∀ s e d a b low l z n, StepReady s e 0x17 d a b low l z → n = b * 2048 + low → Completes (.zpSkipn e d a n) s fun t =>
    t.chip.lane e = { l with
      cycles := l.cycles + 2
      step := l.step + 1 + (if l.flags.testBit ([flC, flStale, flInv, flLim, flZ, flN].getD (n / 128) flC) then 0 else n % 128) } ∧
    LaneOnly s t e) ∧
  (∀ s e l z, e < 256 → l = (s.chip.beginTick e).lane e → l.zone = some z → l.running = true → l.rom = false → l.step < 128 →
    l.cycles + 2 ≤ 2048 →
    stepCheck ((⟨128 + 32 * l.step, 32⟩ : Fld).set 0 (s.chip.img PROGRAM_IMAGE (l.progIndex z))) l.step = 0 →
    Completes (.zpEnd e 0 0 0) s fun t =>
      t.chip.lane e = { l with done := true, running := false, cycles := l.cycles + 2 } ∧ LaneOnly s t e)

/-- `TBLC`, `TBLP`, `LPF`, `RATE`, `HYST` and `TON` (R171, R172). -/
def Obligations.DynamicSteps : Prop :=
  (∀ s e d a b low l z g, StepReady s e 0x18 d a b low l z →
    g = (fun j => imgConst (s.chip.img PROGRAM_IMAGE (l.progIndex z)) (low % 64 + j)) →
    Completes (.zpTblc e d a (b * 2048 + low)) s fun t => Stepped t e l l (4 + 2 * b) d (sat32 (tableAt b g (l.W a))) [] ∧ LaneOnly s t e) ∧
  (∀ s e d a b low l z g, StepReady s e 0x19 d a b low l z → g = (fun j => l.P (low % 64 + j)) →
    Completes (.zpTblp e d a (b * 2048 + low)) s fun t =>
      Stepped t e l l (4 + 2 * b) d (if tableRises b g then sat32 (tableAt b g (l.W a)) else g 1) [(flInv, !tableRises b g)] ∧ LaneOnly s t e) ∧
  (∀ s e d a b low l z k x al v, StepReady s e 0x1A d a b low l z → k = low % 64 → x = (if l.first then l.W a else l.S k) →
    al = max 0 (min 65536 (l.W b)) → v = sat32 (x + divRound (al * (l.W a - x)) 65536) →
    Completes (.zpLpf e d a b low) s fun t => Stepped t e l (l.setS k v) 5 d v [(flLim, al != l.W b)] ∧ LaneOnly s t e) ∧
  (∀ s e d a b low l z k x r v, StepReady s e 0x1B d a b low l z → k = low % 64 → x = (if l.first then l.W a else l.S k) →
    r = max (l.W b) 0 → v = sat32 (x + max (-r) (min r (l.W a - x))) →
    Completes (.zpRate e d a b low) s fun t =>
      Stepped t e l (l.setS k v) 5 d v [(flLim, decide (l.W a - x < -r ∨ r < l.W a - x))] ∧ LaneOnly s t e) ∧
  (∀ s e d a b low l z k v, StepReady s e 0x1C d a b low l z → k = low % 64 →
    v = (if l.W b ≤ l.W a then 65536 else if l.W a ≤ l.W (b + 1) then 0 else if l.first then 0 else l.S k) →
    Completes (.zpHyst e d a b low) s fun t => Stepped t e l (l.setS k v) 4 d v [(flC, v != 0)] ∧ LaneOnly s t e) ∧
  (∀ s e d a b low l z k v, StepReady s e 0x1D d a b low l z → k = low % 64 →
    v = (if l.W a = 0 then 0 else sat32 ((if l.first then 0 else l.S k) + s.chip.periodFx z)) →
    Completes (.zpTon e d a b low) s fun t =>
      Stepped t e l (l.setS k v) 5 d (if l.W b ≤ v then 65536 else 0) [(flC, decide (l.W b ≤ v))] ∧ LaneOnly s t e)

/-- `RDB`, `RDBA`, `PFUS`, `OCC`, `SCHED`, `PLAN`, `RDSYS`, `RDN` and `MRD` (R173 to R180, R186). -/
def Obligations.ReadingSteps : Prop :=
  (∀ s e d a b low l z n, StepReady s e 0x1E d a b low l z → n = low % 16 → Completes (.zpRdb e d a (b * 2048 + low)) s fun t =>
    Stepped t e l l 4 d (if l.fresh n then (l.bind n).1 else l.W d) [(flStale, !l.fresh n)] ∧ LaneOnly s t e) ∧
  (∀ s e d a b low l z n, StepReady s e 0x1F d a b low l z → n = low % 16 → Completes (.zpRdba e d a (b * 2048 + low)) s fun t =>
    Stepped t e l l 4 d (if 32767000 < (l.bind n).2.1 then 2 ^ 31 - 1 else divRound ((l.bind n).2.1 * 65536 : Nat) 1000) [(flStale, !l.fresh n)]
      ∧ LaneOnly s t e) ∧
  (∀ s e d a b low l z bs, StepReady s e 0x20 d a b low l z → bs = (bitsOf 16 (b * 2048 + low)).filter l.fresh →
    Completes (.zpPfus e d a (b * 2048 + low)) s fun t =>
      Stepped t e l l (4 + 2 * (bitsOf 16 (b * 2048 + low)).length) d
        (if bs = [] then -65536 else (((bs.map l.evidence).foldl max 0 : Nat) : Int) * 65536) [(flStale, decide (bs = []))] ∧ LaneOnly s t e) ∧
  (∀ s e d a b low l z k j ev new out, StepReady s e 0x21 d a b low l z → k = low % 64 → j = 2 * (low / 64) →
    ev = (if l.W a < 0 then none else some (min (Int.fdiv (l.W a) 65536) 2).toNat) →
    new = occNext (occState (l.S j)) (l.S (j + 1)) (s.chip.periodFx z) (l.P k) (l.P (k + 1)) ev →
    out = (if new.1 = 2 ∨ new.1 = 3 then true else if new.1 < 2 then false else if l.P (k + 2) = 0 then false
      else if l.P (k + 2) = 65536 then true else l.W b != 0) →
    Completes (.zpOcc e d a b low) s fun t =>
      Stepped t e l { (l.setS j ((new.1 : Int) * 65536)).setS (j + 1) new.2 with
        occ := some (new.1, ev.getD 0xFF, if out then 1 else 0, occState (l.S j)) } 8 d ((new.1 : Int) * 65536) [(flC, out)] ∧ LaneOnly s t e) ∧
  (∀ s e d a b low l z o, StepReady s e 0x22 d a b low l z → o = s.chip.schedAt z l.startLocal →
    Completes (.zpSched e d a (b * 2048 + low)) s fun t =>
      Stepped t e l l 12 d ([centiFx o.heat, centiFx o.cool].getD (low % 4) (boolFx (o.mode == 1))) [(flC, o.mode == 1), (flLim, o.lim)]
        ∧ LaneOnly s t e) ∧
  (∀ s e d a b low l z, StepReady s e 0x23 d a b low l z → s.chip.planIndex z l.start l.rom = none →
    Completes (.zpPlan e d a (b * 2048 + low)) s fun t => Stepped t e l l 6 d (l.W d) [(flInv, true)] ∧ LaneOnly s t e) ∧
  (∀ s e d a b low l z j p, StepReady s e 0x23 d a b low l z → s.chip.planIndex z l.start l.rom = some j → p = s.chip.planStep z j →
    Completes (.zpPlan e d a (b * 2048 + low)) s fun t =>
      Stepped t e l l 6 d ([centiFx p.1, centiFx p.2.1].getD (low % 4) (divRound (p.2.2 * 65536 : Nat) 200)) [(flInv, false)] ∧ LaneOnly s t e) ∧
  (∀ s e d a b low l z, StepReady s e 0x24 d a b low l z → low % 16 = 0 ∨ low % 16 = 1 ∨ low % 16 = 4 →
    Completes (.zpRdsys e d a (b * 2048 + low)) s fun t =>
      Stepped t e l l 3 d (sat32 (if low % 16 = 0 then s.chip.periodFx z else if low % 16 = 1 then boolFx l.first else (z : Int) * 65536)) []
        ∧ LaneOnly s t e) ∧
  (∀ s e d a b low l z, StepReady s e 0x24 d a b low l z → low % 16 = 2 ∨ low % 16 = 3 →
    Completes (.zpRdsys e d a (b * 2048 + low)) s fun t =>
      Stepped t e l l 3 d (sat32 (if low % 16 = 2 then min 1572863 (divRound (l.startLocal % (86400 * 32768) * 65536) (3600 * 32768))
        else ((weekSecond l.startLocal).1 : Int) * 65536)) [] ∧ LaneOnly s t e) ∧
  (∀ s e d a b low l z v, StepReady s e 0x29 d a b low l z → v = s.chip.rdnValue z (low % 8) l.loadAt →
    Completes (.zpRdn e d a (b * 2048 + low)) s fun t => Stepped t e l l 5 d (v.getD (l.W d)) [(flStale, v.isNone)] ∧ LaneOnly s t e) ∧
  (∀ s e d a b low l z u, StepReady s e 0x2F d a b low l z → u = decide (l.link.mstate = 2 ∨ l.link.mstate = 3) →
    Completes (.zpMrd e d a (b * 2048 + low)) s fun t =>
      Stepped t e l l 4 d (if u then l.coef.getD (low % 16) 0 else l.W d) [(flInv, !u)] ∧ LaneOnly s t e)

/-- `PI`, `API`, `MFF`, `ATUN`, `PUBT`, `DEM`, `PST`, `ALM` and `MUPD` (R181 to R186, R203, R208). -/
def Obligations.ControllerSteps : Prop :=
  (∀ s e d a b low l z k j r, StepReady s e 0x25 d a b low l z → k = low % 64 → j = 2 * (low / 64) →
    r = piStep (l.W a) (l.W b) (l.P k) (l.P (k + 1)) (l.P (k + 2)) (l.P (k + 3)) (s.chip.periodFx z) (l.S j) →
    Completes (.zpPi e d a b low) s fun t =>
      Stepped t e l ((l.setS j r.i).setS (j + 1) r.u) 24 d r.u ((flLim, r.lim) :: (if r.sat then [(flSat, true)] else [])) ∧ LaneOnly s t e) ∧
  (∀ s e d a b low l z k j f g r, StepReady s e 0x26 d a b low l z → k = low % 64 → j = 2 * (low / 64) →
    f = (if l.P k = 65536 then 1 else if l.P k = 131072 then 2 else 0) → g = l.link.gain f → (l.link.bumpless = false ∨ l.link.bumpFam ≠ f) →
    r = piStep (l.W a) (l.W b) (if l.link.gainsOk.testBit f then g.1 * 16 else l.P (k + 1))
      (if l.link.gainsOk.testBit f then g.2 * 65536 else l.P (k + 2)) (l.P (k + 3)) (l.P (k + 4)) (s.chip.periodFx z) (l.S j) →
    Completes (.zpApi e d a b low) s fun t =>
      Stepped t e l ((l.setS j r.i).setS (j + 1) r.u) 28 d r.u
        ((flLim, r.lim) :: (flInv, !l.link.gainsOk.testBit f) :: (if r.sat then [(flSat, true)] else [])) ∧ LaneOnly s t e) ∧
  (∀ s e d a b low l z k f, StepReady s e 0x26 d a b low l z → k = low % 64 →
    f = (if l.P k = 65536 then 1 else if l.P k = 131072 then 2 else 0) → l.link.bumpless = true → l.link.bumpFam = f →
    Completes (.zpApi e d a b low) s fun t =>
      (t.chip.lane e).link.bumpless = false ∧ (t.chip.lane e).flags.testBit flInv = !l.link.gainsOk.testBit f ∧
      (t.chip.lane e).cycles = l.cycles + 28 ∧ (∀ i, i ≠ d → (t.chip.lane e).W i = l.W i) ∧ LaneOnly s t e) ∧
  (∀ s e d a b low l z g num ok, StepReady s e 0x27 d a b low l z → g = l.coef.getD (low % 4) 0 →
    num = (if low % 4 = 0 then l.W a - l.coef.getD 6 0 else l.coef.getD 6 0 - l.W a) →
    ok = ((l.link.mstate == 2 || l.link.mstate == 3) && decide (65536 ≤ 10 * g)) →
    Completes (.zpMff e d a (b * 2048 + low)) s fun t =>
      Stepped t e l l 20 d (if ok then max 0 (min 65536 (fxQuot (num * 65536) g)) else 0) [(flInv, !ok)] ∧ LaneOnly s t e) ∧
  (∀ s e d a b low l z, StepReady s e 0x28 d a b low l z → (s.chip.zrt z).model.test = none →
    Completes (.zpAtun e d a b low) s fun t => Stepped t e l l 6 d (l.W b) [(flC, false)] ∧ LaneOnly s t e) ∧
  (∀ s e d a b low l z, StepReady s e 0x2A d a b low l z → Completes (.zpPubt e d a (b * 2048 + low)) s fun t =>
    t.chip.lane e = { l with pub := some (l.W a), cycles := l.cycles + 3, step := l.step + 1 } ∧ LaneOnly s t e) ∧
  (∀ s e d a b low l z v, StepReady s e 0x2B d a b low l z → v = l.W a → Completes (.zpDem e d a (b * 2048 + low)) s fun t =>
    (t.chip.lane e).port (low % 8) = (max 0 (min 65535 v)).toNat ∧ (∀ p, p < 8 → p ≠ low % 8 → (t.chip.lane e).port p = l.port p) ∧
    (v < 0 ∨ 65536 < v → (t.chip.lane e).flags.testBit flSat = true) ∧
    (0 ≤ v ∧ v ≤ 65536 → (t.chip.lane e).flags.testBit flSat = l.flags.testBit flSat) ∧
    (∀ i, (t.chip.lane e).W i = l.W i) ∧ LaneOnly s t e) ∧
  (∀ s e d a b low l z code, StepReady s e 0x2C d a b low l z → code = l.ports / 2 ^ (8 * (low % 8)) % 256 →
    Completes (.zpPst e d a (b * 2048 + low)) s fun t => Stepped t e l l 2 d ((code : Int) * 65536) [(flC, code == 1)] ∧ LaneOnly s t e) ∧
  (∀ s e d a b low l z n k, StepReady s e 0x2D d a b low l z → n = low / 64 → k = low % 64 → (ofSigned 32 (l.S k)).testBit n = (l.W a != 0) →
    Completes (.zpAlm e d a (b * 2048 + low)) s fun t =>
      t.chip.lane e = { l with cycles := l.cycles + 4, step := l.step + 1 } ∧ LaneOnly s t e) ∧
  (∀ s e d a b low l z n k, StepReady s e 0x2D d a b low l z → n = low / 64 → k = low % 64 → (ofSigned 32 (l.S k)).testBit n ≠ (l.W a != 0) →
    Completes (.zpAlm e d a (b * 2048 + low)) s fun t =>
      (ofSigned 32 ((t.chip.lane e).S k)).testBit n = (l.W a != 0) ∧
      (∃ ev, (t.chip.lane e).events = l.events ++ [ev] ∧ ev.code = 0x0240 ∧ ev.sev = (if n < 16 then 1 else 2) ∧ ev.source = z) ∧
      (∀ i, (t.chip.lane e).W i = l.W i) ∧ LaneOnly s t e) ∧
  (∀ s e d a b low l z u, StepReady s e 0x2E d a b low l z → l.cycles + 70 + mupdWait l.cycles (e % 4) < 2048 → u = (s.chip.beginTick e).modelUpdate z (l.W a) →
    Completes (.zpMupd e d a (b * 2048 + low)) s fun t =>
      (t.chip.lane e).mupd = true ∧ (t.chip.lane e).W d = sat32 u.2.1 ∧ (t.chip.lane e).flags.testBit flInv = !u.2.2 ∧
      (t.chip.lane e).cycles = l.cycles + 70 + mupdWait l.cycles (e % 4) ∧ (t.chip.lane e).step = l.step + 1)

/-- The faults of a step (R144, R165, R167, R168), shown for `DIV`, an `ADD` with reserved bits set and an `ADD` past the budget. -/
def Obligations.StepsFault : Prop :=
  (∀ s e d a b low l z, StepReady s e 0x0B d a b low l z → l.W b = 0 → Completes (.zpDiv e d a b low) s fun t => ZoneFaulted s t e z 2 l.step) ∧
  (∀ s e d a b low l z, e < 256 → l = (s.chip.beginTick e).lane e → l.zone = some z → l.running = true → l.rom = false → l.step < 128 →
    low % 2048 ≠ 0 → Completes (.zpAdd e d a b low) s fun t => ZoneFaulted s t e z 1 l.step) ∧
  (∀ s e d a b l z, e < 256 → d < 32 → a < 32 → b < 32 → l = (s.chip.beginTick e).lane e → l.zone = some z → l.running = true → l.rom = false →
    l.step < 128 → 2046 ≤ l.cycles → Completes (.zpAdd e d a b 0) s fun t => ZoneFaulted s t e z 3 l.step)

/-- `MODEL_HELD_TIMEOUT`, `NEIGHBOUR_DROP`, `AUTO_TUNE_START`, `RELAY_TEST_END`, `MODEL_RESET`, `TUNE_START`, `TUNE_ABORT`,
`MODEL_CFG_WRITE` and `LEARNING_ARCHIVE_WRITE` (R201 to R209, R229, R231, R239). -/
def Obligations.ModelsAct : Prop :=
  (∀ s z h, z < 1024 → (s.chip.zrt z).model.heldSince = some h → (s.chip.zrt z).link.mstate = 3 →
    h + 86400 * ticksPerSecond ≤ s.chip.now →
    Completes (.modelHeldTimeout z) s fun t =>
      (t.chip.zrt z).link.mstate = 4 ∧ t.chip.getF MODEL_COEF z MODEL_COEF.MSTATE = 4 ∧ t.chip.getF MODEL_COEF z MODEL_COEF.VALID = 0 ∧
      t.chip.getF ZONE_PLAN z ZONE_PLAN.PSTATE = 0 ∧ (t.chip.zrt z).link.planOk = false) ∧
  (∀ s z n x, z < 1024 → n < 8 → s.chip.nbIncluded z n = true → lvFull ≤ s.chip.level →
    x = Tab.get { since := s.chip.now } (s.chip.zrt z).model.neigh n → x.fresh = (s.chip.nbValue z n s.chip.up).isSome →
    x.since + 600 * ticksPerSecond ≤ s.chip.now →
    Completes (.neighbourDrop z n) s fun t =>
      t.chip.nbDropped z n = !x.fresh ∧ (∀ k, k ≠ n → t.chip.nbDropped z k = s.chip.nbDropped z k)) ∧
  (∀ s z f, z < 1024 → s.chip.getB MODEL_CFG z MODEL_CFG.AUTO_TUNE = true → (s.chip.zrt z).model.test = none → s.chip.modelUsable z = false →
    s.chip.zstate z = zsRunning → s.chip.level = lvFull → (s.chip.schedAt z s.chip.localTime).mode = 0 → f < 3 →
    (∀ k, k < f → (s.chip.zrt z).link.gainsOk.testBit k = true ∨ s.chip.famPort z k = 0xFF) →
    (s.chip.zrt z).link.gainsOk.testBit f = false → s.chip.famPort z f ≠ 0xFF →
    Completes (.autoTuneStart z) s fun t =>
      (t.chip.zrt z).model.test = some { fam := f, start := s.chip.now } ∧ t.chip.getF TUNE_STATUS z (TUNE_STATUS.TSTATE f) = 1) ∧
  (∀ s z r, z < 1024 → (s.chip.zrt z).model.test = some r → r.fam < 3 →
    (s.chip.level < lvFull ∨ r.start + s.chip.getF MODEL_CFG z MODEL_CFG.TUNE_MAX_H * 3600 * ticksPerSecond ≤ s.chip.now) →
    Completes (.relayTestEnd z) s fun t =>
      (t.chip.zrt z).model.test = none ∧ t.chip.getF TUNE_STATUS z (TUNE_STATUS.TSTATE r.fam) = 3 ∧
      t.chip.getF TUNE_STATUS z (TUNE_STATUS.CAUSE r.fam) = (if s.chip.level < lvFull then 5 else 2)) ∧
  (∀ s h x z what, Served s h modelResetSpec x → z < 1024 → 1 ≤ what → what ≤ 15 → h.prsv = 0 → s.chip.wipingZone z = false →
    Completes (.modelReset h z what) s fun t =>
      (what.testBit 0 = true → (t.chip.zrt z).link.mstate = 0 ∧ t.chip.getF MODEL_COEF z MODEL_COEF.UPDATES = 0 ∧
        ∀ i, i < 16 → t.chip.getF MODEL_COEF z (MODEL_COEF.COEF i) = 0) ∧
      (what.testBit 1 = true → (t.chip.zrt z).model.test = none ∧ (t.chip.zrt z).model.dead = none ∧
        ∀ f, f < 3 → t.chip.getF TUNE_STATUS z (TUNE_STATUS.TSTATE f) = 0) ∧
      (what.testBit 2 = true → t.chip.img PRESENCE_PROFILE z = PRESENCE_PROFILE.resetImg z) ∧
      (what.testBit 3 = true → t.chip.getF ZONE_PLAN z ZONE_PLAN.PSTATE = 0 ∧ t.chip.plan? z = none)) ∧
  (∀ s h x z fam, Served s h tuneStartSpec x → z < 1024 → fam < 3 → h.prsv = 0 → s.chip.zstate z = zsRunning →
    (s.chip.zrt z).model.test = none → (s.chip.zrt z).model.testDue = none → s.chip.famPort z fam ≠ 0xFF →
    Completes (.tuneStart h z fam) s fun t => (t.chip.zrt z).model.testDue = some fam) ∧
  (∀ s h x z r, Served s h tuneAbortSpec x → z < 1024 → h.prsv = 0 → (s.chip.zrt z).model.test = some r → r.fam < 3 →
    Completes (.tuneAbort h z) s fun t =>
      (t.chip.zrt z).model.test = none ∧ t.chip.getF TUNE_STATUS z (TUNE_STATUS.TSTATE r.fam) = 3 ∧
      t.chip.getF TUNE_STATUS z (TUNE_STATUS.CAUSE r.fam) = 6) ∧
  (∀ s h x z ver img, Served s h setRecordSpec x → x.who.estateOnly = true → WriteFits s.chip h MODEL_CFG z ver img → modelCfgBad img = false →
    Completes (.modelCfgWrite h z ver img) s fun t => Wrote s t MODEL_CFG z img ∧
      ((∃ k ∈ regressorFields, k.get (t.chip.img MODEL_CFG z) ≠ k.get (s.chip.img MODEL_CFG z)) →
        t.chip.getF MODEL_COEF z MODEL_COEF.UPDATES = 0 ∧ (t.chip.zrt z).model.theta = [] ∧ (t.chip.zrt z).link.mstate ≠ 2)) ∧
  (∀ s, s.chip.level = lvFull → s.chip.now % (21600 * ticksPerSecond) = 0 →
    Completes .learningArchiveWrite s fun t => ∃ y : Archive,
      y.valid = true ∧ y.seq = max s.chip.zones.archA.seq s.chip.zones.archB.seq + 1 ∧ y.time = s.chip.now ∧
      (∀ z, z < 1024 → (z, s.chip.archZone z) ∈ y.zones) ∧
      (if s.chip.zones.archB.valid = true ∧ (s.chip.zones.archA.valid = false ∨ s.chip.zones.archA.seq ≤ s.chip.zones.archB.seq) then
        t.chip.zones.archA = y ∧ t.chip.zones.archB = s.chip.zones.archB
      else t.chip.zones.archA = s.chip.zones.archA ∧ t.chip.zones.archB = y))

/-- `PLAN_ROUND_START`, `PLAN_ITERATION_DEADLINE`, `PLAN_LATE_DEADLINE`, `PLAN_COMMIT`, `PLAN_EXPIRY`, `FIGHT_EVALUATE` and
`FIGHT_OFFSET_STEP` (R213 to R226). -/
def Obligations.PlansAndFightsAct : Prop :=
  (∀ s, s.chip.now % ticksPerQuarter = 0 → (∀ k, k < 4 → (s.chip.ter k).roundQ = none) →
    Completes .planRoundStart s fun t =>
      (∀ k, k < 4 → s.chip.terracePlans k = true →
        (t.chip.ter k).roundQ = some s.chip.now ∧ (t.chip.ter k).iter = 0 ∧
        t.chip.getF PLAN_ROUND k PLAN_ROUND.LAST_Q = s.chip.now % 2 ^ 64) ∧
      (∀ z, z < 1024 → s.chip.terracePlans (z / 256) = true → s.chip.plannable z = true →
        ∃ planned, (∀ y, planned y = (decide (y < 1024) && s.chip.terracePlans (y / 256) && s.chip.plannable y)) ∧
          t.chip.plan? z = some (s.chip.capture z s.chip.now (s.chip.planMode (z / 256)) planned))) ∧
  (∀ s k z p q doneMask, k < 4 → (s.chip.ter k).roundQ = some q → s.chip.zones.plan = [(z, p)] → z / 256 = k → s.chip.iterationDue k q = true →
    doneMask.testBit (z % 256) = true →
    Completes (.planIterationDeadline k doneMask) s fun t =>
      (t.chip.ter k).iter = (s.chip.ter k).iter + 1 ∧ (t.chip.ter k).roundQ = some q ∧
      ∃ y, t.chip.plan? z = some y ∧ y.off = p.iterate.off ∧ y.cost = p.iterate.cost ∧ y.iter = p.iterate.iter ∧ y.traj = p.iterate.traj ∧
        y.finished = p.iterate.finished) ∧
  (∀ s k q, k < 4 → (s.chip.ter k).roundQ = some q → q + 720 * ticksPerSecond ≤ s.chip.now →
    Completes (.planLateDeadline k) s fun t => ∀ z p, z < 1024 → z / 256 = k → s.chip.plan? z = some p → p.finished = false →
      t.chip.plan? z = none ∧ t.chip.getF ZONE_PLAN z ZONE_PLAN.LATE = 1) ∧
  (∀ s k q, k < 4 → (s.chip.ter k).roundQ = some q → q + ticksPerQuarter ≤ s.chip.now →
    Completes (.planCommit k) s fun t => (t.chip.ter k).roundQ = none ∧
      ∀ z p, z < 1024 → z / 256 = k → s.chip.plan? z = some p → p.finished = true →
        t.chip.plan? z = none ∧ t.chip.getF ZONE_PLAN z ZONE_PLAN.PSTATE = 1 ∧ t.chip.getF ZONE_PLAN z ZONE_PLAN.LATE = 0 ∧
        t.chip.getF ZONE_PLAN z ZONE_PLAN.START = (p.q + ticksPerQuarter) % 2 ^ 64 ∧ (t.chip.zrt z).offs = p.off ∧
        (t.chip.zrt z).link.planOk = true) ∧
  (∀ s z, z < 1024 → s.chip.getF ZONE_PLAN z ZONE_PLAN.PSTATE = 1 →
    s.chip.getF ZONE_PLAN z ZONE_PLAN.START + 96 * ticksPerQuarter ≤ s.chip.now →
    Completes (.planExpiry z) s fun t => t.chip.getF ZONE_PLAN z ZONE_PLAN.PSTATE = 0 ∧ (t.chip.zrt z).link.planOk = false) ∧
  (∀ s, Completes .fightEvaluate s fun t =>
    t.chip.getF FIGHT_STATUS 0 FIGHT_STATUS.WATCHED = s.chip.watchedPairs.length % 2 ^ FIGHT_STATUS.WATCHED.width ∧
    (∀ z, z < 1024 → (t.chip.zrt z).fightN = 0) ∧
    ∀ z n f a b w, (z, n) ∈ s.chip.watchedPairs → s.chip.pair z n = some f → f.fighting = true → f.episode = false →
      s.chip.fightRoles z n = some (a, b) → s.chip.fightF FIGHT_CFG.DETECT_S * ticksPerSecond ≤ s.chip.since f.since →
      w = divFree 225 (s.chip.fightF FIGHT_CFG.WIDEN) 2 →
      ∃ g, t.chip.pair z n = some g ∧ g.episode = true ∧ g.heater = a ∧ g.cooler = b ∧ g.hh = -w ∧ g.ch = -w ∧ g.hc = w ∧ g.cc = w) ∧
  (∀ s z y f top, z < 1024 → y < 1024 → s.chip.pair (min z y) (max z y) = some f → f.episode = true → f.fighting = true →
    top = divFree 225 (s.chip.fightF FIGHT_CFG.WIDEN) 2 + s.chip.fightF FIGHT_CFG.DRAW_MAX →
    Completes (.fightOffsetStep z y) s fun t =>
      t.chip.pair (min z y) (max z y) = some { f with hh := max (-top) (f.hh - 10), cc := min top (f.cc + 10) })

/-- `ALLOC_FRAME_BOUNDARY` and the ledger's balance (R250, R251, R253 to R255). F is B − H − C by its definition. -/
def Obligations.LedgerStaysBalanced : Prop :=
  ∀ s, s.chip.act.running = true → s.chip.boot.pfHalt = false →
    Completes .allocFrameBoundary s fun t =>
      0 ≤ t.chip.freeTokens ∧ t.chip.act.c ≤ t.chip.cNom ∧ t.chip.act.b = s.chip.budget ∧ t.chip.act.frame = s.chip.act.frame + 1 ∧
      t.chip.act.stopMask = maskOff s.chip.act.stopMask s.chip.act.resume ∧ t.chip.act.forceMask = maskOff s.chip.act.forceMask s.chip.act.release ∧
      t.chip.act.resume = 0 ∧ t.chip.act.release = 0 ∧ t.chip.act.zoneRelease = [] ∧
      (s.chip.forcedLines = 0 →
        t.chip.getF BUDGET_STATUS 0 BUDGET_STATUS.BUDGET_EFF = t.chip.act.b % 2 ^ 16 ∧
        t.chip.getF BUDGET_STATUS 0 BUDGET_STATUS.HELD = t.chip.heldTokens % 2 ^ 16 ∧
        t.chip.getF BUDGET_STATUS 0 BUDGET_STATUS.FREE = t.chip.freeTokens.toNat % 2 ^ 16 ∧
        t.chip.getF BUDGET_STATUS 0 BUDGET_STATUS.RESERVE = t.chip.act.c % 2 ^ 16 ∧
        t.chip.getF BUDGET_STATUS 0 BUDGET_STATUS.STOP = t.chip.act.stopMask % 2 ^ 3)

/-- Combined demands, on times and pull-ins (R243, R245, R252, R254), as the allocator's operations compute them. -/
def Obligations.DemandsAndGrants : Prop :=
  (∀ (c : Chip) i, c.sources i ≠ [] → (fgBase ≤ i ∨ ACT_MAP.COMBINE.get (c.amap i) = 0) →
    (∃ s ∈ c.sources i, c.combined i = c.srcDemand s) ∧ ∀ s ∈ c.sources i, c.srcDemand s ≤ c.combined i) ∧
  (∀ (c : Chip) i, c.sources i ≠ [] → i < fgBase → ACT_MAP.COMBINE.get (c.amap i) = 1 →
    (∃ s ∈ c.sources i, c.combined i = c.srcDemand s) ∧ ∀ s ∈ c.sources i, c.combined i ≤ c.srcDemand s) ∧
  (∀ (c : Chip) i n w, c.sources i ≠ [] → i < fgBase → ACT_MAP.COMBINE.get (c.amap i) = 2 →
    n = ((c.sources i).map (fun s => c.srcDemand s * s.2.2)).sum → w = ((c.sources i).map (fun s => s.2.2)).sum → 0 < w →
    2 * n < (2 * c.combined i + 1) * w ∧ 2 * c.combined i * w ≤ 2 * n + w) ∧
  (∀ (c : Chip) z p, c.isolated z = true → c.portDemand z p = 0) ∧
  (∀ (c : Chip) ch, (c.tgt ch).dem = 0xFFFF → c.minOnMs ch ≤ c.cycleMs ch → c.onTime ch = c.cycleMs ch) ∧
  (∀ (c : Chip) ch, c.onTime ch = 0 ∨ c.onTime ch = c.cycleMs ch ∨ (c.minOnMs ch ≤ c.onTime ch ∧ c.onTime ch + c.minOffMs ch ≤ c.cycleMs ch)) ∧
  (∀ (c : Chip) ch cost, ch < 96 → c.chFault ch = 0 → c.chKind ch = ckValve → c.forced ch = false → c.isoStop ch = false →
    (c.chan ch).trip = 0 → (c.chan ch).resetting = none → (c.chan ch).hot = false → c.act.bnr = false → c.act.lowSince = none →
    c.coilRefuses ch (c.getF SUPPLY_STATUS 0 SUPPLY_STATUS.VBOOST) = false → cost = c.pullCost ch false →
    (if (cost : Int) ≤ c.freeTokens + (c.tgt ch).charge ∧ c.currentsFit ch false = true then
      ∃ d, c.judgePull ch none = .grant d ∧ d.cstate ch = csBoost ∧ (d.tgt ch).charge = cost ∧ (d.tgt ch).wait = none ∧
        d.freeTokens = c.freeTokens + (c.tgt ch).charge - cost
    else c.judgePull ch none = .stop c))

/-- `CLASS0_MICROSLOT`, `PD_CLASS_SAMPLE`, `VALVE_CYCLE_END`, `SHED_HOLDOFF_EXPIRY`, `PLANT_STOP`, `PLANT_RESUME`, `ACT_MAP_WRITE` and
`BUDGET_CFG_WRITE` (R242 to R264). -/
def Obligations.AllocatorActs : Prop :=
  (∀ s, s.chip.act.running = true →
    Completes .class0Microslot s fun t =>
      (∀ ch, ch < 96 → s.chip.chKind ch = ckValve → s.chip.forced ch = true → t.chip.cstate ch = csForced) ∧
      (∀ a, a < 24 → (t.chip.axis a).c0 = false)) ∧
  (∀ s code, code < 8 → s.chip.act.running = true →
    Completes (.pdClassSample code) s fun t =>
      t.chip.act.pdLast = some code ∧ t.chip.act.pdCode = (if s.chip.act.pdLast = some code then some code else s.chip.act.pdCode)) ∧
  (∀ s ch, ch < 96 → s.chip.act.running = true → s.chip.mapF ch ACT_MAP.EN = 1 →
    Completes (.valveCycleEnd ch) s fun t => (t.chip.tgt ch).cyc = some (s.chip.cycleAt ch (s.chip.act.frame + 1))) ∧
  (∀ s f, s.chip.act.lastShed = some f → f + 1000 * s.chip.getF BUDGET_CFG 0 BUDGET_CFG.SHED_HOLDOFF_S ≤ s.chip.act.frame →
    Completes .shedHoldoffExpiry s fun t => t.chip.act.lastShed = none ∧
      ∀ i, i < 120 → (t.chip.tgt i).shed = false ∧ ((s.chip.tgt i).shed = true → (t.chip.tgt i).restore = true)) ∧
  (∀ s h x mask, Served s h (chSpec 0x0510 [0, 1] 4) x → 1 ≤ mask → mask < 8 → h.prsv = 0 →
    Completes (.plantStop h mask) s fun t =>
      t.chip.act.stopMask = s.chip.act.stopMask ||| mask ∧ t.chip.act.resume = maskOff s.chip.act.resume mask) ∧
  (∀ s h x mask, Served s h (chSpec 0x0511 [1, 2] 4) x → 1 ≤ mask → mask < 8 → h.prsv = 0 →
    Completes (.plantResume h mask) s fun t =>
      t.chip.act.resume = s.chip.act.resume ||| mask ∧ t.chip.act.stopMask = s.chip.act.stopMask) ∧
  (∀ s h x i ver img, Served s h setRecordSpec x → x.who.estateOnly = true → WriteFits s.chip h ACT_MAP i ver img → actMapBad i img = false →
    s.chip.actMapBlocked i img = false →
    Completes (.actMapWrite h i ver img) s fun t => Wrote s t ACT_MAP i img ∧ t.chip.amap i = s.chip.amap i) ∧
  (∀ s h x i ver img, Served s h setRecordSpec x → x.who.estateOnly = true → WriteFits s.chip h BUDGET_CFG i ver img →
    Completes (.budgetCfgWrite h i ver img) s fun t => Wrote s t BUDGET_CFG i img ∧ t.chip.act.loaded = true ∧ t.chip.act.estWrite = true)

/-- `BOOST_END`, `CLOSURE_WATCH_SAMPLE`, `COIL_MODEL_UPDATE`, `OFF_STATE_DIAGNOSTIC`, `VBOOST_MONITOR`, `BOOST_NOT_READY`,
`BOOST_READY_CLEAR` and the channel faults (R272 to R285). -/
def Obligations.ChannelsRun : Prop :=
  (∀ s ch, ch < 96 → s.chip.cstate ch = csBoost → s.chip.forcedLines = 0 →
    s.chip.passedMs (s.chip.chan ch).boostAt (s.chip.vtRun ch VALVE_TYPE.BOOST_MS) = true →
    Completes (.boostEnd ch) s fun t => t.chip.cstate ch = csHold) ∧
  (∀ s ch time (ma : Nat) w f, ch < 96 → (s.chip.chan ch).watch = some w → s.chip.forcedLines = 0 → f = divRound (3 * w.f + ma) 4 →
    time < 20 * s.chip.vtRun ch VALVE_TYPE.KINK_WIN_START_MS →
    Completes (.closureWatchSample ch time ma) s fun t => (t.chip.chan ch).watch = some { w with f := f, top := max w.top f }) ∧
  (∀ s ch time (ma : Nat) w f depth, ch < 96 → (s.chip.chan ch).watch = some w → f = divRound (3 * w.f + ma) 4 →
    20 * s.chip.vtRun ch VALVE_TYPE.KINK_WIN_START_MS ≤ time → w.first = false → w.valley ≤ f →
    depth = (s.chip.vtRun ch VALVE_TYPE.KINK_DEPTH_MA : Int) → depth ≤ w.peak - w.valley → depth ≤ 2 * (f - w.valley) →
    Completes (.closureWatchSample ch time ma) s fun t =>
      (t.chip.chan ch).watch = none ∧ t.chip.getF CH_STATUS ch CH_STATUS.LAST_CLOSE = 1 ∧ t.chip.getF CH_STATUS ch CH_STATUS.NOMOVE_RUN = 0 ∧
      t.chip.getF CH_STATUS ch CH_STATUS.CLOSE_T = w.tValley % 2 ^ 16) ∧
  (∀ s ch time (ma : Nat) w f, ch < 96 → (s.chip.chan ch).watch = some w → f = divRound (3 * w.f + ma) 4 → w.first = true →
    20 * s.chip.vtRun ch VALVE_TYPE.KINK_WIN_START_MS ≤ time → 20 * s.chip.vtRun ch VALVE_TYPE.KINK_WIN_END_MS ≤ time →
    (s.chip.vtRun ch VALVE_TYPE.OPEN_MA : Int) ≤ max w.top f →
    Completes (.closureWatchSample ch time ma) s fun t =>
      (t.chip.chan ch).watch = none ∧ t.chip.getF CH_STATUS ch CH_STATUS.LAST_CLOSE = 2 ∧
      t.chip.getF CH_STATUS ch CH_STATUS.NOMOVE_CNT = satInc 32 (s.chip.getF CH_STATUS ch CH_STATUS.NOMOVE_CNT)) ∧
  (∀ s currents, lvLimited ≤ s.chip.level → s.chip.boot.pfHalt = false → s.chip.noSense = false →
    Completes (.coilModelUpdate currents) s fun t => ∀ ch ss old new, ch < 96 → s.chip.chKind ch = ckValve →
      ss = s.chip.coilSteady ch (if s.chip.chDriven ch then (currents.getD ch (0, 0)).2 else 0) →
      old = (s.chip.chan ch).coilT → new = (t.chip.chan ch).coilT →
      (t.chip.chan ch).coilSs = ss ∧ min old ss ≤ new ∧ new ≤ max old ss ∧ (t.chip.chan ch).tAt = s.chip.now) ∧
  (∀ s ch mv0 mv1, ch < 96 → lvLimited ≤ s.chip.level → s.chip.chKind ch = ckValve → s.chip.cstate ch = csOff → s.chip.forced ch = false →
    s.chip.arState 1 ≠ arCalibrating → s.chip.getB CH_CFG ch CH_CFG.OFF_DIAG_EN = true → (s.chip.chan ch).resetting = none →
    s.chip.passedMs (s.chip.chan ch).diagAt (s.chip.getF CH_GLOBAL 0 CH_GLOBAL.OFF_DIAG_MS) = true → s.chip.chFault ch = 0 →
    Completes (.offStateDiagnostic ch mv0 mv1) s fun t =>
      t.chip.chFault ch = (if 2000 < mv0 then 7 else if 2000 < mv1 then 6 else 0) ∧ (t.chip.chan ch).diagAt = s.chip.up) ∧
  (∀ s ch mv0 mv1, ch < 96 → lvLimited ≤ s.chip.level → s.chip.chKind ch = ckValve → s.chip.cstate ch = csFault → s.chip.forced ch = false →
    s.chip.arState 1 ≠ arCalibrating → s.chip.getB CH_CFG ch CH_CFG.OFF_DIAG_EN = true → (s.chip.chan ch).resetting = none →
    s.chip.passedMs (s.chip.chan ch).diagAt (s.chip.getF CH_GLOBAL 0 CH_GLOBAL.OFF_DIAG_MS) = true →
    (s.chip.chFault ch = 6 ∨ s.chip.chFault ch = 7) → 2 ≤ (s.chip.chan ch).passes → mv0 ≤ 2000 → mv1 ≤ 2000 →
    Completes (.offStateDiagnostic ch mv0 mv1) s fun t => t.chip.chFault ch = 0) ∧
  (∀ s v, lvLimited ≤ s.chip.level → Completes (.vboostMonitor v) s fun t =>
    t.chip.getF SUPPLY_STATUS 0 SUPPLY_STATUS.VBOOST = v % 2 ^ SUPPLY_STATUS.VBOOST.width ∧
    t.chip.act.lowSince = (if v < s.chip.getF CH_GLOBAL 0 CH_GLOBAL.VBOOST_MIN then some (s.chip.act.lowSince.getD s.chip.up) else none) ∧
    ∀ ch, ch < 96 → t.chip.getF CH_STATUS ch CH_STATUS.BOOST_LOW = (if v < s.chip.getF CH_GLOBAL 0 CH_GLOBAL.VBOOST_MIN then 1 else 0)) ∧
  (∀ s k, s.chip.act.lowSince = some k → s.chip.passedS k 2 = true → s.chip.pullWaiting = true → lvLimited ≤ s.chip.level → s.chip.act.bnr = false →
    Completes .boostNotReady s fun t => t.chip.act.bnr = true ∧ ∀ ch, ch < 96 → t.chip.getF CH_STATUS ch CH_STATUS.BNR = 1) ∧
  (∀ s k, s.chip.act.okSince = some k → s.chip.passedMs k 100 = true → s.chip.act.bnr = true →
    Completes .boostReadyClear s fun t => t.chip.act.bnr = false ∧ ∀ ch, ch < 96 → t.chip.getF CH_STATUS ch CH_STATUS.BNR = 0 ∧
      (t.chip.tgt ch).refused = false) ∧
  (∀ s ch, ch < 96 → s.chip.chKind ch = ckValve → s.chip.chFault ch = 0 → s.chip.forced ch = false → s.chip.axisOfChannel ch = none →
    s.chip.holding 0 = false →
    (s.chip.chDriven ch = true → Completes (.channelShortTrip ch) s fun t => t.chip.chFault ch = 1 ∧ t.chip.cstate ch = csFault ∧
      t.chip.getF CH_STATUS ch CH_STATUS.FAULT_CNT = satInc 32 (s.chip.getF CH_STATUS ch CH_STATUS.FAULT_CNT)) ∧
    Completes (.channelJunctionTrip ch) s (fun t => t.chip.chFault ch = 3 ∧ t.chip.cstate ch = csFault) ∧
    (s.chip.cstate ch = csBoost → Completes (.dieSumTrip (ch / 48)) s fun t => t.chip.chFault ch = 4 ∧ t.chip.cstate ch = csFault) ∧
    (∀ ma, s.chip.noSense = false → s.chip.cstate ch = csHold ∨ s.chip.cstate ch = csEcon → s.chip.vtRun ch VALVE_TYPE.OC_MA < ma →
      Completes (.channelOvercurrent ch ma) s fun t => t.chip.chFault ch = 2 ∧ t.chip.cstate ch = csFault) ∧
    (∀ ma, s.chip.noSense = false → s.chip.cstate ch = csHold ∨ s.chip.cstate ch = csEcon → ma < s.chip.vtRun ch VALVE_TYPE.OPEN_MA →
      Completes (.channelOpenLoad ch ma) s fun t => t.chip.chFault ch = 6 ∧ t.chip.cstate ch = csFault) ∧
    (s.chip.chDriven ch = true → s.chip.passedMs (s.chip.chan ch).senseAt 200 = true →
      Completes (.channelSenseLost ch) s fun t => t.chip.chFault ch = 5 ∧ t.chip.cstate ch = csFault)) ∧
  (∀ s ch, ch < 96 → s.chip.chFault ch = 4 → s.chip.passedS (s.chip.chan ch).faultAt 1 = true →
    Completes (.pkgOcClear ch) s fun t => t.chip.chFault ch = 0)

/-- `CHANNEL_MANUAL`, `CHANNEL_MANUAL_TIMEOUT`, `CHANNEL_RESET`, `CHANNEL_FORCE_OFF`, `CHANNEL_FORCE_RELEASE` and `CH_CFG_WRITE`
(R270, R272, R291). -/
def Obligations.ChannelCommandsAct : Prop :=
  (∀ s h x ch mode wait timeout, Served s h (chSpec 0x0600 [1, 2] 8) x → ch < 96 → mode ≤ 2 → wait ≤ 1 → h.prsv = 0 →
    s.chip.chKind ch = ckValve → s.chip.forced ch = false → s.chip.cstate ch ≠ csForced → s.chip.chFault ch = 0 →
    Completes (.channelManual h ch mode wait timeout) s fun t =>
      (mode = 0 → t.chip.getF CH_STATUS ch CH_STATUS.MANUAL_MODE = 0) ∧
      (mode = 2 → t.chip.getF CH_STATUS ch CH_STATUS.MANUAL_MODE = 2 ∧ (t.chip.tgt ch).wait = none) ∧
      (mode = 1 → wait = 1 → t.chip.getF CH_STATUS ch CH_STATUS.MANUAL_MODE = 1 ∧
        (t.chip.tgt ch).wait = some { order := 2, cls := h.cls, seq := s.chip.act.seq, since := s.chip.act.frame }) ∧
      (mode = 1 → wait = 0 → t.chip.act.man0 = s.chip.act.man0 ++ [{ ch := ch, cls := h.cls, seq := s.chip.act.seq, timeout := timeout }] ∧
        t.chip.host.waits = s.chip.host.waits ++ [⟨manualWait s.chip.act.seq, 0x0600, x.ep, x.si, h⟩])) ∧
  (∀ s ch k, ch < 96 → (s.chip.chan ch).until_ = some k → k ≤ s.chip.up → s.chip.getF CH_STATUS ch CH_STATUS.MANUAL_MODE ≠ 0 →
    Completes (.channelManualTimeout ch) s fun t =>
      t.chip.getF CH_STATUS ch CH_STATUS.MANUAL_MODE = 0 ∧ (t.chip.tgt ch).restore = true ∧ (t.chip.chan ch).until_ = none) ∧
  (∀ s h x ch, Served s h (chSpec 0x0601 [2] 4) x → ch < 96 → h.prsv = 0 → s.chip.chKind ch = ckValve → s.chip.forced ch = false →
    Completes (.channelReset h ch) s fun t =>
      t.chip.chFault ch = 0 ∧ t.chip.getF CH_STATUS ch CH_STATUS.FAULT_CNT = 0 ∧ t.chip.getF CH_STATUS ch CH_STATUS.NOMOVE_RUN = 0 ∧
      t.chip.chDriven ch = false ∧ (t.chip.chan ch).resetting = some (s.chip.chFault ch) ∧ (t.chip.tgt ch).wait = none ∧
      t.chip.host.waits = s.chip.host.waits ++ [⟨chResetWait ch, 0x0601, x.ep, x.si, h⟩]) ∧
  (∀ s h x mask, Served s h (chSpec 0x0610 [0, 1] 16) x → 1 ≤ mask → mask < 2 ^ 96 → h.prsv = 0 →
    Completes (.channelForceOff h mask) s fun t =>
      t.chip.act.forceMask = s.chip.act.forceMask ||| mask ∧ t.chip.act.release = maskOff s.chip.act.release mask ∧
      ∀ ch, ch < 96 → t.chip.getF CH_STATUS ch CH_STATUS.FORCED = (if (s.chip.act.forceMask ||| mask).testBit ch then 1 else 0)) ∧
  (∀ s h x mask, Served s h (chSpec 0x0611 [1, 2] 16) x → 1 ≤ mask → mask < 2 ^ 96 → h.prsv = 0 →
    Completes (.channelForceRelease h mask) s fun t =>
      t.chip.act.release = s.chip.act.release ||| mask ∧ t.chip.act.forceMask = s.chip.act.forceMask) ∧
  (∀ s h x ch ver img, Served s h setRecordSpec x → x.who.estateOnly = true → WriteFits s.chip h CH_CFG ch ver img →
    CH_CFG.KIND.get img ≤ 1 → s.chip.chCfgHeld ch img = false →
    Completes (.chCfgWrite h ch ver img) s fun t => Wrote s t CH_CFG ch img ∧
      (s.chip.chKind ch = ckValve → CH_CFG.KIND.get img = ckUnused → t.chip.cstate ch = csUnused ∧ t.chip.chFault ch = 0) ∧
      (s.chip.chKind ch = ckUnused → CH_CFG.KIND.get img = ckValve → s.chip.forced ch = false → s.chip.chFault ch = 0 →
        (s.chip.chan ch).hot = false → t.chip.cstate ch = csOff))

/-- `ENCODER_EDGE`, `INDEX_EDGE`, `MIN_EDGE_EXPIRY`, `ENC_DIRECTION`, `SINCOS_SAMPLE` and `SPEED_LOOP_UPDATE` (R296 to R304). -/
def Obligations.EncodersCount : Prop :=
  (∀ s e levels time (up : Bool), e < 24 → levels < 8 → s.chip.encOn e = true → s.chip.getF ENC_CFG e ENC_CFG.MODE = 1 →
    s.chip.edgeFree e time = true → (s.chip.enc e).levels < 8 →
    (quadPos levels + 4 - quadPos (s.chip.enc e).levels) % 4 = (if up then 1 else 3) → levels.testBit 2 = (s.chip.enc e).levels.testBit 2 →
    Completes (.encoderEdge e levels time) s fun t => (t.chip.enc e).levels = levels ∧
      t.chip.getF ENC_STATUS e ENC_STATUS.POSITION =
        ofSigned 32 (s.chip.encPos e + if up != s.chip.getB ENC_CFG e ENC_CFG.DIR_INV then 1 else -1)) ∧
  (∀ s e levels time, e < 24 → levels < 8 → s.chip.encOn e = true → s.chip.getF ENC_CFG e ENC_CFG.MODE = 1 → s.chip.edgeFree e time = false →
    ((s.chip.enc e).pins ^^^ levels) &&& 7 ≠ 0 → (s.chip.enc e).ignored = 0 →
    Completes (.encoderEdge e levels time) s fun t => (t.chip.enc e).levels = (s.chip.enc e).levels ∧
      t.chip.encPos e = s.chip.encPos e ∧
      t.chip.getF ENC_STATUS e ENC_STATUS.EDGE_FAULT_CNT = satInc 32 (s.chip.getF ENC_STATUS e ENC_STATUS.EDGE_FAULT_CNT)) ∧
  (∀ s e time, e < 24 → s.chip.encOn e = true → s.chip.getF ENC_CFG e ENC_CFG.MODE = 1 → s.chip.edgeFree e time = true →
    (s.chip.enc e).pins = (s.chip.enc e).levels → (s.chip.enc e).levels < 4 →
    Completes (.indexEdge e time) s fun t =>
      t.chip.getF ENC_STATUS e ENC_STATUS.INDEX_CNT = satInc 32 (s.chip.getF ENC_STATUS e ENC_STATUS.INDEX_CNT)) ∧
  (∀ s e time, e < 24 → s.chip.encOn e = true → (s.chip.enc e).ignored ≠ 0 → s.chip.edgeFree e time = true →
    Completes (.minEdgeExpiry e time) s fun t => (t.chip.enc e).ignored = 0) ∧
  (∀ s e k, e < 24 → (s.chip.enc e).dirTold = some k → s.chip.passedMs k 100 = true →
    s.chip.getB ENC_STATUS e ENC_STATUS.DIR ≠ (s.chip.enc e).dirLast →
    Completes (.encDirection e) s fun t =>
      (t.chip.enc e).dirTold = some s.chip.up ∧ (t.chip.enc e).dirLast = s.chip.getB ENC_STATUS e ENC_STATUS.DIR) ∧
  (∀ s e sinv cosv time sq lo hi, e < 24 → s.chip.encOn e = true → s.chip.getF ENC_CFG e ENC_CFG.MODE = 2 →
    lo = s.chip.getF ENC_CFG e ENC_CFG.AMP_MIN → hi = s.chip.getF ENC_CFG e ENC_CFG.AMP_MAX →
    sq = ((sinv - s.chip.getS ENC_CFG e ENC_CFG.SIN_OFS) ^ 2 + (cosv - s.chip.getS ENC_CFG e ENC_CFG.COS_OFS) ^ 2).toNat →
    Completes (.sincosSample e sinv cosv time) s fun t =>
      t.chip.getF ENC_STATUS e ENC_STATUS.AMP = min 0xFFFF (sqrtN sq) ∧
      (if sq < lo * lo ∨ hi * hi < sq then
        (t.chip.enc e).ampRun = (s.chip.enc e).ampRun + 1 ∧ (t.chip.enc e).ampBad = true ∧ t.chip.encPos e = s.chip.encPos e
      else (t.chip.enc e).ampRun = 0 ∧ (t.chip.enc e).ampBad = false ∧ (t.chip.enc e).angle.isSome = true)) ∧
  (∀ s e time, e < 24 → s.chip.encOn e = true →
    Completes (.speedLoopUpdate e time) s fun t =>
      t.chip.getF ENC_STATUS e ENC_STATUS.SPEED = ofSigned 32 (clampI (-2147483648) 2147483647
        (if s.chip.getF ENC_STATUS e ENC_STATUS.SPD_METHOD = 1 then s.chip.countSpeed e time else s.chip.periodSpeed e time)) ∧
      (∀ a, s.chip.axisOfEnc e = some a → s.chip.astate a = asMoving → s.chip.forcedLines = 0 →
        (t.chip.axis a).duty.natAbs ≤ (s.chip.dutyOf a (s.chip.axRun a AX_CFG.DUTY_MAX)).natAbs))

/-- `POSITION_LOOP_UPDATE`, `AXIS_IN_POSITION`, `DRIFT_CORRECTION`, `AXIS_STALL`, `STALL_RETRY`, `AXIS_MOVE_TIMEOUT`, `HOME_TIMEOUT`,
`AXIS_NO_CURRENT` and `AXIS_SENSE_STALE` (R305 to R312). -/
def Obligations.AxesRun : Prop :=
  (∀ s a ma p lo hi, AxisLive s a asMoving → lvLimited ≤ s.chip.level → s.chip.boot.pfHalt = false → p = s.chip.axPos a →
    lo = -(s.chip.getF AX_CFG a AX_CFG.RANGE_MARGIN : Int) → hi = s.chip.axSpan a - lo →
    Completes (.positionLoopUpdate a ma) s fun t =>
      t.chip.getF AX_STATUS a AX_STATUS.POSITION = ofSigned 32 p ∧
      t.chip.getF AX_STATUS a AX_STATUS.I_MA = ma % 2 ^ AX_STATUS.I_MA.width ∧
      (s.chip.homed a = true → p < lo ∨ hi < p → AxisFaulted s t a 6) ∧
      (s.chip.homed a = false ∨ (lo ≤ p ∧ p ≤ hi) →
        if (s.chip.axErr a).natAbs ≤ s.chip.axRun a AX_CFG.IN_POS_COUNTS then
          t.chip.astate a = asSettling ∧ (t.chip.axis a).settleAt = some s.chip.up
        else t.chip.astate a = asMoving ∧ (t.chip.axis a).vcmd = s.chip.vcmdNext a)) ∧
  (∀ s a k, AxisLive s a asSettling → (s.chip.axis a).settleAt = some k → (s.chip.axErr a).natAbs ≤ s.chip.axRun a AX_CFG.IN_POS_COUNTS →
    s.chip.passedMs k (s.chip.axRun a AX_CFG.SETTLE_MS) = true →
    Completes (.axisInPosition a) s fun t =>
      t.chip.astate a = asIdle ∧ (t.chip.axis a).duty = 0 ∧ t.chip.getF AX_STATUS a AX_STATUS.STALL_RUN = 0) ∧
  (∀ s a k, AxisLive s a asIdle → (s.chip.axis a).driftAt = some k → s.chip.passedS k 1 = true →
    Completes (.driftCorrection a) s fun t => (t.chip.axis a).corr = true ∧ t.chip.getF AX_STATUS a AX_STATUS.CORR_PENDING = 1) ∧
  (∀ s a k n, AxisLive s a asMoving → (s.chip.axis a).stallAt = some k → s.chip.passedMs k (s.chip.axRun a AX_CFG.STALL_MS) = true →
    n = satInc AX_STATUS.STALL_RUN.width (s.chip.getF AX_STATUS a AX_STATUS.STALL_RUN) →
    Completes (.axisStall a) s fun t =>
      t.chip.getF AX_STATUS a AX_STATUS.STALL_RUN = n ∧
      t.chip.getF AX_STATUS a AX_STATUS.STALL_CNT = satInc 32 (s.chip.getF AX_STATUS a AX_STATUS.STALL_CNT) ∧
      (if n = s.chip.axRun a AX_CFG.STALL_LIMIT then AxisFaulted s t a 7
      else t.chip.astate a = asStalled ∧ (t.chip.axis a).retryAt = some s.chip.up ∧ (t.chip.axis a).duty = 0)) ∧
  (∀ s a k, AxisLive s a asHoming → (s.chip.axis a).stallAt = some k → s.chip.passedMs k (s.chip.axRun a AX_CFG.STALL_MS) = true →
    s.chip.getF AX_CFG a AX_CFG.HOME_METHOD = 0 → s.chip.axEnc a < 24 →
    Completes (.axisStall a) s fun t =>
      t.chip.homed a = true ∧ t.chip.getF ENC_STATUS (s.chip.axEnc a) ENC_STATUS.POSITION = s.chip.getF AX_CFG a AX_CFG.HOME_POS ∧
      t.chip.astate a = (if (s.chip.axis a).homeGrant then asMoving else asIdle)) ∧
  (∀ s a k, AxisLive s a asStalled → (s.chip.axis a).retryAt = some k → s.chip.passedS k (s.chip.getF AX_CFG a AX_CFG.STALL_RETRY_S) = true →
    Completes (.stallRetry a) s fun t => (t.chip.axis a).retry = true) ∧
  (∀ s a, AxisLive s a asMoving → s.chip.passedS (s.chip.axis a).moveAt (s.chip.axRun a AX_CFG.MOVE_TIMEOUT_S) = true →
    Completes (.axisMoveTimeout a) s fun t => AxisFaulted s t a 8) ∧
  (∀ s a, AxisLive s a asHoming → s.chip.passedS (s.chip.axis a).homeAt (s.chip.axRun a AX_CFG.HOME_TIMEOUT_S) = true →
    Completes (.homeTimeout a) s fun t => AxisFaulted s t a 9) ∧
  (∀ s a ma, AxisLive s a asMoving → (s.chip.dutyOf a 0x4000).natAbs ≤ (s.chip.axis a).duty.natAbs → ma < s.chip.axRun a AX_CFG.OPEN_MA →
    Completes (.axisNoCurrent a ma) s fun t => AxisFaulted s t a 3) ∧
  (∀ s a, AxisLive s a asMoving → s.chip.passedMs (s.chip.pairSense a) 200 = true →
    Completes (.axisSenseStale a) s fun t => AxisFaulted s t a 2)

/-- `AXIS_MANUAL`, `AXIS_MANUAL_TIMEOUT`, `AXIS_HOME`, `AXIS_RESET`, `ENC_ARM_INDEX`, `ENC_PRESET`, `AX_CFG_WRITE` and `ENC_CFG_WRITE`
(R293, R316, R317, R319). -/
def Obligations.AxisCommandsAct : Prop :=
  (∀ s h x a mode pos timeout, Served s h (chSpec 0x0700 [1, 2] 8) x → a < 24 → mode ≤ 2 → h.prsv = 0 → s.chip.axEn a = true →
    s.chip.astate a ≠ asStopped → s.chip.astate a ≠ asFault → s.chip.forcedLines = 0 →
    Completes (.axisManual h a mode pos timeout) s fun t => t.chip.getF AX_STATUS a AX_STATUS.MANUAL_MODE = mode ∧
      (mode = 1 → (t.chip.axis a).pos = pos ∧ (t.chip.tgt (axBase + a)).wait =
        some { order := 2, cls := h.cls, seq := s.chip.act.seq, since := s.chip.act.frame }) ∧
      (mode = 2 → (t.chip.tgt (axBase + a)).wait = none)) ∧
  (∀ s a k, a < 24 → (s.chip.axis a).until_ = some k → k ≤ s.chip.up → s.chip.getF AX_STATUS a AX_STATUS.MANUAL_MODE ≠ 0 →
    Completes (.axisManualTimeout a) s fun t =>
      t.chip.getF AX_STATUS a AX_STATUS.MANUAL_MODE = 0 ∧ (t.chip.tgt (axBase + a)).restore = true ∧ (t.chip.axis a).until_ = none) ∧
  (∀ s h x a k, Served s h (chSpec 0x0701 [2] 4) x → a < 24 → h.prsv = 0 → s.chip.axEn a = true → s.chip.axMoving a = false →
    s.chip.astate a ≠ asStopped → s.chip.getF AX_CFG a AX_CFG.HOME_METHOD ≠ 2 → s.chip.forcedLines = 0 → s.chip.freeHandle x.si = some k →
    Completes (.axisHome h a) s fun t =>
      (t.chip.axis a).handle = some k ∧ (t.chip.tgt (axBase + a)).wait =
        some { order := 2, cls := h.cls, seq := s.chip.act.seq, since := s.chip.act.frame, home := true }) ∧
  (∀ s h x a, Served s h (chSpec 0x0702 [2] 4) x → a < 24 → h.prsv = 0 → s.chip.axEn a = true → s.chip.astate a ≠ asStopped →
    s.chip.forcedLines = 0 → ¬ (s.chip.getF ENC_CFG (s.chip.axEnc a) ENC_CFG.MODE = 2 ∧ (s.chip.enc (s.chip.axEnc a)).ampBad = true) →
    Completes (.axisReset h a false) s fun t =>
      t.chip.getF AX_STATUS a AX_STATUS.FAULT = 0 ∧ t.chip.homed a = false ∧ t.chip.astate a = asUnhomed ∧ (t.chip.axis a).duty = 0 ∧
      t.chip.getF ENC_STATUS (s.chip.axEnc a) ENC_STATUS.ENC_FAULT = 0 ∧ Confirmed s t h 0x0702 []) ∧
  (∀ s h x a, Served s h (chSpec 0x0702 [2] 4) x → a < 24 → h.prsv = 0 → s.chip.axEn a = true → s.chip.astate a ≠ asStopped →
    s.chip.forcedLines = 0 →
    Completes (.axisReset h a true) s fun t =>
      t.chip.getF AX_STATUS a AX_STATUS.FAULT = 1 ∧ t.chip.astate a = asFault ∧ Replied s t h 0x0702 stHwFault []) ∧
  (∀ s h x e arm, Served s h (chSpec 0x0703 [2] 4) x → e < 24 → arm ≤ 1 → h.prsv = 0 → s.chip.getF ENC_CFG e ENC_CFG.INDEX_MODE = 2 →
    Completes (.encArmIndex h e arm) s fun t => t.chip.getF ENC_STATUS e ENC_STATUS.ARMED = arm) ∧
  (∀ s h x e pos, Served s h (chSpec 0x0704 [2] 8) x → e < 24 → pos < 2 ^ 32 → h.prsv = 0 →
    (∀ a, s.chip.axisOfEnc e = some a → s.chip.axMoving a = false) →
    Completes (.encPreset h e pos) s fun t =>
      t.chip.getF ENC_STATUS e ENC_STATUS.POSITION = pos ∧ t.chip.getF ENC_STATUS e ENC_STATUS.WRAP = 0 ∧
      (s.chip.axisOfEnc e = none → t.chip.getF ENC_STATUS e ENC_STATUS.ENC_FAULT = 0) ∧
      (∀ a, s.chip.axisOfEnc e = some a → s.chip.astate a = asUnhomed ∨ s.chip.astate a = asIdle → s.chip.forcedLines = 0 →
        t.chip.homed a = true ∧ t.chip.astate a = asIdle)) ∧
  (∀ s h x a ver img, Served s h setRecordSpec x → x.who.estateOnly = true → WriteFits s.chip h AX_CFG a ver img → axCfgBad img = false →
    s.chip.axCfgHeld a img = false → s.chip.forcedLines = 0 →
    Completes (.axCfgWrite h a ver img) s fun t => Wrote s t AX_CFG a img ∧
      (s.chip.axEn a = false → AX_CFG.EN.get img = 1 →
        ∀ ch ∈ t.chip.axPair a, t.chip.chKind ch = ckAxis ∧ t.chip.cstate ch = csAxis) ∧
      (s.chip.axEn a = true → AX_CFG.EN.get img = 0 →
        t.chip.astate a = asUnused ∧ ∀ ch ∈ t.chip.axPair a, t.chip.chKind ch = ckUnused ∧ t.chip.cstate ch = csUnused)) ∧
  (∀ s h x e ver img, Served s h setRecordSpec x → x.who.estateOnly = true → WriteFits s.chip h ENC_CFG e ver img → encCfgBad e img = false →
    s.chip.encCfgHeld e img = false →
    Completes (.encCfgWrite h e ver img) s fun t => Wrote s t ENC_CFG e img ∧
      (s.chip.axisOfEnc e = none → t.chip.getF ENC_STATUS e ENC_STATUS.ENC_FAULT = 0))

/-- `FAN_STEP`, `TACH_EDGE`, `FAN_WATCHDOG_EXPIRY`, `PURGE_DURATION_END`, `FAN_MANUAL`, `FAN_MANUAL_TIMEOUT`, `FANGROUP_RESET`,
`PURGE_REQUEST` and `FAN_PORT_CFG_WRITE` (R321 to R336). -/
def Obligations.FansAct : Prop :=
  (∀ s time, s.chip.fansRun = true →
    Completes (.fanStep time) s fun t => ∀ g, g < 16 →
      (s.chip.groupFbStop g = true → t.chip.getF FAN_GROUP_STATUS g FAN_GROUP_STATUS.SOURCE = fsFbStop ∧
        t.chip.getF FAN_GROUP_STATUS g FAN_GROUP_STATUS.DUTY = s.chip.dutyOff g) ∧
      (s.chip.groupFbStop g = false → s.chip.stopped 2 = true →
        t.chip.getF FAN_GROUP_STATUS g FAN_GROUP_STATUS.SOURCE = fsStopped ∧
        t.chip.getF FAN_GROUP_STATUS g FAN_GROUP_STATUS.DUTY = s.chip.dutyOff g) ∧
      (∀ p, s.chip.groupFbStop g = false → s.chip.stopped 2 = false → s.chip.isoStop (fgBase + g) = false → s.chip.groupPurges g = [p] →
        t.chip.getF FAN_GROUP_STATUS g FAN_GROUP_STATUS.SOURCE = fsPurge ∧
        t.chip.getF FAN_GROUP_STATUS g FAN_GROUP_STATUS.DUTY = s.chip.getF PURGE_CFG p.set PURGE_CFG.DUTY)) ∧
  (∀ s p time, p < 32 → s.chip.fansRun = true →
    Completes (.tachEdge p time) s fun t =>
      (t.chip.fport p).edges = match (s.chip.fport p).edges with
        | [] => [time]
        | last :: rest => if time < last + s.chip.getF FAN_GLOBAL 0 FAN_GLOBAL.TACH_FILTER_US then last :: rest
          else (time :: last :: rest).take 9) ∧
  (∀ s, s.chip.fansRun = true → s.chip.boot.pfHalt = false →
    Completes .fanWatchdogExpiry s fun t => t.chip.act.fanAuto = s.chip.autoCauses ∧
      ∀ g, g < 16 → t.chip.getF FAN_GROUP_STATUS g FAN_GROUP_STATUS.AUTO_CAUSE = s.chip.autoCauses) ∧
  (∀ s n p, n < 8 → s.chip.act.purges.find? (fun q => q.set == n) = some p → s.chip.getF PURGE_CFG n PURGE_CFG.DURATION_S ≠ 0 →
    s.chip.passedS p.at_ (s.chip.getF PURGE_CFG n PURGE_CFG.DURATION_S) = true →
    Completes (.purgeDurationEnd n) s fun t => t.chip.purgeOn n = false) ∧
  (∀ s h x g mode duty timeout, Served s h (fanSpec 0x0800 [1, 2] 8) x → g < 16 → mode ≤ 2 → h.prsv = 0 → s.chip.tripped = [] →
    Completes (.fanManual h g mode duty timeout) s fun t =>
      (t.chip.fgroup g).mode = mode ∧ (mode = 1 → (t.chip.fgroup g).duty = duty)) ∧
  (∀ s g k, g < 16 → (s.chip.fgroup g).until_ = some k → k ≤ s.chip.up →
    Completes (.fanManualTimeout g) s fun t => (t.chip.fgroup g).mode = 0 ∧ (t.chip.fgroup g).until_ = none) ∧
  (∀ s h x g, Served s h (fanSpec 0x0801 [2] 4) x → g < 16 → h.prsv = 0 →
    Completes (.fangroupReset h g) s fun t => ∀ p ∈ s.chip.groupPorts g, (t.chip.fport p).failed = false ∧
      t.chip.getF FAN_PORT_STATUS p FAN_PORT_STATUS.REVS = 0 ∧ t.chip.getF FAN_PORT_STATUS p FAN_PORT_STATUS.FAIL_CNT = 0) ∧
  (∀ s h x n action, Served s h (fanSpec 0x0810 [0, 1] 4) x → n < 8 → action ≤ 1 → h.prsv = 0 →
    (s.chip.getF PURGE_CFG n PURGE_CFG.GROUPS ≠ 0 ∨ s.chip.getF PURGE_CFG n PURGE_CFG.AXES ≠ 0) →
    Completes (.purgeRequest h n action) s fun t => t.chip.purgeOn n = (action == 1) ∧
      (action = 1 → ∀ a, a < 24 → (s.chip.getF PURGE_CFG n PURGE_CFG.AXES).testBit a = true → s.chip.axEn a = true → (t.chip.axis a).c0 = true)) ∧
  (∀ s h x p ver img, Served s h setRecordSpec x → x.who.estateOnly = true → WriteFits s.chip h FAN_PORT_CFG p ver img →
    (FAN_PORT_CFG.GROUP.get img < 16 ∨ FAN_PORT_CFG.GROUP.get img = 0xFF) → s.chip.inStopSet (FAN_PORT_CFG.GROUP.get img) = false →
    s.chip.inStopSet (s.chip.portGroup p) = false →
    Completes (.fanPortCfgWrite h p ver img) s fun t => Wrote s t FAN_PORT_CFG p img ∧
      (FAN_PORT_CFG.GROUP.get img ≠ s.chip.portGroup p → (t.chip.fport p).failed = false)) ∧
  (∀ r target step, rampTo r target step ≤ max r target ∧ min r target ≤ rampTo r target step ∧
    rampTo r target step ≤ r + step ∧ r ≤ rampTo r target step + step) ∧
  (∀ lo hi r last, lo < hi → ¬ (lo < (skipBand lo hi r last).1 ∧ (skipBand lo hi r last).1 < hi))

/-- `ARRAY_REGULAR_TRIGGER`, `ARRAY_INJECTED_TRIGGER`, `CONVERSION_COMPLETE`, `ARRAY_SEQUENCE_END`, `SELF_CALIBRATION_START`,
`SELF_CALIBRATION_COMPLETE`, `ARRAY_SELF_CAL` and `ARRAY_RESET` (R340 to R348, R368). -/
def Obligations.ArraysAct : Prop :=
  (∀ s, s.chip.arState 0 ≠ arOff → Completes .arrayRegularTrigger s fun t =>
    if s.chip.arState 0 = arCalibrating then
      t.chip.getF ARRAY_STATUS 0 ARRAY_STATUS.BLOCKED = satInc ARRAY_STATUS.BLOCKED.width (s.chip.getF ARRAY_STATUS 0 ARRAY_STATUS.BLOCKED)
    else if (s.chip.arr 0).reg ≠ none then
      t.chip.getF ARRAY_STATUS 0 ARRAY_STATUS.OVR_REG = satInc ARRAY_STATUS.OVR_REG.width (s.chip.getF ARRAY_STATUS 0 ARRAY_STATUS.OVR_REG)
    else (t.chip.arr 0).reg = some ⟨s.chip.regularA, 0, (s.chip.arr 0).regTag % 256⟩ ∧ t.chip.arState 0 = arRunning ∧
      (t.chip.arr 0).regTag = (s.chip.arr 0).regTag + 1) ∧
  (∀ s a, a < 2 → s.chip.arState a ≠ arOff → s.chip.arState a ≠ arCalibrating → s.chip.injEntries a ≠ [] → lvFull ≤ s.chip.level →
    Completes (.arrayInjectedTrigger a) s fun t =>
      if (s.chip.arr a).inj = none then
        (t.chip.arr a).inj = some ⟨s.chip.injEntries a, 0, (s.chip.arr a).injTag % 256⟩ ∧ t.chip.arState a = arRunning
      else if (s.chip.arr a).injPend then
        t.chip.getF ARRAY_STATUS a ARRAY_STATUS.OVR_INJ = satInc ARRAY_STATUS.OVR_INJ.width (s.chip.getF ARRAY_STATUS a ARRAY_STATUS.OVR_INJ)
      else (t.chip.arr a).injPend = true) ∧
  (∀ s a idx slice raws q src v, a < 2 → s.chip.arState a = arRunning → (s.chip.arr a).reg = some q → q.entries[idx]? = some src →
    q.done.testBit idx = false → v = s.chip.convResult a slice raws →
    Completes (.conversionComplete a 0 idx slice raws) s fun t =>
      (t.chip.arr a).reg = some { q with done := setBit q.done idx } ∧
      (if (s.chip.arr a).queue.length < 512 then
        (t.chip.arr a).queue = (s.chip.arr a).queue ++ [⟨q.tag * 2 ^ 24 + idx * 2 ^ 16 + v, src, s.chip.now⟩]
      else (t.chip.arr a).queue = (s.chip.arr a).queue ∧ t.chip.getF ARRAY_STATUS a ARRAY_STATUS.QUEUE_OVF =
        satInc ARRAY_STATUS.QUEUE_OVF.width (s.chip.getF ARRAY_STATUS a ARRAY_STATUS.QUEUE_OVF))) ∧
  (∀ s a q, a < 2 → (s.chip.arr a).reg = some q → (∀ k, k < q.entries.length → q.done.testBit k = true) →
    Completes (.arraySequenceEnd a) s fun t => (t.chip.arr a).reg = none) ∧
  (∀ s a cause at_ rest, a < 2 → (s.chip.arr a).calDue = (cause, at_) :: rest → s.chip.arState a = arIdle → s.chip.calReady a cause at_ = true →
    Completes (.selfCalibrationStart a) s fun t =>
      t.chip.arState a = arCalibrating ∧ (t.chip.arr a).cal = some cause ∧ (t.chip.arr a).calDue = rest) ∧
  (∀ s a factors late cause, a < 2 → (s.chip.arr a).cal = some cause →
    Completes (.selfCalibrationComplete a factors late) s fun t =>
      t.chip.arState a = arIdle ∧ (t.chip.arr a).cal = none ∧
      (if factors.length = 4 ∧ factors.all factorOk = true then
        t.chip.getF ARRAY_CAL a ARRAY_CAL.RESULT = 1 ∧ t.chip.getF ARRAY_STATUS a ARRAY_STATUS.CAL_BAD = 0 ∧
        ∀ k, k < 4 → t.chip.getS ARRAY_CAL a (ARRAY_CAL.OFS k) = (factors.getD k (0, 0, 0)).1 ∧
          (t.chip.getF ARRAY_CAL a (ARRAY_CAL.GAIN k) : Int) = (factors.getD k (0, 0, 0)).2.1
      else t.chip.getF ARRAY_STATUS a ARRAY_STATUS.CAL_BAD = 1)) ∧
  (∀ s h x a, Served s h (arrSpec 0x0900) x → a < 2 → h.prsv = 0 → s.chip.arState a ≠ arOff →
    Completes (.arraySelfCal h a) s fun t =>
      (t.chip.arr a).calDue = (s.chip.arr a).calDue ++ [(1, s.chip.up)] ∧
      t.chip.host.waits = s.chip.host.waits ++ [⟨arrWait a 1, 0x0900, x.ep, x.si, h⟩]) ∧
  (∀ s h x a, Served s h (arrSpec 0x0901) x → a < 2 → h.prsv = 0 →
    Completes (.arrayReset h a) s fun t =>
      (t.chip.arr a).queue = [] ∧ (t.chip.arr a).reg = none ∧ (t.chip.arr a).inj = none ∧ (t.chip.arr a).calDue.head? = some (2, s.chip.up) ∧
      t.chip.getF ARRAY_STATUS a ARRAY_STATUS.OVR_REG = 0 ∧ t.chip.getF ARRAY_STATUS a ARRAY_STATUS.PLAUS_LATCHED = 0 ∧
      t.chip.host.waits = s.chip.host.waits ++ [⟨arrWait a 2, 0x0901, x.ep, x.si, h⟩])

/-- `AIN_PROCESS`, `AIN_PUBLISH`, `PRS_SAMPLE`, `PRESENCE_REFRESH`, `KEYPAD_SCAN`, `KEY_STUCK`, `NUDGE_HOLD_EXPIRY`,
`KEYPAD_BINDING_REFRESH`, `WARDEN_SCAN`, `KEY_LOG_MOVE`, `FEEDER_REPORT`, `KEY_LOG_READ` and `FEED_SRC_WRITE` (R338, R349 to R359). -/
def Obligations.InputsAct : Prop :=
  (∀ s r rest n code j, (s.chip.arr 0).queue = r :: rest → lvLimited ≤ s.chip.level → s.chip.boot.hold = none → n = r.src → n < 64 →
    s.chip.getF AIN_CFG n AIN_CFG.KIND ≠ 0 → s.chip.plausLatched = false → code = r.word % 0x10000 → j = s.chip.ainJudge n code →
    Completes .ainProcess s fun t => (t.chip.arr 0).queue = rest ∧
      (j ≠ 1 → t.chip.getF AIN_STATUS n AIN_STATUS.STATE = j ∧ t.chip.getF AIN_STATUS n AIN_STATUS.VALUE = 0x80000000) ∧
      (j = 1 → s.chip.getF AIN_STATUS n AIN_STATUS.STATE = 1 → (s.chip.ain n).y = none →
        t.chip.getF AIN_STATUS n AIN_STATUS.STATE = 1 ∧ t.chip.getF AIN_STATUS n AIN_STATUS.CODE = code ∧
        t.chip.getF AIN_STATUS n AIN_STATUS.VALUE = ofSigned 32 (s.chip.ainValue n code))) ∧
  (∀ s n, n < 64 → s.chip.getF AIN_CFG n AIN_CFG.KIND ≠ 0 → lvLimited ≤ s.chip.level → s.chip.boot.hold = none →
    Completes (.ainPublish n) s fun t => (t.chip.ain n).fresh = false ∧ t.chip.zones.updates = s.chip.zones.updates ++
      [(2, n, if (s.chip.ain n).fresh then (s.chip.ain n).y.getD fxNone else fxNone, s.chip.getF AIN_STATUS n AIN_STATUS.TIME)]) ∧
  (∀ s closed, lvLimited ≤ s.chip.level → Completes (.prsSample closed) s fun t => ∀ n active change, n < 32 →
    s.chip.getB PRS_CFG n PRS_CFG.EN = true → active = (closed.testBit n != s.chip.getB PRS_CFG n PRS_CFG.INVERT) →
    change = (active != s.chip.getB PRS_STATUS n PRS_STATUS.LEVEL && decide (s.chip.getF PRS_CFG n PRS_CFG.DEBOUNCE_MS < (s.chip.prs n).n + 1)) →
    t.chip.getB PRS_STATUS n PRS_STATUS.LEVEL = (if change then active else s.chip.getB PRS_STATUS n PRS_STATUS.LEVEL) ∧
    (t.chip.prs n).n = (if change ∨ active = s.chip.getB PRS_STATUS n PRS_STATUS.LEVEL then 0 else (s.chip.prs n).n + 1)) ∧
  (∀ s, lvLimited ≤ s.chip.level → s.chip.boot.hold = none → Completes .presenceRefresh s fun t =>
    t.chip.zones.updates = s.chip.zones.updates ++ ((List.range 32).filter (fun n => s.chip.getB PRS_CFG n PRS_CFG.EN)).map
      (fun n => (3, n, if s.chip.getB PRS_STATUS n PRS_STATUS.ACTIVE then 65536 else 0, s.chip.now))) ∧
  (∀ s ratios, lvLimited ≤ s.chip.level → Completes (.keypadScan ratios) s fun t => ∀ kp l x cls, kp < 24 → l < 2 →
    s.chip.getB KP_CFG kp KP_CFG.EN = true → x = s.chip.kline kp l → cls = ratioClass (ratios.getD (2 * kp + l) 900) →
    (t.chip.kline kp l).cls = cls ∧ (t.chip.kline kp l).n = (if cls = x.cls then min (x.n + 1) 501 else 1) ∧
    (s.chip.lineState kp l = klIdle → cls < 8 → x.cls = cls → s.chip.getF KP_GLOBAL 0 KP_GLOBAL.DEBOUNCE_MS ≤ 2 * min x.n 500 →
      t.chip.lineState kp l = klKey ∧ (t.chip.kline kp l).key = some cls ∧
      (t.chip.getF KP_STATUS kp KP_STATUS.HELD).testBit (8 * l + cls) = true)) ∧
  (∀ s kp l k, kp < 24 → l < 2 → (s.chip.kline kp l).key = some k → k < 8 →
    s.chip.passedS (s.chip.kline kp l).since (s.chip.getF KP_GLOBAL 0 KP_GLOBAL.STUCK_S) = true →
    Completes (.keyStuck kp l) s fun t => (t.chip.getF KP_STATUS kp KP_STATUS.STUCK).testBit (8 * l + k) = true) ∧
  (∀ s kp m, kp < 24 → lvFull ≤ s.chip.level → m = s.chip.getF KP_CFG kp KP_CFG.NUDGE_HOLD_MIN → m ≠ 0 →
    s.chip.getF KP_STATUS kp KP_STATUS.LAST_PRESS + 60 * m * ticksPerSecond ≤ s.chip.now →
    Completes (.nudgeHoldExpiry kp) s fun t => t.chip.getF KP_STATUS kp KP_STATUS.OFFSET = 0) ∧
  (∀ s, lvFull ≤ s.chip.level → s.chip.boot.hold = none → Completes .keypadBindingRefresh s fun t => ∀ kp z n, kp < 24 →
    s.chip.getB KP_CFG kp KP_CFG.EN = true → z ∈ s.chip.keypadZones kp → n ∈ s.chip.bindsOf z 4 kp →
    t.chip.getF ZONE_BINDINGS z (ZONE_BINDINGS.VALUE n) =
      ofSigned 32 (if s.chip.sense.kpBad.testBit kp then fxNone else fxLimit (divFree 355 (s.chip.zoneNudge kp z * 65536) 100)) ∧
    t.chip.getF ZONE_BINDINGS z (ZONE_BINDINGS.TIME n) = s.chip.getF ZONE_BINDINGS z (ZONE_BINDINGS.TIME n)) ∧
  (∀ s keys p q, s.chip.boot.vaon = true → s.chip.boot.fbkOk = true → s.chip.fb.keyPrev = [p, q] →
    Completes (.wardenScan keys) s fun t => t.chip.fb.keyPrev = [keys, p] ∧
      ∀ k, k < 64 → t.chip.fb.keyDown.testBit k =
        (if p.testBit k = keys.testBit k ∧ q.testBit k = keys.testBit k then keys.testBit k else s.chip.fb.keyDown.testBit k)) ∧
  (∀ s r n, lvLimited ≤ s.chip.level → s.chip.holding 0 = false → s.chip.sense.keyq = [r] → n = Tab.get 0 s.chip.sense.logSeq r.src + 1 →
    Completes .keyLogMove s fun t => t.chip.sense.keyq = [] ∧ Tab.get 0 t.chip.sense.logSeq r.src = n ∧
      (Tab.get [] t.chip.sense.logs r.src).getLast? = some (n, r)) ∧
  (∀ s h x src age value unit, Served s h (feederSpec 1) x → src < 4096 → inBound x.who src = true → h.prsv = 0 →
    unit = s.chip.getF FEED_SRC src FEED_SRC.UNIT → unit ≠ 0 → s.chip.sense.feedAt.find? (fun p => p.1 == src) = none → age ≤ 60000 →
    Completes (.feederReport h [(src, age, value)]) s fun t =>
      t.chip.getF FEED_STATUS src FEED_STATUS.VALUE = ofSigned 32 (feedValue unit value) ∧
      Confirmed s t h 0x0910 (u16 1 ++ u16 0 ++ u16 0 ++ u16 0)) ∧
  (∀ s h x src from_ log next, Served s h keyLogSpec x → (src < 24 ∨ src = wardenSrc) →
    (if src = wardenSrc then Who.estateOr scDiag x.who else x.who.owns (s.chip.keyOwner src)) = true → h.prsv = 0 →
    log = Tab.get [] s.chip.sense.logs src → next = Tab.get 0 s.chip.sense.logSeq src + 1 →
    Completes (.keyLogRead h src from_) s fun t =>
      Confirmed s t h 0x0918 (u32 ((log.head?.map Prod.fst).getD next) ++ u32 next ++ u8 (log.filter (fun e => decide (from_ ≤ e.1))).length
        ++ rsvBytes 3 ++ (log.filter (fun e => decide (from_ ≤ e.1))).flatMap keyLogEntry)) ∧
  (∀ s h x i ver img, Served s h setRecordSpec x → x.who.estateOnly = true → WriteFits s.chip h FEED_SRC i ver img →
    FEED_SRC.OWNER.get img ≤ 256 → FEED_SRC.UNIT.get img ≤ 6 →
    Completes (.feedSrcWrite h i ver img) s fun t => Wrote s t FEED_SRC i img ∧ t.chip.img FEED_STATUS i = FEED_STATUS.resetImg i ∧
      t.chip.sense.feedAt.find? (fun p => p.1 == i) = none)

/-- R402, and the booking of a good reading by `MODBUS_RESPONSE` (R360, R362, R401). -/
def Obligations.BookingsAreWhole : Prop :=
  (∀ acc res last d, last < 8 → ((apportion acc res last d).parts.map Prod.snd).sum = (d : Int)) ∧
  (∀ s p m regs old at_ kind raw bits d parts, s.chip.sense.line = some p → p.bind = false → m = p.meter → m < 32 →
    regs.length = s.chip.getF METER_CFG m METER_CFG.ENERGY_WORDS → (s.chip.mreg m).raw = some (old, at_) →
    raw = energyOf (s.chip.getB METER_CFG m METER_CFG.WORD_ORDER) regs → bits = 16 * s.chip.getF METER_CFG m METER_CFG.ENERGY_WORDS →
    d = (raw + 2 ^ bits - old) % 2 ^ bits * 10 ^ (s.chip.getS METER_CFG m METER_CFG.ENERGY_EXP + 3).toNat →
    d ≤ s.chip.getF METER_CFG m METER_CFG.MAX_DELTA_WH * 1000 → kind = s.chip.meterKind m → kind ≠ 0 → s.chip.meter.bandLast < 8 →
    parts = (apportion (s.chip.mreg m).acc (s.chip.mreg m).res s.chip.meter.bandLast d).parts →
    Completes (.modbusResponse (s.chip.getF METER_CFG m METER_CFG.ADDR) (if s.chip.getB METER_CFG m METER_CFG.FUNC4 then 4 else 3) true regs) s
      fun t =>
        (∀ o b v, o < 257 → b < 8 → v = (s.chip.getF PLOT_ENERGY o (PLOT_ENERGY.ENERGY (8 * (kind - 1) + b)) : Int) + Tab.get 0 parts (8 * o + b) →
          0 ≤ v → v < 2 ^ 64 → (t.chip.getF PLOT_ENERGY o (PLOT_ENERGY.ENERGY (8 * (kind - 1) + b)) : Int) = v) ∧
        (parts.map Prod.snd).sum = (d : Int) ∧ (t.chip.mreg m).acc = [] ∧ (t.chip.mreg m).raw = some (raw, s.chip.now))

/-- `METER_POLL`, `MODBUS_RESPONSE` with a wrong CRC, `MODBUS_TIMEOUT`, `METER_CFG_WRITE`, `METER_MAP_WRITE`, `METERING_TICK`,
`EPOCH_CUT`, `EPOCH_SIGN` and `STATEMENT_EXPIRY` (R360, R361, R397, R410, R415 to R417). -/
def Obligations.MeteringActs : Prop :=
  (∀ s, s.chip.meter.on = true → s.chip.meteringAble = true → s.chip.sense.pollTick ≠ some s.chip.meter.tickAt →
    Completes .meterPoll s fun t => t.chip.sense.pollTick = some s.chip.meter.tickAt ∧
      ∀ m, m < 32 → s.chip.meterEn m = true → (t.chip.smeter m).due = true ∧ (t.chip.smeter m).good = false) ∧
  (∀ s p addr func regs, s.chip.sense.line = some p → Completes (.modbusResponse addr func false regs) s fun t =>
    t.chip.getF METER_STATUS p.meter METER_STATUS.CRC_ERR_CNT =
      satInc METER_STATUS.CRC_ERR_CNT.width (s.chip.getF METER_STATUS p.meter METER_STATUS.CRC_ERR_CNT) ∧ t.chip.sense.line = some p) ∧
  (∀ s p, s.chip.sense.line = some p → Completes .modbusTimeout s fun t =>
    t.chip.sense.line = (if p.tries ≤ s.chip.getF RS485_CFG 0 RS485_CFG.RETRIES then some { p with tries := p.tries + 1 } else s.chip.sense.todo.head?)) ∧
  (∀ s h x m ver img, Served s h setRecordSpec x → x.who.estateOnly = true → WriteFits s.chip h METER_CFG m ver img →
    (METER_CFG.ENERGY_WORDS.get img = 2 ∨ METER_CFG.ENERGY_WORDS.get img = 4) →
    Completes (.meterCfgWrite h m ver img) s fun t => Wrote s t METER_CFG m img ∧ (t.chip.mreg m).raw = none ∧ (t.chip.mreg m).out = none ∧
      t.chip.getF METER_STATUS m METER_STATUS.STATE = METER_CFG.EN.get img) ∧
  (∀ s h x m ver img, Served s h setRecordSpec x → x.who.estateOnly = true → WriteFits s.chip h METER_MAP m ver img →
    s.chip.meterMapBad m img = false →
    Completes (.meterMapWrite h m ver img) s fun t => Wrote s t METER_MAP m img ∧ (t.chip.mreg m).acc = [] ∧ (t.chip.mreg m).res = [] ∧
      t.chip.meterMap m = s.chip.meterMap m) ∧
  (∀ s fails b, s.chip.meteringAble = true → s.chip.meter.on = true → s.chip.meter.len ≠ 0 → b = s.chip.now / ticksPer10s * ticksPer10s →
    s.chip.meter.tickAt ≠ b →
    Completes (.meteringTick fails) s fun t => t.chip.meter.tickAt = b ∧ t.chip.meter.lastEnd = b ∧
      t.chip.getF METERING_STATUS 0 METERING_STATUS.LAST_TICK = b % 2 ^ 64 ∧
      t.chip.meter.band = tariffBand (s.chip.img TARIFF 0) (s.chip.localAt b) ∧ t.chip.meter.cur.isSome = true ∧
      ∀ m, m < 32 → t.chip.meterMap m = s.chip.img METER_MAP m) ∧
  (∀ s h x o cut, Served s h epochCutSpec x → o ≤ 256 → h.prsv = 0 → badTime cut = false → cut % ticksPerQuarter = 0 → s.chip.now < cut →
    cut ≤ s.chip.now + 31 * 86400 * ticksPerSecond → s.chip.stmtState o ≠ stScheduled → s.chip.stmtState o ≠ stmPending →
    (o < 256 → s.chip.slotState o ≠ slEmpty ∧ s.chip.slotState o ≠ slWiping) →
    Completes (.epochCut h o cut) s fun t => t.chip.stmtState o = stScheduled ∧ (o, cut) ∈ t.chip.meter.cuts ∧ Confirmed s t h 0x0B00 (u64 cut)) ∧
  (∀ s h x o seq sig sigs, Served s h epochSignSpec x → x.who.estateOnly = true → o ≤ 256 → h.prsv = 0 →
    Sig.verifies sig (s.chip.estateKey x.si).2 = true → s.chip.stmtState o = stmPending →
    s.chip.getF EPOCH_STATEMENT o EPOCH_STATEMENT.STMT_SEQ = seq → sigs = s.chip.getF EPOCH_STATEMENT o EPOCH_STATEMENT.SIGS → sigs.testBit 0 = false →
    Completes (.epochSign h o seq sig) s fun t =>
      (t.chip.getF EPOCH_STATEMENT o EPOCH_STATEMENT.SIGS).testBit 0 = true ∧
      t.chip.getF EPOCH_STATEMENT o EPOCH_STATEMENT.SIG_ESTATE = sig.bytes % 2 ^ 512 ∧
      t.chip.stmtState o = (if sigs.testBit 1 ∨ o = 256 then stmClosed else stmPending)) ∧
  (∀ s o, o < 257 → s.chip.stmtState o = stmPending →
    s.chip.getF EPOCH_STATEMENT o EPOCH_STATEMENT.CUT + s.chip.getF METERING_CFG 0 METERING_CFG.STMT_EXPIRY_D * 86400 * ticksPerSecond ≤ s.chip.now →
    Completes (.statementExpiry o) s fun t => t.chip.stmtState o = stmUnsigned)

/-- `FBK_CLOCK_LOSS`, `FBK_CLOCK_RETURN`, `FRESH_EVALUATION_END`, `INPUT_FILTER_EXPIRY`, `LINE_FAULT_EXPIRY`, `DISCREPANCY_EXPIRY`,
`SAFETY_RESET` and `WARDEN_KEY_STUCK` (R371 to R380, R540). -/
def Obligations.FirebreakActs : Prop :=
  (∀ s, s.chip.boot.fbkOk = true →
    Completes .fbkClockLoss s fun t => t.chip.boot.fbkOk = false ∧ t.chip.forcedLines = 2 ^ 96 - 1 ∧ t.chip.stopSwitches = 2 ^ 32 - 1 ∧
      ∀ k, k < 16 → t.outOn k = false) ∧
  (∀ s, s.chip.boot.vaon = true → s.chip.boot.fbkOk = false →
    Completes .fbkClockReturn s fun t => t.chip.boot.fbkOk = true ∧ t.chip.boot.fbReady = false ∧ ∀ i, i < 4 → t.chip.inClass i = icOff) ∧
  (∀ s, s.chip.boot.fbkOk = true → s.chip.boot.fbReady = false → s.chip.allClassed = true → s.chip.failsafe = false →
    Completes .freshEvaluationEnd s fun t => t.chip.boot.fbReady = true ∧ ∀ f, f < 3 → FuncJudged s t f) ∧
  (∀ s n ohms cls, n < 4 → s.chip.boot.vaon = true → s.chip.fbHarmless = false → s.chip.failsafe = false →
    cls = classOfLoop (s.chip.inMode n) ohms → cls = icNormal ∨ cls = icActive →
    Completes (.inputFilterExpiry n ohms) s fun t => t.chip.inClass n = cls ∧ ∀ f, f < 3 → FuncJudged s t f) ∧
  (∀ s n ohms cls, n < 4 → s.chip.boot.vaon = true → s.chip.fbHarmless = false → s.chip.failsafe = false →
    cls = classOfLoop (s.chip.inMode n) ohms → icShort ≤ cls →
    Completes (.lineFaultExpiry n ohms) s fun t => t.chip.inClass n = cls ∧ (∀ f, f < 3 → FuncJudged s t f) ∧
      t.chip.getF FB_STATUS 0 FB_STATUS.LINE_FAULT_CNT = (if s.chip.inClass n = cls then s.chip.getF FB_STATUS 0 FB_STATUS.LINE_FAULT_CNT
        else satInc FB_STATUS.LINE_FAULT_CNT.width (s.chip.getF FB_STATUS 0 FB_STATUS.LINE_FAULT_CNT))) ∧
  (∀ s, s.chip.fbDisagree = true → s.chip.fbHarmless = false → s.chip.getB FB_STATUS 0 FB_STATUS.DISC = false →
    Completes .discrepancyExpiry s fun t => t.chip.getB FB_STATUS 0 FB_STATUS.DISC = true ∧
      ∀ f, f < 3 → t.chip.funcState f = s.chip.funcState f) ∧
  (∀ s key okMask, key < 64 → s.chip.resetHeld key = true → s.chip.failsafe = false →
    Completes (.safetyReset key okMask) s fun t => t.chip.fb.wardenTrip = 0 ∧
      (∀ f, f < 3 → t.chip.funcState f = if s.chip.demandMask f = 0 then fnIdle else s.chip.funcState f) ∧
      (∀ k, k < 16 → s.chip.soLatched k = true → t.chip.getF FB_STATUS 0 (FB_STATUS.SO_FAULT k) =
        if okMask.testBit k then 0 else s.chip.getF FB_STATUS 0 (FB_STATUS.SO_FAULT k)) ∧
      (s.chip.inDemand 0 = s.chip.inDemand 1 → t.chip.getB FB_STATUS 0 FB_STATUS.DISC = false)) ∧
  (∀ s key, key < 64 → s.chip.fb.keyDown.testBit key = true → s.chip.fb.keyStuck.testBit key = false →
    s.chip.passedS (Tab.get 0 s.chip.fb.keyPressed key) (s.chip.getF FB_GLOBAL 0 FB_GLOBAL.WM_STUCK_S) = true →
    Completes (.wardenKeyStuck key) s fun t => t.chip.fb.keyStuck.testBit key = true ∧ t.chip.fb.wardenTrip = s.chip.fb.wardenTrip ∧
      ∀ f, f < 3 → t.chip.funcState f = s.chip.funcState f)

/-- `HEARTBEAT_WRITE`, `HEARTBEAT_TIMEOUT`, `SO_ENERGISE`, `OFF_PULSE_TEST`, `SO_READBACK_FAULT`, `VSAFE_CHANGE`, `SAFETY_CONFIG_COMMIT`
and `SO_REQUEST` (R381 to R395). -/
def Obligations.SafetyOutputsAct : Prop :=
  (∀ s gatehouse, s.chip.hbAble gatehouse = true →
    Completes (.heartbeatWrite gatehouse) s fun t => t.chip.getB FB_STATUS 0 FB_STATUS.HB_LIVE = true ∧ t.chip.fb.hbLast = s.chip.up) ∧
  (∀ s, s.chip.getB FB_STATUS 0 FB_STATUS.HB_LIVE = true →
    s.chip.getF FB_GLOBAL 0 FB_GLOBAL.HB_TIMEOUT_MS * 32768 ≤ s.chip.since s.chip.fb.hbLast * 1000 →
    Completes .heartbeatTimeout s fun t => t.chip.getB FB_STATUS 0 FB_STATUS.HB_LIVE = false ∧ ∀ k, k < 16 → t.outOn k = false) ∧
  (∀ s k, k < 16 → s.chip.soRequests = s.chip.getF FB_STATUS 0 FB_STATUS.SO_REQ → s.chip.soAllowed k = true → s.outOn k = false →
    (∀ j, j < k → s.chip.soAllowed j = true → s.outOn j = true) →
    Completes .soEnergise s fun t => t.outOn k = true ∧ ∀ j, j < 16 → j ≠ k → t.outOn j = (s.outOn j && s.chip.soAllowed j)) ∧
  (∀ s k pass sw, k < 16 → s.outOn k = true → sw = 1 - Tab.get 1 s.chip.fb.lastSwitch k → s.chip.getF FB_STATUS 0 (FB_STATUS.SO_FAULT k) = 0 →
    Completes (.offPulseTest k pass) s fun t => Tab.get 1 t.chip.fb.lastSwitch k = sw ∧
      t.chip.getF FB_STATUS 0 FB_STATUS.OP_CNT = satInc FB_STATUS.OP_CNT.width (s.chip.getF FB_STATUS 0 FB_STATUS.OP_CNT) ∧
      t.chip.getF FB_STATUS 0 (FB_STATUS.SO_FAULT k) = (if pass then 0 else sw + 1) ∧ (pass = false → t.outOn k = false)) ∧
  (∀ s k kind ma, k < 16 → s.chip.getF FB_STATUS 0 (FB_STATUS.SO_FAULT k) = 0 →
    (kind = 3 ∧ s.outOn k = false) ∨ (kind = 4 ∧ s.outOn k = true ∧ 900 < ma) →
    Completes (.soReadbackFault k kind ma) s fun t => t.chip.getF FB_STATUS 0 (FB_STATUS.SO_FAULT k) = kind ∧ t.outOn k = false ∧
      (t.chip.getF FB_STATUS 0 FB_STATUS.SO_PERMIT).testBit k = false) ∧
  (∀ s (low : Bool) dv, s.chip.boot.vaon = true → s.chip.getB FB_STATUS 0 FB_STATUS.VSAFE_LOW ≠ low →
    Completes (.vsafeChange low dv) s fun t => t.chip.getB FB_STATUS 0 FB_STATUS.VSAFE_LOW = low ∧
      (low = true → t.chip.getF FB_STATUS 0 FB_STATUS.SO_PERMIT = 0 ∧ t.chip.getF FB_STATUS 0 FB_STATUS.SO_ON = 0)) ∧
  (∀ s h x which r inst ver img, which < 5 → r = safetyRecord which → Served s h setRecordSpec x → s.chip.mayCommit x.who = true →
    s.chip.commitBlocked = false → WriteFits s.chip h r inst ver img → fbBad r img = false →
    Completes (.safetyConfigCommit h which inst ver img) s fun t => (r ≠ FB_FUNC_CFG → Wrote s t r inst img) ∧
      (r = FB_FUNC_CFG → t.chip.getF r inst FB_FUNC_CFG.CUT_MASK = FB_FUNC_CFG.CUT_MASK.get img ∧
        t.chip.getF r inst FB_FUNC_CFG.SO_MASK = FB_FUNC_CFG.SO_MASK.get img) ∧
      t.chip.getF FB_CONFIG_INFO 0 FB_CONFIG_INFO.CFG_STATE = 1 ∧
      t.chip.getF FB_CONFIG_INFO 0 FB_CONFIG_INFO.CFG_SEQ = (s.chip.getF FB_CONFIG_INFO 0 FB_CONFIG_INFO.CFG_SEQ + 1) % 2 ^ 32 ∧
      t.chip.fb.copyA = t.chip.fb.copyB ∧ t.chip.fb.copyA.valid = true ∧ t.chip.fb.copyA.recs = t.chip.fbConfig) ∧
  (∀ s h x set clear, Served s h soRequestSpec x → set &&& clear = 0 → ¬ (set = 0 ∧ clear = 0) →
    (∀ k, k < 16 → set.testBit k = true → s.chip.soPermit k = true) →
    (∀ k, k < 16 → set.testBit k = true ∨ clear.testBit k = true →
      s.chip.getB FB_OUT_CFG k FB_OUT_CFG.EN = true ∧ s.chip.getB FB_OUT_CFG k FB_OUT_CFG.REQ_SRC = true) →
    Completes (.soRequest h set clear) s fun t => ∀ k, k < 16 → s.chip.getB FB_OUT_CFG k FB_OUT_CFG.REQ_SRC = true →
      s.chip.soPermit k = true → (t.chip.getF FB_STATUS 0 FB_STATUS.SO_REQ).testBit k =
        ((((s.chip.getF FB_STATUS 0 FB_STATUS.SO_REQ).testBit k) && !clear.testBit k) || set.testBit k))

/-- `SELECTOR_EVALUATE`, `REFERENCE_QUALIFIED`, `HOLDOVER_EXPIRY`, `PTP_ANNOUNCE`, `ANNOUNCE_TIMEOUT`, `PTP_SYNC`, `PTP_FOLLOW_UP`,
`PTP_DELAY_RESP`, `DELAY_REQ_SEND`, `PPS_EDGE`, `PTP_CFG_WRITE` and `TIME_REF_CFG_WRITE` (R427, R434 to R441). -/
def Obligations.ReferencesAct : Prop :=
  (∀ s spread0 spread1 active, s.chip.timeRuns = true → active = s.chip.getF TIME_STATUS 0 TIME_STATUS.ACTIVE →
    Completes (.selectorEvaluate spread0 spread1) s fun t =>
      t.chip.getF TIME_STATUS 0 TIME_STATUS.AVAIL = maskOf ((List.range 4).filter s.chip.refAvail) ∧
      (s.chip.time.stepAt = none → s.chip.getF TIME_STATUS 0 TIME_STATUS.SSTATE = ssLocked → s.chip.refAvail active = false →
        t.chip.getF TIME_STATUS 0 TIME_STATUS.ACTIVE = active ∧ t.chip.getF TIME_STATUS 0 TIME_STATUS.SSTATE = ssSwitching ∧
        t.chip.getF TIME_STATUS 0 TIME_STATUS.CANDIDATE = s.chip.bestRef active ∧ t.chip.time.freq = t.chip.time.servo)) ∧
  (∀ s k cand, s.chip.timeRuns = true → s.chip.time.qualSince = some k → s.chip.getF TIME_STATUS 0 TIME_STATUS.SSTATE ≠ ssLocked →
    cand = s.chip.getF TIME_STATUS 0 TIME_STATUS.CANDIDATE → s.chip.refAvail cand = true →
    s.chip.passedS k (qualSeconds (s.chip.getF TIME_STATUS 0 TIME_STATUS.SSTATE)) = true →
    Completes .referenceQualified s fun t => t.chip.getF TIME_STATUS 0 TIME_STATUS.ACTIVE = cand ∧
      t.chip.getF TIME_STATUS 0 TIME_STATUS.SSTATE = ssLocked ∧ t.chip.time.qualSince = none) ∧
  (∀ s, s.chip.timeRuns = true →
    Completes .holdoverExpiry s fun t => t.chip.getF TIME_STATUS 0 TIME_STATUS.TRUST = s.chip.trustNow) ∧
  (∀ s p a, p < 2 → s.chip.ptpListens p = true → a.domain = s.chip.getF PTP_CFG p PTP_CFG.DOMAIN → -3 ≤ a.logInterval →
    a.logInterval ≤ 3 → a.steps < 255 →
    Completes (.ptpAnnounce p a true) s fun t =>
      ∃ m ∈ (t.chip.ptp p).masters, m.identity = a.identity ∧ m.port = a.port ∧ m.cls = a.cls ∧ m.announced = s.chip.up) ∧
  (∀ s p a, p < 2 → s.chip.ptpListens p = true →
    Completes (.ptpAnnounce p a false) s fun t => (t.chip.ptp p).masters = (s.chip.ptp p).masters ∧
      t.chip.getF PTP_STATUS p PTP_STATUS.ERR_CNT = satInc PTP_STATUS.ERR_CNT.width (s.chip.getF PTP_STATUS p PTP_STATUS.ERR_CNT)) ∧
  (∀ s p, p < 2 → s.chip.timeRuns = true →
    Completes (.announceTimeout p) s fun t => (t.chip.ptp p).masters =
      (s.chip.ptp p).masters.filter (fun m => decide (s.chip.since m.announced ≤ 3 * intervalTicks m.announceLog))) ∧
  (∀ s p g twoStep origin corr m t2, p < 2 → s.chip.ptpListens p = true → g.good = true → s.chip.ptpMaster p = some m → m.sent g = true →
    -4 ≤ g.logInterval → g.logInterval ≤ 1 → s.chip.driving p = false →
    t2 = s.chip.civilFine g.fine - 64 * (s.chip.getF PTP_CFG p PTP_CFG.RX_LAT_NS : Int) →
    Completes (.ptpSync p g twoStep origin corr) s fun t =>
      if twoStep then (t.chip.ptp p).twoStepSeq = some (g.seq, corrUnits corr, t2)
      else (t.chip.ptp p).lastSync = some s.chip.up ∧ (t.chip.ptp p).t2 = t2 ∧
        (t.chip.ptp p).t1 = s.chip.ptpCivil p m origin + corrUnits corr ∧
        ∀ d, (s.chip.ptp p).pathDelay = some d → (t.chip.ptp p).eps = some (-(t2 - (t.chip.ptp p).t1 - d))) ∧
  (∀ s p g origin corr m corr0 t2, p < 2 → s.chip.ptpListens p = true → g.good = true → s.chip.ptpMaster p = some m → m.sent g = true →
    (s.chip.ptp p).twoStepSeq = some (g.seq, corr0, t2) → s.chip.driving p = false →
    Completes (.ptpFollowUp p g origin corr) s fun t => (t.chip.ptp p).twoStepSeq = none ∧ (t.chip.ptp p).lastSync = some s.chip.up ∧
      (t.chip.ptp p).t1 = s.chip.ptpCivil p m origin + corr0 + corrUnits corr ∧
      ∀ d, (s.chip.ptp p).pathDelay = some d → (t.chip.ptp p).eps = some (-(t2 - (t.chip.ptp p).t1 - d))) ∧
  (∀ s p g received corr m t3 d, p < 2 → s.chip.ptpListens p = true → g.good = true → s.chip.ptpMaster p = some m → m.sent g = true →
    (s.chip.ptp p).lastSync.isSome = true → (s.chip.ptp p).delayReqs.find? (fun q => q.1 == g.seq) = some (g.seq, t3) →
    d = divFree 436 (((s.chip.ptp p).t2 - (s.chip.ptp p).t1) + (s.chip.ptpCivil p m received - corrUnits corr - t3)) 2 →
    Completes (.ptpDelayResp p g received corr) s fun t => (t.chip.ptp p).pathDelay = some d ∧
      (t.chip.ptp p).eps = some (-((s.chip.ptp p).t2 - (s.chip.ptp p).t1 - d)) ∧
      (t.chip.ptp p).delayReqs.find? (fun q => q.1 == g.seq) = none) ∧
  (∀ s p fine stamped, p < 2 → s.chip.ptpListens p = true → (s.chip.ptpMaster p).isSome = true → (s.chip.ptp p).lastSync.isSome = true →
    s.chip.delayDue p = true →
    Completes (.delayReqSend p fine stamped) s fun t =>
      t.chip.time.ptpOut = s.chip.time.ptpOut ++ [(p, ((s.chip.ptp p).delaySeq + 1) % 65536)] ∧
      (t.chip.ptp p).unanswered = (s.chip.ptp p).unanswered + 1 ∧ (t.chip.ptp p).lastReq = some s.chip.up) ∧
  (∀ s fine, s.chip.timeRuns = true → (s.chip.getF TIME_REF_CFG 0 TIME_REF_CFG.REF_EN).testBit 2 = true → s.chip.driving 2 = false →
    s.chip.getB SUPPLY_STATUS 0 SUPPLY_STATUS.PLLB_LOCK = true →
    Completes (.ppsEdge fine) s fun t => t.chip.time.ppsLast = some s.chip.up ∧
      ∃ e, t.chip.time.ppsEps = some e ∧ 2 * e.natAbs ≤ 64000000000 ∧ ∃ k : Int, s.chip.civilFine fine + e = k * 64000000000) ∧
  (∀ s h x i ver img, Served s h setRecordSpec x → timeMay x.who = true → WriteFits s.chip h PTP_CFG i ver img →
    Completes (.ptpCfgWrite h i ver img) s fun t => Wrote s t PTP_CFG i img ∧ t.chip.ptp i = {}) ∧
  (∀ s h x i ver img, Served s h setRecordSpec x → timeMay x.who = true → WriteFits s.chip h TIME_REF_CFG i ver img →
    timeRefCfgBad img = false →
    Completes (.timeRefCfgWrite h i ver img) s fun t => Wrote s t TIME_REF_CFG i img ∧
      (TIME_REF_CFG.PRIO_PPS.get img ≠ s.chip.getF TIME_REF_CFG i TIME_REF_CFG.PRIO_PPS → t.chip.time.down = false))

/-- `RTC_XTAL_FAILURE`, `RTC_XTAL_RESTORE`, `RTC_FORWARD_STEP`, `SERVO_PHASE_EXPIRY`, `SLEW_END`, `DAYLIGHT_CHANGE`, `LOCAL_TIME_EDGE`,
`TIME_CAPTURE`, `TIME_SET` and `TIME_ZONE_WRITE` (R422 to R433, R447, R538). -/
def Obligations.TimeActs : Prop :=
  (∀ s stopped, s.chip.boot.vaon = true → s.chip.getB SUPPLY_STATUS 0 SUPPLY_STATUS.REF_XTAL = true →
    Completes (.rtcXtalFailure stopped) s fun t => t.chip.getB TIME_STATUS 0 TIME_STATUS.XTAL_FAIL = true ∧ t.chip.rtcRuns = true) ∧
  (∀ s, s.chip.boot.vaon = true → s.chip.getB SUPPLY_STATUS 0 SUPPLY_STATUS.REF_XTAL = true →
    Completes .rtcXtalRestore s fun t => t.chip.getB TIME_STATUS 0 TIME_STATUS.XTAL_FAIL = false ∧ t.chip.time.xtalDead = false) ∧
  (∀ s r rest, s.chip.timeRuns = true → s.chip.time.stepAt = some (r, rest) →
    (s.chip.civil * tickUnits + rest) % secUnits < 2 * tickUnits →
    Completes .rtcForwardStep s fun t => t.chip.time.stepAt = none ∧ s.chip.now ≤ t.chip.now ∧ t.chip.calOfs = s.chip.calOfs ∧
      t.chip.now = max s.chip.now (min ((Int.fdiv (s.chip.civil * tickUnits + rest) secUnits).toNat * 32768) rtcEnd)) ∧
  (∀ s k, s.chip.timeRuns = true → s.chip.time.epsAt = some k → s.chip.getB TIME_STATUS 0 TIME_STATUS.SLEWING = false →
    s.chip.passedS k (s.chip.getF TIME_REF_CFG 0 TIME_REF_CFG.SERVO_TC_S) = true →
    Completes .servoPhaseExpiry s fun t => t.chip.time.servo = s.chip.time.freq ∧ t.chip.time.freq = s.chip.time.freq ∧
      t.chip.getF TIME_STATUS 0 TIME_STATUS.RATE_PPB = ofSigned 32 t.chip.rateWord) ∧
  (∀ s, s.chip.timeRuns = true → s.chip.getB TIME_STATUS 0 TIME_STATUS.SLEWING = true → s.chip.time.slewLeft.natAbs ≤ 64000000 →
    Completes .slewEnd s fun t => t.chip.getB TIME_STATUS 0 TIME_STATUS.SLEWING = false ∧ t.chip.time.slewLeft = 0 ∧
      t.chip.time.slew = if t.chip.getB TIME_STATUS 0 TIME_STATUS.RETIRING then -1000000 else 0) ∧
  (∀ s k (on : Bool) l, s.chip.timeRuns = true → s.chip.time.dst = (k, on) :: l → k ≤ s.chip.now →
    Completes .daylightChange s fun t => t.chip.time.localPrev = some t.chip.localTime ∧
      (s.chip.holding 0 = true → t.chip.getB TIME_STATUS 0 TIME_STATUS.DST = on ∧ t.chip.time.dst = l)) ∧
  (∀ s, s.chip.timeRuns = true → s.chip.time.localPrev.getD 0 < s.chip.localTime → Int.fdiv s.chip.localTime 32768 ≤ calendarEnd →
    Completes .localTimeEdge s fun t => t.chip.time.localPrev = some s.chip.localTime ∧
      t.chip.getF TIME_STATUS 0 TIME_STATUS.LOCAL_HWM = max s.chip.localTime.toNat (s.chip.getF TIME_STATUS 0 TIME_STATUS.LOCAL_HWM)) ∧
  (∀ s h x fine, Served s h timeCaptureSpec x → h.prsv = 0 →
    Completes (.timeCapture h fine) s fun t => t.chip.time = s.chip.time ∧ ∃ data, Confirmed s t h 0x0C00 data ∧
      data.take 24 = u64 s.chip.now ++ s64 s.chip.civil ++ s64 s.chip.localTime) ∧
  (∀ s h x seconds, Served s h timeSetSpec x → h.prsv = 0 → seconds ≤ 6311433599 → 2 ≤ s.chip.getF TIME_STATUS 0 TIME_STATUS.ACTIVE →
    Completes (.timeSet h seconds) s fun t => t.chip.getB TIME_STATUS 0 TIME_STATUS.RTC_VALID = true ∧ s.chip.now ≤ t.chip.now ∧
      (s.chip.calOfs = 0 → s.chip.now + 65536 < seconds * 32768 → t.chip.now = seconds * 32768 ∧ t.chip.calOfs = 0) ∧
      ((seconds : Int) * 32768 + 65536 < s.chip.civil → s.chip.now ≤ rtcEnd → t.chip.now = s.chip.now ∧ t.chip.civil = (seconds : Int) * 32768)) ∧
  (∀ s h x i ver img, Served s h setRecordSpec x → timeMay x.who = true → WriteFits s.chip h TIME_ZONE i ver img →
    Completes (.timeZoneWrite h i ver img) s fun t => Wrote s t TIME_ZONE i img ∧ t.chip.time.localPrev = some t.chip.localTime ∧
      (s.chip.boot.keeper = true → s.chip.holding 0 = false → t.chip.getB TIME_ZONE 0 TIME_ZONE.DST_EN = false →
        t.chip.getB TIME_STATUS 0 TIME_STATUS.DST = false ∧ t.chip.time.dst = []))

/-- `STORE_START`, `STORE_COMMIT`, `BANK_ERASE_DONE`, `MARGIN_READ_START`, `MARGIN_READ_DONE`, `RING_SECTOR_ERASE_DONE`,
`SHADOW_PAGE_RELOAD` and `POWER_FAIL` (R451 to R463). -/
def Obligations.StoreRuns : Prop :=
  (∀ s, s.drained → s.chip.storeDue s.chip.storeMask = true →
    Completes .storeStart s fun t => t.chip.ststate = ssStoring ∧ t.chip.store.target = s.chip.spareBank ∧
      t.chip.bstate s.chip.spareBank = bkPartial ∧ t.mem.snap = t.mem.sram ∧
      t.chip.pendingStore = maskOff s.chip.pendingStore s.chip.storeMask) ∧
  (∀ s page b, s.drained → s.chip.ststate = ssStoring → s.chip.store.target = b → b < 2 →
    Completes (.storeCommit true page) s fun t => t.chip.ststate = ssErasing ∧
      t.chip.storeSeq = (if s.chip.store.initSeq then 1 else (s.chip.storeSeq + 1) % 2 ^ 32) ∧
      t.chip.bstate b = bkCommitted ∧ t.chip.bstate (1 - b) = bkErasing ∧ t.mem.bank b = s.mem.snap ∧ t.mem.bank (1 - b) = []) ∧
  (∀ s page b, s.drained → s.chip.ststate = ssStoring → s.chip.store.target = b → b < 2 →
    Completes (.storeCommit false page) s fun t =>
      t.chip.getF BANK_INFO b BANK_INFO.FAIL_CNT = satInc 32 (s.chip.getF BANK_INFO b BANK_INFO.FAIL_CNT) ∧
      t.chip.pendingStore = (s.chip.pendingStore ||| s.chip.store.carry) % 2 ^ 16 ∧ t.chip.storeSeq = s.chip.storeSeq ∧
      (if 1 ≤ Tab.get 0 s.chip.store.verifyFails b then t.chip.ststate = ssDegraded ∧ t.chip.bstate b = bkRetired
      else t.chip.ststate = ssErasing ∧ t.chip.bstate b = bkErasing)) ∧
  (∀ s b ckFails, b < 2 → s.chip.store.erasing = some b →
    Completes (.bankEraseDone true ckFails) s fun t => t.chip.store.erasing ≠ some b ∧
      t.chip.getF BANK_INFO b BANK_INFO.ERASE_CNT = satInc 32 (s.chip.getF BANK_INFO b BANK_INFO.ERASE_CNT) ∧
      (s.chip.ststate = ssErasing → s.chip.pendingStore = 0 → t.chip.ststate = ssReady ∧ t.chip.bstate b = bkBlank)) ∧
  (∀ s b ckFails, b < 2 → s.chip.store.erasing = some b →
    Completes (.bankEraseDone false ckFails) s fun t => t.chip.bstate b = bkRetired ∧ t.chip.ststate = ssDegraded) ∧
  (∀ s, s.chip.ststate = ssReady → s.chip.level = lvFull → s.chip.held = false → s.chip.storeDue s.chip.storeMask = false →
    s.chip.getF STORE_STATUS 0 STORE_STATUS.NEXT_MARGIN ≤ s.chip.now →
    Completes .marginReadStart s fun t => t.chip.ststate = ssMargin) ∧
  (∀ s bank page ring, s.chip.ststate = ssMargin → s.chip.now ≤ rtcEnd →
    Completes (.marginReadDone bank page ring) s fun t => t.chip.ststate = ssReady ∧
      t.chip.getF STORE_STATUS 0 STORE_STATUS.LAST_MARGIN = s.chip.now ∧
      (0 < bank + page + ring → t.chip.pendingStore.testBit 5 = true)) ∧
  (∀ s ok, s.chip.store.ringErased = false → s.chip.store.ckWait = none → s.chip.store.ringNext < 16 →
    Completes (.ringSectorEraseDone ok false) s fun t =>
      if ok then t.chip.store.ringErased = true else s.chip.store.ringNext ∉ t.chip.ringLeft) ∧
  (∀ s page b, page < 512 → s.drained → s.chip.newestBank = some b →
    Completes (.shadowPageReload page) s fun t => ∀ a, byteAt t.mem.sram a =
      if 256 * page ≤ a ∧ a < 256 * page + 256 then byteAt (s.mem.bank b) a else byteAt s.mem.sram a) ∧
  (∀ s dv, s.drained → s.chip.boot.vbusPf = false → dv < 300 → s.chip.boot.pfHalt = false → s.chip.boot.enCore = true →
    Completes (.powerFail dv) s fun t => t.chip.boot.pfHalt = true ∧ (∀ e, e < 256 → t.chip.lane e = {}) ∧
      t.chip.getF SUPPLY_STATUS 0 SUPPLY_STATUS.PF_CNT = satInc SUPPLY_STATUS.PF_CNT.width (s.chip.getF SUPPLY_STATUS 0 SUPPLY_STATUS.PF_CNT) ∧
      (s.chip.ststate = ssReady → s.chip.bstate s.chip.spareBank = bkBlank → s.chip.store.initSeq = false →
        t.chip.ststate = ssHalted ∧ t.chip.storeSeq = (s.chip.storeSeq + 1) % 2 ^ 32))

/-- `STORE`, `RAW_OPEN`, `RAW_READ`, `RAW_WRITE` and `SHADOW_INIT` (R464 to R470). -/
def Obligations.RawAccessActs : Prop :=
  (∀ s h x k, Served s h storeSpec x → h.prsv = 0 → s.chip.ststate ∉ [ssBlank, ssHalted, ssDegraded] → s.chip.freeHandle x.si = some k →
    Completes (.store h) s fun t => t.chip.pendingStore.testBit 0 = true ∧ k ∈ t.chip.store.waiting ∧ (t.chip.hnd k).owner = some x.si) ∧
  (∀ s h x kind word stored, Served s h rawOpenSpec x → kind ≤ 1 → h.prsv = 0 →
    s.chip.getB STORE_STATUS 0 STORE_STATUS.RAW_LOCKED = false →
    stored = s.chip.getF RAW_WORDS 0 (if kind = 0 then RAW_WORDS.READ_WORD else RAW_WORDS.WRITE_WORD) → stored ≠ 0 → word ≠ 0 →
    Completes (.rawOpen h kind word) s fun t =>
      if word = stored then (if kind = 0 then (t.chip.ses x.si).rawRead else (t.chip.ses x.si).rawWrite) = true
      else Replied s t h 0x0D01 stDenied [] ∧
        t.chip.getF STORE_STATUS 0 STORE_STATUS.RAW_FAIL = satInc 8 (s.chip.getF STORE_STATUS 0 STORE_STATUS.RAW_FAIL) ∧
        (s.chip.getF STORE_STATUS 0 STORE_STATUS.RAW_FAIL = 7 → t.chip.getB STORE_STATUS 0 STORE_STATUS.RAW_LOCKED = true)) ∧
  (∀ s h x offset len, Served s h rawReadSpec x → s.drained → (s.chip.ses x.si).rawRead = true ∨ (s.chip.ses x.si).rawWrite = true →
    1 ≤ len → len ≤ 1000 → offset + len ≤ shadowSize → h.prsv = 0 →
    Completes (.rawRead h offset len) s fun t => t.mem = s.mem ∧
      ∃ salt, Confirmed s t h 0x0D02 (u32 offset ++ u16 len ++ rsvBytes 2 ++ rawBytes s.mem salt offset len)) ∧
  (∀ s h x offset len data, Served s h rawWriteSpec x → s.drained → h.len = 8 + len → data.length = len → (s.chip.ses x.si).rawWrite = true →
    0x1A500 ≤ offset → 1 ≤ len → len ≤ 1000 → offset + len ≤ 0x1AD00 → h.prsv = 0 →
    Completes (.rawWrite h offset len data) s fun t => t.mem.snap = s.mem.snap ∧ t.mem.bankA = s.mem.bankA ∧ t.mem.bankB = s.mem.bankB ∧
      ∀ a, byteAt t.mem.sram a =
        if offset ≤ a ∧ a < offset + len then BitVec.ofNat 8 (data.getD (a - offset) 0) else byteAt s.mem.sram a) ∧
  (∀ s h x k, Served s h shadowInitSpec x → s.drained → h.prsv = 0 → s.chip.ststate = ssBlank → s.chip.level = lvFull → s.chip.held = false →
    s.chip.bstate s.chip.spareBank = bkBlank → s.chip.freeHandle x.si = some k →
    Completes (.shadowInit h s.chip.sec.serial 0x5EED0001) s fun t => t.chip.ststate = ssStoring ∧ t.chip.store.initSeq = true ∧
      k ∈ t.chip.store.serving ∧ t.mem.snap = t.mem.sram ∧ t.chip.store.carry.testBit 8 = true)

/-- The rows of the supplies and clocks (R472 to R486, R494). -/
def Obligations.SuppliesAct : Prop :=
  (∀ s code (entered : Bool) dv, code < 5 → s.chip.vbusIn code ≠ entered → vbusTest code entered dv = true →
    Completes (.vbusConditionChange code entered dv) s fun t =>
      if code = 0 ∧ entered = true then t.chip.boot.vaon = false else t.chip.vbusIn code = entered) ∧
  (∀ s v, s.chip.railState = rlStarting → 970 * s.chip.railF HOLD_RAIL_CFG.V_HOLD ≤ 100 * v → 100 * v ≤ 1030 * s.chip.railF HOLD_RAIL_CFG.V_HOLD →
    Completes (.holdRailStartDone v) s fun t => t.chip.railState = rlRunning ∧ t.chip.railCause = 0 ∧
      t.chip.getF BUCK_STATUS 0 BUCK_STATUS.IN_SERVICE = s.chip.goodPhases) ∧
  (∀ s, s.chip.railState = rlStarting → s.chip.passedMs s.chip.boot.railAt 20 = true →
    Completes .holdRailStartTimeout s fun t => t.chip.railState = rlStopped ∧ t.chip.railCause = rcStart) ∧
  (∀ s v, s.chip.railState = rlRunning → 10 * v < 85 * s.chip.railF HOLD_RAIL_CFG.V_HOLD →
    Completes (.holdRailUndervolt v) s fun t => t.chip.railState = rlStopped ∧ t.chip.railCause = rcUnder) ∧
  (∀ s v, s.chip.railState = rlRunning → 110 * s.chip.railF HOLD_RAIL_CFG.V_HOLD < 10 * v →
    Completes (.holdRailOvervolt v) s fun t => t.chip.railState = rlStopped ∧ t.chip.railCause = rcOver ∧ t.chip.boot.railLatched = true) ∧
  (∀ s, s.chip.railState = rlStopped → s.chip.railCause = rcUnder ∨ s.chip.railCause = rcStart → s.chip.boot.railLatched = false →
    s.chip.passedS s.chip.boot.railAt 1 = true → lvLimited ≤ s.chip.level → s.chip.getB HOLD_RAIL_CFG 0 HOLD_RAIL_CFG.EN = true →
    s.chip.boot.vbusOv = false → s.chip.railHot = false → 2 ≤ phaseCount s.chip.goodPhases →
    Completes .holdRailRestart s fun t => t.chip.railState = rlStarting ∧ t.chip.railCause = 0) ∧
  (∀ s uv ma p, s.chip.offsetPhase = some p → s.chip.railState = rlRunning → s.chip.goodPhases.testBit p = true →
    Completes (.offsetCheck uv ma) s fun t => (uv ≤ 3000 → Tab.get 0 t.chip.boot.offsetRun p = 0) ∧
      (3000 < uv → 2 ≤ Tab.get 0 s.chip.boot.offsetRun p → t.chip.goodPhases.testBit p = false)) ∧
  (∀ s p ma mean duty, p < 4 → s.chip.railState = rlRunning → s.chip.goodPhases.testBit p = true → 10 * ma < mean → 100 ≤ mean → 50 < duty →
    Completes (.phaseOpenDetect p ma mean duty) s fun t => t.chip.goodPhases.testBit p = false ∧
      t.chip.getF BUCK_STATUS 0 (BUCK_STATUS.RET_CAUSE p) = 1) ∧
  (∀ s p own arrayB, p < 4 → s.chip.railState = rlRunning → s.chip.goodPhases.testBit p = true → s.chip.noSense = false →
    own + 400 < arrayB ∨ arrayB + 400 < own →
    Completes (.phaseDisagree p own arrayB) s fun t =>
      Tab.get 0 t.chip.boot.disagreeRun p = Tab.get 0 s.chip.boot.disagreeRun p + 1 ∧
      (9 ≤ Tab.get 0 s.chip.boot.disagreeRun p → t.chip.goodPhases.testBit p = false)) ∧
  (∀ s h x i ver img, Served s h setRecordSpec x → x.who.estateOnly = true → WriteFits s.chip h HOLD_RAIL_CFG i ver img →
    2 ≤ phaseCount (HOLD_RAIL_CFG.PHASE_EN.get img) → s.chip.tokensHeld = false →
    Completes (.holdRailCfgWrite h i ver img) s fun t => Wrote s t HOLD_RAIL_CFG i img ∧
      (HOLD_RAIL_CFG.EN.get img = 0 → t.chip.railState = rlOff)) ∧
  (∀ s k fails word, k < 4 → fails < 3 → s.chip.avsRuns = true → s.chip.boot.firstRaise = false → s.chip.avsFault = false →
    s.chip.wantsRelock k = true → s.chip.rises k = true → k ∉ s.chip.boot.raising →
    Completes (.vcoreRaise k fails word) s fun t => k ∈ t.chip.boot.raising ∧ t.chip.baseNow = t.chip.baseNeed) ∧
  (∀ s mv us fails word, fails < 3 → s.chip.avsRuns = true → s.chip.boot.raising ≠ [] →
    s.chip.supplyF SUPPLY_STATUS.VCORE_TARGET ≤ mv + 10 → s.chip.getF AVS_CFG 0 AVS_CFG.SETTLE_US ≤ us →
    Completes (.vcoreSettled mv us fails word) s fun t => t.chip.boot.raising = [] ∧
      ∀ k, k < 4 → k ∈ s.chip.boot.raising → s.chip.wantsRelock k = true → t.chip.getF TERRACE_STATUS k TERRACE_STATUS.RELOCKING = 1) ∧
  (∀ s k, k < 4 → s.chip.wantsRelock k = true →
    (s.chip.rises k = true ∧ s.chip.avsFault = false ∧ s.chip.boot.raising = [] ∧
      (s.chip.boot.firstRaise = true ∨ coreBase (s.chip.ter k).target ≤ s.chip.baseNow)) ∨ (s.chip.rises k = false ∧ s.chip.mayLower k = true) →
    Completes (.terraceRelockStart k) s fun t => t.chip.getF TERRACE_STATUS k TERRACE_STATUS.RELOCKING = 1 ∧
      t.chip.getF TERRACE_STATUS k TERRACE_STATUS.CLK_MHZ = 25 ∧ (t.chip.ter k).relockTo = (s.chip.ter k).target) ∧
  (∀ s k, k < 4 → s.chip.getB TERRACE_STATUS k TERRACE_STATUS.RELOCKING = true → (s.chip.ter k).lockedAt = none →
    Completes (.terraceRelockLocked k) s fun t => (t.chip.ter k).lockedAt = some s.chip.up) ∧
  (∀ s k fails word, k < 4 → s.chip.getB TERRACE_STATUS k TERRACE_STATUS.RELOCKING = true → (s.chip.ter k).lockedAt.isSome = true →
    (s.chip.ter k).relockTo < 256 →
    Completes (.terraceRelockReturn k fails word) s fun t => t.chip.getF TERRACE_STATUS k TERRACE_STATUS.RELOCKING = 0 ∧
      t.chip.getF TERRACE_STATUS k TERRACE_STATUS.CLK_MHZ = (s.chip.ter k).relockTo) ∧
  (∀ s k, k < 4 → s.chip.tstate k ≤ tsResetting → s.chip.getB TERRACE_STATUS k TERRACE_STATUS.RELOCKING = false →
    Completes (.pllLossOfLock (k + 1)) s fun t => t.chip.getF TERRACE_STATUS k TERRACE_STATUS.RELOCKING = 1 ∧
      t.chip.getF TERRACE_STATUS k TERRACE_STATUS.CLK_MHZ = 25 ∧
      t.chip.supplyF SUPPLY_STATUS.UNLOCK_CNT = satInc 32 (s.chip.supplyF SUPPLY_STATUS.UNLOCK_CNT)) ∧
  (∀ s, s.chip.getB SUPPLY_STATUS 0 SUPPLY_STATUS.PLLB_LOCK = true →
    Completes (.pllLossOfLock 5) s fun t => t.chip.getB SUPPLY_STATUS 0 SUPPLY_STATUS.PLLB_LOCK = false ∧ t.chip.level ≤ lvLimited) ∧
  (∀ s, s.chip.getB SUPPLY_STATUS 0 SUPPLY_STATUS.PLLA_LOCK = true →
    Completes (.pllLossOfLock 0) s fun t => t.chip.getB SUPPLY_STATUS 0 SUPPLY_STATUS.PLLA_LOCK = false ∧ t.chip.level ≤ lvSurvival) ∧
  (∀ s, s.chip.boot.enCore = true → s.chip.getB SUPPLY_STATUS 0 SUPPLY_STATUS.REF_XTAL = true →
    s.chip.getB SUPPLY_STATUS 0 SUPPLY_STATUS.PLLA_LOCK = true →
    Completes .pllbRelock s fun t => t.chip.getB SUPPLY_STATUS 0 SUPPLY_STATUS.PLLB_LOCK = true) ∧
  (∀ s sens mv ma fails word slack, s.chip.boot.vaon = true → s.chip.boot.refRun = true → s.chip.level ≠ lvNone →
    Completes (.slowRound sens mv ma fails word slack) s fun t => t.chip.boot.slowDone = true ∧
      (∀ k raw temp, k < 3 → sens.getD k (0, 0) = (raw, temp) →
        (sensRaw k raw ≠ 0 → t.chip.sensState k = sensRaw k raw ∧ t.chip.thermF (THERMAL_STATUS.LEVEL k) = 3) ∧
        (sensRaw k raw = 0 → s.chip.sensBroken k = false → t.chip.sensState k = 0 ∧ t.chip.sensTemp k = max (-32767) (min temp 32767)))) ∧
  (∀ s h x mask v bad, Served s h buckRestoreSpec x → h.prsv = 0 → 1 ≤ mask → mask ≤ 15 → bad &&& 15 = 0 →
    mask &&& s.chip.getF BUCK_STATUS 0 BUCK_STATUS.RETIRED ≠ 0 ∨ s.chip.boot.railLatched = true →
    Completes (.buckRestore h mask v bad) s fun t =>
      t.chip.getF BUCK_STATUS 0 BUCK_STATUS.RETIRED = maskOff (s.chip.getF BUCK_STATUS 0 BUCK_STATUS.RETIRED) mask ∧
      (s.chip.getB HOLD_RAIL_CFG 0 HOLD_RAIL_CFG.EN = true → lvLimited ≤ s.chip.level → s.chip.boot.vbusOv = false → s.chip.railHot = false →
        2 ≤ phaseCount t.chip.goodPhases → 970 * s.chip.railF HOLD_RAIL_CFG.V_HOLD ≤ 100 * v →
        100 * v ≤ 1030 * s.chip.railF HOLD_RAIL_CFG.V_HOLD → t.chip.railState = rlRunning))

/-- `VAON_VALID` to `FULL_CHECK` (R496 to R503). -/
def Obligations.StartUpRuns : Prop :=
  (∀ s vbak, s.chip.boot.vaon = false →
    Completes (.vaonValid vbak) s fun t => t.chip.boot.vaon = true ∧ t.chip.boot.fbReady = false ∧ t.chip.level = lvNone ∧
      (vbak ≠ 2 → t.chip.now = 0 ∧ t.chip.getB TIME_STATUS 0 TIME_STATUS.RTC_VALID = false)) ∧
  (∀ s, s.chip.boot.vaon = true → s.chip.level = lvNone → s.chip.allClassed = true → s.chip.boot.vbusBelow = false →
    Completes .firebreakTierReached s fun t => lvFirebreak ≤ t.chip.level ∧ t.chip.boot.fbReady = true ∧ 2 ≤ t.chip.bootStep) ∧
  (∀ s, s.chip.boot.vaon = true → s.chip.boot.xtalMay = true → s.chip.getB SUPPLY_STATUS 0 SUPPLY_STATUS.REF_XTAL = false →
    Completes .crystalStarted s fun t => t.chip.boot.refRun = true ∧ t.chip.getB SUPPLY_STATUS 0 SUPPLY_STATUS.REF_XTAL = true) ∧
  (∀ s, s.chip.boot.vaon = true → s.chip.boot.refRun = false ∨ s.chip.getB SUPPLY_STATUS 0 SUPPLY_STATUS.REF_XTAL = true →
    Completes .refRcSwitch s fun t => t.chip.getB SUPPLY_STATUS 0 SUPPLY_STATUS.REF_XTAL = false ∧
      t.chip.getB SUPPLY_STATUS 0 SUPPLY_STATUS.PLLB_LOCK = false ∧ t.chip.level ≤ lvLimited) ∧
  (∀ s, s.chip.coreMay = true →
    Completes .coreEnable s fun t => t.chip.boot.enCore = true ∧
      t.chip.aonF AON_STATUS.CORE_TRIES = min 4 (s.chip.aonF AON_STATUS.CORE_TRIES + 1)) ∧
  (∀ s pllB, s.chip.boot.enCore = true → s.chip.bootStep = 4 ∨ s.chip.bootStep = 5 → s.chip.boot.resetLow = false → s.chip.boot.pfHalt = false →
    Completes (.pgCoreRise true pllB) s fun t => t.chip.bootStep = 6 ∧ t.chip.getB SUPPLY_STATUS 0 SUPPLY_STATUS.PG_CORE = true ∧
      t.chip.getB SUPPLY_STATUS 0 SUPPLY_STATUS.PLLA_LOCK = true ∧
      t.chip.getB SUPPLY_STATUS 0 SUPPLY_STATUS.PLLB_LOCK = (pllB && s.chip.getB SUPPLY_STATUS 0 SUPPLY_STATUS.REF_XTAL)) ∧
  (∀ s, s.chip.boot.enCore = true → s.chip.getB SUPPLY_STATUS 0 SUPPLY_STATUS.PLLA_LOCK = false →
    s.chip.getB SUPPLY_STATUS 0 SUPPLY_STATUS.PG_CORE = true ∨ s.chip.passedMs s.chip.boot.enCoreSince 10 = true →
    Completes .coreStartTimeout s fun t => t.chip.boot.enCore = false ∧ t.chip.boot.coreFails = s.chip.boot.coreFails + 1 ∧
      t.chip.boot.coreLowAt = some s.chip.up) ∧
  (∀ s n, s.drained → s.chip.bootStep = 6 → s.chip.ststate = ssLoading → s.chip.getB SUPPLY_STATUS 0 SUPPLY_STATUS.PLLA_LOCK = true →
    (∀ b, b < 2 → s.chip.openIntent b = false ∧ s.chip.bstate b = bkCommitted) →
    n = (if s.chip.getF BANK_INFO 0 BANK_INFO.SEQ < s.chip.getF BANK_INFO 1 BANK_INFO.SEQ then 1 else 0) →
    Completes (.shadowPowerUp false false false) s fun t => t.chip.shadowUp = true ∧
      t.chip.getF STORE_STATUS 0 STORE_STATUS.LOADED_BANK = n ∧ t.chip.storeSeq = s.chip.getF BANK_INFO n BANK_INFO.SEQ ∧
      (s.chip.boot.fansLoaded = false → t.mem.sram = s.mem.bank n)) ∧
  (∀ s badA badB copyFails, s.drained → s.chip.bootStep = 6 → s.chip.ststate = ssLoading →
    s.chip.getB SUPPLY_STATUS 0 SUPPLY_STATUS.PLLA_LOCK = true → (∀ b, b < 2 → s.chip.openIntent b = false ∧ s.chip.bstate b ≠ bkCommitted) →
    Completes (.shadowPowerUp badA badB copyFails) s fun t => t.chip.ststate = ssBlank ∧ t.mem.sram = []) ∧
  (∀ s, s.chip.bootStep = 6 → s.chip.boot.gateTested = false → s.chip.boot.gateTries < 2 →
    Completes (.gatehouseSelfTest true) s fun t => t.chip.boot.gateTested = true ∧ t.chip.boot.gatehouse = true ∧
      (s.chip.shadowUp = true → t.chip.bootStep = 7)) ∧
  (∀ s prog, s.chip.bootStep = 7 → s.chip.lifecycle = lcField ∨ s.chip.lifecycle = lcUnlocked → s.chip.boot.resetLow = false →
    Completes (.bootImageSelect prog) s fun t => t.chip.bootStep = 8 ∧
      t.chip.getF FW_STATUS 0 FW_STATUS.OUTCOME = t.chip.aonF AON_STATUS.FW_OUTCOME ∧
      (t.chip.aonF AON_STATUS.FW_OUTCOME = 6 ↔ t.chip.pickSlot 0 = none)) ∧
  (∀ s, s.chip.bootStep = 8 → s.chip.aonF AON_STATUS.FW_OUTCOME ≠ 6 → s.chip.boot.resetLow = false → s.chip.boot.kfwTries < 2 →
    Completes (.kfwStart true) s fun t => t.chip.boot.keeper = true ∧ t.chip.bootStep = 9) ∧
  (∀ s, s.chip.bootStep = 8 → s.chip.aonF AON_STATUS.FW_OUTCOME ≠ 6 → s.chip.boot.resetLow = false → s.chip.boot.kfwTries = 0 →
    Completes (.kfwStart false) s fun t => t.chip.bootStep = 7 ∧ t.chip.boot.keeper = s.chip.boot.keeper) ∧
  (∀ s fails linear k₀, s.chip.bootStep = 9 → s.chip.level = lvSurvival → lvLimited ≤ s.chip.supported → k₀ < 4 →
    s.chip.tstate k₀ ≠ tsOutOfService → fails.testBit k₀ = false →
    Completes (.terracesStart fails linear) s fun t => t.chip.level = lvLimited ∧ t.chip.bootStep = 10 ∧
      ∀ k, k < 4 → fails.testBit k = true → t.chip.tstate k = tsOutOfService) ∧
  (∀ s, s.chip.bootStep = 10 → s.chip.level = lvLimited →
    Completes .fullCheck s fun t => t.chip.bootStep = 11 ∧ t.chip.level = if s.chip.fullUnits then lvFull else lvLimited)

/-- `TIER_FALL` to `RESET_PIN_RECOVER` (R33 to R36, R497 to R508). -/
def Obligations.TiersAndResetsAct : Prop :=
  (∀ s mask, Completes (.tierFall mask) s fun t => t.chip.level ≤ s.chip.level ∧
    (mask.testBit 0 = true → t.chip.boot.metering = false ∧ t.chip.level ≤ lvLimited) ∧
    (mask.testBit 3 = true → t.chip.boot.allocUp = false ∧ t.chip.level ≤ lvSurvival)) ∧
  (∀ s mask linear, s.chip.level < (s.chip.markUnits mask true).supported → 10 ≤ s.chip.bootStep →
    Completes (.tierRise mask linear) s fun t => t.chip.level = s.chip.level + 1) ∧
  (∀ s cause, s.chip.boot.keeper = true → s.chip.recentRestarts = [] → s.chip.boot.hold = none → lvLimited ≤ s.chip.level →
    s.chip.level ≤ s.chip.supported →
    Completes (.keeperFault cause) s fun t => t.chip.boot.keeper = false ∧ t.chip.level = s.chip.level ∧ t.chip.holding 0 = true ∧
      t.chip.aonF AON_STATUS.TIER_HOLD = 1 ∧ t.chip.host.waits = [] ∧ t.chip.host.frags = []) ∧
  (∀ s, s.chip.boot.keeper = false → 9 ≤ s.chip.bootStep → (∀ y, s.chip.boot.hold = some y → y.unit = 0) →
    Completes .keeperRestartComplete s fun t => t.chip.boot.keeper = true ∧ t.chip.boot.hold = none) ∧
  (∀ s, s.chip.boot.gatehouse = true → s.chip.recentRestarts = [] → s.chip.boot.hold = none → lvLimited ≤ s.chip.level →
    s.chip.level ≤ s.chip.supported →
    Completes .gatehouseFault s fun t => t.chip.boot.gatehouse = false ∧ t.chip.level = s.chip.level ∧ t.chip.holding 1 = true ∧
      ∀ i, i < 128 → (t.chip.ses i).isOpen = false) ∧
  (∀ s, s.chip.boot.gatehouse = false → 9 ≤ s.chip.bootStep → (∀ y, s.chip.boot.hold = some y → y.unit = 1) →
    Completes .gatehouseRestartComplete s fun t => t.chip.boot.gatehouse = true ∧ t.chip.boot.hold = none) ∧
  (∀ s y, s.chip.boot.hold = some y → s.chip.passedS y.since 2 = true →
    Completes .tierHoldExpiry s fun t => t.chip.boot.hold = none ∧
      (s.chip.boot.keeper = false ∨ s.chip.boot.gatehouse = false → t.chip.level ≤ lvSurvival)) ∧
  (∀ s cause, s.chip.boot.vaon = true → cause ∈ [0, 3, 4, 5, 14, 16] →
    Completes (.chipReset cause) s fun t => t.chip.level = min s.chip.level lvSurvival ∧
      t.chip.aonF AON_STATUS.LAST_RESET_CAUSE = 2 ^ cause ∧
      t.chip.aonF AON_STATUS.CHIP_RESET_CNT = satInc 32 (s.chip.aonF AON_STATUS.CHIP_RESET_CNT) ∧
      (∀ i, i < 128 → (t.chip.ses i).isOpen = false) ∧ (∀ f, f < 3 → t.chip.funcState f = s.chip.funcState f) ∧
      (∀ k, k < 16 → t.chip.getF FB_STATUS 0 (FB_STATUS.SO_FAULT k) = s.chip.getF FB_STATUS 0 (FB_STATUS.SO_FAULT k))) ∧
  (∀ s, s.chip.getB SUPPLY_STATUS 0 SUPPLY_STATUS.PG_CORE = true →
    Completes .pgCoreLoss s fun t => t.chip.boot.enCore = false ∧ t.chip.aonF AON_STATUS.LAST_RESET_CAUSE = 2 ^ 3 ∧ t.chip.level ≤ lvSurvival) ∧
  (∀ s rail, rail < 2 → s.chip.boot.enCore = true →
    Completes (.brownout rail false) s fun t => t.chip.boot.enCore = false ∧ t.chip.aonF AON_STATUS.LAST_RESET_CAUSE = 2 ^ 4 ∧
      (if rail = 0 then t.chip.boot.vddaGood else t.chip.boot.vioGood) = false) ∧
  (∀ s rail, rail < 2 → (if rail = 0 then s.chip.boot.vioGood else s.chip.boot.vddaGood) = true →
    Completes (.brownout rail true) s fun t => t.chip.boot.vddaGood = true ∧ t.chip.boot.vioGood = true ∧
      (t.chip.aonF AON_STATUS.LIVE).testBit 4 = false) ∧
  (∀ s, s.chip.boot.vaon = true → s.chip.boot.pfHalt = true → s.chip.boot.vbusPf = false →
    Completes .powerReturn s fun t => t.chip.boot.pfHalt = false ∧ t.chip.boot.enCore = false ∧ t.chip.level ≤ lvSurvival ∧
      t.chip.boot.coreLowAt = some s.chip.up) ∧
  (∀ s, s.chip.boot.vaon = true → s.chip.boot.resetStuck = false → s.chip.boot.resetLow = false →
    Completes (.resetPinChange true) s fun t => t.chip.boot.resetLow = true ∧ t.chip.aonF AON_STATUS.LAST_RESET_CAUSE = 2 ^ 14 ∧
      t.chip.level ≤ lvSurvival) ∧
  (∀ s, s.chip.boot.vaon = true → s.chip.boot.resetStuck = false → s.chip.boot.resetLow = true →
    Completes (.resetPinChange false) s fun t => t.chip.boot.resetLow = false ∧ (t.chip.aonF AON_STATUS.LIVE).testBit 14 = false) ∧
  (∀ s, s.chip.boot.resetLow = true → s.chip.passedS s.chip.boot.resetSince 30 = true →
    Completes .resetPinStuck s fun t => t.chip.boot.resetLow = false ∧ t.chip.boot.resetStuck = true ∧
      (t.chip.aonF AON_STATUS.LIVE).testBit 15 = true) ∧
  (∀ s, s.chip.boot.resetStuck = true → Completes .resetPinRecover s fun t => t.chip.boot.resetStuck = false)

/-- `CONFIG_BUNDLE_WRITE`, the snapshot commands and the firmware commands (R500 to R518). -/
def Obligations.SnapshotsAndFirmwareAct : Prop :=
  (∀ s, s.chip.getB SNAP_CFG 0 SNAP_CFG.SNAP_IN_EN = true → lvLimited ≤ s.chip.level → s.chip.now ≤ rtcEnd →
    Completes .snapInTrigger s fun t => t.chip.getB SNAP_STATUS 0 SNAP_STATUS.SNAP_STATE = true ∧
      (if s.chip.getB SNAP_STATUS 0 SNAP_STATUS.SNAP_STATE then
        t.chip.getF SNAP_STATUS 0 SNAP_STATUS.MISSED = satInc 32 (s.chip.getF SNAP_STATUS 0 SNAP_STATUS.MISSED) ∧
        t.chip.boot.segments = s.chip.boot.segments
      else t.chip.getF SNAP_STATUS 0 SNAP_STATUS.SNAP_ID = (s.chip.getF SNAP_STATUS 0 SNAP_STATUS.SNAP_ID + 1) % 2 ^ 32 ∧
        t.chip.getF SNAP_STATUS 0 SNAP_STATUS.SOURCE = 1 ∧ t.chip.getF SNAP_STATUS 0 SNAP_STATUS.TIME = s.chip.now)) ∧
  (∀ s h x, Served s h (snapSpec 0x0F00 [1, 2]) x → h.prsv = 0 → lvLimited ≤ s.chip.level → s.chip.now ≤ rtcEnd →
    s.chip.getB SNAP_STATUS 0 SNAP_STATUS.SNAP_STATE = false →
    Completes (.snapshot h) s fun t => t.chip.getB SNAP_STATUS 0 SNAP_STATUS.SNAP_STATE = true ∧
      t.chip.getF SNAP_STATUS 0 SNAP_STATUS.SOURCE = 2 ∧
      Confirmed s t h 0x0F00 (u32 ((s.chip.getF SNAP_STATUS 0 SNAP_STATUS.SNAP_ID + 1) % 2 ^ 32) ++ rsvBytes 4 ++ u64 s.chip.now)) ∧
  (∀ s h x, Served s h (snapSpec 0x0F02 [2]) x → h.prsv = 0 →
    Completes (.snapClear h) s fun t => t.chip.getB SNAP_STATUS 0 SNAP_STATUS.SNAP_STATE = false ∧ t.chip.boot.segments = []) ∧
  (∀ s h x image length k, Served s h (fwSpec 0x0F10 fwWho 2 (fun n => n == 8)) x → h.prsv = 0 → image ≤ 2 → 320 ≤ length →
    length ≤ slotSize image → s.chip.getF FW_STATUS 0 FW_STATUS.STAGING = 0xFF ∨ s.chip.getF FW_STATUS 0 FW_STATUS.STAGING = image →
    s.chip.freeHandle x.si = some k →
    Completes (.fwStageOpen h image length) s fun t => t.chip.getF FW_STATUS 0 FW_STATUS.STAGING = image ∧
      t.chip.slot (fwInst image (s.chip.stageSlot image)) = { staging := true, len := length, handle := some k }) ∧
  (∀ s image y, image ≤ 2 → s.chip.getF FW_STATUS 0 FW_STATUS.STAGING = image → s.chip.slot (fwInst image (s.chip.stageSlot image)) = y →
    y.staging = true → y.erased = false →
    Completes .fwStageEraseDone s fun t => t.chip.slot (fwInst image (s.chip.stageSlot image)) =
      { y with erased := true, handle := none, content := 2 ^ (8 * y.len) - 1 }) ∧
  (∀ s h x image offset data y, Served s h (fwSpec 0x0F11 fwWho 3 (fun n => decide (9 ≤ n))) x → h.prsv = 0 → image ≤ 2 →
    s.chip.stageLive image = true → s.chip.stageBad image offset data.length = false →
    s.chip.slot (fwInst image (s.chip.stageSlot image)) = y → written y.ranges offset data.length = false →
    Completes (.fwStageWrite h image offset data) s fun t =>
      t.chip.slot (fwInst image (s.chip.stageSlot image)) =
        { y with content := putRange y.content offset data, ranges := y.ranges ++ [(offset, data.length)] } ∧
      ∀ k, k ≠ fwInst image (s.chip.stageSlot image) → t.chip.slot k = s.chip.slot k) ∧
  (∀ s h x image sigOk hashOk y n, Served s h (fwSpec 0x0F12 fwWho 2 (fun n => n == 4)) x → h.prsv = 0 → image ≤ 2 →
    s.chip.stageLive image = true → s.chip.slot (fwInst image (s.chip.stageSlot image)) = y → s.chip.freeHandle x.si = some n →
    Completes (.fwStageClose h image sigOk hashOk) s fun t => t.chip.getF FW_STATUS 0 FW_STATUS.STAGING = 0xFF ∧
      t.chip.slot (fwInst image (s.chip.stageSlot image)) =
        { y with staging := false, sigOk := y.complete && sigOk, hashOk := y.complete && hashOk, handle := none } ∧
      t.chip.getF FW_SLOT (fwInst image (s.chip.stageSlot image)) FW_SLOT.STATE =
        t.chip.slotJudge image (t.chip.slot (fwInst image (s.chip.stageSlot image)))) ∧
  (∀ s h x mask, Served s h (fwSpec 0x0F13 Who.estateOnly 2 (fun n => n == 4)) x → h.prsv = 0 → 1 ≤ mask → mask ≤ 15 →
    (∀ i, i < 3 → mask.testBit i = true → s.chip.getF FW_SLOT (fwInst i (1 - s.chip.activeSlot i)) FW_SLOT.STATE = 1) →
    Completes (.fwActivate h mask) s fun t => (∀ i, i < 3 → t.chip.activeSlot i =
        if mask.testBit i then 1 - s.chip.activeSlot i else s.chip.activeSlot i) ∧
      (mask.testBit 3 = true → t.chip.aonF AON_STATUS.LAST_RESET_CAUSE = 2 ^ 16)) ∧
  (∀ s h x kfw zrt ghp sig key, Served s h (fwSpec 0x0F14 Who.estateOnly 2 (fun n => n == 80)) x → h.prsv = 0 →
    key = s.chip.getF CRED_ESTATE (s.chip.ses x.si).index CRED_ESTATE.PUBKEY → Sig.verifies sig key = true →
    Completes (.acceptUntestedSet h kfw zrt ghp sig) s fun t =>
      t.chip.boot.policy = if kfw = 0 ∧ zrt = 0 ∧ ghp = 0 then none else some ⟨kfw, zrt, ghp, key⟩) ∧
  (∀ s, s.chip.boot.keeper = true → s.chip.boot.bundleDirty.isSome = true →
    Completes (.configBundleWrite false) s fun t => t.chip.boot.bundleDirty = none ∧ t.chip.boot.bundleBroken = false ∧
      t.chip.bundleNewerB = !s.chip.bundleNewerB ∧
      (if s.chip.bundleNewerB then t.chip.boot.bundleA else t.chip.boot.bundleB).recs = s.chip.bundleNow ∧
      (if s.chip.bundleNewerB then t.chip.boot.bundleB = s.chip.boot.bundleB else t.chip.boot.bundleA = s.chip.boot.bundleA)) ∧
  (∀ s, s.chip.boot.keeper = true → s.chip.boot.bundleDirty.isSome = true →
    Completes (.configBundleWrite true) s fun t => t.chip.boot.bundleBroken = true ∧
      (if s.chip.bundleNewerB then t.chip.boot.bundleB = s.chip.boot.bundleB else t.chip.boot.bundleA = s.chip.boot.bundleA))

/-- The sequence window of a session (R47), as functions and at the command `PING`. -/
def Obligations.SequenceNumbersSpent : Prop :=
  (∀ y m, seqRefused y m = true ↔ m = 0 ∨ m + 64 ≤ y.high ∨ m ∈ y.window) ∧
  (∀ y n m, seqRefused y n = false → (seqRefused (markSeq y n) m = true ↔ seqRefused y m = true ∨ m = n ∨ m + 64 ≤ n)) ∧
  (∀ s h echo i, s.chip.listening h.ep = true → h.session ≠ 0 → i = h.session % 128 → (s.chip.ses i).isOpen = true →
    (s.chip.ses i).gen = h.session / 128 → (s.chip.ses i).ep = h.ep → h.authentic = true →
    Completes (.ping h echo) s fun t =>
      (seqRefused (s.chip.ses i) h.seq = true → (t.chip.ses i).high = (s.chip.ses i).high ∧ (t.chip.ses i).window = (s.chip.ses i).window ∧
        t.chip.sent h.ep = s.chip.sent h.ep ∧ ((s.chip.ep h.ep).refusals.length < 8 → ∃ f : Frame,
          (t.chip.ep h.ep).refusals = (s.chip.ep h.ep).refusals ++ [f] ∧ f.status = some stReplay ∧ f.tag = h.tag ∧ f.session = h.session)) ∧
      (seqRefused (s.chip.ses i) h.seq = false → (t.chip.ses i).high = max (s.chip.ses i).high h.seq ∧
        ∀ m, seqRefused (t.chip.ses i) m = true ↔ seqRefused (s.chip.ses i) m = true ∨ m = h.seq ∨ m + 64 ≤ h.seq))

/-- `State.reset` meets the invariants of the step; it stands before VAON, with the factory image in bank A (log entries 1 and 6). -/
def Obligations.ResetMeetsInvariants : Prop :=
  State.reset.memoryOk ∧ State.reset.drained ∧ State.reset.outputsOk ∧ State.reset.faultLineOk ∧ State.reset.cutOk ∧ State.reset.failsafeOk ∧
  State.reset.pending = [] ∧ State.reset.chip.boot.vaon = false ∧ State.reset.chip.level = lvNone ∧
  (∀ i, (State.reset.chip.ses i).isOpen = false) ∧ State.reset.chip.getF FB_STATUS 0 FB_STATUS.SO_ON = 0 ∧
  State.reset.chip.getF TIME_STATUS 0 TIME_STATUS.RTC_VALID = 0 ∧ State.reset.chip.bstate 0 = bkCommitted
end

