-- ==== Sys2Proof/Laws/Layout.lean ====
section
/-!
SUPPORT. What reading a table or a field gives after a write: the same place gives the value written, every other place is as it was;
writes keep a table's canonical form.
-/

namespace Sys2Proof.Machine

variable {α : Type}

/-! ## Tables -/

@[simp] theorem Tab.get_nil (d : α) (k : Nat) : Tab.get d [] k = d := rfl

theorem Tab.get_del_self (d : α) (t : List (Nat × α)) (k : Nat) : Tab.get d (Tab.del k t) k = d := by
  induction t with
  | nil => rfl
  | cons p t ih => by_cases h : p.1 = k <;> simp [Tab.del, Tab.get, h, ih]

theorem Tab.get_del_ne (d : α) (t : List (Nat × α)) {k k' : Nat} (h : k ≠ k') : Tab.get d (Tab.del k t) k' = Tab.get d t k' := by
  induction t with
  | nil => rfl
  | cons p t ih =>
    by_cases h1 : p.1 = k
    · simp [Tab.del, Tab.get, h1, h, ih]
    · simp only [Tab.del, if_neg h1, Tab.get]
      split <;> simp_all

/-- No entry of the table has the key. -/
def Tab.free (k : Nat) (t : List (Nat × α)) : Prop := ∀ p ∈ t, p.1 ≠ k

theorem Tab.free_del (t : List (Nat × α)) (k : Nat) : Tab.free k (Tab.del k t) := by
  induction t with
  | nil => intro p hp; cases hp
  | cons p t ih =>
    by_cases h : p.1 = k
    · simpa [Tab.del, h] using ih
    · intro q hq
      simp only [Tab.del, if_neg h, List.mem_cons] at hq
      rcases hq with rfl | hq
      · exact h
      · exact ih q hq

theorem Tab.get_ins_self (d : α) (t : List (Nat × α)) (k : Nat) (v : α) (h : Tab.free k t) : Tab.get d (Tab.ins k v t) k = v := by
  induction t with
  | nil => simp [Tab.ins, Tab.get]
  | cons p t ih =>
    have hp : p.1 ≠ k := h p (by simp)
    have ht : Tab.free k t := fun q hq => h q (by simp [hq])
    by_cases h1 : k < p.1
    · simp [Tab.ins, Tab.get, h1]
    · simp [Tab.ins, Tab.get, h1, hp, ih ht]

theorem Tab.get_ins_ne (d : α) (t : List (Nat × α)) {k k' : Nat} (v : α) (h : k ≠ k') :
    Tab.get d (Tab.ins k v t) k' = Tab.get d t k' := by
  induction t with
  | nil => simp [Tab.ins, Tab.get, h]
  | cons p t ih =>
    by_cases h1 : k < p.1
    · simp [Tab.ins, Tab.get, h1, h]
    · simp only [Tab.ins, if_neg h1, Tab.get]
      split <;> simp_all

@[simp] theorem Tab.get_set_self [DecidableEq α] (d : α) (t : List (Nat × α)) (k : Nat) (v : α) : Tab.get d (Tab.set d t k v) k = v := by
  by_cases h : v = d
  · simp [Tab.set, h, Tab.get_del_self]
  · simp [Tab.set, h, Tab.get_ins_self, Tab.free_del]

theorem Tab.get_set_ne [DecidableEq α] (d d' : α) (t : List (Nat × α)) {k k' : Nat} (v : α) (h : k ≠ k') :
    Tab.get d (Tab.set d' t k v) k' = Tab.get d t k' := by
  by_cases hv : v = d'
  · simp [Tab.set, hv, Tab.get_del_ne d t h]
  · simp [Tab.set, hv, Tab.get_ins_ne d _ v h, Tab.get_del_ne d t h]

/-- Reading after a write, at any key. -/
theorem Tab.get_set [DecidableEq α] (d : α) (t : List (Nat × α)) (k k' : Nat) (v : α) :
    Tab.get d (Tab.set d t k v) k' = if k = k' then v else Tab.get d t k' := by
  by_cases h : k = k'
  · subst h; simp
  · simp [h, Tab.get_set_ne d d t v h]

/-- The canonical form as a list property: every later key is larger, no entry is the default. -/
theorem Tab.wf_cons [DecidableEq α] (d : α) (p : Nat × α) (t : List (Nat × α)) :
    Tab.wf d (p :: t) = true ↔ (∀ q ∈ t, p.1 < q.1) ∧ p.2 ≠ d ∧ Tab.wf d t = true := by
  induction t generalizing p with
  | nil => simp [Tab.wf]
  | cons q t ih =>
    have hq := ih q
    constructor
    · intro h
      simp only [Tab.wf, Bool.and_eq_true, decide_eq_true_eq] at h
      refine ⟨?_, h.1.2, h.2⟩
      intro r hr
      rcases List.mem_cons.1 hr with rfl | hr
      · exact h.1.1
      · exact lt_trans h.1.1 ((hq.1 h.2).1 r hr)
    · rintro ⟨h1, h2, h3⟩
      simp only [Tab.wf, Bool.and_eq_true, decide_eq_true_eq]
      exact ⟨⟨h1 q (by simp), h2⟩, h3⟩

theorem Tab.mem_del {k : Nat} {t : List (Nat × α)} {p : Nat × α} (h : p ∈ Tab.del k t) : p ∈ t := by
  induction t with
  | nil => exact h
  | cons q t ih =>
    by_cases hq : q.1 = k
    · simp only [Tab.del, if_pos hq] at h; exact List.mem_cons_of_mem _ (ih h)
    · simp only [Tab.del, if_neg hq, List.mem_cons] at h
      rcases h with rfl | h
      · simp
      · exact List.mem_cons_of_mem _ (ih h)

theorem Tab.wf_del [DecidableEq α] (d : α) (k : Nat) (t : List (Nat × α)) (h : Tab.wf d t = true) : Tab.wf d (Tab.del k t) = true := by
  induction t with
  | nil => exact h
  | cons q t ih =>
    obtain ⟨h1, h2, h3⟩ := (Tab.wf_cons d q t).1 h
    by_cases hq : q.1 = k
    · simpa [Tab.del, hq] using ih h3
    · simp only [Tab.del, if_neg hq]
      exact (Tab.wf_cons d q _).2 ⟨fun r hr => h1 r (Tab.mem_del hr), h2, ih h3⟩

theorem Tab.mem_ins {k : Nat} {v : α} {t : List (Nat × α)} {p : Nat × α} (h : p ∈ Tab.ins k v t) : p = (k, v) ∨ p ∈ t := by
  induction t with
  | nil => left; simpa [Tab.ins] using h
  | cons q t ih =>
    by_cases hq : k < q.1
    · simp only [Tab.ins, if_pos hq, List.mem_cons] at h
      rcases h with h | h | h
      · exact .inl h
      · exact .inr (by simp [h])
      · exact .inr (by simp [h])
    · simp only [Tab.ins, if_neg hq, List.mem_cons] at h
      rcases h with h | h
      · exact .inr (by simp [h])
      · rcases ih h with h | h
        · exact .inl h
        · exact .inr (by simp [h])

theorem Tab.wf_ins [DecidableEq α] (d : α) (k : Nat) (v : α) (t : List (Nat × α)) (hv : v ≠ d) (hk : Tab.free k t)
    (h : Tab.wf d t = true) : Tab.wf d (Tab.ins k v t) = true := by
  induction t with
  | nil => simpa [Tab.ins, Tab.wf] using hv
  | cons q t ih =>
    obtain ⟨h1, h2, h3⟩ := (Tab.wf_cons d q t).1 h
    have hq : q.1 ≠ k := hk q (by simp)
    have ht : Tab.free k t := fun r hr => hk r (by simp [hr])
    by_cases hlt : k < q.1
    · simp only [Tab.ins, if_pos hlt]
      refine (Tab.wf_cons d _ _).2 ⟨?_, hv, h⟩
      intro r hr
      rcases List.mem_cons.1 hr with rfl | hr
      · exact hlt
      · exact lt_trans hlt (h1 r hr)
    · simp only [Tab.ins, if_neg hlt]
      refine (Tab.wf_cons d _ _).2 ⟨?_, h2, ih ht h3⟩
      intro r hr
      rcases Tab.mem_ins hr with rfl | hr
      · show q.1 < k; omega
      · exact h1 r hr

/-- Writing keeps the canonical form. -/
theorem Tab.wf_set [DecidableEq α] (d : α) (t : List (Nat × α)) (k : Nat) (v : α) (h : Tab.wf d t = true) :
    Tab.wf d (Tab.set d t k v) = true := by
  by_cases hv : v = d
  · simpa [Tab.set, hv] using Tab.wf_del d k t h
  · simpa [Tab.set, hv] using Tab.wf_ins d k v _ hv (Tab.free_del t k) (Tab.wf_del d k t h)

/-! ## Fields -/

theorem Fld.get_lt (f : Fld) (img : Nat) : f.get img < 2 ^ f.width := Nat.mod_lt _ (by positivity)

/-- The field written reads as the low bits of the value. -/
@[simp] theorem Fld.get_set_self (f : Fld) (v img : Nat) : f.get (f.set v img) = v % 2 ^ f.width := by
  unfold Fld.get Fld.set
  have h0 : 0 < 2 ^ f.off := by positivity
  rw [Nat.add_mul_div_left _ _ h0, Nat.div_eq_of_lt (Nat.mod_lt _ h0), Nat.zero_add, Nat.add_mul_mod_self_left, Nat.mod_mod]

/-- Two fields share no bit. -/
abbrev Fld.apart (f g : Fld) : Prop := f.off + f.width ≤ g.off ∨ g.off + g.width ≤ f.off

/-- Bit `n` of an image after a field is written. -/
theorem Fld.testBit_set (f : Fld) (v img n : Nat) :
    (f.set v img).testBit n = if f.off ≤ n ∧ n < f.off + f.width then v.testBit (n - f.off) else img.testBit n := by
  unfold Fld.set
  have h1 : img % 2 ^ f.off < 2 ^ f.off := Nat.mod_lt _ (by positivity)
  have h2 : v % 2 ^ f.width < 2 ^ f.width := Nat.mod_lt _ (by positivity)
  rw [Nat.add_comm, Nat.testBit_two_pow_mul_add _ h1]
  by_cases hn : n < f.off
  · simp [hn, Nat.testBit_mod_two_pow, Nat.not_le.2 hn]
  · rw [if_neg hn, Nat.add_comm, Nat.testBit_two_pow_mul_add _ h2]
    by_cases hm : n - f.off < f.width
    · have : f.off ≤ n ∧ n < f.off + f.width := by omega
      simp [hm, this, Nat.testBit_mod_two_pow]
    · have : ¬ (f.off ≤ n ∧ n < f.off + f.width) := by omega
      simp only [if_neg hm, if_neg this, Nat.testBit_div_two_pow]
      congr 1; omega

theorem Fld.testBit_get (f : Fld) (img n : Nat) : (f.get img).testBit n = (decide (n < f.width) && img.testBit (n + f.off)) := by
  unfold Fld.get
  rw [Nat.testBit_mod_two_pow, Nat.testBit_div_two_pow]

/-- A field apart from the one written reads as before. -/
theorem Fld.get_set_apart (f g : Fld) (v img : Nat) (h : f.apart g) : f.get (g.set v img) = f.get img := by
  apply Nat.eq_of_testBit_eq
  intro n
  rw [Fld.testBit_get, Fld.testBit_get]
  by_cases hn : n < f.width
  · rw [Fld.testBit_set, if_neg]
    rcases h with h | h <;> omega
  · simp [hn]

/-- Writing the value a field holds changes nothing. -/
theorem Fld.set_get (f : Fld) (img : Nat) : f.set (f.get img) img = img := by
  apply Nat.eq_of_testBit_eq
  intro n
  rw [Fld.testBit_set]
  by_cases h : f.off ≤ n ∧ n < f.off + f.width
  · rw [if_pos h, Fld.testBit_get]
    have : n - f.off < f.width := by omega
    simp [this, Nat.sub_add_cancel h.1]
  · rw [if_neg h]

@[simp] theorem setFields_nil (img : Nat) : setFields [] img = img := rfl

@[simp] theorem setFields_cons (p : Fld × Nat) (l : List (Fld × Nat)) (img : Nat) :
    setFields (p :: l) img = setFields l (p.1.set p.2 img) := rfl

/-- A field apart from every field assigned reads as before. -/
theorem get_setFields_apart (f : Fld) (l : List (Fld × Nat)) (img : Nat) (h : ∀ p ∈ l, f.apart p.1) :
    f.get (setFields l img) = f.get img := by
  induction l generalizing img with
  | nil => rfl
  | cons p l ih =>
    rw [setFields_cons, ih _ (fun q hq => h q (by simp [hq])), Fld.get_set_apart _ _ _ _ (h p (by simp))]

end Sys2Proof.Machine
end

