-- ==== Sys2Proof/Laws/Memory.lean ====
section
/-!
SUPPORT. The shadow memory: every request keeps the canonical form, a byte written reads back, every other byte is as it was.
-/

namespace Sys2Proof.Machine

theorem cellsWf_iff (l : List Host.Cell) : cellsWf l = true ↔ Tab.wf (0 : Byte) l = true ∧ ∀ p ∈ l, p.1 < shadowSize := by
  simp [cellsWf, List.all_eq_true]

theorem cellsWf_nil : cellsWf [] = true := by decide

theorem mem_set {l : List Host.Cell} {a : Nat} {b : Byte} {p : Host.Cell} (h : p ∈ Tab.set (0 : Byte) l a b) : p.1 = a ∨ p ∈ l := by
  unfold Tab.set at h
  split at h
  · exact .inr (Tab.mem_del h)
  · rcases Tab.mem_ins h with rfl | h
    · exact .inl rfl
    · exact .inr (Tab.mem_del h)

theorem cellsWf_set (l : List Host.Cell) (a : Nat) (b : Byte) (ha : a < shadowSize) (h : cellsWf l = true) :
    cellsWf (Tab.set (0 : Byte) l a b) = true := by
  rw [cellsWf_iff] at *
  refine ⟨Tab.wf_set _ _ _ _ h.1, fun p hp => ?_⟩
  rcases mem_set hp with hp | hp
  · omega
  · exact h.2 p hp

theorem cellsWf_writeBytes (l : List Host.Cell) (a : Nat) (bs : List Nat) (ha : a + bs.length ≤ shadowSize) (h : cellsWf l = true) :
    cellsWf (writeBytes l a bs) = true := by
  induction bs generalizing l a with
  | nil => exact h
  | cons b bs ih =>
    simp only [List.length_cons] at ha
    exact ih _ _ (by omega) (cellsWf_set _ _ _ (by omega) h)

/-- A write keeps the canonical form. -/
theorem cellsWf_writeInside (l : List Host.Cell) (a : Nat) (bs : List Nat) (h : cellsWf l = true) : cellsWf (writeInside l a bs) = true := by
  unfold writeInside
  split
  · exact cellsWf_writeBytes l a bs ‹_› h
  · exact h

theorem Mem.wf_iff (m : Mem) :
    m.wf = true ↔ cellsWf m.sram = true ∧ cellsWf m.snap = true ∧ cellsWf m.bankA = true ∧ cellsWf m.bankB = true := by
  simp [Mem.wf, and_assoc]

theorem Mem.cellsWf_bank (m : Mem) (b : Nat) (h : m.wf = true) : cellsWf (m.bank b) = true := by
  rw [Mem.wf_iff] at h
  unfold Mem.bank
  split
  · exact h.2.2.1
  · exact h.2.2.2

theorem Mem.wf_setBank (m : Mem) (b : Nat) (l : List Host.Cell) (h : m.wf = true) (hl : cellsWf l = true) : (m.setBank b l).wf = true := by
  rw [Mem.wf_iff] at *
  unfold Mem.setBank
  split
  · exact ⟨h.1, h.2.1, hl, h.2.2.2⟩
  · exact ⟨h.1, h.2.1, h.2.2.1, hl⟩

theorem Mem.wf_sram (m : Mem) (l : List Host.Cell) (h : m.wf = true) (hl : cellsWf l = true) : ({ m with sram := l } : Mem).wf = true := by
  rw [Mem.wf_iff] at *
  exact ⟨hl, h.2⟩

/-- Every request to the memory keeps its canonical form. -/
theorem Mem.wf_apply (m : Mem) (o : MemOp) (h : m.wf = true) : (m.apply o).wf = true := by
  have hs := ((Mem.wf_iff m).1 h).1
  cases o with
  | write a bs => exact Mem.wf_sram m _ h (cellsWf_writeInside _ _ _ hs)
  | snapshot => rw [Mem.wf_iff] at *; exact ⟨h.1, h.1, h.2.2⟩
  | commit b => exact Mem.wf_setBank m b _ h ((Mem.wf_iff m).1 h).2.1
  | eraseBank b => exact Mem.wf_setBank m b _ h cellsWf_nil
  | load b => exact Mem.wf_sram m _ h (Mem.cellsWf_bank m b h)
  | reloadPage b p => exact Mem.wf_sram m _ h (cellsWf_writeInside _ _ _ hs)
  | zero => exact Mem.wf_sram m _ h cellsWf_nil

/-- So do all the requests of a step. -/
theorem Mem.wf_applyAll (m : Mem) (l : List MemOp) (h : m.wf = true) : (m.applyAll l).wf = true := by
  induction l generalizing m with
  | nil => exact h
  | cons o l ih => exact ih _ (Mem.wf_apply m o h)

@[simp] theorem Mem.applyAll_nil (m : Mem) : m.applyAll [] = m := rfl

theorem Mem.applyAll_append (m : Mem) (l k : List MemOp) : m.applyAll (l ++ k) = (m.applyAll l).applyAll k := by
  simp [Mem.applyAll, List.foldl_append]

/-- A byte outside those written reads as before. -/
theorem byteAt_writeBytes_out (l : List Host.Cell) (a : Nat) (bs : List Nat) (x : Nat) (h : x < a ∨ a + bs.length ≤ x) :
    byteAt (writeBytes l a bs) x = byteAt l x := by
  induction bs generalizing l a with
  | nil => rfl
  | cons b bs ih =>
    simp only [List.length_cons] at h
    rw [writeBytes, ih _ _ (by omega)]
    exact Tab.get_set_ne _ _ _ _ (by omega)

/-- A byte written reads back. -/
theorem byteAt_writeBytes_in (l : List Host.Cell) (a : Nat) (bs : List Nat) (k : Nat) (h : k < bs.length) :
    byteAt (writeBytes l a bs) (a + k) = BitVec.ofNat 8 bs[k] := by
  induction bs generalizing l a k with
  | nil => simp at h
  | cons b bs ih =>
    cases k with
    | zero => rw [writeBytes, Nat.add_zero, byteAt_writeBytes_out _ _ _ _ (by omega)]; simp [byteAt]
    | succ k =>
      have hk : k < bs.length := by simpa using h
      have := ih (Tab.set (0 : Byte) l a (BitVec.ofNat 8 b)) (a + 1) k hk
      rw [writeBytes, show a + (k + 1) = a + 1 + k by omega, this]
      simp

end Sys2Proof.Machine
end

