-- ==== Sys2Proof/Laws/State.lean ====
section
/-!
SUPPORT. One small lemma for each field of the state under each named write: what a write does not name it leaves as it was.
-/

namespace Sys2Proof.Machine

@[simp] theorem Chip.putImg_freeIdx (c : Chip) (r : RecDesc) (i v : Nat) : (c.putImg r i v).freeIdx = c.freeIdx := rfl
@[simp] theorem Chip.putImg_host (c : Chip) (r : RecDesc) (i v : Nat) : (c.putImg r i v).host = c.host := rfl
@[simp] theorem Chip.putImg_sec (c : Chip) (r : RecDesc) (i v : Nat) : (c.putImg r i v).sec = c.sec := rfl
@[simp] theorem Chip.putImg_fb (c : Chip) (r : RecDesc) (i v : Nat) : (c.putImg r i v).fb = c.fb := rfl
@[simp] theorem Chip.putImg_boot (c : Chip) (r : RecDesc) (i v : Nat) : (c.putImg r i v).boot = c.boot := rfl
@[simp] theorem Chip.putImg_store (c : Chip) (r : RecDesc) (i v : Nat) : (c.putImg r i v).store = c.store := rfl
@[simp] theorem Chip.putImg_zones (c : Chip) (r : RecDesc) (i v : Nat) : (c.putImg r i v).zones = c.zones := rfl
@[simp] theorem Chip.putImg_time (c : Chip) (r : RecDesc) (i v : Nat) : (c.putImg r i v).time = c.time := rfl
@[simp] theorem Chip.putImg_act (c : Chip) (r : RecDesc) (i v : Nat) : (c.putImg r i v).act = c.act := rfl
@[simp] theorem Chip.putImg_sense (c : Chip) (r : RecDesc) (i v : Nat) : (c.putImg r i v).sense = c.sense := rfl
@[simp] theorem Chip.putImg_meter (c : Chip) (r : RecDesc) (i v : Nat) : (c.putImg r i v).meter = c.meter := rfl

@[simp] theorem Chip.spend_recs (c : Chip) : (c.spend).recs = c.recs := rfl
@[simp] theorem Chip.spend_vers (c : Chip) : (c.spend).vers = c.vers := rfl
@[simp] theorem Chip.spend_host (c : Chip) : (c.spend).host = c.host := rfl
@[simp] theorem Chip.spend_sec (c : Chip) : (c.spend).sec = c.sec := rfl
@[simp] theorem Chip.spend_fb (c : Chip) : (c.spend).fb = c.fb := rfl
@[simp] theorem Chip.spend_boot (c : Chip) : (c.spend).boot = c.boot := rfl
@[simp] theorem Chip.spend_store (c : Chip) : (c.spend).store = c.store := rfl
@[simp] theorem Chip.spend_zones (c : Chip) : (c.spend).zones = c.zones := rfl
@[simp] theorem Chip.spend_time (c : Chip) : (c.spend).time = c.time := rfl
@[simp] theorem Chip.spend_act (c : Chip) : (c.spend).act = c.act := rfl
@[simp] theorem Chip.spend_sense (c : Chip) : (c.spend).sense = c.sense := rfl
@[simp] theorem Chip.spend_meter (c : Chip) : (c.spend).meter = c.meter := rfl

@[simp] theorem Chip.memOp_recs (c : Chip) (o : MemOp) : (c.memOp o).recs = c.recs := rfl
@[simp] theorem Chip.memOp_vers (c : Chip) (o : MemOp) : (c.memOp o).vers = c.vers := rfl
@[simp] theorem Chip.memOp_freeIdx (c : Chip) (o : MemOp) : (c.memOp o).freeIdx = c.freeIdx := rfl
@[simp] theorem Chip.memOp_host (c : Chip) (o : MemOp) : (c.memOp o).host = c.host := rfl
@[simp] theorem Chip.memOp_sec (c : Chip) (o : MemOp) : (c.memOp o).sec = c.sec := rfl
@[simp] theorem Chip.memOp_fb (c : Chip) (o : MemOp) : (c.memOp o).fb = c.fb := rfl
@[simp] theorem Chip.memOp_boot (c : Chip) (o : MemOp) : (c.memOp o).boot = c.boot := rfl
@[simp] theorem Chip.memOp_zones (c : Chip) (o : MemOp) : (c.memOp o).zones = c.zones := rfl
@[simp] theorem Chip.memOp_time (c : Chip) (o : MemOp) : (c.memOp o).time = c.time := rfl
@[simp] theorem Chip.memOp_act (c : Chip) (o : MemOp) : (c.memOp o).act = c.act := rfl
@[simp] theorem Chip.memOp_sense (c : Chip) (o : MemOp) : (c.memOp o).sense = c.sense := rfl
@[simp] theorem Chip.memOp_meter (c : Chip) (o : MemOp) : (c.memOp o).meter = c.meter := rfl

@[simp] theorem Chip.setSes_recs (c : Chip) (i : Nat) (x : Session) : (c.setSes i x).recs = c.recs := rfl
@[simp] theorem Chip.setSes_vers (c : Chip) (i : Nat) (x : Session) : (c.setSes i x).vers = c.vers := rfl
@[simp] theorem Chip.setSes_freeIdx (c : Chip) (i : Nat) (x : Session) : (c.setSes i x).freeIdx = c.freeIdx := rfl
@[simp] theorem Chip.setSes_sec (c : Chip) (i : Nat) (x : Session) : (c.setSes i x).sec = c.sec := rfl
@[simp] theorem Chip.setSes_fb (c : Chip) (i : Nat) (x : Session) : (c.setSes i x).fb = c.fb := rfl
@[simp] theorem Chip.setSes_boot (c : Chip) (i : Nat) (x : Session) : (c.setSes i x).boot = c.boot := rfl
@[simp] theorem Chip.setSes_store (c : Chip) (i : Nat) (x : Session) : (c.setSes i x).store = c.store := rfl
@[simp] theorem Chip.setSes_zones (c : Chip) (i : Nat) (x : Session) : (c.setSes i x).zones = c.zones := rfl
@[simp] theorem Chip.setSes_time (c : Chip) (i : Nat) (x : Session) : (c.setSes i x).time = c.time := rfl
@[simp] theorem Chip.setSes_act (c : Chip) (i : Nat) (x : Session) : (c.setSes i x).act = c.act := rfl
@[simp] theorem Chip.setSes_sense (c : Chip) (i : Nat) (x : Session) : (c.setSes i x).sense = c.sense := rfl
@[simp] theorem Chip.setSes_meter (c : Chip) (i : Nat) (x : Session) : (c.setSes i x).meter = c.meter := rfl

@[simp] theorem Chip.modSes_recs (c : Chip) (i : Nat) (f : Session → Session) : (c.modSes i f).recs = c.recs := rfl
@[simp] theorem Chip.modSes_vers (c : Chip) (i : Nat) (f : Session → Session) : (c.modSes i f).vers = c.vers := rfl
@[simp] theorem Chip.modSes_freeIdx (c : Chip) (i : Nat) (f : Session → Session) : (c.modSes i f).freeIdx = c.freeIdx := rfl
@[simp] theorem Chip.modSes_sec (c : Chip) (i : Nat) (f : Session → Session) : (c.modSes i f).sec = c.sec := rfl
@[simp] theorem Chip.modSes_fb (c : Chip) (i : Nat) (f : Session → Session) : (c.modSes i f).fb = c.fb := rfl
@[simp] theorem Chip.modSes_boot (c : Chip) (i : Nat) (f : Session → Session) : (c.modSes i f).boot = c.boot := rfl
@[simp] theorem Chip.modSes_store (c : Chip) (i : Nat) (f : Session → Session) : (c.modSes i f).store = c.store := rfl
@[simp] theorem Chip.modSes_zones (c : Chip) (i : Nat) (f : Session → Session) : (c.modSes i f).zones = c.zones := rfl
@[simp] theorem Chip.modSes_time (c : Chip) (i : Nat) (f : Session → Session) : (c.modSes i f).time = c.time := rfl
@[simp] theorem Chip.modSes_act (c : Chip) (i : Nat) (f : Session → Session) : (c.modSes i f).act = c.act := rfl
@[simp] theorem Chip.modSes_sense (c : Chip) (i : Nat) (f : Session → Session) : (c.modSes i f).sense = c.sense := rfl
@[simp] theorem Chip.modSes_meter (c : Chip) (i : Nat) (f : Session → Session) : (c.modSes i f).meter = c.meter := rfl

@[simp] theorem Chip.setEp_recs (c : Chip) (i : Nat) (x : Endpoint) : (c.setEp i x).recs = c.recs := rfl
@[simp] theorem Chip.setEp_vers (c : Chip) (i : Nat) (x : Endpoint) : (c.setEp i x).vers = c.vers := rfl
@[simp] theorem Chip.setEp_freeIdx (c : Chip) (i : Nat) (x : Endpoint) : (c.setEp i x).freeIdx = c.freeIdx := rfl
@[simp] theorem Chip.setEp_sec (c : Chip) (i : Nat) (x : Endpoint) : (c.setEp i x).sec = c.sec := rfl
@[simp] theorem Chip.setEp_fb (c : Chip) (i : Nat) (x : Endpoint) : (c.setEp i x).fb = c.fb := rfl
@[simp] theorem Chip.setEp_boot (c : Chip) (i : Nat) (x : Endpoint) : (c.setEp i x).boot = c.boot := rfl
@[simp] theorem Chip.setEp_store (c : Chip) (i : Nat) (x : Endpoint) : (c.setEp i x).store = c.store := rfl
@[simp] theorem Chip.setEp_zones (c : Chip) (i : Nat) (x : Endpoint) : (c.setEp i x).zones = c.zones := rfl
@[simp] theorem Chip.setEp_time (c : Chip) (i : Nat) (x : Endpoint) : (c.setEp i x).time = c.time := rfl
@[simp] theorem Chip.setEp_act (c : Chip) (i : Nat) (x : Endpoint) : (c.setEp i x).act = c.act := rfl
@[simp] theorem Chip.setEp_sense (c : Chip) (i : Nat) (x : Endpoint) : (c.setEp i x).sense = c.sense := rfl
@[simp] theorem Chip.setEp_meter (c : Chip) (i : Nat) (x : Endpoint) : (c.setEp i x).meter = c.meter := rfl

@[simp] theorem Chip.modEp_recs (c : Chip) (i : Nat) (f : Endpoint → Endpoint) : (c.modEp i f).recs = c.recs := rfl
@[simp] theorem Chip.modEp_vers (c : Chip) (i : Nat) (f : Endpoint → Endpoint) : (c.modEp i f).vers = c.vers := rfl
@[simp] theorem Chip.modEp_freeIdx (c : Chip) (i : Nat) (f : Endpoint → Endpoint) : (c.modEp i f).freeIdx = c.freeIdx := rfl
@[simp] theorem Chip.modEp_sec (c : Chip) (i : Nat) (f : Endpoint → Endpoint) : (c.modEp i f).sec = c.sec := rfl
@[simp] theorem Chip.modEp_fb (c : Chip) (i : Nat) (f : Endpoint → Endpoint) : (c.modEp i f).fb = c.fb := rfl
@[simp] theorem Chip.modEp_boot (c : Chip) (i : Nat) (f : Endpoint → Endpoint) : (c.modEp i f).boot = c.boot := rfl
@[simp] theorem Chip.modEp_store (c : Chip) (i : Nat) (f : Endpoint → Endpoint) : (c.modEp i f).store = c.store := rfl
@[simp] theorem Chip.modEp_zones (c : Chip) (i : Nat) (f : Endpoint → Endpoint) : (c.modEp i f).zones = c.zones := rfl
@[simp] theorem Chip.modEp_time (c : Chip) (i : Nat) (f : Endpoint → Endpoint) : (c.modEp i f).time = c.time := rfl
@[simp] theorem Chip.modEp_act (c : Chip) (i : Nat) (f : Endpoint → Endpoint) : (c.modEp i f).act = c.act := rfl
@[simp] theorem Chip.modEp_sense (c : Chip) (i : Nat) (f : Endpoint → Endpoint) : (c.modEp i f).sense = c.sense := rfl
@[simp] theorem Chip.modEp_meter (c : Chip) (i : Nat) (f : Endpoint → Endpoint) : (c.modEp i f).meter = c.meter := rfl

@[simp] theorem Chip.setHnd_recs (c : Chip) (i : Nat) (x : Handle) : (c.setHnd i x).recs = c.recs := rfl
@[simp] theorem Chip.setHnd_vers (c : Chip) (i : Nat) (x : Handle) : (c.setHnd i x).vers = c.vers := rfl
@[simp] theorem Chip.setHnd_freeIdx (c : Chip) (i : Nat) (x : Handle) : (c.setHnd i x).freeIdx = c.freeIdx := rfl
@[simp] theorem Chip.setHnd_sec (c : Chip) (i : Nat) (x : Handle) : (c.setHnd i x).sec = c.sec := rfl
@[simp] theorem Chip.setHnd_fb (c : Chip) (i : Nat) (x : Handle) : (c.setHnd i x).fb = c.fb := rfl
@[simp] theorem Chip.setHnd_boot (c : Chip) (i : Nat) (x : Handle) : (c.setHnd i x).boot = c.boot := rfl
@[simp] theorem Chip.setHnd_store (c : Chip) (i : Nat) (x : Handle) : (c.setHnd i x).store = c.store := rfl
@[simp] theorem Chip.setHnd_zones (c : Chip) (i : Nat) (x : Handle) : (c.setHnd i x).zones = c.zones := rfl
@[simp] theorem Chip.setHnd_time (c : Chip) (i : Nat) (x : Handle) : (c.setHnd i x).time = c.time := rfl
@[simp] theorem Chip.setHnd_act (c : Chip) (i : Nat) (x : Handle) : (c.setHnd i x).act = c.act := rfl
@[simp] theorem Chip.setHnd_sense (c : Chip) (i : Nat) (x : Handle) : (c.setHnd i x).sense = c.sense := rfl
@[simp] theorem Chip.setHnd_meter (c : Chip) (i : Nat) (x : Handle) : (c.setHnd i x).meter = c.meter := rfl

@[simp] theorem Chip.newHandle_recs (c : Chip) (i k : Nat) : (c.newHandle i k).recs = c.recs := rfl
@[simp] theorem Chip.newHandle_vers (c : Chip) (i k : Nat) : (c.newHandle i k).vers = c.vers := rfl
@[simp] theorem Chip.newHandle_freeIdx (c : Chip) (i k : Nat) : (c.newHandle i k).freeIdx = c.freeIdx := rfl
@[simp] theorem Chip.newHandle_sec (c : Chip) (i k : Nat) : (c.newHandle i k).sec = c.sec := rfl
@[simp] theorem Chip.newHandle_fb (c : Chip) (i k : Nat) : (c.newHandle i k).fb = c.fb := rfl
@[simp] theorem Chip.newHandle_boot (c : Chip) (i k : Nat) : (c.newHandle i k).boot = c.boot := rfl
@[simp] theorem Chip.newHandle_store (c : Chip) (i k : Nat) : (c.newHandle i k).store = c.store := rfl
@[simp] theorem Chip.newHandle_zones (c : Chip) (i k : Nat) : (c.newHandle i k).zones = c.zones := rfl
@[simp] theorem Chip.newHandle_time (c : Chip) (i k : Nat) : (c.newHandle i k).time = c.time := rfl
@[simp] theorem Chip.newHandle_act (c : Chip) (i k : Nat) : (c.newHandle i k).act = c.act := rfl
@[simp] theorem Chip.newHandle_sense (c : Chip) (i k : Nat) : (c.newHandle i k).sense = c.sense := rfl
@[simp] theorem Chip.newHandle_meter (c : Chip) (i k : Nat) : (c.newHandle i k).meter = c.meter := rfl

@[simp] theorem Chip.dropHandle_recs (c : Chip) (k : Nat) : (c.dropHandle k).recs = c.recs := rfl
@[simp] theorem Chip.dropHandle_vers (c : Chip) (k : Nat) : (c.dropHandle k).vers = c.vers := rfl
@[simp] theorem Chip.dropHandle_freeIdx (c : Chip) (k : Nat) : (c.dropHandle k).freeIdx = c.freeIdx := rfl
@[simp] theorem Chip.dropHandle_sec (c : Chip) (k : Nat) : (c.dropHandle k).sec = c.sec := rfl
@[simp] theorem Chip.dropHandle_fb (c : Chip) (k : Nat) : (c.dropHandle k).fb = c.fb := rfl
@[simp] theorem Chip.dropHandle_boot (c : Chip) (k : Nat) : (c.dropHandle k).boot = c.boot := rfl
@[simp] theorem Chip.dropHandle_store (c : Chip) (k : Nat) : (c.dropHandle k).store = c.store := rfl
@[simp] theorem Chip.dropHandle_zones (c : Chip) (k : Nat) : (c.dropHandle k).zones = c.zones := rfl
@[simp] theorem Chip.dropHandle_time (c : Chip) (k : Nat) : (c.dropHandle k).time = c.time := rfl
@[simp] theorem Chip.dropHandle_act (c : Chip) (k : Nat) : (c.dropHandle k).act = c.act := rfl
@[simp] theorem Chip.dropHandle_sense (c : Chip) (k : Nat) : (c.dropHandle k).sense = c.sense := rfl
@[simp] theorem Chip.dropHandle_meter (c : Chip) (k : Nat) : (c.dropHandle k).meter = c.meter := rfl

@[simp] theorem Chip.popInbound_recs (c : Chip) (e : Nat) : (c.popInbound e).recs = c.recs := rfl
@[simp] theorem Chip.popInbound_vers (c : Chip) (e : Nat) : (c.popInbound e).vers = c.vers := rfl
@[simp] theorem Chip.popInbound_freeIdx (c : Chip) (e : Nat) : (c.popInbound e).freeIdx = c.freeIdx := rfl
@[simp] theorem Chip.popInbound_sec (c : Chip) (e : Nat) : (c.popInbound e).sec = c.sec := rfl
@[simp] theorem Chip.popInbound_fb (c : Chip) (e : Nat) : (c.popInbound e).fb = c.fb := rfl
@[simp] theorem Chip.popInbound_boot (c : Chip) (e : Nat) : (c.popInbound e).boot = c.boot := rfl
@[simp] theorem Chip.popInbound_store (c : Chip) (e : Nat) : (c.popInbound e).store = c.store := rfl
@[simp] theorem Chip.popInbound_zones (c : Chip) (e : Nat) : (c.popInbound e).zones = c.zones := rfl
@[simp] theorem Chip.popInbound_time (c : Chip) (e : Nat) : (c.popInbound e).time = c.time := rfl
@[simp] theorem Chip.popInbound_act (c : Chip) (e : Nat) : (c.popInbound e).act = c.act := rfl
@[simp] theorem Chip.popInbound_sense (c : Chip) (e : Nat) : (c.popInbound e).sense = c.sense := rfl
@[simp] theorem Chip.popInbound_meter (c : Chip) (e : Nat) : (c.popInbound e).meter = c.meter := rfl

@[simp] theorem Chip.setPlotSecret_recs (c : Chip) (i : Nat) (x : PlotSecret) : (c.setPlotSecret i x).recs = c.recs := rfl
@[simp] theorem Chip.setPlotSecret_vers (c : Chip) (i : Nat) (x : PlotSecret) : (c.setPlotSecret i x).vers = c.vers := rfl
@[simp] theorem Chip.setPlotSecret_freeIdx (c : Chip) (i : Nat) (x : PlotSecret) : (c.setPlotSecret i x).freeIdx = c.freeIdx := rfl
@[simp] theorem Chip.setPlotSecret_host (c : Chip) (i : Nat) (x : PlotSecret) : (c.setPlotSecret i x).host = c.host := rfl
@[simp] theorem Chip.setPlotSecret_fb (c : Chip) (i : Nat) (x : PlotSecret) : (c.setPlotSecret i x).fb = c.fb := rfl
@[simp] theorem Chip.setPlotSecret_boot (c : Chip) (i : Nat) (x : PlotSecret) : (c.setPlotSecret i x).boot = c.boot := rfl
@[simp] theorem Chip.setPlotSecret_store (c : Chip) (i : Nat) (x : PlotSecret) : (c.setPlotSecret i x).store = c.store := rfl
@[simp] theorem Chip.setPlotSecret_zones (c : Chip) (i : Nat) (x : PlotSecret) : (c.setPlotSecret i x).zones = c.zones := rfl
@[simp] theorem Chip.setPlotSecret_time (c : Chip) (i : Nat) (x : PlotSecret) : (c.setPlotSecret i x).time = c.time := rfl
@[simp] theorem Chip.setPlotSecret_act (c : Chip) (i : Nat) (x : PlotSecret) : (c.setPlotSecret i x).act = c.act := rfl
@[simp] theorem Chip.setPlotSecret_sense (c : Chip) (i : Nat) (x : PlotSecret) : (c.setPlotSecret i x).sense = c.sense := rfl
@[simp] theorem Chip.setPlotSecret_meter (c : Chip) (i : Nat) (x : PlotSecret) : (c.setPlotSecret i x).meter = c.meter := rfl

@[simp] theorem Chip.setPtp_recs (c : Chip) (i : Nat) (x : PtpPort) : (c.setPtp i x).recs = c.recs := rfl
@[simp] theorem Chip.setPtp_vers (c : Chip) (i : Nat) (x : PtpPort) : (c.setPtp i x).vers = c.vers := rfl
@[simp] theorem Chip.setPtp_freeIdx (c : Chip) (i : Nat) (x : PtpPort) : (c.setPtp i x).freeIdx = c.freeIdx := rfl
@[simp] theorem Chip.setPtp_host (c : Chip) (i : Nat) (x : PtpPort) : (c.setPtp i x).host = c.host := rfl
@[simp] theorem Chip.setPtp_sec (c : Chip) (i : Nat) (x : PtpPort) : (c.setPtp i x).sec = c.sec := rfl
@[simp] theorem Chip.setPtp_fb (c : Chip) (i : Nat) (x : PtpPort) : (c.setPtp i x).fb = c.fb := rfl
@[simp] theorem Chip.setPtp_boot (c : Chip) (i : Nat) (x : PtpPort) : (c.setPtp i x).boot = c.boot := rfl
@[simp] theorem Chip.setPtp_store (c : Chip) (i : Nat) (x : PtpPort) : (c.setPtp i x).store = c.store := rfl
@[simp] theorem Chip.setPtp_zones (c : Chip) (i : Nat) (x : PtpPort) : (c.setPtp i x).zones = c.zones := rfl
@[simp] theorem Chip.setPtp_act (c : Chip) (i : Nat) (x : PtpPort) : (c.setPtp i x).act = c.act := rfl
@[simp] theorem Chip.setPtp_sense (c : Chip) (i : Nat) (x : PtpPort) : (c.setPtp i x).sense = c.sense := rfl
@[simp] theorem Chip.setPtp_meter (c : Chip) (i : Nat) (x : PtpPort) : (c.setPtp i x).meter = c.meter := rfl

@[simp] theorem Chip.setSlot_recs (c : Chip) (i : Nat) (x : Slot) : (c.setSlot i x).recs = c.recs := rfl
@[simp] theorem Chip.setSlot_vers (c : Chip) (i : Nat) (x : Slot) : (c.setSlot i x).vers = c.vers := rfl
@[simp] theorem Chip.setSlot_freeIdx (c : Chip) (i : Nat) (x : Slot) : (c.setSlot i x).freeIdx = c.freeIdx := rfl
@[simp] theorem Chip.setSlot_host (c : Chip) (i : Nat) (x : Slot) : (c.setSlot i x).host = c.host := rfl
@[simp] theorem Chip.setSlot_sec (c : Chip) (i : Nat) (x : Slot) : (c.setSlot i x).sec = c.sec := rfl
@[simp] theorem Chip.setSlot_fb (c : Chip) (i : Nat) (x : Slot) : (c.setSlot i x).fb = c.fb := rfl
@[simp] theorem Chip.setSlot_store (c : Chip) (i : Nat) (x : Slot) : (c.setSlot i x).store = c.store := rfl
@[simp] theorem Chip.setSlot_zones (c : Chip) (i : Nat) (x : Slot) : (c.setSlot i x).zones = c.zones := rfl
@[simp] theorem Chip.setSlot_time (c : Chip) (i : Nat) (x : Slot) : (c.setSlot i x).time = c.time := rfl
@[simp] theorem Chip.setSlot_act (c : Chip) (i : Nat) (x : Slot) : (c.setSlot i x).act = c.act := rfl
@[simp] theorem Chip.setSlot_sense (c : Chip) (i : Nat) (x : Slot) : (c.setSlot i x).sense = c.sense := rfl
@[simp] theorem Chip.setSlot_meter (c : Chip) (i : Nat) (x : Slot) : (c.setSlot i x).meter = c.meter := rfl

@[simp] theorem Chip.setTgt_recs (c : Chip) (i : Nat) (x : Tgt) : (c.setTgt i x).recs = c.recs := rfl
@[simp] theorem Chip.setTgt_vers (c : Chip) (i : Nat) (x : Tgt) : (c.setTgt i x).vers = c.vers := rfl
@[simp] theorem Chip.setTgt_freeIdx (c : Chip) (i : Nat) (x : Tgt) : (c.setTgt i x).freeIdx = c.freeIdx := rfl
@[simp] theorem Chip.setTgt_host (c : Chip) (i : Nat) (x : Tgt) : (c.setTgt i x).host = c.host := rfl
@[simp] theorem Chip.setTgt_sec (c : Chip) (i : Nat) (x : Tgt) : (c.setTgt i x).sec = c.sec := rfl
@[simp] theorem Chip.setTgt_fb (c : Chip) (i : Nat) (x : Tgt) : (c.setTgt i x).fb = c.fb := rfl
@[simp] theorem Chip.setTgt_boot (c : Chip) (i : Nat) (x : Tgt) : (c.setTgt i x).boot = c.boot := rfl
@[simp] theorem Chip.setTgt_store (c : Chip) (i : Nat) (x : Tgt) : (c.setTgt i x).store = c.store := rfl
@[simp] theorem Chip.setTgt_zones (c : Chip) (i : Nat) (x : Tgt) : (c.setTgt i x).zones = c.zones := rfl
@[simp] theorem Chip.setTgt_time (c : Chip) (i : Nat) (x : Tgt) : (c.setTgt i x).time = c.time := rfl
@[simp] theorem Chip.setTgt_sense (c : Chip) (i : Nat) (x : Tgt) : (c.setTgt i x).sense = c.sense := rfl
@[simp] theorem Chip.setTgt_meter (c : Chip) (i : Nat) (x : Tgt) : (c.setTgt i x).meter = c.meter := rfl

@[simp] theorem Chip.modTgt_recs (c : Chip) (i : Nat) (f : Tgt → Tgt) : (c.modTgt i f).recs = c.recs := rfl
@[simp] theorem Chip.modTgt_vers (c : Chip) (i : Nat) (f : Tgt → Tgt) : (c.modTgt i f).vers = c.vers := rfl
@[simp] theorem Chip.modTgt_freeIdx (c : Chip) (i : Nat) (f : Tgt → Tgt) : (c.modTgt i f).freeIdx = c.freeIdx := rfl
@[simp] theorem Chip.modTgt_host (c : Chip) (i : Nat) (f : Tgt → Tgt) : (c.modTgt i f).host = c.host := rfl
@[simp] theorem Chip.modTgt_sec (c : Chip) (i : Nat) (f : Tgt → Tgt) : (c.modTgt i f).sec = c.sec := rfl
@[simp] theorem Chip.modTgt_fb (c : Chip) (i : Nat) (f : Tgt → Tgt) : (c.modTgt i f).fb = c.fb := rfl
@[simp] theorem Chip.modTgt_boot (c : Chip) (i : Nat) (f : Tgt → Tgt) : (c.modTgt i f).boot = c.boot := rfl
@[simp] theorem Chip.modTgt_store (c : Chip) (i : Nat) (f : Tgt → Tgt) : (c.modTgt i f).store = c.store := rfl
@[simp] theorem Chip.modTgt_zones (c : Chip) (i : Nat) (f : Tgt → Tgt) : (c.modTgt i f).zones = c.zones := rfl
@[simp] theorem Chip.modTgt_time (c : Chip) (i : Nat) (f : Tgt → Tgt) : (c.modTgt i f).time = c.time := rfl
@[simp] theorem Chip.modTgt_sense (c : Chip) (i : Nat) (f : Tgt → Tgt) : (c.modTgt i f).sense = c.sense := rfl
@[simp] theorem Chip.modTgt_meter (c : Chip) (i : Nat) (f : Tgt → Tgt) : (c.modTgt i f).meter = c.meter := rfl

@[simp] theorem Chip.setChan_recs (c : Chip) (i : Nat) (x : Chan) : (c.setChan i x).recs = c.recs := rfl
@[simp] theorem Chip.setChan_vers (c : Chip) (i : Nat) (x : Chan) : (c.setChan i x).vers = c.vers := rfl
@[simp] theorem Chip.setChan_freeIdx (c : Chip) (i : Nat) (x : Chan) : (c.setChan i x).freeIdx = c.freeIdx := rfl
@[simp] theorem Chip.setChan_host (c : Chip) (i : Nat) (x : Chan) : (c.setChan i x).host = c.host := rfl
@[simp] theorem Chip.setChan_sec (c : Chip) (i : Nat) (x : Chan) : (c.setChan i x).sec = c.sec := rfl
@[simp] theorem Chip.setChan_fb (c : Chip) (i : Nat) (x : Chan) : (c.setChan i x).fb = c.fb := rfl
@[simp] theorem Chip.setChan_boot (c : Chip) (i : Nat) (x : Chan) : (c.setChan i x).boot = c.boot := rfl
@[simp] theorem Chip.setChan_store (c : Chip) (i : Nat) (x : Chan) : (c.setChan i x).store = c.store := rfl
@[simp] theorem Chip.setChan_zones (c : Chip) (i : Nat) (x : Chan) : (c.setChan i x).zones = c.zones := rfl
@[simp] theorem Chip.setChan_time (c : Chip) (i : Nat) (x : Chan) : (c.setChan i x).time = c.time := rfl
@[simp] theorem Chip.setChan_sense (c : Chip) (i : Nat) (x : Chan) : (c.setChan i x).sense = c.sense := rfl
@[simp] theorem Chip.setChan_meter (c : Chip) (i : Nat) (x : Chan) : (c.setChan i x).meter = c.meter := rfl

@[simp] theorem Chip.modChan_recs (c : Chip) (i : Nat) (f : Chan → Chan) : (c.modChan i f).recs = c.recs := rfl
@[simp] theorem Chip.modChan_vers (c : Chip) (i : Nat) (f : Chan → Chan) : (c.modChan i f).vers = c.vers := rfl
@[simp] theorem Chip.modChan_freeIdx (c : Chip) (i : Nat) (f : Chan → Chan) : (c.modChan i f).freeIdx = c.freeIdx := rfl
@[simp] theorem Chip.modChan_host (c : Chip) (i : Nat) (f : Chan → Chan) : (c.modChan i f).host = c.host := rfl
@[simp] theorem Chip.modChan_sec (c : Chip) (i : Nat) (f : Chan → Chan) : (c.modChan i f).sec = c.sec := rfl
@[simp] theorem Chip.modChan_fb (c : Chip) (i : Nat) (f : Chan → Chan) : (c.modChan i f).fb = c.fb := rfl
@[simp] theorem Chip.modChan_boot (c : Chip) (i : Nat) (f : Chan → Chan) : (c.modChan i f).boot = c.boot := rfl
@[simp] theorem Chip.modChan_store (c : Chip) (i : Nat) (f : Chan → Chan) : (c.modChan i f).store = c.store := rfl
@[simp] theorem Chip.modChan_zones (c : Chip) (i : Nat) (f : Chan → Chan) : (c.modChan i f).zones = c.zones := rfl
@[simp] theorem Chip.modChan_time (c : Chip) (i : Nat) (f : Chan → Chan) : (c.modChan i f).time = c.time := rfl
@[simp] theorem Chip.modChan_sense (c : Chip) (i : Nat) (f : Chan → Chan) : (c.modChan i f).sense = c.sense := rfl
@[simp] theorem Chip.modChan_meter (c : Chip) (i : Nat) (f : Chan → Chan) : (c.modChan i f).meter = c.meter := rfl

@[simp] theorem Chip.setAxis_recs (c : Chip) (i : Nat) (x : Axis) : (c.setAxis i x).recs = c.recs := rfl
@[simp] theorem Chip.setAxis_vers (c : Chip) (i : Nat) (x : Axis) : (c.setAxis i x).vers = c.vers := rfl
@[simp] theorem Chip.setAxis_freeIdx (c : Chip) (i : Nat) (x : Axis) : (c.setAxis i x).freeIdx = c.freeIdx := rfl
@[simp] theorem Chip.setAxis_host (c : Chip) (i : Nat) (x : Axis) : (c.setAxis i x).host = c.host := rfl
@[simp] theorem Chip.setAxis_sec (c : Chip) (i : Nat) (x : Axis) : (c.setAxis i x).sec = c.sec := rfl
@[simp] theorem Chip.setAxis_fb (c : Chip) (i : Nat) (x : Axis) : (c.setAxis i x).fb = c.fb := rfl
@[simp] theorem Chip.setAxis_boot (c : Chip) (i : Nat) (x : Axis) : (c.setAxis i x).boot = c.boot := rfl
@[simp] theorem Chip.setAxis_store (c : Chip) (i : Nat) (x : Axis) : (c.setAxis i x).store = c.store := rfl
@[simp] theorem Chip.setAxis_zones (c : Chip) (i : Nat) (x : Axis) : (c.setAxis i x).zones = c.zones := rfl
@[simp] theorem Chip.setAxis_time (c : Chip) (i : Nat) (x : Axis) : (c.setAxis i x).time = c.time := rfl
@[simp] theorem Chip.setAxis_sense (c : Chip) (i : Nat) (x : Axis) : (c.setAxis i x).sense = c.sense := rfl
@[simp] theorem Chip.setAxis_meter (c : Chip) (i : Nat) (x : Axis) : (c.setAxis i x).meter = c.meter := rfl

@[simp] theorem Chip.modAxis_recs (c : Chip) (i : Nat) (f : Axis → Axis) : (c.modAxis i f).recs = c.recs := rfl
@[simp] theorem Chip.modAxis_vers (c : Chip) (i : Nat) (f : Axis → Axis) : (c.modAxis i f).vers = c.vers := rfl
@[simp] theorem Chip.modAxis_freeIdx (c : Chip) (i : Nat) (f : Axis → Axis) : (c.modAxis i f).freeIdx = c.freeIdx := rfl
@[simp] theorem Chip.modAxis_host (c : Chip) (i : Nat) (f : Axis → Axis) : (c.modAxis i f).host = c.host := rfl
@[simp] theorem Chip.modAxis_sec (c : Chip) (i : Nat) (f : Axis → Axis) : (c.modAxis i f).sec = c.sec := rfl
@[simp] theorem Chip.modAxis_fb (c : Chip) (i : Nat) (f : Axis → Axis) : (c.modAxis i f).fb = c.fb := rfl
@[simp] theorem Chip.modAxis_boot (c : Chip) (i : Nat) (f : Axis → Axis) : (c.modAxis i f).boot = c.boot := rfl
@[simp] theorem Chip.modAxis_store (c : Chip) (i : Nat) (f : Axis → Axis) : (c.modAxis i f).store = c.store := rfl
@[simp] theorem Chip.modAxis_zones (c : Chip) (i : Nat) (f : Axis → Axis) : (c.modAxis i f).zones = c.zones := rfl
@[simp] theorem Chip.modAxis_time (c : Chip) (i : Nat) (f : Axis → Axis) : (c.modAxis i f).time = c.time := rfl
@[simp] theorem Chip.modAxis_sense (c : Chip) (i : Nat) (f : Axis → Axis) : (c.modAxis i f).sense = c.sense := rfl
@[simp] theorem Chip.modAxis_meter (c : Chip) (i : Nat) (f : Axis → Axis) : (c.modAxis i f).meter = c.meter := rfl

@[simp] theorem Chip.setEnc_recs (c : Chip) (i : Nat) (x : Enc) : (c.setEnc i x).recs = c.recs := rfl
@[simp] theorem Chip.setEnc_vers (c : Chip) (i : Nat) (x : Enc) : (c.setEnc i x).vers = c.vers := rfl
@[simp] theorem Chip.setEnc_freeIdx (c : Chip) (i : Nat) (x : Enc) : (c.setEnc i x).freeIdx = c.freeIdx := rfl
@[simp] theorem Chip.setEnc_host (c : Chip) (i : Nat) (x : Enc) : (c.setEnc i x).host = c.host := rfl
@[simp] theorem Chip.setEnc_sec (c : Chip) (i : Nat) (x : Enc) : (c.setEnc i x).sec = c.sec := rfl
@[simp] theorem Chip.setEnc_fb (c : Chip) (i : Nat) (x : Enc) : (c.setEnc i x).fb = c.fb := rfl
@[simp] theorem Chip.setEnc_boot (c : Chip) (i : Nat) (x : Enc) : (c.setEnc i x).boot = c.boot := rfl
@[simp] theorem Chip.setEnc_store (c : Chip) (i : Nat) (x : Enc) : (c.setEnc i x).store = c.store := rfl
@[simp] theorem Chip.setEnc_zones (c : Chip) (i : Nat) (x : Enc) : (c.setEnc i x).zones = c.zones := rfl
@[simp] theorem Chip.setEnc_time (c : Chip) (i : Nat) (x : Enc) : (c.setEnc i x).time = c.time := rfl
@[simp] theorem Chip.setEnc_sense (c : Chip) (i : Nat) (x : Enc) : (c.setEnc i x).sense = c.sense := rfl
@[simp] theorem Chip.setEnc_meter (c : Chip) (i : Nat) (x : Enc) : (c.setEnc i x).meter = c.meter := rfl

@[simp] theorem Chip.modEnc_recs (c : Chip) (i : Nat) (f : Enc → Enc) : (c.modEnc i f).recs = c.recs := rfl
@[simp] theorem Chip.modEnc_vers (c : Chip) (i : Nat) (f : Enc → Enc) : (c.modEnc i f).vers = c.vers := rfl
@[simp] theorem Chip.modEnc_freeIdx (c : Chip) (i : Nat) (f : Enc → Enc) : (c.modEnc i f).freeIdx = c.freeIdx := rfl
@[simp] theorem Chip.modEnc_host (c : Chip) (i : Nat) (f : Enc → Enc) : (c.modEnc i f).host = c.host := rfl
@[simp] theorem Chip.modEnc_sec (c : Chip) (i : Nat) (f : Enc → Enc) : (c.modEnc i f).sec = c.sec := rfl
@[simp] theorem Chip.modEnc_fb (c : Chip) (i : Nat) (f : Enc → Enc) : (c.modEnc i f).fb = c.fb := rfl
@[simp] theorem Chip.modEnc_boot (c : Chip) (i : Nat) (f : Enc → Enc) : (c.modEnc i f).boot = c.boot := rfl
@[simp] theorem Chip.modEnc_store (c : Chip) (i : Nat) (f : Enc → Enc) : (c.modEnc i f).store = c.store := rfl
@[simp] theorem Chip.modEnc_zones (c : Chip) (i : Nat) (f : Enc → Enc) : (c.modEnc i f).zones = c.zones := rfl
@[simp] theorem Chip.modEnc_time (c : Chip) (i : Nat) (f : Enc → Enc) : (c.modEnc i f).time = c.time := rfl
@[simp] theorem Chip.modEnc_sense (c : Chip) (i : Nat) (f : Enc → Enc) : (c.modEnc i f).sense = c.sense := rfl
@[simp] theorem Chip.modEnc_meter (c : Chip) (i : Nat) (f : Enc → Enc) : (c.modEnc i f).meter = c.meter := rfl

@[simp] theorem Chip.setFport_recs (c : Chip) (i : Nat) (x : FanPort) : (c.setFport i x).recs = c.recs := rfl
@[simp] theorem Chip.setFport_vers (c : Chip) (i : Nat) (x : FanPort) : (c.setFport i x).vers = c.vers := rfl
@[simp] theorem Chip.setFport_freeIdx (c : Chip) (i : Nat) (x : FanPort) : (c.setFport i x).freeIdx = c.freeIdx := rfl
@[simp] theorem Chip.setFport_host (c : Chip) (i : Nat) (x : FanPort) : (c.setFport i x).host = c.host := rfl
@[simp] theorem Chip.setFport_sec (c : Chip) (i : Nat) (x : FanPort) : (c.setFport i x).sec = c.sec := rfl
@[simp] theorem Chip.setFport_fb (c : Chip) (i : Nat) (x : FanPort) : (c.setFport i x).fb = c.fb := rfl
@[simp] theorem Chip.setFport_boot (c : Chip) (i : Nat) (x : FanPort) : (c.setFport i x).boot = c.boot := rfl
@[simp] theorem Chip.setFport_store (c : Chip) (i : Nat) (x : FanPort) : (c.setFport i x).store = c.store := rfl
@[simp] theorem Chip.setFport_zones (c : Chip) (i : Nat) (x : FanPort) : (c.setFport i x).zones = c.zones := rfl
@[simp] theorem Chip.setFport_time (c : Chip) (i : Nat) (x : FanPort) : (c.setFport i x).time = c.time := rfl
@[simp] theorem Chip.setFport_sense (c : Chip) (i : Nat) (x : FanPort) : (c.setFport i x).sense = c.sense := rfl
@[simp] theorem Chip.setFport_meter (c : Chip) (i : Nat) (x : FanPort) : (c.setFport i x).meter = c.meter := rfl

@[simp] theorem Chip.modFport_recs (c : Chip) (i : Nat) (f : FanPort → FanPort) : (c.modFport i f).recs = c.recs := rfl
@[simp] theorem Chip.modFport_vers (c : Chip) (i : Nat) (f : FanPort → FanPort) : (c.modFport i f).vers = c.vers := rfl
@[simp] theorem Chip.modFport_freeIdx (c : Chip) (i : Nat) (f : FanPort → FanPort) : (c.modFport i f).freeIdx = c.freeIdx := rfl
@[simp] theorem Chip.modFport_host (c : Chip) (i : Nat) (f : FanPort → FanPort) : (c.modFport i f).host = c.host := rfl
@[simp] theorem Chip.modFport_sec (c : Chip) (i : Nat) (f : FanPort → FanPort) : (c.modFport i f).sec = c.sec := rfl
@[simp] theorem Chip.modFport_fb (c : Chip) (i : Nat) (f : FanPort → FanPort) : (c.modFport i f).fb = c.fb := rfl
@[simp] theorem Chip.modFport_boot (c : Chip) (i : Nat) (f : FanPort → FanPort) : (c.modFport i f).boot = c.boot := rfl
@[simp] theorem Chip.modFport_store (c : Chip) (i : Nat) (f : FanPort → FanPort) : (c.modFport i f).store = c.store := rfl
@[simp] theorem Chip.modFport_zones (c : Chip) (i : Nat) (f : FanPort → FanPort) : (c.modFport i f).zones = c.zones := rfl
@[simp] theorem Chip.modFport_time (c : Chip) (i : Nat) (f : FanPort → FanPort) : (c.modFport i f).time = c.time := rfl
@[simp] theorem Chip.modFport_sense (c : Chip) (i : Nat) (f : FanPort → FanPort) : (c.modFport i f).sense = c.sense := rfl
@[simp] theorem Chip.modFport_meter (c : Chip) (i : Nat) (f : FanPort → FanPort) : (c.modFport i f).meter = c.meter := rfl

@[simp] theorem Chip.setFgroup_recs (c : Chip) (i : Nat) (x : FanGroup) : (c.setFgroup i x).recs = c.recs := rfl
@[simp] theorem Chip.setFgroup_vers (c : Chip) (i : Nat) (x : FanGroup) : (c.setFgroup i x).vers = c.vers := rfl
@[simp] theorem Chip.setFgroup_freeIdx (c : Chip) (i : Nat) (x : FanGroup) : (c.setFgroup i x).freeIdx = c.freeIdx := rfl
@[simp] theorem Chip.setFgroup_host (c : Chip) (i : Nat) (x : FanGroup) : (c.setFgroup i x).host = c.host := rfl
@[simp] theorem Chip.setFgroup_sec (c : Chip) (i : Nat) (x : FanGroup) : (c.setFgroup i x).sec = c.sec := rfl
@[simp] theorem Chip.setFgroup_fb (c : Chip) (i : Nat) (x : FanGroup) : (c.setFgroup i x).fb = c.fb := rfl
@[simp] theorem Chip.setFgroup_boot (c : Chip) (i : Nat) (x : FanGroup) : (c.setFgroup i x).boot = c.boot := rfl
@[simp] theorem Chip.setFgroup_store (c : Chip) (i : Nat) (x : FanGroup) : (c.setFgroup i x).store = c.store := rfl
@[simp] theorem Chip.setFgroup_zones (c : Chip) (i : Nat) (x : FanGroup) : (c.setFgroup i x).zones = c.zones := rfl
@[simp] theorem Chip.setFgroup_time (c : Chip) (i : Nat) (x : FanGroup) : (c.setFgroup i x).time = c.time := rfl
@[simp] theorem Chip.setFgroup_sense (c : Chip) (i : Nat) (x : FanGroup) : (c.setFgroup i x).sense = c.sense := rfl
@[simp] theorem Chip.setFgroup_meter (c : Chip) (i : Nat) (x : FanGroup) : (c.setFgroup i x).meter = c.meter := rfl

@[simp] theorem Chip.modFgroup_recs (c : Chip) (i : Nat) (f : FanGroup → FanGroup) : (c.modFgroup i f).recs = c.recs := rfl
@[simp] theorem Chip.modFgroup_vers (c : Chip) (i : Nat) (f : FanGroup → FanGroup) : (c.modFgroup i f).vers = c.vers := rfl
@[simp] theorem Chip.modFgroup_freeIdx (c : Chip) (i : Nat) (f : FanGroup → FanGroup) : (c.modFgroup i f).freeIdx = c.freeIdx := rfl
@[simp] theorem Chip.modFgroup_host (c : Chip) (i : Nat) (f : FanGroup → FanGroup) : (c.modFgroup i f).host = c.host := rfl
@[simp] theorem Chip.modFgroup_sec (c : Chip) (i : Nat) (f : FanGroup → FanGroup) : (c.modFgroup i f).sec = c.sec := rfl
@[simp] theorem Chip.modFgroup_fb (c : Chip) (i : Nat) (f : FanGroup → FanGroup) : (c.modFgroup i f).fb = c.fb := rfl
@[simp] theorem Chip.modFgroup_boot (c : Chip) (i : Nat) (f : FanGroup → FanGroup) : (c.modFgroup i f).boot = c.boot := rfl
@[simp] theorem Chip.modFgroup_store (c : Chip) (i : Nat) (f : FanGroup → FanGroup) : (c.modFgroup i f).store = c.store := rfl
@[simp] theorem Chip.modFgroup_zones (c : Chip) (i : Nat) (f : FanGroup → FanGroup) : (c.modFgroup i f).zones = c.zones := rfl
@[simp] theorem Chip.modFgroup_time (c : Chip) (i : Nat) (f : FanGroup → FanGroup) : (c.modFgroup i f).time = c.time := rfl
@[simp] theorem Chip.modFgroup_sense (c : Chip) (i : Nat) (f : FanGroup → FanGroup) : (c.modFgroup i f).sense = c.sense := rfl
@[simp] theorem Chip.modFgroup_meter (c : Chip) (i : Nat) (f : FanGroup → FanGroup) : (c.modFgroup i f).meter = c.meter := rfl

@[simp] theorem Chip.setArr_recs (c : Chip) (i : Nat) (x : Arr) : (c.setArr i x).recs = c.recs := rfl
@[simp] theorem Chip.setArr_vers (c : Chip) (i : Nat) (x : Arr) : (c.setArr i x).vers = c.vers := rfl
@[simp] theorem Chip.setArr_freeIdx (c : Chip) (i : Nat) (x : Arr) : (c.setArr i x).freeIdx = c.freeIdx := rfl
@[simp] theorem Chip.setArr_host (c : Chip) (i : Nat) (x : Arr) : (c.setArr i x).host = c.host := rfl
@[simp] theorem Chip.setArr_sec (c : Chip) (i : Nat) (x : Arr) : (c.setArr i x).sec = c.sec := rfl
@[simp] theorem Chip.setArr_fb (c : Chip) (i : Nat) (x : Arr) : (c.setArr i x).fb = c.fb := rfl
@[simp] theorem Chip.setArr_boot (c : Chip) (i : Nat) (x : Arr) : (c.setArr i x).boot = c.boot := rfl
@[simp] theorem Chip.setArr_store (c : Chip) (i : Nat) (x : Arr) : (c.setArr i x).store = c.store := rfl
@[simp] theorem Chip.setArr_zones (c : Chip) (i : Nat) (x : Arr) : (c.setArr i x).zones = c.zones := rfl
@[simp] theorem Chip.setArr_time (c : Chip) (i : Nat) (x : Arr) : (c.setArr i x).time = c.time := rfl
@[simp] theorem Chip.setArr_act (c : Chip) (i : Nat) (x : Arr) : (c.setArr i x).act = c.act := rfl
@[simp] theorem Chip.setArr_meter (c : Chip) (i : Nat) (x : Arr) : (c.setArr i x).meter = c.meter := rfl

@[simp] theorem Chip.modArr_recs (c : Chip) (i : Nat) (f : Arr → Arr) : (c.modArr i f).recs = c.recs := rfl
@[simp] theorem Chip.modArr_vers (c : Chip) (i : Nat) (f : Arr → Arr) : (c.modArr i f).vers = c.vers := rfl
@[simp] theorem Chip.modArr_freeIdx (c : Chip) (i : Nat) (f : Arr → Arr) : (c.modArr i f).freeIdx = c.freeIdx := rfl
@[simp] theorem Chip.modArr_host (c : Chip) (i : Nat) (f : Arr → Arr) : (c.modArr i f).host = c.host := rfl
@[simp] theorem Chip.modArr_sec (c : Chip) (i : Nat) (f : Arr → Arr) : (c.modArr i f).sec = c.sec := rfl
@[simp] theorem Chip.modArr_fb (c : Chip) (i : Nat) (f : Arr → Arr) : (c.modArr i f).fb = c.fb := rfl
@[simp] theorem Chip.modArr_boot (c : Chip) (i : Nat) (f : Arr → Arr) : (c.modArr i f).boot = c.boot := rfl
@[simp] theorem Chip.modArr_store (c : Chip) (i : Nat) (f : Arr → Arr) : (c.modArr i f).store = c.store := rfl
@[simp] theorem Chip.modArr_zones (c : Chip) (i : Nat) (f : Arr → Arr) : (c.modArr i f).zones = c.zones := rfl
@[simp] theorem Chip.modArr_time (c : Chip) (i : Nat) (f : Arr → Arr) : (c.modArr i f).time = c.time := rfl
@[simp] theorem Chip.modArr_act (c : Chip) (i : Nat) (f : Arr → Arr) : (c.modArr i f).act = c.act := rfl
@[simp] theorem Chip.modArr_meter (c : Chip) (i : Nat) (f : Arr → Arr) : (c.modArr i f).meter = c.meter := rfl

@[simp] theorem Chip.setMreg_recs (c : Chip) (i : Nat) (x : MReg) : (c.setMreg i x).recs = c.recs := rfl
@[simp] theorem Chip.setMreg_vers (c : Chip) (i : Nat) (x : MReg) : (c.setMreg i x).vers = c.vers := rfl
@[simp] theorem Chip.setMreg_freeIdx (c : Chip) (i : Nat) (x : MReg) : (c.setMreg i x).freeIdx = c.freeIdx := rfl
@[simp] theorem Chip.setMreg_host (c : Chip) (i : Nat) (x : MReg) : (c.setMreg i x).host = c.host := rfl
@[simp] theorem Chip.setMreg_sec (c : Chip) (i : Nat) (x : MReg) : (c.setMreg i x).sec = c.sec := rfl
@[simp] theorem Chip.setMreg_fb (c : Chip) (i : Nat) (x : MReg) : (c.setMreg i x).fb = c.fb := rfl
@[simp] theorem Chip.setMreg_boot (c : Chip) (i : Nat) (x : MReg) : (c.setMreg i x).boot = c.boot := rfl
@[simp] theorem Chip.setMreg_store (c : Chip) (i : Nat) (x : MReg) : (c.setMreg i x).store = c.store := rfl
@[simp] theorem Chip.setMreg_zones (c : Chip) (i : Nat) (x : MReg) : (c.setMreg i x).zones = c.zones := rfl
@[simp] theorem Chip.setMreg_time (c : Chip) (i : Nat) (x : MReg) : (c.setMreg i x).time = c.time := rfl
@[simp] theorem Chip.setMreg_act (c : Chip) (i : Nat) (x : MReg) : (c.setMreg i x).act = c.act := rfl
@[simp] theorem Chip.setMreg_sense (c : Chip) (i : Nat) (x : MReg) : (c.setMreg i x).sense = c.sense := rfl

@[simp] theorem Chip.modMreg_recs (c : Chip) (i : Nat) (f : MReg → MReg) : (c.modMreg i f).recs = c.recs := rfl
@[simp] theorem Chip.modMreg_vers (c : Chip) (i : Nat) (f : MReg → MReg) : (c.modMreg i f).vers = c.vers := rfl
@[simp] theorem Chip.modMreg_freeIdx (c : Chip) (i : Nat) (f : MReg → MReg) : (c.modMreg i f).freeIdx = c.freeIdx := rfl
@[simp] theorem Chip.modMreg_host (c : Chip) (i : Nat) (f : MReg → MReg) : (c.modMreg i f).host = c.host := rfl
@[simp] theorem Chip.modMreg_sec (c : Chip) (i : Nat) (f : MReg → MReg) : (c.modMreg i f).sec = c.sec := rfl
@[simp] theorem Chip.modMreg_fb (c : Chip) (i : Nat) (f : MReg → MReg) : (c.modMreg i f).fb = c.fb := rfl
@[simp] theorem Chip.modMreg_boot (c : Chip) (i : Nat) (f : MReg → MReg) : (c.modMreg i f).boot = c.boot := rfl
@[simp] theorem Chip.modMreg_store (c : Chip) (i : Nat) (f : MReg → MReg) : (c.modMreg i f).store = c.store := rfl
@[simp] theorem Chip.modMreg_zones (c : Chip) (i : Nat) (f : MReg → MReg) : (c.modMreg i f).zones = c.zones := rfl
@[simp] theorem Chip.modMreg_time (c : Chip) (i : Nat) (f : MReg → MReg) : (c.modMreg i f).time = c.time := rfl
@[simp] theorem Chip.modMreg_act (c : Chip) (i : Nat) (f : MReg → MReg) : (c.modMreg i f).act = c.act := rfl
@[simp] theorem Chip.modMreg_sense (c : Chip) (i : Nat) (f : MReg → MReg) : (c.modMreg i f).sense = c.sense := rfl

@[simp] theorem Chip.setZrt_recs (c : Chip) (i : Nat) (x : ZoneRt) : (c.setZrt i x).recs = c.recs := rfl
@[simp] theorem Chip.setZrt_vers (c : Chip) (i : Nat) (x : ZoneRt) : (c.setZrt i x).vers = c.vers := rfl
@[simp] theorem Chip.setZrt_freeIdx (c : Chip) (i : Nat) (x : ZoneRt) : (c.setZrt i x).freeIdx = c.freeIdx := rfl
@[simp] theorem Chip.setZrt_host (c : Chip) (i : Nat) (x : ZoneRt) : (c.setZrt i x).host = c.host := rfl
@[simp] theorem Chip.setZrt_sec (c : Chip) (i : Nat) (x : ZoneRt) : (c.setZrt i x).sec = c.sec := rfl
@[simp] theorem Chip.setZrt_fb (c : Chip) (i : Nat) (x : ZoneRt) : (c.setZrt i x).fb = c.fb := rfl
@[simp] theorem Chip.setZrt_boot (c : Chip) (i : Nat) (x : ZoneRt) : (c.setZrt i x).boot = c.boot := rfl
@[simp] theorem Chip.setZrt_store (c : Chip) (i : Nat) (x : ZoneRt) : (c.setZrt i x).store = c.store := rfl
@[simp] theorem Chip.setZrt_time (c : Chip) (i : Nat) (x : ZoneRt) : (c.setZrt i x).time = c.time := rfl
@[simp] theorem Chip.setZrt_act (c : Chip) (i : Nat) (x : ZoneRt) : (c.setZrt i x).act = c.act := rfl
@[simp] theorem Chip.setZrt_sense (c : Chip) (i : Nat) (x : ZoneRt) : (c.setZrt i x).sense = c.sense := rfl
@[simp] theorem Chip.setZrt_meter (c : Chip) (i : Nat) (x : ZoneRt) : (c.setZrt i x).meter = c.meter := rfl

@[simp] theorem Chip.modZrt_recs (c : Chip) (i : Nat) (f : ZoneRt → ZoneRt) : (c.modZrt i f).recs = c.recs := rfl
@[simp] theorem Chip.modZrt_vers (c : Chip) (i : Nat) (f : ZoneRt → ZoneRt) : (c.modZrt i f).vers = c.vers := rfl
@[simp] theorem Chip.modZrt_freeIdx (c : Chip) (i : Nat) (f : ZoneRt → ZoneRt) : (c.modZrt i f).freeIdx = c.freeIdx := rfl
@[simp] theorem Chip.modZrt_host (c : Chip) (i : Nat) (f : ZoneRt → ZoneRt) : (c.modZrt i f).host = c.host := rfl
@[simp] theorem Chip.modZrt_sec (c : Chip) (i : Nat) (f : ZoneRt → ZoneRt) : (c.modZrt i f).sec = c.sec := rfl
@[simp] theorem Chip.modZrt_fb (c : Chip) (i : Nat) (f : ZoneRt → ZoneRt) : (c.modZrt i f).fb = c.fb := rfl
@[simp] theorem Chip.modZrt_boot (c : Chip) (i : Nat) (f : ZoneRt → ZoneRt) : (c.modZrt i f).boot = c.boot := rfl
@[simp] theorem Chip.modZrt_store (c : Chip) (i : Nat) (f : ZoneRt → ZoneRt) : (c.modZrt i f).store = c.store := rfl
@[simp] theorem Chip.modZrt_time (c : Chip) (i : Nat) (f : ZoneRt → ZoneRt) : (c.modZrt i f).time = c.time := rfl
@[simp] theorem Chip.modZrt_act (c : Chip) (i : Nat) (f : ZoneRt → ZoneRt) : (c.modZrt i f).act = c.act := rfl
@[simp] theorem Chip.modZrt_sense (c : Chip) (i : Nat) (f : ZoneRt → ZoneRt) : (c.modZrt i f).sense = c.sense := rfl
@[simp] theorem Chip.modZrt_meter (c : Chip) (i : Nat) (f : ZoneRt → ZoneRt) : (c.modZrt i f).meter = c.meter := rfl

@[simp] theorem Chip.setTer_recs (c : Chip) (i : Nat) (x : Terrace) : (c.setTer i x).recs = c.recs := rfl
@[simp] theorem Chip.setTer_vers (c : Chip) (i : Nat) (x : Terrace) : (c.setTer i x).vers = c.vers := rfl
@[simp] theorem Chip.setTer_freeIdx (c : Chip) (i : Nat) (x : Terrace) : (c.setTer i x).freeIdx = c.freeIdx := rfl
@[simp] theorem Chip.setTer_host (c : Chip) (i : Nat) (x : Terrace) : (c.setTer i x).host = c.host := rfl
@[simp] theorem Chip.setTer_sec (c : Chip) (i : Nat) (x : Terrace) : (c.setTer i x).sec = c.sec := rfl
@[simp] theorem Chip.setTer_fb (c : Chip) (i : Nat) (x : Terrace) : (c.setTer i x).fb = c.fb := rfl
@[simp] theorem Chip.setTer_boot (c : Chip) (i : Nat) (x : Terrace) : (c.setTer i x).boot = c.boot := rfl
@[simp] theorem Chip.setTer_store (c : Chip) (i : Nat) (x : Terrace) : (c.setTer i x).store = c.store := rfl
@[simp] theorem Chip.setTer_time (c : Chip) (i : Nat) (x : Terrace) : (c.setTer i x).time = c.time := rfl
@[simp] theorem Chip.setTer_act (c : Chip) (i : Nat) (x : Terrace) : (c.setTer i x).act = c.act := rfl
@[simp] theorem Chip.setTer_sense (c : Chip) (i : Nat) (x : Terrace) : (c.setTer i x).sense = c.sense := rfl
@[simp] theorem Chip.setTer_meter (c : Chip) (i : Nat) (x : Terrace) : (c.setTer i x).meter = c.meter := rfl

@[simp] theorem Chip.modTer_recs (c : Chip) (i : Nat) (f : Terrace → Terrace) : (c.modTer i f).recs = c.recs := rfl
@[simp] theorem Chip.modTer_vers (c : Chip) (i : Nat) (f : Terrace → Terrace) : (c.modTer i f).vers = c.vers := rfl
@[simp] theorem Chip.modTer_freeIdx (c : Chip) (i : Nat) (f : Terrace → Terrace) : (c.modTer i f).freeIdx = c.freeIdx := rfl
@[simp] theorem Chip.modTer_host (c : Chip) (i : Nat) (f : Terrace → Terrace) : (c.modTer i f).host = c.host := rfl
@[simp] theorem Chip.modTer_sec (c : Chip) (i : Nat) (f : Terrace → Terrace) : (c.modTer i f).sec = c.sec := rfl
@[simp] theorem Chip.modTer_fb (c : Chip) (i : Nat) (f : Terrace → Terrace) : (c.modTer i f).fb = c.fb := rfl
@[simp] theorem Chip.modTer_boot (c : Chip) (i : Nat) (f : Terrace → Terrace) : (c.modTer i f).boot = c.boot := rfl
@[simp] theorem Chip.modTer_store (c : Chip) (i : Nat) (f : Terrace → Terrace) : (c.modTer i f).store = c.store := rfl
@[simp] theorem Chip.modTer_time (c : Chip) (i : Nat) (f : Terrace → Terrace) : (c.modTer i f).time = c.time := rfl
@[simp] theorem Chip.modTer_act (c : Chip) (i : Nat) (f : Terrace → Terrace) : (c.modTer i f).act = c.act := rfl
@[simp] theorem Chip.modTer_sense (c : Chip) (i : Nat) (f : Terrace → Terrace) : (c.modTer i f).sense = c.sense := rfl
@[simp] theorem Chip.modTer_meter (c : Chip) (i : Nat) (f : Terrace → Terrace) : (c.modTer i f).meter = c.meter := rfl

@[simp] theorem Chip.setPerg_recs (c : Chip) (i : Nat) (x : Pergola) : (c.setPerg i x).recs = c.recs := rfl
@[simp] theorem Chip.setPerg_vers (c : Chip) (i : Nat) (x : Pergola) : (c.setPerg i x).vers = c.vers := rfl
@[simp] theorem Chip.setPerg_freeIdx (c : Chip) (i : Nat) (x : Pergola) : (c.setPerg i x).freeIdx = c.freeIdx := rfl
@[simp] theorem Chip.setPerg_host (c : Chip) (i : Nat) (x : Pergola) : (c.setPerg i x).host = c.host := rfl
@[simp] theorem Chip.setPerg_sec (c : Chip) (i : Nat) (x : Pergola) : (c.setPerg i x).sec = c.sec := rfl
@[simp] theorem Chip.setPerg_fb (c : Chip) (i : Nat) (x : Pergola) : (c.setPerg i x).fb = c.fb := rfl
@[simp] theorem Chip.setPerg_boot (c : Chip) (i : Nat) (x : Pergola) : (c.setPerg i x).boot = c.boot := rfl
@[simp] theorem Chip.setPerg_store (c : Chip) (i : Nat) (x : Pergola) : (c.setPerg i x).store = c.store := rfl
@[simp] theorem Chip.setPerg_time (c : Chip) (i : Nat) (x : Pergola) : (c.setPerg i x).time = c.time := rfl
@[simp] theorem Chip.setPerg_act (c : Chip) (i : Nat) (x : Pergola) : (c.setPerg i x).act = c.act := rfl
@[simp] theorem Chip.setPerg_sense (c : Chip) (i : Nat) (x : Pergola) : (c.setPerg i x).sense = c.sense := rfl
@[simp] theorem Chip.setPerg_meter (c : Chip) (i : Nat) (x : Pergola) : (c.setPerg i x).meter = c.meter := rfl

@[simp] theorem Chip.modPerg_recs (c : Chip) (i : Nat) (f : Pergola → Pergola) : (c.modPerg i f).recs = c.recs := rfl
@[simp] theorem Chip.modPerg_vers (c : Chip) (i : Nat) (f : Pergola → Pergola) : (c.modPerg i f).vers = c.vers := rfl
@[simp] theorem Chip.modPerg_freeIdx (c : Chip) (i : Nat) (f : Pergola → Pergola) : (c.modPerg i f).freeIdx = c.freeIdx := rfl
@[simp] theorem Chip.modPerg_host (c : Chip) (i : Nat) (f : Pergola → Pergola) : (c.modPerg i f).host = c.host := rfl
@[simp] theorem Chip.modPerg_sec (c : Chip) (i : Nat) (f : Pergola → Pergola) : (c.modPerg i f).sec = c.sec := rfl
@[simp] theorem Chip.modPerg_fb (c : Chip) (i : Nat) (f : Pergola → Pergola) : (c.modPerg i f).fb = c.fb := rfl
@[simp] theorem Chip.modPerg_boot (c : Chip) (i : Nat) (f : Pergola → Pergola) : (c.modPerg i f).boot = c.boot := rfl
@[simp] theorem Chip.modPerg_store (c : Chip) (i : Nat) (f : Pergola → Pergola) : (c.modPerg i f).store = c.store := rfl
@[simp] theorem Chip.modPerg_time (c : Chip) (i : Nat) (f : Pergola → Pergola) : (c.modPerg i f).time = c.time := rfl
@[simp] theorem Chip.modPerg_act (c : Chip) (i : Nat) (f : Pergola → Pergola) : (c.modPerg i f).act = c.act := rfl
@[simp] theorem Chip.modPerg_sense (c : Chip) (i : Nat) (f : Pergola → Pergola) : (c.modPerg i f).sense = c.sense := rfl
@[simp] theorem Chip.modPerg_meter (c : Chip) (i : Nat) (f : Pergola → Pergola) : (c.modPerg i f).meter = c.meter := rfl

@[simp] theorem Chip.setLane_recs (c : Chip) (i : Nat) (x : Lane) : (c.setLane i x).recs = c.recs := rfl
@[simp] theorem Chip.setLane_vers (c : Chip) (i : Nat) (x : Lane) : (c.setLane i x).vers = c.vers := rfl
@[simp] theorem Chip.setLane_freeIdx (c : Chip) (i : Nat) (x : Lane) : (c.setLane i x).freeIdx = c.freeIdx := rfl
@[simp] theorem Chip.setLane_host (c : Chip) (i : Nat) (x : Lane) : (c.setLane i x).host = c.host := rfl
@[simp] theorem Chip.setLane_sec (c : Chip) (i : Nat) (x : Lane) : (c.setLane i x).sec = c.sec := rfl
@[simp] theorem Chip.setLane_fb (c : Chip) (i : Nat) (x : Lane) : (c.setLane i x).fb = c.fb := rfl
@[simp] theorem Chip.setLane_boot (c : Chip) (i : Nat) (x : Lane) : (c.setLane i x).boot = c.boot := rfl
@[simp] theorem Chip.setLane_store (c : Chip) (i : Nat) (x : Lane) : (c.setLane i x).store = c.store := rfl
@[simp] theorem Chip.setLane_time (c : Chip) (i : Nat) (x : Lane) : (c.setLane i x).time = c.time := rfl
@[simp] theorem Chip.setLane_act (c : Chip) (i : Nat) (x : Lane) : (c.setLane i x).act = c.act := rfl
@[simp] theorem Chip.setLane_sense (c : Chip) (i : Nat) (x : Lane) : (c.setLane i x).sense = c.sense := rfl
@[simp] theorem Chip.setLane_meter (c : Chip) (i : Nat) (x : Lane) : (c.setLane i x).meter = c.meter := rfl

@[simp] theorem Chip.modLane_recs (c : Chip) (i : Nat) (f : Lane → Lane) : (c.modLane i f).recs = c.recs := rfl
@[simp] theorem Chip.modLane_vers (c : Chip) (i : Nat) (f : Lane → Lane) : (c.modLane i f).vers = c.vers := rfl
@[simp] theorem Chip.modLane_freeIdx (c : Chip) (i : Nat) (f : Lane → Lane) : (c.modLane i f).freeIdx = c.freeIdx := rfl
@[simp] theorem Chip.modLane_host (c : Chip) (i : Nat) (f : Lane → Lane) : (c.modLane i f).host = c.host := rfl
@[simp] theorem Chip.modLane_sec (c : Chip) (i : Nat) (f : Lane → Lane) : (c.modLane i f).sec = c.sec := rfl
@[simp] theorem Chip.modLane_fb (c : Chip) (i : Nat) (f : Lane → Lane) : (c.modLane i f).fb = c.fb := rfl
@[simp] theorem Chip.modLane_boot (c : Chip) (i : Nat) (f : Lane → Lane) : (c.modLane i f).boot = c.boot := rfl
@[simp] theorem Chip.modLane_store (c : Chip) (i : Nat) (f : Lane → Lane) : (c.modLane i f).store = c.store := rfl
@[simp] theorem Chip.modLane_time (c : Chip) (i : Nat) (f : Lane → Lane) : (c.modLane i f).time = c.time := rfl
@[simp] theorem Chip.modLane_act (c : Chip) (i : Nat) (f : Lane → Lane) : (c.modLane i f).act = c.act := rfl
@[simp] theorem Chip.modLane_sense (c : Chip) (i : Nat) (f : Lane → Lane) : (c.modLane i f).sense = c.sense := rfl
@[simp] theorem Chip.modLane_meter (c : Chip) (i : Nat) (f : Lane → Lane) : (c.modLane i f).meter = c.meter := rfl

@[simp] theorem Chip.setSmeter_recs (c : Chip) (i : Nat) (x : Meter) : (c.setSmeter i x).recs = c.recs := rfl
@[simp] theorem Chip.setSmeter_vers (c : Chip) (i : Nat) (x : Meter) : (c.setSmeter i x).vers = c.vers := rfl
@[simp] theorem Chip.setSmeter_freeIdx (c : Chip) (i : Nat) (x : Meter) : (c.setSmeter i x).freeIdx = c.freeIdx := rfl
@[simp] theorem Chip.setSmeter_host (c : Chip) (i : Nat) (x : Meter) : (c.setSmeter i x).host = c.host := rfl
@[simp] theorem Chip.setSmeter_sec (c : Chip) (i : Nat) (x : Meter) : (c.setSmeter i x).sec = c.sec := rfl
@[simp] theorem Chip.setSmeter_fb (c : Chip) (i : Nat) (x : Meter) : (c.setSmeter i x).fb = c.fb := rfl
@[simp] theorem Chip.setSmeter_boot (c : Chip) (i : Nat) (x : Meter) : (c.setSmeter i x).boot = c.boot := rfl
@[simp] theorem Chip.setSmeter_store (c : Chip) (i : Nat) (x : Meter) : (c.setSmeter i x).store = c.store := rfl
@[simp] theorem Chip.setSmeter_zones (c : Chip) (i : Nat) (x : Meter) : (c.setSmeter i x).zones = c.zones := rfl
@[simp] theorem Chip.setSmeter_time (c : Chip) (i : Nat) (x : Meter) : (c.setSmeter i x).time = c.time := rfl
@[simp] theorem Chip.setSmeter_act (c : Chip) (i : Nat) (x : Meter) : (c.setSmeter i x).act = c.act := rfl
@[simp] theorem Chip.setSmeter_meter (c : Chip) (i : Nat) (x : Meter) : (c.setSmeter i x).meter = c.meter := rfl

@[simp] theorem Chip.setAin_recs (c : Chip) (i : Nat) (x : Ain) : (c.setAin i x).recs = c.recs := rfl
@[simp] theorem Chip.setAin_vers (c : Chip) (i : Nat) (x : Ain) : (c.setAin i x).vers = c.vers := rfl
@[simp] theorem Chip.setAin_freeIdx (c : Chip) (i : Nat) (x : Ain) : (c.setAin i x).freeIdx = c.freeIdx := rfl
@[simp] theorem Chip.setAin_host (c : Chip) (i : Nat) (x : Ain) : (c.setAin i x).host = c.host := rfl
@[simp] theorem Chip.setAin_sec (c : Chip) (i : Nat) (x : Ain) : (c.setAin i x).sec = c.sec := rfl
@[simp] theorem Chip.setAin_fb (c : Chip) (i : Nat) (x : Ain) : (c.setAin i x).fb = c.fb := rfl
@[simp] theorem Chip.setAin_boot (c : Chip) (i : Nat) (x : Ain) : (c.setAin i x).boot = c.boot := rfl
@[simp] theorem Chip.setAin_store (c : Chip) (i : Nat) (x : Ain) : (c.setAin i x).store = c.store := rfl
@[simp] theorem Chip.setAin_zones (c : Chip) (i : Nat) (x : Ain) : (c.setAin i x).zones = c.zones := rfl
@[simp] theorem Chip.setAin_time (c : Chip) (i : Nat) (x : Ain) : (c.setAin i x).time = c.time := rfl
@[simp] theorem Chip.setAin_act (c : Chip) (i : Nat) (x : Ain) : (c.setAin i x).act = c.act := rfl
@[simp] theorem Chip.setAin_meter (c : Chip) (i : Nat) (x : Ain) : (c.setAin i x).meter = c.meter := rfl

@[simp] theorem Chip.setPrs_recs (c : Chip) (i : Nat) (x : Prs) : (c.setPrs i x).recs = c.recs := rfl
@[simp] theorem Chip.setPrs_vers (c : Chip) (i : Nat) (x : Prs) : (c.setPrs i x).vers = c.vers := rfl
@[simp] theorem Chip.setPrs_freeIdx (c : Chip) (i : Nat) (x : Prs) : (c.setPrs i x).freeIdx = c.freeIdx := rfl
@[simp] theorem Chip.setPrs_host (c : Chip) (i : Nat) (x : Prs) : (c.setPrs i x).host = c.host := rfl
@[simp] theorem Chip.setPrs_sec (c : Chip) (i : Nat) (x : Prs) : (c.setPrs i x).sec = c.sec := rfl
@[simp] theorem Chip.setPrs_fb (c : Chip) (i : Nat) (x : Prs) : (c.setPrs i x).fb = c.fb := rfl
@[simp] theorem Chip.setPrs_boot (c : Chip) (i : Nat) (x : Prs) : (c.setPrs i x).boot = c.boot := rfl
@[simp] theorem Chip.setPrs_store (c : Chip) (i : Nat) (x : Prs) : (c.setPrs i x).store = c.store := rfl
@[simp] theorem Chip.setPrs_zones (c : Chip) (i : Nat) (x : Prs) : (c.setPrs i x).zones = c.zones := rfl
@[simp] theorem Chip.setPrs_time (c : Chip) (i : Nat) (x : Prs) : (c.setPrs i x).time = c.time := rfl
@[simp] theorem Chip.setPrs_act (c : Chip) (i : Nat) (x : Prs) : (c.setPrs i x).act = c.act := rfl
@[simp] theorem Chip.setPrs_meter (c : Chip) (i : Nat) (x : Prs) : (c.setPrs i x).meter = c.meter := rfl

end Sys2Proof.Machine
end

