-- ==== Sys2Proof/Laws/Records.lean ====
section
/-!
SUPPORT. The record images: an assignment changes the one record it names, in the fields it names, and nothing else of the part.
-/

namespace Sys2Proof.Machine

/-! ## Keys -/

theorem recKey_ne_of_id {r q : RecDesc} (h : r.id % 0x10000 ≠ q.id % 0x10000) (i j : Nat) : recKey r i ≠ recKey q j := by
  unfold recKey; omega

theorem recKey_ne_of_inst (r : RecDesc) {i j : Nat} (h : i ≠ j) : recKey r i ≠ recKey r j := by
  unfold recKey; omega

/-! ## One assignment -/

@[simp] theorem Chip.img_putImg_self (c : Chip) (r : RecDesc) (i v : Nat) : (c.putImg r i v).img r i = v := by
  simp [Chip.img, Chip.putImg]

theorem Chip.img_putImg_ne (c : Chip) (r q : RecDesc) (i j v : Nat) (h : recKey r i ≠ recKey q j) :
    (c.putImg r i v).img q j = c.img q j := by
  simp only [Chip.img, Chip.putImg]
  exact Tab.get_set_ne _ _ _ _ h

@[simp] theorem Chip.img_setImg_self (c : Chip) (r : RecDesc) (i v : Nat) : (c.setImg r i v).img r i = v := by
  unfold Chip.setImg
  split
  · exact Eq.symm ‹_›
  · simp

theorem Chip.img_setImg_ne (c : Chip) (r q : RecDesc) (i j v : Nat) (h : recKey r i ≠ recKey q j) :
    (c.setImg r i v).img q j = c.img q j := by
  unfold Chip.setImg
  split
  · rfl
  · exact Chip.img_putImg_ne c r q i j v h

@[simp] theorem Chip.img_upd_self (c : Chip) (r : RecDesc) (i : Nat) (fs : List (Fld × Nat)) :
    (c.upd r i fs).img r i = setFields fs (c.img r i) := by simp [Chip.upd]

theorem Chip.img_upd_ne (c : Chip) (r q : RecDesc) (i j : Nat) (fs : List (Fld × Nat)) (h : recKey r i ≠ recKey q j) :
    (c.upd r i fs).img q j = c.img q j := Chip.img_setImg_ne c r q i j _ h

theorem Chip.version_setImg_ne (c : Chip) (r q : RecDesc) (i j new : Nat) (h : recKey r i ≠ recKey q j) :
    (c.setImg r i new).version q j = c.version q j := by
  unfold Chip.setImg
  split
  · rfl
  · exact Tab.get_set_ne _ _ _ _ h

theorem Chip.version_upd_ne (c : Chip) (r q : RecDesc) (i j : Nat) (fs : List (Fld × Nat)) (h : recKey r i ≠ recKey q j) :
    (c.upd r i fs).version q j = c.version q j := Chip.version_setImg_ne c r q i j _ h

/-- The field an assignment of one field names reads as the value's low bits. -/
@[simp] theorem Chip.getF_upd_one (c : Chip) (r : RecDesc) (i : Nat) (f : Fld) (v : Nat) :
    (c.upd r i [(f, v)]).getF r i f = v % 2 ^ f.width := by simp [Chip.getF]

/-- A field apart from all those assigned reads as before. -/
theorem Chip.getF_upd_apart (c : Chip) (r : RecDesc) (i : Nat) (f : Fld) (fs : List (Fld × Nat)) (h : ∀ p ∈ fs, f.apart p.1) :
    (c.upd r i fs).getF r i f = c.getF r i f := by simp [Chip.getF, get_setFields_apart f fs _ h]

/-- A field of another record, or of another instance, reads as before. -/
theorem Chip.getF_upd_ne (c : Chip) (r q : RecDesc) (i j : Nat) (f : Fld) (fs : List (Fld × Nat)) (h : recKey r i ≠ recKey q j) :
    (c.upd r i fs).getF q j f = c.getF q j f := by simp [Chip.getF, Chip.img_upd_ne c r q i j fs h]

/-- What a part holds beside its records, their versions. -/
structure SameRest (c d : Chip) : Prop where
  freeIdx : d.freeIdx = c.freeIdx
  host : d.host = c.host
  sec : d.sec = c.sec
  fb : d.fb = c.fb
  boot : d.boot = c.boot
  store : d.store = c.store
  zones : d.zones = c.zones
  time : d.time = c.time
  act : d.act = c.act
  sense : d.sense = c.sense
  meter : d.meter = c.meter

theorem SameRest.refl (c : Chip) : SameRest c c := ⟨rfl, rfl, rfl, rfl, rfl, rfl, rfl, rfl, rfl, rfl, rfl⟩

theorem SameRest.trans {a b c : Chip} (h : SameRest a b) (k : SameRest b c) : SameRest a c :=
  ⟨k.1.trans h.1, k.2.trans h.2, k.3.trans h.3, k.4.trans h.4, k.5.trans h.5, k.6.trans h.6, k.7.trans h.7, k.8.trans h.8,
    k.9.trans h.9, k.10.trans h.10, k.11.trans h.11⟩

theorem Chip.setImg_rest (c : Chip) (r : RecDesc) (i v : Nat) : SameRest c (c.setImg r i v) := by
  unfold Chip.setImg
  split
  · exact SameRest.refl c
  · exact ⟨rfl, rfl, rfl, rfl, rfl, rfl, rfl, rfl, rfl, rfl, rfl⟩

/-- An assignment changes records alone. -/
theorem Chip.upd_rest (c : Chip) (r : RecDesc) (i : Nat) (fs : List (Fld × Nat)) : SameRest c (c.upd r i fs) := Chip.setImg_rest c r i _

@[simp] theorem Chip.upd_freeIdx (c : Chip) (r : RecDesc) (i : Nat) (fs : List (Fld × Nat)) : (c.upd r i fs).freeIdx = c.freeIdx := (c.upd_rest r i fs).freeIdx
@[simp] theorem Chip.upd_host (c : Chip) (r : RecDesc) (i : Nat) (fs : List (Fld × Nat)) : (c.upd r i fs).host = c.host := (c.upd_rest r i fs).host
@[simp] theorem Chip.upd_sec (c : Chip) (r : RecDesc) (i : Nat) (fs : List (Fld × Nat)) : (c.upd r i fs).sec = c.sec := (c.upd_rest r i fs).sec
@[simp] theorem Chip.upd_fb (c : Chip) (r : RecDesc) (i : Nat) (fs : List (Fld × Nat)) : (c.upd r i fs).fb = c.fb := (c.upd_rest r i fs).fb
@[simp] theorem Chip.upd_boot (c : Chip) (r : RecDesc) (i : Nat) (fs : List (Fld × Nat)) : (c.upd r i fs).boot = c.boot := (c.upd_rest r i fs).boot
@[simp] theorem Chip.upd_store (c : Chip) (r : RecDesc) (i : Nat) (fs : List (Fld × Nat)) : (c.upd r i fs).store = c.store := (c.upd_rest r i fs).store
@[simp] theorem Chip.upd_zones (c : Chip) (r : RecDesc) (i : Nat) (fs : List (Fld × Nat)) : (c.upd r i fs).zones = c.zones := (c.upd_rest r i fs).zones
@[simp] theorem Chip.upd_time (c : Chip) (r : RecDesc) (i : Nat) (fs : List (Fld × Nat)) : (c.upd r i fs).time = c.time := (c.upd_rest r i fs).time
@[simp] theorem Chip.upd_act (c : Chip) (r : RecDesc) (i : Nat) (fs : List (Fld × Nat)) : (c.upd r i fs).act = c.act := (c.upd_rest r i fs).act
@[simp] theorem Chip.upd_sense (c : Chip) (r : RecDesc) (i : Nat) (fs : List (Fld × Nat)) : (c.upd r i fs).sense = c.sense := (c.upd_rest r i fs).sense
@[simp] theorem Chip.upd_meter (c : Chip) (r : RecDesc) (i : Nat) (fs : List (Fld × Nat)) : (c.upd r i fs).meter = c.meter := (c.upd_rest r i fs).meter

/-- Two parts with the same record images read the same. -/
theorem Chip.img_congr {c d : Chip} (h : d.recs = c.recs) (r : RecDesc) (i : Nat) : d.img r i = c.img r i := by simp [Chip.img, h]

/-! ## Counters and causes -/

theorem Chip.inc_rest (c : Chip) (r : RecDesc) (i : Nat) (f : Fld) : SameRest c (c.inc r i f) := Chip.upd_rest c r i _

theorem Chip.incSat_rest (c : Chip) (r : RecDesc) (i : Nat) (f sat : Fld) (k : Nat) : SameRest c (c.incSat r i f sat k) :=
  Chip.upd_rest c r i _

theorem Chip.setCause_rest (c : Chip) (k : Nat) : SameRest c (c.setCause k) := Chip.upd_rest c _ _ _

theorem Chip.endCause_rest (c : Chip) (k : Nat) : SameRest c (c.endCause k) := Chip.upd_rest c _ _ _

/-! ## Tables of the state -/

theorem Chip.ses_setSes (c : Chip) (i j : Nat) (x : Session) : (c.setSes i x).ses j = if i = j then x else c.ses j := Tab.get_set _ _ _ _ _
theorem Chip.ep_setEp (c : Chip) (i j : Nat) (x : Endpoint) : (c.setEp i x).ep j = if i = j then x else c.ep j := Tab.get_set _ _ _ _ _
theorem Chip.hnd_setHnd (c : Chip) (i j : Nat) (x : Handle) : (c.setHnd i x).hnd j = if i = j then x else c.hnd j := Tab.get_set _ _ _ _ _
theorem Chip.lane_setLane (c : Chip) (i j : Nat) (x : Lane) : (c.setLane i x).lane j = if i = j then x else c.lane j := Tab.get_set _ _ _ _ _
theorem Chip.zrt_setZrt (c : Chip) (i j : Nat) (x : ZoneRt) : (c.setZrt i x).zrt j = if i = j then x else c.zrt j := Tab.get_set _ _ _ _ _
theorem Chip.ter_setTer (c : Chip) (i j : Nat) (x : Terrace) : (c.setTer i x).ter j = if i = j then x else c.ter j := Tab.get_set _ _ _ _ _
theorem Chip.perg_setPerg (c : Chip) (i j : Nat) (x : Pergola) : (c.setPerg i x).perg j = if i = j then x else c.perg j := Tab.get_set _ _ _ _ _
theorem Chip.tgt_setTgt (c : Chip) (i j : Nat) (x : Tgt) : (c.setTgt i x).tgt j = if i = j then x else c.tgt j := Tab.get_set _ _ _ _ _
theorem Chip.chan_setChan (c : Chip) (i j : Nat) (x : Chan) : (c.setChan i x).chan j = if i = j then x else c.chan j := Tab.get_set _ _ _ _ _
theorem Chip.axis_setAxis (c : Chip) (i j : Nat) (x : Axis) : (c.setAxis i x).axis j = if i = j then x else c.axis j := Tab.get_set _ _ _ _ _
theorem Chip.enc_setEnc (c : Chip) (i j : Nat) (x : Enc) : (c.setEnc i x).enc j = if i = j then x else c.enc j := Tab.get_set _ _ _ _ _
theorem Chip.fport_setFport (c : Chip) (i j : Nat) (x : FanPort) : (c.setFport i x).fport j = if i = j then x else c.fport j := Tab.get_set _ _ _ _ _
theorem Chip.fgroup_setFgroup (c : Chip) (i j : Nat) (x : FanGroup) : (c.setFgroup i x).fgroup j = if i = j then x else c.fgroup j := Tab.get_set _ _ _ _ _
theorem Chip.arr_setArr (c : Chip) (i j : Nat) (x : Arr) : (c.setArr i x).arr j = if i = j then x else c.arr j := Tab.get_set _ _ _ _ _
theorem Chip.mreg_setMreg (c : Chip) (i j : Nat) (x : MReg) : (c.setMreg i x).mreg j = if i = j then x else c.mreg j := Tab.get_set _ _ _ _ _
theorem Chip.ptp_setPtp (c : Chip) (i j : Nat) (x : PtpPort) : (c.setPtp i x).ptp j = if i = j then x else c.ptp j := Tab.get_set _ _ _ _ _
theorem Chip.slot_setSlot (c : Chip) (i j : Nat) (x : Slot) : (c.setSlot i x).slot j = if i = j then x else c.slot j := Tab.get_set _ _ _ _ _

end Sys2Proof.Machine
end

