-- ==== Sys2Proof/Laws/Quiet.lean ====
section
/-!
SUPPORT. What raising an event, sending a reply and admitting a frame can change: the host side, a snapshot, and the counters that
go with them. `Quiet c d` says that `d` differs from `c` in nothing else; each shared operation of the host interface has one lemma.
-/

namespace Sys2Proof.Machine

/-- The records in which the host interface keeps its own state and counters. -/
def noisyIds : List Nat := [FB_STATUS.id, AON_STATUS.id, SNAP_STATUS.id, ENDPOINT_STATUS.id]

/-- `d` is `c` but for the host side, the latched snapshot, `ENDPOINT_STATUS`, `SNAP_STATUS` and the two counters of lost events. -/
structure Quiet (c d : Chip) : Prop where
  freeIdx : d.freeIdx = c.freeIdx
  sec : d.sec = c.sec
  fb : d.fb = c.fb
  store : d.store = c.store
  zones : d.zones = c.zones
  time : d.time = c.time
  act : d.act = c.act
  sense : d.sense = c.sense
  meter : d.meter = c.meter
  boot : { d.boot with segments := c.boot.segments } = c.boot
  img : ∀ r i, r.id % 0x10000 ∉ noisyIds → d.img r i = c.img r i
  ver : ∀ r i, r.id % 0x10000 ∉ noisyIds → d.version r i = c.version r i
  aon : ∀ f : Fld, f.apart AON_STATUS.EARLY_LOST → d.getF AON_STATUS 0 f = c.getF AON_STATUS 0 f
  fbs : ∀ f : Fld, f.apart FB_STATUS.EVT_LOST → d.getF FB_STATUS 0 f = c.getF FB_STATUS 0 f

theorem Quiet.refl (c : Chip) : Quiet c c :=
  ⟨rfl, rfl, rfl, rfl, rfl, rfl, rfl, rfl, rfl, rfl, fun _ _ _ => rfl, fun _ _ _ => rfl, fun _ _ => rfl, fun _ _ => rfl⟩

theorem Quiet.trans {a b c : Chip} (h : Quiet a b) (k : Quiet b c) : Quiet a c where
  freeIdx := k.freeIdx.trans h.freeIdx
  sec := k.sec.trans h.sec
  fb := k.fb.trans h.fb
  store := k.store.trans h.store
  zones := k.zones.trans h.zones
  time := k.time.trans h.time
  act := k.act.trans h.act
  sense := k.sense.trans h.sense
  meter := k.meter.trans h.meter
  boot := by
    have h1 := h.boot
    have h2 := k.boot
    rw [← h1, ← h2]
  img := fun r i hr => (k.img r i hr).trans (h.img r i hr)
  ver := fun r i hr => (k.ver r i hr).trans (h.ver r i hr)
  aon := fun f hf => (k.aon f hf).trans (h.aon f hf)
  fbs := fun f hf => (k.fbs f hf).trans (h.fbs f hf)

/-- A change of the host side alone. -/
theorem Quiet.of_host (c : Chip) (x : HostSide) : Quiet c { c with host := x } :=
  ⟨rfl, rfl, rfl, rfl, rfl, rfl, rfl, rfl, rfl, rfl, fun _ _ _ => rfl, fun _ _ _ => rfl, fun _ _ => rfl, fun _ _ => rfl⟩

/-- A change of the latched segments alone. -/
theorem Quiet.of_segments (c : Chip) (l : List Segment) : Quiet c { c with boot.segments := l } :=
  ⟨rfl, rfl, rfl, rfl, rfl, rfl, rfl, rfl, rfl, rfl, fun _ _ _ => rfl, fun _ _ _ => rfl, fun _ _ => rfl, fun _ _ => rfl⟩

/-- An assignment to one of the noisy records that spares the fields others read. -/
theorem Quiet.of_upd (c : Chip) (r : RecDesc) (i : Nat) (fs : List (Fld × Nat)) (hr : r.id % 0x10000 ∈ noisyIds)
    (ha : ∀ f : Fld, f.apart AON_STATUS.EARLY_LOST → (c.upd r i fs).getF AON_STATUS 0 f = c.getF AON_STATUS 0 f)
    (hb : ∀ f : Fld, f.apart FB_STATUS.EVT_LOST → (c.upd r i fs).getF FB_STATUS 0 f = c.getF FB_STATUS 0 f) :
    Quiet c (c.upd r i fs) where
  freeIdx := Chip.upd_freeIdx c r i fs
  sec := Chip.upd_sec c r i fs
  fb := Chip.upd_fb c r i fs
  store := Chip.upd_store c r i fs
  zones := Chip.upd_zones c r i fs
  time := Chip.upd_time c r i fs
  act := Chip.upd_act c r i fs
  sense := Chip.upd_sense c r i fs
  meter := Chip.upd_meter c r i fs
  boot := by rw [Chip.upd_boot]
  img := fun q j hq => Chip.img_upd_ne c r q i j fs (recKey_ne_of_id (fun h => hq (h ▸ hr)) i j)
  ver := fun q j hq => Chip.version_upd_ne c r q i j fs (recKey_ne_of_id (fun h => hq (h ▸ hr)) i j)
  aon := ha
  fbs := hb

/-- An assignment to `ENDPOINT_STATUS` or `SNAP_STATUS`. -/
theorem Quiet.of_upd_host (c : Chip) (r : RecDesc) (i : Nat) (fs : List (Fld × Nat)) (hr : r = ENDPOINT_STATUS ∨ r = SNAP_STATUS) :
    Quiet c (c.upd r i fs) := by
  rcases hr with rfl | rfl
  · exact Quiet.of_upd c _ i fs (by decide) (fun f _ => Chip.getF_upd_ne c _ _ _ _ f fs (recKey_ne_of_id (by decide) _ _))
      (fun f _ => Chip.getF_upd_ne c _ _ _ _ f fs (recKey_ne_of_id (by decide) _ _))
  · exact Quiet.of_upd c _ i fs (by decide) (fun f _ => Chip.getF_upd_ne c _ _ _ _ f fs (recKey_ne_of_id (by decide) _ _))
      (fun f _ => Chip.getF_upd_ne c _ _ _ _ f fs (recKey_ne_of_id (by decide) _ _))

/-- A lost event is counted. -/
theorem Quiet.of_early (c : Chip) : Quiet c (c.inc AON_STATUS 0 AON_STATUS.EARLY_LOST) :=
  Quiet.of_upd c _ _ _ (by decide)
    (fun f hf => Chip.getF_upd_apart c _ _ f _ (by simpa using hf))
    (fun f _ => Chip.getF_upd_ne c _ _ _ _ f _ (recKey_ne_of_id (by decide) _ _))

theorem Quiet.of_evt (c : Chip) : Quiet c (c.inc FB_STATUS 0 FB_STATUS.EVT_LOST) :=
  Quiet.of_upd c _ _ _ (by decide)
    (fun f _ => Chip.getF_upd_ne c _ _ _ _ f _ (recKey_ne_of_id (by decide) _ _))
    (fun f hf => Chip.getF_upd_apart c _ _ f _ (by simpa using hf))

/-- A sequence of quiet changes is quiet. -/
theorem Quiet.eachOf {α : Type} (c : Chip) (l : List α) (f : Chip → α → Chip) (hf : ∀ c a, Quiet c (f c a)) : Quiet c (c.eachOf l f) := by
  induction l generalizing c with
  | nil => exact Quiet.refl c
  | cons a l ih => exact (hf c a).trans (ih (f c a))

/-! ## Sessions, endpoints, handles -/

theorem Quiet.setSes (c : Chip) (i : Nat) (x : Session) : Quiet c (c.setSes i x) := Quiet.of_host c _
theorem Quiet.modSes (c : Chip) (i : Nat) (f : Session → Session) : Quiet c (c.modSes i f) := Quiet.setSes c i _
theorem Quiet.modEp (c : Chip) (e : Nat) (f : Endpoint → Endpoint) : Quiet c (c.modEp e f) := Quiet.of_host c _
theorem Quiet.setHnd (c : Chip) (i : Nat) (x : Handle) : Quiet c (c.setHnd i x) := Quiet.of_host c _
theorem Quiet.newHandle (c : Chip) (i k : Nat) : Quiet c (c.newHandle i k) := Quiet.setHnd c k _
theorem Quiet.dropHandle (c : Chip) (k : Nat) : Quiet c (c.dropHandle k) := Quiet.setHnd c k _
theorem Quiet.popInbound (c : Chip) (e : Nat) : Quiet c (c.popInbound e) := Quiet.modEp c e _
theorem Quiet.epCount (c : Chip) (e k : Nat) : Quiet c (c.epCount e k) := Quiet.of_upd_host c _ e _ (.inl rfl)
theorem Quiet.showSlots (c : Chip) (e : Nat) : Quiet c (c.showSlots e) := Quiet.of_upd_host c _ e _ (.inl rfl)

theorem Quiet.finish (c : Chip) (k : Option Nat) (st : Nat) (d : List Nat) : Quiet c (c.finish k st d) := by
  cases k with
  | none => exact Quiet.refl c
  | some k =>
    simp only [Chip.finish]
    split
    · exact Quiet.setHnd c k _
    · exact Quiet.refl c

/-! ## Events -/

theorem Quiet.heldAccount (c : Chip) : Quiet c c.heldAccount := Quiet.of_host c _

theorem Quiet.holdEvent (c : Chip) (ev : Event) : Quiet c (c.holdEvent ev) := by
  unfold Chip.holdEvent
  dsimp only
  split
  · split
    · exact Quiet.of_host c _
    · exact Quiet.of_evt c
  · split
    · exact Quiet.of_host c _
    · exact Quiet.of_early c

theorem Quiet.deliver (c : Chip) (ev : Event) : Quiet c (c.deliver ev) := by
  unfold Chip.deliver
  dsimp only
  split
  · exact Quiet.holdEvent c ev
  · refine Quiet.eachOf c _ _ (fun c i => ?_)
    split
    · exact Quiet.modSes c i _
    · exact Quiet.refl c

theorem Quiet.emit (c : Chip) (ev : Event) : Quiet c (c.emit ev) := by
  unfold Chip.emit
  dsimp only
  split
  · exact Quiet.of_host c _
  · exact Quiet.deliver c _

theorem Quiet.snapTrigger (c : Chip) (source event : Nat) : Quiet c (c.snapTrigger source event) := by
  unfold Chip.snapTrigger
  split
  · exact Quiet.refl c
  · split
    · split
      · exact Quiet.refl c
      · exact Quiet.of_upd_host c _ _ _ (.inr rfl)
    · exact ((Quiet.of_segments c _).trans (Quiet.of_upd_host _ _ _ _ (.inr rfl))).trans (Quiet.emit _ _)

/-- Raising an event, in any of its forms, is quiet. -/
theorem Quiet.raiseWith (c : Chip) (ev : Event) : Quiet c (c.raiseWith ev) := by
  unfold Chip.raiseWith
  dsimp only
  split
  · split
    · exact ((Quiet.emit c ev).trans (Quiet.snapTrigger _ _ _)).trans (Quiet.of_upd_host _ _ _ _ (.inr rfl))
    · exact (Quiet.emit c ev).trans (Quiet.snapTrigger _ _ _)
  · exact Quiet.emit c ev

theorem Quiet.raise (c : Chip) (code sev source : Nat) (data : List Nat) (aud : Audience) : Quiet c (c.raise code sev source data aud) :=
  Quiet.raiseWith c _
theorem Quiet.raiseMasked (c : Chip) (code sev source : Nat) (data seen : List Nat) (aud : Audience) :
    Quiet c (c.raiseMasked code sev source data seen aud) := Quiet.raiseWith c _
theorem Quiet.raiseZone (c : Chip) (code sev z : Nat) (data masked : List Nat) : Quiet c (c.raiseZone code sev z data masked) :=
  Quiet.raiseWith c _

theorem Quiet.raiseTo (c : Chip) (i code sev : Nat) (data : List Nat) : Quiet c (c.raiseTo i code sev data) := by
  unfold Chip.raiseTo
  dsimp only
  split
  · split
    · exact Quiet.setSes c i _
    · exact Quiet.refl c
  · exact Quiet.refl c

/-! ## Replies and refusals -/

theorem Quiet.send (c : Chip) (e : Nat) (f : Frame) : Quiet c (c.send e f) := by
  unfold Chip.send
  dsimp only
  split
  · exact (Quiet.epCount c e _).trans (Quiet.modEp _ e _)
  · exact (Quiet.epCount c e _).trans (Quiet.of_host _ _)

theorem Quiet.nextTx (c : Chip) (i : Nat) : Quiet c (c.nextTx i) := by
  unfold Chip.nextTx
  dsimp only
  split
  · exact (Quiet.setSes c i _).trans (Quiet.raiseTo _ _ _ _ _)
  · exact Quiet.setSes c i _

/-- Sending a reply is quiet. -/
theorem Quiet.reply (c : Chip) (x : Ctx) (op st : Nat) (d : List Nat) : Quiet c (c.reply x op st d) := by
  unfold Chip.reply
  dsimp only
  refine Quiet.trans ?_ (Quiet.send _ _ _)
  split
  · exact Quiet.nextTx c _
  · exact Quiet.refl c

theorem Quiet.refuse (c : Chip) (h : Hdr) (op ses seq cr st addr : Nat) : Quiet c (c.refuse h op ses seq cr st addr) := by
  unfold Chip.refuse
  split
  · exact Quiet.modEp c _ _
  · exact Quiet.epCount c _ _

theorem Quiet.refuseIn (c : Chip) (h : Hdr) (op si st : Nat) : Quiet c (c.refuseIn h op si st) := by
  unfold Chip.refuseIn
  split
  · exact (Quiet.nextTx c si).trans (Quiet.refuse _ _ _ _ _ _ _ _)
  · exact Quiet.epCount c _ _

theorem Quiet.authFail (c : Chip) (h : Hdr) (op : Nat) : Quiet c (c.authFail h op) := by
  unfold Chip.authFail
  dsimp only
  split
  · exact ((Quiet.epCount c _ _).trans (Quiet.modEp _ _ _)).trans (Quiet.refuse _ _ _ _ _ _ _ _)
  · exact ((Quiet.epCount c _ _).trans (Quiet.modEp _ _ _)).trans (Quiet.epCount _ _ _)

theorem Quiet.rekeyHost (c : Chip) (i : Nat) : Quiet c (c.rekeyHost i) := by
  unfold Chip.rekeyHost
  dsimp only
  split
  · exact (Quiet.setSes c i _).trans (Quiet.raiseTo _ _ _ _ _)
  · exact Quiet.refl c

theorem Quiet.dropFrag (c : Chip) (si tag : Nat) : Quiet c (c.dropFrag si tag) := (Quiet.of_host c _).trans (Quiet.showSlots _ _)

/-! ## Admission (Table 2.10) -/

/-- The part as a check of Table 2.10 leaves it. -/
def Gate.chip : Gate → Chip
  | .stop c => c
  | .go c _ _ => c

theorem Quiet.admitFrame (c : Chip) (h : Hdr) (op : Nat) (known in0 : Bool) : Quiet c (c.admitFrame h op known in0).chip := by
  have h0 : Quiet c ((c.popInbound h.ep).epCount h.ep cntIn) := (Quiet.popInbound c _).trans (Quiet.epCount _ _ _)
  unfold Chip.admitFrame
  dsimp only
  split
  · split
    · exact h0.trans (Quiet.epCount _ _ _)
    · split
      · exact h0.trans (Quiet.refuse _ _ _ _ _ _ _ _)
      · split
        · exact h0.trans (Quiet.refuse _ _ _ _ _ _ _ _)
        · exact h0
  · split
    · exact h0.trans (Quiet.authFail _ _ _)
    · have h1 : ∀ x, Quiet c (((c.popInbound h.ep).epCount h.ep cntIn).setSes (h.session % 128) x) :=
        fun x => h0.trans (Quiet.setSes _ _ x)
      split
      · dsimp only [Gate.chip]
        refine Quiet.trans ?_ (Quiet.refuseIn _ _ _ _ _)
        exact Quiet.trans (h1 _) (Quiet.epCount _ _ _)
      · have h2 : ∀ d f, Quiet c d → Quiet c ((d.modSes (h.session % 128) f).rekeyHost (h.session % 128)) :=
          fun d f hd => (hd.trans (Quiet.modSes _ _ f)).trans (Quiet.rekeyHost _ _)
        split
        · dsimp only [Gate.chip]
          refine Quiet.trans ?_ (Quiet.refuseIn _ _ _ _ _)
          exact h2 _ _ (h1 _)
        · split
          · dsimp only [Gate.chip]
            refine Quiet.trans ?_ (Quiet.refuseIn _ _ _ _ _)
            exact h2 _ _ (h1 _)
          · split
            · dsimp only [Gate.chip]
              refine Quiet.trans ?_ (Quiet.refuseIn _ _ _ _ _)
              exact h2 _ _ (h1 _)
            · dsimp only [Gate.chip]
              exact h2 _ _ (h1 _)

theorem Quiet.answer (c : Chip) (x : Ctx) (op st : Nat) : Quiet c (c.answer x op st).chip := Quiet.reply c x op st _

theorem Quiet.admitClass (c : Chip) (x : Ctx) (sp : CmdSpec) : Quiet c (c.admitClass x sp).chip := by
  unfold Chip.admitClass
  dsimp only
  split
  · exact Quiet.answer c _ _ _
  split
  · exact Quiet.answer c _ _ _
  split
  · exact Quiet.answer c _ _ _
  split
  · split
    · exact (Quiet.dropFrag c _ _).trans (Quiet.answer _ _ _ _)
    · exact Quiet.dropFrag c _ _
  · split
    · exact Quiet.epCount c _ _
    split
    · split
      · exact Quiet.refl c
      · exact (Quiet.epCount c _ _).trans (Quiet.answer _ _ _ _)
    · split
      · exact Quiet.refl c
      · exact (Quiet.epCount c _ _).trans (Quiet.answer _ _ _ _)

theorem Quiet.admitWho (c : Chip) (x : Ctx) (sp : CmdSpec) : Quiet c (c.admitWho x sp).chip := by
  unfold Chip.admitWho
  dsimp only
  repeat' split
  all_goals first
    | exact Quiet.answer c _ _ _
    | exact Quiet.refl c

/-- Admitting a frame, or refusing it, is quiet. -/
theorem Quiet.ingress (c : Chip) (h : Hdr) (sp : CmdSpec) : Quiet c (c.ingress h sp).chip := by
  unfold Chip.ingress
  split
  · exact Quiet.refl c
  · have hf := Quiet.admitFrame c h sp.opcode true sp.inSession0
    revert hf
    cases c.admitFrame h sp.opcode true sp.inSession0 with
    | stop d => exact id
    | go d x b =>
      intro hf
      have hc := Quiet.admitClass d x sp
      revert hc
      dsimp only [Gate.chip]
      cases d.admitClass x sp with
      | stop e => exact fun hc => Quiet.trans hf hc
      | go e y b' => exact fun hc => (Quiet.trans hf hc).trans (Quiet.admitWho e y sp)

theorem Quiet.of_go {c d : Chip} {h : Hdr} {sp : CmdSpec} {x : Ctx} {b : Bool} (hg : c.ingress h sp = .go d x b) : Quiet c d := by
  have := Quiet.ingress c h sp
  rwa [hg] at this

theorem Res.watched_quiet (r : Res) (k : Nat) : Quiet r.chip (r.watched k).chip := by
  unfold Res.watched
  split
  · exact Quiet.of_host _ _
  · exact Quiet.refl _

@[simp] theorem Res.watched_post (r : Res) (k : Nat) : (r.watched k).post = r.post := by
  unfold Res.watched
  split <;> rfl

theorem Res.conclude_quiet (r : Res) (x : Ctx) (op : Nat) : ∃ e, Quiet r.chip e ∧ r.conclude x op = r.post e := by
  unfold Res.conclude
  dsimp only
  split
  · exact ⟨_, Quiet.refl _, rfl⟩
  · exact ⟨_, Quiet.reply _ _ _ _ _, rfl⟩

/-- An admitted command: what it does, then a quiet reply, then what follows the reply. -/
theorem Chip.command_go {c d : Chip} {h : Hdr} {sp : CmdSpec} {x : Ctx} {b : Bool} (act : Ctx → Chip → Res)
    (hg : c.ingress h sp = .go d x b) : ∃ e, Quiet (act x d).chip e ∧ c.command h sp act = (act x d).post e := by
  unfold Chip.command
  rw [hg]
  dsimp only
  obtain ⟨e, h1, h2⟩ := Res.conclude_quiet ((act x d).watched (d.ses x.si).kind) x sp.opcode
  exact ⟨e, (Res.watched_quiet _ _).trans h1, by rw [h2, Res.watched_post]⟩

/-- A refused frame changes nothing but the host side. -/
theorem Chip.command_stop {c d : Chip} {h : Hdr} {sp : CmdSpec} (act : Ctx → Chip → Res) (hg : c.ingress h sp = .stop d) :
    c.command h sp act = d ∧ Quiet c d := by
  have := Quiet.ingress c h sp
  rw [hg] at this
  exact ⟨by simp [Chip.command, hg], this⟩

/-! ## What a quiet change keeps -/

theorem Quiet.getF {c d : Chip} (h : Quiet c d) (r : RecDesc) (i : Nat) (f : Fld) (hr : r.id % 0x10000 ∉ noisyIds) :
    d.getF r i f = c.getF r i f := by simp [Chip.getF, h.img r i hr]

theorem Quiet.level {c d : Chip} (h : Quiet c d) : d.level = c.level := by
  have hb : d.boot.below = c.boot.below := by rw [← h.boot]
  unfold Chip.level
  rw [hb, h.aon _ (by decide)]

end Sys2Proof.Machine
end

