-- ==== Sys2Proof/Laws/Rows.lean ====
section
/-!
SUPPORT. For each command the one call its arm makes, true by definition: the form in which every proof about a command begins.
-/

namespace Sys2Proof.Machine

theorem exec_ping (h : Hdr) (echo : Bytes) (s : State) :
    exec (.ping h echo) s = s.run (fun c => c.ping h echo) := rfl
theorem exec_sessionOpen (h : Hdr) (kind : Nat) (index : Nat) (challenge : Nat) (nonce : Nat) (eph : Nat) (sig : Sig) (newKey : Nat) (mac : Sig) (s : State) :
    exec (.sessionOpen h kind index challenge nonce eph sig newKey mac) s = s.run (fun c => c.sessionOpen h ⟨kind, index, challenge, nonce, eph, sig, newKey, mac⟩) := rfl
theorem exec_sessionClose (h : Hdr) (s : State) :
    exec (.sessionClose h) s = s.run (fun c => c.sessionClose h) := rfl
theorem exec_sessionIdleTimeout (si : Nat) (s : State) :
    exec (.sessionIdleTimeout si) s = if si < 128 then s.run (fun c => c.sessionIdleTimeout si) else .refused .noSuchUnit := rfl
theorem exec_subscribe (h : Hdr) (mask : Nat) (minSev : Nat) (s : State) :
    exec (.subscribe h mask minSev) s = s.run (fun c => c.subscribe h mask minSev) := rfl
theorem exec_unsubscribe (h : Hdr) (s : State) :
    exec (.unsubscribe h) s = s.run (fun c => c.unsubscribe h) := rfl
theorem exec_getRecord (h : Hdr) (rec : Nat) (inst : Nat) (offset : Nat) (maxLen : Nat) (s : State) :
    exec (.getRecord h rec inst offset maxLen) s = s.run (fun c => c.getRecord h rec inst offset maxLen) := rfl
theorem exec_setRecord (h : Hdr) (rec : Nat) (inst : Nat) (ver : Nat) (img : Nat) (s : State) :
    exec (.setRecord h rec inst ver img) s = s.run (fun c => c.setRecordRow h rec inst ver img) := rfl
theorem exec_resultGet (h : Hdr) (handle : Nat) (offset : Nat) (maxLen : Nat) (s : State) :
    exec (.resultGet h handle offset maxLen) s = s.run (fun c => c.resultGet h handle offset maxLen) := rfl
theorem exec_resultRelease (h : Hdr) (handle : Nat) (s : State) :
    exec (.resultRelease h handle) s = s.run (fun c => c.resultRelease h handle) := rfl
theorem exec_endpointReset (h : Hdr) (e : Nat) (s : State) :
    exec (.endpointReset h e) s = s.run (fun c => c.endpointReset h e) := rfl
theorem exec_endpointCfgWrite (h : Hdr) (inst : Nat) (ver : Nat) (img : Nat) (s : State) :
    exec (.endpointCfgWrite h inst ver img) s = s.run (fun c => c.writeRow h (fun x c => c.endpointCfgWrite x inst ver img)) := rfl
theorem exec_fragmentStore (h : Hdr) (opcode : Nat) (s : State) :
    exec (.fragmentStore h opcode) s = s.run (fun c => c.fragmentStore h opcode) := rfl
theorem exec_fragmentTimeout (si : Nat) (tag : Nat) (s : State) :
    exec (.fragmentTimeout si tag) s = if si < 128 then s.run (fun c => c.fragmentTimeout si tag) else .refused .noSuchUnit := rfl
theorem exec_spiWrite (whole : Bool) (s : State) :
    exec (.spiWrite whole) s = s.run (fun c => c.spiWrite whole) := rfl
theorem exec_spiRead (whole : Bool) (s : State) :
    exec (.spiRead whole) s = s.run (fun c => c.spiRead whole) := rfl
theorem exec_spiStatus (s : State) :
    exec .spiStatus s = s.run (fun c => c.spiStatus) := rfl
theorem exec_arpRequest (e : Nat) (target : Nat) (asker : Nat) (s : State) :
    exec (.arpRequest e target asker) s = if e < 18 then s.run (fun c => c.arpRequest e target asker) else .refused .noSuchUnit := rfl
theorem exec_neighbourSolicitation (e : Nat) (target : Nat) (asker : Nat) (s : State) :
    exec (.neighbourSolicitation e target asker) s = if e < 18 then s.run (fun c => c.neighbourSolicitation e target asker) else .refused .noSuchUnit := rfl
theorem exec_eventTransmit (e : Nat) (si : Nat) (s : State) :
    exec (.eventTransmit e si) s = if e < 18 ∧ si < 128 then s.run (fun c => c.eventTransmit e si) else .refused .noSuchUnit := rfl
theorem exec_heldEventRelease (s : State) :
    exec .heldEventRelease s = s.run (fun c => c.heldEventRelease) := rfl
theorem exec_getIdentity (h : Hdr) (cert : Nat) (s : State) :
    exec (.getIdentity h cert) s = s.run (fun c => c.getIdentity h cert) := rfl
theorem exec_attest (h : Hdr) (nonce : Nat) (s : State) :
    exec (.attest h nonce) s = s.run (fun c => c.attest h nonce) := rfl
theorem exec_credentialWrite (h : Hdr) (k : Nat) (inst : Nat) (ver : Nat) (img : Nat) (s : State) :
    exec (.credentialWrite h k inst ver img) s = if k < 3 then s.run (fun c => c.writeRow h (fun x c => c.credentialWrite x k inst ver img)) else .refused .noSuchUnit := rfl
theorem exec_plotCreate (h : Hdr) (p : Nat) (lifetime : Nat) (s : State) :
    exec (.plotCreate h p lifetime) s = s.run (fun c => c.plotCreate h p lifetime) := rfl
theorem exec_enrolCodeExpiry (p : Nat) (s : State) :
    exec (.enrolCodeExpiry p) s = if p < 256 then s.run (fun c => c.enrolCodeExpiry p) else .refused .noSuchUnit := rfl
theorem exec_plotEvict (h : Hdr) (p : Nat) (s : State) :
    exec (.plotEvict h p) s = s.run (fun c => c.plotEvict h p) := rfl
theorem exec_plotWipe (p : Nat) (s : State) :
    exec (.plotWipe p) s = if p < 256 then s.run (fun c => c.plotWipe p) else .refused .noSuchUnit := rfl
theorem exec_plotKeyRotate (h : Hdr) (key : Nat) (sig : Sig) (s : State) :
    exec (.plotKeyRotate h key sig) s = s.run (fun c => c.plotKeyRotate h key sig) := rfl
theorem exec_privacyCfgWrite (h : Hdr) (inst : Nat) (ver : Nat) (img : Nat) (s : State) :
    exec (.privacyCfgWrite h inst ver img) s = s.run (fun c => c.writeRow h (fun x c => c.privacyCfgWrite x inst ver img)) := rfl
theorem exec_occGroupWrite (h : Hdr) (inst : Nat) (ver : Nat) (img : Nat) (s : State) :
    exec (.occGroupWrite h inst ver img) s = s.run (fun c => c.writeRow h (fun x c => c.occGroupWrite x inst ver img)) := rfl
theorem exec_quarterHourAggregate (s : State) :
    exec .quarterHourAggregate s = s.run (fun c => c.quarterHourAggregate) := rfl
theorem exec_servicePinChange (pins : Nat) (s : State) :
    exec (.servicePinChange pins) s = if pins < 4 then s.run (fun c => c.servicePinChange pins) else .refused .noSuchUnit := rfl
theorem exec_debugChallenge (h : Hdr) (s : State) :
    exec (.debugChallenge h) s = s.run (fun c => c.debugChallenge h) := rfl
theorem exec_debugUnlock (h : Hdr) (serial : Nat) (challenge : Nat) (minutes : Nat) (keyId : Nat) (vsig : Sig) (s : State) :
    exec (.debugUnlock h serial challenge minutes keyId vsig) s = s.run (fun c => c.debugUnlock h serial challenge minutes keyId vsig) := rfl
theorem exec_debugUnlockApply (s : State) :
    exec .debugUnlockApply s = s.run (fun c => c.debugUnlockApply) := rfl
theorem exec_debugLock (h : Hdr) (s : State) :
    exec (.debugLock h) s = s.run (fun c => c.debugLock h) := rfl
theorem exec_unlockEnd (s : State) :
    exec .unlockEnd s = s.run (fun c => c.unlockEndRow) := rfl
theorem exec_decommission (h : Hdr) (serial : Nat) (confirm : Nat) (s : State) :
    exec (.decommission h serial confirm) s = s.run (fun c => c.decommission h serial confirm) := rfl
theorem exec_rollbackCommit (h : Hdr) (image : Nat) (s : State) :
    exec (.rollbackCommit h image) s = s.run (fun c => c.rollbackCommit h image) := rfl
theorem exec_shadowMinRaise (s : State) :
    exec .shadowMinRaise s = s.run (fun c => c.shadowMinRaise) := rfl
theorem exec_windowPortPhase (e : Nat) (frame : Nat) (window : Nat) (s : State) :
    exec (.windowPortPhase e frame window) s = if e < 256 then s.run (fun c => c.windowPortPhase e frame window) else .refused .noSuchUnit := rfl
theorem exec_zoneExecution (e : Nat) (s : State) :
    exec (.zoneExecution e) s = if e < 256 then s.run (fun c => c.zoneExecution e) else .refused .noSuchUnit := rfl
theorem exec_publishPoint (e : Nat) (s : State) :
    exec (.publishPoint e) s = if e < 256 then s.run (fun c => c.publishPoint e) else .refused .noSuchUnit := rfl
theorem exec_bindingUpdate (s : State) :
    exec .bindingUpdate s = s.run (fun c => c.bindingUpdate) := rfl
theorem exec_terraceWatchdog (t : Nat) (cause : Nat) (s : State) :
    exec (.terraceWatchdog t cause) s = if t < 4 then s.run (fun c => c.terraceWatchdog t cause) else .refused .noSuchUnit := rfl
theorem exec_terraceResetDone (t : Nat) (resume : Nat) (pass : Bool) (s : State) :
    exec (.terraceResetDone t resume pass) s = if t < 4 then s.run (fun c => c.terraceResetDone t resume pass) else .refused .noSuchUnit := rfl
theorem exec_eccScrub (t : Nat) (region : Nat) (offset : Nat) (double : Bool) (s : State) :
    exec (.eccScrub t region offset double) s = if t < 4 ∧ region < 5 then s.run (fun c => c.eccScrub t region offset double) else .refused .noSuchUnit := rfl
theorem exec_programStoreRepair (t : Nat) (id : Nat) (s : State) :
    exec (.programStoreRepair t id) s = if t < 4 ∧ id < 128 then s.run (fun c => c.programStoreRepair t id) else .refused .noSuchUnit := rfl
theorem exec_pergolaFault (p : Nat) (cause : Nat) (s : State) :
    exec (.pergolaFault p cause) s = if p < 64 then s.run (fun c => c.pergolaFault p cause) else .refused .noSuchUnit := rfl
theorem exec_pergolaSelfTestDone (p : Nat) (pass : Bool) (s : State) :
    exec (.pergolaSelfTestDone p pass) s = if p < 64 then s.run (fun c => c.pergolaSelfTestDone p pass) else .refused .noSuchUnit := rfl
theorem exec_pergolaMigration (t : Nat) (s : State) :
    exec (.pergolaMigration t) s = if t < 4 then s.run (fun c => c.pergolaMigration t) else .refused .noSuchUnit := rfl
theorem exec_pergolaReturnHome (t : Nat) (s : State) :
    exec (.pergolaReturnHome t) s = if t < 4 then s.run (fun c => c.pergolaReturnHome t) else .refused .noSuchUnit := rfl
theorem exec_zoneReset (h : Hdr) (z : Nat) (s : State) :
    exec (.zoneReset h z) s = s.run (fun c => c.zoneReset h z) := rfl
theorem exec_engineReset (h : Hdr) (e : Nat) (s : State) :
    exec (.engineReset h e) s = s.run (fun c => c.engineReset h e) := rfl
theorem exec_engineResetApply (e : Nat) (s : State) :
    exec (.engineResetApply e) s = if e < 256 then s.run (fun c => c.engineResetApply e) else .refused .noSuchUnit := rfl
theorem exec_pergolaReset (h : Hdr) (p : Nat) (s : State) :
    exec (.pergolaReset h p) s = s.run (fun c => c.pergolaReset h p) := rfl
theorem exec_terraceReset (h : Hdr) (t : Nat) (s : State) :
    exec (.terraceReset h t) s = s.run (fun c => c.terraceReset h t) := rfl
theorem exec_tickTableLoad (h : Hdr) (img : Nat) (s : State) :
    exec (.tickTableLoad h img) s = s.run (fun c => c.tickTableLoad h img) := rfl
theorem exec_tickTableValidated (t : Nat) (s : State) :
    exec (.tickTableValidated t) s = if t < 4 then s.run (fun c => c.tickTableValidated t) else .refused .noSuchUnit := rfl
theorem exec_tickTableCommitPoint (t : Nat) (s : State) :
    exec (.tickTableCommitPoint t) s = if t < 4 then s.run (fun c => c.tickTableCommitPoint t) else .refused .noSuchUnit := rfl
theorem exec_tickTableActive (t : Nat) (s : State) :
    exec (.tickTableActive t) s = if t < 4 then s.run (fun c => c.tickTableActive t) else .refused .noSuchUnit := rfl
theorem exec_zoneIsolate (h : Hdr) (z : Nat) (s : State) :
    exec (.zoneIsolate h z) s = s.run (fun c => c.zoneIsolate h z) := rfl
theorem exec_zoneRelease (h : Hdr) (z : Nat) (s : State) :
    exec (.zoneRelease h z) s = s.run (fun c => c.zoneRelease h z) := rfl
theorem exec_plotReset (h : Hdr) (p : Nat) (s : State) :
    exec (.plotReset h p) s = s.run (fun c => c.plotReset h p) := rfl
theorem exec_zoneCfgWrite (h : Hdr) (inst : Nat) (ver : Nat) (img : Nat) (s : State) :
    exec (.zoneCfgWrite h inst ver img) s = s.run (fun c => c.writeRow h (fun x c => c.zoneCfgWrite x inst ver img)) := rfl
theorem exec_zoneParamsWrite (h : Hdr) (inst : Nat) (ver : Nat) (img : Nat) (s : State) :
    exec (.zoneParamsWrite h inst ver img) s = s.run (fun c => c.writeRow h (fun x c => c.zoneParamsWrite x inst ver img)) := rfl
theorem exec_plotLimitsWrite (h : Hdr) (inst : Nat) (ver : Nat) (img : Nat) (s : State) :
    exec (.plotLimitsWrite h inst ver img) s = s.run (fun c => c.writeRow h (fun x c => c.plotLimitsWrite x inst ver img)) := rfl
theorem exec_plotIsolationWrite (h : Hdr) (inst : Nat) (ver : Nat) (img : Nat) (s : State) :
    exec (.plotIsolationWrite h inst ver img) s = s.run (fun c => c.writeRow h (fun x c => c.plotIsolationWrite x inst ver img)) := rfl
theorem exec_terracePerfWrite (h : Hdr) (inst : Nat) (ver : Nat) (img : Nat) (s : State) :
    exec (.terracePerfWrite h inst ver img) s = s.run (fun c => c.writeRow h (fun x c => c.terracePerfWrite x inst ver img)) := rfl
theorem exec_zpEnd (e : Nat) (d : Nat) (a : Nat) (imm : Nat) (s : State) :
    exec (.zpEnd e d a imm) s = if e < 256 then s.run (fun c => c.zoneStep e 0x00 d a (imm / 2048) (imm % 2048)) else .refused .noSuchUnit := rfl
theorem exec_zpMov (e : Nat) (d : Nat) (a : Nat) (imm : Nat) (s : State) :
    exec (.zpMov e d a imm) s = if e < 256 then s.run (fun c => c.zoneStep e 0x01 d a (imm / 2048) (imm % 2048)) else .refused .noSuchUnit := rfl
theorem exec_zpLdl (e : Nat) (d : Nat) (a : Nat) (imm : Nat) (s : State) :
    exec (.zpLdl e d a imm) s = if e < 256 then s.run (fun c => c.zoneStep e 0x02 d a (imm / 2048) (imm % 2048)) else .refused .noSuchUnit := rfl
theorem exec_zpLdh (e : Nat) (d : Nat) (a : Nat) (imm : Nat) (s : State) :
    exec (.zpLdh e d a imm) s = if e < 256 then s.run (fun c => c.zoneStep e 0x03 d a (imm / 2048) (imm % 2048)) else .refused .noSuchUnit := rfl
theorem exec_zpLdc (e : Nat) (d : Nat) (a : Nat) (imm : Nat) (s : State) :
    exec (.zpLdc e d a imm) s = if e < 256 then s.run (fun c => c.zoneStep e 0x04 d a (imm / 2048) (imm % 2048)) else .refused .noSuchUnit := rfl
theorem exec_zpLdp (e : Nat) (d : Nat) (a : Nat) (imm : Nat) (s : State) :
    exec (.zpLdp e d a imm) s = if e < 256 then s.run (fun c => c.zoneStep e 0x05 d a (imm / 2048) (imm % 2048)) else .refused .noSuchUnit := rfl
theorem exec_zpLds (e : Nat) (d : Nat) (a : Nat) (imm : Nat) (s : State) :
    exec (.zpLds e d a imm) s = if e < 256 then s.run (fun c => c.zoneStep e 0x06 d a (imm / 2048) (imm % 2048)) else .refused .noSuchUnit := rfl
theorem exec_zpSts (e : Nat) (d : Nat) (a : Nat) (imm : Nat) (s : State) :
    exec (.zpSts e d a imm) s = if e < 256 then s.run (fun c => c.zoneStep e 0x07 d a (imm / 2048) (imm % 2048)) else .refused .noSuchUnit := rfl
theorem exec_zpAdd (e : Nat) (d : Nat) (a : Nat) (b : Nat) (parm : Nat) (s : State) :
    exec (.zpAdd e d a b parm) s = if e < 256 then s.run (fun c => c.zoneStep e 0x08 d a b parm) else .refused .noSuchUnit := rfl
theorem exec_zpSub (e : Nat) (d : Nat) (a : Nat) (b : Nat) (parm : Nat) (s : State) :
    exec (.zpSub e d a b parm) s = if e < 256 then s.run (fun c => c.zoneStep e 0x09 d a b parm) else .refused .noSuchUnit := rfl
theorem exec_zpMul (e : Nat) (d : Nat) (a : Nat) (b : Nat) (parm : Nat) (s : State) :
    exec (.zpMul e d a b parm) s = if e < 256 then s.run (fun c => c.zoneStep e 0x0A d a b parm) else .refused .noSuchUnit := rfl
theorem exec_zpDiv (e : Nat) (d : Nat) (a : Nat) (b : Nat) (parm : Nat) (s : State) :
    exec (.zpDiv e d a b parm) s = if e < 256 then s.run (fun c => c.zoneStep e 0x0B d a b parm) else .refused .noSuchUnit := rfl
theorem exec_zpAddi (e : Nat) (d : Nat) (a : Nat) (imm : Nat) (s : State) :
    exec (.zpAddi e d a imm) s = if e < 256 then s.run (fun c => c.zoneStep e 0x0C d a (imm / 2048) (imm % 2048)) else .refused .noSuchUnit := rfl
theorem exec_zpMuli (e : Nat) (d : Nat) (a : Nat) (imm : Nat) (s : State) :
    exec (.zpMuli e d a imm) s = if e < 256 then s.run (fun c => c.zoneStep e 0x0D d a (imm / 2048) (imm % 2048)) else .refused .noSuchUnit := rfl
theorem exec_zpAbs (e : Nat) (d : Nat) (a : Nat) (imm : Nat) (s : State) :
    exec (.zpAbs e d a imm) s = if e < 256 then s.run (fun c => c.zoneStep e 0x0E d a (imm / 2048) (imm % 2048)) else .refused .noSuchUnit := rfl
theorem exec_zpNeg (e : Nat) (d : Nat) (a : Nat) (imm : Nat) (s : State) :
    exec (.zpNeg e d a imm) s = if e < 256 then s.run (fun c => c.zoneStep e 0x0F d a (imm / 2048) (imm % 2048)) else .refused .noSuchUnit := rfl
theorem exec_zpMin (e : Nat) (d : Nat) (a : Nat) (b : Nat) (parm : Nat) (s : State) :
    exec (.zpMin e d a b parm) s = if e < 256 then s.run (fun c => c.zoneStep e 0x10 d a b parm) else .refused .noSuchUnit := rfl
theorem exec_zpMax (e : Nat) (d : Nat) (a : Nat) (b : Nat) (parm : Nat) (s : State) :
    exec (.zpMax e d a b parm) s = if e < 256 then s.run (fun c => c.zoneStep e 0x11 d a b parm) else .refused .noSuchUnit := rfl
theorem exec_zpLim (e : Nat) (d : Nat) (a : Nat) (b : Nat) (parm : Nat) (s : State) :
    exec (.zpLim e d a b parm) s = if e < 256 then s.run (fun c => c.zoneStep e 0x12 d a b parm) else .refused .noSuchUnit := rfl
theorem exec_zpClp01 (e : Nat) (d : Nat) (a : Nat) (imm : Nat) (s : State) :
    exec (.zpClp01 e d a imm) s = if e < 256 then s.run (fun c => c.zoneStep e 0x13 d a (imm / 2048) (imm % 2048)) else .refused .noSuchUnit := rfl
theorem exec_zpCmp (e : Nat) (d : Nat) (a : Nat) (b : Nat) (parm : Nat) (s : State) :
    exec (.zpCmp e d a b parm) s = if e < 256 then s.run (fun c => c.zoneStep e 0x14 d a b parm) else .refused .noSuchUnit := rfl
theorem exec_zpSel (e : Nat) (d : Nat) (a : Nat) (b : Nat) (parm : Nat) (s : State) :
    exec (.zpSel e d a b parm) s = if e < 256 then s.run (fun c => c.zoneStep e 0x15 d a b parm) else .refused .noSuchUnit := rfl
theorem exec_zpSkip (e : Nat) (d : Nat) (a : Nat) (imm : Nat) (s : State) :
    exec (.zpSkip e d a imm) s = if e < 256 then s.run (fun c => c.zoneStep e 0x16 d a (imm / 2048) (imm % 2048)) else .refused .noSuchUnit := rfl
theorem exec_zpSkipn (e : Nat) (d : Nat) (a : Nat) (imm : Nat) (s : State) :
    exec (.zpSkipn e d a imm) s = if e < 256 then s.run (fun c => c.zoneStep e 0x17 d a (imm / 2048) (imm % 2048)) else .refused .noSuchUnit := rfl
theorem exec_zpTblc (e : Nat) (d : Nat) (a : Nat) (imm : Nat) (s : State) :
    exec (.zpTblc e d a imm) s = if e < 256 then s.run (fun c => c.zoneStep e 0x18 d a (imm / 2048) (imm % 2048)) else .refused .noSuchUnit := rfl
theorem exec_zpTblp (e : Nat) (d : Nat) (a : Nat) (imm : Nat) (s : State) :
    exec (.zpTblp e d a imm) s = if e < 256 then s.run (fun c => c.zoneStep e 0x19 d a (imm / 2048) (imm % 2048)) else .refused .noSuchUnit := rfl
theorem exec_zpLpf (e : Nat) (d : Nat) (a : Nat) (b : Nat) (parm : Nat) (s : State) :
    exec (.zpLpf e d a b parm) s = if e < 256 then s.run (fun c => c.zoneStep e 0x1A d a b parm) else .refused .noSuchUnit := rfl
theorem exec_zpRate (e : Nat) (d : Nat) (a : Nat) (b : Nat) (parm : Nat) (s : State) :
    exec (.zpRate e d a b parm) s = if e < 256 then s.run (fun c => c.zoneStep e 0x1B d a b parm) else .refused .noSuchUnit := rfl
theorem exec_zpHyst (e : Nat) (d : Nat) (a : Nat) (b : Nat) (parm : Nat) (s : State) :
    exec (.zpHyst e d a b parm) s = if e < 256 then s.run (fun c => c.zoneStep e 0x1C d a b parm) else .refused .noSuchUnit := rfl
theorem exec_zpTon (e : Nat) (d : Nat) (a : Nat) (b : Nat) (parm : Nat) (s : State) :
    exec (.zpTon e d a b parm) s = if e < 256 then s.run (fun c => c.zoneStep e 0x1D d a b parm) else .refused .noSuchUnit := rfl
theorem exec_zpRdb (e : Nat) (d : Nat) (a : Nat) (imm : Nat) (s : State) :
    exec (.zpRdb e d a imm) s = if e < 256 then s.run (fun c => c.zoneStep e 0x1E d a (imm / 2048) (imm % 2048)) else .refused .noSuchUnit := rfl
theorem exec_zpRdba (e : Nat) (d : Nat) (a : Nat) (imm : Nat) (s : State) :
    exec (.zpRdba e d a imm) s = if e < 256 then s.run (fun c => c.zoneStep e 0x1F d a (imm / 2048) (imm % 2048)) else .refused .noSuchUnit := rfl
theorem exec_zpPfus (e : Nat) (d : Nat) (a : Nat) (imm : Nat) (s : State) :
    exec (.zpPfus e d a imm) s = if e < 256 then s.run (fun c => c.zoneStep e 0x20 d a (imm / 2048) (imm % 2048)) else .refused .noSuchUnit := rfl
theorem exec_zpOcc (e : Nat) (d : Nat) (a : Nat) (b : Nat) (parm : Nat) (s : State) :
    exec (.zpOcc e d a b parm) s = if e < 256 then s.run (fun c => c.zoneStep e 0x21 d a b parm) else .refused .noSuchUnit := rfl
theorem exec_zpSched (e : Nat) (d : Nat) (a : Nat) (imm : Nat) (s : State) :
    exec (.zpSched e d a imm) s = if e < 256 then s.run (fun c => c.zoneStep e 0x22 d a (imm / 2048) (imm % 2048)) else .refused .noSuchUnit := rfl
theorem exec_zpPlan (e : Nat) (d : Nat) (a : Nat) (imm : Nat) (s : State) :
    exec (.zpPlan e d a imm) s = if e < 256 then s.run (fun c => c.zoneStep e 0x23 d a (imm / 2048) (imm % 2048)) else .refused .noSuchUnit := rfl
theorem exec_zpRdsys (e : Nat) (d : Nat) (a : Nat) (imm : Nat) (s : State) :
    exec (.zpRdsys e d a imm) s = if e < 256 then s.run (fun c => c.zoneStep e 0x24 d a (imm / 2048) (imm % 2048)) else .refused .noSuchUnit := rfl
theorem exec_zpPi (e : Nat) (d : Nat) (a : Nat) (b : Nat) (parm : Nat) (s : State) :
    exec (.zpPi e d a b parm) s = if e < 256 then s.run (fun c => c.zoneStep e 0x25 d a b parm) else .refused .noSuchUnit := rfl
theorem exec_zpApi (e : Nat) (d : Nat) (a : Nat) (b : Nat) (parm : Nat) (s : State) :
    exec (.zpApi e d a b parm) s = if e < 256 then s.run (fun c => c.zoneStep e 0x26 d a b parm) else .refused .noSuchUnit := rfl
theorem exec_zpMff (e : Nat) (d : Nat) (a : Nat) (imm : Nat) (s : State) :
    exec (.zpMff e d a imm) s = if e < 256 then s.run (fun c => c.zoneStep e 0x27 d a (imm / 2048) (imm % 2048)) else .refused .noSuchUnit := rfl
theorem exec_zpAtun (e : Nat) (d : Nat) (a : Nat) (b : Nat) (parm : Nat) (s : State) :
    exec (.zpAtun e d a b parm) s = if e < 256 then s.run (fun c => c.zoneStep e 0x28 d a b parm) else .refused .noSuchUnit := rfl
theorem exec_zpRdn (e : Nat) (d : Nat) (a : Nat) (imm : Nat) (s : State) :
    exec (.zpRdn e d a imm) s = if e < 256 then s.run (fun c => c.zoneStep e 0x29 d a (imm / 2048) (imm % 2048)) else .refused .noSuchUnit := rfl
theorem exec_zpPubt (e : Nat) (d : Nat) (a : Nat) (imm : Nat) (s : State) :
    exec (.zpPubt e d a imm) s = if e < 256 then s.run (fun c => c.zoneStep e 0x2A d a (imm / 2048) (imm % 2048)) else .refused .noSuchUnit := rfl
theorem exec_zpDem (e : Nat) (d : Nat) (a : Nat) (imm : Nat) (s : State) :
    exec (.zpDem e d a imm) s = if e < 256 then s.run (fun c => c.zoneStep e 0x2B d a (imm / 2048) (imm % 2048)) else .refused .noSuchUnit := rfl
theorem exec_zpPst (e : Nat) (d : Nat) (a : Nat) (imm : Nat) (s : State) :
    exec (.zpPst e d a imm) s = if e < 256 then s.run (fun c => c.zoneStep e 0x2C d a (imm / 2048) (imm % 2048)) else .refused .noSuchUnit := rfl
theorem exec_zpAlm (e : Nat) (d : Nat) (a : Nat) (imm : Nat) (s : State) :
    exec (.zpAlm e d a imm) s = if e < 256 then s.run (fun c => c.zoneStep e 0x2D d a (imm / 2048) (imm % 2048)) else .refused .noSuchUnit := rfl
theorem exec_zpMupd (e : Nat) (d : Nat) (a : Nat) (imm : Nat) (s : State) :
    exec (.zpMupd e d a imm) s = if e < 256 then s.run (fun c => c.zoneStep e 0x2E d a (imm / 2048) (imm % 2048)) else .refused .noSuchUnit := rfl
theorem exec_zpMrd (e : Nat) (d : Nat) (a : Nat) (imm : Nat) (s : State) :
    exec (.zpMrd e d a imm) s = if e < 256 then s.run (fun c => c.zoneStep e 0x2F d a (imm / 2048) (imm % 2048)) else .refused .noSuchUnit := rfl
theorem exec_programLoad (h : Hdr) (t : Nat) (id : Nat) (img : Nat) (s : State) :
    exec (.programLoad h t id img) s = s.run (fun c => c.programLoad h t id img) := rfl
theorem exec_programLoadResult (t : Nat) (s : State) :
    exec (.programLoadResult t) s = if t < 4 then s.run (fun c => c.programLoadResult t) else .refused .noSuchUnit := rfl
theorem exec_programUnload (h : Hdr) (t : Nat) (id : Nat) (force : Nat) (s : State) :
    exec (.programUnload h t id force) s = s.run (fun c => c.programUnload h t id force) := rfl
theorem exec_modelHeldTimeout (z : Nat) (s : State) :
    exec (.modelHeldTimeout z) s = if z < 1024 then s.run (fun c => c.modelHeldTimeout z) else .refused .noSuchUnit := rfl
theorem exec_neighbourDrop (z : Nat) (n : Nat) (s : State) :
    exec (.neighbourDrop z n) s = if z < 1024 ∧ n < 8 then s.run (fun c => c.neighbourDrop z n) else .refused .noSuchUnit := rfl
theorem exec_autoTuneStart (z : Nat) (s : State) :
    exec (.autoTuneStart z) s = if z < 1024 then s.run (fun c => c.autoTuneStart z) else .refused .noSuchUnit := rfl
theorem exec_relayTestEnd (z : Nat) (s : State) :
    exec (.relayTestEnd z) s = if z < 1024 then s.run (fun c => c.relayTestEnd z) else .refused .noSuchUnit := rfl
theorem exec_planRoundStart (s : State) :
    exec .planRoundStart s = s.run (fun c => c.planRoundStart) := rfl
theorem exec_planIterationDeadline (t : Nat) (doneMask : Nat) (s : State) :
    exec (.planIterationDeadline t doneMask) s = if t < 4 then s.run (fun c => c.planIterationDeadline t doneMask) else .refused .noSuchUnit := rfl
theorem exec_planLateDeadline (t : Nat) (s : State) :
    exec (.planLateDeadline t) s = if t < 4 then s.run (fun c => c.planLateDeadline t) else .refused .noSuchUnit := rfl
theorem exec_planCommit (t : Nat) (s : State) :
    exec (.planCommit t) s = if t < 4 then s.run (fun c => c.planCommit t) else .refused .noSuchUnit := rfl
theorem exec_planExpiry (z : Nat) (s : State) :
    exec (.planExpiry z) s = if z < 1024 then s.run (fun c => c.planExpiry z) else .refused .noSuchUnit := rfl
theorem exec_fightEvaluate (s : State) :
    exec .fightEvaluate s = s.run (fun c => c.fightEvaluate) := rfl
theorem exec_fightOffsetStep (z : Nat) (y : Nat) (s : State) :
    exec (.fightOffsetStep z y) s = if z < 1024 ∧ y < 1024 then s.run (fun c => c.fightOffsetStep z y) else .refused .noSuchUnit := rfl
theorem exec_learningArchiveWrite (s : State) :
    exec .learningArchiveWrite s = s.run (fun c => c.learningArchiveWrite) := rfl
theorem exec_modelReset (h : Hdr) (z : Nat) (what : Nat) (s : State) :
    exec (.modelReset h z what) s = s.run (fun c => c.modelReset h z what) := rfl
theorem exec_tuneStart (h : Hdr) (z : Nat) (fam : Nat) (s : State) :
    exec (.tuneStart h z fam) s = s.run (fun c => c.tuneStart h z fam) := rfl
theorem exec_tuneAbort (h : Hdr) (z : Nat) (s : State) :
    exec (.tuneAbort h z) s = s.run (fun c => c.tuneAbort h z) := rfl
theorem exec_modelCfgWrite (h : Hdr) (inst : Nat) (ver : Nat) (img : Nat) (s : State) :
    exec (.modelCfgWrite h inst ver img) s = s.run (fun c => c.writeRow h (fun x c => c.modelCfgWrite x inst ver img)) := rfl
theorem exec_allocFrameBoundary (s : State) :
    exec .allocFrameBoundary s = s.run (fun c => c.allocFrameBoundary) := rfl
theorem exec_class0Microslot (s : State) :
    exec .class0Microslot s = s.run (fun c => c.class0Microslot.fanMicroslot) := rfl
theorem exec_pdClassSample (code : Nat) (s : State) :
    exec (.pdClassSample code) s = if code < 8 then s.run (fun c => c.pdClassSample code) else .refused .noSuchUnit := rfl
theorem exec_valveCycleEnd (ch : Nat) (s : State) :
    exec (.valveCycleEnd ch) s = if ch < 96 then s.run (fun c => c.valveCycleEnd ch) else .refused .noSuchUnit := rfl
theorem exec_shedHoldoffExpiry (s : State) :
    exec .shedHoldoffExpiry s = s.run (fun c => c.shedHoldoffExpiry) := rfl
theorem exec_plantStop (h : Hdr) (mask : Nat) (s : State) :
    exec (.plantStop h mask) s = s.run (fun c => c.plantStop h mask) := rfl
theorem exec_plantResume (h : Hdr) (mask : Nat) (s : State) :
    exec (.plantResume h mask) s = s.run (fun c => c.plantResume h mask) := rfl
theorem exec_actMapWrite (h : Hdr) (inst : Nat) (ver : Nat) (img : Nat) (s : State) :
    exec (.actMapWrite h inst ver img) s = s.run (fun c => c.writeRow h (fun x c => c.actMapWrite x inst ver img)) := rfl
theorem exec_budgetCfgWrite (h : Hdr) (inst : Nat) (ver : Nat) (img : Nat) (s : State) :
    exec (.budgetCfgWrite h inst ver img) s = s.run (fun c => c.writeRow h (fun x c => c.budgetCfgWrite x inst ver img)) := rfl
theorem exec_boostEnd (ch : Nat) (s : State) :
    exec (.boostEnd ch) s = if ch < 96 then s.run (fun c => c.boostEnd ch) else .refused .noSuchUnit := rfl
theorem exec_closureWatchSample (ch : Nat) (time : Nat) (ma : Nat) (s : State) :
    exec (.closureWatchSample ch time ma) s = if ch < 96 then s.run (fun c => c.closureWatchSample ch time ma) else .refused .noSuchUnit := rfl
theorem exec_coilModelUpdate (currents : List (Nat × Nat)) (s : State) :
    exec (.coilModelUpdate currents) s = s.run (fun c => c.coilModelUpdate currents) := rfl
theorem exec_offStateDiagnostic (ch : Nat) (mv0 : Nat) (mv1 : Nat) (s : State) :
    exec (.offStateDiagnostic ch mv0 mv1) s = if ch < 96 then s.run (fun c => c.offStateDiagnostic ch mv0 mv1) else .refused .noSuchUnit := rfl
theorem exec_channelShortTrip (ch : Nat) (s : State) :
    exec (.channelShortTrip ch) s = if ch < 96 then s.run (fun c => c.channelShortTrip ch) else .refused .noSuchUnit := rfl
theorem exec_channelJunctionTrip (ch : Nat) (s : State) :
    exec (.channelJunctionTrip ch) s = if ch < 96 then s.run (fun c => c.channelJunctionTrip ch) else .refused .noSuchUnit := rfl
theorem exec_dieSumTrip (die : Nat) (s : State) :
    exec (.dieSumTrip die) s = if die < 2 then s.run (fun c => c.dieSumTrip die) else .refused .noSuchUnit := rfl
theorem exec_pkgOcClear (ch : Nat) (s : State) :
    exec (.pkgOcClear ch) s = if ch < 96 then s.run (fun c => c.pkgOcClear ch) else .refused .noSuchUnit := rfl
theorem exec_channelOvercurrent (ch : Nat) (ma : Nat) (s : State) :
    exec (.channelOvercurrent ch ma) s = if ch < 96 then s.run (fun c => c.channelOvercurrent ch ma) else .refused .noSuchUnit := rfl
theorem exec_channelOpenLoad (ch : Nat) (ma : Nat) (s : State) :
    exec (.channelOpenLoad ch ma) s = if ch < 96 then s.run (fun c => c.channelOpenLoad ch ma) else .refused .noSuchUnit := rfl
theorem exec_channelSenseLost (ch : Nat) (s : State) :
    exec (.channelSenseLost ch) s = if ch < 96 then s.run (fun c => c.channelSenseLost ch) else .refused .noSuchUnit := rfl
theorem exec_vboostMonitor (v : Nat) (s : State) :
    exec (.vboostMonitor v) s = s.run (fun c => c.vboostMonitor v) := rfl
theorem exec_boostNotReady (s : State) :
    exec .boostNotReady s = s.run (fun c => c.boostNotReady) := rfl
theorem exec_boostReadyClear (s : State) :
    exec .boostReadyClear s = s.run (fun c => c.boostReadyClear) := rfl
theorem exec_channelManual (h : Hdr) (ch : Nat) (mode : Nat) (wait : Nat) (timeout : Nat) (s : State) :
    exec (.channelManual h ch mode wait timeout) s = s.run (fun c => c.channelManual h ch mode wait timeout) := rfl
theorem exec_channelManualTimeout (ch : Nat) (s : State) :
    exec (.channelManualTimeout ch) s = if ch < 96 then s.run (fun c => c.channelManualTimeout ch) else .refused .noSuchUnit := rfl
theorem exec_channelReset (h : Hdr) (ch : Nat) (s : State) :
    exec (.channelReset h ch) s = s.run (fun c => c.channelReset h ch) := rfl
theorem exec_channelForceOff (h : Hdr) (mask : Nat) (s : State) :
    exec (.channelForceOff h mask) s = s.run (fun c => c.channelForceOff h mask) := rfl
theorem exec_channelForceRelease (h : Hdr) (mask : Nat) (s : State) :
    exec (.channelForceRelease h mask) s = s.run (fun c => c.channelForceRelease h mask) := rfl
theorem exec_chCfgWrite (h : Hdr) (inst : Nat) (ver : Nat) (img : Nat) (s : State) :
    exec (.chCfgWrite h inst ver img) s = s.run (fun c => c.writeRow h (fun x c => c.chCfgWrite x inst ver img)) := rfl
theorem exec_encoderEdge (e : Nat) (levels : Nat) (time : Nat) (s : State) :
    exec (.encoderEdge e levels time) s = if e < 24 ∧ levels < 8 then s.run (fun c => c.encoderEdge e levels time) else .refused .noSuchUnit := rfl
theorem exec_sincosSample (e : Nat) (sinv : Int) (cosv : Int) (time : Nat) (s : State) :
    exec (.sincosSample e sinv cosv time) s = if e < 24 then s.run (fun c => c.sincosSample e sinv cosv time) else .refused .noSuchUnit := rfl
theorem exec_indexEdge (e : Nat) (time : Nat) (s : State) :
    exec (.indexEdge e time) s = if e < 24 then s.run (fun c => c.indexEdge e time) else .refused .noSuchUnit := rfl
theorem exec_encDirection (e : Nat) (s : State) :
    exec (.encDirection e) s = if e < 24 then s.run (fun c => c.encDirection e) else .refused .noSuchUnit := rfl
theorem exec_speedLoopUpdate (e : Nat) (time : Nat) (s : State) :
    exec (.speedLoopUpdate e time) s = if e < 24 then s.run (fun c => c.speedLoopUpdate e time) else .refused .noSuchUnit := rfl
theorem exec_positionLoopUpdate (a : Nat) (ma : Nat) (s : State) :
    exec (.positionLoopUpdate a ma) s = if a < 24 then s.run (fun c => c.positionLoopUpdate a ma) else .refused .noSuchUnit := rfl
theorem exec_axisInPosition (a : Nat) (s : State) :
    exec (.axisInPosition a) s = if a < 24 then s.run (fun c => c.axisInPosition a) else .refused .noSuchUnit := rfl
theorem exec_driftCorrection (a : Nat) (s : State) :
    exec (.driftCorrection a) s = if a < 24 then s.run (fun c => c.driftCorrection a) else .refused .noSuchUnit := rfl
theorem exec_axisStall (a : Nat) (s : State) :
    exec (.axisStall a) s = if a < 24 then s.run (fun c => c.axisStall a) else .refused .noSuchUnit := rfl
theorem exec_stallRetry (a : Nat) (s : State) :
    exec (.stallRetry a) s = if a < 24 then s.run (fun c => c.stallRetry a) else .refused .noSuchUnit := rfl
theorem exec_axisMoveTimeout (a : Nat) (s : State) :
    exec (.axisMoveTimeout a) s = if a < 24 then s.run (fun c => c.axisMoveTimeout a) else .refused .noSuchUnit := rfl
theorem exec_homeTimeout (a : Nat) (s : State) :
    exec (.homeTimeout a) s = if a < 24 then s.run (fun c => c.homeTimeout a) else .refused .noSuchUnit := rfl
theorem exec_axisNoCurrent (a : Nat) (ma : Nat) (s : State) :
    exec (.axisNoCurrent a ma) s = if a < 24 then s.run (fun c => c.axisNoCurrent a ma) else .refused .noSuchUnit := rfl
theorem exec_axisSenseStale (a : Nat) (s : State) :
    exec (.axisSenseStale a) s = if a < 24 then s.run (fun c => c.axisSenseStale a) else .refused .noSuchUnit := rfl
theorem exec_axisManual (h : Hdr) (a : Nat) (mode : Nat) (pos : Nat) (timeout : Nat) (s : State) :
    exec (.axisManual h a mode pos timeout) s = s.run (fun c => c.axisManual h a mode pos timeout) := rfl
theorem exec_axisManualTimeout (a : Nat) (s : State) :
    exec (.axisManualTimeout a) s = if a < 24 then s.run (fun c => c.axisManualTimeout a) else .refused .noSuchUnit := rfl
theorem exec_axisHome (h : Hdr) (a : Nat) (s : State) :
    exec (.axisHome h a) s = s.run (fun c => c.axisHome h a) := rfl
theorem exec_axisReset (h : Hdr) (a : Nat) (trip : Bool) (s : State) :
    exec (.axisReset h a trip) s = s.run (fun c => c.axisReset h a trip) := rfl
theorem exec_encArmIndex (h : Hdr) (e : Nat) (arm : Nat) (s : State) :
    exec (.encArmIndex h e arm) s = s.run (fun c => c.encArmIndex h e arm) := rfl
theorem exec_encPreset (h : Hdr) (e : Nat) (pos : Nat) (s : State) :
    exec (.encPreset h e pos) s = s.run (fun c => c.encPreset h e pos) := rfl
theorem exec_axCfgWrite (h : Hdr) (inst : Nat) (ver : Nat) (img : Nat) (s : State) :
    exec (.axCfgWrite h inst ver img) s = s.run (fun c => c.writeRow h (fun x c => c.axCfgWrite x inst ver img)) := rfl
theorem exec_encCfgWrite (h : Hdr) (inst : Nat) (ver : Nat) (img : Nat) (s : State) :
    exec (.encCfgWrite h inst ver img) s = s.run (fun c => c.writeRow h (fun x c => c.encCfgWrite x inst ver img)) := rfl
theorem exec_fanStep (time : Nat) (s : State) :
    exec (.fanStep time) s = s.run (fun c => c.fanStep time) := rfl
theorem exec_tachEdge (p : Nat) (time : Nat) (s : State) :
    exec (.tachEdge p time) s = if p < 32 then s.run (fun c => c.tachEdge p time) else .refused .noSuchUnit := rfl
theorem exec_fanWatchdogExpiry (s : State) :
    exec .fanWatchdogExpiry s = s.run (fun c => c.fanWatchdogExpiry) := rfl
theorem exec_purgeDurationEnd (set : Nat) (s : State) :
    exec (.purgeDurationEnd set) s = if set < 8 then s.run (fun c => c.purgeDurationEnd set) else .refused .noSuchUnit := rfl
theorem exec_fanManual (h : Hdr) (g : Nat) (mode : Nat) (duty : Nat) (timeout : Nat) (s : State) :
    exec (.fanManual h g mode duty timeout) s = s.run (fun c => c.fanManual h g mode duty timeout) := rfl
theorem exec_fanManualTimeout (g : Nat) (s : State) :
    exec (.fanManualTimeout g) s = if g < 16 then s.run (fun c => c.fanManualTimeout g) else .refused .noSuchUnit := rfl
theorem exec_fangroupReset (h : Hdr) (g : Nat) (s : State) :
    exec (.fangroupReset h g) s = s.run (fun c => c.fangroupReset h g) := rfl
theorem exec_purgeRequest (h : Hdr) (set : Nat) (action : Nat) (s : State) :
    exec (.purgeRequest h set action) s = s.run (fun c => c.purgeRequest h set action) := rfl
theorem exec_fanPortCfgWrite (h : Hdr) (inst : Nat) (ver : Nat) (img : Nat) (s : State) :
    exec (.fanPortCfgWrite h inst ver img) s = s.run (fun c => c.writeRow h (fun x c => c.fanPortCfgWrite x inst ver img)) := rfl
theorem exec_arrayRegularTrigger (s : State) :
    exec .arrayRegularTrigger s = s.run (fun c => c.arrayRegularTrigger) := rfl
theorem exec_arrayInjectedTrigger (a : Nat) (s : State) :
    exec (.arrayInjectedTrigger a) s = if a < 2 then s.run (fun c => c.arrayInjectedTrigger a) else .refused .noSuchUnit := rfl
theorem exec_conversionComplete (a : Nat) (kind : Nat) (idx : Nat) (slice : Nat) (raws : List Nat) (s : State) :
    exec (.conversionComplete a kind idx slice raws) s = if a < 2 ∧ kind < 2 then s.run (fun c => c.conversionComplete a kind idx slice raws) else .refused .noSuchUnit := rfl
theorem exec_arraySequenceEnd (a : Nat) (s : State) :
    exec (.arraySequenceEnd a) s = if a < 2 then s.run (fun c => if a = 1 then (c.arraySequenceEnd 1).senseBack.axSenseBack else c.arraySequenceEnd a) else .refused .noSuchUnit := rfl
theorem exec_selfCalibrationStart (a : Nat) (s : State) :
    exec (.selfCalibrationStart a) s = if a < 2 then s.run (fun c => c.selfCalStart a) else .refused .noSuchUnit := rfl
theorem exec_selfCalibrationComplete (a : Nat) (factors : List (Int × Int × Int)) (late : Bool) (s : State) :
    exec (.selfCalibrationComplete a factors late) s = if a < 2 then s.run (fun c => c.selfCalComplete a factors late) else .refused .noSuchUnit := rfl
theorem exec_ainProcess (s : State) :
    exec .ainProcess s = s.run (fun c => c.ainProcess) := rfl
theorem exec_ainPublish (n : Nat) (s : State) :
    exec (.ainPublish n) s = if n < 64 then s.run (fun c => c.ainPublish n) else .refused .noSuchUnit := rfl
theorem exec_prsSample (closed : Nat) (s : State) :
    exec (.prsSample closed) s = s.run (fun c => c.prsSample closed) := rfl
theorem exec_presenceRefresh (s : State) :
    exec .presenceRefresh s = s.run (fun c => c.presenceRefresh) := rfl
theorem exec_keypadScan (ratios : List Nat) (s : State) :
    exec (.keypadScan ratios) s = s.run (fun c => c.keypadScan ratios) := rfl
theorem exec_keyStuck (kp : Nat) (l : Nat) (s : State) :
    exec (.keyStuck kp l) s = if kp < 24 ∧ l < 2 then s.run (fun c => c.keyStuck kp l) else .refused .noSuchUnit := rfl
theorem exec_nudgeHoldExpiry (kp : Nat) (s : State) :
    exec (.nudgeHoldExpiry kp) s = if kp < 24 then s.run (fun c => c.nudgeHoldExpiry kp) else .refused .noSuchUnit := rfl
theorem exec_keypadBindingRefresh (s : State) :
    exec .keypadBindingRefresh s = s.run (fun c => c.keypadBindingRefresh) := rfl
theorem exec_wardenScan (keys : Nat) (s : State) :
    exec (.wardenScan keys) s = s.run (fun c => c.wardenScan keys) := rfl
theorem exec_keyLogMove (s : State) :
    exec .keyLogMove s = s.run (fun c => c.keyLogMove) := rfl
theorem exec_feederReport (h : Hdr) (entries : List (Nat × Nat × Nat)) (s : State) :
    exec (.feederReport h entries) s = s.run (fun c => c.feederReport h (entries.map (fun q => ⟨q.1, q.2.1, q.2.2⟩))) := rfl
theorem exec_meterPoll (s : State) :
    exec .meterPoll s = s.run (fun c => c.meterPoll) := rfl
theorem exec_modbusResponse (addr : Nat) (func : Nat) (crcOk : Bool) (regs : List Nat) (s : State) :
    exec (.modbusResponse addr func crcOk regs) s = s.run (fun c => c.modbusResponse addr func crcOk regs) := rfl
theorem exec_modbusTimeout (s : State) :
    exec .modbusTimeout s = s.run (fun c => c.modbusTimeout) := rfl
theorem exec_arraySelfCal (h : Hdr) (a : Nat) (s : State) :
    exec (.arraySelfCal h a) s = s.run (fun c => c.arraySelfCal h a) := rfl
theorem exec_arrayReset (h : Hdr) (a : Nat) (s : State) :
    exec (.arrayReset h a) s = s.run (fun c => c.arrayReset h a) := rfl
theorem exec_keyLogRead (h : Hdr) (src : Nat) (from_ : Nat) (s : State) :
    exec (.keyLogRead h src from_) s = s.run (fun c => c.keyLogRead h src from_) := rfl
theorem exec_feedSrcWrite (h : Hdr) (inst : Nat) (ver : Nat) (img : Nat) (s : State) :
    exec (.feedSrcWrite h inst ver img) s = s.run (fun c => c.writeRow h (fun x c => c.feedSrcWrite x inst ver img)) := rfl
theorem exec_meterCfgWrite (h : Hdr) (inst : Nat) (ver : Nat) (img : Nat) (s : State) :
    exec (.meterCfgWrite h inst ver img) s = s.run (fun c => c.writeRow h (fun x c => c.meterCfgWrite x inst ver img)) := rfl
theorem exec_fbkClockLoss (s : State) :
    exec .fbkClockLoss s = s.run (fun c => c.fbkClockLoss) := rfl
theorem exec_fbkClockReturn (s : State) :
    exec .fbkClockReturn s = s.run (fun c => c.fbkClockReturn) := rfl
theorem exec_freshEvaluationEnd (s : State) :
    exec .freshEvaluationEnd s = s.run (fun c => c.freshEvaluationEnd) := rfl
theorem exec_inputFilterExpiry (n : Nat) (ohms : Nat) (s : State) :
    exec (.inputFilterExpiry n ohms) s = if n < 4 then s.run (fun c => c.inputFilterExpiry n ohms) else .refused .noSuchUnit := rfl
theorem exec_lineFaultExpiry (n : Nat) (ohms : Nat) (s : State) :
    exec (.lineFaultExpiry n ohms) s = if n < 4 then s.run (fun c => c.lineFaultExpiry n ohms) else .refused .noSuchUnit := rfl
theorem exec_discrepancyExpiry (s : State) :
    exec .discrepancyExpiry s = s.run (fun c => c.discrepancyExpiry) := rfl
theorem exec_safetyReset (key : Nat) (okMask : Nat) (s : State) :
    exec (.safetyReset key okMask) s = if key < 64 then s.run (fun c => c.safetyReset key okMask) else .refused .noSuchUnit := rfl
theorem exec_wardenKeyStuck (key : Nat) (s : State) :
    exec (.wardenKeyStuck key) s = if key < 64 then s.run (fun c => c.wardenKeyStuck key) else .refused .noSuchUnit := rfl
theorem exec_heartbeatWrite (gatehouse : Bool) (s : State) :
    exec (.heartbeatWrite gatehouse) s = s.run (fun c => c.heartbeatWrite gatehouse) := rfl
theorem exec_heartbeatTimeout (s : State) :
    exec .heartbeatTimeout s = s.run (fun c => c.heartbeatTimeout) := rfl
theorem exec_soEnergise (s : State) :
    exec .soEnergise s = s.run (fun c => c.soEnergise) := rfl
theorem exec_offPulseTest (k : Nat) (pass : Bool) (s : State) :
    exec (.offPulseTest k pass) s = if k < 16 then s.run (fun c => c.offPulseTest k pass) else .refused .noSuchUnit := rfl
theorem exec_soReadbackFault (k : Nat) (kind : Nat) (ma : Nat) (s : State) :
    exec (.soReadbackFault k kind ma) s = if k < 16 then s.run (fun c => c.soReadback k kind ma) else .refused .noSuchUnit := rfl
theorem exec_vsafeChange (low : Bool) (dv : Nat) (s : State) :
    exec (.vsafeChange low dv) s = s.run (fun c => c.vsafeChange low dv) := rfl
theorem exec_safetyConfigCommit (h : Hdr) (which : Nat) (inst : Nat) (ver : Nat) (img : Nat) (s : State) :
    exec (.safetyConfigCommit h which inst ver img) s = if which < 5 then s.run (fun c => c.writeRow h (fun x c => c.writeSafety x (safetyRecord which) inst ver img)) else .refused .noSuchUnit := rfl
theorem exec_soRequest (h : Hdr) (set : Nat) (clear : Nat) (s : State) :
    exec (.soRequest h set clear) s = s.run (fun c => c.soRequest h set clear) := rfl
theorem exec_meteringTick (fails : Bool) (s : State) :
    exec (.meteringTick fails) s = s.run (fun c => c.meteringTick fails) := rfl
theorem exec_statementExpiry (o : Nat) (s : State) :
    exec (.statementExpiry o) s = if o < 257 then s.run (fun c => c.statementExpiry o) else .refused .noSuchUnit := rfl
theorem exec_epochCut (h : Hdr) (o : Nat) (cut : Nat) (s : State) :
    exec (.epochCut h o cut) s = s.run (fun c => c.epochCut h o cut) := rfl
theorem exec_epochSign (h : Hdr) (o : Nat) (seq : Nat) (sig : Sig) (s : State) :
    exec (.epochSign h o seq sig) s = s.run (fun c => c.epochSign h o seq sig) := rfl
theorem exec_meterMapWrite (h : Hdr) (inst : Nat) (ver : Nat) (img : Nat) (s : State) :
    exec (.meterMapWrite h inst ver img) s = s.run (fun c => c.writeRow h (fun x c => c.meterMapWrite x inst ver img)) := rfl
theorem exec_rtcXtalFailure (stopped : Bool) (s : State) :
    exec (.rtcXtalFailure stopped) s = s.run (fun c => c.rtcXtalFailure stopped) := rfl
theorem exec_rtcXtalRestore (s : State) :
    exec .rtcXtalRestore s = s.run (fun c => c.rtcXtalRestore) := rfl
theorem exec_selectorEvaluate (spread0 : Nat) (spread1 : Nat) (s : State) :
    exec (.selectorEvaluate spread0 spread1) s = s.run (fun c => c.selectorEvaluate spread0 spread1) := rfl
theorem exec_referenceQualified (s : State) :
    exec .referenceQualified s = s.run (fun c => c.referenceQualified) := rfl
theorem exec_holdoverExpiry (s : State) :
    exec .holdoverExpiry s = s.run (fun c => c.holdoverExpiry) := rfl
theorem exec_ptpAnnounce (p : Nat) (msg : Announce) (good : Bool) (s : State) :
    exec (.ptpAnnounce p msg good) s = if p < 2 then s.run (fun c => c.ptpAnnounce p msg good) else .refused .noSuchUnit := rfl
theorem exec_announceTimeout (p : Nat) (s : State) :
    exec (.announceTimeout p) s = if p < 2 then s.run (fun c => c.announceTimeout p) else .refused .noSuchUnit := rfl
theorem exec_ptpSync (p : Nat) (msg : PtpMsg) (twoStep : Bool) (origin : Int) (corr : Int) (s : State) :
    exec (.ptpSync p msg twoStep origin corr) s = if p < 2 then s.run (fun c => c.ptpSync p msg twoStep origin corr) else .refused .noSuchUnit := rfl
theorem exec_ptpFollowUp (p : Nat) (msg : PtpMsg) (origin : Int) (corr : Int) (s : State) :
    exec (.ptpFollowUp p msg origin corr) s = if p < 2 then s.run (fun c => c.ptpFollowUp p msg origin corr) else .refused .noSuchUnit := rfl
theorem exec_ptpDelayResp (p : Nat) (msg : PtpMsg) (received : Int) (corr : Int) (s : State) :
    exec (.ptpDelayResp p msg received corr) s = if p < 2 then s.run (fun c => c.ptpDelayResp p msg received corr) else .refused .noSuchUnit := rfl
theorem exec_delayReqSend (p : Nat) (fine : Nat) (stamped : Bool) (s : State) :
    exec (.delayReqSend p fine stamped) s = if p < 2 then s.run (fun c => c.delayReqSend p fine stamped) else .refused .noSuchUnit := rfl
theorem exec_ppsEdge (fine : Nat) (s : State) :
    exec (.ppsEdge fine) s = s.run (fun c => c.ppsEdge fine) := rfl
theorem exec_rtcForwardStep (s : State) :
    exec .rtcForwardStep s = s.run (fun c => c.rtcForwardStep) := rfl
theorem exec_servoPhaseExpiry (s : State) :
    exec .servoPhaseExpiry s = s.run (fun c => c.servoPhaseExpiry) := rfl
theorem exec_daylightChange (s : State) :
    exec .daylightChange s = s.run (fun c => c.daylightChange) := rfl
theorem exec_localTimeEdge (s : State) :
    exec .localTimeEdge s = s.run (fun c => c.localTimeEdge) := rfl
theorem exec_timeCapture (h : Hdr) (fine : Nat) (s : State) :
    exec (.timeCapture h fine) s = s.run (fun c => c.timeCapture h fine) := rfl
theorem exec_timeSet (h : Hdr) (seconds : Nat) (s : State) :
    exec (.timeSet h seconds) s = s.run (fun c => c.timeSet h seconds) := rfl
theorem exec_timeRefCfgWrite (h : Hdr) (inst : Nat) (ver : Nat) (img : Nat) (s : State) :
    exec (.timeRefCfgWrite h inst ver img) s = s.run (fun c => c.writeRow h (fun x c => c.timeRefCfgWrite x inst ver img)) := rfl
theorem exec_ptpCfgWrite (h : Hdr) (inst : Nat) (ver : Nat) (img : Nat) (s : State) :
    exec (.ptpCfgWrite h inst ver img) s = s.run (fun c => c.writeRow h (fun x c => c.ptpCfgWrite x inst ver img)) := rfl
theorem exec_timeZoneWrite (h : Hdr) (inst : Nat) (ver : Nat) (img : Nat) (s : State) :
    exec (.timeZoneWrite h inst ver img) s = s.run (fun c => c.writeRow h (fun x c => c.timeZoneWrite x inst ver img)) := rfl
theorem exec_storeStart (s : State) :
    exec .storeStart s = s.run (fun c => c.storeStart) := rfl
theorem exec_storeCommit (ok : Bool) (page : Nat) (s : State) :
    exec (.storeCommit ok page) s = s.run (fun c => c.storeCommitAll ok page) := rfl
theorem exec_bankEraseDone (ok : Bool) (ckFails : Bool) (s : State) :
    exec (.bankEraseDone ok ckFails) s = s.run (fun c => c.bankEraseDone ok ckFails) := rfl
theorem exec_marginReadStart (s : State) :
    exec .marginReadStart s = s.run (fun c => c.marginStart) := rfl
theorem exec_marginReadDone (bank : Nat) (page : Nat) (ring : Nat) (s : State) :
    exec (.marginReadDone bank page ring) s = s.run (fun c => c.marginDone bank page ring) := rfl
theorem exec_ringSectorEraseDone (ok : Bool) (fails : Bool) (s : State) :
    exec (.ringSectorEraseDone ok fails) s = s.run (fun c => c.ringSectorEraseDone ok fails) := rfl
theorem exec_shadowPageReload (page : Nat) (s : State) :
    exec (.shadowPageReload page) s = if page < 512 then s.runMem (fun m c => c.shadowPageReload m page) else .refused .noSuchUnit := rfl
theorem exec_powerFail (dv : Nat) (s : State) :
    exec (.powerFail dv) s = s.run (fun c => c.powerFail dv) := rfl
theorem exec_store (h : Hdr) (s : State) :
    exec (.store h) s = s.run (fun c => c.storeCmd h) := rfl
theorem exec_rawOpen (h : Hdr) (kind : Nat) (word : Nat) (s : State) :
    exec (.rawOpen h kind word) s = s.run (fun c => c.rawOpen h kind word) := rfl
theorem exec_rawRead (h : Hdr) (offset : Nat) (len : Nat) (s : State) :
    exec (.rawRead h offset len) s = s.runMem (fun m c => c.rawRead m h offset len) := rfl
theorem exec_rawWrite (h : Hdr) (offset : Nat) (len : Nat) (data : Bytes) (s : State) :
    exec (.rawWrite h offset len data) s = s.runMem (fun m c => c.rawWrite m h offset len data) := rfl
theorem exec_shadowInit (h : Hdr) (serial : Nat) (confirm : Nat) (s : State) :
    exec (.shadowInit h serial confirm) s = s.run (fun c => c.shadowInit h serial confirm) := rfl
theorem exec_vbusConditionChange (code : Nat) (entered : Bool) (dv : Nat) (s : State) :
    exec (.vbusConditionChange code entered dv) s = if code < 5 then s.run (fun c => c.vbusConditionChange code entered dv) else .refused .noSuchUnit := rfl
theorem exec_holdRailStartDone (v : Nat) (s : State) :
    exec (.holdRailStartDone v) s = s.run (fun c => c.holdRailStartDone v) := rfl
theorem exec_holdRailStartTimeout (s : State) :
    exec .holdRailStartTimeout s = s.run (fun c => c.holdRailStartTimeout) := rfl
theorem exec_holdRailUndervolt (v : Nat) (s : State) :
    exec (.holdRailUndervolt v) s = s.run (fun c => c.holdRailUndervolt v) := rfl
theorem exec_holdRailOvervolt (v : Nat) (s : State) :
    exec (.holdRailOvervolt v) s = s.run (fun c => c.holdRailOvervolt v) := rfl
theorem exec_holdRailRestart (s : State) :
    exec .holdRailRestart s = s.run (fun c => c.holdRailRestart) := rfl
theorem exec_offsetCheck (uv : Nat) (ma : Nat) (s : State) :
    exec (.offsetCheck uv ma) s = s.run (fun c => c.offsetCheck uv ma) := rfl
theorem exec_phaseOpenDetect (p : Nat) (ma : Nat) (mean : Nat) (dutyPermille : Nat) (s : State) :
    exec (.phaseOpenDetect p ma mean dutyPermille) s = if p < 4 then s.run (fun c => c.phaseOpenDetect p ma mean dutyPermille) else .refused .noSuchUnit := rfl
theorem exec_phaseDisagree (p : Nat) (own : Nat) (arrayB : Nat) (s : State) :
    exec (.phaseDisagree p own arrayB) s = if p < 4 then s.run (fun c => c.phaseDisagree p own arrayB) else .refused .noSuchUnit := rfl
theorem exec_holdRailCfgWrite (h : Hdr) (inst : Nat) (ver : Nat) (img : Nat) (s : State) :
    exec (.holdRailCfgWrite h inst ver img) s = s.run (fun c => c.writeRow h (fun x c => c.holdRailCfgWrite x inst ver img)) := rfl
theorem exec_vcoreRaise (t : Nat) (fails : Nat) (word : Nat) (s : State) :
    exec (.vcoreRaise t fails word) s = if t < 4 then s.run (fun c => c.vcoreRaise t fails word) else .refused .noSuchUnit := rfl
theorem exec_vcoreSettled (mv : Nat) (us : Nat) (fails : Nat) (word : Nat) (s : State) :
    exec (.vcoreSettled mv us fails word) s = s.run (fun c => c.vcoreSettled mv us fails word) := rfl
theorem exec_terraceRelockStart (t : Nat) (s : State) :
    exec (.terraceRelockStart t) s = if t < 4 then s.run (fun c => c.terraceRelockStart t) else .refused .noSuchUnit := rfl
theorem exec_terraceRelockLocked (t : Nat) (s : State) :
    exec (.terraceRelockLocked t) s = if t < 4 then s.run (fun c => c.terraceRelockLocked t) else .refused .noSuchUnit := rfl
theorem exec_terraceRelockReturn (t : Nat) (fails : Nat) (word : Nat) (s : State) :
    exec (.terraceRelockReturn t fails word) s = if t < 4 then s.run (fun c => c.terraceRelockReturn t fails word) else .refused .noSuchUnit := rfl
theorem exec_pllLossOfLock (k : Nat) (s : State) :
    exec (.pllLossOfLock k) s = if k < 6 then s.run (fun c => c.pllLossOfLock k) else .refused .noSuchUnit := rfl
theorem exec_pllbRelock (s : State) :
    exec .pllbRelock s = s.run (fun c => c.pllbRelock) := rfl
theorem exec_slowRound (sens : List (Nat × Int)) (mv : Nat) (ma : Nat) (fails : Nat) (word : Nat) (slack : Nat) (s : State) :
    exec (.slowRound sens mv ma fails word slack) s = s.run (fun c => c.slowRound sens mv ma fails word slack) := rfl
theorem exec_buckRestore (h : Hdr) (mask : Nat) (v : Nat) (bad : Nat) (s : State) :
    exec (.buckRestore h mask v bad) s = s.run (fun c => c.buckRestore h mask v bad) := rfl
theorem exec_vaonValid (vbak : Nat) (s : State) :
    exec (.vaonValid vbak) s = s.run (fun c => c.vaonValid vbak) := rfl
theorem exec_firebreakTierReached (s : State) :
    exec .firebreakTierReached s = s.run (fun c => c.firebreakTierReached) := rfl
theorem exec_crystalStarted (s : State) :
    exec .crystalStarted s = s.run (fun c => c.crystalStarted) := rfl
theorem exec_refRcSwitch (s : State) :
    exec .refRcSwitch s = s.run (fun c => c.refRcSwitch) := rfl
theorem exec_coreEnable (s : State) :
    exec .coreEnable s = s.run (fun c => c.coreEnable) := rfl
theorem exec_pgCoreRise (pllA : Bool) (pllB : Bool) (s : State) :
    exec (.pgCoreRise pllA pllB) s = s.run (fun c => c.pgCoreRise pllA pllB) := rfl
theorem exec_coreStartTimeout (s : State) :
    exec .coreStartTimeout s = s.run (fun c => c.coreStartTimeout) := rfl
theorem exec_pgCoreLoss (s : State) :
    exec .pgCoreLoss s = s.run (fun c => c.pgCoreLoss) := rfl
theorem exec_brownout (rail : Nat) (good : Bool) (s : State) :
    exec (.brownout rail good) s = if rail < 2 then s.run (fun c => c.brownout rail good) else .refused .noSuchUnit := rfl
theorem exec_shadowPowerUp (badA : Bool) (badB : Bool) (copyFails : Bool) (s : State) :
    exec (.shadowPowerUp badA badB copyFails) s = s.runMem (fun m c => c.shadowPowerUpRow m badA badB copyFails) := rfl
theorem exec_gatehouseSelfTest (ok : Bool) (s : State) :
    exec (.gatehouseSelfTest ok) s = s.run (fun c => c.gatehouseSelfTest ok) := rfl
theorem exec_bootImageSelect (prog : List (Nat × Nat × Nat × Bool × Bool)) (s : State) :
    exec (.bootImageSelect prog) s = s.run (fun c => c.bootImageSelect prog) := rfl
theorem exec_kfwStart (ok : Bool) (s : State) :
    exec (.kfwStart ok) s = s.run (fun c => c.kfwStart ok) := rfl
theorem exec_terracesStart (fails : Nat) (linear : Bool) (s : State) :
    exec (.terracesStart fails linear) s = s.run (fun c => c.terracesStart fails linear) := rfl
theorem exec_fullCheck (s : State) :
    exec .fullCheck s = s.run (fun c => c.fullCheck) := rfl
theorem exec_tierFall (mask : Nat) (s : State) :
    exec (.tierFall mask) s = s.run (fun c => c.tierFall mask) := rfl
theorem exec_tierRise (mask : Nat) (linear : Bool) (s : State) :
    exec (.tierRise mask linear) s = s.run (fun c => c.tierRise mask linear) := rfl
theorem exec_keeperFault (cause : Nat) (s : State) :
    exec (.keeperFault cause) s = s.run (fun c => c.keeperFault cause) := rfl
theorem exec_keeperRestartComplete (s : State) :
    exec .keeperRestartComplete s = s.run (fun c => c.keeperRestartComplete) := rfl
theorem exec_gatehouseFault (s : State) :
    exec .gatehouseFault s = s.run (fun c => c.gatehouseFault) := rfl
theorem exec_gatehouseRestartComplete (s : State) :
    exec .gatehouseRestartComplete s = s.run (fun c => c.gatehouseRestartComplete) := rfl
theorem exec_tierHoldExpiry (s : State) :
    exec .tierHoldExpiry s = s.run (fun c => c.tierHoldExpiry) := rfl
theorem exec_powerReturn (s : State) :
    exec .powerReturn s = s.run (fun c => c.powerReturn) := rfl
theorem exec_chipReset (cause : Nat) (s : State) :
    exec (.chipReset cause) s = s.run (fun c => c.chipResetRow cause) := rfl
theorem exec_resetPinChange (isLow : Bool) (s : State) :
    exec (.resetPinChange isLow) s = s.run (fun c => c.resetPinChange isLow) := rfl
theorem exec_resetPinStuck (s : State) :
    exec .resetPinStuck s = s.run (fun c => c.resetPinStuck) := rfl
theorem exec_resetPinRecover (s : State) :
    exec .resetPinRecover s = s.run (fun c => c.resetPinRecover) := rfl
theorem exec_configBundleWrite (cut : Bool) (s : State) :
    exec (.configBundleWrite cut) s = s.run (fun c => c.configBundleWrite cut) := rfl
theorem exec_snapInTrigger (s : State) :
    exec .snapInTrigger s = s.run (fun c => c.snapInTrigger) := rfl
theorem exec_snapshot (h : Hdr) (s : State) :
    exec (.snapshot h) s = s.run (fun c => c.snapshot h) := rfl
theorem exec_snapRead (h : Hdr) (segment : Nat) (inst : Nat) (offset : Nat) (maxLen : Nat) (s : State) :
    exec (.snapRead h segment inst offset maxLen) s = s.run (fun c => c.snapRead h segment inst offset maxLen) := rfl
theorem exec_snapClear (h : Hdr) (s : State) :
    exec (.snapClear h) s = s.run (fun c => c.snapClear h) := rfl
theorem exec_fwStageOpen (h : Hdr) (image : Nat) (length : Nat) (s : State) :
    exec (.fwStageOpen h image length) s = s.run (fun c => c.fwStageOpen h image length) := rfl
theorem exec_fwStageEraseDone (s : State) :
    exec .fwStageEraseDone s = s.run (fun c => c.fwStageEraseDone) := rfl
theorem exec_fwStageWrite (h : Hdr) (image : Nat) (offset : Nat) (data : Bytes) (s : State) :
    exec (.fwStageWrite h image offset data) s = s.run (fun c => c.fwStageWrite h image offset data) := rfl
theorem exec_fwStageClose (h : Hdr) (image : Nat) (sigOk : Bool) (hashOk : Bool) (s : State) :
    exec (.fwStageClose h image sigOk hashOk) s = s.run (fun c => c.fwStageClose h image sigOk hashOk) := rfl
theorem exec_fwActivate (h : Hdr) (mask : Nat) (s : State) :
    exec (.fwActivate h mask) s = s.run (fun c => c.fwActivate h mask) := rfl
theorem exec_acceptUntestedSet (h : Hdr) (kfw : Nat) (zrt : Nat) (ghp : Nat) (sig : Sig) (s : State) :
    exec (.acceptUntestedSet h kfw zrt ghp sig) s = s.run (fun c => c.acceptUntestedSet h kfw zrt ghp sig) := rfl
theorem exec_frameRefusal (h : Hdr) (opcode : Nat) (fault : Nat) (s : State) :
    exec (.frameRefusal h opcode fault) s = if fault < 4 then s.run (fun c => c.frameRefusal h opcode fault) else .refused .noSuchUnit := rfl
theorem exec_ethernetLinkChange (p : Nat) (isUp : Bool) (s : State) :
    exec (.ethernetLinkChange p isUp) s = if p < 2 then s.run (fun c => c.ethernetLinkChange p isUp) else .refused .noSuchUnit := rfl
theorem exec_slewEnd (s : State) :
    exec .slewEnd s = s.run (fun c => c.slewEnd) := rfl
theorem exec_minEdgeExpiry (e : Nat) (time : Nat) (s : State) :
    exec (.minEdgeExpiry e time) s = if e < 24 then s.run (fun c => c.minEdgeExpiry e time) else .refused .noSuchUnit := rfl

end Sys2Proof.Machine
end

