-- ==== Sys2Proof/Laws/Settle.lean ====
section
/-!
SUPPORT. What settling the lines can change, and that every command and every step ends with it.
-/

namespace Sys2Proof.Machine

/-- The records whose fields follow a line. -/
def lineIds : List Nat := [FB_STATUS.id, AON_STATUS.id, CH_STATUS.id, AX_STATUS.id]

/-- The fields of `FB_STATUS` that follow their conditions. -/
abbrev fbLineFlds : List Fld := [FB_STATUS.SO_PERMIT, FB_STATUS.SO_REQ, FB_STATUS.FAILSAFE, FB_STATUS.SO_ON]

/-- `d` is `c` but for the channels, axes and targets that a forced-off line stops, the results of homings it ends, `FAULT_N` and the
Firebreak's permits, requests and outputs. -/
structure Lines (c d : Chip) : Prop where
  freeIdx : d.freeIdx = c.freeIdx
  sec : d.sec = c.sec
  fb : d.fb = c.fb
  store : d.store = c.store
  zones : d.zones = c.zones
  time : d.time = c.time
  sense : d.sense = c.sense
  meter : d.meter = c.meter
  boot : d.boot = c.boot
  host : { d.host with handles := c.host.handles } = c.host
  act : { d.act with chan := c.act.chan, axis := c.act.axis, tgt := c.act.tgt } = c.act
  img : ∀ r i, r.id % 0x10000 ∉ lineIds → d.img r i = c.img r i
  ver : ∀ r i, r.id % 0x10000 ∉ lineIds → d.version r i = c.version r i
  aon : ∀ f : Fld, f.apart AON_STATUS.FAULT_N_LOW → d.getF AON_STATUS 0 f = c.getF AON_STATUS 0 f
  fbs : ∀ f : Fld, (∀ g ∈ fbLineFlds, f.apart g) → d.getF FB_STATUS 0 f = c.getF FB_STATUS 0 f

theorem Lines.refl (c : Chip) : Lines c c :=
  ⟨rfl, rfl, rfl, rfl, rfl, rfl, rfl, rfl, rfl, rfl, rfl, fun _ _ _ => rfl, fun _ _ _ => rfl, fun _ _ => rfl, fun _ _ => rfl⟩

theorem Lines.trans {a b c : Chip} (h : Lines a b) (k : Lines b c) : Lines a c where
  freeIdx := k.freeIdx.trans h.freeIdx
  sec := k.sec.trans h.sec
  fb := k.fb.trans h.fb
  store := k.store.trans h.store
  zones := k.zones.trans h.zones
  time := k.time.trans h.time
  sense := k.sense.trans h.sense
  meter := k.meter.trans h.meter
  boot := k.boot.trans h.boot
  host := by rw [← h.host, ← k.host]
  act := by rw [← h.act, ← k.act]
  img := fun r i hr => (k.img r i hr).trans (h.img r i hr)
  ver := fun r i hr => (k.ver r i hr).trans (h.ver r i hr)
  aon := fun f hf => (k.aon f hf).trans (h.aon f hf)
  fbs := fun f hf => (k.fbs f hf).trans (h.fbs f hf)

theorem Lines.of_upd (c : Chip) (r : RecDesc) (i : Nat) (fs : List (Fld × Nat)) (hr : r.id % 0x10000 ∈ lineIds)
    (ha : ∀ f : Fld, f.apart AON_STATUS.FAULT_N_LOW → (c.upd r i fs).getF AON_STATUS 0 f = c.getF AON_STATUS 0 f)
    (hb : ∀ f : Fld, (∀ g ∈ fbLineFlds, f.apart g) → (c.upd r i fs).getF FB_STATUS 0 f = c.getF FB_STATUS 0 f) :
    Lines c (c.upd r i fs) where
  freeIdx := Chip.upd_freeIdx c r i fs
  sec := Chip.upd_sec c r i fs
  fb := Chip.upd_fb c r i fs
  store := Chip.upd_store c r i fs
  zones := Chip.upd_zones c r i fs
  time := Chip.upd_time c r i fs
  sense := Chip.upd_sense c r i fs
  meter := Chip.upd_meter c r i fs
  boot := Chip.upd_boot c r i fs
  host := by rw [Chip.upd_host]
  act := by rw [Chip.upd_act]
  img := fun q j hq => Chip.img_upd_ne c r q i j fs (recKey_ne_of_id (fun h => hq (h ▸ hr)) i j)
  ver := fun q j hq => Chip.version_upd_ne c r q i j fs (recKey_ne_of_id (fun h => hq (h ▸ hr)) i j)
  aon := ha
  fbs := hb

/-- An assignment to a channel's or an axis's status. -/
theorem Lines.of_upd_out (c : Chip) (r : RecDesc) (i : Nat) (fs : List (Fld × Nat)) (hr : r = CH_STATUS ∨ r = AX_STATUS) :
    Lines c (c.upd r i fs) := by
  rcases hr with rfl | rfl
  · exact Lines.of_upd c _ i fs (by decide) (fun f _ => Chip.getF_upd_ne c _ _ _ _ f fs (recKey_ne_of_id (by decide) _ _))
      (fun f _ => Chip.getF_upd_ne c _ _ _ _ f fs (recKey_ne_of_id (by decide) _ _))
  · exact Lines.of_upd c _ i fs (by decide) (fun f _ => Chip.getF_upd_ne c _ _ _ _ f fs (recKey_ne_of_id (by decide) _ _))
      (fun f _ => Chip.getF_upd_ne c _ _ _ _ f fs (recKey_ne_of_id (by decide) _ _))

theorem Lines.of_act (c : Chip) (x : List (Nat × Chan)) (y : List (Nat × Axis)) (z : List (Nat × Tgt)) :
    Lines c { c with act.chan := x, act.axis := y, act.tgt := z } :=
  ⟨rfl, rfl, rfl, rfl, rfl, rfl, rfl, rfl, rfl, rfl, rfl, fun _ _ _ => rfl, fun _ _ _ => rfl, fun _ _ => rfl, fun _ _ => rfl⟩

theorem Lines.modChan (c : Chip) (i : Nat) (f : Chan → Chan) : Lines c (c.modChan i f) := Lines.of_act c _ c.act.axis c.act.tgt
theorem Lines.modAxis (c : Chip) (i : Nat) (f : Axis → Axis) : Lines c (c.modAxis i f) := Lines.of_act c c.act.chan _ c.act.tgt
theorem Lines.modTgt (c : Chip) (i : Nat) (f : Tgt → Tgt) : Lines c (c.modTgt i f) := Lines.of_act c c.act.chan c.act.axis _

theorem Lines.finish (c : Chip) (k : Option Nat) (st : Nat) (d : List Nat) : Lines c (c.finish k st d) := by
  cases k with
  | none => exact Lines.refl c
  | some k =>
    simp only [Chip.finish]
    split
    · exact ⟨rfl, rfl, rfl, rfl, rfl, rfl, rfl, rfl, rfl, rfl, rfl, fun _ _ _ => rfl, fun _ _ _ => rfl, fun _ _ => rfl, fun _ _ => rfl⟩
    · exact Lines.refl c

theorem Lines.each (c : Chip) (n : Nat) (f : Chip → Nat → Chip) (hf : ∀ c a, Lines c (f c a)) : Lines c (c.each n f) := by
  unfold Chip.each
  generalize List.range n = l
  induction l generalizing c with
  | nil => exact Lines.refl c
  | cons a l ih => exact (hf c a).trans (ih (f c a))

/-! ## The lines -/

/-- A channel taken to rest. -/
theorem Lines.rest (c : Chip) (ch : Nat) : Lines c (c.rest ch) := by
  have h1 : ∀ d : Chip, Lines d ((d.abandonWatch ch).upd CH_STATUS ch [(CH_STATUS.ECON_REQ, 0)]) :=
    fun d => (Lines.modChan d ch _).trans (Lines.of_upd_out _ _ _ _ (.inl rfl))
  have h2 : ∀ (d : Chip) (p : Prop) [Decidable p] (f : Chan → Chan) (new : Nat), Lines c d →
      Lines c (if p then d else (d.modChan ch f).setCstate ch new) := by
    intro d p _ f new hd
    split
    · exact hd
    · exact (hd.trans (Lines.modChan _ _ _)).trans (Lines.of_upd_out _ _ _ _ (.inl rfl))
  unfold Chip.rest
  dsimp only
  refine h2 _ _ _ _ ?_
  by_cases h : c.chDriven ch = true
  · rw [if_pos h]
    exact (h1 c).trans (Lines.modTgt _ _ _)
  · rw [if_neg h]
    exact Lines.refl c

/-- An axis stopped. -/
theorem Lines.axStop (c : Chip) (a : Nat) : Lines c (c.axStop a) := by
  have h1 : ∀ d : Chip, Lines d (d.abandonHoming a stBadState) := by
    intro d
    unfold Chip.abandonHoming
    split
    · refine Lines.trans (Lines.of_upd_out d AX_STATUS a [(AX_STATUS.HOMED, 0)] (.inr rfl)) ?_
      unfold Chip.homeResult
      exact Lines.trans (Lines.finish _ _ _ _) (Lines.modAxis _ _ _)
    · exact Lines.refl d
  have h2 : ∀ d : Chip, Lines d (d.axHalt a asStopped) := fun d =>
    (((Lines.modAxis d a _).trans (Lines.of_upd_out _ _ _ _ (.inr rfl))).trans (Lines.modAxis _ _ _)).trans
      (Lines.of_upd_out _ _ _ _ (.inr rfl))
  unfold Chip.axStop
  dsimp only
  split
  · exact Lines.of_upd_out c _ _ _ (.inr rfl)
  · exact ((Lines.of_upd_out c _ _ _ (.inr rfl)).trans (h1 _)).trans (h2 _)

theorem Lines.settleFault (c : Chip) : Lines c c.settleFault := by
  unfold Chip.settleFault
  split
  · exact Lines.of_upd c _ _ _ (by decide) (fun f hf => Chip.getF_upd_apart c _ _ f _ (by simpa using hf))
      (fun f _ => Chip.getF_upd_ne c _ _ _ _ f _ (recKey_ne_of_id (by decide) _ _))
  · exact Lines.refl c

theorem Lines.settleForced (c : Chip) : Lines c c.settleForced := by
  unfold Chip.settleForced
  dsimp only
  split
  · exact Lines.refl c
  · refine Lines.trans (Lines.each c 96 _ (fun d ch => ?_)) (Lines.each _ 24 _ (fun d a => ?_))
    · split
      · exact Lines.rest d ch
      · exact Lines.refl d
    · split
      · exact Lines.axStop d a
      · exact Lines.refl d

theorem Lines.settleFb (c : Chip) : Lines c c.settleFb := by
  have h : ∀ (d : Chip) (fs : List (Fld × Nat)), (∀ p ∈ fs, p.1 ∈ fbLineFlds) → Lines d (d.upd FB_STATUS 0 fs) := fun d fs hfs =>
    Lines.of_upd d _ _ _ (by decide) (fun f _ => Chip.getF_upd_ne d _ _ _ _ f _ (recKey_ne_of_id (by decide) _ _))
      (fun f hf => Chip.getF_upd_apart d _ _ f _ (fun p hp => hf p.1 (hfs p hp)))
  exact (h c _ (by simp)).trans (h _ _ (by simp))

/-- Settling the lines changes what `Lines` allows and nothing else. -/
theorem Lines.settleLines (c : Chip) : Lines c c.settleLines :=
  ((Lines.settleFault c).trans (Lines.settleForced _)).trans (Lines.settleFb _)

theorem Lines.getF {c d : Chip} (h : Lines c d) (r : RecDesc) (i : Nat) (f : Fld) (hr : r.id % 0x10000 ∉ lineIds) :
    d.getF r i f = c.getF r i f := by simp [Chip.getF, h.img r i hr]

/-- With no forced-off line asserted nothing is cut. -/
theorem Chip.settleForced_none (c : Chip) (h : c.forcedLines = 0) : c.settleForced = c := by simp [Chip.settleForced, h]

/-! ## Settling a state -/

@[simp] theorem State.settle_pending (s : State) : s.settle.pending = s.pending := rfl

@[simp] theorem State.settle_mem (s : State) : s.settle.mem = s.mem.applyAll s.chip.store.ops := rfl

theorem State.settle_lines (s : State) : Lines { s.chip with store.ops := [] } s.settle.chip := Lines.settleLines _

/-- Nothing waits for the memory after settling. -/
theorem State.settle_ops (s : State) : s.settle.chip.store.ops = [] := by rw [(State.settle_lines s).store]

/-! ## Every command ends with settling -/

/-- The ways a meaning answers: it settles a new part under the old queue and memory, or names a unit the part does not have. -/
inductive Answers (s : State) : Host.Outcome State Fault Refusal → Prop where
  | ran (c : Chip) : Answers s (.next (State.settle { s with chip := c }))
  | noUnit : Answers s (.refused .noSuchUnit)

theorem Answers.run (s : State) (f : Chip → Chip) : Answers s (s.run f) := .ran _
theorem Answers.runMem (s : State) (f : Mem → Chip → Chip) : Answers s (s.runMem f) := .ran _

theorem Answers.guard (s : State) (p : Prop) [Decidable p] {o : Host.Outcome State Fault Refusal} (h : Answers s o) :
    Answers s (if p then o else .refused .noSuchUnit) := by
  split
  · exact h
  · exact .noUnit

/-- What a command can do to the block: everything it does, settling included, in one sentence. -/
theorem exec_answers (i : Instr) (s : State) : Answers s (exec i s) := by
  cases i with
  | ping h echo => rw [exec_ping]; exact Answers.run s _
  | sessionOpen h kind index challenge nonce eph sig newKey mac => rw [exec_sessionOpen]; exact Answers.run s _
  | sessionClose h => rw [exec_sessionClose]; exact Answers.run s _
  | sessionIdleTimeout si => rw [exec_sessionIdleTimeout]; exact Answers.guard s _ (Answers.run s _)
  | subscribe h mask minSev => rw [exec_subscribe]; exact Answers.run s _
  | unsubscribe h => rw [exec_unsubscribe]; exact Answers.run s _
  | getRecord h rec inst offset maxLen => rw [exec_getRecord]; exact Answers.run s _
  | setRecord h rec inst ver img => rw [exec_setRecord]; exact Answers.run s _
  | resultGet h handle offset maxLen => rw [exec_resultGet]; exact Answers.run s _
  | resultRelease h handle => rw [exec_resultRelease]; exact Answers.run s _
  | endpointReset h e => rw [exec_endpointReset]; exact Answers.run s _
  | endpointCfgWrite h inst ver img => rw [exec_endpointCfgWrite]; exact Answers.run s _
  | fragmentStore h opcode => rw [exec_fragmentStore]; exact Answers.run s _
  | fragmentTimeout si tag => rw [exec_fragmentTimeout]; exact Answers.guard s _ (Answers.run s _)
  | spiWrite whole => rw [exec_spiWrite]; exact Answers.run s _
  | spiRead whole => rw [exec_spiRead]; exact Answers.run s _
  | spiStatus => rw [exec_spiStatus]; exact Answers.run s _
  | arpRequest e target asker => rw [exec_arpRequest]; exact Answers.guard s _ (Answers.run s _)
  | neighbourSolicitation e target asker => rw [exec_neighbourSolicitation]; exact Answers.guard s _ (Answers.run s _)
  | eventTransmit e si => rw [exec_eventTransmit]; exact Answers.guard s _ (Answers.run s _)
  | heldEventRelease => rw [exec_heldEventRelease]; exact Answers.run s _
  | getIdentity h cert => rw [exec_getIdentity]; exact Answers.run s _
  | attest h nonce => rw [exec_attest]; exact Answers.run s _
  | credentialWrite h k inst ver img => rw [exec_credentialWrite]; exact Answers.guard s _ (Answers.run s _)
  | plotCreate h p lifetime => rw [exec_plotCreate]; exact Answers.run s _
  | enrolCodeExpiry p => rw [exec_enrolCodeExpiry]; exact Answers.guard s _ (Answers.run s _)
  | plotEvict h p => rw [exec_plotEvict]; exact Answers.run s _
  | plotWipe p => rw [exec_plotWipe]; exact Answers.guard s _ (Answers.run s _)
  | plotKeyRotate h key sig => rw [exec_plotKeyRotate]; exact Answers.run s _
  | privacyCfgWrite h inst ver img => rw [exec_privacyCfgWrite]; exact Answers.run s _
  | occGroupWrite h inst ver img => rw [exec_occGroupWrite]; exact Answers.run s _
  | quarterHourAggregate => rw [exec_quarterHourAggregate]; exact Answers.run s _
  | servicePinChange pins => rw [exec_servicePinChange]; exact Answers.guard s _ (Answers.run s _)
  | debugChallenge h => rw [exec_debugChallenge]; exact Answers.run s _
  | debugUnlock h serial challenge minutes keyId vsig => rw [exec_debugUnlock]; exact Answers.run s _
  | debugUnlockApply => rw [exec_debugUnlockApply]; exact Answers.run s _
  | debugLock h => rw [exec_debugLock]; exact Answers.run s _
  | unlockEnd => rw [exec_unlockEnd]; exact Answers.run s _
  | decommission h serial confirm => rw [exec_decommission]; exact Answers.run s _
  | rollbackCommit h image => rw [exec_rollbackCommit]; exact Answers.run s _
  | shadowMinRaise => rw [exec_shadowMinRaise]; exact Answers.run s _
  | windowPortPhase e frame window => rw [exec_windowPortPhase]; exact Answers.guard s _ (Answers.run s _)
  | zoneExecution e => rw [exec_zoneExecution]; exact Answers.guard s _ (Answers.run s _)
  | publishPoint e => rw [exec_publishPoint]; exact Answers.guard s _ (Answers.run s _)
  | bindingUpdate => rw [exec_bindingUpdate]; exact Answers.run s _
  | terraceWatchdog t cause => rw [exec_terraceWatchdog]; exact Answers.guard s _ (Answers.run s _)
  | terraceResetDone t resume pass => rw [exec_terraceResetDone]; exact Answers.guard s _ (Answers.run s _)
  | eccScrub t region offset double => rw [exec_eccScrub]; exact Answers.guard s _ (Answers.run s _)
  | programStoreRepair t id => rw [exec_programStoreRepair]; exact Answers.guard s _ (Answers.run s _)
  | pergolaFault p cause => rw [exec_pergolaFault]; exact Answers.guard s _ (Answers.run s _)
  | pergolaSelfTestDone p pass => rw [exec_pergolaSelfTestDone]; exact Answers.guard s _ (Answers.run s _)
  | pergolaMigration t => rw [exec_pergolaMigration]; exact Answers.guard s _ (Answers.run s _)
  | pergolaReturnHome t => rw [exec_pergolaReturnHome]; exact Answers.guard s _ (Answers.run s _)
  | zoneReset h z => rw [exec_zoneReset]; exact Answers.run s _
  | engineReset h e => rw [exec_engineReset]; exact Answers.run s _
  | engineResetApply e => rw [exec_engineResetApply]; exact Answers.guard s _ (Answers.run s _)
  | pergolaReset h p => rw [exec_pergolaReset]; exact Answers.run s _
  | terraceReset h t => rw [exec_terraceReset]; exact Answers.run s _
  | tickTableLoad h img => rw [exec_tickTableLoad]; exact Answers.run s _
  | tickTableValidated t => rw [exec_tickTableValidated]; exact Answers.guard s _ (Answers.run s _)
  | tickTableCommitPoint t => rw [exec_tickTableCommitPoint]; exact Answers.guard s _ (Answers.run s _)
  | tickTableActive t => rw [exec_tickTableActive]; exact Answers.guard s _ (Answers.run s _)
  | zoneIsolate h z => rw [exec_zoneIsolate]; exact Answers.run s _
  | zoneRelease h z => rw [exec_zoneRelease]; exact Answers.run s _
  | plotReset h p => rw [exec_plotReset]; exact Answers.run s _
  | zoneCfgWrite h inst ver img => rw [exec_zoneCfgWrite]; exact Answers.run s _
  | zoneParamsWrite h inst ver img => rw [exec_zoneParamsWrite]; exact Answers.run s _
  | plotLimitsWrite h inst ver img => rw [exec_plotLimitsWrite]; exact Answers.run s _
  | plotIsolationWrite h inst ver img => rw [exec_plotIsolationWrite]; exact Answers.run s _
  | terracePerfWrite h inst ver img => rw [exec_terracePerfWrite]; exact Answers.run s _
  | zpEnd e d a imm => rw [exec_zpEnd]; exact Answers.guard s _ (Answers.run s _)
  | zpMov e d a imm => rw [exec_zpMov]; exact Answers.guard s _ (Answers.run s _)
  | zpLdl e d a imm => rw [exec_zpLdl]; exact Answers.guard s _ (Answers.run s _)
  | zpLdh e d a imm => rw [exec_zpLdh]; exact Answers.guard s _ (Answers.run s _)
  | zpLdc e d a imm => rw [exec_zpLdc]; exact Answers.guard s _ (Answers.run s _)
  | zpLdp e d a imm => rw [exec_zpLdp]; exact Answers.guard s _ (Answers.run s _)
  | zpLds e d a imm => rw [exec_zpLds]; exact Answers.guard s _ (Answers.run s _)
  | zpSts e d a imm => rw [exec_zpSts]; exact Answers.guard s _ (Answers.run s _)
  | zpAdd e d a b parm => rw [exec_zpAdd]; exact Answers.guard s _ (Answers.run s _)
  | zpSub e d a b parm => rw [exec_zpSub]; exact Answers.guard s _ (Answers.run s _)
  | zpMul e d a b parm => rw [exec_zpMul]; exact Answers.guard s _ (Answers.run s _)
  | zpDiv e d a b parm => rw [exec_zpDiv]; exact Answers.guard s _ (Answers.run s _)
  | zpAddi e d a imm => rw [exec_zpAddi]; exact Answers.guard s _ (Answers.run s _)
  | zpMuli e d a imm => rw [exec_zpMuli]; exact Answers.guard s _ (Answers.run s _)
  | zpAbs e d a imm => rw [exec_zpAbs]; exact Answers.guard s _ (Answers.run s _)
  | zpNeg e d a imm => rw [exec_zpNeg]; exact Answers.guard s _ (Answers.run s _)
  | zpMin e d a b parm => rw [exec_zpMin]; exact Answers.guard s _ (Answers.run s _)
  | zpMax e d a b parm => rw [exec_zpMax]; exact Answers.guard s _ (Answers.run s _)
  | zpLim e d a b parm => rw [exec_zpLim]; exact Answers.guard s _ (Answers.run s _)
  | zpClp01 e d a imm => rw [exec_zpClp01]; exact Answers.guard s _ (Answers.run s _)
  | zpCmp e d a b parm => rw [exec_zpCmp]; exact Answers.guard s _ (Answers.run s _)
  | zpSel e d a b parm => rw [exec_zpSel]; exact Answers.guard s _ (Answers.run s _)
  | zpSkip e d a imm => rw [exec_zpSkip]; exact Answers.guard s _ (Answers.run s _)
  | zpSkipn e d a imm => rw [exec_zpSkipn]; exact Answers.guard s _ (Answers.run s _)
  | zpTblc e d a imm => rw [exec_zpTblc]; exact Answers.guard s _ (Answers.run s _)
  | zpTblp e d a imm => rw [exec_zpTblp]; exact Answers.guard s _ (Answers.run s _)
  | zpLpf e d a b parm => rw [exec_zpLpf]; exact Answers.guard s _ (Answers.run s _)
  | zpRate e d a b parm => rw [exec_zpRate]; exact Answers.guard s _ (Answers.run s _)
  | zpHyst e d a b parm => rw [exec_zpHyst]; exact Answers.guard s _ (Answers.run s _)
  | zpTon e d a b parm => rw [exec_zpTon]; exact Answers.guard s _ (Answers.run s _)
  | zpRdb e d a imm => rw [exec_zpRdb]; exact Answers.guard s _ (Answers.run s _)
  | zpRdba e d a imm => rw [exec_zpRdba]; exact Answers.guard s _ (Answers.run s _)
  | zpPfus e d a imm => rw [exec_zpPfus]; exact Answers.guard s _ (Answers.run s _)
  | zpOcc e d a b parm => rw [exec_zpOcc]; exact Answers.guard s _ (Answers.run s _)
  | zpSched e d a imm => rw [exec_zpSched]; exact Answers.guard s _ (Answers.run s _)
  | zpPlan e d a imm => rw [exec_zpPlan]; exact Answers.guard s _ (Answers.run s _)
  | zpRdsys e d a imm => rw [exec_zpRdsys]; exact Answers.guard s _ (Answers.run s _)
  | zpPi e d a b parm => rw [exec_zpPi]; exact Answers.guard s _ (Answers.run s _)
  | zpApi e d a b parm => rw [exec_zpApi]; exact Answers.guard s _ (Answers.run s _)
  | zpMff e d a imm => rw [exec_zpMff]; exact Answers.guard s _ (Answers.run s _)
  | zpAtun e d a b parm => rw [exec_zpAtun]; exact Answers.guard s _ (Answers.run s _)
  | zpRdn e d a imm => rw [exec_zpRdn]; exact Answers.guard s _ (Answers.run s _)
  | zpPubt e d a imm => rw [exec_zpPubt]; exact Answers.guard s _ (Answers.run s _)
  | zpDem e d a imm => rw [exec_zpDem]; exact Answers.guard s _ (Answers.run s _)
  | zpPst e d a imm => rw [exec_zpPst]; exact Answers.guard s _ (Answers.run s _)
  | zpAlm e d a imm => rw [exec_zpAlm]; exact Answers.guard s _ (Answers.run s _)
  | zpMupd e d a imm => rw [exec_zpMupd]; exact Answers.guard s _ (Answers.run s _)
  | zpMrd e d a imm => rw [exec_zpMrd]; exact Answers.guard s _ (Answers.run s _)
  | programLoad h t id img => rw [exec_programLoad]; exact Answers.run s _
  | programLoadResult t => rw [exec_programLoadResult]; exact Answers.guard s _ (Answers.run s _)
  | programUnload h t id force => rw [exec_programUnload]; exact Answers.run s _
  | modelHeldTimeout z => rw [exec_modelHeldTimeout]; exact Answers.guard s _ (Answers.run s _)
  | neighbourDrop z n => rw [exec_neighbourDrop]; exact Answers.guard s _ (Answers.run s _)
  | autoTuneStart z => rw [exec_autoTuneStart]; exact Answers.guard s _ (Answers.run s _)
  | relayTestEnd z => rw [exec_relayTestEnd]; exact Answers.guard s _ (Answers.run s _)
  | planRoundStart => rw [exec_planRoundStart]; exact Answers.run s _
  | planIterationDeadline t doneMask => rw [exec_planIterationDeadline]; exact Answers.guard s _ (Answers.run s _)
  | planLateDeadline t => rw [exec_planLateDeadline]; exact Answers.guard s _ (Answers.run s _)
  | planCommit t => rw [exec_planCommit]; exact Answers.guard s _ (Answers.run s _)
  | planExpiry z => rw [exec_planExpiry]; exact Answers.guard s _ (Answers.run s _)
  | fightEvaluate => rw [exec_fightEvaluate]; exact Answers.run s _
  | fightOffsetStep z y => rw [exec_fightOffsetStep]; exact Answers.guard s _ (Answers.run s _)
  | learningArchiveWrite => rw [exec_learningArchiveWrite]; exact Answers.run s _
  | modelReset h z what => rw [exec_modelReset]; exact Answers.run s _
  | tuneStart h z fam => rw [exec_tuneStart]; exact Answers.run s _
  | tuneAbort h z => rw [exec_tuneAbort]; exact Answers.run s _
  | modelCfgWrite h inst ver img => rw [exec_modelCfgWrite]; exact Answers.run s _
  | allocFrameBoundary => rw [exec_allocFrameBoundary]; exact Answers.run s _
  | class0Microslot => rw [exec_class0Microslot]; exact Answers.run s _
  | pdClassSample code => rw [exec_pdClassSample]; exact Answers.guard s _ (Answers.run s _)
  | valveCycleEnd ch => rw [exec_valveCycleEnd]; exact Answers.guard s _ (Answers.run s _)
  | shedHoldoffExpiry => rw [exec_shedHoldoffExpiry]; exact Answers.run s _
  | plantStop h mask => rw [exec_plantStop]; exact Answers.run s _
  | plantResume h mask => rw [exec_plantResume]; exact Answers.run s _
  | actMapWrite h inst ver img => rw [exec_actMapWrite]; exact Answers.run s _
  | budgetCfgWrite h inst ver img => rw [exec_budgetCfgWrite]; exact Answers.run s _
  | boostEnd ch => rw [exec_boostEnd]; exact Answers.guard s _ (Answers.run s _)
  | closureWatchSample ch time ma => rw [exec_closureWatchSample]; exact Answers.guard s _ (Answers.run s _)
  | coilModelUpdate currents => rw [exec_coilModelUpdate]; exact Answers.run s _
  | offStateDiagnostic ch mv0 mv1 => rw [exec_offStateDiagnostic]; exact Answers.guard s _ (Answers.run s _)
  | channelShortTrip ch => rw [exec_channelShortTrip]; exact Answers.guard s _ (Answers.run s _)
  | channelJunctionTrip ch => rw [exec_channelJunctionTrip]; exact Answers.guard s _ (Answers.run s _)
  | dieSumTrip die => rw [exec_dieSumTrip]; exact Answers.guard s _ (Answers.run s _)
  | pkgOcClear ch => rw [exec_pkgOcClear]; exact Answers.guard s _ (Answers.run s _)
  | channelOvercurrent ch ma => rw [exec_channelOvercurrent]; exact Answers.guard s _ (Answers.run s _)
  | channelOpenLoad ch ma => rw [exec_channelOpenLoad]; exact Answers.guard s _ (Answers.run s _)
  | channelSenseLost ch => rw [exec_channelSenseLost]; exact Answers.guard s _ (Answers.run s _)
  | vboostMonitor v => rw [exec_vboostMonitor]; exact Answers.run s _
  | boostNotReady => rw [exec_boostNotReady]; exact Answers.run s _
  | boostReadyClear => rw [exec_boostReadyClear]; exact Answers.run s _
  | channelManual h ch mode wait timeout => rw [exec_channelManual]; exact Answers.run s _
  | channelManualTimeout ch => rw [exec_channelManualTimeout]; exact Answers.guard s _ (Answers.run s _)
  | channelReset h ch => rw [exec_channelReset]; exact Answers.run s _
  | channelForceOff h mask => rw [exec_channelForceOff]; exact Answers.run s _
  | channelForceRelease h mask => rw [exec_channelForceRelease]; exact Answers.run s _
  | chCfgWrite h inst ver img => rw [exec_chCfgWrite]; exact Answers.run s _
  | encoderEdge e levels time => rw [exec_encoderEdge]; exact Answers.guard s _ (Answers.run s _)
  | sincosSample e sinv cosv time => rw [exec_sincosSample]; exact Answers.guard s _ (Answers.run s _)
  | indexEdge e time => rw [exec_indexEdge]; exact Answers.guard s _ (Answers.run s _)
  | encDirection e => rw [exec_encDirection]; exact Answers.guard s _ (Answers.run s _)
  | speedLoopUpdate e time => rw [exec_speedLoopUpdate]; exact Answers.guard s _ (Answers.run s _)
  | positionLoopUpdate a ma => rw [exec_positionLoopUpdate]; exact Answers.guard s _ (Answers.run s _)
  | axisInPosition a => rw [exec_axisInPosition]; exact Answers.guard s _ (Answers.run s _)
  | driftCorrection a => rw [exec_driftCorrection]; exact Answers.guard s _ (Answers.run s _)
  | axisStall a => rw [exec_axisStall]; exact Answers.guard s _ (Answers.run s _)
  | stallRetry a => rw [exec_stallRetry]; exact Answers.guard s _ (Answers.run s _)
  | axisMoveTimeout a => rw [exec_axisMoveTimeout]; exact Answers.guard s _ (Answers.run s _)
  | homeTimeout a => rw [exec_homeTimeout]; exact Answers.guard s _ (Answers.run s _)
  | axisNoCurrent a ma => rw [exec_axisNoCurrent]; exact Answers.guard s _ (Answers.run s _)
  | axisSenseStale a => rw [exec_axisSenseStale]; exact Answers.guard s _ (Answers.run s _)
  | axisManual h a mode pos timeout => rw [exec_axisManual]; exact Answers.run s _
  | axisManualTimeout a => rw [exec_axisManualTimeout]; exact Answers.guard s _ (Answers.run s _)
  | axisHome h a => rw [exec_axisHome]; exact Answers.run s _
  | axisReset h a trip => rw [exec_axisReset]; exact Answers.run s _
  | encArmIndex h e arm => rw [exec_encArmIndex]; exact Answers.run s _
  | encPreset h e pos => rw [exec_encPreset]; exact Answers.run s _
  | axCfgWrite h inst ver img => rw [exec_axCfgWrite]; exact Answers.run s _
  | encCfgWrite h inst ver img => rw [exec_encCfgWrite]; exact Answers.run s _
  | fanStep time => rw [exec_fanStep]; exact Answers.run s _
  | tachEdge p time => rw [exec_tachEdge]; exact Answers.guard s _ (Answers.run s _)
  | fanWatchdogExpiry => rw [exec_fanWatchdogExpiry]; exact Answers.run s _
  | purgeDurationEnd set => rw [exec_purgeDurationEnd]; exact Answers.guard s _ (Answers.run s _)
  | fanManual h g mode duty timeout => rw [exec_fanManual]; exact Answers.run s _
  | fanManualTimeout g => rw [exec_fanManualTimeout]; exact Answers.guard s _ (Answers.run s _)
  | fangroupReset h g => rw [exec_fangroupReset]; exact Answers.run s _
  | purgeRequest h set action => rw [exec_purgeRequest]; exact Answers.run s _
  | fanPortCfgWrite h inst ver img => rw [exec_fanPortCfgWrite]; exact Answers.run s _
  | arrayRegularTrigger => rw [exec_arrayRegularTrigger]; exact Answers.run s _
  | arrayInjectedTrigger a => rw [exec_arrayInjectedTrigger]; exact Answers.guard s _ (Answers.run s _)
  | conversionComplete a kind idx slice raws => rw [exec_conversionComplete]; exact Answers.guard s _ (Answers.run s _)
  | arraySequenceEnd a => rw [exec_arraySequenceEnd]; exact Answers.guard s _ (Answers.run s _)
  | selfCalibrationStart a => rw [exec_selfCalibrationStart]; exact Answers.guard s _ (Answers.run s _)
  | selfCalibrationComplete a factors late => rw [exec_selfCalibrationComplete]; exact Answers.guard s _ (Answers.run s _)
  | ainProcess => rw [exec_ainProcess]; exact Answers.run s _
  | ainPublish n => rw [exec_ainPublish]; exact Answers.guard s _ (Answers.run s _)
  | prsSample closed => rw [exec_prsSample]; exact Answers.run s _
  | presenceRefresh => rw [exec_presenceRefresh]; exact Answers.run s _
  | keypadScan ratios => rw [exec_keypadScan]; exact Answers.run s _
  | keyStuck kp l => rw [exec_keyStuck]; exact Answers.guard s _ (Answers.run s _)
  | nudgeHoldExpiry kp => rw [exec_nudgeHoldExpiry]; exact Answers.guard s _ (Answers.run s _)
  | keypadBindingRefresh => rw [exec_keypadBindingRefresh]; exact Answers.run s _
  | wardenScan keys => rw [exec_wardenScan]; exact Answers.run s _
  | keyLogMove => rw [exec_keyLogMove]; exact Answers.run s _
  | feederReport h entries => rw [exec_feederReport]; exact Answers.run s _
  | meterPoll => rw [exec_meterPoll]; exact Answers.run s _
  | modbusResponse addr func crcOk regs => rw [exec_modbusResponse]; exact Answers.run s _
  | modbusTimeout => rw [exec_modbusTimeout]; exact Answers.run s _
  | arraySelfCal h a => rw [exec_arraySelfCal]; exact Answers.run s _
  | arrayReset h a => rw [exec_arrayReset]; exact Answers.run s _
  | keyLogRead h src from_ => rw [exec_keyLogRead]; exact Answers.run s _
  | feedSrcWrite h inst ver img => rw [exec_feedSrcWrite]; exact Answers.run s _
  | meterCfgWrite h inst ver img => rw [exec_meterCfgWrite]; exact Answers.run s _
  | fbkClockLoss => rw [exec_fbkClockLoss]; exact Answers.run s _
  | fbkClockReturn => rw [exec_fbkClockReturn]; exact Answers.run s _
  | freshEvaluationEnd => rw [exec_freshEvaluationEnd]; exact Answers.run s _
  | inputFilterExpiry n ohms => rw [exec_inputFilterExpiry]; exact Answers.guard s _ (Answers.run s _)
  | lineFaultExpiry n ohms => rw [exec_lineFaultExpiry]; exact Answers.guard s _ (Answers.run s _)
  | discrepancyExpiry => rw [exec_discrepancyExpiry]; exact Answers.run s _
  | safetyReset key okMask => rw [exec_safetyReset]; exact Answers.guard s _ (Answers.run s _)
  | wardenKeyStuck key => rw [exec_wardenKeyStuck]; exact Answers.guard s _ (Answers.run s _)
  | heartbeatWrite gatehouse => rw [exec_heartbeatWrite]; exact Answers.run s _
  | heartbeatTimeout => rw [exec_heartbeatTimeout]; exact Answers.run s _
  | soEnergise => rw [exec_soEnergise]; exact Answers.run s _
  | offPulseTest k pass => rw [exec_offPulseTest]; exact Answers.guard s _ (Answers.run s _)
  | soReadbackFault k kind ma => rw [exec_soReadbackFault]; exact Answers.guard s _ (Answers.run s _)
  | vsafeChange low dv => rw [exec_vsafeChange]; exact Answers.run s _
  | safetyConfigCommit h which inst ver img => rw [exec_safetyConfigCommit]; exact Answers.guard s _ (Answers.run s _)
  | soRequest h set clear => rw [exec_soRequest]; exact Answers.run s _
  | meteringTick fails => rw [exec_meteringTick]; exact Answers.run s _
  | statementExpiry o => rw [exec_statementExpiry]; exact Answers.guard s _ (Answers.run s _)
  | epochCut h o cut => rw [exec_epochCut]; exact Answers.run s _
  | epochSign h o seq sig => rw [exec_epochSign]; exact Answers.run s _
  | meterMapWrite h inst ver img => rw [exec_meterMapWrite]; exact Answers.run s _
  | rtcXtalFailure stopped => rw [exec_rtcXtalFailure]; exact Answers.run s _
  | rtcXtalRestore => rw [exec_rtcXtalRestore]; exact Answers.run s _
  | selectorEvaluate spread0 spread1 => rw [exec_selectorEvaluate]; exact Answers.run s _
  | referenceQualified => rw [exec_referenceQualified]; exact Answers.run s _
  | holdoverExpiry => rw [exec_holdoverExpiry]; exact Answers.run s _
  | ptpAnnounce p msg good => rw [exec_ptpAnnounce]; exact Answers.guard s _ (Answers.run s _)
  | announceTimeout p => rw [exec_announceTimeout]; exact Answers.guard s _ (Answers.run s _)
  | ptpSync p msg twoStep origin corr => rw [exec_ptpSync]; exact Answers.guard s _ (Answers.run s _)
  | ptpFollowUp p msg origin corr => rw [exec_ptpFollowUp]; exact Answers.guard s _ (Answers.run s _)
  | ptpDelayResp p msg received corr => rw [exec_ptpDelayResp]; exact Answers.guard s _ (Answers.run s _)
  | delayReqSend p fine stamped => rw [exec_delayReqSend]; exact Answers.guard s _ (Answers.run s _)
  | ppsEdge fine => rw [exec_ppsEdge]; exact Answers.run s _
  | rtcForwardStep => rw [exec_rtcForwardStep]; exact Answers.run s _
  | servoPhaseExpiry => rw [exec_servoPhaseExpiry]; exact Answers.run s _
  | daylightChange => rw [exec_daylightChange]; exact Answers.run s _
  | localTimeEdge => rw [exec_localTimeEdge]; exact Answers.run s _
  | timeCapture h fine => rw [exec_timeCapture]; exact Answers.run s _
  | timeSet h seconds => rw [exec_timeSet]; exact Answers.run s _
  | timeRefCfgWrite h inst ver img => rw [exec_timeRefCfgWrite]; exact Answers.run s _
  | ptpCfgWrite h inst ver img => rw [exec_ptpCfgWrite]; exact Answers.run s _
  | timeZoneWrite h inst ver img => rw [exec_timeZoneWrite]; exact Answers.run s _
  | storeStart => rw [exec_storeStart]; exact Answers.run s _
  | storeCommit ok page => rw [exec_storeCommit]; exact Answers.run s _
  | bankEraseDone ok ckFails => rw [exec_bankEraseDone]; exact Answers.run s _
  | marginReadStart => rw [exec_marginReadStart]; exact Answers.run s _
  | marginReadDone bank page ring => rw [exec_marginReadDone]; exact Answers.run s _
  | ringSectorEraseDone ok fails => rw [exec_ringSectorEraseDone]; exact Answers.run s _
  | shadowPageReload page => rw [exec_shadowPageReload]; exact Answers.guard s _ (Answers.runMem s _)
  | powerFail dv => rw [exec_powerFail]; exact Answers.run s _
  | store h => rw [exec_store]; exact Answers.run s _
  | rawOpen h kind word => rw [exec_rawOpen]; exact Answers.run s _
  | rawRead h offset len => rw [exec_rawRead]; exact Answers.runMem s _
  | rawWrite h offset len data => rw [exec_rawWrite]; exact Answers.runMem s _
  | shadowInit h serial confirm => rw [exec_shadowInit]; exact Answers.run s _
  | vbusConditionChange code entered dv => rw [exec_vbusConditionChange]; exact Answers.guard s _ (Answers.run s _)
  | holdRailStartDone v => rw [exec_holdRailStartDone]; exact Answers.run s _
  | holdRailStartTimeout => rw [exec_holdRailStartTimeout]; exact Answers.run s _
  | holdRailUndervolt v => rw [exec_holdRailUndervolt]; exact Answers.run s _
  | holdRailOvervolt v => rw [exec_holdRailOvervolt]; exact Answers.run s _
  | holdRailRestart => rw [exec_holdRailRestart]; exact Answers.run s _
  | offsetCheck uv ma => rw [exec_offsetCheck]; exact Answers.run s _
  | phaseOpenDetect p ma mean dutyPermille => rw [exec_phaseOpenDetect]; exact Answers.guard s _ (Answers.run s _)
  | phaseDisagree p own arrayB => rw [exec_phaseDisagree]; exact Answers.guard s _ (Answers.run s _)
  | holdRailCfgWrite h inst ver img => rw [exec_holdRailCfgWrite]; exact Answers.run s _
  | vcoreRaise t fails word => rw [exec_vcoreRaise]; exact Answers.guard s _ (Answers.run s _)
  | vcoreSettled mv us fails word => rw [exec_vcoreSettled]; exact Answers.run s _
  | terraceRelockStart t => rw [exec_terraceRelockStart]; exact Answers.guard s _ (Answers.run s _)
  | terraceRelockLocked t => rw [exec_terraceRelockLocked]; exact Answers.guard s _ (Answers.run s _)
  | terraceRelockReturn t fails word => rw [exec_terraceRelockReturn]; exact Answers.guard s _ (Answers.run s _)
  | pllLossOfLock k => rw [exec_pllLossOfLock]; exact Answers.guard s _ (Answers.run s _)
  | pllbRelock => rw [exec_pllbRelock]; exact Answers.run s _
  | slowRound sens mv ma fails word slack => rw [exec_slowRound]; exact Answers.run s _
  | buckRestore h mask v bad => rw [exec_buckRestore]; exact Answers.run s _
  | vaonValid vbak => rw [exec_vaonValid]; exact Answers.run s _
  | firebreakTierReached => rw [exec_firebreakTierReached]; exact Answers.run s _
  | crystalStarted => rw [exec_crystalStarted]; exact Answers.run s _
  | refRcSwitch => rw [exec_refRcSwitch]; exact Answers.run s _
  | coreEnable => rw [exec_coreEnable]; exact Answers.run s _
  | pgCoreRise pllA pllB => rw [exec_pgCoreRise]; exact Answers.run s _
  | coreStartTimeout => rw [exec_coreStartTimeout]; exact Answers.run s _
  | pgCoreLoss => rw [exec_pgCoreLoss]; exact Answers.run s _
  | brownout rail good => rw [exec_brownout]; exact Answers.guard s _ (Answers.run s _)
  | shadowPowerUp badA badB copyFails => rw [exec_shadowPowerUp]; exact Answers.runMem s _
  | gatehouseSelfTest ok => rw [exec_gatehouseSelfTest]; exact Answers.run s _
  | bootImageSelect prog => rw [exec_bootImageSelect]; exact Answers.run s _
  | kfwStart ok => rw [exec_kfwStart]; exact Answers.run s _
  | terracesStart fails linear => rw [exec_terracesStart]; exact Answers.run s _
  | fullCheck => rw [exec_fullCheck]; exact Answers.run s _
  | tierFall mask => rw [exec_tierFall]; exact Answers.run s _
  | tierRise mask linear => rw [exec_tierRise]; exact Answers.run s _
  | keeperFault cause => rw [exec_keeperFault]; exact Answers.run s _
  | keeperRestartComplete => rw [exec_keeperRestartComplete]; exact Answers.run s _
  | gatehouseFault => rw [exec_gatehouseFault]; exact Answers.run s _
  | gatehouseRestartComplete => rw [exec_gatehouseRestartComplete]; exact Answers.run s _
  | tierHoldExpiry => rw [exec_tierHoldExpiry]; exact Answers.run s _
  | powerReturn => rw [exec_powerReturn]; exact Answers.run s _
  | chipReset cause => rw [exec_chipReset]; exact Answers.run s _
  | resetPinChange isLow => rw [exec_resetPinChange]; exact Answers.run s _
  | resetPinStuck => rw [exec_resetPinStuck]; exact Answers.run s _
  | resetPinRecover => rw [exec_resetPinRecover]; exact Answers.run s _
  | configBundleWrite cut => rw [exec_configBundleWrite]; exact Answers.run s _
  | snapInTrigger => rw [exec_snapInTrigger]; exact Answers.run s _
  | snapshot h => rw [exec_snapshot]; exact Answers.run s _
  | snapRead h segment inst offset maxLen => rw [exec_snapRead]; exact Answers.run s _
  | snapClear h => rw [exec_snapClear]; exact Answers.run s _
  | fwStageOpen h image length => rw [exec_fwStageOpen]; exact Answers.run s _
  | fwStageEraseDone => rw [exec_fwStageEraseDone]; exact Answers.run s _
  | fwStageWrite h image offset data => rw [exec_fwStageWrite]; exact Answers.run s _
  | fwStageClose h image sigOk hashOk => rw [exec_fwStageClose]; exact Answers.run s _
  | fwActivate h mask => rw [exec_fwActivate]; exact Answers.run s _
  | acceptUntestedSet h kfw zrt ghp sig => rw [exec_acceptUntestedSet]; exact Answers.run s _
  | frameRefusal h opcode fault => rw [exec_frameRefusal]; exact Answers.guard s _ (Answers.run s _)
  | ethernetLinkChange p isUp => rw [exec_ethernetLinkChange]; exact Answers.guard s _ (Answers.run s _)
  | slewEnd => rw [exec_slewEnd]; exact Answers.run s _
  | minEdgeExpiry e time => rw [exec_minEdgeExpiry]; exact Answers.guard s _ (Answers.run s _)

/-- A command that answers a next state has settled it. -/
theorem exec_next {i : Instr} {s t : State} (h : exec i s = .next t) : ∃ c, t = State.settle { s with chip := c } := by
  have ha := exec_answers i s
  rw [h] at ha
  cases ha with
  | ran c => exact ⟨c, rfl⟩

/-- A step that answers a next state has settled it. -/
theorem step_next {s t : State} (h : step s = .next t) : ∃ c q, t = State.settle { s with chip := c, pending := q } := by
  unfold step at h
  split at h
  · cases h; exact ⟨_, _, rfl⟩
  · obtain ⟨c, rfl⟩ := exec_next h; exact ⟨c, _, rfl⟩

/-- No command faults. -/
theorem exec_no_fault (i : Instr) (s : State) (f : Fault) : exec i s ≠ .fault f := by
  have ha := exec_answers i s
  intro h
  rw [h] at ha
  cases ha

end Sys2Proof.Machine
end

