-- ==== Sys2Proof/Tests/Slice0.lean ====
section
/-!
SUPPORT. For each statement a state and operands that meet the hypotheses of each of its clauses, and tests of the model.
-/

namespace Sys2Proof.Tests
open Sys2Proof.Machine
set_option Elab.async false

/-- A record's fields are set. -/
def put (r : RecDesc) (i : Nat) (fs : List (Fld × Nat)) (s : State) : State := { s with chip := s.chip.upd r i fs }

/-- Full service with an estate session at index 1 of endpoint 1. -/
def base : State :=
  let b : Boot := { vaon := true, below := false, vbusBelow := false, vbusPf := false, vbusLow := false, fbkOk := true, fbReady := true }
  let b := { b with refRun := true, slowDone := true, enCore := true, keeper := true, gatehouse := true, gateTested := true }
  let b := { b with vddaGood := true, vioGood := true, bootDone := true, voutMode := true, fansLoaded := true, thermLoaded := true }
  let s : State := { chip := { boot := b, act := { running := true }, host := { sessions := [(1, { isOpen := true, gen := 1, ep := 1, kind := 1 })] } } }
  put AON_STATUS 0 [(AON_STATUS.TIER, 3), (AON_STATUS.BOOT_STEP, 11), (AON_STATUS.FW_OUTCOME, 0)] <|
  put SUPPLY_STATUS 0 [(SUPPLY_STATUS.PG_CORE, 1), (SUPPLY_STATUS.PLLA_LOCK, 1), (SUPPLY_STATUS.PLLB_LOCK, 1), (SUPPLY_STATUS.REF_XTAL, 1)] <|
  put STORE_STATUS 0 [(STORE_STATUS.STSTATE, 2), (STORE_STATUS.LOADED_BANK, 0)] <|
  put CRED_ESTATE 0 [(CRED_ESTATE.VALID, 1)] s

/-- The header of the estate session's first frame. -/
def hd (len : Nat) (cls : Nat := 2) : Hdr := { ep := 1, session := 129, seq := 1, len := len, cls := cls }

/-- What a command is then told of it. -/
def cx (h : Hdr) : Ctx := ⟨1, 1, .estate false, h⟩

/-- Whether a gate lets a frame through as `x`. -/
def Gate.isGo (g : Gate) (x : Ctx) : Bool :=
  match g with
  | .go _ y _ => y.ep == x.ep && y.si == x.si && decide (y.who = x.who) && decide (y.h = x.h)
  | .stop _ => false

/-- The part and the fragment mark after a gate. -/
def Gate.chip : Gate → Chip
  | .go c _ _ => c
  | .stop c => c
def Gate.frag : Gate → Bool
  | .go _ _ b => b
  | .stop _ => false

theorem go_of {g : Gate} {x : Ctx} (hg : Gate.isGo g x = true) : g = .go (Gate.chip g) x (Gate.frag g) := by
  revert hg
  cases g with
  | stop c => simp [Gate.isGo]
  | go c y b =>
    obtain ⟨a1, a2, a3, a4⟩ := x
    obtain ⟨b1, b2, b3, b4⟩ := y
    simp only [Gate.isGo, Bool.and_eq_true, beq_iff_eq, decide_eq_true_eq]
    rintro ⟨⟨⟨rfl, rfl⟩, rfl⟩, rfl⟩
    rfl

theorem served_of {s : State} {h : Hdr} {sp : CmdSpec} {x : Ctx} (hg : Gate.isGo (s.chip.ingress h sp) x = true) : Served s h sp x :=
  ⟨_, _, go_of hg⟩

/-- A service session of the estate, its two pins held, at index 1 of endpoint 1. -/
def svc : State := { put SECURITY_STATUS 0 [(SECURITY_STATUS.PINS, 3)] base with
  chip.host.sessions := [(1, { isOpen := true, gen := 1, ep := 1, kind := 5 })] }
def svr : State := { svc with chip.host.sessions := [(1, { isOpen := true, gen := 1, ep := 1, kind := 5, rawRead := true, rawWrite := true })] }
def sh (len : Nat) : Hdr := hd len
def sx (h : Hdr) : Ctx := ⟨1, 1, .estate true, h⟩

/-- Port 1 hears the PTP master 7, a two-step Sync of it waits, and Delay_Req 2 is out. -/
def mst : PtpMaster := ⟨7, 1, 128, 6, 0, 0, 128, 0, 0, 37, true, 0, 0, true⟩
def ptp : State :=
  { put TIME_REF_CFG 0 [(TIME_REF_CFG.REF_EN, 2)] (put PTP_CFG 1 [(PTP_CFG.TRANSPORT, 0)] base) with
    chip.host.ethLink := [(1, true)]
    chip.time.ptp := [(1, { masters := [mst], lastSync := some 0, twoStepSeq := some (3, 0, 5), delayReqs := [(2, 9)] })] }

/-- Slot 0 of GHP is being staged; `erased` says whether its erase is verified. -/
def stg (erased : Bool) : State := { put FW_STATUS 0 [(FW_STATUS.STAGING, 2)] base with
  chip.boot.slots := [(4, { staging := true, erased := erased, len := 512, content := 0 })] }


/-- A frame in session 0 of endpoint 1, what a command is told of it, a point of the curve, and a signature that verifies under it. -/
def h0 (len : Nat) : Hdr := { ep := 1, len := len }
def x0 (h : Hdr) : Ctx := ⟨1, session0, .nobody, h⟩
def pG : Nat :=
  0xF551BF376840B6CBCE5E316B5733CE2B169E0F7C4AEBE78E9B7F1AFEE242E34F96C298D84539A1F4A033EB2D817D0377F240A463E5E6BCF847422CE1F2D1176B
def sG : Sig := ⟨pG, true, 0⟩

/-- A session of plot 5 at index 1 of endpoint 1. -/
def plt : State := { put PLOT_SLOT 5 [(PLOT_SLOT.STATE, 2)] base with
  chip.host.sessions := [(1, { isOpen := true, gen := 1, ep := 1, kind := 3, index := 5 })]
  chip.sec.plots := [(5, { key := some 3 })] }
def px (h : Hdr) : Ctx := ⟨1, 1, .plot 5, h⟩

theorem hold_ok {o : Option Hold} {n : Nat} (h : (match o with | some y => y.unit == n | none => true) = true) :
    ∀ y, o = some y → y.unit = n := by
  rintro y rfl
  simpa using h

/-- A plan without limits. -/
def pln : Plan :=
  { q := 0, coef := [], gn := [], t0 := 0, heat := [], cool := [], mode1 := [], lo := [],
    hi := [], prob := [], amb := [], sol := [], price := [], rate := [], dev := 0, spMin := 0,
    spMax := 0, comfort := 0, heatKw := 0, coolKw := 0, wHeat := 0, wCool := 0, dcEn := false, heatOn := false,
    coolOn := false, occIn := false, nbs := [], fixed := false, held := false, scen := 0, limit := 16, off := [],
    traj := [], recv := [] }

/-- Engine 255 is about to execute the first step of zone 1023, whose program 127 has 100 steps and 64 constants, all zero but the third. -/
def stp : State :=
  { put PROGRAM_IMAGE 511 [(PROGRAM_IMAGE.IMAGE, 100 * 2 ^ 8 + 64 * 2 ^ 16 + 2 ^ 3392)] base with
    chip.zones.lane := [(255, { zone := some 1023, running := true, cfg := ZONE_CFG.PROG_ID.set 127 0 })] }

theorem decay_le {r n k : Nat} {d m : Int} (h : 0 ≤ m) (hd : d ≤ m) : decay r d n k ≤ m := by
  simp only [decay, clampI]
  split
  · omega
  · split <;> omega

theorem not_refuses {c : Chip} {ch b : Nat} (ht : (c.chan ch).coilT ≤ c.coilMax ch) (hs : c.coilSteadyV ch b 2 ≤ c.coilMax ch)
    (hh : c.coilSteadyV ch c.vHold 2 ≤ c.coilMax ch) : c.coilRefuses ch b = false := by
  have := decay_le (r := 281) (n := c.vt ch VALVE_TYPE.BOOST_MS) (k := 1000 * c.vt ch VALVE_TYPE.COIL_TAU_S)
    (show 0 ≤ c.coilMax ch - c.coilSteadyV ch b 2 by omega) (show (c.chan ch).coilT - c.coilSteadyV ch b 2 ≤ _ by omega)
  simp only [Chip.coilRefuses, Bool.or_eq_false_iff, Bool.and_eq_false_iff, decide_eq_false_iff_not]
  exact ⟨by omega, .inl (by omega)⟩

/-- A feeder session at index 1 of endpoint 1 whose credential 63 is bound to source 4095. -/
def fdr : State := { put CRED_FEEDER 63 [(CRED_FEEDER.VALID, 1), (CRED_FEEDER.SRC_FIRST, 4095), (CRED_FEEDER.SRC_COUNT, 1)] base with
  chip.host.sessions := [(1, { isOpen := true, gen := 1, ep := 1, kind := 4, index := 63 })] }
def fx (h : Hdr) : Ctx := ⟨1, 1, .feeder 4095 1, h⟩

/-- A state and operands for each clause of `IdleStepTicks`. -/
theorem witness_IdleStepTicks :
    ∃ s : State, s.pending = [] ∧ s.drained :=
  ⟨base, by decide +kernel, rfl⟩

/-- A state and operands for each clause of `WellFormedRuns`. -/
theorem witness_WellFormedRuns :
    ∃ i : Instr, i.wf = true :=
  ⟨.keyStuck 0 0, by decide +kernel⟩

/-- A state and operands for each clause of `QueueInOrder`. -/
theorem witness_QueueInOrder :
    ∃ c : Instr, ∃ l : List Instr, ∃ s : State, s.pending = c :: l :=
  ⟨.keyStuck 0 0, [], { base with pending := [.keyStuck 0 0] }, by decide +kernel⟩

/-- A state and operands for each clause of `SessionCommandsAct`. -/
theorem witness_SessionCommandsAct :
    (∃ s : State, ∃ h : Hdr, ∃ x : Ctx, Served s h pingSpec x) ∧
    (∃ s : State, ∃ h : Hdr, ∃ x : Ctx, Served s h sessionCloseSpec x) ∧
    (∃ s : State, ∃ i, i < 128 ∧ (s.chip.ses i).isOpen = true ∧ s.chip.passedS (s.chip.ses i).lastFrame (s.chip.getF ENDPOINT_CFG (s.chip.ses i).ep
      ENDPOINT_CFG.IDLE_TIMEOUT_S) = true) ∧
    (∃ s : State, ∃ h : Hdr, ∃ x : Ctx, ∃ minSev, Served s h subscribeSpec x ∧ h.prsv = 0 ∧ minSev ≤ 3) ∧
    (∃ s : State, ∃ h : Hdr, ∃ x : Ctx, Served s h unsubscribeSpec x) :=
  ⟨⟨base, hd 8, cx (hd 8), served_of (by decide +kernel)⟩,
   ⟨base, hd 0, cx (hd 0), served_of (by decide +kernel)⟩,
   ⟨{ base with chip.time.up := 2000000000 }, 1, by decide +kernel, by decide +kernel, by decide +kernel⟩,
   ⟨base, hd 4, cx (hd 4), 3, served_of (by decide +kernel), by decide +kernel, by decide +kernel⟩,
   ⟨base, hd 0, cx (hd 0), served_of (by decide +kernel)⟩⟩

/-- A state and operands for each clause of `HandlesAct`. -/
theorem witness_HandlesAct :
    (∃ s : State, ∃ h : Hdr, ∃ x : Ctx, ∃ v n k, Served s h resultGetSpec x ∧ h.prsv = 0 ∧ 1 ≤ n ∧ n ≤ 1004 ∧ s.chip.findHandle x.si v = some k ∧
      (s.chip.hnd k).finished = false) ∧
    (∃ s : State, ∃ h : Hdr, ∃ x : Ctx, ∃ v offset n k y, Served s h resultGetSpec x ∧ h.prsv = 0 ∧ 1 ≤ n ∧ n ≤ 1004 ∧ s.chip.findHandle x.si v =
      some k ∧ s.chip.hnd k = y ∧ y.finished = true ∧ offset ≤ y.data.length) ∧
    (∃ s : State, ∃ h : Hdr, ∃ x : Ctx, ∃ v k, Served s h resultReleaseSpec x ∧ h.prsv = 0 ∧ s.chip.findHandle x.si v = some k) :=
  ⟨⟨{ base with chip.host.handles := [(0, { gen := 1, owner := some 1 })] }, hd 12, cx (hd 12), 1, 1004, 0, served_of (by decide +kernel), by
      decide +kernel, by decide +kernel, by decide +kernel, by decide +kernel, by decide +kernel⟩,
   ⟨{ base with chip.host.handles := [(0, { gen := 1, owner := some 1, finished := true, data := [1, 2] })] }, hd 12, cx (hd 12), 1, 2, 1, 0,
      ({ base with chip.host.handles := [(0, { gen := 1, owner := some 1, finished := true, data := [1, 2] })] }).chip.hnd 0, served_of (by
      decide +kernel), by decide +kernel, by decide +kernel, by decide +kernel, by decide +kernel, by decide +kernel, by decide +kernel, by
      decide +kernel⟩,
   ⟨{ base with chip.host.handles := [(0, { gen := 1, owner := some 1 })] }, hd 4, cx (hd 4), 1, 0, served_of (by decide +kernel), by
      decide +kernel, by decide +kernel⟩⟩

/-- A state and operands for each clause of `ReadsReturnViews`. -/
theorem witness_ReadsReturnViews :
    (∃ s : State, ∃ h : Hdr, ∃ c : Chip, ∃ x : Ctx, ∃ b rec inst offset n r v, s.chip.ingress h getRecordSpec = .go c x b ∧ findRecord rec = some r ∧
      inst < r.count ∧ c.view x.who r inst = some v ∧ h.prsv = 0 ∧ 1 ≤ n ∧ n ≤ 1008 ∧ offset < r.len) ∧
    (∃ s : State, ∃ h : Hdr, ∃ c : Chip, ∃ x : Ctx, ∃ b segment inst offset n r g, s.chip.ingress h snapReadSpec = .go c x b ∧ snapRecords.find? (fun
      r => r.id == segment) = some r ∧ inst < r.count ∧ c.boot.segments.find? (fun y => y.record == segment && y.inst == inst) = some g ∧
      c.segmentMay x.who r (some g) inst = true ∧ c.getB SNAP_STATUS 0 SNAP_STATUS.SNAP_STATE = true ∧ h.prsv = 0 ∧ 1 ≤ n ∧ n ≤ 996 ∧ offset <
      r.len) :=
  ⟨⟨base, hd 8, Gate.chip (base.chip.ingress (hd 8) getRecordSpec), cx (hd 8), Gate.frag (base.chip.ingress (hd 8) getRecordSpec), 0x0101, 0, 0,
      1008, CRED_ESTATE, ((Gate.chip (base.chip.ingress (hd 8) getRecordSpec)).view (cx (hd 8)).who CRED_ESTATE 0).getD 0, go_of (by
      decide +kernel), by decide +kernel, by decide +kernel, by decide +kernel, by decide +kernel, by decide +kernel, by decide +kernel, by
      decide +kernel⟩,
   ⟨{ (put SNAP_STATUS 0 [(SNAP_STATUS.SNAP_STATE, 1)] base) with chip.boot.segments := [⟨AON_STATUS.id, 0, 7, 0, 0, false⟩] }, hd 8, Gate.chip
      (({ (put SNAP_STATUS 0 [(SNAP_STATUS.SNAP_STATE, 1)] base) with chip.boot.segments := [⟨AON_STATUS.id, 0, 7, 0, 0, false⟩] }).chip.ingress
      (hd 8) snapReadSpec), cx (hd 8), Gate.frag
      (({ (put SNAP_STATUS 0 [(SNAP_STATUS.SNAP_STATE, 1)] base) with chip.boot.segments := [⟨AON_STATUS.id, 0, 7, 0, 0, false⟩] }).chip.ingress
      (hd 8) snapReadSpec), AON_STATUS.id, 0, 0, 996, AON_STATUS, ⟨AON_STATUS.id, 0, 7, 0, 0, false⟩, go_of (by decide +kernel), by
      decide +kernel, by decide +kernel, by decide +kernel, by decide +kernel, by decide +kernel, by decide +kernel, by decide +kernel, by
      decide +kernel, by decide +kernel⟩⟩

/-- A state and operands for each clause of `SetRecordWrites`. -/
theorem witness_SetRecordWrites :
    (∃ s : State, ∃ h : Hdr, ∃ x : Ctx, ∃ ver img r inst, (r = CH_GLOBAL ∨ (r = KP_GLOBAL ∧ KP_GLOBAL.DEBOUNCE_MS.get img % 2 = 0)) ∧ Served s h
      setRecordSpec x ∧ x.who.estateOnly = true ∧ WriteFits s.chip h r inst ver img) ∧
    (∃ s : State, ∃ h : Hdr, ∃ x : Ctx, ∃ rec, Served s h setRecordSpec x ∧ findRecord rec = none) ∧
    (∃ s : State, ∃ h : Hdr, ∃ c : Chip, ∃ x : Ctx, ∃ b rec inst ver r, s.chip.ingress h setRecordSpec = .go c x b ∧ findRecord rec = some r ∧ ver ≠
      0xFFFFFFFF ∧ ver ≠ c.version r inst) :=
  ⟨⟨base, hd (8 + CH_GLOBAL.len), cx (hd (8 + CH_GLOBAL.len)), 0xFFFFFFFF, base.chip.img CH_GLOBAL 0, CH_GLOBAL, 0, by decide +kernel, served_of (by
      decide +kernel), by decide +kernel, by unfold WriteFits; decide +kernel⟩,
   ⟨base, hd 8, cx (hd 8), 0, served_of (by decide +kernel), by decide +kernel⟩,
   ⟨base, hd 8, Gate.chip (base.chip.ingress (hd 8) setRecordSpec), cx (hd 8), Gate.frag (base.chip.ingress (hd 8) setRecordSpec), CH_GLOBAL.id, 0,
      7, CH_GLOBAL, go_of (by decide +kernel), by decide +kernel, by decide +kernel, by decide +kernel⟩⟩

/-- A state and operands for each clause of `EndpointsAct`. -/
theorem witness_EndpointsAct :
    (∃ s : State, ∃ h : Hdr, ∃ x : Ctx, ∃ e, Served s h endpointResetSpec x ∧ e < 18 ∧ h.prsv = 0) ∧
    (∃ s : State, ∃ h : Hdr, ∃ x : Ctx, ∃ inst ver img m, Served s h setRecordSpec x ∧ x.who.estateOnly = true ∧ m = (if inst = 1 then
      ENDPOINT_CFG.EN.set (s.chip.getF ENDPOINT_CFG 1 ENDPOINT_CFG.EN) img else img) ∧ WriteFits s.chip h ENDPOINT_CFG inst ver m ∧
      s.chip.endpointBad inst m = false ∧ (∀ p, p < 2 → s.chip.linkUp p = true) ∧ s.chip.level ≤ s.chip.supported) ∧
    (∃ p, p < 2) ∧
    (∃ s : State, ∃ p, p < 2 ∧ s.chip.portEnabled p = false ∧ s.chip.level ≤ s.chip.supported) ∧
    (∃ s : State, ∃ p, p < 2 ∧ s.chip.portEnabled p = true ∧ s.chip.level = lvFull ∧ s.chip.limitedUnits = true) :=
  ⟨⟨base, hd 4, cx (hd 4), 17, served_of (by decide +kernel), by decide +kernel, by decide +kernel⟩,
   ⟨{ base with chip.host.ethLink := [(0, true), (1, true)] }, hd (8 + ENDPOINT_CFG.len), cx (hd (8 + ENDPOINT_CFG.len)), 17, 0xFFFFFFFF,
      base.chip.img ENDPOINT_CFG 17, (if 17 = 1 then ENDPOINT_CFG.EN.set (({ base with chip.host.ethLink := [(0, true), (1, true)] }).chip.getF
      ENDPOINT_CFG 1 ENDPOINT_CFG.EN) (base.chip.img ENDPOINT_CFG 17) else (base.chip.img ENDPOINT_CFG 17)), served_of (by decide +kernel), by
      decide +kernel, by decide +kernel, by unfold WriteFits; decide +kernel, by decide +kernel, by decide +kernel, by decide +kernel⟩,
   ⟨1, by decide +kernel⟩,
   ⟨base, 1, by decide +kernel, by decide +kernel, by decide +kernel⟩,
   ⟨put ENDPOINT_CFG 17 [(ENDPOINT_CFG.EN, 1), (ENDPOINT_CFG.PORT, 1)] base, 1, by decide +kernel, by decide +kernel, by decide +kernel, by
      decide +kernel⟩⟩

/-- A state and operands for each clause of `FragmentsAndEventsAct`. -/
theorem witness_FragmentsAndEventsAct :
    (∃ s : State, ∃ h : Hdr, ∃ op, ∃ c : Chip, ∃ x : Ctx, ∃ b, s.chip.listening h.ep = true ∧ h.final = false ∧ s.chip.admitFrame h op (opcodeKnown
      op) (opcodeOpen op) = .go c x b ∧ (opcodeClasses op).contains h.cls = true ∧ x.si ≠ session0 ∧ 2 ≤ h.cls ∧ s.chip.fragOf x.si h.tag = none
      ∧ h.len ≤ 1024 ∧ (s.chip.host.frags.filter (fun g => g.ses == x.si)).length < 2 ∧ 0 < s.chip.freeGen h.ep ∧ s.chip.sesFrags x.si <
      s.chip.slotCap h.ep) ∧
    (∃ s : State, ∃ i tag f, i < 128 ∧ s.chip.fragOf i tag = some f ∧ ticksPerSecond < s.chip.since f.last) ∧
    (∃ s : State, ∃ e i q l, 1 ≤ e ∧ e < 18 ∧ i < 128 ∧ s.chip.listening e = true ∧ (s.chip.ses i).isOpen = true ∧ (s.chip.ses i).ep = e ∧
      (s.chip.ses i).queue = q :: l) ∧
    (∃ s : State, ∃ h : Hdr, ∃ fault, s.chip.listening h.ep = true ∧ 1 ≤ fault ∧ fault < 4) ∧
    (∃ s : State, ∃ h : Hdr, s.chip.listening h.ep = true ∧ h.session ≠ 0 ∧ (s.chip.ses (h.session % 128)).isOpen = false ∧ (s.chip.ep
      h.ep).refusals.length < 8 ∧ ((s.chip.ep h.ep).authTimes.filter (fun y => decide (s.chip.since y < ticksPerSecond))).length < 100) :=
  ⟨⟨base, ({ hd 1024 with final := false } : Hdr), 6, Gate.chip (base.chip.admitFrame ({ hd 1024 with final := false } : Hdr) 6 (opcodeKnown 6)
      (opcodeOpen 6)), cx ({ hd 1024 with final := false }), Gate.frag (base.chip.admitFrame ({ hd 1024 with final := false } : Hdr) 6
      (opcodeKnown 6) (opcodeOpen 6)), by decide +kernel, by decide +kernel, go_of (by decide +kernel), by decide +kernel, by decide +kernel, by
      decide +kernel, by decide +kernel, by decide +kernel, by decide +kernel, by decide +kernel, by decide +kernel⟩,
   ⟨{ { base with chip.host.frags := [⟨1, 0, 6, 2, 8, 0⟩] } with chip.time.up := 32769 }, 1, 0, ⟨1, 0, 6, 2, 8, 0⟩, by decide +kernel, by
      decide +kernel, by decide +kernel⟩,
   ⟨{ base with chip.host.sessions := [(1, { isOpen := true, gen := 1, ep := 1, kind := 1, queue := [⟨1, 1, 0, 0, 0, []⟩] })] }, 1, 1, ⟨1, 1, 0, 0,
      0, []⟩, [], by decide +kernel, by decide +kernel, by decide +kernel, by decide +kernel, by decide +kernel, by decide +kernel, by
      decide +kernel⟩,
   ⟨base, hd 0, 3, by decide +kernel, by decide +kernel, by decide +kernel⟩,
   ⟨base, ({ hd 0 with session := 130 } : Hdr), by decide +kernel, by decide +kernel, by decide +kernel, by decide +kernel, by decide +kernel⟩⟩

/-- A state and operands for each clause of `TransportsAct`. -/
theorem witness_TransportsAct :
    (∃ s : State, s.chip.listening 0 = true ∧ (s.chip.ep 0).inbound < 4) ∧
    (∃ s : State, s.chip.listening 0 = true) ∧
    (∃ s : State, ∃ f l, nextOut (s.chip.ep 0) = f :: l) ∧
    (∃ s : State, ∃ f l, nextOut (s.chip.ep 0) = f :: l) ∧
    (∃ s : State, ∃ e target, e < 18 ∧ s.chip.udpUp e = true ∧ s.chip.getB ENDPOINT_CFG e ENDPOINT_CFG.IPV4_EN = true ∧ target ≠ 0 ∧ target =
      s.chip.getF ENDPOINT_CFG e ENDPOINT_CFG.IPV4_ADDR) ∧
    (∃ s : State, ∃ e target, e < 18 ∧ s.chip.udpUp e = true ∧ s.chip.getB ENDPOINT_CFG e ENDPOINT_CFG.IPV6_EN = true ∧ target ≠ 0 ∧ (target =
      s.chip.getF ENDPOINT_CFG e ENDPOINT_CFG.IPV6_ADDR ∨ target = linkLocal (s.chip.getF ENDPOINT_CFG e ENDPOINT_CFG.PORT))) :=
  ⟨⟨put ENDPOINT_CFG 0 [(ENDPOINT_CFG.EN, 1)] base, by decide +kernel, by decide +kernel⟩,
   ⟨put ENDPOINT_CFG 0 [(ENDPOINT_CFG.EN, 1)] base, by decide +kernel⟩,
   ⟨{ base with chip.host.endpoints := [(0, { out := [⟨1, 0, 0, 0, 2, none, 0, [], 0⟩, ⟨2, 0, 0, 0, 0, none, 0, [], 0⟩] })] }, ⟨2, 0, 0, 0, 0, none,
      0, [], 0⟩, [⟨1, 0, 0, 0, 2, none, 0, [], 0⟩], by decide +kernel⟩,
   ⟨{ base with chip.host.endpoints := [(0, { out := [⟨1, 0, 0, 0, 2, none, 0, [], 0⟩] })] }, ⟨1, 0, 0, 0, 2, none, 0, [], 0⟩, [], by
      decide +kernel⟩,
   
      ⟨{ (put ENDPOINT_CFG 17 [(ENDPOINT_CFG.EN, 1), (ENDPOINT_CFG.PORT, 1), (ENDPOINT_CFG.IPV4_EN, 1), (ENDPOINT_CFG.IPV4_ADDR, 9)] base) with chip.host.ethLink := [(1, true)] },
      17, 9, by decide +kernel, by decide +kernel, by decide +kernel, by decide +kernel, by decide +kernel⟩,
   
      ⟨{ (put ENDPOINT_CFG 2 [(ENDPOINT_CFG.EN, 1), (ENDPOINT_CFG.PORT, 0), (ENDPOINT_CFG.IPV6_EN, 1), (ENDPOINT_CFG.IPV6_ADDR, 9)] base) with chip.host.ethLink := [(0, true)] },
      2, 9, by decide +kernel, by decide +kernel, by decide +kernel, by decide +kernel, by decide +kernel⟩⟩

/-- A state and operands for each clause of `SessionOpens`. -/
theorem witness_SessionOpens :
    (∃ s : State, ∃ h : Hdr, ∃ x : Ctx, ∃ q : OpenReq, ∃ y k i, Served s h (sessionOpenSpec q.kind) x ∧ h.prsv = 0 ∧ q.ranges h.ep = true ∧
      s.chip.sec.challenges.find? (fun c => c.1 == h.ep && c.2.1 == q.challenge) = some y ∧ s.chip.since y.2.2 < 30 * ticksPerSecond ∧
      s.chip.openCred q = true ∧ onCurve q.eph = true ∧ q.kind < 6 ∧ s.chip.openKey q = some k ∧ Sig.verifies q.sig k = true ∧ (s.chip.level <
      lvFull → q.kind = 1 ∨ (q.kind = 5 ∧ q.index < 16)) ∧ s.chip.openIndex q = some i) ∧
    (∃ s : State, ∃ h : Hdr, ∃ x : Ctx, ∃ q : OpenReq, ∃ y i, Served s h (sessionOpenSpec q.kind) x ∧ h.prsv = 0 ∧ q.kind = 6 ∧ q.index < 256 ∧
      s.chip.sec.challenges.find? (fun c => c.1 == h.ep && c.2.1 == q.challenge) = some y ∧ s.chip.since y.2.2 < 30 * ticksPerSecond ∧ onCurve
      q.eph = true ∧ onCurve q.newKey = true ∧ Sig.verifies q.sig q.newKey = true ∧ s.chip.codeLive q.index = true ∧ s.chip.codeRight q = true ∧
      s.chip.level = lvFull ∧ s.chip.openIndex q = some i) ∧
    (∃ s : State, ∃ h : Hdr, ∃ x : Ctx, ∃ q : OpenReq, Served s h (sessionOpenSpec q.kind) x ∧ h.prsv = 0 ∧ q.ranges h.ep = true ∧
      s.chip.sec.challenges.find? (fun c => c.1 == h.ep && c.2.1 == q.challenge) = none) :=
  ⟨⟨{ (put CRED_ESTATE 0 [(CRED_ESTATE.PUBKEY, pG)] base) with chip.sec.challenges := [(1, 5, 0)] }, h0 180, x0 (h0 180),
      ({ kind := 1, index := 0, challenge := 5, nonce := 0, eph := pG, sig := sG, newKey := 0, mac := sG } : OpenReq), (1, 5, 0), pG, 0,
      served_of (by decide +kernel), by decide +kernel, by decide +kernel, by decide +kernel, by decide +kernel, by decide +kernel, by
      decide +kernel, by decide +kernel, by decide +kernel, by decide +kernel, by decide +kernel, by decide +kernel⟩,
   
      ⟨{ { (put PLOT_SLOT 255 [(PLOT_SLOT.STATE, 1), (PLOT_SLOT.CODE_EXPIRY, 1)] base) with chip.sec.challenges := [(1, 5, 0)] } with chip.sec.plots := [(255, { code := some pG })] },
      h0 276, x0 (h0 276), ({ kind := 6, index := 255, challenge := 5, nonce := 0, eph := pG, sig := sG, newKey := pG, mac := sG } : OpenReq),
      (1, 5, 0), 0, served_of (by decide +kernel), by decide +kernel, by decide +kernel, by decide +kernel, by decide +kernel, by decide +kernel,
      by decide +kernel, by decide +kernel, by decide +kernel, by decide +kernel, by decide +kernel, by decide +kernel, by decide +kernel⟩,
   ⟨base, h0 276, x0 (h0 276), ({ kind := 7, index := 0, challenge := 5, nonce := 0, eph := pG, sig := sG, newKey := pG, mac := sG } : OpenReq),
      served_of (by decide +kernel), by decide +kernel, by decide +kernel, by decide +kernel⟩⟩

/-- A state and operands for each clause of `IdentityCommandsAct`. -/
theorem witness_IdentityCommandsAct :
    (∃ s : State, ∃ h : Hdr, ∃ x : Ctx, ∃ cert, Served s h getIdentitySpec x ∧ cert ≤ 1 ∧ h.prsv = 0) ∧
    (∃ s : State, ∃ h : Hdr, ∃ x : Ctx, Served s h attestSpec x) ∧
    (∃ s : State, ∃ h : Hdr, ∃ x : Ctx, ∃ k inst ver img old new, k < 3 ∧ Served s h setRecordSpec x ∧ x.who.estateOnly = true ∧ WriteFits s.chip h
      (credRec k) inst ver img ∧ old = s.chip.img (credRec k) inst ∧ new = (credRec k).merge old img ∧ (CRED_ESTATE.VALID.get img = 1 → onCurve
      (CRED_ESTATE.PUBKEY.get img) = true) ∧ (k ≠ 0 → badTime (CRED_OPERATOR.EXPIRY.get img) = false) ∧ (k = 2 → (CRED_ESTATE.VALID.get img = 1 →
      CRED_FEEDER.SRC_COUNT.get img ≠ 0) ∧ CRED_FEEDER.SRC_FIRST.get img ≤ 4095 ∧ CRED_FEEDER.SRC_FIRST.get img + CRED_FEEDER.SRC_COUNT.get img ≤
      4096) ∧ (k = 0 → CRED_ESTATE.VALID.get img = 1 ∨ s.chip.credValid CRED_ESTATE (1 - inst) = true)) ∧
    (∃ s : State, ∃ h : Hdr, ∃ x : Ctx, ∃ image sl v, Served s h rollbackCommitSpec x ∧ image ≤ 2 ∧ h.prsv = 0 ∧ s.chip.runSlot image = some sl ∧
      s.chip.secF (SECURITY_STATUS.OTP_SLOTS_FREE image) ≠ 0 ∧ v = s.chip.getF FW_SLOT (fwInst image sl) FW_SLOT.SEC_VER) ∧
    (∃ s : State, ∃ i sl, s.chip.level = lvFull ∧ s.chip.passedS s.chip.boot.runSince 3600 = true ∧ i < 3 ∧ s.chip.runSlot i = some sl ∧ s.chip.secF
      (SECURITY_STATUS.SHADOW_MIN i) < s.chip.getF FW_SLOT (fwInst i sl) FW_SLOT.SEC_VER) :=
  ⟨⟨base, hd 4, cx (hd 4), 1, served_of (by decide +kernel), by decide +kernel, by decide +kernel⟩,
   ⟨base, hd 32, cx (hd 32), served_of (by decide +kernel)⟩,
   ⟨base, hd (8 + CRED_FEEDER.len), cx (hd (8 + CRED_FEEDER.len)), 2, 63, 0xFFFFFFFF, base.chip.img CRED_FEEDER 63, base.chip.img (credRec 2) 63,
      (credRec 2).merge (base.chip.img (credRec 2) 63) (base.chip.img CRED_FEEDER 63), by decide +kernel, served_of (by decide +kernel), by
      decide +kernel, by unfold WriteFits; decide +kernel, by decide +kernel, by decide +kernel, by decide +kernel, by decide +kernel, by
      decide +kernel, by decide +kernel⟩,
   ⟨{ (put SECURITY_STATUS 0 [(SECURITY_STATUS.OTP_SLOTS_FREE 2, 1)] base) with chip.boot.running := [(2, 1)] }, hd 4, cx (hd 4), 2, 1,
      ({ (put SECURITY_STATUS 0 [(SECURITY_STATUS.OTP_SLOTS_FREE 2, 1)] base) with chip.boot.running := [(2, 1)] }).chip.getF FW_SLOT (fwInst 2
      1) FW_SLOT.SEC_VER, served_of (by decide +kernel), by decide +kernel, by decide +kernel, by decide +kernel, by decide +kernel, by
      decide +kernel⟩,
   ⟨{ { (put FW_SLOT 5 [(FW_SLOT.SEC_VER, 1)] base) with chip.boot.running := [(2, 1)] } with chip.time.up := 117964800 }, 2, 1, by decide +kernel,
      by decide +kernel, by decide +kernel, by decide +kernel, by decide +kernel⟩⟩

/-- A state and operands for each clause of `PlotSlotsAct`. -/
theorem witness_PlotSlotsAct :
    (∃ s : State, ∃ h : Hdr, ∃ x : Ctx, ∃ p lifetime, Served s h plotCreateSpec x ∧ p < 256 ∧ lifetime ≤ 2160 ∧ h.prsv = 0 ∧ (s.chip.slotState p =
      slEmpty ∨ s.chip.slotState p = slCodeDead) ∧ s.chip.lifecycle ≠ lcUnlocked) ∧
    (∃ s : State, ∃ p, p < 256 ∧ s.chip.slotState p = slAwaiting ∧ s.chip.getF PLOT_SLOT p PLOT_SLOT.CODE_EXPIRY ≤ s.chip.now) ∧
    (∃ s : State, ∃ h : Hdr, ∃ x : Ctx, ∃ key sig p, Served s h plotKeyRotateSpec x ∧ x.who.plotOf = some p ∧ onCurve key = true ∧ Sig.verifies sig
      key = true) ∧
    (∃ s : State, ∃ h : Hdr, ∃ x : Ctx, ∃ p k, Served s h plotEvictSpec x ∧ p < 256 ∧ h.prsv = 0 ∧ s.chip.slotState p ≠ slEmpty ∧ s.chip.slotState p
      ≠ slWiping ∧ s.chip.freeHandle x.si = some k) ∧
    (∃ s : State, ∃ p e, p < 256 ∧ s.chip.sec.evicting.find? (fun e => e.plot == p && e.stage == 0) = some e) :=
  ⟨⟨base, hd 8, cx (hd 8), 255, 2160, served_of (by decide +kernel), by decide +kernel, by decide +kernel, by decide +kernel, by decide +kernel, by
      decide +kernel⟩,
   ⟨put PLOT_SLOT 255 [(PLOT_SLOT.STATE, 1)] base, 255, by decide +kernel, by decide +kernel, by decide +kernel⟩,
   ⟨plt, hd 128, px (hd 128), pG, sG, 5, served_of (by decide +kernel), by decide +kernel, by decide +kernel, by decide +kernel⟩,
   ⟨put PLOT_SLOT 255 [(PLOT_SLOT.STATE, 2)] base, hd 4, cx (hd 4), 255, 0, served_of (by decide +kernel), by decide +kernel, by decide +kernel, by
      decide +kernel, by decide +kernel, by decide +kernel⟩,
   ⟨{ base with chip.sec.evicting := [{ plot := 255, handle := none }] }, 255, { plot := 255, handle := none }, by decide +kernel, by
      decide +kernel⟩⟩

/-- A state and operands for each clause of `PrivacyCommandsAct`. -/
theorem witness_PrivacyCommandsAct :
    (∃ s : State, ∃ h : Hdr, ∃ x : Ctx, ∃ inst ver img, Served s h setRecordSpec x ∧ x.who.estateOnly = true ∧ WriteFits s.chip h PRIVACY_CFG inst
      ver img) ∧
    (∃ s : State, ∃ h : Hdr, ∃ x : Ctx, ∃ inst ver img, Served s h setRecordSpec x ∧ x.who.estateOnly = true ∧ WriteFits s.chip h OCC_GROUP inst ver
      img ∧ s.chip.occGroupBad inst img = false ∧ s.chip.occGroupHeld inst img = false) ∧
    (∃ s : State, ∃ q, q = s.chip.now / ticksPerQuarter * ticksPerQuarter ∧ q ≠ 0 ∧ q ≠ s.chip.sec.aggAt ∧ lvLimited ≤ s.chip.level) :=
  ⟨⟨base, hd (8 + PRIVACY_CFG.len), cx (hd (8 + PRIVACY_CFG.len)), 0, 0xFFFFFFFF, base.chip.img PRIVACY_CFG 0, served_of (by decide +kernel), by
      decide +kernel, by unfold WriteFits; decide +kernel⟩,
   ⟨base, hd (8 + OCC_GROUP.len), cx (hd (8 + OCC_GROUP.len)), 63, 0xFFFFFFFF, leValue (u8 20 ++ rsvBytes 11 ++ (List.range 20).flatMap u16),
      served_of (by decide +kernel), by decide +kernel, by unfold WriteFits; decide +kernel, by decide +kernel, by decide +kernel⟩,
   ⟨{ base with chip.time.rtc := 29491200 }, 29491200, by decide +kernel, by decide +kernel, by decide +kernel, by decide +kernel⟩⟩

/-- A state and operands for each clause of `LifecycleCommandsAct`. -/
theorem witness_LifecycleCommandsAct :
    (∃ s : State, ∃ pins, pins < 4 ∧ s.chip.boot.vaon = true ∧ s.chip.secF SECURITY_STATUS.PINS ≠ pins) ∧
    (∃ s : State, ∃ h : Hdr, ∃ x : Ctx, Served s h (debugSpec 0x0102 0) x ∧ s.chip.serviceEn = true ∧ s.chip.safeKey = true) ∧
    (∃ s : State, ∃ h : Hdr, ∃ x : Ctx, ∃ challenge minutes keyId sig at_ k, Served s h (debugSpec 0x0103 108) x ∧ s.chip.serviceEn = true ∧
      s.chip.safeKey = true ∧ keyId ≤ 3 ∧ s.chip.sec.debugChallenge = some (challenge, at_) ∧ s.chip.since at_ < 600 * ticksPerSecond ∧
      Sig.verifies sig keyId = true ∧ 1 ≤ minutes ∧ minutes ≤ 1440 ∧ h.prsv = 0 ∧ s.chip.secF SECURITY_STATUS.UNLOCK_COUNT < 32 ∧
      s.chip.lifecycle = lcField ∧ s.chip.sec.unlockOp = none ∧ s.chip.freeHandle x.si = some k) ∧
    (∃ s : State, ∃ u, s.chip.sec.unlockOp = some u ∧ u.stage = 0) ∧
    (∃ s : State, ∃ h : Hdr, ∃ x : Ctx, Served s h debugLockSpec x ∧ s.chip.lifecycle = lcUnlocked ∧ s.chip.recentRestarts = [] ∧ s.chip.level ≤
      s.chip.supported ∧ lvLimited ≤ s.chip.level) ∧
    (∃ s : State, s.chip.lifecycle = lcUnlocked ∧ (s.chip.secF SECURITY_STATUS.UNLOCK_EXPIRY ≤ s.chip.now ∨ s.chip.serviceEn = false) ∧
      s.chip.recentRestarts = [] ∧ s.chip.level ≤ s.chip.supported ∧ lvLimited ≤ s.chip.level) ∧
    (∃ s : State, ∃ h : Hdr, ∃ x : Ctx, Served s h (debugSpec 0x0105 16) x ∧ s.chip.serviceEn = true ∧ s.chip.safeKey = true ∧ h.prsv = 0) :=
  ⟨⟨base, 3, by decide +kernel, by decide +kernel, by decide +kernel⟩,
   ⟨svc, sh 0, sx (sh 0), served_of (by decide +kernel), by decide +kernel, by decide +kernel⟩,
   ⟨put SECURITY_STATUS 0 [(SECURITY_STATUS.LIFECYCLE, 1)] ({ svc with chip.sec.debugChallenge := some (5, 0) }), sh 108, sx (sh 108), 5, 1440, 3,
      ⟨3, true, 0⟩, 0, 0, served_of (by decide +kernel), by decide +kernel, by decide +kernel, by decide +kernel, by decide +kernel, by
      decide +kernel, by decide +kernel, by decide +kernel, by decide +kernel, by decide +kernel, by decide +kernel, by decide +kernel, by
      decide +kernel, by decide +kernel⟩,
   ⟨{ base with chip.sec.unlockOp := some { handle := none, minutes := 1 } }, { handle := none, minutes := 1 }, by decide +kernel, by
      decide +kernel⟩,
   ⟨put SECURITY_STATUS 0 [(SECURITY_STATUS.LIFECYCLE, 2)] base, hd 0, cx (hd 0), served_of (by decide +kernel), by decide +kernel, by
      decide +kernel, by decide +kernel, by decide +kernel⟩,
   ⟨put SECURITY_STATUS 0 [(SECURITY_STATUS.LIFECYCLE, 2)] base, by decide +kernel, by decide +kernel, by decide +kernel, by decide +kernel, by
      decide +kernel⟩,
   ⟨svc, sh 16, sx (sh 16), served_of (by decide +kernel), by decide +kernel, by decide +kernel, by decide +kernel⟩⟩

/-- A state and operands for each clause of `WindowsRun`. -/
theorem witness_WindowsRun :
    (∃ s : State, ∃ e frame window, ∃ x : Entry, ∃ z, e < 256 ∧ (s.chip.lane e).zone = none ∧ lvLimited ≤ s.chip.level ∧ s.chip.boot.pfHalt = false ∧
      s.chip.tstate (e / 64) = tsInService ∧ s.chip.pergolaUp (e / 4) = true ∧ s.chip.dueEntry e frame window = some x ∧ z = 256 * (e / 64) +
      x.slot ∧ s.chip.getB ZONE_CFG z ZONE_CFG.EN = true ∧ s.chip.zstate z = zsRunning ∧ s.chip.getB ZONE_STATUS z ZONE_STATUS.CTX_DAMAGED =
      false) ∧
    (∃ s : State, ∃ e frame window l z, e < 256 ∧ s.chip.lane e = l ∧ l.zone = some z ∧ l.done = true ∧ s.chip.zstate z = zsRunning ∧ s.chip.dueEntry
      e frame window = none) ∧
    (∃ s : State, ∃ e l z, e < 256 ∧ l = (s.chip.beginTick e).lane e ∧ l.zone = some z ∧ l.running = true ∧ l.rom = true) ∧
    (∃ s : State, ∃ e l z, e < 256 ∧ l = (s.chip.beginTick e).lane e ∧ l.zone = some z ∧ l.running = true ∧ l.rom = false ∧ l.step = 0 ∧ l.cycles = 0
      ∧ s.chip.getB PROGRAM_INFO (l.progIndex z) PROGRAM_INFO.VALID = true ∧ (s.chip.ter (z / 256)).badProgs.contains (l.progIndex z % 128) =
      false ∧ imgSteps (s.chip.img PROGRAM_IMAGE (l.progIndex z)) = 1 ∧ imgWord (s.chip.img PROGRAM_IMAGE (l.progIndex z)) 0 = 0) ∧
    (∃ s : State, ∃ e l z, e < 256 ∧ l = (s.chip.beginTick e).lane e ∧ l.zone = some z ∧ l.running = true ∧ l.rom = false ∧ l.step < 256 ∧
      s.chip.getB PROGRAM_INFO (l.progIndex z) PROGRAM_INFO.VALID = false) ∧
    (∃ s : State, ∃ e l z, e < 256 ∧ s.chip.lane e = l ∧ l.zone = some z) ∧
    (∃ s : State, ∃ kind idx v at_, s.chip.boot.hold = none ∧ s.chip.zones.updates = [(kind, idx, v, at_)]) :=
  ⟨⟨put ZONE_STATUS 0 [(ZONE_STATUS.ZSTATE, 1)] (put ZONE_CFG 0 [(ZONE_CFG.EN, 1)] (put TICK_TABLE 0 [(TICK_TABLE.ENTRY_COUNT, 1)] (put
      TERRACE_STATUS 0 [(TERRACE_STATUS.TSTATE, 0)] base))), 0, 0, 0, (⟨0, 0, 0, 0, 0, false, 0⟩ : Entry), 0, by decide +kernel, by
      decide +kernel, by decide +kernel, by decide +kernel, by decide +kernel, by decide +kernel, by decide +kernel, by decide +kernel, by
      decide +kernel, by decide +kernel, by decide +kernel⟩,
   ⟨{ (put ZONE_STATUS 1023 [(ZONE_STATUS.ZSTATE, 1)] base) with chip.zones.lane := [(255, { zone := some 1023, done := true })] }, 255, 0, 0,
      ({ (put ZONE_STATUS 1023 [(ZONE_STATUS.ZSTATE, 1)] base) with chip.zones.lane := [(255, { zone := some 1023, done := true })] }).chip.lane
      255, 1023, by decide +kernel, by decide +kernel, by decide +kernel, by decide +kernel, by decide +kernel, by decide +kernel⟩,
   ⟨{ base with chip.zones.lane := [(255, { zone := some 1023, rom := true })] }, 255,
      (({ base with chip.zones.lane := [(255, { zone := some 1023, rom := true })] }).chip.beginTick 255).lane 255, 1023, by decide +kernel, by
      decide +kernel, by decide +kernel, by decide +kernel, by decide +kernel⟩,
   
      ⟨{ (put PROGRAM_IMAGE 511 [(PROGRAM_IMAGE.IMAGE, 256)] (put PROGRAM_INFO 511 [(PROGRAM_INFO.VALID, 1)] base)) with chip.zones.lane := [(255, { zone := some 1023, cfg := ZONE_CFG.PROG_ID.set 127 0 })] },
      255,
      (({ (put PROGRAM_IMAGE 511 [(PROGRAM_IMAGE.IMAGE, 256)] (put PROGRAM_INFO 511 [(PROGRAM_INFO.VALID, 1)] base)) with chip.zones.lane := [(255, { zone := some 1023, cfg := ZONE_CFG.PROG_ID.set 127 0 })] }).chip.beginTick
      255).lane 255, 1023, by decide +kernel, by decide +kernel, by decide +kernel, by decide +kernel, by decide +kernel, by decide +kernel, by
      decide +kernel, by decide +kernel, by decide +kernel, by decide +kernel, by decide +kernel⟩,
   ⟨{ base with chip.zones.lane := [(255, { zone := some 1023, cfg := ZONE_CFG.PROG_ID.set 127 0 })] }, 255,
      (({ base with chip.zones.lane := [(255, { zone := some 1023, cfg := ZONE_CFG.PROG_ID.set 127 0 })] }).chip.beginTick 255).lane 255, 1023,
      by decide +kernel, by decide +kernel, by decide +kernel, by decide +kernel, by decide +kernel, by decide +kernel, by decide +kernel⟩,
   ⟨{ (put ZONE_STATUS 1023 [(ZONE_STATUS.ZSTATE, 1)] base) with chip.zones.lane := [(255, { zone := some 1023, done := true, demand := 7 })] },
      255,
      ({ (put ZONE_STATUS 1023 [(ZONE_STATUS.ZSTATE, 1)] base) with chip.zones.lane := [(255, { zone := some 1023, done := true, demand := 7 })] }).chip.lane
      255, 1023, by decide +kernel, by decide +kernel, by decide +kernel⟩,
   ⟨{ base with chip.zones.updates := [(1, 0, -5, 9)] }, 1, 0, -5, 9, by decide +kernel, by decide +kernel⟩⟩

/-- A state and operands for each clause of `TerracesAct`. -/
theorem witness_TerracesAct :
    (∃ s : State, ∃ t₀, t₀ < 4 ∧ s.chip.tstate t₀ = tsInService) ∧
    (∃ s : State, ∃ h : Hdr, ∃ x : Ctx, ∃ t₀ k, Served s h (zoneCmdSpec 0x0203 [2] (Who.estateOr scDiag)) x ∧ t₀ < 4 ∧ h.prsv = 0 ∧ (x.who.estateOnly
      = true ∨ s.chip.tstate t₀ ≠ tsOutOfService) ∧ s.chip.tstate t₀ ≠ tsResetting ∧ s.chip.tstate t₀ ≠ tsOff ∧ s.chip.freeHandle x.si = some k) ∧
    (∃ s : State, ∃ t₀ r, t₀ < 4 ∧ (s.chip.ter t₀).reset = some r) ∧
    (∃ s : State, ∃ t₀ r, t₀ < 4 ∧ (s.chip.ter t₀).reset = some r) ∧
    (∃ s : State, ∃ p cause, p < 64 ∧ cause < 256 ∧ s.chip.pstate p ≠ psRetired ∧ s.chip.pstate p ≠ psOff ∧ s.chip.tstate (p / 16) = tsInService) ∧
    (∃ s : State, ∃ p, p < 64 ∧ s.chip.pstate p = psResetting ∧ s.chip.tstate (p / 16) = tsInService) ∧
    (∃ s : State, ∃ h : Hdr, ∃ x : Ctx, ∃ p, Served s h (zoneCmdSpec 0x0202 [2] (Who.estateOr scDiag)) x ∧ p < 64 ∧ h.prsv = 0 ∧ (x.who.estateOnly =
      true ∨ s.chip.pstate p ≠ psRetired) ∧ s.chip.pstate p ∉ [psOff, psSpare, psResetting] ∧ s.chip.tstate (p / 16) = tsInService) ∧
    (∃ s : State, ∃ t₀, t₀ < 4 ∧ s.chip.tstate t₀ = tsInService) ∧
    (∃ t₀, t₀ < 4) ∧
    (∃ t₀ region, t₀ < 4 ∧ region < 4) ∧
    (∃ t₀ offset a z, t₀ < 4 ∧ contextArea (offset % 1024) = some a ∧ z = 256 * t₀ + offset / 1024 % 256) ∧
    (∃ t₀, t₀ < 4) ∧
    (∃ s : State, ∃ t₀ id, t₀ < 4 ∧ id < 128 ∧ (s.chip.ter t₀).badProgs.contains id = true) :=
  ⟨⟨put TERRACE_STATUS 3 [(TERRACE_STATUS.TSTATE, 0)] base, 3, by decide +kernel, by decide +kernel⟩,
   ⟨put TERRACE_STATUS 3 [(TERRACE_STATUS.TSTATE, 0)] base, hd 4, cx (hd 4), 3, 0, served_of (by decide +kernel), by decide +kernel, by
      decide +kernel, by decide +kernel, by decide +kernel, by decide +kernel, by decide +kernel⟩,
   ⟨{ base with chip.zones.terrace := [(3, { reset := some (1, none) })] }, 3, (1, none), by decide +kernel, by decide +kernel⟩,
   ⟨{ base with chip.zones.terrace := [(3, { reset := some (1, none) })] }, 3, (1, none), by decide +kernel, by decide +kernel⟩,
   ⟨put PERGOLA_STATUS 63 [(PERGOLA_STATUS.PSTATE, 0)] (put TERRACE_STATUS 3 [(TERRACE_STATUS.TSTATE, 0)] base), 63, 255, by decide +kernel, by
      decide +kernel, by decide +kernel, by decide +kernel, by decide +kernel⟩,
   ⟨put PERGOLA_STATUS 63 [(PERGOLA_STATUS.PSTATE, 3)] (put TERRACE_STATUS 3 [(TERRACE_STATUS.TSTATE, 0)] base), 63, by decide +kernel, by
      decide +kernel, by decide +kernel⟩,
   ⟨put PERGOLA_STATUS 63 [(PERGOLA_STATUS.PSTATE, 0)] (put TERRACE_STATUS 3 [(TERRACE_STATUS.TSTATE, 0)] base), hd 4, cx (hd 4), 63, served_of (by
      decide +kernel), by decide +kernel, by decide +kernel, by decide +kernel, by decide +kernel, by decide +kernel⟩,
   ⟨put TERRACE_STATUS 3 [(TERRACE_STATUS.TSTATE, 0)] base, 3, by decide +kernel, by decide +kernel⟩,
   ⟨3, by decide +kernel⟩,
   ⟨3, 3, by decide +kernel, by decide +kernel⟩,
   ⟨3, 262135, 5, 256 * 3 + 262135 / 1024 % 256, by decide +kernel, by decide +kernel, by decide +kernel⟩,
   ⟨3, by decide +kernel⟩,
   ⟨{ base with chip.zones.terrace := [(3, { badProgs := [127] })] }, 3, 127, by decide +kernel, by decide +kernel, by decide +kernel⟩⟩

/-- A state and operands for each clause of `TablesAndProgramsLoad`. -/
theorem witness_TablesAndProgramsLoad :
    (∃ s : State, ∃ h : Hdr, ∃ x : Ctx, ∃ img t₀ k, Served s h tickTableLoadSpec x ∧ t₀ = TICK_TABLE.TERRACE.get img ∧ t₀ < 4 ∧ (s.chip.ter t₀).load
      = none ∧ s.chip.tstate t₀ = tsInService ∧ s.chip.freeHandle x.si = some k) ∧
    (∃ s : State, ∃ t₀ l, t₀ < 4 ∧ (s.chip.ter t₀).load = some l ∧ l.valid = false) ∧
    (∃ s : State, ∃ t₀ l, t₀ < 4 ∧ (s.chip.ter t₀).load = some l ∧ l.valid = true) ∧
    (∃ s : State, ∃ t₀ l, t₀ < 4 ∧ (s.chip.ter t₀).load = some l ∧ l.valid = true ∧ l.committed = true) ∧
    (∃ s : State, ∃ h : Hdr, ∃ x : Ctx, ∃ t₀ id k, Served s h programLoadSpec x ∧ t₀ < 4 ∧ id < 128 ∧ h.prsv = 0 ∧ s.chip.tstate t₀ = tsInService ∧
      (s.chip.ter t₀).prog = none ∧ s.chip.freeHandle x.si = some k) ∧
    (∃ s : State, ∃ t₀ p, t₀ < 4 ∧ (s.chip.ter t₀).prog = some p ∧ p.id < 128) ∧
    (∃ s : State, ∃ h : Hdr, ∃ x : Ctx, ∃ t₀ id force, Served s h programUnloadSpec x ∧ t₀ < 4 ∧ id < 128 ∧ force ≤ 1 ∧ h.prsv = 0 ∧ s.chip.getB
      PROGRAM_INFO (128 * t₀ + id) PROGRAM_INFO.VALID = true ∧ (s.chip.getF PROGRAM_INFO (128 * t₀ + id) PROGRAM_INFO.USERS = 0 ∨ force = 1) ∧
      (s.chip.ter t₀).prog = none) :=
  ⟨⟨put TERRACE_STATUS 3 [(TERRACE_STATUS.TSTATE, 0)] base, hd 32, cx (hd 32), 768, 3, 0, served_of (by decide +kernel), by decide +kernel, by
      decide +kernel, by decide +kernel, by decide +kernel, by decide +kernel⟩,
   ⟨{ base with chip.zones.terrace := [(3, { load := some { handle := none, img := 769, len := 32 } })] }, 3,
      { handle := none, img := 769, len := 32 }, by decide +kernel, by decide +kernel, by decide +kernel⟩,
   ⟨{ base with chip.zones.terrace := [(3, { load := some { handle := none, img := 769, len := 32, valid := true } })] }, 3,
      { handle := none, img := 769, len := 32, valid := true }, by decide +kernel, by decide +kernel, by decide +kernel⟩,
   ⟨{ base with chip.zones.terrace := [(3, { load := some { handle := none, img := 769, len := 32, valid := true, committed := true } })] }, 3,
      { handle := none, img := 769, len := 32, valid := true, committed := true }, by decide +kernel, by decide +kernel, by decide +kernel, by
      decide +kernel⟩,
   ⟨put TERRACE_STATUS 3 [(TERRACE_STATUS.TSTATE, 0)] base, hd 788, cx (hd 788), 3, 127, 0, served_of (by decide +kernel), by decide +kernel, by
      decide +kernel, by decide +kernel, by decide +kernel, by decide +kernel, by decide +kernel⟩,
   ⟨{ base with chip.zones.terrace := [(3, { prog := some { handle := none, id := 127, img := 0, len := 20 } })] }, 3,
      { handle := none, id := 127, img := 0, len := 20 }, by decide +kernel, by decide +kernel, by decide +kernel⟩,
   ⟨put PROGRAM_INFO 511 [(PROGRAM_INFO.VALID, 1), (PROGRAM_INFO.USERS, 2)] base, hd 4, cx (hd 4), 3, 127, 1, served_of (by decide +kernel), by
      decide +kernel, by decide +kernel, by decide +kernel, by decide +kernel, by decide +kernel, by decide +kernel, by decide +kernel⟩⟩

/-- A state and operands for each clause of `ZoneCommandsAct`. -/
theorem witness_ZoneCommandsAct :
    (∃ s : State, ∃ h : Hdr, ∃ x : Ctx, ∃ z, Served s h (zoneCmdSpec 0x0200 [1, 2] Who.estateOrPlot) x ∧ z < 1024 ∧ (x.who.estateOnly = true ∨ x.who
      = .plot (s.chip.zoneOwner z)) ∧ h.prsv = 0 ∧ s.chip.damagedCfg z = false ∧ s.chip.wipingZone z = false) ∧
    (∃ s : State, ∃ h : Hdr, ∃ x : Ctx, ∃ p, Served s h (zoneCmdSpec 0x0310 [2] Who.estateOrPlot) x ∧ p < 256 ∧ (x.who.estateOnly = true ∨ x.who =
      .plot p) ∧ h.prsv = 0 ∧ s.chip.slotState p ≠ slWiping ∧ (s.chip.plotZones p).any s.chip.damagedCfg = false) ∧
    (∃ s : State, ∃ h : Hdr, ∃ x : Ctx, ∃ e, Served s h (zoneCmdSpec 0x0201 [2] (Who.estateOr scDiag)) x ∧ e < 256 ∧ h.prsv = 0 ∧ s.chip.pstate (e /
      4) ∉ [psOff, psResetting, psRetired]) ∧
    (∃ s : State, ∃ e, e < 256 ∧ s.chip.zones.laneReset.contains e = true) ∧
    (∃ s : State, ∃ h : Hdr, ∃ x : Ctx, ∃ z, Served s h (zoneCmdSpec 0x0210 [0, 1] (Who.estateOr scChannels)) x ∧ z < 1024 ∧ h.prsv = 0) ∧
    (∃ s : State, ∃ h : Hdr, ∃ x : Ctx, ∃ z, Served s h (zoneCmdSpec 0x0211 [1, 2] (Who.estateOr scChannels)) x ∧ z < 1024 ∧ h.prsv = 0 ∧
      s.chip.isolated z = true) :=
  ⟨⟨base, hd 4, cx (hd 4), 1023, served_of (by decide +kernel), by decide +kernel, by decide +kernel, by decide +kernel, by decide +kernel, by
      decide +kernel⟩,
   ⟨put PLOT_ZONES 5 [(PLOT_ZONES.ZONE_MAP, 2 ^ 1023)] plt, hd 4, px (hd 4), 5, served_of (by decide +kernel), by decide +kernel, by decide +kernel,
      by decide +kernel, by decide +kernel, by decide +kernel⟩,
   ⟨put PERGOLA_STATUS 63 [(PERGOLA_STATUS.PSTATE, 0)] base, hd 4, cx (hd 4), 255, served_of (by decide +kernel), by decide +kernel, by
      decide +kernel, by decide +kernel⟩,
   ⟨{ base with chip.zones.laneReset := [255] }, 255, by decide +kernel, by decide +kernel⟩,
   ⟨base, hd 4 0, cx (hd 4 0), 1023, served_of (by decide +kernel), by decide +kernel, by decide +kernel⟩,
   ⟨put ZONE_STATUS 1023 [(ZONE_STATUS.ISOLATED, 1)] base, hd 4, cx (hd 4), 1023, served_of (by decide +kernel), by decide +kernel, by
      decide +kernel, by decide +kernel⟩⟩

/-- A state and operands for each clause of `ZoneConfigWrites`. -/
theorem witness_ZoneConfigWrites :
    (∃ s : State, ∃ h : Hdr, ∃ x : Ctx, ∃ z ver img, Served s h setRecordSpec x ∧ x.who.estateOnly = true ∧ WriteFits s.chip h ZONE_CFG z ver img ∧
      ZONE_CFG.OWNER.get img ≤ 256 ∧ zoneCfgBad z img = false ∧ s.chip.zoneCfgHeld z img = false) ∧
    (∃ s : State, ∃ h : Hdr, ∃ x : Ctx, ∃ z ver img, Served s h setRecordSpec x ∧ (x.who.estateOnly = true ∨ (x.who = .plot (s.chip.zoneOwner z) ∧
      s.chip.enrolledZone z = true ∧ s.chip.paramsOut z img = false)) ∧ WriteFits s.chip h ZONE_PARAMS z ver (s.chip.paramsMerged x.who z img)) ∧
    (∃ s : State, ∃ h : Hdr, ∃ x : Ctx, ∃ p ver img, Served s h setRecordSpec x ∧ x.who.estateOnly = true ∧ WriteFits s.chip h PLOT_LIMITS p ver img
      ∧ toSigned 16 (PLOT_LIMITS.SP_MIN.get img) ≤ toSigned 16 (PLOT_LIMITS.SP_MAX.get img) ∧ PLOT_LIMITS.OCC_EARLIEST.get img ≤
      PLOT_LIMITS.OCC_LATEST.get img) ∧
    (∃ s : State, ∃ h : Hdr, ∃ x : Ctx, ∃ p ver img, Served s h setRecordSpec x ∧ x.who.estateOnly = true ∧ WriteFits s.chip h PLOT_ISOLATION p ver
      img) ∧
    (∃ s : State, ∃ h : Hdr, ∃ x : Ctx, ∃ t₀ ver img, Served s h setRecordSpec x ∧ x.who.estateOnly = true ∧ WriteFits s.chip h TERRACE_PERF t₀ ver
      img) :=
  ⟨⟨base, hd (8 + ZONE_CFG.len), cx (hd (8 + ZONE_CFG.len)), 1023, 0xFFFFFFFF, base.chip.img ZONE_CFG 1023, served_of (by decide +kernel), by
      decide +kernel, by unfold WriteFits; decide +kernel, by decide +kernel, by decide +kernel, by decide +kernel⟩,
   ⟨put ZONE_CFG 1023 [(ZONE_CFG.OWNER, 5)] plt, hd (8 + ZONE_PARAMS.len), px (hd (8 + ZONE_PARAMS.len)), 1023, 0xFFFFFFFF, 0, served_of (by
      decide +kernel), by decide +kernel, by unfold WriteFits; decide +kernel⟩,
   ⟨base, hd (8 + PLOT_LIMITS.len), cx (hd (8 + PLOT_LIMITS.len)), 255, 0xFFFFFFFF, base.chip.img PLOT_LIMITS 255, served_of (by decide +kernel), by
      decide +kernel, by unfold WriteFits; decide +kernel, by decide +kernel, by decide +kernel⟩,
   ⟨base, hd (8 + PLOT_ISOLATION.len), cx (hd (8 + PLOT_ISOLATION.len)), 255, 0xFFFFFFFF, base.chip.img PLOT_ISOLATION 255, served_of (by
      decide +kernel), by decide +kernel, by unfold WriteFits; decide +kernel⟩,
   ⟨base, hd (8 + TERRACE_PERF.len), cx (hd (8 + TERRACE_PERF.len)), 3, 0xFFFFFFFF, base.chip.img TERRACE_PERF 3, served_of (by decide +kernel), by
      decide +kernel, by unfold WriteFits; decide +kernel⟩⟩

/-- A state and operands for each clause of `MoveSteps`. -/
theorem witness_MoveSteps :
    (∃ s : State, ∃ e d a b low l z, StepReady s e 0x01 d a b low l z) ∧
    (∃ s : State, ∃ e d a b low l z, StepReady s e 0x02 d a b low l z) ∧
    (∃ s : State, ∃ e d a b low l z, StepReady s e 0x03 d a b low l z) ∧
    (∃ s : State, ∃ e d a b low l z, StepReady s e 0x04 d a b low l z) ∧
    (∃ s : State, ∃ e d a b low l z, StepReady s e 0x05 d a b low l z) ∧
    (∃ s : State, ∃ e d a b low l z, StepReady s e 0x06 d a b low l z) ∧
    (∃ s : State, ∃ e d a b low l z, StepReady s e 0x07 d a b low l z) :=
  ⟨⟨stp, 255, 31, 30, 0, 0, (stp.chip.beginTick 255).lane 255, 1023, by unfold StepReady; decide +kernel⟩,
   ⟨stp, 255, 31, 0, 0, 0, (stp.chip.beginTick 255).lane 255, 1023, by unfold StepReady; decide +kernel⟩,
   ⟨stp, 255, 31, 0, 0, 0, (stp.chip.beginTick 255).lane 255, 1023, by unfold StepReady; decide +kernel⟩,
   ⟨stp, 255, 31, 0, 0, 0, (stp.chip.beginTick 255).lane 255, 1023, by unfold StepReady; decide +kernel⟩,
   ⟨stp, 255, 31, 0, 0, 0, (stp.chip.beginTick 255).lane 255, 1023, by unfold StepReady; decide +kernel⟩,
   ⟨stp, 255, 31, 0, 0, 0, (stp.chip.beginTick 255).lane 255, 1023, by unfold StepReady; decide +kernel⟩,
   ⟨stp, 255, 0, 30, 0, 0, (stp.chip.beginTick 255).lane 255, 1023, by unfold StepReady; decide +kernel⟩⟩

/-- A state and operands for each clause of `ArithmeticSteps`. -/
theorem witness_ArithmeticSteps :
    (∃ s : State, ∃ e d a b low l z v, StepReady s e 0x08 d a b low l z ∧ v = l.W a + l.W b) ∧
    (∃ s : State, ∃ e d a b low l z v, StepReady s e 0x09 d a b low l z ∧ v = l.W a - l.W b) ∧
    (∃ s : State, ∃ e d a b low l z v, StepReady s e 0x0A d a b low l z ∧ v = divRound (l.W a * l.W b) 65536) ∧
    (∃ s : State, ∃ e d a b low l z v, StepReady s e 0x0B d a b low l z ∧ l.W b ≠ 0 ∧ v = fxQuot (l.W a * 65536) (l.W b)) ∧
    (∃ s : State, ∃ e d a b low l z v, StepReady s e 0x0C d a b low l z ∧ v = l.W a + toSigned 16 (b * 2048 + low) * 256) ∧
    (∃ s : State, ∃ e d a b low l z v, StepReady s e 0x0D d a b low l z ∧ v = divRound (l.W a * (toSigned 16 (b * 2048 + low) * 256)) 65536) ∧
    (∃ s : State, ∃ e d a b low l z v, StepReady s e 0x0E d a b low l z ∧ v = (if l.W a < 0 then -(l.W a) else l.W a)) ∧
    (∃ s : State, ∃ e d a b low l z v, StepReady s e 0x0F d a b low l z ∧ v = -(l.W a)) :=
  ⟨⟨stp, 255, 31, 30, 29, 0, (stp.chip.beginTick 255).lane 255, 1023, ((stp.chip.beginTick 255).lane 255).W 30 + ((stp.chip.beginTick 255).lane
      255).W 29, by unfold StepReady; decide +kernel, rfl⟩,
   ⟨stp, 255, 31, 30, 29, 0, (stp.chip.beginTick 255).lane 255, 1023, ((stp.chip.beginTick 255).lane 255).W 30 - ((stp.chip.beginTick 255).lane
      255).W 29, by unfold StepReady; decide +kernel, rfl⟩,
   ⟨stp, 255, 31, 30, 29, 0, (stp.chip.beginTick 255).lane 255, 1023, divRound (((stp.chip.beginTick 255).lane 255).W 30 * ((stp.chip.beginTick
      255).lane 255).W 29) 65536, by unfold StepReady; decide +kernel, rfl⟩,
   ⟨{ stp with chip.zones.lane := [(255, { zone := some 1023, running := true, cfg := ZONE_CFG.PROG_ID.set 127 0, w := [(29, -1)] })] }, 255, 31,
      30, 29, 0,
      (({ stp with chip.zones.lane := [(255, { zone := some 1023, running := true, cfg := ZONE_CFG.PROG_ID.set 127 0, w := [(29, -1)] })] }).chip.beginTick
      255).lane 255, 1023, fxQuot
      (((({ stp with chip.zones.lane := [(255, { zone := some 1023, running := true, cfg := ZONE_CFG.PROG_ID.set 127 0, w := [(29, -1)] })] }).chip.beginTick
      255).lane 255).W 30 * 65536)
      (((({ stp with chip.zones.lane := [(255, { zone := some 1023, running := true, cfg := ZONE_CFG.PROG_ID.set 127 0, w := [(29, -1)] })] }).chip.beginTick
      255).lane 255).W 29), by unfold StepReady; decide +kernel, by decide +kernel, by decide +kernel⟩,
   ⟨stp, 255, 31, 30, 0, 0, (stp.chip.beginTick 255).lane 255, 1023, ((stp.chip.beginTick 255).lane 255).W 30 + toSigned 16 (0 * 2048 + 0) * 256,
      by unfold StepReady; decide +kernel, rfl⟩,
   ⟨stp, 255, 31, 30, 0, 0, (stp.chip.beginTick 255).lane 255, 1023, divRound (((stp.chip.beginTick 255).lane 255).W 30 * (toSigned 16 (0 * 2048 +
      0) * 256)) 65536, by unfold StepReady; decide +kernel, rfl⟩,
   ⟨stp, 255, 31, 30, 0, 0, (stp.chip.beginTick 255).lane 255, 1023, (if ((stp.chip.beginTick 255).lane 255).W 30 < 0 then -(((stp.chip.beginTick
      255).lane 255).W 30) else ((stp.chip.beginTick 255).lane 255).W 30), by unfold StepReady; decide +kernel, rfl⟩,
   ⟨stp, 255, 31, 30, 0, 0, (stp.chip.beginTick 255).lane 255, 1023, -(((stp.chip.beginTick 255).lane 255).W 30),
      by unfold StepReady; decide +kernel, rfl⟩⟩

/-- A state and operands for each clause of `ControlSteps`. -/
theorem witness_ControlSteps :
    (∃ s : State, ∃ e d a b low l z, StepReady s e 0x10 d a b low l z) ∧
    (∃ s : State, ∃ e d a b low l z, StepReady s e 0x11 d a b low l z) ∧
    (∃ s : State, ∃ e d a b low l z v, StepReady s e 0x12 d a b low l z ∧ v = max (min (l.W a) (l.W (b + 1))) (l.W b)) ∧
    (∃ s : State, ∃ e d a b low l z v, StepReady s e 0x13 d a b low l z ∧ v = max 0 (min 65536 (l.W a))) ∧
    (∃ s : State, ∃ e d a b low l z r, StepReady s e 0x14 d a b low l z ∧ r = [l.W a == l.W b, l.W a != l.W b, decide (l.W a < l.W b), decide (l.W a
      ≤ l.W b), decide (l.W b < l.W a), decide (l.W b ≤ l.W a)].getD low false) ∧
    (∃ s : State, ∃ e d a b low l z, StepReady s e 0x15 d a b low l z) ∧
    (∃ s : State, ∃ e d a b low l z n, StepReady s e 0x16 d a b low l z ∧ n = b * 2048 + low) ∧
    (∃ s : State, ∃ e d a b low l z n, StepReady s e 0x17 d a b low l z ∧ n = b * 2048 + low) ∧
    (∃ s : State, ∃ e l z, e < 256 ∧ l = (s.chip.beginTick e).lane e ∧ l.zone = some z ∧ l.running = true ∧ l.rom = false ∧ l.step < 128 ∧ l.cycles +
      2 ≤ 2048 ∧ stepCheck ((⟨128 + 32 * l.step, 32⟩ : Fld).set 0 (s.chip.img PROGRAM_IMAGE (l.progIndex z))) l.step = 0) :=
  ⟨⟨stp, 255, 31, 30, 29, 0, (stp.chip.beginTick 255).lane 255, 1023, by unfold StepReady; decide +kernel⟩,
   ⟨stp, 255, 31, 30, 29, 0, (stp.chip.beginTick 255).lane 255, 1023, by unfold StepReady; decide +kernel⟩,
   ⟨stp, 255, 31, 30, 30, 0, (stp.chip.beginTick 255).lane 255, 1023, max (min (((stp.chip.beginTick 255).lane 255).W 30) (((stp.chip.beginTick
      255).lane 255).W (30 + 1))) (((stp.chip.beginTick 255).lane 255).W 30), by unfold StepReady; decide +kernel, rfl⟩,
   ⟨stp, 255, 31, 30, 0, 0, (stp.chip.beginTick 255).lane 255, 1023, max 0 (min 65536 (((stp.chip.beginTick 255).lane 255).W 30)),
      by unfold StepReady; decide +kernel, rfl⟩,
   ⟨stp, 255, 31, 30, 29, 5, (stp.chip.beginTick 255).lane 255, 1023, [((stp.chip.beginTick 255).lane 255).W 30 == ((stp.chip.beginTick 255).lane
      255).W 29, ((stp.chip.beginTick 255).lane 255).W 30 != ((stp.chip.beginTick 255).lane 255).W 29, decide (((stp.chip.beginTick 255).lane
      255).W 30 < ((stp.chip.beginTick 255).lane 255).W 29), decide (((stp.chip.beginTick 255).lane 255).W 30 ≤ ((stp.chip.beginTick 255).lane
      255).W 29), decide (((stp.chip.beginTick 255).lane 255).W 29 < ((stp.chip.beginTick 255).lane 255).W 30), decide (((stp.chip.beginTick
      255).lane 255).W 29 ≤ ((stp.chip.beginTick 255).lane 255).W 30)].getD 5 false, by unfold StepReady; decide +kernel, rfl⟩,
   ⟨stp, 255, 31, 30, 29, 0, (stp.chip.beginTick 255).lane 255, 1023, by unfold StepReady; decide +kernel⟩,
   ⟨stp, 255, 0, 0, 0, 738, (stp.chip.beginTick 255).lane 255, 1023, 0 * 2048 + 738, by unfold StepReady; decide +kernel, rfl⟩,
   ⟨stp, 255, 0, 0, 0, 738, (stp.chip.beginTick 255).lane 255, 1023, 0 * 2048 + 738, by unfold StepReady; decide +kernel, rfl⟩,
   ⟨stp, 255, (stp.chip.beginTick 255).lane 255, 1023, by decide +kernel, rfl, by decide +kernel, by decide +kernel, by decide +kernel, by
      decide +kernel, by decide +kernel, by decide +kernel⟩⟩

/-- A state and operands for each clause of `DynamicSteps`. -/
theorem witness_DynamicSteps :
    (∃ s : State, ∃ e d a b low l z g, StepReady s e 0x18 d a b low l z ∧ g = (fun j => imgConst (s.chip.img PROGRAM_IMAGE (l.progIndex z)) (low % 64
      + j))) ∧
    (∃ s : State, ∃ e d a b low l z g, StepReady s e 0x19 d a b low l z ∧ g = (fun j => l.P (low % 64 + j))) ∧
    (∃ s : State, ∃ e d a b low l z k, ∃ x : Int, ∃ al v, StepReady s e 0x1A d a b low l z ∧ k = low % 64 ∧ x = (if l.first then l.W a else l.S k) ∧
      al = max 0 (min 65536 (l.W b)) ∧ v = sat32 (x + divRound (al * (l.W a - x)) 65536)) ∧
    (∃ s : State, ∃ e d a b low l z k, ∃ x : Int, ∃ r v, StepReady s e 0x1B d a b low l z ∧ k = low % 64 ∧ x = (if l.first then l.W a else l.S k) ∧ r
      = max (l.W b) 0 ∧ v = sat32 (x + max (-r) (min r (l.W a - x)))) ∧
    (∃ s : State, ∃ e d a b low l z k v, StepReady s e 0x1C d a b low l z ∧ k = low % 64 ∧ v = (if l.W b ≤ l.W a then 65536 else if l.W a ≤ l.W (b +
      1) then 0 else if l.first then 0 else l.S k)) ∧
    (∃ s : State, ∃ e d a b low l z k v, StepReady s e 0x1D d a b low l z ∧ k = low % 64 ∧ v = (if l.W a = 0 then 0 else sat32 ((if l.first then 0
      else l.S k) + s.chip.periodFx z))) :=
  ⟨⟨stp, 255, 31, 30, 2, 0, (stp.chip.beginTick 255).lane 255, 1023, (fun j => imgConst (stp.chip.img PROGRAM_IMAGE (((stp.chip.beginTick 255).lane
      255).progIndex 1023)) (0 % 64 + j)), by unfold StepReady; decide +kernel, rfl⟩,
   ⟨stp, 255, 31, 30, 16, 32, (stp.chip.beginTick 255).lane 255, 1023, (fun j => ((stp.chip.beginTick 255).lane 255).P (32 % 64 + j)),
      by unfold StepReady; decide +kernel, rfl⟩,
   ⟨stp, 255, 31, 30, 29, 63, (stp.chip.beginTick 255).lane 255, 1023, 63 % 64, (if ((stp.chip.beginTick 255).lane 255).first then
      ((stp.chip.beginTick 255).lane 255).W 30 else ((stp.chip.beginTick 255).lane 255).S (63 % 64)), max 0 (min 65536 (((stp.chip.beginTick
      255).lane 255).W 29)), sat32 ((if ((stp.chip.beginTick 255).lane 255).first then ((stp.chip.beginTick 255).lane 255).W 30 else
      ((stp.chip.beginTick 255).lane 255).S (63 % 64)) + divRound ((max 0 (min 65536 (((stp.chip.beginTick 255).lane 255).W 29))) *
      (((stp.chip.beginTick 255).lane 255).W 30 - (if ((stp.chip.beginTick 255).lane 255).first then ((stp.chip.beginTick 255).lane 255).W 30
      else ((stp.chip.beginTick 255).lane 255).S (63 % 64)))) 65536), by unfold StepReady; decide +kernel, rfl, rfl, rfl, rfl⟩,
   ⟨stp, 255, 31, 30, 29, 63, (stp.chip.beginTick 255).lane 255, 1023, 63 % 64, (if ((stp.chip.beginTick 255).lane 255).first then
      ((stp.chip.beginTick 255).lane 255).W 30 else ((stp.chip.beginTick 255).lane 255).S (63 % 64)), max (((stp.chip.beginTick 255).lane 255).W
      29) 0, sat32 ((if ((stp.chip.beginTick 255).lane 255).first then ((stp.chip.beginTick 255).lane 255).W 30 else ((stp.chip.beginTick
      255).lane 255).S (63 % 64)) + max (-(max (((stp.chip.beginTick 255).lane 255).W 29) 0)) (min (max (((stp.chip.beginTick 255).lane 255).W
      29) 0) (((stp.chip.beginTick 255).lane 255).W 30 - (if ((stp.chip.beginTick 255).lane 255).first then ((stp.chip.beginTick 255).lane 255).W
      30 else ((stp.chip.beginTick 255).lane 255).S (63 % 64))))), by unfold StepReady; decide +kernel, rfl, rfl, rfl, rfl⟩,
   ⟨stp, 255, 31, 30, 30, 63, (stp.chip.beginTick 255).lane 255, 1023, 63 % 64, (if ((stp.chip.beginTick 255).lane 255).W 30 ≤ ((stp.chip.beginTick
      255).lane 255).W 30 then 65536 else if ((stp.chip.beginTick 255).lane 255).W 30 ≤ ((stp.chip.beginTick 255).lane 255).W (30 + 1) then 0
      else if ((stp.chip.beginTick 255).lane 255).first then 0 else ((stp.chip.beginTick 255).lane 255).S (63 % 64)),
      by unfold StepReady; decide +kernel, rfl, rfl⟩,
   ⟨stp, 255, 31, 30, 29, 63, (stp.chip.beginTick 255).lane 255, 1023, 63 % 64, (if ((stp.chip.beginTick 255).lane 255).W 30 = 0 then 0 else sat32
      ((if ((stp.chip.beginTick 255).lane 255).first then 0 else ((stp.chip.beginTick 255).lane 255).S (63 % 64)) + stp.chip.periodFx 1023)),
      by unfold StepReady; decide +kernel, rfl, rfl⟩⟩

/-- A state and operands for each clause of `ReadingSteps`. -/
theorem witness_ReadingSteps :
    (∃ s : State, ∃ e d a b low l z n, StepReady s e 0x1E d a b low l z ∧ n = low % 16) ∧
    (∃ s : State, ∃ e d a b low l z n, StepReady s e 0x1F d a b low l z ∧ n = low % 16) ∧
    (∃ s : State, ∃ e d a b low l z bs, StepReady s e 0x20 d a b low l z ∧ bs = (bitsOf 16 (b * 2048 + low)).filter l.fresh) ∧
    (∃ s : State, ∃ e d a b low l z k j ev new out, StepReady s e 0x21 d a b low l z ∧ k = low % 64 ∧ j = 2 * (low / 64) ∧ ev = (if l.W a < 0 then
      none else some (min (Int.fdiv (l.W a) 65536) 2).toNat) ∧ new = occNext (occState (l.S j)) (l.S (j + 1)) (s.chip.periodFx z) (l.P k) (l.P (k
      + 1)) ev ∧ (out = (if new.1 = 2 ∨ new.1 = 3 then true else if new.1 < 2 then false else if l.P (k + 2) = 0 then false else if l.P (k + 2) =
      65536 then true else l.W b != 0))) ∧
    (∃ s : State, ∃ e d a b low l z o, StepReady s e 0x22 d a b low l z ∧ o = s.chip.schedAt z l.startLocal) ∧
    (∃ s : State, ∃ e d a b low l z, StepReady s e 0x23 d a b low l z ∧ s.chip.planIndex z l.start l.rom = none) ∧
    (∃ s : State, ∃ e d a b low l z j p, StepReady s e 0x23 d a b low l z ∧ s.chip.planIndex z l.start l.rom = some j ∧ p = s.chip.planStep z j) ∧
    (∃ s : State, ∃ e d a b low l z, StepReady s e 0x24 d a b low l z ∧ (low % 16 = 0 ∨ low % 16 = 1 ∨ low % 16 = 4)) ∧
    (∃ s : State, ∃ e d a b low l z, StepReady s e 0x24 d a b low l z ∧ (low % 16 = 2 ∨ low % 16 = 3)) ∧
    (∃ s : State, ∃ e d a b low l z v, StepReady s e 0x29 d a b low l z ∧ v = s.chip.rdnValue z (low % 8) l.loadAt) ∧
    (∃ s : State, ∃ e d a b low l z u, StepReady s e 0x2F d a b low l z ∧ (u = decide (l.link.mstate = 2 ∨ l.link.mstate = 3))) :=
  ⟨⟨stp, 255, 31, 0, 0, 15, (stp.chip.beginTick 255).lane 255, 1023, 15 % 16, by unfold StepReady; decide +kernel, rfl⟩,
   ⟨stp, 255, 31, 0, 0, 15, (stp.chip.beginTick 255).lane 255, 1023, 15 % 16, by unfold StepReady; decide +kernel, rfl⟩,
   ⟨stp, 255, 31, 0, 31, 2047, (stp.chip.beginTick 255).lane 255, 1023, (bitsOf 16 (31 * 2048 + 2047)).filter ((stp.chip.beginTick 255).lane
      255).fresh, by unfold StepReady; decide +kernel, rfl⟩,
   ⟨stp, 255, 31, 30, 29, 61, (stp.chip.beginTick 255).lane 255, 1023, 61 % 64, 2 * (61 / 64), (if ((stp.chip.beginTick 255).lane 255).W 30 < 0 then
      none else some (min (Int.fdiv (((stp.chip.beginTick 255).lane 255).W 30) 65536) 2).toNat), occNext (occState (((stp.chip.beginTick
      255).lane 255).S (2 * (61 / 64)))) (((stp.chip.beginTick 255).lane 255).S ((2 * (61 / 64)) + 1)) (stp.chip.periodFx 1023)
      (((stp.chip.beginTick 255).lane 255).P (61 % 64)) (((stp.chip.beginTick 255).lane 255).P ((61 % 64) + 1)) (if ((stp.chip.beginTick
      255).lane 255).W 30 < 0 then none else some (min (Int.fdiv (((stp.chip.beginTick 255).lane 255).W 30) 65536) 2).toNat), (if (occNext
      (occState (((stp.chip.beginTick 255).lane 255).S (2 * (61 / 64)))) (((stp.chip.beginTick 255).lane 255).S ((2 * (61 / 64)) + 1))
      (stp.chip.periodFx 1023) (((stp.chip.beginTick 255).lane 255).P (61 % 64)) (((stp.chip.beginTick 255).lane 255).P ((61 % 64) + 1)) (if
      ((stp.chip.beginTick 255).lane 255).W 30 < 0 then none else some (min (Int.fdiv (((stp.chip.beginTick 255).lane 255).W 30) 65536)
      2).toNat)).1 = 2 ∨ (occNext (occState (((stp.chip.beginTick 255).lane 255).S (2 * (61 / 64)))) (((stp.chip.beginTick 255).lane 255).S ((2 *
      (61 / 64)) + 1)) (stp.chip.periodFx 1023) (((stp.chip.beginTick 255).lane 255).P (61 % 64)) (((stp.chip.beginTick 255).lane 255).P ((61 %
      64) + 1)) (if ((stp.chip.beginTick 255).lane 255).W 30 < 0 then none else some (min (Int.fdiv (((stp.chip.beginTick 255).lane 255).W 30)
      65536) 2).toNat)).1 = 3 then true else if (occNext (occState (((stp.chip.beginTick 255).lane 255).S (2 * (61 / 64)))) (((stp.chip.beginTick
      255).lane 255).S ((2 * (61 / 64)) + 1)) (stp.chip.periodFx 1023) (((stp.chip.beginTick 255).lane 255).P (61 % 64)) (((stp.chip.beginTick
      255).lane 255).P ((61 % 64) + 1)) (if ((stp.chip.beginTick 255).lane 255).W 30 < 0 then none else some (min (Int.fdiv (((stp.chip.beginTick
      255).lane 255).W 30) 65536) 2).toNat)).1 < 2 then false else if ((stp.chip.beginTick 255).lane 255).P ((61 % 64) + 2) = 0 then false else
      if ((stp.chip.beginTick 255).lane 255).P ((61 % 64) + 2) = 65536 then true else ((stp.chip.beginTick 255).lane 255).W 29 != 0),
      by unfold StepReady; decide +kernel, rfl, rfl, rfl, rfl, rfl⟩,
   ⟨stp, 255, 31, 0, 0, 2, (stp.chip.beginTick 255).lane 255, 1023, stp.chip.schedAt 1023 ((stp.chip.beginTick 255).lane 255).startLocal,
      by unfold StepReady; decide +kernel, rfl⟩,
   ⟨stp, 255, 31, 0, 0, 2, (stp.chip.beginTick 255).lane 255, 1023, by unfold StepReady; decide +kernel, by decide +kernel⟩,
   ⟨put TICK_TABLE 3 [(TICK_TABLE.ENTRY_COUNT, 1), (TICK_TABLE.ENTRY 0, 281474976727039)] (put ZONE_PLAN 1023 [(ZONE_PLAN.PSTATE, 1)]
      ({ stp with chip.zones.lane := [(255, { zone := some 1023, running := true, cfg := ZONE_CFG.PROG_ID.set 127 0, start := 2801664000 })] })),
      255, 31, 0, 0, 2, ((put TICK_TABLE 3 [(TICK_TABLE.ENTRY_COUNT, 1), (TICK_TABLE.ENTRY 0, 281474976727039)] (put ZONE_PLAN 1023
      [(ZONE_PLAN.PSTATE, 1)]
      ({ stp with chip.zones.lane := [(255, { zone := some 1023, running := true, cfg := ZONE_CFG.PROG_ID.set 127 0, start := 2801664000 })] }))).chip.beginTick
      255).lane 255, 1023, 95, (put TICK_TABLE 3 [(TICK_TABLE.ENTRY_COUNT, 1), (TICK_TABLE.ENTRY 0, 281474976727039)] (put ZONE_PLAN 1023
      [(ZONE_PLAN.PSTATE, 1)]
      ({ stp with chip.zones.lane := [(255, { zone := some 1023, running := true, cfg := ZONE_CFG.PROG_ID.set 127 0, start := 2801664000 })] }))).chip.planStep
      1023 95, by unfold StepReady; decide +kernel, by decide +kernel, by decide +kernel⟩,
   ⟨stp, 255, 31, 0, 0, 4, (stp.chip.beginTick 255).lane 255, 1023, by unfold StepReady; decide +kernel, by decide +kernel⟩,
   ⟨stp, 255, 31, 0, 0, 3, (stp.chip.beginTick 255).lane 255, 1023, by unfold StepReady; decide +kernel, by decide +kernel⟩,
   ⟨stp, 255, 31, 0, 0, 7, (stp.chip.beginTick 255).lane 255, 1023, stp.chip.rdnValue 1023 (7 % 8) ((stp.chip.beginTick 255).lane 255).loadAt,
      by unfold StepReady; decide +kernel, rfl⟩,
   ⟨stp, 255, 31, 0, 0, 15, (stp.chip.beginTick 255).lane 255, 1023, decide (((stp.chip.beginTick 255).lane 255).link.mstate = 2 ∨
      ((stp.chip.beginTick 255).lane 255).link.mstate = 3), by unfold StepReady; decide +kernel, rfl⟩⟩

/-- A state and operands for each clause of `ControllerSteps`. -/
theorem witness_ControllerSteps :
    (∃ s : State, ∃ e d a b low l z k j r, StepReady s e 0x25 d a b low l z ∧ k = low % 64 ∧ j = 2 * (low / 64) ∧ r = piStep (l.W a) (l.W b) (l.P k)
      (l.P (k + 1)) (l.P (k + 2)) (l.P (k + 3)) (s.chip.periodFx z) (l.S j)) ∧
    (∃ s : State, ∃ e d a b low l z k j f g r, StepReady s e 0x26 d a b low l z ∧ k = low % 64 ∧ j = 2 * (low / 64) ∧ f = (if l.P k = 65536 then 1
      else if l.P k = 131072 then 2 else 0) ∧ g = l.link.gain f ∧ (l.link.bumpless = false ∨ l.link.bumpFam ≠ f) ∧ r = piStep (l.W a) (l.W b) (if
      l.link.gainsOk.testBit f then g.1 * 16 else l.P (k + 1)) (if l.link.gainsOk.testBit f then g.2 * 65536 else l.P (k + 2)) (l.P (k + 3)) (l.P
      (k + 4)) (s.chip.periodFx z) (l.S j)) ∧
    (∃ s : State, ∃ e d a b low l z k f, StepReady s e 0x26 d a b low l z ∧ k = low % 64 ∧ f = (if l.P k = 65536 then 1 else if l.P k = 131072 then 2
      else 0) ∧ l.link.bumpless = true ∧ l.link.bumpFam = f) ∧
    (∃ s : State, ∃ e d a b low l z g num ok, StepReady s e 0x27 d a b low l z ∧ g = l.coef.getD (low % 4) 0 ∧ num = (if low % 4 = 0 then l.W a -
      l.coef.getD 6 0 else l.coef.getD 6 0 - l.W a) ∧ ok = ((l.link.mstate == 2 || l.link.mstate == 3) && decide (65536 ≤ 10 * g))) ∧
    (∃ s : State, ∃ e d a b low l z, StepReady s e 0x28 d a b low l z ∧ (s.chip.zrt z).model.test = none) ∧
    (∃ s : State, ∃ e d a b low l z, StepReady s e 0x2A d a b low l z) ∧
    (∃ s : State, ∃ e d a b low l z v, StepReady s e 0x2B d a b low l z ∧ v = l.W a) ∧
    (∃ s : State, ∃ e d a b low l z code, StepReady s e 0x2C d a b low l z ∧ code = l.ports / 2 ^ (8 * (low % 8)) % 256) ∧
    (∃ s : State, ∃ e d a b low l z n k, StepReady s e 0x2D d a b low l z ∧ n = low / 64 ∧ k = low % 64 ∧ (ofSigned 32 (l.S k)).testBit n = (l.W a !=
      0)) ∧
    (∃ s : State, ∃ e d a b low l z n k, StepReady s e 0x2D d a b low l z ∧ n = low / 64 ∧ k = low % 64 ∧ (ofSigned 32 (l.S k)).testBit n ≠ (l.W a !=
      0)) ∧
    (∃ s : State, ∃ e d a b low l z u, StepReady s e 0x2E d a b low l z ∧ l.cycles + 70 + mupdWait l.cycles (e % 4) < 2048 ∧ u = (s.chip.beginTick
      e).modelUpdate z (l.W a)) :=
  ⟨⟨stp, 255, 31, 30, 29, 60, (stp.chip.beginTick 255).lane 255, 1023, 60 % 64, 2 * (60 / 64), piStep (((stp.chip.beginTick 255).lane 255).W 30)
      (((stp.chip.beginTick 255).lane 255).W 29) (((stp.chip.beginTick 255).lane 255).P (60 % 64)) (((stp.chip.beginTick 255).lane 255).P ((60 %
      64) + 1)) (((stp.chip.beginTick 255).lane 255).P ((60 % 64) + 2)) (((stp.chip.beginTick 255).lane 255).P ((60 % 64) + 3))
      (stp.chip.periodFx 1023) (((stp.chip.beginTick 255).lane 255).S (2 * (60 / 64))), by unfold StepReady; decide +kernel, rfl, rfl, rfl⟩,
   ⟨stp, 255, 31, 30, 29, 59, (stp.chip.beginTick 255).lane 255, 1023, 59 % 64, 2 * (59 / 64), (if ((stp.chip.beginTick 255).lane 255).P (59 % 64) =
      65536 then 1 else if ((stp.chip.beginTick 255).lane 255).P (59 % 64) = 131072 then 2 else 0), ((stp.chip.beginTick 255).lane 255).link.gain
      (if ((stp.chip.beginTick 255).lane 255).P (59 % 64) = 65536 then 1 else if ((stp.chip.beginTick 255).lane 255).P (59 % 64) = 131072 then 2
      else 0), piStep (((stp.chip.beginTick 255).lane 255).W 30) (((stp.chip.beginTick 255).lane 255).W 29) (if ((stp.chip.beginTick 255).lane
      255).link.gainsOk.testBit (if ((stp.chip.beginTick 255).lane 255).P (59 % 64) = 65536 then 1 else if ((stp.chip.beginTick 255).lane 255).P
      (59 % 64) = 131072 then 2 else 0) then (((stp.chip.beginTick 255).lane 255).link.gain (if ((stp.chip.beginTick 255).lane 255).P (59 % 64) =
      65536 then 1 else if ((stp.chip.beginTick 255).lane 255).P (59 % 64) = 131072 then 2 else 0)).1 * 16 else ((stp.chip.beginTick 255).lane
      255).P ((59 % 64) + 1)) (if ((stp.chip.beginTick 255).lane 255).link.gainsOk.testBit (if ((stp.chip.beginTick 255).lane 255).P (59 % 64) =
      65536 then 1 else if ((stp.chip.beginTick 255).lane 255).P (59 % 64) = 131072 then 2 else 0) then (((stp.chip.beginTick 255).lane
      255).link.gain (if ((stp.chip.beginTick 255).lane 255).P (59 % 64) = 65536 then 1 else if ((stp.chip.beginTick 255).lane 255).P (59 % 64) =
      131072 then 2 else 0)).2 * 65536 else ((stp.chip.beginTick 255).lane 255).P ((59 % 64) + 2)) (((stp.chip.beginTick 255).lane 255).P ((59 %
      64) + 3)) (((stp.chip.beginTick 255).lane 255).P ((59 % 64) + 4)) (stp.chip.periodFx 1023) (((stp.chip.beginTick 255).lane 255).S (2 * (59
      / 64))), by unfold StepReady; decide +kernel, rfl, rfl, rfl, rfl, by decide +kernel, rfl⟩,
   
      ⟨{ stp with chip.zones.lane := [(255, { zone := some 1023, running := true, cfg := ZONE_CFG.PROG_ID.set 127 0, link := { bumpless := true } })] },
      255, 31, 30, 29, 59,
      (({ stp with chip.zones.lane := [(255, { zone := some 1023, running := true, cfg := ZONE_CFG.PROG_ID.set 127 0, link := { bumpless := true } })] }).chip.beginTick
      255).lane 255, 1023, 59 % 64, (if
      ((({ stp with chip.zones.lane := [(255, { zone := some 1023, running := true, cfg := ZONE_CFG.PROG_ID.set 127 0, link := { bumpless := true } })] }).chip.beginTick
      255).lane 255).P (59 % 64) = 65536 then 1 else if
      ((({ stp with chip.zones.lane := [(255, { zone := some 1023, running := true, cfg := ZONE_CFG.PROG_ID.set 127 0, link := { bumpless := true } })] }).chip.beginTick
      255).lane 255).P (59 % 64) = 131072 then 2 else 0), by unfold StepReady; decide +kernel, by decide +kernel, by decide +kernel, by
      decide +kernel, by decide +kernel⟩,
   ⟨stp, 255, 31, 30, 0, 1, (stp.chip.beginTick 255).lane 255, 1023, ((stp.chip.beginTick 255).lane 255).coef.getD (1 % 4) 0, (if 1 % 4 = 0 then
      ((stp.chip.beginTick 255).lane 255).W 30 - ((stp.chip.beginTick 255).lane 255).coef.getD 6 0 else ((stp.chip.beginTick 255).lane
      255).coef.getD 6 0 - ((stp.chip.beginTick 255).lane 255).W 30), ((((stp.chip.beginTick 255).lane 255).link.mstate == 2 ||
      ((stp.chip.beginTick 255).lane 255).link.mstate == 3) && decide (65536 ≤ 10 * (((stp.chip.beginTick 255).lane 255).coef.getD (1 % 4) 0))),
      by unfold StepReady; decide +kernel, rfl, rfl, rfl⟩,
   ⟨stp, 255, 31, 30, 29, 2, (stp.chip.beginTick 255).lane 255, 1023, by unfold StepReady; decide +kernel, by decide +kernel⟩,
   ⟨stp, 255, 0, 30, 0, 0, (stp.chip.beginTick 255).lane 255, 1023, by unfold StepReady; decide +kernel⟩,
   ⟨stp, 255, 0, 30, 0, 7, (stp.chip.beginTick 255).lane 255, 1023, ((stp.chip.beginTick 255).lane 255).W 30, by unfold StepReady; decide +kernel,
      rfl⟩,
   ⟨stp, 255, 31, 0, 0, 7, (stp.chip.beginTick 255).lane 255, 1023, ((stp.chip.beginTick 255).lane 255).ports / 2 ^ (8 * (7 % 8)) % 256,
      by unfold StepReady; decide +kernel, rfl⟩,
   ⟨stp, 255, 0, 30, 0, 0, (stp.chip.beginTick 255).lane 255, 1023, 0 / 64, 0 % 64, by unfold StepReady; decide +kernel, rfl, rfl, by
      decide +kernel⟩,
   ⟨{ stp with chip.zones.lane := [(255, { zone := some 1023, running := true, cfg := ZONE_CFG.PROG_ID.set 127 0, w := [(30, 1)] })] }, 255, 0, 30,
      0, 2047,
      (({ stp with chip.zones.lane := [(255, { zone := some 1023, running := true, cfg := ZONE_CFG.PROG_ID.set 127 0, w := [(30, 1)] })] }).chip.beginTick
      255).lane 255, 1023, 2047 / 64, 2047 % 64, by unfold StepReady; decide +kernel, by decide +kernel, by decide +kernel, by decide +kernel⟩,
   ⟨stp, 255, 31, 30, 0, 0, (stp.chip.beginTick 255).lane 255, 1023, (stp.chip.beginTick 255).modelUpdate 1023 (((stp.chip.beginTick 255).lane
      255).W 30), by unfold StepReady; decide +kernel, by decide +kernel, rfl⟩⟩

/-- A state and operands for each clause of `StepsFault`. -/
theorem witness_StepsFault :
    (∃ s : State, ∃ e d a b low l z, StepReady s e 0x0B d a b low l z ∧ l.W b = 0) ∧
    (∃ s : State, ∃ e low l z, e < 256 ∧ l = (s.chip.beginTick e).lane e ∧ l.zone = some z ∧ l.running = true ∧ l.rom = false ∧ l.step < 128 ∧ low %
      2048 ≠ 0) ∧
    (∃ s : State, ∃ e d a b l z, e < 256 ∧ d < 32 ∧ a < 32 ∧ b < 32 ∧ l = (s.chip.beginTick e).lane e ∧ l.zone = some z ∧ l.running = true ∧ l.rom =
      false ∧ l.step < 128 ∧ 2046 ≤ l.cycles) :=
  ⟨⟨stp, 255, 31, 30, 29, 0, (stp.chip.beginTick 255).lane 255, 1023, by unfold StepReady; decide +kernel, by decide +kernel⟩,
   ⟨stp, 255, 1, (stp.chip.beginTick 255).lane 255, 1023, by decide +kernel, rfl, by decide +kernel, by decide +kernel, by decide +kernel, by
      decide +kernel, by decide +kernel⟩,
   ⟨{ stp with chip.zones.lane := [(255, { zone := some 1023, running := true, cfg := ZONE_CFG.PROG_ID.set 127 0, cycles := 2046 })] }, 255, 31, 30,
      29,
      (({ stp with chip.zones.lane := [(255, { zone := some 1023, running := true, cfg := ZONE_CFG.PROG_ID.set 127 0, cycles := 2046 })] }).chip.beginTick
      255).lane 255, 1023, by decide +kernel, by decide +kernel, by decide +kernel, by decide +kernel, by decide +kernel, by decide +kernel, by
      decide +kernel, by decide +kernel, by decide +kernel, by decide +kernel⟩⟩

/-- A state and operands for each clause of `ModelsAct`. -/
theorem witness_ModelsAct :
    (∃ s : State, ∃ z, ∃ h : Nat, z < 1024 ∧ (s.chip.zrt z).model.heldSince = some h ∧ (s.chip.zrt z).link.mstate = 3 ∧ h + 86400 * ticksPerSecond ≤
      s.chip.now) ∧
    (∃ s : State, ∃ z n, ∃ x : Neigh, z < 1024 ∧ n < 8 ∧ s.chip.nbIncluded z n = true ∧ lvFull ≤ s.chip.level ∧ x = Tab.get { since := s.chip.now }
      (s.chip.zrt z).model.neigh n ∧ x.fresh = (s.chip.nbValue z n s.chip.up).isSome ∧ x.since + 600 * ticksPerSecond ≤ s.chip.now) ∧
    (∃ s : State, ∃ z f, z < 1024 ∧ s.chip.getB MODEL_CFG z MODEL_CFG.AUTO_TUNE = true ∧ (s.chip.zrt z).model.test = none ∧ s.chip.modelUsable z =
      false ∧ s.chip.zstate z = zsRunning ∧ s.chip.level = lvFull ∧ (s.chip.schedAt z s.chip.localTime).mode = 0 ∧ f < 3 ∧ (∀ k, k < f →
      (s.chip.zrt z).link.gainsOk.testBit k = true ∨ s.chip.famPort z k = 0xFF) ∧ (s.chip.zrt z).link.gainsOk.testBit f = false ∧ s.chip.famPort
      z f ≠ 0xFF) ∧
    (∃ s : State, ∃ z r, z < 1024 ∧ (s.chip.zrt z).model.test = some r ∧ r.fam < 3 ∧ (s.chip.level < lvFull ∨ r.start + s.chip.getF MODEL_CFG z
      MODEL_CFG.TUNE_MAX_H * 3600 * ticksPerSecond ≤ s.chip.now)) ∧
    (∃ s : State, ∃ h : Hdr, ∃ x : Ctx, ∃ z what, Served s h modelResetSpec x ∧ z < 1024 ∧ 1 ≤ what ∧ what ≤ 15 ∧ h.prsv = 0 ∧ s.chip.wipingZone z =
      false) ∧
    (∃ s : State, ∃ h : Hdr, ∃ x : Ctx, ∃ z fam, Served s h tuneStartSpec x ∧ z < 1024 ∧ fam < 3 ∧ h.prsv = 0 ∧ s.chip.zstate z = zsRunning ∧
      (s.chip.zrt z).model.test = none ∧ (s.chip.zrt z).model.testDue = none ∧ s.chip.famPort z fam ≠ 0xFF) ∧
    (∃ s : State, ∃ h : Hdr, ∃ x : Ctx, ∃ z r, Served s h tuneAbortSpec x ∧ z < 1024 ∧ h.prsv = 0 ∧ (s.chip.zrt z).model.test = some r ∧ r.fam < 3) ∧
    (∃ s : State, ∃ h : Hdr, ∃ x : Ctx, ∃ z ver img, Served s h setRecordSpec x ∧ x.who.estateOnly = true ∧ WriteFits s.chip h MODEL_CFG z ver img ∧
      modelCfgBad img = false) ∧
    (∃ s : State, s.chip.level = lvFull ∧ s.chip.now % (21600 * ticksPerSecond) = 0) :=
  ⟨
      ⟨{ { base with chip.zones.zone := [(1023, { link := { mstate := 3 }, model := { heldSince := some 0 } })] } with chip.time.rtc := 86400 * 32768 },
      1023, 0, by decide +kernel, by decide +kernel, by decide +kernel, by decide +kernel⟩,
   
      ⟨{ { (put MODEL_CFG 1023 [(MODEL_CFG.NB_MASK, 128)] (put ZONE_CFG 1023 [(ZONE_CFG.NEIGHBOUR 7, 1022)] base)) with chip.zones.zone := [(1023, { model := { neigh := [(7, { fresh := false })] } })] } with chip.time.rtc := 600 * 32768 },
      1023, 7, Tab.get
      { since := ({ { (put MODEL_CFG 1023 [(MODEL_CFG.NB_MASK, 128)] (put ZONE_CFG 1023 [(ZONE_CFG.NEIGHBOUR 7, 1022)] base)) with chip.zones.zone := [(1023, { model := { neigh := [(7, { fresh := false })] } })] } with chip.time.rtc := 600 * 32768 }).chip.now }
      (({ { (put MODEL_CFG 1023 [(MODEL_CFG.NB_MASK, 128)] (put ZONE_CFG 1023 [(ZONE_CFG.NEIGHBOUR 7, 1022)] base)) with chip.zones.zone := [(1023, { model := { neigh := [(7, { fresh := false })] } })] } with chip.time.rtc := 600 * 32768 }).chip.zrt
      1023).model.neigh 7, by decide +kernel, by decide +kernel, by decide +kernel, by decide +kernel, by decide +kernel, by decide +kernel, by
      decide +kernel⟩,
   ⟨put ZONE_STATUS 1023 [(ZONE_STATUS.ZSTATE, 1)] (put MODEL_CFG 1023 [(MODEL_CFG.AUTO_TUNE, 1), (MODEL_CFG.HEAT_PORT, 255), (MODEL_CFG.COOL_PORT,
      255), (MODEL_CFG.AIR_PORT, 7)] base), 1023, 2, by decide +kernel, by decide +kernel, by decide +kernel, by decide +kernel, by
      decide +kernel, by decide +kernel, by decide +kernel, by decide +kernel, by decide +kernel, by decide +kernel, by decide +kernel⟩,
   ⟨{ { base with chip.zones.zone := [(1023, { model := { test := some { fam := 2, start := 0 } } })] } with chip.time.rtc := 2 ^ 40 }, 1023,
      { fam := 2, start := 0 }, by decide +kernel, by decide +kernel, by decide +kernel, by decide +kernel⟩,
   ⟨base, hd 4, cx (hd 4), 1023, 15, served_of (by decide +kernel), by decide +kernel, by decide +kernel, by decide +kernel, by decide +kernel, by
      decide +kernel⟩,
   ⟨put ZONE_STATUS 1023 [(ZONE_STATUS.ZSTATE, 1)] (put MODEL_CFG 1023 [(MODEL_CFG.AIR_PORT, 7)] base), hd 4, cx (hd 4), 1023, 2, served_of (by
      decide +kernel), by decide +kernel, by decide +kernel, by decide +kernel, by decide +kernel, by decide +kernel, by decide +kernel, by
      decide +kernel⟩,
   ⟨{ base with chip.zones.zone := [(1023, { model := { test := some { fam := 2, start := 0 } } })] }, hd 4, cx (hd 4), 1023,
      { fam := 2, start := 0 }, served_of (by decide +kernel), by decide +kernel, by decide +kernel, by decide +kernel, by decide +kernel⟩,
   ⟨base, hd (8 + MODEL_CFG.len), cx (hd (8 + MODEL_CFG.len)), 1023, 0xFFFFFFFF, base.chip.img MODEL_CFG 1023, served_of (by decide +kernel), by
      decide +kernel, by unfold WriteFits; decide +kernel, by decide +kernel⟩,
   ⟨{ base with chip.time.rtc := 21600 * 32768 }, by decide +kernel, by decide +kernel⟩⟩

/-- A state and operands for each clause of `PlansAndFightsAct`. -/
theorem witness_PlansAndFightsAct :
    (∃ s : State, s.chip.now % ticksPerQuarter = 0 ∧ (∀ k, k < 4 → (s.chip.ter k).roundQ = none)) ∧
    (∃ s : State, ∃ k z p q, ∃ doneMask : Nat, k < 4 ∧ (s.chip.ter k).roundQ = some q ∧ s.chip.zones.plan = [(z, p)] ∧ z / 256 = k ∧
      s.chip.iterationDue k q = true ∧ doneMask.testBit (z % 256) = true) ∧
    (∃ s : State, ∃ k q, k < 4 ∧ (s.chip.ter k).roundQ = some q ∧ q + 720 * ticksPerSecond ≤ s.chip.now) ∧
    (∃ s : State, ∃ k q, k < 4 ∧ (s.chip.ter k).roundQ = some q ∧ q + ticksPerQuarter ≤ s.chip.now) ∧
    (∃ s : State, ∃ z, z < 1024 ∧ s.chip.getF ZONE_PLAN z ZONE_PLAN.PSTATE = 1 ∧ s.chip.getF ZONE_PLAN z ZONE_PLAN.START + 96 * ticksPerQuarter ≤
      s.chip.now) ∧
    (∃ s : State, ∃ z y f top, z < 1024 ∧ y < 1024 ∧ s.chip.pair (min z y) (max z y) = some f ∧ f.episode = true ∧ f.fighting = true ∧ top = divFree
      225 (s.chip.fightF FIGHT_CFG.WIDEN) 2 + s.chip.fightF FIGHT_CFG.DRAW_MAX) :=
  ⟨⟨base, by decide +kernel, by decide +kernel⟩,
   ⟨{ { { base with chip.zones.terrace := [(3, { roundQ := some 0 })] } with chip.zones.plan := [(1023, pln)] } with chip.time.rtc := 45 * 32768 },
      3, 1023, pln, 0, 2 ^ 255, by decide +kernel, by decide +kernel, by decide +kernel, by decide +kernel, by decide +kernel, by decide +kernel⟩,
   ⟨{ { base with chip.zones.terrace := [(3, { roundQ := some 0 })] } with chip.time.rtc := 720 * 32768 }, 3, 0, by decide +kernel, by
      decide +kernel, by decide +kernel⟩,
   ⟨{ { base with chip.zones.terrace := [(3, { roundQ := some 0 })] } with chip.time.rtc := 900 * 32768 }, 3, 0, by decide +kernel, by
      decide +kernel, by decide +kernel⟩,
   ⟨{ (put ZONE_PLAN 1023 [(ZONE_PLAN.PSTATE, 1)] base) with chip.time.rtc := 86400 * 32768 }, 1023, by decide +kernel, by decide +kernel, by
      decide +kernel⟩,
   ⟨{ base with chip.zones.fights := [{ z := 1022, n := 1023, fighting := true, episode := true }] }, 1023, 1022,
      { z := 1022, n := 1023, fighting := true, episode := true }, divFree 225
      (({ base with chip.zones.fights := [{ z := 1022, n := 1023, fighting := true, episode := true }] }).chip.fightF FIGHT_CFG.WIDEN) 2 +
      ({ base with chip.zones.fights := [{ z := 1022, n := 1023, fighting := true, episode := true }] }).chip.fightF FIGHT_CFG.DRAW_MAX, by
      decide +kernel, by decide +kernel, by decide +kernel, by decide +kernel, by decide +kernel, by decide +kernel⟩⟩

/-- A state and operands for each clause of `LedgerStaysBalanced`. -/
theorem witness_LedgerStaysBalanced :
    ∃ s : State, s.chip.act.running = true ∧ s.chip.boot.pfHalt = false :=
  ⟨base, by decide +kernel, by decide +kernel⟩

/-- A state and operands for each clause of `DemandsAndGrants`. -/
theorem witness_DemandsAndGrants :
    (∃ c : Chip, ∃ i, c.sources i ≠ [] ∧ (fgBase ≤ i ∨ ACT_MAP.COMBINE.get (c.amap i) = 0)) ∧
    (∃ c : Chip, ∃ i, c.sources i ≠ [] ∧ i < fgBase ∧ ACT_MAP.COMBINE.get (c.amap i) = 1) ∧
    (∃ c : Chip, ∃ i n w, c.sources i ≠ [] ∧ i < fgBase ∧ ACT_MAP.COMBINE.get (c.amap i) = 2 ∧ n = ((c.sources i).map (fun s => c.srcDemand s *
      s.2.2)).sum ∧ w = ((c.sources i).map (fun s => s.2.2)).sum ∧ 0 < w) ∧
    (∃ c : Chip, ∃ z, c.isolated z = true) ∧
    (∃ c : Chip, ∃ ch, (c.tgt ch).dem = 0xFFFF ∧ c.minOnMs ch ≤ c.cycleMs ch) ∧
    (∃ c : Chip, ∃ ch cost, ch < 96 ∧ c.chFault ch = 0 ∧ c.chKind ch = ckValve ∧ c.forced ch = false ∧ c.isoStop ch = false ∧ (c.chan ch).trip = 0 ∧
      (c.chan ch).resetting = none ∧ (c.chan ch).hot = false ∧ c.act.bnr = false ∧ c.act.lowSince = none ∧ c.coilRefuses ch (c.getF SUPPLY_STATUS
      0 SUPPLY_STATUS.VBOOST) = false ∧ cost = c.pullCost ch false) :=
  ⟨⟨({ base with chip.act.maps := [(135, 65536)] }).chip, 135, by decide +kernel, by decide +kernel⟩,
   ⟨({ base with chip.act.maps := [(119, 65538)] }).chip, 119, by decide +kernel, by decide +kernel, by decide +kernel⟩,
   ⟨({ base with chip.act.maps := [(119, 65536+4+2^216)] }).chip, 119, 0, 1, by decide +kernel, by decide +kernel, by decide +kernel, by
      decide +kernel, by decide +kernel, by decide +kernel⟩,
   ⟨(put ZONE_STATUS 1023 [(ZONE_STATUS.ISOLATED, 1)] base).chip, 1023, by decide +kernel⟩,
   ⟨({ base with chip.act.tgt := [(95, { dem := 0xFFFF })] }).chip, 95, by decide +kernel, by decide +kernel⟩,
   ⟨(put VALVE_TYPE 0 [(VALVE_TYPE.COIL_RTH, 0)] (put CH_CFG 95 [(CH_CFG.KIND, 1)] base)).chip, 95, ((put VALVE_TYPE 0 [(VALVE_TYPE.COIL_RTH, 0)]
      (put CH_CFG 95 [(CH_CFG.KIND, 1)] base)).chip).pullCost 95 false, by decide +kernel, by decide +kernel, by decide +kernel, by
      decide +kernel, by decide +kernel, by decide +kernel, by decide +kernel, by decide +kernel, by decide +kernel, by decide +kernel,
      not_refuses (by decide +kernel) (by decide +kernel) (by decide +kernel), by decide +kernel⟩⟩

/-- A state and operands for each clause of `AllocatorActs`. -/
theorem witness_AllocatorActs :
    (∃ s : State, s.chip.act.running = true) ∧
    (∃ s : State, ∃ code, code < 8 ∧ s.chip.act.running = true) ∧
    (∃ s : State, ∃ ch, ch < 96 ∧ s.chip.act.running = true ∧ s.chip.mapF ch ACT_MAP.EN = 1) ∧
    (∃ s : State, ∃ f, s.chip.act.lastShed = some f ∧ f + 1000 * s.chip.getF BUDGET_CFG 0 BUDGET_CFG.SHED_HOLDOFF_S ≤ s.chip.act.frame) ∧
    (∃ s : State, ∃ h : Hdr, ∃ x : Ctx, ∃ mask, Served s h (chSpec 0x0510 [0, 1] 4) x ∧ 1 ≤ mask ∧ mask < 8 ∧ h.prsv = 0) ∧
    (∃ s : State, ∃ h : Hdr, ∃ x : Ctx, ∃ mask, Served s h (chSpec 0x0511 [1, 2] 4) x ∧ 1 ≤ mask ∧ mask < 8 ∧ h.prsv = 0) ∧
    (∃ s : State, ∃ h : Hdr, ∃ x : Ctx, ∃ i ver img, Served s h setRecordSpec x ∧ x.who.estateOnly = true ∧ WriteFits s.chip h ACT_MAP i ver img ∧
      actMapBad i img = false ∧ s.chip.actMapBlocked i img = false) ∧
    (∃ s : State, ∃ h : Hdr, ∃ x : Ctx, ∃ i ver img, Served s h setRecordSpec x ∧ x.who.estateOnly = true ∧ WriteFits s.chip h BUDGET_CFG i ver img) :=
  ⟨⟨base, by decide +kernel⟩,
   ⟨base, 7, by decide +kernel, by decide +kernel⟩,
   ⟨{ base with chip.act.maps := [(95, 1)] }, 95, by decide +kernel, by decide +kernel, by decide +kernel⟩,
   ⟨{ { base with chip.act.lastShed := some 0 } with chip.act.frame := 10000000 }, 0, by decide +kernel, by decide +kernel⟩,
   ⟨base, hd 4 0, cx (hd 4 0), 7, served_of (by decide +kernel), by decide +kernel, by decide +kernel, by decide +kernel⟩,
   ⟨base, hd 4, cx (hd 4), 7, served_of (by decide +kernel), by decide +kernel, by decide +kernel, by decide +kernel⟩,
   ⟨base, hd (8 + ACT_MAP.len), cx (hd (8 + ACT_MAP.len)), 135, 0xFFFFFFFF, base.chip.img ACT_MAP 135, served_of (by decide +kernel), by
      decide +kernel, by unfold WriteFits; decide +kernel, by decide +kernel, by decide +kernel⟩,
   ⟨base, hd (8 + BUDGET_CFG.len), cx (hd (8 + BUDGET_CFG.len)), 0, 0xFFFFFFFF, base.chip.img BUDGET_CFG 0, served_of (by decide +kernel), by
      decide +kernel, by unfold WriteFits; decide +kernel⟩⟩

/-- A state and operands for each clause of `ChannelsRun`. -/
theorem witness_ChannelsRun :
    (∃ s : State, ∃ ch, ch < 96 ∧ s.chip.cstate ch = csBoost ∧ s.chip.forcedLines = 0 ∧ s.chip.passedMs (s.chip.chan ch).boostAt (s.chip.vtRun ch
      VALVE_TYPE.BOOST_MS) = true) ∧
    (∃ s : State, ∃ ch time, ∃ ma : Nat, ∃ w : Watch, ∃ f, ch < 96 ∧ (s.chip.chan ch).watch = some w ∧ s.chip.forcedLines = 0 ∧ f = divRound (3 * w.f
      + ma) 4 ∧ time < 20 * s.chip.vtRun ch VALVE_TYPE.KINK_WIN_START_MS) ∧
    (∃ s : State, ∃ ch time, ∃ ma : Nat, ∃ w f depth, ch < 96 ∧ (s.chip.chan ch).watch = some w ∧ f = divRound (3 * w.f + ma) 4 ∧ 20 * s.chip.vtRun
      ch VALVE_TYPE.KINK_WIN_START_MS ≤ time ∧ w.first = false ∧ w.valley ≤ f ∧ depth = (s.chip.vtRun ch VALVE_TYPE.KINK_DEPTH_MA : Int) ∧ depth
      ≤ w.peak - w.valley ∧ depth ≤ 2 * (f - w.valley)) ∧
    (∃ s : State, ∃ ch time, ∃ ma : Nat, ∃ w : Watch, ∃ f, ch < 96 ∧ (s.chip.chan ch).watch = some w ∧ f = divRound (3 * w.f + ma) 4 ∧ w.first = true
      ∧ 20 * s.chip.vtRun ch VALVE_TYPE.KINK_WIN_START_MS ≤ time ∧ 20 * s.chip.vtRun ch VALVE_TYPE.KINK_WIN_END_MS ≤ time ∧ (s.chip.vtRun ch
      VALVE_TYPE.OPEN_MA : Int) ≤ max w.top f) ∧
    (∃ s : State, lvLimited ≤ s.chip.level ∧ s.chip.boot.pfHalt = false ∧ s.chip.noSense = false) ∧
    (∃ s : State, ∃ ch, ch < 96 ∧ lvLimited ≤ s.chip.level ∧ s.chip.chKind ch = ckValve ∧ s.chip.cstate ch = csOff ∧ s.chip.forced ch = false ∧
      s.chip.arState 1 ≠ arCalibrating ∧ s.chip.getB CH_CFG ch CH_CFG.OFF_DIAG_EN = true ∧ (s.chip.chan ch).resetting = none ∧ s.chip.passedMs
      (s.chip.chan ch).diagAt (s.chip.getF CH_GLOBAL 0 CH_GLOBAL.OFF_DIAG_MS) = true ∧ s.chip.chFault ch = 0) ∧
    (∃ s : State, ∃ ch mv0 mv1, ch < 96 ∧ lvLimited ≤ s.chip.level ∧ s.chip.chKind ch = ckValve ∧ s.chip.cstate ch = csFault ∧ s.chip.forced ch =
      false ∧ s.chip.arState 1 ≠ arCalibrating ∧ s.chip.getB CH_CFG ch CH_CFG.OFF_DIAG_EN = true ∧ (s.chip.chan ch).resetting = none ∧
      s.chip.passedMs (s.chip.chan ch).diagAt (s.chip.getF CH_GLOBAL 0 CH_GLOBAL.OFF_DIAG_MS) = true ∧ (s.chip.chFault ch = 6 ∨ s.chip.chFault ch
      = 7) ∧ 2 ≤ (s.chip.chan ch).passes ∧ mv0 ≤ 2000 ∧ mv1 ≤ 2000) ∧
    (∃ s : State, lvLimited ≤ s.chip.level) ∧
    (∃ s : State, ∃ k, s.chip.act.lowSince = some k ∧ s.chip.passedS k 2 = true ∧ s.chip.pullWaiting = true ∧ lvLimited ≤ s.chip.level ∧
      s.chip.act.bnr = false) ∧
    (∃ s : State, ∃ k, s.chip.act.okSince = some k ∧ s.chip.passedMs k 100 = true ∧ s.chip.act.bnr = true) ∧
    (∃ s : State, ∃ ch, ch < 96 ∧ s.chip.chKind ch = ckValve ∧ s.chip.chFault ch = 0 ∧ s.chip.forced ch = false ∧ s.chip.axisOfChannel ch = none ∧
      s.chip.holding 0 = false) ∧
    (∃ s : State, ∃ ch, ch < 96 ∧ s.chip.chFault ch = 4 ∧ s.chip.passedS (s.chip.chan ch).faultAt 1 = true) :=
  ⟨⟨put CH_STATUS 95 [(CH_STATUS.CSTATE, 2)] base, 95, by decide +kernel, by decide +kernel, by decide +kernel, by decide +kernel⟩,
   ⟨{ base with chip.act.chan := [(95, { watch := some {}, vtImg := VALVE_TYPE.KINK_WIN_START_MS.set 1 0 })] }, 95, 0, 1, ({} : Watch), divRound (3
      * ({} : Watch).f + 1) 4, by decide +kernel, by decide +kernel, by decide +kernel, by decide +kernel, by decide +kernel⟩,
   
      ⟨{ base with chip.act.chan := [(95, { watch := some { f := 30, first := false, peak := 30, valley := 20 }, vtImg := VALVE_TYPE.KINK_DEPTH_MA.set 10 0 })] },
      95, 0, 30, ({ f := 30, first := false, peak := 30, valley := 20 } : Watch), divRound (3 *
      ({ f := 30, first := false, peak := 30, valley := 20 } : Watch).f + 30) 4,
      (({ base with chip.act.chan := [(95, { watch := some { f := 30, first := false, peak := 30, valley := 20 }, vtImg := VALVE_TYPE.KINK_DEPTH_MA.set 10 0 })] }).chip.vtRun
      95 VALVE_TYPE.KINK_DEPTH_MA : Int), by decide +kernel, by decide +kernel, by decide +kernel, by decide +kernel, by decide +kernel, by
      decide +kernel, by decide +kernel, by decide +kernel, by decide +kernel⟩,
   ⟨{ base with chip.act.chan := [(95, { watch := some {} })] }, 95, 0, 0, ({} : Watch), divRound (3 * ({} : Watch).f + 0) 4, by decide +kernel, by
      decide +kernel, by decide +kernel, by decide +kernel, by decide +kernel, by decide +kernel, by decide +kernel⟩,
   ⟨put ARRAY_STATUS 1 [(ARRAY_STATUS.ASTATE, 2)] base, by decide +kernel, by decide +kernel, by decide +kernel⟩,
   ⟨{ (put CH_STATUS 95 [(CH_STATUS.CSTATE, 1)] (put CH_CFG 95 [(CH_CFG.KIND, 1), (CH_CFG.OFF_DIAG_EN, 1)] base)) with chip.time.up := 2 ^ 40 }, 95,
      by decide +kernel, by decide +kernel, by decide +kernel, by decide +kernel, by decide +kernel, by decide +kernel, by decide +kernel, by
      decide +kernel, by decide +kernel, by decide +kernel⟩,
   
      ⟨{ { (put CH_STATUS 95 [(CH_STATUS.CSTATE, 6), (CH_STATUS.FAULT, 7)] (put CH_CFG 95 [(CH_CFG.KIND, 1), (CH_CFG.OFF_DIAG_EN, 1)] base)) with chip.act.chan := [(95, { passes := 2 })] } with chip.time.up := 2 ^ 40 },
      95, 2000, 2000, by decide +kernel, by decide +kernel, by decide +kernel, by decide +kernel, by decide +kernel, by decide +kernel, by
      decide +kernel, by decide +kernel, by decide +kernel, by decide +kernel, by decide +kernel, by decide +kernel, by decide +kernel⟩,
   ⟨base, by decide +kernel⟩,
   ⟨{ { { base with chip.act.lowSince := some 0 } with chip.act.tgt := [(95, { wait := some { order := 2 } })] } with chip.time.up := 65536 }, 0, by
      decide +kernel, by decide +kernel, by decide +kernel, by decide +kernel, by decide +kernel⟩,
   ⟨{ { { base with chip.act.okSince := some 0 } with chip.act.bnr := true } with chip.time.up := 3277 }, 0, by decide +kernel, by decide +kernel,
      by decide +kernel⟩,
   ⟨put CH_CFG 95 [(CH_CFG.KIND, 1)] base, 95, by decide +kernel, by decide +kernel, by decide +kernel, by decide +kernel, by decide +kernel, by
      decide +kernel⟩,
   ⟨{ (put CH_STATUS 95 [(CH_STATUS.FAULT, 4)] base) with chip.time.up := 32768 }, 95, by decide +kernel, by decide +kernel, by decide +kernel⟩⟩

/-- A state and operands for each clause of `ChannelCommandsAct`. -/
theorem witness_ChannelCommandsAct :
    (∃ s : State, ∃ h : Hdr, ∃ x : Ctx, ∃ ch mode wait, Served s h (chSpec 0x0600 [1, 2] 8) x ∧ ch < 96 ∧ mode ≤ 2 ∧ wait ≤ 1 ∧ h.prsv = 0 ∧
      s.chip.chKind ch = ckValve ∧ s.chip.forced ch = false ∧ s.chip.cstate ch ≠ csForced ∧ s.chip.chFault ch = 0) ∧
    (∃ s : State, ∃ ch k, ch < 96 ∧ (s.chip.chan ch).until_ = some k ∧ k ≤ s.chip.up ∧ s.chip.getF CH_STATUS ch CH_STATUS.MANUAL_MODE ≠ 0) ∧
    (∃ s : State, ∃ h : Hdr, ∃ x : Ctx, ∃ ch, Served s h (chSpec 0x0601 [2] 4) x ∧ ch < 96 ∧ h.prsv = 0 ∧ s.chip.chKind ch = ckValve ∧ s.chip.forced
      ch = false) ∧
    (∃ s : State, ∃ h : Hdr, ∃ x : Ctx, ∃ mask, Served s h (chSpec 0x0610 [0, 1] 16) x ∧ 1 ≤ mask ∧ mask < 2 ^ 96 ∧ h.prsv = 0) ∧
    (∃ s : State, ∃ h : Hdr, ∃ x : Ctx, ∃ mask, Served s h (chSpec 0x0611 [1, 2] 16) x ∧ 1 ≤ mask ∧ mask < 2 ^ 96 ∧ h.prsv = 0) ∧
    (∃ s : State, ∃ h : Hdr, ∃ x : Ctx, ∃ ch ver img, Served s h setRecordSpec x ∧ x.who.estateOnly = true ∧ WriteFits s.chip h CH_CFG ch ver img ∧
      CH_CFG.KIND.get img ≤ 1 ∧ s.chip.chCfgHeld ch img = false) :=
  ⟨⟨put CH_STATUS 95 [(CH_STATUS.CSTATE, 1)] (put CH_CFG 95 [(CH_CFG.KIND, 1)] base), hd 8, cx (hd 8), 95, 2, 1, served_of (by decide +kernel), by
      decide +kernel, by decide +kernel, by decide +kernel, by decide +kernel, by decide +kernel, by decide +kernel, by decide +kernel, by
      decide +kernel⟩,
   ⟨{ (put CH_STATUS 95 [(CH_STATUS.MANUAL_MODE, 2)] base) with chip.act.chan := [(95, { until_ := some 0 })] }, 95, 0, by decide +kernel, by
      decide +kernel, by decide +kernel, by decide +kernel⟩,
   ⟨put CH_CFG 95 [(CH_CFG.KIND, 1)] base, hd 4, cx (hd 4), 95, served_of (by decide +kernel), by decide +kernel, by decide +kernel, by
      decide +kernel, by decide +kernel⟩,
   ⟨base, hd 16 0, cx (hd 16 0), 2 ^ 96 - 1, served_of (by decide +kernel), by decide +kernel, by decide +kernel, by decide +kernel⟩,
   ⟨base, hd 16, cx (hd 16), 2 ^ 96 - 1, served_of (by decide +kernel), by decide +kernel, by decide +kernel, by decide +kernel⟩,
   ⟨base, hd (8 + CH_CFG.len), cx (hd (8 + CH_CFG.len)), 95, 0xFFFFFFFF, base.chip.img CH_CFG 95, served_of (by decide +kernel), by decide +kernel,
      by unfold WriteFits; decide +kernel, by decide +kernel, by decide +kernel⟩⟩

/-- A state and operands for each clause of `EncodersCount`. -/
theorem witness_EncodersCount :
    (∃ s : State, ∃ e levels time, ∃ up : Bool, e < 24 ∧ levels < 8 ∧ s.chip.encOn e = true ∧ s.chip.getF ENC_CFG e ENC_CFG.MODE = 1 ∧
      s.chip.edgeFree e time = true ∧ (s.chip.enc e).levels < 8 ∧ (quadPos levels + 4 - quadPos (s.chip.enc e).levels) % 4 = (if up then 1 else
      3) ∧ levels.testBit 2 = (s.chip.enc e).levels.testBit 2) ∧
    (∃ s : State, ∃ e levels time, e < 24 ∧ levels < 8 ∧ s.chip.encOn e = true ∧ s.chip.getF ENC_CFG e ENC_CFG.MODE = 1 ∧ s.chip.edgeFree e time =
      false ∧ ((s.chip.enc e).pins ^^^ levels) &&& 7 ≠ 0 ∧ (s.chip.enc e).ignored = 0) ∧
    (∃ s : State, ∃ e time, e < 24 ∧ s.chip.encOn e = true ∧ s.chip.getF ENC_CFG e ENC_CFG.MODE = 1 ∧ s.chip.edgeFree e time = true ∧ (s.chip.enc
      e).pins = (s.chip.enc e).levels ∧ (s.chip.enc e).levels < 4) ∧
    (∃ s : State, ∃ e time, e < 24 ∧ s.chip.encOn e = true ∧ (s.chip.enc e).ignored ≠ 0 ∧ s.chip.edgeFree e time = true) ∧
    (∃ s : State, ∃ e k, e < 24 ∧ (s.chip.enc e).dirTold = some k ∧ s.chip.passedMs k 100 = true ∧ s.chip.getB ENC_STATUS e ENC_STATUS.DIR ≠
      (s.chip.enc e).dirLast) ∧
    (∃ s : State, ∃ e sinv cosv sq lo hi, e < 24 ∧ s.chip.encOn e = true ∧ s.chip.getF ENC_CFG e ENC_CFG.MODE = 2 ∧ lo = s.chip.getF ENC_CFG e
      ENC_CFG.AMP_MIN ∧ hi = s.chip.getF ENC_CFG e ENC_CFG.AMP_MAX ∧ sq = ((sinv - s.chip.getS ENC_CFG e ENC_CFG.SIN_OFS) ^ 2 + (cosv -
      s.chip.getS ENC_CFG e ENC_CFG.COS_OFS) ^ 2).toNat) ∧
    (∃ s : State, ∃ e, e < 24 ∧ s.chip.encOn e = true) :=
  ⟨⟨put ENC_CFG 23 [(ENC_CFG.MODE, 1)] base, 23, 1, 0, true, by decide +kernel, by decide +kernel, by decide +kernel, by decide +kernel, by
      decide +kernel, by decide +kernel, by decide +kernel, by decide +kernel⟩,
   ⟨{ (put ENC_CFG 23 [(ENC_CFG.MODE, 1), (ENC_CFG.MIN_EDGE, 2)] base) with chip.act.enc := [(23, { lastEdge := some 0 })] }, 23, 7, 1, by
      decide +kernel, by decide +kernel, by decide +kernel, by decide +kernel, by decide +kernel, by decide +kernel, by decide +kernel⟩,
   ⟨put ENC_CFG 23 [(ENC_CFG.MODE, 1)] base, 23, 0, by decide +kernel, by decide +kernel, by decide +kernel, by decide +kernel, by decide +kernel,
      by decide +kernel⟩,
   ⟨{ (put ENC_CFG 23 [(ENC_CFG.MODE, 2)] base) with chip.act.enc := [(23, { ignored := 1 })] }, 23, 0, by decide +kernel, by decide +kernel, by
      decide +kernel, by decide +kernel⟩,
   ⟨{ { (put ENC_STATUS 23 [(ENC_STATUS.DIR, 1)] base) with chip.act.enc := [(23, { dirTold := some 0 })] } with chip.time.up := 3277 }, 23, 0, by
      decide +kernel, by decide +kernel, by decide +kernel, by decide +kernel⟩,
   ⟨put ENC_CFG 7 [(ENC_CFG.MODE, 2)] base, 7, 3, -4, ((3 - (put ENC_CFG 7 [(ENC_CFG.MODE, 2)] base).chip.getS ENC_CFG 7 ENC_CFG.SIN_OFS) ^ 2 +
      ((-4) - (put ENC_CFG 7 [(ENC_CFG.MODE, 2)] base).chip.getS ENC_CFG 7 ENC_CFG.COS_OFS) ^ 2).toNat, (put ENC_CFG 7 [(ENC_CFG.MODE, 2)]
      base).chip.getF ENC_CFG 7 ENC_CFG.AMP_MIN, (put ENC_CFG 7 [(ENC_CFG.MODE, 2)] base).chip.getF ENC_CFG 7 ENC_CFG.AMP_MAX, by decide +kernel,
      by decide +kernel, by decide +kernel, by decide +kernel, by decide +kernel, by decide +kernel⟩,
   ⟨put ENC_CFG 23 [(ENC_CFG.MODE, 1)] base, 23, by decide +kernel, by decide +kernel⟩⟩

/-- A state and operands for each clause of `AxesRun`. -/
theorem witness_AxesRun :
    (∃ s : State, ∃ a p lo hi, AxisLive s a asMoving ∧ lvLimited ≤ s.chip.level ∧ s.chip.boot.pfHalt = false ∧ p = s.chip.axPos a ∧ lo =
      -(s.chip.getF AX_CFG a AX_CFG.RANGE_MARGIN : Int) ∧ hi = s.chip.axSpan a - lo) ∧
    (∃ s : State, ∃ a k, AxisLive s a asSettling ∧ (s.chip.axis a).settleAt = some k ∧ (s.chip.axErr a).natAbs ≤ s.chip.axRun a AX_CFG.IN_POS_COUNTS
      ∧ s.chip.passedMs k (s.chip.axRun a AX_CFG.SETTLE_MS) = true) ∧
    (∃ s : State, ∃ a k, AxisLive s a asIdle ∧ (s.chip.axis a).driftAt = some k ∧ s.chip.passedS k 1 = true) ∧
    (∃ s : State, ∃ a k n, AxisLive s a asMoving ∧ (s.chip.axis a).stallAt = some k ∧ s.chip.passedMs k (s.chip.axRun a AX_CFG.STALL_MS) = true ∧ n =
      satInc AX_STATUS.STALL_RUN.width (s.chip.getF AX_STATUS a AX_STATUS.STALL_RUN)) ∧
    (∃ s : State, ∃ a k, AxisLive s a asHoming ∧ (s.chip.axis a).stallAt = some k ∧ s.chip.passedMs k (s.chip.axRun a AX_CFG.STALL_MS) = true ∧
      s.chip.getF AX_CFG a AX_CFG.HOME_METHOD = 0 ∧ s.chip.axEnc a < 24) ∧
    (∃ s : State, ∃ a k, AxisLive s a asStalled ∧ (s.chip.axis a).retryAt = some k ∧ s.chip.passedS k (s.chip.getF AX_CFG a AX_CFG.STALL_RETRY_S) =
      true) ∧
    (∃ s : State, ∃ a, AxisLive s a asMoving ∧ s.chip.passedS (s.chip.axis a).moveAt (s.chip.axRun a AX_CFG.MOVE_TIMEOUT_S) = true) ∧
    (∃ s : State, ∃ a, AxisLive s a asHoming ∧ s.chip.passedS (s.chip.axis a).homeAt (s.chip.axRun a AX_CFG.HOME_TIMEOUT_S) = true) ∧
    (∃ s : State, ∃ a ma, AxisLive s a asMoving ∧ (s.chip.dutyOf a 0x4000).natAbs ≤ (s.chip.axis a).duty.natAbs ∧ ma < s.chip.axRun a AX_CFG.OPEN_MA) ∧
    (∃ s : State, ∃ a, AxisLive s a asMoving ∧ s.chip.passedMs (s.chip.pairSense a) 200 = true) :=
  ⟨⟨put AX_STATUS 23 [(AX_STATUS.ASTATE, 5)] (put AX_CFG 23 [(AX_CFG.EN, 1)] base), 23, (put AX_STATUS 23 [(AX_STATUS.ASTATE, 5)] (put AX_CFG 23
      [(AX_CFG.EN, 1)] base)).chip.axPos 23, -((put AX_STATUS 23 [(AX_STATUS.ASTATE, 5)] (put AX_CFG 23 [(AX_CFG.EN, 1)] base)).chip.getF AX_CFG
      23 AX_CFG.RANGE_MARGIN : Int), (put AX_STATUS 23 [(AX_STATUS.ASTATE, 5)] (put AX_CFG 23 [(AX_CFG.EN, 1)] base)).chip.axSpan 23 - (-((put
      AX_STATUS 23 [(AX_STATUS.ASTATE, 5)] (put AX_CFG 23 [(AX_CFG.EN, 1)] base)).chip.getF AX_CFG 23 AX_CFG.RANGE_MARGIN : Int)),
      by unfold AxisLive; decide +kernel, by decide +kernel, by decide +kernel, by decide +kernel, by decide +kernel, by decide +kernel⟩,
   ⟨{ (put AX_STATUS 23 [(AX_STATUS.ASTATE, 6)] (put AX_CFG 23 [(AX_CFG.EN, 1)] base)) with chip.act.axis := [(23, { settleAt := some 0 })] }, 23,
      0, by unfold AxisLive; decide +kernel, by decide +kernel, by decide +kernel, by decide +kernel⟩,
   
      ⟨{ { (put AX_STATUS 23 [(AX_STATUS.ASTATE, 4)] (put AX_CFG 23 [(AX_CFG.EN, 1)] base)) with chip.act.axis := [(23, { driftAt := some 0 })] } with chip.time.up := 32768 },
      23, 0, by unfold AxisLive; decide +kernel, by decide +kernel, by decide +kernel⟩,
   ⟨{ (put AX_STATUS 23 [(AX_STATUS.ASTATE, 5)] (put AX_CFG 23 [(AX_CFG.EN, 1)] base)) with chip.act.axis := [(23, { stallAt := some 0 })] }, 23, 0,
      satInc AX_STATUS.STALL_RUN.width
      (({ (put AX_STATUS 23 [(AX_STATUS.ASTATE, 5)] (put AX_CFG 23 [(AX_CFG.EN, 1)] base)) with chip.act.axis := [(23, { stallAt := some 0 })] }).chip.getF
      AX_STATUS 23 AX_STATUS.STALL_RUN), by unfold AxisLive; decide +kernel, by decide +kernel, by decide +kernel, by decide +kernel⟩,
   ⟨{ (put AX_STATUS 23 [(AX_STATUS.ASTATE, 3)] (put AX_CFG 23 [(AX_CFG.EN, 1)] base)) with chip.act.axis := [(23, { stallAt := some 0 })] }, 23, 0,
      by unfold AxisLive; decide +kernel, by decide +kernel, by decide +kernel, by decide +kernel, by decide +kernel⟩,
   
      ⟨{ { (put AX_STATUS 23 [(AX_STATUS.ASTATE, 7)] (put AX_CFG 23 [(AX_CFG.EN, 1)] base)) with chip.act.axis := [(23, { retryAt := some 0 })] } with chip.time.up := 2 ^ 40 },
      23, 0, by unfold AxisLive; decide +kernel, by decide +kernel, by decide +kernel⟩,
   ⟨{ (put AX_STATUS 23 [(AX_STATUS.ASTATE, 5)] (put AX_CFG 23 [(AX_CFG.EN, 1)] base)) with chip.time.up := 2 ^ 40 }, 23,
      by unfold AxisLive; decide +kernel, by decide +kernel⟩,
   ⟨{ (put AX_STATUS 23 [(AX_STATUS.ASTATE, 3)] (put AX_CFG 23 [(AX_CFG.EN, 1)] base)) with chip.time.up := 2 ^ 40 }, 23,
      by unfold AxisLive; decide +kernel, by decide +kernel⟩,
   
      ⟨{ (put AX_STATUS 23 [(AX_STATUS.ASTATE, 5)] (put AX_CFG 23 [(AX_CFG.EN, 1)] base)) with chip.act.axis := [(23, { cfg := AX_CFG.OPEN_MA.set 5 0 })] },
      23, 4, by unfold AxisLive; decide +kernel, by decide +kernel, by decide +kernel⟩,
   ⟨{ (put AX_STATUS 23 [(AX_STATUS.ASTATE, 5)] (put AX_CFG 23 [(AX_CFG.EN, 1)] base)) with chip.time.up := 2 ^ 40 }, 23,
      by unfold AxisLive; decide +kernel, by decide +kernel⟩⟩

/-- A state and operands for each clause of `AxisCommandsAct`. -/
theorem witness_AxisCommandsAct :
    (∃ s : State, ∃ h : Hdr, ∃ x : Ctx, ∃ a mode, Served s h (chSpec 0x0700 [1, 2] 8) x ∧ a < 24 ∧ mode ≤ 2 ∧ h.prsv = 0 ∧ s.chip.axEn a = true ∧
      s.chip.astate a ≠ asStopped ∧ s.chip.astate a ≠ asFault ∧ s.chip.forcedLines = 0) ∧
    (∃ s : State, ∃ a k, a < 24 ∧ (s.chip.axis a).until_ = some k ∧ k ≤ s.chip.up ∧ s.chip.getF AX_STATUS a AX_STATUS.MANUAL_MODE ≠ 0) ∧
    (∃ s : State, ∃ h : Hdr, ∃ x : Ctx, ∃ a k, Served s h (chSpec 0x0701 [2] 4) x ∧ a < 24 ∧ h.prsv = 0 ∧ s.chip.axEn a = true ∧ s.chip.axMoving a =
      false ∧ s.chip.astate a ≠ asStopped ∧ s.chip.getF AX_CFG a AX_CFG.HOME_METHOD ≠ 2 ∧ s.chip.forcedLines = 0 ∧ s.chip.freeHandle x.si = some
      k) ∧
    (∃ s : State, ∃ h : Hdr, ∃ x : Ctx, ∃ a, Served s h (chSpec 0x0702 [2] 4) x ∧ a < 24 ∧ h.prsv = 0 ∧ s.chip.axEn a = true ∧ s.chip.astate a ≠
      asStopped ∧ s.chip.forcedLines = 0 ∧ (¬ (s.chip.getF ENC_CFG (s.chip.axEnc a) ENC_CFG.MODE = 2 ∧ (s.chip.enc (s.chip.axEnc a)).ampBad =
      true))) ∧
    (∃ s : State, ∃ h : Hdr, ∃ x : Ctx, ∃ a, Served s h (chSpec 0x0702 [2] 4) x ∧ a < 24 ∧ h.prsv = 0 ∧ s.chip.axEn a = true ∧ s.chip.astate a ≠
      asStopped ∧ s.chip.forcedLines = 0) ∧
    (∃ s : State, ∃ h : Hdr, ∃ x : Ctx, ∃ e arm, Served s h (chSpec 0x0703 [2] 4) x ∧ e < 24 ∧ arm ≤ 1 ∧ h.prsv = 0 ∧ s.chip.getF ENC_CFG e
      ENC_CFG.INDEX_MODE = 2) ∧
    (∃ s : State, ∃ h : Hdr, ∃ x : Ctx, ∃ e pos, Served s h (chSpec 0x0704 [2] 8) x ∧ e < 24 ∧ pos < 2 ^ 32 ∧ h.prsv = 0 ∧ (∀ a, s.chip.axisOfEnc e =
      some a → s.chip.axMoving a = false)) ∧
    (∃ s : State, ∃ h : Hdr, ∃ x : Ctx, ∃ a ver img, Served s h setRecordSpec x ∧ x.who.estateOnly = true ∧ WriteFits s.chip h AX_CFG a ver img ∧
      axCfgBad img = false ∧ s.chip.axCfgHeld a img = false ∧ s.chip.forcedLines = 0) ∧
    (∃ s : State, ∃ h : Hdr, ∃ x : Ctx, ∃ e ver img, Served s h setRecordSpec x ∧ x.who.estateOnly = true ∧ WriteFits s.chip h ENC_CFG e ver img ∧
      encCfgBad e img = false ∧ s.chip.encCfgHeld e img = false) :=
  ⟨⟨put AX_STATUS 23 [(AX_STATUS.ASTATE, 2)] (put AX_CFG 23 [(AX_CFG.EN, 1)] base), hd 8, cx (hd 8), 23, 2, served_of (by decide +kernel), by
      decide +kernel, by decide +kernel, by decide +kernel, by decide +kernel, by decide +kernel, by decide +kernel, by decide +kernel⟩,
   ⟨{ (put AX_STATUS 23 [(AX_STATUS.MANUAL_MODE, 1)] base) with chip.act.axis := [(23, { until_ := some 0 })] }, 23, 0, by decide +kernel, by
      decide +kernel, by decide +kernel, by decide +kernel⟩,
   ⟨put AX_STATUS 23 [(AX_STATUS.ASTATE, 2)] (put AX_CFG 23 [(AX_CFG.EN, 1)] base), hd 4, cx (hd 4), 23, 0, served_of (by decide +kernel), by
      decide +kernel, by decide +kernel, by decide +kernel, by decide +kernel, by decide +kernel, by decide +kernel, by decide +kernel, by
      decide +kernel⟩,
   ⟨put AX_STATUS 23 [(AX_STATUS.ASTATE, 9)] (put AX_CFG 23 [(AX_CFG.EN, 1)] base), hd 4, cx (hd 4), 23, served_of (by decide +kernel), by
      decide +kernel, by decide +kernel, by decide +kernel, by decide +kernel, by decide +kernel, by decide +kernel⟩,
   ⟨put AX_STATUS 23 [(AX_STATUS.ASTATE, 9)] (put AX_CFG 23 [(AX_CFG.EN, 1)] base), hd 4, cx (hd 4), 23, served_of (by decide +kernel), by
      decide +kernel, by decide +kernel, by decide +kernel, by decide +kernel, by decide +kernel⟩,
   ⟨put ENC_CFG 23 [(ENC_CFG.INDEX_MODE, 2)] base, hd 4, cx (hd 4), 23, 1, served_of (by decide +kernel), by decide +kernel, by decide +kernel, by
      decide +kernel, by decide +kernel⟩,
   ⟨base, hd 8, cx (hd 8), 23, 2 ^ 32 - 1, served_of (by decide +kernel), by decide +kernel, by decide +kernel, by decide +kernel, by
      decide +kernel⟩,
   ⟨base, hd (8 + AX_CFG.len), cx (hd (8 + AX_CFG.len)), 23, 0xFFFFFFFF, base.chip.img AX_CFG 23, served_of (by decide +kernel), by decide +kernel,
      by unfold WriteFits; decide +kernel, by decide +kernel, by decide +kernel, by decide +kernel⟩,
   ⟨base, hd (8 + ENC_CFG.len), cx (hd (8 + ENC_CFG.len)), 23, 0xFFFFFFFF, base.chip.img ENC_CFG 23, served_of (by decide +kernel), by
      decide +kernel, by unfold WriteFits; decide +kernel, by decide +kernel, by decide +kernel⟩⟩

/-- A state and operands for each clause of `FansAct`. -/
theorem witness_FansAct :
    (∃ s : State, s.chip.fansRun = true) ∧
    (∃ s : State, ∃ p, p < 32 ∧ s.chip.fansRun = true) ∧
    (∃ s : State, s.chip.fansRun = true ∧ s.chip.boot.pfHalt = false) ∧
    (∃ s : State, ∃ n, ∃ p : Purge, n < 8 ∧ s.chip.act.purges.find? (fun q => q.set == n) = some p ∧ s.chip.getF PURGE_CFG n PURGE_CFG.DURATION_S ≠ 0
      ∧ s.chip.passedS p.at_ (s.chip.getF PURGE_CFG n PURGE_CFG.DURATION_S) = true) ∧
    (∃ s : State, ∃ h : Hdr, ∃ x : Ctx, ∃ g mode, Served s h (fanSpec 0x0800 [1, 2] 8) x ∧ g < 16 ∧ mode ≤ 2 ∧ h.prsv = 0 ∧ s.chip.tripped = []) ∧
    (∃ s : State, ∃ g k, g < 16 ∧ (s.chip.fgroup g).until_ = some k ∧ k ≤ s.chip.up) ∧
    (∃ s : State, ∃ h : Hdr, ∃ x : Ctx, ∃ g, Served s h (fanSpec 0x0801 [2] 4) x ∧ g < 16 ∧ h.prsv = 0) ∧
    (∃ s : State, ∃ h : Hdr, ∃ x : Ctx, ∃ n action, Served s h (fanSpec 0x0810 [0, 1] 4) x ∧ n < 8 ∧ action ≤ 1 ∧ h.prsv = 0 ∧ (s.chip.getF PURGE_CFG
      n PURGE_CFG.GROUPS ≠ 0 ∨ s.chip.getF PURGE_CFG n PURGE_CFG.AXES ≠ 0)) ∧
    (∃ s : State, ∃ h : Hdr, ∃ x : Ctx, ∃ p ver img, Served s h setRecordSpec x ∧ x.who.estateOnly = true ∧ WriteFits s.chip h FAN_PORT_CFG p ver img
      ∧ (FAN_PORT_CFG.GROUP.get img < 16 ∨ FAN_PORT_CFG.GROUP.get img = 0xFF) ∧ s.chip.inStopSet (FAN_PORT_CFG.GROUP.get img) = false ∧
      s.chip.inStopSet (s.chip.portGroup p) = false) ∧
    (∃ lo : Int, ∃ hi, lo < hi) :=
  ⟨⟨base, by decide +kernel⟩,
   ⟨base, 31, by decide +kernel, by decide +kernel⟩,
   ⟨base, by decide +kernel, by decide +kernel⟩,
   ⟨{ { (put PURGE_CFG 7 [(PURGE_CFG.DURATION_S, 1)] base) with chip.act.purges := [⟨7, 0, 0⟩] } with chip.time.up := 32768 }, 7, (⟨7, 0, 0⟩ :
      Purge), by decide +kernel, by decide +kernel, by decide +kernel, by decide +kernel⟩,
   ⟨base, hd 8, cx (hd 8), 15, 2, served_of (by decide +kernel), by decide +kernel, by decide +kernel, by decide +kernel, by decide +kernel⟩,
   ⟨{ base with chip.act.group := [(15, { until_ := some 0 })] }, 15, 0, by decide +kernel, by decide +kernel, by decide +kernel⟩,
   ⟨base, hd 4, cx (hd 4), 15, served_of (by decide +kernel), by decide +kernel, by decide +kernel⟩,
   ⟨put PURGE_CFG 7 [(PURGE_CFG.AXES, 1)] base, hd 4 0, cx (hd 4 0), 7, 1, served_of (by decide +kernel), by decide +kernel, by decide +kernel, by
      decide +kernel, by decide +kernel⟩,
   ⟨base, hd (8 + FAN_PORT_CFG.len), cx (hd (8 + FAN_PORT_CFG.len)), 31, 0xFFFFFFFF, base.chip.img FAN_PORT_CFG 31, served_of (by decide +kernel),
      by decide +kernel, by unfold WriteFits; decide +kernel, by decide +kernel, by decide +kernel, by decide +kernel⟩,
   ⟨0, 1, by decide +kernel⟩⟩

/-- A state and operands for each clause of `ArraysAct`. -/
theorem witness_ArraysAct :
    (∃ s : State, s.chip.arState 0 ≠ arOff) ∧
    (∃ s : State, ∃ a, a < 2 ∧ s.chip.arState a ≠ arOff ∧ s.chip.arState a ≠ arCalibrating ∧ s.chip.injEntries a ≠ [] ∧ lvFull ≤ s.chip.level) ∧
    (∃ s : State, ∃ a idx slice raws, ∃ q : SeqRun, ∃ src v, a < 2 ∧ s.chip.arState a = arRunning ∧ (s.chip.arr a).reg = some q ∧ q.entries[idx]? =
      some src ∧ q.done.testBit idx = false ∧ v = s.chip.convResult a slice raws) ∧
    (∃ s : State, ∃ a, ∃ q : SeqRun, a < 2 ∧ (s.chip.arr a).reg = some q ∧ (∀ k, k < q.entries.length → q.done.testBit k = true)) ∧
    (∃ s : State, ∃ a cause at_ rest, a < 2 ∧ (s.chip.arr a).calDue = (cause, at_) :: rest ∧ s.chip.arState a = arIdle ∧ s.chip.calReady a cause at_
      = true) ∧
    (∃ s : State, ∃ a cause, a < 2 ∧ (s.chip.arr a).cal = some cause) ∧
    (∃ s : State, ∃ h : Hdr, ∃ x : Ctx, ∃ a, Served s h (arrSpec 0x0900) x ∧ a < 2 ∧ h.prsv = 0 ∧ s.chip.arState a ≠ arOff) ∧
    (∃ s : State, ∃ h : Hdr, ∃ x : Ctx, ∃ a, Served s h (arrSpec 0x0901) x ∧ a < 2 ∧ h.prsv = 0) :=
  ⟨⟨put ARRAY_STATUS 0 [(ARRAY_STATUS.ASTATE, 1)] base, by decide +kernel⟩,
   ⟨put AIN_CFG 63 [(AIN_CFG.KIND, 1), (AIN_CFG.INJ, 1)] (put ARRAY_STATUS 0 [(ARRAY_STATUS.ASTATE, 2)] base), 0, by decide +kernel, by
      decide +kernel, by decide +kernel, by decide +kernel, by decide +kernel⟩,
   ⟨{ (put ARRAY_STATUS 1 [(ARRAY_STATUS.ASTATE, 2)] base) with chip.sense.arr := [(1, { reg := some ⟨[7, 8], 1, 0⟩ })] }, 1, 1, 3, [100], (⟨[7, 8],
      1, 0⟩ : SeqRun), 8,
      ({ (put ARRAY_STATUS 1 [(ARRAY_STATUS.ASTATE, 2)] base) with chip.sense.arr := [(1, { reg := some ⟨[7, 8], 1, 0⟩ })] }).chip.convResult 1 3
      ([100]), by decide +kernel, by decide +kernel, by decide +kernel, by decide +kernel, by decide +kernel, by decide +kernel⟩,
   ⟨{ base with chip.sense.arr := [(1, { reg := some ⟨[7, 8], 3, 0⟩ })] }, 1, (⟨[7, 8], 3, 0⟩ : SeqRun), by decide +kernel, by decide +kernel, by
      decide +kernel⟩,
   ⟨{ { (put ARRAY_STATUS 1 [(ARRAY_STATUS.ASTATE, 1)] base) with chip.sense.arr := [(1, { calDue := [(0, 0)] })] } with chip.time.up := 106 }, 1,
      0, 0, [], by decide +kernel, by decide +kernel, by decide +kernel, by decide +kernel⟩,
   ⟨{ base with chip.sense.arr := [(1, { cal := some 0 })] }, 1, 0, by decide +kernel, by decide +kernel⟩,
   ⟨put ARRAY_STATUS 1 [(ARRAY_STATUS.ASTATE, 2)] base, hd 4, cx (hd 4), 1, served_of (by decide +kernel), by decide +kernel, by decide +kernel, by
      decide +kernel⟩,
   ⟨base, hd 4, cx (hd 4), 1, served_of (by decide +kernel), by decide +kernel, by decide +kernel⟩⟩

/-- A state and operands for each clause of `InputsAct`. -/
theorem witness_InputsAct :
    (∃ s : State, ∃ r : QRes, ∃ rest n code j, (s.chip.arr 0).queue = r :: rest ∧ lvLimited ≤ s.chip.level ∧ s.chip.boot.hold = none ∧ n = r.src ∧ n
      < 64 ∧ s.chip.getF AIN_CFG n AIN_CFG.KIND ≠ 0 ∧ s.chip.plausLatched = false ∧ code = r.word % 0x10000 ∧ j = s.chip.ainJudge n code) ∧
    (∃ s : State, ∃ n, n < 64 ∧ s.chip.getF AIN_CFG n AIN_CFG.KIND ≠ 0 ∧ lvLimited ≤ s.chip.level ∧ s.chip.boot.hold = none) ∧
    (∃ s : State, lvLimited ≤ s.chip.level) ∧
    (∃ s : State, lvLimited ≤ s.chip.level ∧ s.chip.boot.hold = none) ∧
    (∃ s : State, lvLimited ≤ s.chip.level) ∧
    (∃ s : State, ∃ kp l k, kp < 24 ∧ l < 2 ∧ (s.chip.kline kp l).key = some k ∧ k < 8 ∧ s.chip.passedS (s.chip.kline kp l).since (s.chip.getF
      KP_GLOBAL 0 KP_GLOBAL.STUCK_S) = true) ∧
    (∃ s : State, ∃ kp m, kp < 24 ∧ lvFull ≤ s.chip.level ∧ m = s.chip.getF KP_CFG kp KP_CFG.NUDGE_HOLD_MIN ∧ m ≠ 0 ∧ s.chip.getF KP_STATUS kp
      KP_STATUS.LAST_PRESS + 60 * m * ticksPerSecond ≤ s.chip.now) ∧
    (∃ s : State, lvFull ≤ s.chip.level ∧ s.chip.boot.hold = none) ∧
    (∃ s : State, ∃ p q, s.chip.boot.vaon = true ∧ s.chip.boot.fbkOk = true ∧ s.chip.fb.keyPrev = [p, q]) ∧
    (∃ s : State, ∃ r : KeyRep, ∃ n, lvLimited ≤ s.chip.level ∧ s.chip.holding 0 = false ∧ s.chip.sense.keyq = [r] ∧ n = Tab.get 0
      s.chip.sense.logSeq r.src + 1) ∧
    (∃ s : State, ∃ h : Hdr, ∃ x : Ctx, ∃ src age unit, Served s h (feederSpec 1) x ∧ src < 4096 ∧ inBound x.who src = true ∧ h.prsv = 0 ∧ unit =
      s.chip.getF FEED_SRC src FEED_SRC.UNIT ∧ unit ≠ 0 ∧ s.chip.sense.feedAt.find? (fun p => p.1 == src) = none ∧ age ≤ 60000) ∧
    (∃ s : State, ∃ h : Hdr, ∃ x : Ctx, ∃ src log next, Served s h keyLogSpec x ∧ (src < 24 ∨ src = wardenSrc) ∧ (if src = wardenSrc then
      Who.estateOr scDiag x.who else x.who.owns (s.chip.keyOwner src)) = true ∧ h.prsv = 0 ∧ log = Tab.get [] s.chip.sense.logs src ∧ next =
      Tab.get 0 s.chip.sense.logSeq src + 1) ∧
    (∃ s : State, ∃ h : Hdr, ∃ x : Ctx, ∃ i ver img, Served s h setRecordSpec x ∧ x.who.estateOnly = true ∧ WriteFits s.chip h FEED_SRC i ver img ∧
      FEED_SRC.OWNER.get img ≤ 256 ∧ FEED_SRC.UNIT.get img ≤ 6) :=
  ⟨⟨{ (put AIN_CFG 63 [(AIN_CFG.KIND, 1)] base) with chip.sense.arr := [(0, { queue := [⟨100, 63, 0⟩] })] }, (⟨100, 63, 0⟩ : QRes), [], (⟨100, 63,
      0⟩ : QRes).src, (⟨100, 63, 0⟩ : QRes).word % 0x10000,
      ({ (put AIN_CFG 63 [(AIN_CFG.KIND, 1)] base) with chip.sense.arr := [(0, { queue := [⟨100, 63, 0⟩] })] }).chip.ainJudge ((⟨100, 63, 0⟩ :
      QRes).src) ((⟨100, 63, 0⟩ : QRes).word % 0x10000), by decide +kernel, by decide +kernel, by decide +kernel, by decide +kernel, by
      decide +kernel, by decide +kernel, by decide +kernel, by decide +kernel, by decide +kernel⟩,
   ⟨put AIN_CFG 63 [(AIN_CFG.KIND, 1)] base, 63, by decide +kernel, by decide +kernel, by decide +kernel, by decide +kernel⟩,
   ⟨base, by decide +kernel⟩,
   ⟨base, by decide +kernel, by decide +kernel⟩,
   ⟨base, by decide +kernel⟩,
   ⟨{ { base with chip.sense.kline := [(47, { key := some 7 })] } with chip.time.up := 2 ^ 40 }, 23, 1, 7, by decide +kernel, by decide +kernel, by
      decide +kernel, by decide +kernel, by decide +kernel⟩,
   ⟨{ (put KP_CFG 23 [(KP_CFG.NUDGE_HOLD_MIN, 1)] base) with chip.time.rtc := 1966080 }, 23,
      ({ (put KP_CFG 23 [(KP_CFG.NUDGE_HOLD_MIN, 1)] base) with chip.time.rtc := 1966080 }).chip.getF KP_CFG 23 KP_CFG.NUDGE_HOLD_MIN, by
      decide +kernel, by decide +kernel, by decide +kernel, by decide +kernel, by decide +kernel⟩,
   ⟨base, by decide +kernel, by decide +kernel⟩,
   ⟨{ base with chip.fb.keyPrev := [1, 2] }, 1, 2, by decide +kernel, by decide +kernel, by decide +kernel⟩,
   ⟨{ base with chip.sense.keyq := [⟨128, 7, 1, 0, 0⟩] }, (⟨128, 7, 1, 0, 0⟩ : KeyRep), Tab.get 0
      ({ base with chip.sense.keyq := [⟨128, 7, 1, 0, 0⟩] }).chip.sense.logSeq (⟨128, 7, 1, 0, 0⟩ : KeyRep).src + 1, by decide +kernel, by
      decide +kernel, by decide +kernel, by decide +kernel⟩,
   ⟨put FEED_SRC 4095 [(FEED_SRC.UNIT, 6)] fdr, hd 12, fx (hd 12), 4095, 60000, (put FEED_SRC 4095 [(FEED_SRC.UNIT, 6)] fdr).chip.getF FEED_SRC 4095
      FEED_SRC.UNIT, served_of (by decide +kernel), by decide +kernel, by decide +kernel, by decide +kernel, by decide +kernel, by
      decide +kernel, by decide +kernel, by decide +kernel⟩,
   ⟨base, hd 8, cx (hd 8), 128, Tab.get [] base.chip.sense.logs 128, Tab.get 0 base.chip.sense.logSeq 128 + 1, served_of (by decide +kernel), by
      decide +kernel, by decide +kernel, by decide +kernel, by decide +kernel, by decide +kernel⟩,
   ⟨base, hd (8 + FEED_SRC.len), cx (hd (8 + FEED_SRC.len)), 4095, 0xFFFFFFFF, base.chip.img FEED_SRC 4095, served_of (by decide +kernel), by
      decide +kernel, by unfold WriteFits; decide +kernel, by decide +kernel, by decide +kernel⟩⟩

/-- A state and operands for each clause of `BookingsAreWhole`. -/
theorem witness_BookingsAreWhole :
    (∃ last, last < 8) ∧
    (∃ s : State, ∃ p : Poll, ∃ m regs old at_ kind raw bits d parts, s.chip.sense.line = some p ∧ p.bind = false ∧ m = p.meter ∧ m < 32 ∧
      regs.length = s.chip.getF METER_CFG m METER_CFG.ENERGY_WORDS ∧ (s.chip.mreg m).raw = some (old, at_) ∧ raw = energyOf (s.chip.getB
      METER_CFG m METER_CFG.WORD_ORDER) regs ∧ bits = 16 * s.chip.getF METER_CFG m METER_CFG.ENERGY_WORDS ∧ d = (raw + 2 ^ bits - old) % 2 ^ bits
      * 10 ^ (s.chip.getS METER_CFG m METER_CFG.ENERGY_EXP + 3).toNat ∧ d ≤ s.chip.getF METER_CFG m METER_CFG.MAX_DELTA_WH * 1000 ∧ kind =
      s.chip.meterKind m ∧ kind ≠ 0 ∧ s.chip.meter.bandLast < 8 ∧ parts = (apportion (s.chip.mreg m).acc (s.chip.mreg m).res
      s.chip.meter.bandLast d).parts) :=
  ⟨⟨7, by decide +kernel⟩,
   
      ⟨{ { { (put METER_CFG 31 [(METER_CFG.ENERGY_WORDS, 2), (METER_CFG.MAX_DELTA_WH, 65536)] base) with chip.meter.maps := [(31, METER_MAP.KIND.set 3 0)] } with chip.sense.line := some { meter := 31, bind := false } } with chip.meter.meters := [(31, { raw := some (0, 0) })] },
      ({ meter := 31, bind := false } : Poll), ({ meter := 31, bind := false } : Poll).meter, [0, 1], 0, 0,
      ({ { { (put METER_CFG 31 [(METER_CFG.ENERGY_WORDS, 2), (METER_CFG.MAX_DELTA_WH, 65536)] base) with chip.meter.maps := [(31, METER_MAP.KIND.set 3 0)] } with chip.sense.line := some { meter := 31, bind := false } } with chip.meter.meters := [(31, { raw := some (0, 0) })] }).chip.meterKind
      (({ meter := 31, bind := false } : Poll).meter), energyOf
      (({ { { (put METER_CFG 31 [(METER_CFG.ENERGY_WORDS, 2), (METER_CFG.MAX_DELTA_WH, 65536)] base) with chip.meter.maps := [(31, METER_MAP.KIND.set 3 0)] } with chip.sense.line := some { meter := 31, bind := false } } with chip.meter.meters := [(31, { raw := some (0, 0) })] }).chip.getB
      METER_CFG (({ meter := 31, bind := false } : Poll).meter) METER_CFG.WORD_ORDER) ([0, 1]), 16 *
      ({ { { (put METER_CFG 31 [(METER_CFG.ENERGY_WORDS, 2), (METER_CFG.MAX_DELTA_WH, 65536)] base) with chip.meter.maps := [(31, METER_MAP.KIND.set 3 0)] } with chip.sense.line := some { meter := 31, bind := false } } with chip.meter.meters := [(31, { raw := some (0, 0) })] }).chip.getF
      METER_CFG (({ meter := 31, bind := false } : Poll).meter) METER_CFG.ENERGY_WORDS, ((energyOf
      (({ { { (put METER_CFG 31 [(METER_CFG.ENERGY_WORDS, 2), (METER_CFG.MAX_DELTA_WH, 65536)] base) with chip.meter.maps := [(31, METER_MAP.KIND.set 3 0)] } with chip.sense.line := some { meter := 31, bind := false } } with chip.meter.meters := [(31, { raw := some (0, 0) })] }).chip.getB
      METER_CFG (({ meter := 31, bind := false } : Poll).meter) METER_CFG.WORD_ORDER) ([0, 1])) + 2 ^ (16 *
      ({ { { (put METER_CFG 31 [(METER_CFG.ENERGY_WORDS, 2), (METER_CFG.MAX_DELTA_WH, 65536)] base) with chip.meter.maps := [(31, METER_MAP.KIND.set 3 0)] } with chip.sense.line := some { meter := 31, bind := false } } with chip.meter.meters := [(31, { raw := some (0, 0) })] }).chip.getF
      METER_CFG (({ meter := 31, bind := false } : Poll).meter) METER_CFG.ENERGY_WORDS) - 0) % 2 ^ (16 *
      ({ { { (put METER_CFG 31 [(METER_CFG.ENERGY_WORDS, 2), (METER_CFG.MAX_DELTA_WH, 65536)] base) with chip.meter.maps := [(31, METER_MAP.KIND.set 3 0)] } with chip.sense.line := some { meter := 31, bind := false } } with chip.meter.meters := [(31, { raw := some (0, 0) })] }).chip.getF
      METER_CFG (({ meter := 31, bind := false } : Poll).meter) METER_CFG.ENERGY_WORDS) * 10 ^
      (({ { { (put METER_CFG 31 [(METER_CFG.ENERGY_WORDS, 2), (METER_CFG.MAX_DELTA_WH, 65536)] base) with chip.meter.maps := [(31, METER_MAP.KIND.set 3 0)] } with chip.sense.line := some { meter := 31, bind := false } } with chip.meter.meters := [(31, { raw := some (0, 0) })] }).chip.getS
      METER_CFG (({ meter := 31, bind := false } : Poll).meter) METER_CFG.ENERGY_EXP + 3).toNat, (apportion
      (({ { { (put METER_CFG 31 [(METER_CFG.ENERGY_WORDS, 2), (METER_CFG.MAX_DELTA_WH, 65536)] base) with chip.meter.maps := [(31, METER_MAP.KIND.set 3 0)] } with chip.sense.line := some { meter := 31, bind := false } } with chip.meter.meters := [(31, { raw := some (0, 0) })] }).chip.mreg
      (({ meter := 31, bind := false } : Poll).meter)).acc
      (({ { { (put METER_CFG 31 [(METER_CFG.ENERGY_WORDS, 2), (METER_CFG.MAX_DELTA_WH, 65536)] base) with chip.meter.maps := [(31, METER_MAP.KIND.set 3 0)] } with chip.sense.line := some { meter := 31, bind := false } } with chip.meter.meters := [(31, { raw := some (0, 0) })] }).chip.mreg
      (({ meter := 31, bind := false } : Poll).meter)).res
      ({ { { (put METER_CFG 31 [(METER_CFG.ENERGY_WORDS, 2), (METER_CFG.MAX_DELTA_WH, 65536)] base) with chip.meter.maps := [(31, METER_MAP.KIND.set 3 0)] } with chip.sense.line := some { meter := 31, bind := false } } with chip.meter.meters := [(31, { raw := some (0, 0) })] }).chip.meter.bandLast
      (((energyOf
      (({ { { (put METER_CFG 31 [(METER_CFG.ENERGY_WORDS, 2), (METER_CFG.MAX_DELTA_WH, 65536)] base) with chip.meter.maps := [(31, METER_MAP.KIND.set 3 0)] } with chip.sense.line := some { meter := 31, bind := false } } with chip.meter.meters := [(31, { raw := some (0, 0) })] }).chip.getB
      METER_CFG (({ meter := 31, bind := false } : Poll).meter) METER_CFG.WORD_ORDER) ([0, 1])) + 2 ^ (16 *
      ({ { { (put METER_CFG 31 [(METER_CFG.ENERGY_WORDS, 2), (METER_CFG.MAX_DELTA_WH, 65536)] base) with chip.meter.maps := [(31, METER_MAP.KIND.set 3 0)] } with chip.sense.line := some { meter := 31, bind := false } } with chip.meter.meters := [(31, { raw := some (0, 0) })] }).chip.getF
      METER_CFG (({ meter := 31, bind := false } : Poll).meter) METER_CFG.ENERGY_WORDS) - 0) % 2 ^ (16 *
      ({ { { (put METER_CFG 31 [(METER_CFG.ENERGY_WORDS, 2), (METER_CFG.MAX_DELTA_WH, 65536)] base) with chip.meter.maps := [(31, METER_MAP.KIND.set 3 0)] } with chip.sense.line := some { meter := 31, bind := false } } with chip.meter.meters := [(31, { raw := some (0, 0) })] }).chip.getF
      METER_CFG (({ meter := 31, bind := false } : Poll).meter) METER_CFG.ENERGY_WORDS) * 10 ^
      (({ { { (put METER_CFG 31 [(METER_CFG.ENERGY_WORDS, 2), (METER_CFG.MAX_DELTA_WH, 65536)] base) with chip.meter.maps := [(31, METER_MAP.KIND.set 3 0)] } with chip.sense.line := some { meter := 31, bind := false } } with chip.meter.meters := [(31, { raw := some (0, 0) })] }).chip.getS
      METER_CFG (({ meter := 31, bind := false } : Poll).meter) METER_CFG.ENERGY_EXP + 3).toNat)).parts, by decide +kernel, by decide +kernel, by
      decide +kernel, by decide +kernel, by decide +kernel, by decide +kernel, by decide +kernel, by decide +kernel, by decide +kernel, by
      decide +kernel, by decide +kernel, by decide +kernel, by decide +kernel, by decide +kernel⟩⟩

/-- A state and operands for each clause of `MeteringActs`. -/
theorem witness_MeteringActs :
    (∃ s : State, s.chip.meter.on = true ∧ s.chip.meteringAble = true ∧ s.chip.sense.pollTick ≠ some s.chip.meter.tickAt) ∧
    (∃ s : State, ∃ p : Poll, s.chip.sense.line = some p) ∧
    (∃ s : State, ∃ p : Poll, s.chip.sense.line = some p) ∧
    (∃ s : State, ∃ h : Hdr, ∃ x : Ctx, ∃ m ver img, Served s h setRecordSpec x ∧ x.who.estateOnly = true ∧ WriteFits s.chip h METER_CFG m ver img ∧
      (METER_CFG.ENERGY_WORDS.get img = 2 ∨ METER_CFG.ENERGY_WORDS.get img = 4)) ∧
    (∃ s : State, ∃ h : Hdr, ∃ x : Ctx, ∃ m ver img, Served s h setRecordSpec x ∧ x.who.estateOnly = true ∧ WriteFits s.chip h METER_MAP m ver img ∧
      s.chip.meterMapBad m img = false) ∧
    (∃ s : State, ∃ b, s.chip.meteringAble = true ∧ s.chip.meter.on = true ∧ s.chip.meter.len ≠ 0 ∧ b = s.chip.now / ticksPer10s * ticksPer10s ∧
      s.chip.meter.tickAt ≠ b) ∧
    (∃ s : State, ∃ h : Hdr, ∃ x : Ctx, ∃ o cut, Served s h epochCutSpec x ∧ o ≤ 256 ∧ h.prsv = 0 ∧ badTime cut = false ∧ cut % ticksPerQuarter = 0 ∧
      s.chip.now < cut ∧ cut ≤ s.chip.now + 31 * 86400 * ticksPerSecond ∧ s.chip.stmtState o ≠ stScheduled ∧ s.chip.stmtState o ≠ stmPending ∧ (o
      < 256 → s.chip.slotState o ≠ slEmpty ∧ s.chip.slotState o ≠ slWiping)) ∧
    (∃ s : State, ∃ h : Hdr, ∃ x : Ctx, ∃ o seq, ∃ sig : Sig, ∃ sigs, Served s h epochSignSpec x ∧ x.who.estateOnly = true ∧ o ≤ 256 ∧ h.prsv = 0 ∧
      Sig.verifies sig (s.chip.estateKey x.si).2 = true ∧ s.chip.stmtState o = stmPending ∧ s.chip.getF EPOCH_STATEMENT o
      EPOCH_STATEMENT.STMT_SEQ = seq ∧ sigs = s.chip.getF EPOCH_STATEMENT o EPOCH_STATEMENT.SIGS ∧ sigs.testBit 0 = false) ∧
    (∃ s : State, ∃ o, o < 257 ∧ s.chip.stmtState o = stmPending ∧ s.chip.getF EPOCH_STATEMENT o EPOCH_STATEMENT.CUT + s.chip.getF METERING_CFG 0
      METERING_CFG.STMT_EXPIRY_D * 86400 * ticksPerSecond ≤ s.chip.now) :=
  ⟨⟨{ base with chip.meter.on := true }, by decide +kernel, by decide +kernel, by decide +kernel⟩,
   ⟨{ base with chip.sense.line := some { meter := 31, bind := false } }, ({ meter := 31, bind := false } : Poll), by decide +kernel⟩,
   ⟨{ base with chip.sense.line := some { meter := 31, bind := false } }, ({ meter := 31, bind := false } : Poll), by decide +kernel⟩,
   ⟨base, hd (8 + METER_CFG.len), cx (hd (8 + METER_CFG.len)), 31, 0xFFFFFFFF, base.chip.img METER_CFG 31, served_of (by decide +kernel), by
      decide +kernel, by unfold WriteFits; decide +kernel, by decide +kernel⟩,
   ⟨base, hd (8 + METER_MAP.len), cx (hd (8 + METER_MAP.len)), 31, 0xFFFFFFFF, base.chip.img METER_MAP 31, served_of (by decide +kernel), by
      decide +kernel, by unfold WriteFits; decide +kernel, by decide +kernel⟩,
   ⟨{ { { base with chip.meter.on := true } with chip.meter.len := 15 } with chip.time.rtc := 327680 },
      ({ { { base with chip.meter.on := true } with chip.meter.len := 15 } with chip.time.rtc := 327680 }).chip.now / ticksPer10s * ticksPer10s,
      by decide +kernel, by decide +kernel, by decide +kernel, by decide +kernel, by decide +kernel⟩,
   ⟨base, hd 12, cx (hd 12), 256, 29491200, served_of (by decide +kernel), by decide +kernel, by decide +kernel, by decide +kernel, by
      decide +kernel, by decide +kernel, by decide +kernel, by decide +kernel, by decide +kernel, by decide +kernel⟩,
   ⟨put EPOCH_STATEMENT 256 [(EPOCH_STATEMENT.STATE, 2), (EPOCH_STATEMENT.STMT_SEQ, 1)] (put CRED_ESTATE 0 [(CRED_ESTATE.PUBKEY, 9)] base), hd 72,
      cx (hd 72), 256, 1, (⟨9, true, 0⟩ : Sig), (put EPOCH_STATEMENT 256 [(EPOCH_STATEMENT.STATE, 2), (EPOCH_STATEMENT.STMT_SEQ, 1)] (put
      CRED_ESTATE 0 [(CRED_ESTATE.PUBKEY, 9)] base)).chip.getF EPOCH_STATEMENT 256 EPOCH_STATEMENT.SIGS, served_of (by decide +kernel), by
      decide +kernel, by decide +kernel, by decide +kernel, by decide +kernel, by decide +kernel, by decide +kernel, by decide +kernel, by
      decide +kernel⟩,
   ⟨{ (put EPOCH_STATEMENT 256 [(EPOCH_STATEMENT.STATE, 2)] base) with chip.time.rtc := 2 ^ 45 }, 256, by decide +kernel, by decide +kernel, by
      decide +kernel⟩⟩

/-- A state and operands for each clause of `FirebreakActs`. -/
theorem witness_FirebreakActs :
    (∃ s : State, s.chip.boot.fbkOk = true) ∧
    (∃ s : State, s.chip.boot.vaon = true ∧ s.chip.boot.fbkOk = false) ∧
    (∃ s : State, s.chip.boot.fbkOk = true ∧ s.chip.boot.fbReady = false ∧ s.chip.allClassed = true ∧ s.chip.failsafe = false) ∧
    (∃ s : State, ∃ n ohms cls, n < 4 ∧ s.chip.boot.vaon = true ∧ s.chip.fbHarmless = false ∧ s.chip.failsafe = false ∧ cls = classOfLoop
      (s.chip.inMode n) ohms ∧ (cls = icNormal ∨ cls = icActive)) ∧
    (∃ s : State, ∃ n ohms cls, n < 4 ∧ s.chip.boot.vaon = true ∧ s.chip.fbHarmless = false ∧ s.chip.failsafe = false ∧ cls = classOfLoop
      (s.chip.inMode n) ohms ∧ icShort ≤ cls) ∧
    (∃ s : State, s.chip.fbDisagree = true ∧ s.chip.fbHarmless = false ∧ s.chip.getB FB_STATUS 0 FB_STATUS.DISC = false) ∧
    (∃ s : State, ∃ key, key < 64 ∧ s.chip.resetHeld key = true ∧ s.chip.failsafe = false) ∧
    (∃ s : State, ∃ key, key < 64 ∧ s.chip.fb.keyDown.testBit key = true ∧ s.chip.fb.keyStuck.testBit key = false ∧ s.chip.passedS (Tab.get 0
      s.chip.fb.keyPressed key) (s.chip.getF FB_GLOBAL 0 FB_GLOBAL.WM_STUCK_S) = true) :=
  ⟨⟨base, by decide +kernel⟩,
   ⟨{ base with chip.boot.fbkOk := false }, by decide +kernel, by decide +kernel⟩,
   ⟨{ base with chip.boot.fbReady := false }, by decide +kernel, by decide +kernel, by decide +kernel, by decide +kernel⟩,
   ⟨put FB_INPUT_CFG 3 [(FB_INPUT_CFG.MODE, 1)] base, 3, 1600, classOfLoop ((put FB_INPUT_CFG 3 [(FB_INPUT_CFG.MODE, 1)] base).chip.inMode 3) 1600,
      by decide +kernel, by decide +kernel, by decide +kernel, by decide +kernel, by decide +kernel, by decide +kernel⟩,
   ⟨put FB_INPUT_CFG 0 [(FB_INPUT_CFG.MODE, 1)] base, 0, 0, classOfLoop ((put FB_INPUT_CFG 0 [(FB_INPUT_CFG.MODE, 1)] base).chip.inMode 0) 0, by
      decide +kernel, by decide +kernel, by decide +kernel, by decide +kernel, by decide +kernel, by decide +kernel⟩,
   ⟨put FB_STATUS 0 [(FB_STATUS.IN_CLASS 0, 2), (FB_STATUS.IN_CLASS 1, 1)] (put FB_INPUT_CFG 1 [(FB_INPUT_CFG.MODE, 1)] (put FB_INPUT_CFG 0
      [(FB_INPUT_CFG.MODE, 1)] base)), by decide +kernel, by decide +kernel, by decide +kernel⟩,
   ⟨{ { (put FB_WARDEN_CFG 0 [(FB_WARDEN_CFG.KEY_FUNC 63, 1)] base) with chip.fb.keyDown := 2 ^ 63 } with chip.time.up := 32768000 }, 63, by
      decide +kernel, by decide +kernel, by decide +kernel⟩,
   ⟨{ { base with chip.fb.keyDown := 1 } with chip.time.up := 327680000 }, 0, by decide +kernel, by decide +kernel, by decide +kernel, by
      decide +kernel⟩⟩

/-- A state and operands for each clause of `SafetyOutputsAct`. -/
theorem witness_SafetyOutputsAct :
    (∃ s : State, ∃ gatehouse, s.chip.hbAble gatehouse = true) ∧
    (∃ s : State, s.chip.getB FB_STATUS 0 FB_STATUS.HB_LIVE = true ∧ s.chip.getF FB_GLOBAL 0 FB_GLOBAL.HB_TIMEOUT_MS * 32768 ≤ s.chip.since
      s.chip.fb.hbLast * 1000) ∧
    (∃ s : State, ∃ k, k < 16 ∧ s.chip.soRequests = s.chip.getF FB_STATUS 0 FB_STATUS.SO_REQ ∧ s.chip.soAllowed k = true ∧ s.outOn k = false ∧ (∀ j,
      j < k → s.chip.soAllowed j = true → s.outOn j = true)) ∧
    (∃ s : State, ∃ k sw, k < 16 ∧ s.outOn k = true ∧ sw = 1 - Tab.get 1 s.chip.fb.lastSwitch k ∧ s.chip.getF FB_STATUS 0 (FB_STATUS.SO_FAULT k) = 0) ∧
    (∃ s : State, ∃ k kind ma, k < 16 ∧ s.chip.getF FB_STATUS 0 (FB_STATUS.SO_FAULT k) = 0 ∧ ((kind = 3 ∧ s.outOn k = false) ∨ (kind = 4 ∧ s.outOn k
      = true ∧ 900 < ma))) ∧
    (∃ s : State, ∃ low : Bool, s.chip.boot.vaon = true ∧ s.chip.getB FB_STATUS 0 FB_STATUS.VSAFE_LOW ≠ low) ∧
    (∃ s : State, ∃ h : Hdr, ∃ x : Ctx, ∃ which r inst ver img, which < 5 ∧ r = safetyRecord which ∧ Served s h setRecordSpec x ∧ s.chip.mayCommit
      x.who = true ∧ s.chip.commitBlocked = false ∧ WriteFits s.chip h r inst ver img ∧ fbBad r img = false) ∧
    (∃ s : State, ∃ h : Hdr, ∃ x : Ctx, ∃ set clear, Served s h soRequestSpec x ∧ set &&& clear = 0 ∧ (¬ (set = 0 ∧ clear = 0)) ∧ (∀ k, k < 16 →
      set.testBit k = true → s.chip.soPermit k = true) ∧ (∀ k, k < 16 → set.testBit k = true ∨ clear.testBit k = true → s.chip.getB FB_OUT_CFG k
      FB_OUT_CFG.EN = true ∧ s.chip.getB FB_OUT_CFG k FB_OUT_CFG.REQ_SRC = true)) :=
  ⟨⟨base, false, by decide +kernel⟩,
   ⟨{ (put FB_STATUS 0 [(FB_STATUS.HB_LIVE, 1)] base) with chip.time.up := 32768000 }, by decide +kernel, by decide +kernel⟩,
   ⟨put FB_STATUS 0 [(FB_STATUS.HB_LIVE, 1), (FB_STATUS.SO_REQ, 32768)] (put FB_OUT_CFG 15 [(FB_OUT_CFG.EN, 1), (FB_OUT_CFG.REQ_SRC, 0)] base), 15,
      by decide +kernel, by decide +kernel, by decide +kernel, by decide +kernel, by decide +kernel⟩,
   ⟨put FB_STATUS 0 [(FB_STATUS.SO_ON, 1)] base, 0, 1 - Tab.get 1 (put FB_STATUS 0 [(FB_STATUS.SO_ON, 1)] base).chip.fb.lastSwitch 0, by
      decide +kernel, by decide +kernel, by decide +kernel, by decide +kernel⟩,
   ⟨put FB_STATUS 0 [(FB_STATUS.SO_ON, 1)] base, 0, 4, 901, by decide +kernel, by decide +kernel, by decide +kernel⟩,
   ⟨base, true, by decide +kernel, by decide +kernel⟩,
   ⟨svc, sh (8 + FB_OUT_CFG.len), sx (sh (8 + FB_OUT_CFG.len)), 2, safetyRecord 2, 15, 0xFFFFFFFF, base.chip.img FB_OUT_CFG 15, by decide +kernel,
      by decide +kernel, served_of (by decide +kernel), by decide +kernel, by decide +kernel, by unfold WriteFits; decide +kernel, by
      decide +kernel⟩,
   ⟨put FB_OUT_CFG 15 [(FB_OUT_CFG.EN, 1), (FB_OUT_CFG.REQ_SRC, 1)] (put FB_OUT_CFG 0 [(FB_OUT_CFG.EN, 1), (FB_OUT_CFG.REQ_SRC, 1)] base), hd 4, cx
      (hd 4), 1, 32768, served_of (by decide +kernel), by decide +kernel, by decide +kernel, by decide +kernel, by decide +kernel⟩⟩

/-- A state and operands for each clause of `ReferencesAct`. -/
theorem witness_ReferencesAct :
    (∃ s : State, ∃ active, s.chip.timeRuns = true ∧ active = s.chip.getF TIME_STATUS 0 TIME_STATUS.ACTIVE) ∧
    (∃ s : State, ∃ k cand, s.chip.timeRuns = true ∧ s.chip.time.qualSince = some k ∧ s.chip.getF TIME_STATUS 0 TIME_STATUS.SSTATE ≠ ssLocked ∧ cand
      = s.chip.getF TIME_STATUS 0 TIME_STATUS.CANDIDATE ∧ s.chip.refAvail cand = true ∧ s.chip.passedS k (qualSeconds (s.chip.getF TIME_STATUS 0
      TIME_STATUS.SSTATE)) = true) ∧
    (∃ s : State, s.chip.timeRuns = true) ∧
    (∃ s : State, ∃ p, ∃ a : Announce, p < 2 ∧ s.chip.ptpListens p = true ∧ a.domain = s.chip.getF PTP_CFG p PTP_CFG.DOMAIN ∧ -3 ≤ a.logInterval ∧
      a.logInterval ≤ 3 ∧ a.steps < 255) ∧
    (∃ s : State, ∃ p, p < 2 ∧ s.chip.ptpListens p = true) ∧
    (∃ s : State, ∃ p, p < 2 ∧ s.chip.timeRuns = true) ∧
    (∃ s : State, ∃ p, ∃ g : PtpMsg, ∃ m t2, p < 2 ∧ s.chip.ptpListens p = true ∧ g.good = true ∧ s.chip.ptpMaster p = some m ∧ m.sent g = true ∧ -4
      ≤ g.logInterval ∧ g.logInterval ≤ 1 ∧ s.chip.driving p = false ∧ t2 = s.chip.civilFine g.fine - 64 * (s.chip.getF PTP_CFG p
      PTP_CFG.RX_LAT_NS : Int)) ∧
    (∃ s : State, ∃ p, ∃ g : PtpMsg, ∃ m corr0 t2, p < 2 ∧ s.chip.ptpListens p = true ∧ g.good = true ∧ s.chip.ptpMaster p = some m ∧ m.sent g = true
      ∧ (s.chip.ptp p).twoStepSeq = some (g.seq, corr0, t2) ∧ s.chip.driving p = false) ∧
    (∃ s : State, ∃ p, ∃ g : PtpMsg, ∃ received corr m t3 d, p < 2 ∧ s.chip.ptpListens p = true ∧ g.good = true ∧ s.chip.ptpMaster p = some m ∧
      m.sent g = true ∧ (s.chip.ptp p).lastSync.isSome = true ∧ (s.chip.ptp p).delayReqs.find? (fun q => q.1 == g.seq) = some (g.seq, t3) ∧ d =
      divFree 436 (((s.chip.ptp p).t2 - (s.chip.ptp p).t1) + (s.chip.ptpCivil p m received - corrUnits corr - t3)) 2) ∧
    (∃ s : State, ∃ p, p < 2 ∧ s.chip.ptpListens p = true ∧ (s.chip.ptpMaster p).isSome = true ∧ (s.chip.ptp p).lastSync.isSome = true ∧
      s.chip.delayDue p = true) ∧
    (∃ s : State, s.chip.timeRuns = true ∧ (s.chip.getF TIME_REF_CFG 0 TIME_REF_CFG.REF_EN).testBit 2 = true ∧ s.chip.driving 2 = false ∧ s.chip.getB
      SUPPLY_STATUS 0 SUPPLY_STATUS.PLLB_LOCK = true) ∧
    (∃ s : State, ∃ h : Hdr, ∃ x : Ctx, ∃ i ver img, Served s h setRecordSpec x ∧ timeMay x.who = true ∧ WriteFits s.chip h PTP_CFG i ver img) ∧
    (∃ s : State, ∃ h : Hdr, ∃ x : Ctx, ∃ i ver img, Served s h setRecordSpec x ∧ timeMay x.who = true ∧ WriteFits s.chip h TIME_REF_CFG i ver img ∧
      timeRefCfgBad img = false) :=
  ⟨⟨base, base.chip.getF TIME_STATUS 0 TIME_STATUS.ACTIVE, by decide +kernel, by decide +kernel⟩,
   ⟨put TIME_STATUS 0 [(TIME_STATUS.SSTATE, 1), (TIME_STATUS.CANDIDATE, 3)]
      ({ { base with chip.time.qualSince := some 0 } with chip.time.up := 2621440 }), 0, (put TIME_STATUS 0 [(TIME_STATUS.SSTATE, 1),
      (TIME_STATUS.CANDIDATE, 3)] ({ { base with chip.time.qualSince := some 0 } with chip.time.up := 2621440 })).chip.getF TIME_STATUS 0
      TIME_STATUS.CANDIDATE, by decide +kernel, by decide +kernel, by decide +kernel, by decide +kernel, by decide +kernel, by decide +kernel⟩,
   ⟨base, by decide +kernel⟩,
   ⟨ptp, 1, ({ steps := 254, logInterval := -3 } : Announce), by decide +kernel, by decide +kernel, by decide +kernel, by decide +kernel, by
      decide +kernel, by decide +kernel⟩,
   ⟨ptp, 1, by decide +kernel, by decide +kernel⟩,
   ⟨base, 1, by decide +kernel, by decide +kernel⟩,
   ⟨ptp, 1, ({ identity := 7 } : PtpMsg), mst, ptp.chip.civilFine ({ identity := 7 } : PtpMsg).fine - 64 * (ptp.chip.getF PTP_CFG 1
      PTP_CFG.RX_LAT_NS : Int), by decide +kernel, by decide +kernel, by decide +kernel, by decide +kernel, by decide +kernel, by decide +kernel,
      by decide +kernel, by decide +kernel, by decide +kernel⟩,
   ⟨ptp, 1, ({ identity := 7, seq := 3 } : PtpMsg), mst, 0, 5, by decide +kernel, by decide +kernel, by decide +kernel, by decide +kernel, by
      decide +kernel, by decide +kernel, by decide +kernel⟩,
   ⟨ptp, 1, ({ identity := 7, seq := 2 } : PtpMsg), 0, 0, mst, 9, divFree 436 (((ptp.chip.ptp 1).t2 - (ptp.chip.ptp 1).t1) + (ptp.chip.ptpCivil 1
      mst 0 - corrUnits 0 - 9)) 2, by decide +kernel, by decide +kernel, by decide +kernel, by decide +kernel, by decide +kernel, by
      decide +kernel, by decide +kernel, rfl⟩,
   ⟨ptp, 1, by decide +kernel, by decide +kernel, by decide +kernel, by decide +kernel, by decide +kernel⟩,
   ⟨put TIME_REF_CFG 0 [(TIME_REF_CFG.REF_EN, 4)] base, by decide +kernel, by decide +kernel, by decide +kernel, by decide +kernel⟩,
   ⟨base, hd (8 + PTP_CFG.len), cx (hd (8 + PTP_CFG.len)), 1, 0xFFFFFFFF, base.chip.img PTP_CFG 1, served_of (by decide +kernel), by decide +kernel,
      by unfold WriteFits; decide +kernel⟩,
   ⟨base, hd (8 + TIME_REF_CFG.len), cx (hd (8 + TIME_REF_CFG.len)), 0, 0xFFFFFFFF, base.chip.img TIME_REF_CFG 0, served_of (by decide +kernel), by
      decide +kernel, by unfold WriteFits; decide +kernel, by decide +kernel⟩⟩

/-- A state and operands for each clause of `TimeActs`. -/
theorem witness_TimeActs :
    (∃ s : State, s.chip.boot.vaon = true ∧ s.chip.getB SUPPLY_STATUS 0 SUPPLY_STATUS.REF_XTAL = true) ∧
    (∃ s : State, s.chip.boot.vaon = true ∧ s.chip.getB SUPPLY_STATUS 0 SUPPLY_STATUS.REF_XTAL = true) ∧
    (∃ s : State, ∃ r rest, s.chip.timeRuns = true ∧ s.chip.time.stepAt = some (r, rest) ∧ (s.chip.civil * tickUnits + rest) % secUnits < 2 *
      tickUnits) ∧
    (∃ s : State, ∃ k, s.chip.timeRuns = true ∧ s.chip.time.epsAt = some k ∧ s.chip.getB TIME_STATUS 0 TIME_STATUS.SLEWING = false ∧ s.chip.passedS k
      (s.chip.getF TIME_REF_CFG 0 TIME_REF_CFG.SERVO_TC_S) = true) ∧
    (∃ s : State, s.chip.timeRuns = true ∧ s.chip.getB TIME_STATUS 0 TIME_STATUS.SLEWING = true ∧ s.chip.time.slewLeft.natAbs ≤ 64000000) ∧
    (∃ s : State, ∃ k, ∃ on : Bool, ∃ l, s.chip.timeRuns = true ∧ s.chip.time.dst = (k, on) :: l ∧ k ≤ s.chip.now) ∧
    (∃ s : State, s.chip.timeRuns = true ∧ s.chip.time.localPrev.getD 0 < s.chip.localTime ∧ Int.fdiv s.chip.localTime 32768 ≤ calendarEnd) ∧
    (∃ s : State, ∃ h : Hdr, ∃ x : Ctx, Served s h timeCaptureSpec x ∧ h.prsv = 0) ∧
    (∃ s : State, ∃ h : Hdr, ∃ x : Ctx, ∃ seconds, Served s h timeSetSpec x ∧ h.prsv = 0 ∧ seconds ≤ 6311433599 ∧ 2 ≤ s.chip.getF TIME_STATUS 0
      TIME_STATUS.ACTIVE) ∧
    (∃ s : State, ∃ h : Hdr, ∃ x : Ctx, ∃ i ver img, Served s h setRecordSpec x ∧ timeMay x.who = true ∧ WriteFits s.chip h TIME_ZONE i ver img) :=
  ⟨⟨base, by decide +kernel, by decide +kernel⟩,
   ⟨base, by decide +kernel, by decide +kernel⟩,
   ⟨{ base with chip.time.stepAt := some (2, 192000000000) }, 2, 192000000000, by decide +kernel, by decide +kernel, by decide +kernel⟩,
   ⟨{ { base with chip.time.epsAt := some 0 } with chip.time.up := 327680000 }, 0, by decide +kernel, by decide +kernel, by decide +kernel, by
      decide +kernel⟩,
   ⟨{ (put TIME_STATUS 0 [(TIME_STATUS.SLEWING, 1)] base) with chip.time.slewLeft := 64000000 }, by decide +kernel, by decide +kernel, by
      decide +kernel⟩,
   ⟨{ base with chip.time.dst := [(0, true)] }, 0, true, [], by decide +kernel, by decide +kernel, by decide +kernel⟩,
   ⟨{ base with chip.time.rtc := 32768 }, by decide +kernel, by decide +kernel, by decide +kernel⟩,
   ⟨base, hd 0, cx (hd 0), served_of (by decide +kernel), by decide +kernel⟩,
   ⟨base, hd 8, cx (hd 8), 6311353599, served_of (by decide +kernel), by decide +kernel, by decide +kernel, by decide +kernel⟩,
   ⟨base, hd (8 + TIME_ZONE.len), cx (hd (8 + TIME_ZONE.len)), 0, 0xFFFFFFFF, base.chip.img TIME_ZONE 0, served_of (by decide +kernel), by
      decide +kernel, by unfold WriteFits; decide +kernel⟩⟩

/-- A state and operands for each clause of `StoreRuns`. -/
theorem witness_StoreRuns :
    (∃ s : State, s.drained ∧ s.chip.storeDue s.chip.storeMask = true) ∧
    (∃ s : State, ∃ b, s.drained ∧ s.chip.ststate = ssStoring ∧ s.chip.store.target = b ∧ b < 2) ∧
    (∃ s : State, ∃ b, s.drained ∧ s.chip.ststate = ssStoring ∧ s.chip.store.target = b ∧ b < 2) ∧
    (∃ s : State, ∃ b, b < 2 ∧ s.chip.store.erasing = some b) ∧
    (∃ s : State, ∃ b, b < 2 ∧ s.chip.store.erasing = some b) ∧
    (∃ s : State, s.chip.ststate = ssReady ∧ s.chip.level = lvFull ∧ s.chip.held = false ∧ s.chip.storeDue s.chip.storeMask = false ∧ s.chip.getF
      STORE_STATUS 0 STORE_STATUS.NEXT_MARGIN ≤ s.chip.now) ∧
    (∃ s : State, s.chip.ststate = ssMargin ∧ s.chip.now ≤ rtcEnd) ∧
    (∃ s : State, s.chip.store.ringErased = false ∧ s.chip.store.ckWait = none ∧ s.chip.store.ringNext < 16) ∧
    (∃ s : State, ∃ page b, page < 512 ∧ s.drained ∧ s.chip.newestBank = some b) ∧
    (∃ s : State, ∃ dv, s.drained ∧ s.chip.boot.vbusPf = false ∧ dv < 300 ∧ s.chip.boot.pfHalt = false ∧ s.chip.boot.enCore = true) :=
  ⟨⟨put STORE_STATUS 0 [(STORE_STATUS.PENDING_CAUSE, 1)] base, rfl, by decide +kernel⟩,
   ⟨{ (put STORE_STATUS 0 [(STORE_STATUS.STSTATE, 3)] base) with chip.store.target := 1 },
      ({ (put STORE_STATUS 0 [(STORE_STATUS.STSTATE, 3)] base) with chip.store.target := 1 }).chip.store.target, rfl, by decide +kernel, by
      decide +kernel, by decide +kernel⟩,
   ⟨{ (put STORE_STATUS 0 [(STORE_STATUS.STSTATE, 3)] base) with chip.store.target := 0 },
      ({ (put STORE_STATUS 0 [(STORE_STATUS.STSTATE, 3)] base) with chip.store.target := 0 }).chip.store.target, rfl, by decide +kernel, by
      decide +kernel, by decide +kernel⟩,
   ⟨{ base with chip.store.erasing := some 1 }, 1, by decide +kernel, by decide +kernel⟩,
   ⟨{ base with chip.store.erasing := some 0 }, 0, by decide +kernel, by decide +kernel⟩,
   ⟨base, by decide +kernel, by decide +kernel, by decide +kernel, by decide +kernel, by decide +kernel⟩,
   ⟨put STORE_STATUS 0 [(STORE_STATUS.STSTATE, 5)] base, by decide +kernel, by decide +kernel⟩,
   ⟨{ base with chip.store.ringErased := false }, by decide +kernel, by decide +kernel, by decide +kernel⟩,
   ⟨put STORE_STATUS 0 [(STORE_STATUS.SEQ, 1)] (put BANK_INFO 1 [(BANK_INFO.BSTATE, 1), (BANK_INFO.SEQ, 1)] base), 511, 1, by decide +kernel, rfl,
      by decide +kernel⟩,
   ⟨base, 299, rfl, by decide +kernel, by decide +kernel, by decide +kernel, by decide +kernel⟩⟩

/-- A state and operands for each clause of `RawAccessActs`. -/
theorem witness_RawAccessActs :
    (∃ s : State, ∃ h : Hdr, ∃ x : Ctx, ∃ k, Served s h storeSpec x ∧ h.prsv = 0 ∧ s.chip.ststate ∉ [ssBlank, ssHalted, ssDegraded] ∧
      s.chip.freeHandle x.si = some k) ∧
    (∃ s : State, ∃ h : Hdr, ∃ x : Ctx, ∃ kind word stored, Served s h rawOpenSpec x ∧ kind ≤ 1 ∧ h.prsv = 0 ∧ s.chip.getB STORE_STATUS 0
      STORE_STATUS.RAW_LOCKED = false ∧ stored = s.chip.getF RAW_WORDS 0 (if kind = 0 then RAW_WORDS.READ_WORD else RAW_WORDS.WRITE_WORD) ∧
      stored ≠ 0 ∧ word ≠ 0) ∧
    (∃ s : State, ∃ h : Hdr, ∃ x : Ctx, ∃ offset len, Served s h rawReadSpec x ∧ s.drained ∧ ((s.chip.ses x.si).rawRead = true ∨ (s.chip.ses
      x.si).rawWrite = true) ∧ 1 ≤ len ∧ len ≤ 1000 ∧ offset + len ≤ shadowSize ∧ h.prsv = 0) ∧
    (∃ s : State, ∃ h : Hdr, ∃ x : Ctx, ∃ offset len, ∃ data : List Nat, Served s h rawWriteSpec x ∧ s.drained ∧ h.len = 8 + len ∧ data.length = len
      ∧ (s.chip.ses x.si).rawWrite = true ∧ 0x1A500 ≤ offset ∧ 1 ≤ len ∧ len ≤ 1000 ∧ offset + len ≤ 0x1AD00 ∧ h.prsv = 0) ∧
    (∃ s : State, ∃ h : Hdr, ∃ x : Ctx, ∃ k, Served s h shadowInitSpec x ∧ s.drained ∧ h.prsv = 0 ∧ s.chip.ststate = ssBlank ∧ s.chip.level = lvFull
      ∧ s.chip.held = false ∧ s.chip.bstate s.chip.spareBank = bkBlank ∧ s.chip.freeHandle x.si = some k) :=
  ⟨⟨base, hd 4, cx (hd 4), 0, served_of (by decide +kernel), by decide +kernel, by decide +kernel, by decide +kernel⟩,
   ⟨put RAW_WORDS 0 [(RAW_WORDS.WRITE_WORD, 5)] svc, sh 12, sx (sh 12), 1, 4, (put RAW_WORDS 0 [(RAW_WORDS.WRITE_WORD, 5)] svc).chip.getF RAW_WORDS
      0 (if 1 = 0 then RAW_WORDS.READ_WORD else RAW_WORDS.WRITE_WORD), served_of (by decide +kernel), by decide +kernel, by decide +kernel, by
      decide +kernel, by decide +kernel, by decide +kernel, by decide +kernel⟩,
   ⟨svr, sh 8, sx (sh 8), 130072, 1000, served_of (by decide +kernel), rfl, by decide +kernel, by decide +kernel, by decide +kernel, by
      decide +kernel, by decide +kernel⟩,
   ⟨svr, sh 9, sx (sh 9), 0x1ACFF, 1, [255], served_of (by decide +kernel), rfl, by decide +kernel, by decide +kernel, by decide +kernel, by
      decide +kernel, by decide +kernel, by decide +kernel, by decide +kernel, by decide +kernel⟩,
   ⟨put STORE_STATUS 0 [(STORE_STATUS.STSTATE, 1)] svc, sh 16, sx (sh 16), 0, served_of (by decide +kernel), rfl, by decide +kernel, by
      decide +kernel, by decide +kernel, by decide +kernel, by decide +kernel, by decide +kernel⟩⟩

/-- A state and operands for each clause of `SuppliesAct`. -/
theorem witness_SuppliesAct :
    (∃ s : State, ∃ code, ∃ entered : Bool, ∃ dv, code < 5 ∧ s.chip.vbusIn code ≠ entered ∧ vbusTest code entered dv = true) ∧
    (∃ s : State, ∃ v, s.chip.railState = rlStarting ∧ 970 * s.chip.railF HOLD_RAIL_CFG.V_HOLD ≤ 100 * v ∧ 100 * v ≤ 1030 * s.chip.railF
      HOLD_RAIL_CFG.V_HOLD) ∧
    (∃ s : State, s.chip.railState = rlStarting ∧ s.chip.passedMs s.chip.boot.railAt 20 = true) ∧
    (∃ s : State, ∃ v, s.chip.railState = rlRunning ∧ 10 * v < 85 * s.chip.railF HOLD_RAIL_CFG.V_HOLD) ∧
    (∃ s : State, ∃ v, s.chip.railState = rlRunning ∧ 110 * s.chip.railF HOLD_RAIL_CFG.V_HOLD < 10 * v) ∧
    (∃ s : State, s.chip.railState = rlStopped ∧ (s.chip.railCause = rcUnder ∨ s.chip.railCause = rcStart) ∧ s.chip.boot.railLatched = false ∧
      s.chip.passedS s.chip.boot.railAt 1 = true ∧ lvLimited ≤ s.chip.level ∧ s.chip.getB HOLD_RAIL_CFG 0 HOLD_RAIL_CFG.EN = true ∧
      s.chip.boot.vbusOv = false ∧ s.chip.railHot = false ∧ 2 ≤ phaseCount s.chip.goodPhases) ∧
    (∃ s : State, ∃ p, s.chip.offsetPhase = some p ∧ s.chip.railState = rlRunning ∧ s.chip.goodPhases.testBit p = true) ∧
    (∃ s : State, ∃ p ma mean duty, p < 4 ∧ s.chip.railState = rlRunning ∧ s.chip.goodPhases.testBit p = true ∧ 10 * ma < mean ∧ 100 ≤ mean ∧ 50 <
      duty) ∧
    (∃ s : State, ∃ p own arrayB, p < 4 ∧ s.chip.railState = rlRunning ∧ s.chip.goodPhases.testBit p = true ∧ s.chip.noSense = false ∧ (own + 400 <
      arrayB ∨ arrayB + 400 < own)) ∧
    (∃ s : State, ∃ h : Hdr, ∃ x : Ctx, ∃ i ver img, Served s h setRecordSpec x ∧ x.who.estateOnly = true ∧ WriteFits s.chip h HOLD_RAIL_CFG i ver
      img ∧ 2 ≤ phaseCount (HOLD_RAIL_CFG.PHASE_EN.get img) ∧ s.chip.tokensHeld = false) ∧
    (∃ s : State, ∃ k fails, k < 4 ∧ fails < 3 ∧ s.chip.avsRuns = true ∧ s.chip.boot.firstRaise = false ∧ s.chip.avsFault = false ∧
      s.chip.wantsRelock k = true ∧ s.chip.rises k = true ∧ k ∉ s.chip.boot.raising) ∧
    (∃ s : State, ∃ mv us fails, fails < 3 ∧ s.chip.avsRuns = true ∧ s.chip.boot.raising ≠ [] ∧ s.chip.supplyF SUPPLY_STATUS.VCORE_TARGET ≤ mv + 10 ∧
      s.chip.getF AVS_CFG 0 AVS_CFG.SETTLE_US ≤ us) ∧
    (∃ s : State, ∃ k, k < 4 ∧ s.chip.wantsRelock k = true ∧ ((s.chip.rises k = true ∧ s.chip.avsFault = false ∧ s.chip.boot.raising = [] ∧
      (s.chip.boot.firstRaise = true ∨ coreBase (s.chip.ter k).target ≤ s.chip.baseNow)) ∨ (s.chip.rises k = false ∧ s.chip.mayLower k = true))) ∧
    (∃ s : State, ∃ k, k < 4 ∧ s.chip.getB TERRACE_STATUS k TERRACE_STATUS.RELOCKING = true ∧ (s.chip.ter k).lockedAt = none) ∧
    (∃ s : State, ∃ k, k < 4 ∧ s.chip.getB TERRACE_STATUS k TERRACE_STATUS.RELOCKING = true ∧ (s.chip.ter k).lockedAt.isSome = true ∧ (s.chip.ter
      k).relockTo < 256) ∧
    (∃ s : State, ∃ k, k < 4 ∧ s.chip.tstate k ≤ tsResetting ∧ s.chip.getB TERRACE_STATUS k TERRACE_STATUS.RELOCKING = false) ∧
    (∃ s : State, s.chip.getB SUPPLY_STATUS 0 SUPPLY_STATUS.PLLB_LOCK = true) ∧
    (∃ s : State, s.chip.getB SUPPLY_STATUS 0 SUPPLY_STATUS.PLLA_LOCK = true) ∧
    (∃ s : State, s.chip.boot.enCore = true ∧ s.chip.getB SUPPLY_STATUS 0 SUPPLY_STATUS.REF_XTAL = true ∧ s.chip.getB SUPPLY_STATUS 0
      SUPPLY_STATUS.PLLA_LOCK = true) ∧
    (∃ s : State, s.chip.boot.vaon = true ∧ s.chip.boot.refRun = true ∧ s.chip.level ≠ lvNone) ∧
    (∃ s : State, ∃ h : Hdr, ∃ x : Ctx, ∃ mask bad, Served s h buckRestoreSpec x ∧ h.prsv = 0 ∧ 1 ≤ mask ∧ mask ≤ 15 ∧ bad &&& 15 = 0 ∧ (mask &&&
      s.chip.getF BUCK_STATUS 0 BUCK_STATUS.RETIRED ≠ 0 ∨ s.chip.boot.railLatched = true)) :=
  ⟨⟨base, 4, true, 601, by decide +kernel, by decide +kernel, by decide +kernel⟩,
   ⟨put BUCK_STATUS 0 [(BUCK_STATUS.RAIL_STATE, 1)] base, 97 * base.chip.railF HOLD_RAIL_CFG.V_HOLD / 10, by decide +kernel, by decide +kernel, by
      decide +kernel⟩,
   ⟨{ (put BUCK_STATUS 0 [(BUCK_STATUS.RAIL_STATE, 1)] base) with chip.time.up := 656 }, by decide +kernel, by decide +kernel⟩,
   ⟨put BUCK_STATUS 0 [(BUCK_STATUS.RAIL_STATE, 2)] base, 0, by decide +kernel, by decide +kernel⟩,
   ⟨put BUCK_STATUS 0 [(BUCK_STATUS.RAIL_STATE, 2)] base, 65535, by decide +kernel, by decide +kernel⟩,
   ⟨{ (put BUCK_STATUS 0 [(BUCK_STATUS.RAIL_STATE, 3), (BUCK_STATUS.STOP_CAUSE, 6)] base) with chip.time.up := 32768 }, by decide +kernel, by
      decide +kernel, by decide +kernel, by decide +kernel, by decide +kernel, by decide +kernel, by decide +kernel, by decide +kernel, by
      decide +kernel⟩,
   ⟨{ (put BUCK_STATUS 0 [(BUCK_STATUS.RAIL_STATE, 2), (BUCK_STATUS.IN_SERVICE, 8)] base) with chip.boot.offsetRun := [(3, 2)] }, 3, by
      decide +kernel, by decide +kernel, by decide +kernel⟩,
   ⟨put BUCK_STATUS 0 [(BUCK_STATUS.RAIL_STATE, 2)] base, 3, 9, 100, 51, by decide +kernel, by decide +kernel, by decide +kernel, by decide +kernel,
      by decide +kernel, by decide +kernel⟩,
   
      ⟨{ (put BUCK_STATUS 0 [(BUCK_STATUS.RAIL_STATE, 2)] (put ARRAY_STATUS 1 [(ARRAY_STATUS.ASTATE, 2)] base)) with chip.boot.disagreeRun := [(3, 9)] },
      3, 0, 401, by decide +kernel, by decide +kernel, by decide +kernel, by decide +kernel, by decide +kernel⟩,
   ⟨base, hd (8 + HOLD_RAIL_CFG.len), cx (hd (8 + HOLD_RAIL_CFG.len)), 0, 0xFFFFFFFF, base.chip.img HOLD_RAIL_CFG 0, served_of (by decide +kernel),
      by decide +kernel, by unfold WriteFits; decide +kernel, by decide +kernel, by decide +kernel⟩,
   ⟨put TERRACE_STATUS 3 [(TERRACE_STATUS.TSTATE, 0), (TERRACE_STATUS.CLK_MHZ, 25)] ({ base with chip.zones.terrace := [(3, { target := 50 })] }),
      3, 2, by decide +kernel, by decide +kernel, by decide +kernel, by decide +kernel, by decide +kernel, by decide +kernel, by decide +kernel,
      by decide +kernel⟩,
   ⟨{ base with chip.boot.raising := [3] }, 900, 1000000, 2, by decide +kernel, by decide +kernel, by decide +kernel, by decide +kernel, by
      decide +kernel⟩,
   ⟨put TERRACE_STATUS 3 [(TERRACE_STATUS.TSTATE, 0), (TERRACE_STATUS.CLK_MHZ, 50)] ({ base with chip.zones.terrace := [(3, { target := 25 })] }),
      3, by decide +kernel, by decide +kernel, by decide +kernel⟩,
   ⟨put TERRACE_STATUS 3 [(TERRACE_STATUS.RELOCKING, 1)] base, 3, by decide +kernel, by decide +kernel, by decide +kernel⟩,
   ⟨{ (put TERRACE_STATUS 3 [(TERRACE_STATUS.RELOCKING, 1)] base) with chip.zones.terrace := [(3, { lockedAt := some 0, relockTo := 200 })] }, 3, by
      decide +kernel, by decide +kernel, by decide +kernel, by decide +kernel⟩,
   ⟨put TERRACE_STATUS 3 [(TERRACE_STATUS.TSTATE, 0)] base, 3, by decide +kernel, by decide +kernel, by decide +kernel⟩,
   ⟨base, by decide +kernel⟩,
   ⟨base, by decide +kernel⟩,
   ⟨base, by decide +kernel, by decide +kernel, by decide +kernel⟩,
   ⟨base, by decide +kernel, by decide +kernel, by decide +kernel⟩,
   ⟨put BUCK_STATUS 0 [(BUCK_STATUS.RETIRED, 8)] base, hd 4, cx (hd 4), 15, 0, served_of (by decide +kernel), by decide +kernel, by decide +kernel,
      by decide +kernel, by decide +kernel, by decide +kernel⟩⟩

/-- A state and operands for each clause of `StartUpRuns`. -/
theorem witness_StartUpRuns :
    (∃ s : State, s.chip.boot.vaon = false) ∧
    (∃ s : State, s.chip.boot.vaon = true ∧ s.chip.level = lvNone ∧ s.chip.allClassed = true ∧ s.chip.boot.vbusBelow = false) ∧
    (∃ s : State, s.chip.boot.vaon = true ∧ s.chip.boot.xtalMay = true ∧ s.chip.getB SUPPLY_STATUS 0 SUPPLY_STATUS.REF_XTAL = false) ∧
    (∃ s : State, s.chip.boot.vaon = true ∧ (s.chip.boot.refRun = false ∨ s.chip.getB SUPPLY_STATUS 0 SUPPLY_STATUS.REF_XTAL = true)) ∧
    (∃ s : State, s.chip.coreMay = true) ∧
    (∃ s : State, s.chip.boot.enCore = true ∧ (s.chip.bootStep = 4 ∨ s.chip.bootStep = 5) ∧ s.chip.boot.resetLow = false ∧ s.chip.boot.pfHalt =
      false) ∧
    (∃ s : State, s.chip.boot.enCore = true ∧ s.chip.getB SUPPLY_STATUS 0 SUPPLY_STATUS.PLLA_LOCK = false ∧ (s.chip.getB SUPPLY_STATUS 0
      SUPPLY_STATUS.PG_CORE = true ∨ s.chip.passedMs s.chip.boot.enCoreSince 10 = true)) ∧
    (∃ s : State, ∃ n, s.drained ∧ s.chip.bootStep = 6 ∧ s.chip.ststate = ssLoading ∧ s.chip.getB SUPPLY_STATUS 0 SUPPLY_STATUS.PLLA_LOCK = true ∧ (∀
      b, b < 2 → s.chip.openIntent b = false ∧ s.chip.bstate b = bkCommitted) ∧ n = (if s.chip.getF BANK_INFO 0 BANK_INFO.SEQ < s.chip.getF
      BANK_INFO 1 BANK_INFO.SEQ then 1 else 0)) ∧
    (∃ s : State, s.drained ∧ s.chip.bootStep = 6 ∧ s.chip.ststate = ssLoading ∧ s.chip.getB SUPPLY_STATUS 0 SUPPLY_STATUS.PLLA_LOCK = true ∧ (∀ b, b
      < 2 → s.chip.openIntent b = false ∧ s.chip.bstate b ≠ bkCommitted)) ∧
    (∃ s : State, s.chip.bootStep = 6 ∧ s.chip.boot.gateTested = false ∧ s.chip.boot.gateTries < 2) ∧
    (∃ s : State, s.chip.bootStep = 7 ∧ (s.chip.lifecycle = lcField ∨ s.chip.lifecycle = lcUnlocked) ∧ s.chip.boot.resetLow = false) ∧
    (∃ s : State, s.chip.bootStep = 8 ∧ s.chip.aonF AON_STATUS.FW_OUTCOME ≠ 6 ∧ s.chip.boot.resetLow = false ∧ s.chip.boot.kfwTries < 2) ∧
    (∃ s : State, s.chip.bootStep = 8 ∧ s.chip.aonF AON_STATUS.FW_OUTCOME ≠ 6 ∧ s.chip.boot.resetLow = false ∧ s.chip.boot.kfwTries = 0) ∧
    (∃ s : State, ∃ fails : Nat, ∃ k₀, s.chip.bootStep = 9 ∧ s.chip.level = lvSurvival ∧ lvLimited ≤ s.chip.supported ∧ k₀ < 4 ∧ s.chip.tstate k₀ ≠
      tsOutOfService ∧ fails.testBit k₀ = false) ∧
    (∃ s : State, s.chip.bootStep = 10 ∧ s.chip.level = lvLimited) :=
  ⟨⟨State.reset, by decide +kernel⟩,
   ⟨{ base with chip.boot.below := true }, by decide +kernel, by decide +kernel, by decide +kernel, by decide +kernel⟩,
   ⟨put SUPPLY_STATUS 0 [(SUPPLY_STATUS.REF_XTAL, 0)] ({ base with chip.boot.xtalMay := true }), by decide +kernel, by decide +kernel, by
      decide +kernel⟩,
   ⟨base, by decide +kernel, by decide +kernel⟩,
   ⟨{ (put AON_STATUS 0 [(AON_STATUS.TIER, 1)] base) with chip.boot.enCore := false }, by decide +kernel⟩,
   ⟨put AON_STATUS 0 [(AON_STATUS.TIER, 1), (AON_STATUS.BOOT_STEP, 5)] base, by decide +kernel, by decide +kernel, by decide +kernel, by
      decide +kernel⟩,
   ⟨put SUPPLY_STATUS 0 [(SUPPLY_STATUS.PLLA_LOCK, 0)] base, by decide +kernel, by decide +kernel, by decide +kernel⟩,
   ⟨put BANK_INFO 1 [(BANK_INFO.BSTATE, 1), (BANK_INFO.SEQ, 2)] (put BANK_INFO 0 [(BANK_INFO.BSTATE, 1), (BANK_INFO.SEQ, 1)] (put STORE_STATUS 0
      [(STORE_STATUS.STSTATE, 0)] (put AON_STATUS 0 [(AON_STATUS.TIER, 1), (AON_STATUS.BOOT_STEP, 6)] base))), (if (put BANK_INFO 1
      [(BANK_INFO.BSTATE, 1), (BANK_INFO.SEQ, 2)] (put BANK_INFO 0 [(BANK_INFO.BSTATE, 1), (BANK_INFO.SEQ, 1)] (put STORE_STATUS 0
      [(STORE_STATUS.STSTATE, 0)] (put AON_STATUS 0 [(AON_STATUS.TIER, 1), (AON_STATUS.BOOT_STEP, 6)] base)))).chip.getF BANK_INFO 0
      BANK_INFO.SEQ < (put BANK_INFO 1 [(BANK_INFO.BSTATE, 1), (BANK_INFO.SEQ, 2)] (put BANK_INFO 0 [(BANK_INFO.BSTATE, 1), (BANK_INFO.SEQ, 1)]
      (put STORE_STATUS 0 [(STORE_STATUS.STSTATE, 0)] (put AON_STATUS 0 [(AON_STATUS.TIER, 1), (AON_STATUS.BOOT_STEP, 6)] base)))).chip.getF
      BANK_INFO 1 BANK_INFO.SEQ then 1 else 0), rfl, by decide +kernel, by decide +kernel, by decide +kernel, by decide +kernel, by
      decide +kernel⟩,
   ⟨put BANK_INFO 0 [(BANK_INFO.BSTATE, 0)] (put STORE_STATUS 0 [(STORE_STATUS.STSTATE, 0)] (put AON_STATUS 0 [(AON_STATUS.TIER, 1),
      (AON_STATUS.BOOT_STEP, 6)] base)), rfl, by decide +kernel, by decide +kernel, by decide +kernel, by decide +kernel⟩,
   ⟨{ (put AON_STATUS 0 [(AON_STATUS.TIER, 1), (AON_STATUS.BOOT_STEP, 6)] base) with chip.boot.gateTested := false }, by decide +kernel, by
      decide +kernel, by decide +kernel⟩,
   ⟨put AON_STATUS 0 [(AON_STATUS.TIER, 1), (AON_STATUS.BOOT_STEP, 7)] base, by decide +kernel, by decide +kernel, by decide +kernel⟩,
   ⟨put AON_STATUS 0 [(AON_STATUS.TIER, 1), (AON_STATUS.BOOT_STEP, 8)] base, by decide +kernel, by decide +kernel, by decide +kernel, by
      decide +kernel⟩,
   ⟨put AON_STATUS 0 [(AON_STATUS.TIER, 1), (AON_STATUS.BOOT_STEP, 8)] base, by decide +kernel, by decide +kernel, by decide +kernel, by
      decide +kernel⟩,
   ⟨put AON_STATUS 0 [(AON_STATUS.TIER, 1), (AON_STATUS.BOOT_STEP, 9)] base, 7, 3, by decide +kernel, by decide +kernel, by decide +kernel, by
      decide +kernel, by decide +kernel, by decide +kernel⟩,
   ⟨put AON_STATUS 0 [(AON_STATUS.TIER, 2), (AON_STATUS.BOOT_STEP, 10)] base, by decide +kernel, by decide +kernel⟩⟩

/-- A state and operands for each clause of `TiersAndResetsAct`. -/
theorem witness_TiersAndResetsAct :
    (∃ s : State, ∃ mask, s.chip.level < (s.chip.markUnits mask true).supported ∧ 10 ≤ s.chip.bootStep) ∧
    (∃ s : State, s.chip.boot.keeper = true ∧ s.chip.recentRestarts = [] ∧ s.chip.boot.hold = none ∧ lvLimited ≤ s.chip.level ∧ s.chip.level ≤
      s.chip.supported) ∧
    (∃ s : State, s.chip.boot.keeper = false ∧ 9 ≤ s.chip.bootStep ∧ (∀ y, s.chip.boot.hold = some y → y.unit = 0)) ∧
    (∃ s : State, s.chip.boot.gatehouse = true ∧ s.chip.recentRestarts = [] ∧ s.chip.boot.hold = none ∧ lvLimited ≤ s.chip.level ∧ s.chip.level ≤
      s.chip.supported) ∧
    (∃ s : State, s.chip.boot.gatehouse = false ∧ 9 ≤ s.chip.bootStep ∧ (∀ y, s.chip.boot.hold = some y → y.unit = 1)) ∧
    (∃ s : State, ∃ y, s.chip.boot.hold = some y ∧ s.chip.passedS y.since 2 = true) ∧
    (∃ s : State, ∃ cause, s.chip.boot.vaon = true ∧ cause ∈ [0, 3, 4, 5, 14, 16]) ∧
    (∃ s : State, s.chip.getB SUPPLY_STATUS 0 SUPPLY_STATUS.PG_CORE = true) ∧
    (∃ s : State, ∃ rail, rail < 2 ∧ s.chip.boot.enCore = true) ∧
    (∃ s : State, ∃ rail, rail < 2 ∧ (if rail = 0 then s.chip.boot.vioGood else s.chip.boot.vddaGood) = true) ∧
    (∃ s : State, s.chip.boot.vaon = true ∧ s.chip.boot.pfHalt = true ∧ s.chip.boot.vbusPf = false) ∧
    (∃ s : State, s.chip.boot.vaon = true ∧ s.chip.boot.resetStuck = false ∧ s.chip.boot.resetLow = false) ∧
    (∃ s : State, s.chip.boot.vaon = true ∧ s.chip.boot.resetStuck = false ∧ s.chip.boot.resetLow = true) ∧
    (∃ s : State, s.chip.boot.resetLow = true ∧ s.chip.passedS s.chip.boot.resetSince 30 = true) ∧
    (∃ s : State, s.chip.boot.resetStuck = true) :=
  ⟨⟨put AON_STATUS 0 [(AON_STATUS.TIER, 2)] base, 0, by decide +kernel, by decide +kernel⟩,
   ⟨base, by decide +kernel, by decide +kernel, by decide +kernel, by decide +kernel, by decide +kernel⟩,
   ⟨{ { base with chip.boot.keeper := false } with chip.boot.hold := some ⟨0, 0, 0⟩ }, by decide +kernel, by decide +kernel, hold_ok rfl⟩,
   ⟨base, by decide +kernel, by decide +kernel, by decide +kernel, by decide +kernel, by decide +kernel⟩,
   ⟨{ { base with chip.boot.gatehouse := false } with chip.boot.hold := some ⟨1, 0, 0⟩ }, by decide +kernel, by decide +kernel, hold_ok rfl⟩,
   ⟨{ { base with chip.boot.hold := some ⟨1, 0, 0⟩ } with chip.time.up := 65536 }, ⟨1, 0, 0⟩, by decide +kernel, by decide +kernel⟩,
   ⟨base, 16, by decide +kernel, by decide +kernel⟩,
   ⟨base, by decide +kernel⟩,
   ⟨base, 1, by decide +kernel, by decide +kernel⟩,
   ⟨base, 0, by decide +kernel, by decide +kernel⟩,
   ⟨{ base with chip.boot.pfHalt := true }, by decide +kernel, by decide +kernel, by decide +kernel⟩,
   ⟨base, by decide +kernel, by decide +kernel, by decide +kernel⟩,
   ⟨{ base with chip.boot.resetLow := true }, by decide +kernel, by decide +kernel, by decide +kernel⟩,
   ⟨{ { base with chip.boot.resetLow := true } with chip.time.up := 983040 }, by decide +kernel, by decide +kernel⟩,
   ⟨{ base with chip.boot.resetStuck := true }, by decide +kernel⟩⟩

/-- A state and operands for each clause of `SnapshotsAndFirmwareAct`. -/
theorem witness_SnapshotsAndFirmwareAct :
    (∃ s : State, s.chip.getB SNAP_CFG 0 SNAP_CFG.SNAP_IN_EN = true ∧ lvLimited ≤ s.chip.level ∧ s.chip.now ≤ rtcEnd) ∧
    (∃ s : State, ∃ h : Hdr, ∃ x : Ctx, Served s h (snapSpec 0x0F00 [1, 2]) x ∧ h.prsv = 0 ∧ lvLimited ≤ s.chip.level ∧ s.chip.now ≤ rtcEnd ∧
      s.chip.getB SNAP_STATUS 0 SNAP_STATUS.SNAP_STATE = false) ∧
    (∃ s : State, ∃ h : Hdr, ∃ x : Ctx, Served s h (snapSpec 0x0F02 [2]) x ∧ h.prsv = 0) ∧
    (∃ s : State, ∃ h : Hdr, ∃ x : Ctx, ∃ image length k, Served s h (fwSpec 0x0F10 fwWho 2 (fun n => n == 8)) x ∧ h.prsv = 0 ∧ image ≤ 2 ∧ 320 ≤
      length ∧ length ≤ slotSize image ∧ (s.chip.getF FW_STATUS 0 FW_STATUS.STAGING = 0xFF ∨ s.chip.getF FW_STATUS 0 FW_STATUS.STAGING = image) ∧
      s.chip.freeHandle x.si = some k) ∧
    (∃ s : State, ∃ image y, image ≤ 2 ∧ s.chip.getF FW_STATUS 0 FW_STATUS.STAGING = image ∧ s.chip.slot (fwInst image (s.chip.stageSlot image)) = y
      ∧ y.staging = true ∧ y.erased = false) ∧
    (∃ s : State, ∃ h : Hdr, ∃ x : Ctx, ∃ image offset, ∃ data : List Nat, ∃ y, Served s h (fwSpec 0x0F11 fwWho 3 (fun n => decide (9 ≤ n))) x ∧
      h.prsv = 0 ∧ image ≤ 2 ∧ s.chip.stageLive image = true ∧ s.chip.stageBad image offset data.length = false ∧ s.chip.slot (fwInst image
      (s.chip.stageSlot image)) = y ∧ written y.ranges offset data.length = false) ∧
    (∃ s : State, ∃ h : Hdr, ∃ x : Ctx, ∃ image y n, Served s h (fwSpec 0x0F12 fwWho 2 (fun n => n == 4)) x ∧ h.prsv = 0 ∧ image ≤ 2 ∧
      s.chip.stageLive image = true ∧ s.chip.slot (fwInst image (s.chip.stageSlot image)) = y ∧ s.chip.freeHandle x.si = some n) ∧
    (∃ s : State, ∃ h : Hdr, ∃ x : Ctx, ∃ mask, Served s h (fwSpec 0x0F13 Who.estateOnly 2 (fun n => n == 4)) x ∧ h.prsv = 0 ∧ 1 ≤ mask ∧ mask ≤ 15 ∧
      (∀ i, i < 3 → mask.testBit i = true → s.chip.getF FW_SLOT (fwInst i (1 - s.chip.activeSlot i)) FW_SLOT.STATE = 1)) ∧
    (∃ s : State, ∃ h : Hdr, ∃ x : Ctx, ∃ sig key, Served s h (fwSpec 0x0F14 Who.estateOnly 2 (fun n => n == 80)) x ∧ h.prsv = 0 ∧ key = s.chip.getF
      CRED_ESTATE (s.chip.ses x.si).index CRED_ESTATE.PUBKEY ∧ Sig.verifies sig key = true) ∧
    (∃ s : State, s.chip.boot.keeper = true ∧ s.chip.boot.bundleDirty.isSome = true) ∧
    (∃ s : State, s.chip.boot.keeper = true ∧ s.chip.boot.bundleDirty.isSome = true) :=
  ⟨⟨put SNAP_CFG 0 [(SNAP_CFG.SNAP_IN_EN, 1)] base, by decide +kernel, by decide +kernel, by decide +kernel⟩,
   ⟨base, hd 4, cx (hd 4), served_of (by decide +kernel), by decide +kernel, by decide +kernel, by decide +kernel, by decide +kernel⟩,
   ⟨base, hd 4, cx (hd 4), served_of (by decide +kernel), by decide +kernel⟩,
   ⟨put FW_STATUS 0 [(FW_STATUS.STAGING, 0xFF)] base, hd 8, cx (hd 8), 2, 0x80000, 0, served_of (by decide +kernel), by decide +kernel, by
      decide +kernel, by decide +kernel, by decide +kernel, by decide +kernel, by decide +kernel⟩,
   ⟨stg false, 2, (stg false).chip.slot (fwInst 2 ((stg false).chip.stageSlot 2)), by decide +kernel, by decide +kernel, by decide +kernel, by
      decide +kernel, by decide +kernel⟩,
   ⟨stg true, hd (8 + 256) 3, cx (hd (8 + 256) 3), 2, 0, List.replicate 256 1, (stg true).chip.slot (fwInst 2 ((stg true).chip.stageSlot 2)),
      served_of (by decide +kernel), by decide +kernel, by decide +kernel, by decide +kernel, by decide +kernel, by decide +kernel, by
      decide +kernel⟩,
   ⟨stg true, hd 4, cx (hd 4), 2, (stg true).chip.slot (fwInst 2 ((stg true).chip.stageSlot 2)), 0, served_of (by decide +kernel), by
      decide +kernel, by decide +kernel, by decide +kernel, by decide +kernel, by decide +kernel⟩,
   ⟨put FW_SLOT 1 [(FW_SLOT.STATE, 1)] base, hd 4, cx (hd 4), 9, served_of (by decide +kernel), by decide +kernel, by decide +kernel, by
      decide +kernel, by decide +kernel⟩,
   ⟨base, hd 80, cx (hd 80), ⟨0, true, 0⟩, base.chip.getF CRED_ESTATE (base.chip.ses (cx (hd 80)).si).index CRED_ESTATE.PUBKEY, served_of (by
      decide +kernel), by decide +kernel, by decide +kernel, by decide +kernel⟩,
   ⟨{ base with chip.boot.bundleDirty := some 0 }, by decide +kernel, by decide +kernel⟩,
   ⟨{ base with chip.boot.bundleDirty := some 0 }, by decide +kernel, by decide +kernel⟩⟩

/-- A state and operands for each clause of `SequenceNumbersSpent`. -/
theorem witness_SequenceNumbersSpent :
    (∃ y n, seqRefused y n = false) ∧
    (∃ s : State, ∃ h : Hdr, ∃ i, s.chip.listening h.ep = true ∧ h.session ≠ 0 ∧ i = h.session % 128 ∧ (s.chip.ses i).isOpen = true ∧ (s.chip.ses
      i).gen = h.session / 128 ∧ (s.chip.ses i).ep = h.ep ∧ h.authentic = true) :=
  ⟨⟨{ high := 100, window := [100] }, 99, by decide +kernel⟩,
   ⟨base, hd 8, (hd 8).session % 128, by decide +kernel, by decide +kernel, by decide +kernel, by decide +kernel, by decide +kernel, by
      decide +kernel, by decide +kernel⟩⟩

/-! ## The statements about every step -/

def isNext : Host.Outcome State Fault Refusal → Bool
  | .next _ => true
  | _ => false

def nextOr (s : State) : Host.Outcome State Fault Refusal → State
  | .next t => t
  | _ => s

theorem next_of {s : State} (h : isNext (step s) = true) : step s = .next (nextOr s (step s)) := by
  revert h
  cases step s <;> simp [isNext, nextOr]

/-- A state with a command waiting, two bytes in the shadow SRAM, and the forced-off line of a valve channel asserted by a stop. -/
def busy : State :=
  let s := put CH_CFG 17 [(CH_CFG.KIND, ckValve)] <| put FB_FUNC_CFG 0 [(FB_FUNC_CFG.CUT_MASK, 2 ^ 17)] <| put FB_STATUS 0 [(FB_STATUS.FUNC_STATE 0, 1)] base
  { s with pending := [.ping (hd 8) [1, 2, 3, 4, 5, 6, 7, 8], .heldEventRelease], mem := { s.mem with sram := [(5, 3), (0x1FFFF, 255)] } }

theorem witness_StepKeepsMemory : ∃ s t, s.memoryOk ∧ step s = .next t :=
  ⟨busy, _, (by decide +kernel : busy.mem.wf = true), next_of (by decide +kernel)⟩
theorem witness_StepOutputsPermitted : ∃ s t, step s = .next t := ⟨busy, _, next_of (by decide +kernel)⟩
theorem witness_StepFaultLine : ∃ s t, step s = .next t ∧ s.chip.boot.vaon = true := ⟨busy, _, next_of (by decide +kernel), by decide +kernel⟩
theorem witness_StepCutsForced : ∃ s t, step s = .next t ∧ s.chip.chKind 17 = ckValve := ⟨busy, _, next_of (by decide +kernel), by decide +kernel⟩

/-! ## Ill-formed commands, one for each check -/

theorem test_wf_header : (Instr.ping { ep := 18 } []).wf = false := by decide
theorem test_wf_width : (Instr.keyStuck 300 0).wf = false := by decide
theorem test_wf_sig : (Instr.epochSign (hd 72) 0 0 ⟨2 ^ 512, true, 0⟩).wf = false := by decide +kernel
theorem test_wf_image : (Instr.privacyCfgWrite (hd 12) 0 0 (2 ^ 32)).wf = false := by decide +kernel
theorem test_wf_bytes : (Instr.ping (hd 2) [0, 256]).wf = false := by decide
theorem test_wf_entries : (Instr.feederReport (hd 8) [(0, 0x10000, 0)]).wf = false := by decide +kernel
theorem test_wf_unit : (Instr.valveCycleEnd 96).wf = false := by decide
theorem test_wf_ping : (Instr.ping (hd 2) [0, 255]).wf = true := by decide

/-! ## The machine after reset -/

theorem test_reset_memory : State.reset.mem.wf = true := by decide +kernel
theorem test_reset_queue : State.reset.pending = [] := rfl
/-- R39: no service below the Firebreak tier. -/
theorem test_reset_level : State.reset.chip.level = lvNone := by decide +kernel

/-! ## Examples of the spec -/

/-- The example after R402: meter 4 books 18 700 mWh to plot 23, plot 41 and the estate (Table 13.3). -/
def exAcc : List (Nat × Nat) := [(8 * 23 + 1, 1620000), (8 * 41 + 1, 300000), (8 * 256 + 1, 320000)]
theorem test_booking_parts : (apportion exAcc [(23, 0x4000), (41, 0xE666)] 1 18700).parts = [(8 * 23 + 1, 13524), (8 * 41 + 1, 2505), (8 * 256 + 1, 2671)] := by
  decide +kernel
theorem test_booking_residues : (apportion exAcc [(23, 0x4000), (41, 0xE666)] 1 18700).res = [(23, 23405), (41, 23873)] := by decide +kernel

/-- The morning start of chapter 7: a coil of 240 Ω at 22 °C, V_HOLD 12 V. -/
def exCoil (vHold : Nat) : Chip :=
  (put HOLD_RAIL_CFG 0 [(HOLD_RAIL_CFG.V_HOLD, vHold)] <| put BUDGET_CFG 0 [(BUDGET_CFG.VBOOST_COST_V, 57)] <|
    put VALVE_TYPE 0 [(VALVE_TYPE.BOOST_MS, 100), (VALVE_TYPE.COIL_RES_20C, 2400), (VALVE_TYPE.COIL_TEMPCO, 3930)] base).chip.modChan 17
      (fun x => { x with coilT := 2200 * 65536 })
theorem test_pull_cost : (exCoil 120).pullCost 17 false = 136 := by decide +kernel
theorem test_hold_cost : (exCoil 120).holdCost 17 = 6 := by decide +kernel
/-- CH17 of chapter 8 at V_HOLD 24 V. -/
theorem test_hold_cost_24 : (exCoil 240).holdCost 17 = 24 := by decide +kernel
theorem test_econ_cost : econCost 24 = 12 := by decide

/-- The tick-table example after Table 4.7: periods of 1 s, 5 s and 15 s on local engine 9, window 120. -/
def exEntry (slot period phase : Nat) : Entry := { slot := slot, engine := 9, period := period, phase := phase, window := 120, planEn := false, rsv := 0 }
theorem test_phase_6_collides : collide (exEntry 44 2 2) (exEntry 45 4 6) = true := by decide +kernel
theorem test_phase_7_accepted : collide (exEntry 44 2 2) (exEntry 45 4 7) = false := by decide +kernel
theorem test_phase_45_accepted : collide (exEntry 45 4 7) (exEntry 46 6 45) = false := by decide +kernel

/-- AX05 of chapter 9: the targets of the demands 0x4000 and 0xA000 over a span of 60 000 counts. -/
theorem test_axis_target_15000 : roundN ((0x4000 : Int) * 60000) 65535 = 15000 := by decide +kernel
theorem test_axis_target_37501 : roundN ((0xA000 : Int) * 60000) 65535 = 37501 := by decide +kernel

/-- FG03 of chapter 10: one fan step of 100 from 26 184 enters the skip band and is held at its lower edge. -/
theorem test_skip_low : skipBand 0x6666 0x7FFF (rampTo 26184 30310 100) 26184 = (26214, true) := by decide +kernel
theorem test_skip_jump : skipBand 0x6666 0x7FFF (rampTo 32710 36045 100) 26214 = (32810, false) := by decide +kernel

/-- AIN05 of chapter 11: a linear input with `GAIN` 120.0 and `OFFSET` −20.0 at code 0x4A38. -/
theorem test_ain_linear : (put AIN_CFG 5 [(AIN_CFG.KIND, 1), (AIN_CFG.GAIN, 0x00780000), (AIN_CFG.OFFSET, 0xFFEC0000)] base).chip.ainValue 5 0x4A38 = 969280 := by
  decide +kernel

/-- The plan of zone 520 in chapter 6: the cool gains of its model under R210. -/
theorem test_cool_gains : (put MODEL_CFG 520 [(MODEL_CFG.CL_RATIO, 0x8000)] base).chip.targetGain 520 1
    [0, 16 * 65536, 0, 8100 * 65536, 1800 * 65536, 120 * 65536] = some (417, 9000) := by decide +kernel

/-- No row of the table has bits. -/
theorem test_no_word : decodeTableWord 32 5 = none := rfl

end Sys2Proof.Tests
end

section
/-!
PROOF. What every step does with the queue, and when a command answers: a step is `exec` of the front of the queue, no command touches
the rest of it, and a command is refused only when it names a unit that the part does not have, which a well-formed one never does.
-/

namespace Sys2Proof.Machine

/-! ## The queue -/

/-- A step of a state whose queue is `c :: l`. -/
theorem step_of_pending {s : State} {c : Instr} {l : List Instr} (h : s.pending = c :: l) :
    step s = exec c { s with pending := l } := by
  unfold step
  rw [h]

/-- No command adds, drops or reorders waiting commands. -/
theorem exec_pending {i : Instr} {s t : State} (h : exec i s = .next t) : t.pending = s.pending := by
  obtain ⟨c, rfl⟩ := exec_next h
  exact State.settle_pending _

/-- Settles O1: the queue of the state stepped is a cons, whose tail is the queue of `s`. -/
theorem stepRunsFront : Obligations.StepRunsFront := fun _ _ => step_of_pending rfl

/-- Settles O4: the step is `exec` of the front, which never faults and keeps the queue that it is given. The queue is the
model's own (log entry 6). -/
theorem queueInOrder : Obligations.QueueInOrder := by
  intro c l s t hq
  rw [step_of_pending hq]
  exact ⟨exec_no_fault c _, exec_pending⟩

/-! ## The units that a command names -/

/-- Every unit that a list of checks names is one the part has. A conjunct `v < count` stands for each unit, in the order of the list. -/
def UnitsPresent : List Check → Prop
  | [] => True
  | .unit v count :: l => v < count ∧ UnitsPresent l
  | _ :: l => UnitsPresent l

theorem unitsPresent_of_holds (l : List Check) (h : l.all Check.holds = true) : UnitsPresent l := by
  induction l with
  | nil => trivial
  | cons k l ih =>
    obtain ⟨hk, hl⟩ : k.holds = true ∧ l.all Check.holds = true := by simpa only [List.all_cons, Bool.and_eq_true] using h
    cases k with
    | unit v count => exact ⟨of_decide_eq_true hk, ih hl⟩
    | header | width | sig | image | bytes | entries => exact ih hl

/-- A well-formed command names only units that the part has. -/
theorem unitsPresent_of_wf {i : Instr} (h : i.wf = true) : UnitsPresent i.obeys := unitsPresent_of_holds _ h

/-! ## A command whose units are present runs -/

/-- The outcome is a next state. -/
def Runs (o : Host.Outcome State Fault Refusal) : Prop := ∃ t, o = .next t

/-- A meaning guarded by the unit that the command names. -/
theorem Runs.unit {v m : Nat} {t : State} (h : v < m ∧ True) : Runs (if v < m then .next t else .refused .noSuchUnit) :=
  ⟨t, if_pos h.1⟩

/-- A meaning guarded by the two units that the command names. -/
theorem Runs.units {v m w n : Nat} {t : State} (h : v < m ∧ w < n ∧ True) :
    Runs (if v < m ∧ w < n then .next t else .refused .noSuchUnit) := by
  obtain ⟨hv, hw, -⟩ := h
  exact ⟨t, if_pos ⟨hv, hw⟩⟩

/-- A command runs where the part has the units it names: each arm of `exec` guards its meaning by those units, or by nothing. -/
theorem exec_runs (i : Instr) (s : State) (h : UnitsPresent i.obeys) : Runs (exec i s) := by
  cases i with
  -- commands that name two units
  | eventTransmit | eccScrub | programStoreRepair | neighbourDrop | fightOffsetStep | encoderEdge | conversionComplete | keyStuck =>
    exact Runs.units h
  -- commands that name one
  | sessionIdleTimeout | fragmentTimeout | arpRequest | neighbourSolicitation | credentialWrite | enrolCodeExpiry | plotWipe
  | servicePinChange | windowPortPhase | zoneExecution | publishPoint | terraceWatchdog | terraceResetDone | pergolaFault
  | pergolaSelfTestDone | pergolaMigration | pergolaReturnHome | engineResetApply | tickTableValidated | tickTableCommitPoint
  | tickTableActive | zpEnd | zpMov | zpLdl | zpLdh | zpLdc | zpLdp | zpLds | zpSts | zpAdd | zpSub | zpMul | zpDiv | zpAddi | zpMuli
  | zpAbs | zpNeg | zpMin | zpMax | zpLim | zpClp01 | zpCmp | zpSel | zpSkip | zpSkipn | zpTblc | zpTblp | zpLpf | zpRate | zpHyst
  | zpTon | zpRdb | zpRdba | zpPfus | zpOcc | zpSched | zpPlan | zpRdsys | zpPi | zpApi | zpMff | zpAtun | zpRdn | zpPubt | zpDem | zpPst
  | zpAlm | zpMupd | zpMrd | programLoadResult | modelHeldTimeout | autoTuneStart | relayTestEnd | planIterationDeadline
  | planLateDeadline | planCommit | planExpiry | pdClassSample | valveCycleEnd | boostEnd | closureWatchSample | offStateDiagnostic
  | channelShortTrip | channelJunctionTrip | dieSumTrip | pkgOcClear | channelOvercurrent | channelOpenLoad | channelSenseLost
  | channelManualTimeout | sincosSample | indexEdge | encDirection | speedLoopUpdate | positionLoopUpdate | axisInPosition
  | driftCorrection | axisStall | stallRetry | axisMoveTimeout | homeTimeout | axisNoCurrent | axisSenseStale | axisManualTimeout
  | tachEdge | purgeDurationEnd | fanManualTimeout | arrayInjectedTrigger | arraySequenceEnd | selfCalibrationStart
  | selfCalibrationComplete | ainPublish | nudgeHoldExpiry | inputFilterExpiry | lineFaultExpiry | safetyReset | wardenKeyStuck
  | offPulseTest | soReadbackFault | safetyConfigCommit | statementExpiry | ptpAnnounce | announceTimeout | ptpSync | ptpFollowUp
  | ptpDelayResp | delayReqSend | vbusConditionChange | phaseOpenDetect | phaseDisagree | vcoreRaise | terraceRelockStart
  | terraceRelockLocked | terraceRelockReturn | pllLossOfLock | brownout | frameRefusal | ethernetLinkChange | minEdgeExpiry
  | shadowPageReload =>
    exact Runs.unit h
  -- every other command: its meaning is a next state as it stands
  | _ => exact ⟨_, rfl⟩

/-- Settles O3: the units of a well-formed command are present, and nothing but an absent unit keeps a command from running. -/
theorem wellFormedRuns : Obligations.WellFormedRuns := fun i s h => exec_runs i s (unitsPresent_of_wf h)

end Sys2Proof.Machine
end

section
/-!
PROOF. Two statements of the start-up and the tiers fail in one state: what Full service restores from the learning archive (R229) is
put into whatever records the archive names, so an archive that names `AON_STATUS` overwrites the tier and the step just reached. No run
from reset fills an archive so; the statements ask for every state.
-/

namespace Sys2Proof.Machine

/-- The one zone of the archive below: its only record image is one of `AON_STATUS`, all zero: tier FIREBREAK, step 0. -/
def aonArchZone : ArchZone := { owner := estateOwner, keyGen := 0, link := {}, model := {}, recs := [(recKey AON_STATUS 0, 0)] }

/-- Limited service at step 10 with every unit of Full service at work, and a valid archive that has not been restored since the core
came up. -/
def archivedTier : Chip :=
  let b : Boot := { vaon := true, below := false, vbusBelow := false, fbkOk := true, fbReady := true, refRun := true, slowDone := true }
  let c : Chip := { boot := { b with keeper := true, gatehouse := true },
                    zones := { archA := { valid := true, zones := [(0, aonArchZone)] } } }
  let c := c.upd AON_STATUS 0 [(AON_STATUS.TIER, tierCode lvLimited), (AON_STATUS.BOOT_STEP, 10), (AON_STATUS.FW_OUTCOME, 0)]
  let c := c.upd SUPPLY_STATUS 0 [(SUPPLY_STATUS.PG_CORE, 1), (SUPPLY_STATUS.PLLA_LOCK, 1), (SUPPLY_STATUS.PLLB_LOCK, 1),
    (SUPPLY_STATUS.REF_XTAL, 1)]
  c.upd STORE_STATUS 0 [(STORE_STATUS.LOADED_BANK, 0)]

/-- The state stands at step 10 in Limited service, and its units support Full service. -/
theorem archivedTier_ready :
    archivedTier.bootStep = 10 ∧ archivedTier.level = lvLimited ∧ (archivedTier.markUnits 0 true).supported = lvFull := by decide +kernel

/-- `FULL_CHECK` enters Full service and ends at the archived tier. -/
theorem archivedTier_fullCheck_level : (State.settle { chip := archivedTier.fullCheck }).chip.level = lvFirebreak := by decide +kernel

/-- So does `TIER_RISE`. -/
theorem archivedTier_tierRise_level : (State.settle { chip := archivedTier.tierRise 0 true }).chip.level = lvFirebreak := by decide +kernel

/-- Refutes O55: `FULL_CHECK` restores the archive of `archivedTier` as it enters Full service, and with it a tier of FIREBREAK. -/
theorem not_startUpRuns : ¬ Obligations.StartUpRuns := by
  unfold Obligations.StartUpRuns
  rintro ⟨-, -, -, -, -, -, -, -, -, -, -, -, -, -, hcheck⟩
  obtain ⟨hstep, hlevel, -⟩ := archivedTier_ready
  obtain ⟨t, ht, -, hafter⟩ := hcheck { chip := archivedTier } hstep hlevel
  rw [exec_fullCheck] at ht
  obtain rfl := Host.Outcome.next.inj ht
  have hfire := archivedTier_fullCheck_level.symm.trans hafter
  split at hfire <;> exact absurd hfire (by decide)

/-- Refutes O56: `TIER_RISE` from Limited service restores the archive of `archivedTier` as it enters Full service, and ends below the
tier it rose from. -/
theorem not_tiersAndResetsAct : ¬ Obligations.TiersAndResetsAct := by
  unfold Obligations.TiersAndResetsAct
  rintro ⟨-, hrise, -⟩
  obtain ⟨hstep, hlevel, hsup⟩ := archivedTier_ready
  obtain ⟨t, ht, hafter⟩ := hrise { chip := archivedTier } 0 true (by rw [hsup]; exact hlevel ▸ by decide) hstep.ge
  rw [exec_tierRise] at ht
  obtain rfl := Host.Outcome.next.inj ht
  have hfire := archivedTier_tierRise_level.symm.trans hafter
  rw [hlevel] at hfire
  exact absurd hfire (by decide)

end Sys2Proof.Machine
end

section
/-!
SUPPORT. What an event, a reply and an admitted frame leave of the host side: the links, the waiting commands, the handles, and which
sessions are open on which endpoint. With `Quiet` this says what a served command finds when it acts, and what stands after its reply.
-/

namespace Sys2Proof.Machine

/-! ## The host side under events and replies -/

/-- `d` has the links, the waiting commands, the handles and the open sessions of `c`. -/
structure HostKept (c d : Chip) : Prop where
  link : d.host.ethLink = c.host.ethLink
  waits : d.host.waits = c.host.waits
  handles : d.host.handles = c.host.handles
  ses : ∀ i, (d.ses i).isOpen = (c.ses i).isOpen ∧ (d.ses i).ep = (c.ses i).ep

namespace HostKept

theorem refl (c : Chip) : HostKept c c := ⟨rfl, rfl, rfl, fun _ => ⟨rfl, rfl⟩⟩

theorem trans {a b c : Chip} (h : HostKept a b) (k : HostKept b c) : HostKept a c where
  link := k.link.trans h.link
  waits := k.waits.trans h.waits
  handles := k.handles.trans h.handles
  ses i := ⟨(k.ses i).1.trans (h.ses i).1, (k.ses i).2.trans (h.ses i).2⟩

/-- A change beside the host side. -/
theorem of_host {c d : Chip} (h : d.host = c.host) : HostKept c d :=
  ⟨by rw [h], by rw [h], by rw [h], fun i => by simp only [Chip.ses, h, and_self]⟩

theorem upd (c : Chip) (r : RecDesc) (i : Nat) (fs : List (Fld × Nat)) : HostKept c (c.upd r i fs) := of_host (Chip.upd_host c r i fs)

theorem epCount (c : Chip) (e k : Nat) : HostKept c (c.epCount e k) := upd c _ _ _

theorem modEp (c : Chip) (e : Nat) (f : Endpoint → Endpoint) : HostKept c (c.modEp e f) := ⟨rfl, rfl, rfl, fun _ => ⟨rfl, rfl⟩⟩

/-- A session is written without being opened, closed or moved. -/
theorem setSes (c : Chip) (i : Nat) (x : Session) (hopen : x.isOpen = (c.ses i).isOpen) (hep : x.ep = (c.ses i).ep) :
    HostKept c (c.setSes i x) :=
  ⟨rfl, rfl, rfl, fun j => by
    rw [Chip.ses_setSes]
    split
    · next h => subst h; exact ⟨hopen, hep⟩
    · exact ⟨rfl, rfl⟩⟩

theorem eachOf {α : Type} (c : Chip) (l : List α) (f : Chip → α → Chip) (hf : ∀ c a, HostKept c (f c a)) : HostKept c (c.eachOf l f) := by
  induction l generalizing c with
  | nil => exact refl c
  | cons a l ih => exact (hf c a).trans (ih (f c a))

theorem ite {c a b : Chip} (p : Prop) [Decidable p] (ha : HostKept c a) (hb : HostKept c b) : HostKept c (if p then a else b) := by
  split
  · exact ha
  · exact hb

/-! ### Events -/

theorem pushEvent (c : Chip) (i : Nat) (ev : Event) (data : List Nat) : HostKept c (c.modSes i (fun s => pushEvent s ev data)) := by
  refine setSes c i _ ?_ ?_ <;> dsimp only [Machine.pushEvent] <;> split <;> rfl

theorem holdEvent (c : Chip) (ev : Event) : HostKept c (c.holdEvent ev) := by
  unfold Chip.holdEvent
  exact ite _ (ite _ ⟨rfl, rfl, rfl, fun _ => ⟨rfl, rfl⟩⟩ (upd c _ _ _)) (ite _ ⟨rfl, rfl, rfl, fun _ => ⟨rfl, rfl⟩⟩ (upd c _ _ _))

theorem deliver (c : Chip) (ev : Event) : HostKept c (c.deliver ev) := by
  unfold Chip.deliver
  refine ite _ (holdEvent c ev) (eachOf c _ _ fun c i => ?_)
  split
  · exact pushEvent c i ev _
  · exact refl c

theorem emit (c : Chip) (ev : Event) : HostKept c (c.emit ev) := by
  unfold Chip.emit
  exact ite _ ⟨rfl, rfl, rfl, fun _ => ⟨rfl, rfl⟩⟩ (deliver c _)

theorem snapTrigger (c : Chip) (source event : Nat) : HostKept c (c.snapTrigger source event) := by
  unfold Chip.snapTrigger
  refine ite _ (refl c) (ite _ (ite _ (refl c) (upd c _ _ _)) ?_)
  refine HostKept.trans ?_ (emit _ _)
  exact HostKept.trans (b := { c with boot.segments := c.latchSegments }) (of_host rfl) (upd _ _ _ _)

theorem raiseWith (c : Chip) (ev : Event) : HostKept c (c.raiseWith ev) := by
  unfold Chip.raiseWith
  refine ite _ (ite _ ?_ ?_) (emit c ev)
  · exact ((emit c ev).trans (snapTrigger _ _ _)).trans (upd _ _ _ _)
  · exact (emit c ev).trans (snapTrigger _ _ _)

theorem raiseTo (c : Chip) (i code sev : Nat) (data : List Nat) : HostKept c (c.raiseTo i code sev data) := by
  unfold Chip.raiseTo
  dsimp only
  split
  · exact ite _ (pushEvent c i _ data) (refl c)
  · exact refl c

/-! ### Replies -/

theorem send (c : Chip) (e : Nat) (f : Frame) : HostKept c (c.send e f) := by
  unfold Chip.send
  exact ite _ ((epCount c e _).trans (modEp _ e _)) ((epCount c e _).trans ⟨rfl, rfl, rfl, fun _ => ⟨rfl, rfl⟩⟩)

theorem nextTx (c : Chip) (i : Nat) : HostKept c (c.nextTx i) := by
  unfold Chip.nextTx
  have h := setSes c i { c.ses i with txSeq := (c.ses i).txSeq + 1, rekeyCtrl := (c.ses i).rekeyCtrl ||
    (decide (2 ^ 62 ≤ (c.ses i).txSeq + 1) && !(c.ses i).rekeyCtrl) } rfl rfl
  exact ite _ (h.trans (raiseTo _ _ _ _ _)) h

theorem reply (c : Chip) (x : Ctx) (op st : Nat) (d : List Nat) : HostKept c (c.reply x op st d) := by
  unfold Chip.reply
  exact (ite _ (nextTx c _) (refl c)).trans (send _ _ _)

/-! ### Admission -/

theorem popInbound (c : Chip) (e : Nat) : HostKept c (c.popInbound e) := modEp c e _

theorem rekeyHost (c : Chip) (i : Nat) : HostKept c (c.rekeyHost i) := by
  unfold Chip.rekeyHost
  have h := setSes c i { c.ses i with rekeyHost := true } rfl rfl
  exact ite _ (h.trans (raiseTo _ _ _ _ _)) (refl c)

theorem showSlots (c : Chip) (e : Nat) : HostKept c (c.showSlots e) := upd c _ _ _

theorem dropFrag (c : Chip) (si tag : Nat) : HostKept c (c.dropFrag si tag) :=
  HostKept.trans (b := { c with host.frags := c.host.frags.filter (fun f => !(f.ses == si && f.tag == tag)) })
    ⟨rfl, rfl, rfl, fun _ => ⟨rfl, rfl⟩⟩ (showSlots _ _)

theorem markSeq (c : Chip) (i n : Nat) : HostKept c (c.modSes i (fun s => Machine.markSeq s n)) := setSes c i _ rfl rfl

/-- What a gate lets on is `c` on the host side, and told of the frame of the header `h`. -/
def Admits (c : Chip) (h : Hdr) : Gate → Prop
  | .stop _ => True
  | .go d x _ => HostKept c d ∧ x.h = h

theorem Admits.go {c d : Chip} {h : Hdr} {g : Gate} {x : Ctx} {b : Bool} (hg : Admits c h g) (he : g = .go d x b) :
    HostKept c d ∧ x.h = h := by
  subst he
  exact hg

theorem Admits.ite {c : Chip} {h : Hdr} {a b : Gate} (p : Prop) [Decidable p] (ha : Admits c h a) (hb : Admits c h b) :
    Admits c h (if p then a else b) := by
  split
  · exact ha
  · exact hb

theorem Admits.answer (c d : Chip) (h : Hdr) (x : Ctx) (op st : Nat) : Admits c h (d.answer x op st) := trivial

/-- A gate that stops or lets the frame on. -/
theorem Admits.unless {c d : Chip} {h : Hdr} {g : Gate} (p : Prop) [Decidable p] (hg : Admits c h g) :
    Admits c h (if p then .stop d else g) := ite p trivial hg

theorem admits_admitFrame (c : Chip) (h : Hdr) (op : Nat) (known in0 : Bool) : Admits c h (c.admitFrame h op known in0) := by
  have h0 : HostKept c ((c.popInbound h.ep).epCount h.ep cntIn) := (popInbound c _).trans (epCount _ _ _)
  unfold Chip.admitFrame
  generalize (c.popInbound h.ep).epCount h.ep cntIn = d at h0
  have h1 := h0.trans (setSes d (h.session % 128) { d.ses (h.session % 128) with lastFrame := d.up, addr := h.addr } rfl rfl)
  exact .ite _ (.unless _ (.unless _ (.unless _ ⟨h0, rfl⟩)))
    (.unless _ (.unless _ (.unless _ (.unless _ (.unless _ ⟨(h1.trans (markSeq _ _ _)).trans (rekeyHost _ _), rfl⟩)))))

theorem admits_admitClass (c : Chip) (x : Ctx) (sp : CmdSpec) : Admits c x.h (c.admitClass x sp) := by
  have hstop := fun d st => Admits.answer c d x.h x sp.opcode st
  unfold Chip.admitClass
  refine .ite _ (hstop _ _) (.ite _ (hstop _ _) (.ite _ (hstop _ _) ?_))
  split
  · exact .ite _ (hstop _ _) ⟨dropFrag c _ _, rfl⟩
  · exact .unless _ (.ite _ (.ite _ ⟨refl c, rfl⟩ (hstop _ _)) (.ite _ ⟨refl c, rfl⟩ (hstop _ _)))

theorem admits_admitWho (c : Chip) (x : Ctx) (sp : CmdSpec) : Admits c x.h (c.admitWho x sp) := by
  have hstop := fun st => Admits.answer c c x.h x sp.opcode st
  unfold Chip.admitWho
  exact .ite _ (hstop _) (.ite _ (hstop _) (.ite _ (hstop _) (.ite _ (hstop _) (.ite _ (hstop _) (.ite _ (hstop _) ⟨refl c, rfl⟩)))))

theorem ingress_go {c d : Chip} {h : Hdr} {sp : CmdSpec} {x : Ctx} {b : Bool} (hg : c.ingress h sp = .go d x b) :
    HostKept c d ∧ x.h = h := by
  unfold Chip.ingress at hg
  split at hg
  · cases hg
  · split at hg
    · cases hg
    · next c₁ x₁ b₁ h₁ =>
      split at hg
      · cases hg
      · next c₂ x₂ b₂ h₂ =>
        obtain ⟨k₁, hx₁⟩ := (admits_admitFrame ..).go h₁
        obtain ⟨k₂, hx₂⟩ := (admits_admitClass ..).go h₂
        obtain ⟨k₃, hx₃⟩ := (admits_admitWho ..).go hg
        exact ⟨(k₁.trans k₂).trans k₃, by rw [hx₃, hx₂, hx₁]⟩

end HostKept

/-! ## Noise: an event, a reply or an admission -/

/-- `d` is `c` but for what events, replies and admissions change. -/
structure Noise (c d : Chip) : Prop where
  quiet : Quiet c d
  host : HostKept c d

namespace Noise

theorem refl (c : Chip) : Noise c c := ⟨Quiet.refl c, HostKept.refl c⟩

theorem trans {a b c : Chip} (h : Noise a b) (k : Noise b c) : Noise a c := ⟨h.quiet.trans k.quiet, h.host.trans k.host⟩

theorem raiseWith (c : Chip) (ev : Event) : Noise c (c.raiseWith ev) := ⟨Quiet.raiseWith c ev, HostKept.raiseWith c ev⟩

theorem raise (c : Chip) (code sev source : Nat) (data : List Nat) (aud : Audience) : Noise c (c.raise code sev source data aud) :=
  raiseWith c _

theorem raiseMasked (c : Chip) (code sev source : Nat) (data seen : List Nat) (aud : Audience) :
    Noise c (c.raiseMasked code sev source data seen aud) := raiseWith c _

theorem raiseZone (c : Chip) (code sev z : Nat) (data masked : List Nat) : Noise c (c.raiseZone code sev z data masked) := raiseWith c _

theorem reply (c : Chip) (x : Ctx) (op st : Nat) (d : List Nat) : Noise c (c.reply x op st d) :=
  ⟨Quiet.reply c x op st d, HostKept.reply c x op st d⟩

theorem watched (r : Res) (k : Nat) : Noise r.chip (r.watched k).chip := by
  unfold Res.watched
  split
  · exact ⟨Quiet.of_host _ _, rfl, rfl, rfl, fun _ => ⟨rfl, rfl⟩⟩
  · exact refl _

theorem conclude (r : Res) (x : Ctx) (op : Nat) : ∃ e, Noise r.chip e ∧ r.conclude x op = r.post e := by
  unfold Res.conclude
  dsimp only
  split
  · exact ⟨_, refl _, rfl⟩
  · exact ⟨_, reply _ _ _ _ _, rfl⟩

end Noise

/-- A served command: it acts on the part as its admission left it, and what follows its reply acts on the part as the reply left it. -/
theorem Served.command {s : State} {h : Hdr} {sp : CmdSpec} {x : Ctx} (hs : Served s h sp x) (act : Ctx → Chip → Res) :
    x.h = h ∧ ∃ d e, Noise s.chip d ∧ Noise (act x d).chip e ∧ s.chip.command h sp act = (act x d).post e := by
  obtain ⟨d, b, hg⟩ := hs
  obtain ⟨hk, hx⟩ := HostKept.ingress_go hg
  obtain ⟨e, he, hpost⟩ := Noise.conclude ((act x d).watched (d.ses x.si).kind) x sp.opcode
  refine ⟨hx, d, e, ⟨Quiet.of_go hg, hk⟩, (Noise.watched _ _).trans he, ?_⟩
  rw [Res.watched_post] at hpost
  rw [← hpost, Chip.command, hg]

end Sys2Proof.Machine
end

section
/-!
SUPPORT. Rules about operations made in a row, about saturating counters, and about who owns a handle (R71): only a session's end and the
owner's own reading take a handle from it.
-/

namespace Sys2Proof.Machine

/-! ## Operations in a row -/

/-- What every step of a fold keeps, the fold keeps. -/
theorem foldl_keeps {α β γ : Type} (g : β → γ) (f : β → α → β) (hf : ∀ b a, g (f b a) = g b) (l : List α) (b : β) :
    g (l.foldl f b) = g b := by
  induction l generalizing b with
  | nil => rfl
  | cons a l ih => rw [List.foldl_cons, ih, hf]

theorem Chip.eachOf_keeps {α γ : Type} (g : Chip → γ) (c : Chip) (l : List α) (f : Chip → α → Chip) (hf : ∀ c a, g (f c a) = g c) :
    g (c.eachOf l f) = g c := foldl_keeps g f hf l c

/-- What holds at the start and is preserved by every step holds at the end. -/
theorem Chip.eachOf_preserves {α : Type} (p : Chip → Prop) {f : Chip → α → Chip} (hf : ∀ c a, p c → p (f c a)) {c : Chip} (l : List α)
    (hc : p c) : p (c.eachOf l f) := by
  induction l generalizing c with
  | nil => exact hc
  | cons a l ih => exact ih (hf c a hc)

/-- What one element's step brings about and every step preserves holds at the end. -/
theorem Chip.eachOf_establishes {α : Type} (p : Chip → Prop) {f : Chip → α → Chip} {l : List α} {a : α} (ha : a ∈ l)
    (hf : ∀ c b, b = a ∨ p c → p (f c b)) (c : Chip) : p (c.eachOf l f) := by
  induction l generalizing c with
  | nil => exact absurd ha (by simp)
  | cons b l ih =>
    rcases List.mem_cons.mp ha with rfl | hl
    · exact Chip.eachOf_preserves p (fun c b hc => hf c b (.inr hc)) l (hf c a (.inl rfl))
    · exact ih hl _

/-! ## Fields -/

/-- A field apart from the one assigned reads as before. -/
theorem Chip.getF_upd_one_apart (c : Chip) (r : RecDesc) (i : Nat) (f g : Fld) (v : Nat) (h : f.apart g) :
    (c.upd r i [(g, v)]).getF r i f = c.getF r i f :=
  Chip.getF_upd_apart c r i f _ fun p hp => by rw [List.mem_singleton.mp hp]; exact h

theorem apart_of_one {f g : Fld} {v : Nat} (h : f.apart g) : ∀ p ∈ [(g, v)], f.apart p.1 := fun p hp => by
  rw [List.mem_singleton.mp hp]
  exact h

theorem apart_of_two {f g k : Fld} {v w : Nat} (h : f.apart g ∧ f.apart k) : ∀ p ∈ [(g, v), (k, w)], f.apart p.1 :=
  List.forall_mem_cons.mpr ⟨h.1, apart_of_one h.2⟩

/-- A field apart from all those assigned reads as before whichever record of its kind is read. -/
theorem Chip.getF_upd_apart_inst (c : Chip) (r : RecDesc) (i j : Nat) (f : Fld) (fs : List (Fld × Nat)) (h : ∀ p ∈ fs, f.apart p.1) :
    (c.upd r i fs).getF r j f = c.getF r j f := by
  by_cases hij : i = j
  · subst hij
    exact Chip.getF_upd_apart c r i f fs h
  · exact Chip.getF_upd_ne c r r i j f fs (recKey_ne_of_inst r hij)

theorem satInc_lt (w v : Nat) : satInc w v < 2 ^ w := by
  unfold satInc
  have : 0 < 2 ^ w := by positivity
  split <;> omega

/-- A saturating counter counts. -/
theorem Chip.getF_incSat_self (c : Chip) (r : RecDesc) (i : Nat) (f sat : Fld) (k : Nat) (h : f.apart sat) :
    (c.incSat r i f sat k).getF r i f = satInc f.width (c.getF r i f) := by
  unfold Chip.incSat
  rw [Chip.getF, Chip.img_upd_self, setFields_cons, setFields_cons]
  change f.get (sat.set _ _) = _
  rw [Fld.get_set_apart _ _ _ _ h, Fld.get_set_self, Nat.mod_eq_of_lt (satInc_lt _ _)]

/-- Two fields assigned at once, read apart from each other. -/
theorem Chip.getF_upd_two_fst (c : Chip) (r : RecDesc) (i : Nat) (f g : Fld) (v w : Nat) (h : f.apart g) :
    (c.upd r i [(f, v), (g, w)]).getF r i f = v % 2 ^ f.width := by
  rw [Chip.getF, Chip.img_upd_self, setFields_cons, setFields_cons]
  change f.get (g.set _ _) = _
  rw [Fld.get_set_apart _ _ _ _ h, Fld.get_set_self]

theorem Chip.getF_upd_two_snd (c : Chip) (r : RecDesc) (i : Nat) (f g : Fld) (v w : Nat) :
    (c.upd r i [(f, v), (g, w)]).getF r i g = w % 2 ^ g.width := by
  rw [Chip.getF, Chip.img_upd_self, setFields_cons, setFields_cons]
  exact Fld.get_set_self _ _ _

/-! ## Handles -/

/-- Every handle has in `d` the owner it has in `c`. -/
def Owned (c d : Chip) : Prop := ∀ k, (d.hnd k).owner = (c.hnd k).owner

namespace Owned

theorem refl (c : Chip) : Owned c c := fun _ => rfl

theorem trans {a b c : Chip} (h : Owned a b) (k : Owned b c) : Owned a c := fun i => (k i).trans (h i)

theorem of_handles {c d : Chip} (h : d.host.handles = c.host.handles) : Owned c d := fun k => by simp only [Chip.hnd, h]

theorem of_host {c d : Chip} (h : d.host = c.host) : Owned c d := of_handles (by rw [h])

theorem upd (c : Chip) (r : RecDesc) (i : Nat) (fs : List (Fld × Nat)) : Owned c (c.upd r i fs) := of_host (Chip.upd_host c r i fs)

theorem eachOf {α : Type} (c : Chip) (l : List α) (f : Chip → α → Chip) (hf : ∀ c a, Owned c (f c a)) : Owned c (c.eachOf l f) :=
  Chip.eachOf_preserves (Owned c) (fun d a hd => hd.trans (hf d a)) l (refl c)

theorem each (c : Chip) (n : Nat) (f : Chip → Nat → Chip) (hf : ∀ c k, Owned c (f c k)) : Owned c (c.each n f) :=
  eachOf c (List.range n) f hf

theorem ite {c a b : Chip} (p : Prop) [Decidable p] (ha : Owned c a) (hb : Owned c b) : Owned c (if p then a else b) := by
  split
  · exact ha
  · exact hb

/-- A finished command's handle stays its owner's. -/
theorem finish (c : Chip) (k : Option Nat) (st : Nat) (d : List Nat) : Owned c (c.finish k st d) := by
  cases k with
  | none => exact refl c
  | some k =>
    unfold Chip.finish
    refine ite _ (fun j => ?_) (refl c)
    rw [Chip.hnd_setHnd]
    split
    · next h => rw [← h]
    · rfl

theorem answerWaits (c : Chip) (key st : Nat) (d : List Nat) : Owned c (c.answerWaits key st d) := by
  unfold Chip.answerWaits
  refine trans (of_handles rfl) (eachOf _ _ _ fun c w => ?_)
  have h := HostKept.showSlots c w.ep
  exact ite _ (of_handles h.handles) (of_handles (h.trans (HostKept.reply _ _ _ _ _)).handles)

/-! ### Settling -/

theorem modChan (c : Chip) (i : Nat) (f : Chan → Chan) : Owned c (c.modChan i f) := of_host rfl

theorem modAxis (c : Chip) (i : Nat) (f : Axis → Axis) : Owned c (c.modAxis i f) := of_host rfl

theorem setLane (c : Chip) (e : Nat) (x : Lane) : Owned c (c.setLane e x) := of_host rfl

theorem modTer (c : Chip) (t : Nat) (f : Terrace → Terrace) : Owned c (c.modTer t f) := of_host rfl

theorem modTgt (c : Chip) (i : Nat) (f : Tgt → Tgt) : Owned c (c.modTgt i f) := of_host rfl

theorem rest (c : Chip) (ch : Nat) : Owned c (c.rest ch) := by
  unfold Chip.rest
  refine trans ?_ (ite _ (refl _) (trans (modChan _ ch _) (upd _ _ _ _)))
  exact ite _ (trans (trans (modChan c ch _) (upd _ _ _ _)) (modTgt _ ch _)) (refl c)

theorem axStop (c : Chip) (a : Nat) : Owned c (c.axStop a) := by
  have hhome : ∀ d : Chip, Owned d (d.abandonHoming a stBadState) := fun d => by
    unfold Chip.abandonHoming Chip.homeResult
    exact ite _ (trans (trans (upd _ _ _ _) (finish _ _ _ _)) (modAxis _ a _)) (refl d)
  have hhalt : ∀ d : Chip, Owned d (d.axHalt a asStopped) := fun d => by
    unfold Chip.axHalt
    exact trans (trans (trans (modAxis d a _) (upd _ _ _ _)) (modAxis _ a _)) (upd _ _ _ _)
  unfold Chip.axStop
  exact ite _ (upd _ _ _ _) (trans (trans (upd _ _ _ _) (hhome _)) (hhalt _))

theorem settleLines (c : Chip) : Owned c c.settleLines := by
  have hfault : Owned c c.settleFault := by
    unfold Chip.settleFault
    exact ite _ (upd _ _ _ _) (refl c)
  have hforced : ∀ d : Chip, Owned d d.settleForced := fun d => by
    unfold Chip.settleForced
    exact ite _ (refl d) (trans (each _ _ _ fun e k => ite _ (rest e k) (refl e)) (each _ _ _ fun e k => ite _ (axStop e k) (refl e)))
  unfold Chip.settleLines Chip.settleFb
  exact trans (trans (trans hfault (hforced _)) (upd _ _ _ _)) (upd _ _ _ _)

theorem of_settle (s : State) : Owned s.chip s.settle.chip :=
  trans (b := { s.chip with store.ops := [] }) (of_host rfl) (settleLines _)

end Owned

end Sys2Proof.Machine
end

section
/-!
SUPPORT. What the zone side changes: the run-time state of zones and lanes, and the records that show them. `Zonal` says it once for every
operation on a zone; the terraces, the pergolas, the host side and every other record stay as they were.
-/

namespace Sys2Proof.Machine

/-! ## The state of a terrace and of a pergola -/

@[simp] theorem Chip.img_modTer (c : Chip) (t : Nat) (f : Terrace → Terrace) (r : RecDesc) (i : Nat) :
    (c.modTer t f).img r i = c.img r i := rfl

@[simp] theorem Chip.getF_modTer (c : Chip) (t : Nat) (f : Terrace → Terrace) (r : RecDesc) (i : Nat) (g : Fld) :
    (c.modTer t f).getF r i g = c.getF r i g := rfl

@[simp] theorem Chip.ter_modTer_self (c : Chip) (t : Nat) (f : Terrace → Terrace) : (c.modTer t f).ter t = f (c.ter t) := by
  rw [Chip.modTer, Chip.ter_setTer, if_pos rfl]

@[simp] theorem Chip.getF_modPerg (c : Chip) (p : Nat) (f : Pergola → Pergola) (r : RecDesc) (i : Nat) (g : Fld) :
    (c.modPerg p f).getF r i g = c.getF r i g := rfl

@[simp] theorem Chip.perg_modPerg_self (c : Chip) (p : Nat) (f : Pergola → Pergola) : (c.modPerg p f).perg p = f (c.perg p) := by
  rw [Chip.modPerg, Chip.perg_setPerg, if_pos rfl]

theorem Chip.perg_modPerg (c : Chip) (q p : Nat) (f : Pergola → Pergola) :
    (c.modPerg q f).perg p = if q = p then f (c.perg p) else c.perg p := by
  rw [Chip.modPerg, Chip.perg_setPerg]
  split
  · next h => rw [h]
  · rfl

@[simp] theorem Chip.ter_modPerg (c : Chip) (p : Nat) (f : Pergola → Pergola) (t : Nat) : (c.modPerg p f).ter t = c.ter t := rfl

@[simp] theorem Chip.ter_upd (c : Chip) (r : RecDesc) (i : Nat) (fs : List (Fld × Nat)) (t : Nat) : (c.upd r i fs).ter t = c.ter t := by
  unfold Chip.ter
  rw [Chip.upd_zones]

@[simp] theorem Chip.perg_upd (c : Chip) (r : RecDesc) (i : Nat) (fs : List (Fld × Nat)) (p : Nat) : (c.upd r i fs).perg p = c.perg p := by
  unfold Chip.perg
  rw [Chip.upd_zones]

/-! ## The zone side -/

/-- The records that operations on a zone write: those that show a zone, and those that events write. -/
def zoneIds : List Nat := noisyIds ++ [ZONE_STATE, ZONE_BINDINGS, ZONE_STATUS, ZONE_OCC, ZONE_SCHEDULE, ZONE_PARAMS, MODEL_COEF, TUNE_STATUS,
  OCC_TIMELINE, PRESENCE_PROFILE, ZONE_PLAN, PLAN_PREFS, PLOT_ZONES, PLOT_ISOLATION, PROGRAM_INFO].map RecDesc.id

/-- `d` is `c` but for zones, lanes, events and the records that show them. -/
structure Zonal (c d : Chip) : Prop where
  img : ∀ r i, r.id % 0x10000 ∉ zoneIds → d.img r i = c.img r i
  terrace : d.zones.terrace = c.zones.terrace
  pergola : d.zones.pergola = c.zones.pergola
  host : HostKept c d

namespace Zonal

theorem refl (c : Chip) : Zonal c c := ⟨fun _ _ _ => rfl, rfl, rfl, HostKept.refl c⟩

theorem trans {a b c : Chip} (h : Zonal a b) (k : Zonal b c) : Zonal a c where
  img r i hr := (k.img r i hr).trans (h.img r i hr)
  terrace := k.terrace.trans h.terrace
  pergola := k.pergola.trans h.pergola
  host := h.host.trans k.host

theorem getF {c d : Chip} (h : Zonal c d) (r : RecDesc) (i : Nat) (f : Fld) (hr : r.id % 0x10000 ∉ zoneIds) :
    d.getF r i f = c.getF r i f := by rw [Chip.getF, h.img r i hr, Chip.getF]

theorem ter {c d : Chip} (h : Zonal c d) (t : Nat) : d.ter t = c.ter t := by simp only [Chip.ter, h.terrace]

theorem perg {c d : Chip} (h : Zonal c d) (p : Nat) : d.perg p = c.perg p := by simp only [Chip.perg, h.pergola]

theorem of_noise {c d : Chip} (h : Noise c d) : Zonal c d where
  img r i hr := h.quiet.img r i (fun hm => hr (List.mem_append_left _ hm))
  terrace := by rw [h.quiet.zones]
  pergola := by rw [h.quiet.zones]
  host := h.host

theorem upd (c : Chip) (r : RecDesc) (i : Nat) (fs : List (Fld × Nat)) (hr : r.id % 0x10000 ∈ zoneIds) : Zonal c (c.upd r i fs) where
  img q j hq := Chip.img_upd_ne c r q i j fs (recKey_ne_of_id (fun h => hq (h ▸ hr)) i j)
  terrace := by rw [Chip.upd_zones]
  pergola := by rw [Chip.upd_zones]
  host := HostKept.upd c r i fs

theorem clearRec (c : Chip) (r : RecDesc) (i : Nat) (hr : r.id % 0x10000 ∈ zoneIds) : Zonal c (c.clearRec r i) where
  img q j hq := Chip.img_setImg_ne c r q i j _ (recKey_ne_of_id (fun h => hq (h ▸ hr)) i j)
  terrace := by rw [Chip.clearRec, (Chip.setImg_rest c r i _).zones]
  pergola := by rw [Chip.clearRec, (Chip.setImg_rest c r i _).zones]
  host := HostKept.of_host (Chip.setImg_rest c r i _).host

theorem eachOf {α : Type} (c : Chip) (l : List α) (f : Chip → α → Chip) (hf : ∀ c a, Zonal c (f c a)) : Zonal c (c.eachOf l f) :=
  Chip.eachOf_preserves (Zonal c) (fun d a hd => hd.trans (hf d a)) l (refl c)

theorem each (c : Chip) (n : Nat) (f : Chip → Nat → Chip) (hf : ∀ c k, Zonal c (f c k)) : Zonal c (c.each n f) :=
  eachOf c (List.range n) f hf

theorem ite {c a b : Chip} (p : Prop) [Decidable p] (ha : Zonal c a) (hb : Zonal c b) : Zonal c (if p then a else b) := by
  split
  · exact ha
  · exact hb

/-! ### Zones and lanes -/

theorem modZrt (c : Chip) (z : Nat) (f : ZoneRt → ZoneRt) : Zonal c (c.modZrt z f) := ⟨fun _ _ _ => rfl, rfl, rfl, HostKept.of_host rfl⟩

theorem setLane (c : Chip) (e : Nat) (x : Lane) : Zonal c (c.setLane e x) := ⟨fun _ _ _ => rfl, rfl, rfl, HostKept.of_host rfl⟩

theorem dropRound (c : Chip) (z : Nat) : Zonal c (c.dropRound z) := ⟨fun _ _ _ => rfl, rfl, rfl, HostKept.of_host rfl⟩

theorem modModel (c : Chip) (z : Nat) (f : Model → Model) : Zonal c (c.modModel z f) := modZrt c z _

theorem restartHistory (c : Chip) (z : Nat) : Zonal c (c.restartHistory z) := modModel c z _

theorem latchFallback (c : Chip) (z : Nat) : Zonal c (c.latchFallback z) := modZrt c z _

theorem takeFallback (c : Chip) (z : Nat) : Zonal c (c.takeFallback z) := by
  unfold Chip.takeFallback
  exact modZrt c z _

theorem modLink (c : Chip) (z : Nat) (f : Link → Link) : Zonal c (c.modLink z f) := by
  unfold Chip.modLink
  exact (modZrt c z _).trans (each _ _ _ fun c k => ite _ (setLane c _ _) (refl c))

theorem unload (c : Chip) (z : Nat) : Zonal c (c.unload z) := by
  unfold Chip.unload
  exact each _ _ _ fun c k => ite _ (setLane c _ _) (refl c)

theorem publishPoint (c : Chip) (e : Nat) : Zonal c (c.publishPoint e) := by
  unfold Chip.publishPoint
  dsimp only
  split
  · exact refl c
  · exact modZrt c _ _

theorem endWindow (c : Chip) (z : Nat) : Zonal c (c.endWindow z) := by
  unfold Chip.endWindow
  exact (each _ _ _ fun c k => ite _ (publishPoint c _) (refl c)).trans (unload _ z)

theorem endTest (c : Chip) (z cause : Nat) : Zonal c (c.endTest z cause) := by
  unfold Chip.endTest
  dsimp only
  split
  · exact modModel c z _
  · exact ((((modModel c z _).trans (modModel _ z _)).trans (modLink _ z _)).trans (upd _ _ _ _ (by decide))).trans
      (of_noise (Noise.raiseZone _ _ _ _ _ _))

theorem leaveRunning (c : Chip) (z new : Nat) : Zonal c (c.leaveRunning z new) := by
  unfold Chip.leaveRunning
  exact ((upd c _ _ _ (by decide)).trans (latchFallback _ z)).trans (endTest _ z 4)

theorem displace (c : Chip) (z : Nat) : Zonal c (c.displace z) := by
  unfold Chip.displace
  exact ite _ ((unload c z).trans (leaveRunning _ z _)) (refl c)

theorem undisplace (c : Chip) (z : Nat) : Zonal c (c.undisplace z) := by
  unfold Chip.undisplace
  exact ite _ (upd c _ _ _ (by decide)) (refl c)

theorem zoneUnused (c : Chip) (z : Nat) : Zonal c (c.zoneUnused z) := by
  unfold Chip.zoneUnused
  exact ite _ (leaveRunning c z _) (refl c)

theorem showEngines (c : Chip) (t : Nat) : Zonal c (c.showEngines t) := by
  unfold Chip.showEngines
  refine eachOf _ _ _ fun c z => ?_
  split <;> exact upd c _ _ _ (by decide)

theorem rehome (c : Chip) (t : Nat) : Zonal c (c.rehome t) := by
  unfold Chip.rehome
  exact (showEngines c t).trans (eachOf _ _ _ undisplace)

/-! ### A plot's zones -/

theorem setMState (c : Chip) (z new owner : Nat) : Zonal c (c.setMState z new owner) := by
  unfold Chip.setMState
  dsimp only
  split
  · exact refl c
  · refine trans ?_ (ite _ (of_noise (Noise.raiseMasked _ _ _ _ _ _ _)) (refl _))
    refine trans ?_ (of_noise (Noise.raiseMasked _ _ _ _ _ _ _))
    exact trans (trans (modLink c z _) (modModel _ z _)) (upd _ _ _ _ (by decide))

theorem resetEstimate (c : Chip) (z : Nat) : Zonal c (c.resetEstimate z) := by
  unfold Chip.resetEstimate
  exact ((modModel c z _).trans (modLink _ z _)).trans (upd _ _ _ _ (by decide))

theorem clearBlock (c : Chip) (z : Nat) : Zonal c (c.clearBlock z) := by
  unfold Chip.clearBlock
  exact (modModel c z _).trans (upd _ _ _ _ (by decide))

theorem wipePrivate (c : Chip) (z owner : Nat) : Zonal c (c.wipePrivate z owner) := by
  unfold Chip.wipePrivate
  have hclear : ∀ {b : Chip} {r : RecDesc}, r.id % 0x10000 ∈ zoneIds → Zonal c b → Zonal c (b.clearRec r z) :=
    fun hr h => h.trans (clearRec _ _ z hr)
  refine trans (trans ?_ (modZrt _ z _)) (modLink _ z _)
  iterate 7 refine hclear (by decide) ?_
  refine trans (trans (trans (trans ?_ (dropRound _ z)) (setMState _ z 0 owner)) (resetEstimate _ z)) (clearBlock _ z)
  exact hclear (by decide) (hclear (by decide) (endTest c z 4))

theorem copyPdef (c : Chip) (z : Nat) (which : Nat → Bool) : Zonal c (c.copyPdef z which) := upd c _ _ _ (by decide)

theorem plotHolds (c : Chip) (p z : Nat) (b : Bool) : Zonal c (c.plotHolds p z b) := by
  unfold Chip.plotHolds
  exact ite _ (refl c) (upd c _ _ _ (by decide))

theorem showIsolation (c : Chip) (p : Nat) : Zonal c (c.showIsolation p) := upd c _ _ _ (by decide)

theorem clampWords (c : Chip) (p : Nat) : Zonal c (c.clampWords p) := by
  unfold Chip.clampWords
  exact eachOf _ _ _ fun c z => upd c _ _ _ (by decide)

theorem showUsers (c : Chip) (t : Nat) : Zonal c (c.showUsers t) := by
  unfold Chip.showUsers
  exact each _ _ _ fun c id => upd c _ _ _ (by decide)

theorem ownerChanged (c : Chip) (z old : Nat) : Zonal c (c.ownerChanged z old) := by
  unfold Chip.ownerChanged
  refine trans (trans ?_ (ite _ (showIsolation _ _) (refl _))) (ite _ (showIsolation _ _) (refl _))
  refine trans (trans (trans ?_ (plotHolds _ _ z _)) (plotHolds _ _ z _)) (ite _ (displace _ z) (undisplace _ z))
  refine trans (trans ?_ (clearRec _ PLAN_PREFS z (by decide))) (upd _ _ _ _ (by decide))
  exact (wipePrivate c z old).trans (copyPdef _ z _)

theorem zoneCfgEffect (c : Chip) (z old : Nat) : Zonal c (c.zoneCfgEffect z old) := by
  unfold Chip.zoneCfgEffect
  refine trans ?_ (showUsers _ _)
  refine trans ?_ (ite _ (ite _ (upd _ _ _ _ (by decide)) (zoneUnused _ z)) (ite _ (upd _ _ _ _ (by decide)) (refl _)))
  refine trans ?_ (ite _ ((endWindow _ z).trans (ownerChanged _ z _)) (ite _ (copyPdef _ z _) (refl _)))
  exact (takeFallback c z).trans (upd _ _ _ _ (by decide))

end Zonal

end Sys2Proof.Machine
end

section
/-!
SUPPORT. What still stands when a command's meaning is through: what its reply and the settling of the part leave as the meaning left it
(`Shown`), and what an admitted write of a record leaves (R63, R64).
-/

namespace Sys2Proof.Machine

/-! ## After the reply and the settling -/

/-- The records that events, replies and settling write. -/
def shownIds : List Nat := noisyIds ++ lineIds

/-- `d` is `c` after events, replies and settling: the zone side, the tier, the links, the waiting commands, the owners of the handles,
the open sessions and every record but those of `shownIds` are as they were. -/
structure Shown (c d : Chip) : Prop where
  img : ∀ r i, r.id % 0x10000 ∉ shownIds → d.img r i = c.img r i
  zones : d.zones = c.zones
  level : d.level = c.level
  link : d.host.ethLink = c.host.ethLink
  waits : d.host.waits = c.host.waits
  owned : Owned c d
  ses : ∀ i, (d.ses i).isOpen = (c.ses i).isOpen ∧ (d.ses i).ep = (c.ses i).ep

namespace Shown

theorem trans {a b c : Chip} (h : Shown a b) (k : Shown b c) : Shown a c where
  img r i hr := (k.img r i hr).trans (h.img r i hr)
  zones := k.zones.trans h.zones
  level := k.level.trans h.level
  link := k.link.trans h.link
  waits := k.waits.trans h.waits
  owned := h.owned.trans k.owned
  ses i := ⟨(k.ses i).1.trans (h.ses i).1, (k.ses i).2.trans (h.ses i).2⟩

theorem getF {c d : Chip} (h : Shown c d) (r : RecDesc) (i : Nat) (f : Fld) (hr : r.id % 0x10000 ∉ shownIds) :
    d.getF r i f = c.getF r i f := by rw [Chip.getF, h.img r i hr, Chip.getF]

theorem ter {c d : Chip} (h : Shown c d) (t : Nat) : d.ter t = c.ter t := by simp only [Chip.ter, h.zones]

theorem perg {c d : Chip} (h : Shown c d) (p : Nat) : d.perg p = c.perg p := by simp only [Chip.perg, h.zones]

theorem of_noise {c d : Chip} (h : Noise c d) : Shown c d where
  img r i hr := h.quiet.img r i (fun hm => hr (List.mem_append_left _ hm))
  zones := h.quiet.zones
  level := h.quiet.level
  link := h.host.link
  waits := h.host.waits
  owned := Owned.of_handles h.host.handles
  ses := h.host.ses

/-- Settling a state shows what the part holds. -/
theorem of_settle (s : State) : Shown s.chip s.settle.chip where
  img r i hr := (State.settle_lines s).img r i (fun hm => hr (List.mem_append_right _ hm))
  zones := (State.settle_lines s).zones
  level := by
    unfold Chip.level
    rw [(State.settle_lines s).boot, (State.settle_lines s).aon _ (by decide)]
    rfl
  link := by
    have hl := congrArg HostSide.ethLink (State.settle_lines s).host
    exact hl
  waits := by
    have hw := congrArg HostSide.waits (State.settle_lines s).host
    exact hw
  owned := Owned.of_settle s
  ses i := by
    have hs := congrArg HostSide.sessions (State.settle_lines s).host
    dsimp only at hs
    simp only [Chip.ses, hs, and_self]

end Shown

/-- A row completes in any state that shows what its meaning leaves. -/
theorem Completes.of_run {i : Instr} {s : State} {f : Chip → Chip} {p : State → Prop} (hi : exec i s = s.run f)
    (hp : ∀ t : State, Shown (f s.chip) t.chip → p t) : Completes i s p :=
  ⟨_, hi, hp _ (Shown.of_settle { s with chip := f s.chip })⟩

/-- A served command that has nothing after its reply completes in any state that shows what it leaves. -/
theorem Served.completes {i : Instr} {s : State} {h : Hdr} {sp : CmdSpec} {x : Ctx} (hs : Served s h sp x) {act : Ctx → Chip → Res}
    {p : State → Prop} (hi : exec i s = s.run (fun c => c.command h sp act))
    (hact : ∀ d, Noise s.chip d → x.h = h → (act x d).post = id ∧ ∀ t : State, Shown (act x d).chip t.chip → p t) : Completes i s p := by
  obtain ⟨hx, d, e, hd, he, hc⟩ := hs.command act
  obtain ⟨hpost, hp⟩ := hact d hd hx
  refine Completes.of_run hi fun t hsh => hp t ((Shown.of_noise he).trans ?_)
  rw [hc, hpost] at hsh
  exact hsh

/-- A served command with something after its reply completes in the settled state that this leaves. -/
theorem Served.completes_post {i : Instr} {s : State} {h : Hdr} {sp : CmdSpec} {x : Ctx} (hs : Served s h sp x) {act : Ctx → Chip → Res}
    {p : State → Prop} (hi : exec i s = s.run (fun c => c.command h sp act))
    (hact : ∀ d e, Noise s.chip d → x.h = h → Noise (act x d).chip e → p (State.settle { s with chip := (act x d).post e })) :
    Completes i s p := by
  obtain ⟨hx, d, e, hd, he, hc⟩ := hs.command act
  have hp := hact d e hd hx he
  rw [← hc] at hp
  exact ⟨_, hi, hp⟩

/-- Checks that all pass let the command act. -/
theorem checks_pass (c : Chip) (l : List (Bool × Nat)) (act : Unit → Res) (hl : ∀ q ∈ l, q.1 = false) : checks c l act = act () := by
  have hnone : l.find? Prod.fst = none := List.find?_eq_none.mpr fun q hq => by simp [hl q hq]
  unfold checks
  rw [hnone]

/-! ## Fields of images -/

theorem testBit_sub_of_subset (n a b : Nat) (hle : b ≤ a) (h : ∀ k, b.testBit k = true → a.testBit k = true) :
    (a - b).testBit n = (a.testBit n && !b.testBit n) := by
  have h0 := h 0
  simp only [Nat.testBit_zero, decide_eq_true_eq] at h0
  induction n generalizing a b with
  | zero =>
    simp only [Nat.testBit_zero]
    rw [← decide_not, ← Bool.decide_and, decide_eq_decide]
    omega
  | succ n ih =>
    have hdiv : (a - b) / 2 = a / 2 - b / 2 := by omega
    have hhalf : ∀ k, (b / 2).testBit k = true → (a / 2).testBit k = true := fun k => by
      simpa only [Nat.testBit_succ] using h (k + 1)
    have h1 := hhalf 0
    simp only [Nat.testBit_zero, decide_eq_true_eq] at h1
    simp only [Nat.testBit_succ, hdiv]
    exact ih (a / 2) (b / 2) (by omega) hhalf h1

/-- A bit of a merged image is the new one where `SET_RECORD` writes and the old one elsewhere (R64). -/
theorem RecDesc.testBit_merge (r : RecDesc) (old new n : Nat) :
    (r.merge old new).testBit n = if r.writeMask.testBit n then new.testBit n else old.testBit n := by
  unfold RecDesc.merge
  rw [Nat.testBit_or, testBit_sub_of_subset n _ _ Nat.and_le_left (by simp +contextual [Nat.testBit_and]), Nat.testBit_and, Nat.testBit_and]
  cases r.writeMask.testBit n <;> simp

/-- A field that `SET_RECORD` writes whole reads in the merged image as in the new one. -/
theorem RecDesc.get_merge (r : RecDesc) (f : Fld) (old new : Nat)
    (hf : ∀ n, f.off ≤ n → n < f.off + f.width → r.writeMask.testBit n = true) : f.get (r.merge old new) = f.get new := by
  apply Nat.eq_of_testBit_eq
  intro n
  rw [Fld.testBit_get, Fld.testBit_get, RecDesc.testBit_merge]
  by_cases hn : n < f.width
  · rw [if_pos (hf _ (by omega) (by omega))]
  · simp only [hn, decide_false, Bool.false_and]

/-- A family of fields apart from one another, some of them assigned: those read as assigned, the others as before. -/
theorem get_setFields_map (F : Nat → Fld) (hF : ∀ i j, i ≠ j → (F i).apart (F j)) (v : Nat → Nat) (l : List Nat) (img k : Nat) :
    (F k).get (setFields (l.map fun n => (F n, v n)) img) = if k ∈ l then v k % 2 ^ (F k).width else (F k).get img := by
  induction l generalizing img with
  | nil => rfl
  | cons a l ih =>
    rw [List.map_cons, setFields_cons, ih]
    by_cases hl : k ∈ l
    · simp [hl]
    · by_cases ha : k = a
      · subst ha
        simp [hl]
      · simp [hl, ha, Fld.get_set_apart _ _ _ _ (hF k a ha)]

/-! ## Writes of records -/

/-- The checks of a record's own rules all pass. -/
def WriteCheck.Passes (k : WriteCheck) : Prop := k.badId = false ∧ k.may = true ∧ k.held = false ∧ k.bad = false ∧ k.state = 0

/-- The part with the image written and its store booked, before the record's own effect. -/
def Chip.written (c : Chip) (r : RecDesc) (inst img : Nat) : Chip :=
  (c.putImg r inst (r.merge (c.img r inst) img)).recStored r inst

/-- A write that fits and that the record's own rules let through has its effect on the part with the image written. -/
theorem Chip.setRecord_fits {c : Chip} {h : Hdr} {r : RecDesc} {inst ver img : Nat} {k : WriteCheck} (hf : WriteFits c h r inst ver img)
    (hk : k.Passes) (effect : Chip → Nat → Chip) (post : Chip → Chip) :
    (c.setRecord h r inst ver img k effect post).chip = effect (c.written r inst img) (c.img r inst) ∧
      (c.setRecord h r inst ver img k effect post).post = post := by
  obtain ⟨hlen, hinst, hrsv, hclear, hrange, hver⟩ := hf
  obtain ⟨hid, hmay, hheld, hbad, hstate⟩ := hk
  have hv : (ver != 0xFFFFFFFF && ver != c.version r inst) = false := by
    rcases hver with h | h <;> simp [h]
  unfold Chip.setRecord checks
  simp [hlen, hinst, hrsv, hclear, hrange, hv, hid, hmay, hheld, hbad, hstate, Chip.written]

theorem Chip.recStored_img (c : Chip) (r q : RecDesc) (i j : Nat) : (c.recStored r i).img q j = c.img q j := by
  unfold Chip.recStored Chip.dirty
  dsimp only
  repeat' split
  all_goals rfl

/-- A record's store is booked in the bundle's bookkeeping and the memory's operations. -/
theorem Chip.recStored_host (c : Chip) (r : RecDesc) (i : Nat) : (c.recStored r i).host = c.host := by
  unfold Chip.recStored Chip.dirty
  dsimp only
  repeat' split
  all_goals rfl

theorem Chip.recStored_boot (c : Chip) (r : RecDesc) (i : Nat) :
    { (c.recStored r i).boot with segments := c.boot.segments, bundleDirty := c.boot.bundleDirty } = c.boot := by
  unfold Chip.recStored Chip.dirty
  dsimp only
  repeat' split
  all_goals rfl

theorem Chip.written_img_self (c : Chip) (r : RecDesc) (i img : Nat) : (c.written r i img).img r i = r.merge (c.img r i) img := by
  rw [Chip.written, Chip.recStored_img, Chip.img_putImg_self]

theorem Chip.written_img_ne (c : Chip) (r q : RecDesc) (i j img : Nat) (h : recKey r i ≠ recKey q j) :
    (c.written r i img).img q j = c.img q j := by
  rw [Chip.written, Chip.recStored_img, Chip.img_putImg_ne _ _ _ _ _ _ h]

/-- What fits a record fits it after events and admissions. -/
theorem WriteFits.of_quiet {c d : Chip} {h : Hdr} {r : RecDesc} {inst ver img : Nat} (hq : Quiet c d) (hr : r.id % 0x10000 ∉ noisyIds)
    (hf : WriteFits c h r inst ver img) : WriteFits d h r inst ver img := by
  unfold WriteFits
  rw [hq.img r inst hr, hq.ver r inst hr]
  exact hf

end Sys2Proof.Machine
end

section
/-!
PROOF. Writes of the zone, plot and terrace configuration (R131, R142, R153, R154, R159, R161): each is a write of a record, so that its image
stands as merged, and its effect writes other records or other fields.
-/

namespace Sys2Proof.Machine

/-- An admitted write of a record completes in any state that shows what its effect leaves of the part with the image written. -/
theorem Served.write_completes {i : Instr} {s : State} {h : Hdr} {x : Ctx} {r : RecDesc} {inst ver img : Nat} {p : State → Prop}
    (hs : Served s h setRecordSpec x) (hr : r.id % 0x10000 ∉ noisyIds) (hf : WriteFits s.chip h r inst ver img) {row : Ctx → Chip → Res}
    (hi : exec i s = s.run (fun c => c.writeRow h row)) (k : Chip → WriteCheck) (effect : Chip → Nat → Chip)
    (hrow : ∀ d, Noise s.chip d → row x d = d.setRecord x.h r inst ver img (k d) effect) (hk : ∀ d, Noise s.chip d → (k d).Passes)
    (hp : ∀ d, Noise s.chip d → ∀ t : State, Shown (effect (d.written r inst img) (d.img r inst)) t.chip → p t) : Completes i s p := by
  refine hs.completes hi fun d hd hx => ?_
  obtain ⟨hchip, hpost⟩ := Chip.setRecord_fits (hx ▸ hf.of_quiet hd.quiet hr) (hk d hd) effect id
  rw [hrow d hd]
  refine ⟨hpost, fun t hsh => hp d hd t ?_⟩
  rw [hchip] at hsh
  exact hsh

/-- Whether a write of `ZONE_CFG` is held back reads records that no event writes. -/
theorem Quiet.zoneCfgHeld {c d : Chip} (hq : Quiet c d) (z img : Nat) : d.zoneCfgHeld z img = c.zoneCfgHeld z img := by
  have hrec : ∀ r : RecDesc, r.id % 0x10000 ∉ noisyIds → d.getF r = c.getF r := fun r hr => by
    funext i f
    exact hq.getF r i f hr
  have htab : d.img TICK_TABLE = c.img TICK_TABLE := funext fun i => hq.img TICK_TABLE i (by decide)
  unfold Chip.zoneCfgHeld Chip.badProgram Chip.breaksPin Chip.entry Chip.entries Chip.zoneOwner Chip.getB
  rw [hrec PROGRAM_INFO (by decide), hrec ZONE_CFG (by decide), hrec PLOT_ISOLATION (by decide), htab]

theorem zoneCfgWrite_completes {s : State} {h : Hdr} {x : Ctx} {z ver img : Nat} (hs : Served s h setRecordSpec x)
    (hwho : x.who.estateOnly = true) (hf : WriteFits s.chip h ZONE_CFG z ver img) (howner : ZONE_CFG.OWNER.get img ≤ 256)
    (hbad : zoneCfgBad z img = false) (hheld : s.chip.zoneCfgHeld z img = false) :
    Completes (.zoneCfgWrite h z ver img) s fun t => Wrote s t ZONE_CFG z img := by
  refine hs.write_completes (by decide) hf (exec_zoneCfgWrite ..) _ _ (fun _ _ => rfl)
    (fun d hd => ⟨by simp [badOwner, howner], hwho, rfl, hbad, by simp [hd.quiet.zoneCfgHeld, hheld]⟩) fun d hd t hsh => ?_
  unfold Wrote
  rw [hsh.img _ _ (by decide), (Zonal.zoneCfgEffect _ z _).img _ _ (by decide), Chip.written_img_self, hd.quiet.img _ _ (by decide)]

/-! ## `ZONE_PARAMS` -/

/-- `SET_RECORD` writes every bit of the 64 words. -/
theorem zoneParams_writeMask : ZONE_PARAMS.writeMask = 2 ^ 2048 - 1 := by decide +kernel

theorem get_merge_zoneParams (n old new : Nat) (hn : n < 64) :
    (ZONE_PARAMS.P n).get (ZONE_PARAMS.merge old new) = (ZONE_PARAMS.P n).get new := by
  refine RecDesc.get_merge _ _ _ _ fun k _ hk => ?_
  have hlt : k < 2048 := by
    simp only [ZONE_PARAMS.P] at hk
    omega
  rw [zoneParams_writeMask, Nat.testBit_two_pow_sub_one, decide_eq_true hlt]

theorem zoneParams_apart (i j : Nat) (h : i ≠ j) : (ZONE_PARAMS.P i).apart (ZONE_PARAMS.P j) := by
  unfold Fld.apart ZONE_PARAMS.P
  dsimp only
  omega

/-- The image that a write of `ZONE_PARAMS` stores: the words the writer may write as given, the others as they were (R154). -/
theorem Chip.get_paramsMerged (c : Chip) (w : Who) (z img n : Nat) (hn : n < 64) :
    (ZONE_PARAMS.P n).get (c.paramsMerged w z img) =
      if c.mayWord w z n then (ZONE_PARAMS.P n).get img else c.getF ZONE_PARAMS z (ZONE_PARAMS.P n) := by
  unfold Chip.paramsMerged
  rw [get_setFields_map _ zoneParams_apart (fun n => (ZONE_PARAMS.P n).get img), Nat.mod_eq_of_lt (Fld.get_lt _ _)]
  simp only [List.mem_filter, List.mem_range, hn, true_and, Chip.getF]

theorem Quiet.paramsMerged {c d : Chip} (hq : Quiet c d) (w : Who) (z img : Nat) : d.paramsMerged w z img = c.paramsMerged w z img := by
  unfold Chip.paramsMerged Chip.mayWord
  rw [hq.img ZONE_PARAMS z (by decide), hq.img ZONE_CFG z (by decide)]

theorem Quiet.zoneOwner {c d : Chip} (hq : Quiet c d) (z : Nat) : d.zoneOwner z = c.zoneOwner z := hq.getF _ _ _ (by decide)

theorem Quiet.enrolledZone {c d : Chip} (hq : Quiet c d) (z : Nat) : d.enrolledZone z = c.enrolledZone z := by
  unfold Chip.enrolledZone Chip.slotState
  rw [hq.zoneOwner, hq.getF PLOT_SLOT _ _ (by decide)]

theorem Quiet.paramsOut {c d : Chip} (hq : Quiet c d) (z img : Nat) : d.paramsOut z img = c.paramsOut z img := by
  unfold Chip.paramsOut Chip.limitsOf Chip.getS
  rw [hq.zoneOwner, hq.img ZONE_CFG _ (by decide), hq.getF PLOT_LIMITS _ _ (by decide), hq.getF PLOT_LIMITS _ _ (by decide)]

theorem zoneParamsWrite_completes {s : State} {h : Hdr} {x : Ctx} {z ver img : Nat} (hs : Served s h setRecordSpec x)
    (hwho : x.who.estateOnly = true ∨
      (x.who = .plot (s.chip.zoneOwner z) ∧ s.chip.enrolledZone z = true ∧ s.chip.paramsOut z img = false))
    (hf : WriteFits s.chip h ZONE_PARAMS z ver (s.chip.paramsMerged x.who z img)) :
    Completes (.zoneParamsWrite h z ver img) s fun t => ∀ n, n < 64 →
      t.chip.getF ZONE_PARAMS z (ZONE_PARAMS.P n) =
        (if s.chip.mayWord x.who z n then (ZONE_PARAMS.P n).get img else s.chip.getF ZONE_PARAMS z (ZONE_PARAMS.P n)) := by
  refine hs.write_completes (by decide) hf (exec_zoneParamsWrite ..) _ _ (fun d hd => by rw [← hd.quiet.paramsMerged]; rfl)
    (fun d hd => ⟨rfl, ?_, rfl, ?_, rfl⟩) fun d hd t hsh n hn => ?_
  · rcases hwho with hw | ⟨hw, he, -⟩
    · simp [hw]
    · simp [hw, hd.quiet.zoneOwner, hd.quiet.enrolledZone, he]
  · rcases hwho with hw | ⟨-, -, ho⟩
    · simp [hw]
    · simp [hd.quiet.paramsOut, ho]
  rw [Chip.getF, hsh.img _ _ (by decide), Chip.img_upd_ne _ _ _ _ _ _ (recKey_ne_of_id (by decide) _ _), Chip.written_img_self,
    get_merge_zoneParams _ _ _ hn, Chip.get_paramsMerged _ _ _ _ _ hn]

/-! ## `PLOT_LIMITS` and `PLOT_ISOLATION` -/

theorem plotLimitsWrite_completes {s : State} {h : Hdr} {x : Ctx} {p ver img : Nat} (hs : Served s h setRecordSpec x)
    (hwho : x.who.estateOnly = true) (hf : WriteFits s.chip h PLOT_LIMITS p ver img)
    (hsp : toSigned 16 (PLOT_LIMITS.SP_MIN.get img) ≤ toSigned 16 (PLOT_LIMITS.SP_MAX.get img))
    (hocc : PLOT_LIMITS.OCC_EARLIEST.get img ≤ PLOT_LIMITS.OCC_LATEST.get img) :
    Completes (.plotLimitsWrite h p ver img) s fun t => Wrote s t PLOT_LIMITS p img := by
  refine hs.write_completes (by decide) hf (exec_plotLimitsWrite ..) _ (fun c _ => c.clampWords p)
    (fun _ _ => by unfold Chip.plotLimitsWrite; rfl) (fun d hd => ⟨rfl, hwho, rfl, by simp [hsp, hocc], rfl⟩) fun d hd t hsh => ?_
  unfold Wrote
  rw [hsh.img _ _ (by decide), (Zonal.clampWords _ p).img _ _ (by decide), Chip.written_img_self, hd.quiet.img _ _ (by decide)]

theorem plotIsolationWrite_completes {s : State} {h : Hdr} {x : Ctx} {p ver img : Nat} (hs : Served s h setRecordSpec x)
    (hwho : x.who.estateOnly = true) (hf : WriteFits s.chip h PLOT_ISOLATION p ver img) :
    Completes (.plotIsolationWrite h p ver img) s fun t =>
      t.chip.getF PLOT_ISOLATION p PLOT_ISOLATION.MODE = PLOT_ISOLATION.MODE.get img := by
  refine hs.write_completes (by decide) hf (exec_plotIsolationWrite ..) _ _ (fun _ _ => rfl) (fun d hd => ⟨rfl, hwho, rfl, rfl, rfl⟩)
    fun d hd t hsh => ?_
  rw [hsh.getF _ _ _ (by decide), Chip.showIsolation, Chip.getF_upd_one_apart _ _ _ _ _ _ (by decide), Chip.getF, Chip.written_img_self]
  exact RecDesc.get_merge _ _ _ _ fun n hn hlt => by
    obtain rfl : n = 0 := by simp only [PLOT_ISOLATION.MODE] at hlt; omega
    decide +kernel

/-! ## `TERRACE_PERF` -/

theorem terracePerfWrite_completes {s : State} {h : Hdr} {x : Ctx} {t₀ ver img : Nat} (hs : Served s h setRecordSpec x)
    (hwho : x.who.estateOnly = true) (hf : WriteFits s.chip h TERRACE_PERF t₀ ver img) :
    Completes (.terracePerfWrite h t₀ ver img) s fun t =>
      Wrote s t TERRACE_PERF t₀ img ∧ t.chip.getF TERRACE_STATUS t₀ TERRACE_STATUS.MODE = t.chip.getF TERRACE_PERF t₀ TERRACE_PERF.MODE ∧
      (t.chip.ter t₀).target =
        modeClock (t.chip.getF TERRACE_PERF t₀ TERRACE_PERF.MODE) (s.chip.getF TERRACE_STATUS t₀ TERRACE_STATUS.THROTTLE) := by
  refine hs.write_completes (by decide) hf (exec_terracePerfWrite ..) _ _ (fun _ _ => rfl) (fun d hd => ⟨rfl, hwho, rfl, rfl, rfl⟩)
    fun d hd t hsh => ?_
  set e := d.written TERRACE_PERF t₀ img with he
  have himg : t.chip.img TERRACE_PERF t₀ = e.img TERRACE_PERF t₀ := by
    rw [hsh.img _ _ (by decide), Chip.img_modTer, Chip.img_upd_ne _ _ _ _ _ _ (recKey_ne_of_id (by decide) _ _)]
  have hmode : t.chip.getF TERRACE_PERF t₀ TERRACE_PERF.MODE = e.getF TERRACE_PERF t₀ TERRACE_PERF.MODE := by
    rw [Chip.getF, himg, Chip.getF]
  have hthr : e.getF TERRACE_STATUS t₀ TERRACE_STATUS.THROTTLE = s.chip.getF TERRACE_STATUS t₀ TERRACE_STATUS.THROTTLE := by
    rw [Chip.getF, he, Chip.written_img_ne _ _ _ _ _ _ (recKey_ne_of_id (by decide) _ _), hd.quiet.img _ _ (by decide), Chip.getF]
  refine ⟨?_, ?_, ?_⟩
  · unfold Wrote
    rw [himg, he, Chip.written_img_self, hd.quiet.img _ _ (by decide)]
  · rw [hmode, hsh.getF _ _ _ (by decide), Chip.getF_modTer, Chip.getF_upd_one]
    exact Nat.mod_eq_of_lt (Fld.get_lt _ _)
  · rw [hmode, ← hthr, hsh.ter, Chip.ter_modTer_self, Chip.getF_upd_one_apart _ _ _ _ _ _ (by decide)]

/-- Settles O25: each write leaves its record's merged image, and what follows the write spares the fields the statement names. -/
theorem zoneConfigWrites : Obligations.ZoneConfigWrites := by
  unfold Obligations.ZoneConfigWrites
  exact ⟨fun s h x z ver img hs hwho hf ho hb hh => zoneCfgWrite_completes hs hwho hf ho hb hh,
    fun s h x z ver img hs hwho hf => zoneParamsWrite_completes hs hwho hf,
    fun s h x p ver img hs hwho hf hsp hocc => plotLimitsWrite_completes hs hwho hf hsp hocc,
    fun s h x p ver img hs hwho hf => plotIsolationWrite_completes hs hwho hf,
    fun s h x t₀ ver img hs hwho hf => terracePerfWrite_completes hs hwho hf⟩

end Sys2Proof.Machine
end

section
/-!
PROOF. Terraces: watchdogs and resets (R139, R145, R149, R150). What each operation leaves of the states of terraces and pergolas is said first,
for one operation at a time.
-/

namespace Sys2Proof.Machine

/-! ## States of terraces and pergolas -/

theorem Shown.tstate {c d : Chip} (h : Shown c d) (t : Nat) : d.tstate t = c.tstate t := h.getF _ _ _ (by decide)

theorem Shown.pstate {c d : Chip} (h : Shown c d) (p : Nat) : d.pstate p = c.pstate p := h.getF _ _ _ (by decide)

theorem Zonal.tstate {c d : Chip} (h : Zonal c d) (t : Nat) : d.tstate t = c.tstate t := h.getF _ _ _ (by decide)

theorem Zonal.pstate {c d : Chip} (h : Zonal c d) (p : Nat) : d.pstate p = c.pstate p := h.getF _ _ _ (by decide)

theorem Quiet.tstate {c d : Chip} (h : Quiet c d) (t : Nat) : d.tstate t = c.tstate t := h.getF _ _ _ (by decide)

theorem Quiet.pstate {c d : Chip} (h : Quiet c d) (p : Nat) : d.pstate p = c.pstate p := h.getF _ _ _ (by decide)

theorem Quiet.ter {c d : Chip} (h : Quiet c d) (t : Nat) : d.ter t = c.ter t := by simp only [Chip.ter, h.zones]

theorem Quiet.perg {c d : Chip} (h : Quiet c d) (p : Nat) : d.perg p = c.perg p := by simp only [Chip.perg, h.zones]

/-- Writing another record leaves the state of a terrace. -/
theorem Chip.tstate_upd_ne (c : Chip) (r : RecDesc) (i : Nat) (fs : List (Fld × Nat)) (t : Nat)
    (hr : r.id % 0x10000 ≠ TERRACE_STATUS.id % 0x10000) : (c.upd r i fs).tstate t = c.tstate t :=
  Chip.getF_upd_ne c _ _ _ _ _ fs (recKey_ne_of_id hr _ _)

/-- Writing another record leaves the state of a pergola. -/
theorem Chip.pstate_upd_ne (c : Chip) (r : RecDesc) (i : Nat) (fs : List (Fld × Nat)) (p : Nat)
    (hr : r.id % 0x10000 ≠ PERGOLA_STATUS.id % 0x10000) : (c.upd r i fs).pstate p = c.pstate p :=
  Chip.getF_upd_ne c _ _ _ _ _ fs (recKey_ne_of_id hr _ _)

/-! ## The pergolas shown -/

theorem Chip.showPergolas_zones (c : Chip) (t : Nat) : (c.showPergolas t).zones = c.zones := by
  unfold Chip.showPergolas
  dsimp only
  rw [Chip.upd_zones]
  refine Chip.eachOf_keeps Chip.zones _ _ _ fun c p => ?_
  split
  · rfl
  · exact Chip.upd_zones c _ _ _

theorem Chip.showPergolas_ter (c : Chip) (t u : Nat) : (c.showPergolas t).ter u = c.ter u := by
  unfold Chip.ter
  rw [Chip.showPergolas_zones]

theorem Chip.showPergolas_perg (c : Chip) (t p : Nat) : (c.showPergolas t).perg p = c.perg p := by
  unfold Chip.perg
  rw [Chip.showPergolas_zones]

/-- Showing the pergolas writes `PERGOLA_STATUS` and `SPARE_BUSY` alone. -/
theorem Chip.showPergolas_getF (c : Chip) (t : Nat) (r : RecDesc) (i : Nat) (f : Fld) (hr : r.id % 0x10000 ≠ PERGOLA_STATUS.id % 0x10000)
    (hbusy : ∀ (c : Chip) (v : Nat), (c.upd TERRACE_STATUS t [(TERRACE_STATUS.SPARE_BUSY, v)]).getF r i f = c.getF r i f) :
    (c.showPergolas t).getF r i f = c.getF r i f := by
  unfold Chip.showPergolas
  dsimp only
  rw [hbusy]
  refine Chip.eachOf_keeps (fun c => c.getF r i f) _ _ _ fun c p => ?_
  split
  · rfl
  · exact Chip.getF_upd_ne _ _ _ _ _ _ _ (recKey_ne_of_id hr.symm _ _)

theorem Chip.showPergolas_tstate (c : Chip) (t u : Nat) : (c.showPergolas t).tstate u = c.tstate u :=
  Chip.showPergolas_getF c t _ _ _ (by decide) fun c _ => Chip.getF_upd_apart_inst c _ _ _ _ _ (apart_of_one (by decide))

theorem Chip.showPergolas_firstTick (c : Chip) (t z : Nat) :
    (c.showPergolas t).getF ZONE_STATUS z ZONE_STATUS.FIRST_TICK = c.getF ZONE_STATUS z ZONE_STATUS.FIRST_TICK :=
  Chip.showPergolas_getF c t _ _ _ (by decide) fun c _ => Chip.getF_upd_ne c _ _ _ _ _ _ (recKey_ne_of_id (by decide) _ _)

/-- A pergola shown is not put in reset. -/
theorem Chip.showPergolas_pstate_ne (c : Chip) (t p : Nat) (h : c.pstate p ≠ psResetting) : (c.showPergolas t).pstate p ≠ psResetting := by
  unfold Chip.showPergolas
  dsimp only
  rw [Chip.pstate_upd_ne _ _ _ _ _ (by decide)]
  refine Chip.eachOf_preserves (fun c => c.pstate p ≠ psResetting) (fun c q hc => ?_) _ h
  split
  · exact hc
  · by_cases hpq : q = p
    · subst hpq
      rw [Chip.pstate, Chip.getF_upd_one]
      split
      · decide
      · split <;> decide
    · rw [Chip.pstate, Chip.getF_upd_ne _ _ _ _ _ _ _ (recKey_ne_of_inst _ hpq)]
      exact hc

theorem Chip.rehome_firstTick (c : Chip) (t z : Nat) :
    (c.rehome t).getF ZONE_STATUS z ZONE_STATUS.FIRST_TICK = c.getF ZONE_STATUS z ZONE_STATUS.FIRST_TICK := by
  have hupd : ∀ (c : Chip) (i : Nat) (fs : List (Fld × Nat)), (∀ p ∈ fs, ZONE_STATUS.FIRST_TICK.apart p.1) →
      (c.upd ZONE_STATUS i fs).getF ZONE_STATUS z ZONE_STATUS.FIRST_TICK = c.getF ZONE_STATUS z ZONE_STATUS.FIRST_TICK :=
    fun c i fs h => Chip.getF_upd_apart_inst c _ _ _ _ fs h
  unfold Chip.rehome Chip.showEngines
  refine (Chip.eachOf_keeps (fun c => c.getF ZONE_STATUS z ZONE_STATUS.FIRST_TICK) _ _ _ fun c y => ?_).trans
    (Chip.eachOf_keeps (fun c => c.getF ZONE_STATUS z ZONE_STATUS.FIRST_TICK) _ _ _ fun c y => ?_)
  · unfold Chip.undisplace
    split
    · exact hupd _ _ _ (apart_of_one (by decide))
    · rfl
  · split <;> exact hupd _ _ _ (apart_of_two (by decide))

/-! ## Resets of terraces -/

/-- A terrace out of service shows it, and its reset is over. -/
theorem Chip.terraceOutOfService_state (c : Chip) (t : Nat) :
    (c.terraceOutOfService t).tstate t = tsOutOfService ∧ ((c.terraceOutOfService t).ter t).reset = none := by
  have hkeep : ∀ (c : Chip) (p : Nat), (if c.pstate p = psRetired then c else c.upd PERGOLA_STATUS p [(PERGOLA_STATUS.PSTATE, psOff)]).tstate t
      = c.tstate t ∧ (if c.pstate p = psRetired then c else c.upd PERGOLA_STATUS p [(PERGOLA_STATUS.PSTATE, psOff)]).ter t = c.ter t := by
    intro c p
    split
    · exact ⟨rfl, rfl⟩
    · exact ⟨Chip.tstate_upd_ne _ _ _ _ _ (by decide), Chip.ter_upd _ _ _ _ _⟩
  unfold Chip.terraceOutOfService
  dsimp only
  have hraise := fun (c : Chip) d => Zonal.of_noise (Noise.raise c 0x0211 2 t d evDiag)
  rw [(hraise _ _).tstate, (hraise _ _).ter]
  refine Chip.eachOf_preserves (fun c => c.tstate t = tsOutOfService ∧ (c.ter t).reset = none) (fun c p hc => ?_) _ ⟨?_, ?_⟩
  · rw [(hkeep c p).1, (hkeep c p).2]
    exact hc
  · rw [Chip.tstate, Chip.getF_upd_one]
    rfl
  · rw [Chip.ter_upd, Chip.ter_modTer_self]

theorem Chip.terraceResetStart_state (c : Chip) (t cause : Nat) (k : Option Nat) :
    (c.terraceResetStart t cause k).tstate t = tsResetting ∧ ((c.terraceResetStart t cause k).ter t).reset = some (cause, k) := by
  unfold Chip.terraceResetStart
  dsimp only
  rw [Chip.tstate, Chip.getF_upd_one, Chip.ter_upd, Chip.ter_modTer_self]
  exact ⟨rfl, rfl⟩

theorem terraceWatchdog_completes (s : State) (t₀ cause : Nat) (ht₀ : t₀ < 4) (hin : s.chip.tstate t₀ = tsInService) :
    Completes (.terraceWatchdog t₀ cause) s fun t =>
      if 2 ≤ (s.chip.recent (s.chip.ter t₀).autoResets).length then t.chip.tstate t₀ = tsOutOfService
      else t.chip.tstate t₀ = tsResetting ∧ (t.chip.ter t₀).reset = some (cause, none) := by
  refine Completes.of_run ((exec_terraceWatchdog ..).trans (if_pos ht₀)) fun t hsh => ?_
  rw [hsh.tstate, hsh.ter, Chip.terraceWatchdog, Chip.autoReset, if_neg (not_not_intro hin)]
  dsimp only
  rw [List.length_append, List.length_singleton]
  by_cases h : 2 ≤ (s.chip.recent (s.chip.ter t₀).autoResets).length
  · rw [if_pos h, if_pos (Nat.succ_le_succ h)]
    exact (Chip.terraceOutOfService_state _ _).1
  · rw [if_neg h, if_neg (by omega)]
    exact Chip.terraceResetStart_state _ _ _ _

/-- A load that is dropped is finished, its handle kept. -/
theorem Owned.dropLoad (c : Chip) (t st : Nat) : Owned c (c.dropLoad t st) := by
  unfold Chip.dropLoad
  split
  · exact refl c
  · exact trans (trans (finish c _ _ _) (modTer _ t _)) (upd _ _ _ _)

/-- A terrace that stops takes no handle from its owner. -/
theorem Owned.terraceStop (c : Chip) (t : Nat) : Owned c (c.terraceStop t) := by
  have hzone : ∀ (c : Chip) (z : Nat), Owned c ((((c.displace z).unload z).restartHistory z).dropRound z) := fun c z =>
    of_handles ((((Zonal.displace c z).trans (Zonal.unload _ z)).trans (Zonal.restartHistory _ z)).trans (Zonal.dropRound _ z)).host.handles
  unfold Chip.terraceStop
  refine trans (trans (trans (dropLoad c t _) (eachOf _ _ _ hzone)) (eachOf _ _ _ fun c p => ?_)) (upd _ _ _ _)
  exact trans (trans (answerWaits _ _ _ _) (each _ _ _ fun c k => setLane c _ _)) (ite _ (upd _ _ _ _) (upd _ _ _ _))

theorem Owned.terraceResetStart (c : Chip) (t cause : Nat) (k : Option Nat) : Owned c (c.terraceResetStart t cause k) := by
  unfold Chip.terraceResetStart
  exact trans (trans (terraceStop c t) (modTer _ t _)) (upd _ _ _ _)

theorem Chip.accept_free (c : Chip) (x : Ctx) (start : Chip → Nat → Chip) (k : Nat) (hk : c.freeHandle x.si = some k) :
    (c.accept x start).post = id ∧ (c.accept x start).chip = start (c.newHandle x.si k) k := by
  unfold Chip.accept
  rw [hk]
  exact ⟨rfl, rfl⟩

theorem terraceReset_completes {s : State} {h : Hdr} {x : Ctx} {t₀ k : Nat} (hs : Served s h (zoneCmdSpec 0x0203 [2] (Who.estateOr scDiag)) x)
    (ht₀ : t₀ < 4) (hrsv : h.prsv = 0) (hwho : x.who.estateOnly = true ∨ s.chip.tstate t₀ ≠ tsOutOfService)
    (hres : s.chip.tstate t₀ ≠ tsResetting) (hoff : s.chip.tstate t₀ ≠ tsOff) (hk : s.chip.freeHandle x.si = some k) :
    Completes (.terraceReset h t₀) s fun t =>
      t.chip.tstate t₀ = tsResetting ∧ (t.chip.ter t₀).reset = some (0, some k) ∧ (t.chip.hnd k).owner = some x.si := by
  refine hs.completes (exec_terraceReset ..) fun d hd _ => ?_
  have hts : d.tstate t₀ = s.chip.tstate t₀ := (Zonal.of_noise hd).tstate t₀
  have hfree : d.freeHandle x.si = some k := by
    rw [← hk]
    unfold Chip.freeHandle Chip.hnd
    rw [hd.host.handles]
  dsimp only
  rw [checks_pass]
  · obtain ⟨hpost, hchip⟩ := Chip.accept_free d x _ k hfree
    refine ⟨hpost, fun t hsh => ?_⟩
    rw [hchip] at hsh
    obtain ⟨hreset, hcause⟩ := Chip.terraceResetStart_state _ t₀ 0 (some k)
    rw [hsh.tstate, hsh.ter, hsh.owned]
    refine ⟨hreset, hcause, ?_⟩
    rw [Owned.terraceResetStart, Owned.ite _ (Owned.trans (Owned.modTer _ _ _) (Owned.upd _ _ _ _)) (Owned.refl _), Chip.newHandle,
      Chip.hnd_setHnd, if_pos rfl]
  · have hden : (!x.who.estateOnly && d.tstate t₀ == tsOutOfService) = false := by
      rcases hwho with hw | hw <;> simp [hw, hts]
    have hst : (d.tstate t₀ == tsResetting || d.tstate t₀ == tsOff) = false := by simp [hts, hres, hoff]
    simp [hden, hst, hrsv]
    omega

end Sys2Proof.Machine
end

section
/-!
PROOF. The end of a terrace's reset, and the pergolas: faults, self-tests, resets and moves (R147, R148), and the memory errors of a terrace
(R149).
-/

namespace Sys2Proof.Machine

/-- A reset that ends well returns the terrace, and every zone of it starts with its first tick. -/
theorem Chip.terraceResetDone_pass (c : Chip) (t resume : Nat) (r : Nat × Option Nat) (hr : (c.ter t).reset = some r) :
    (c.terraceResetDone t resume true).tstate t = tsInService ∧ ((c.terraceResetDone t resume true).ter t).reset = none ∧
      ∀ z ∈ terraceZones t, (c.terraceResetDone t resume true).getF ZONE_STATUS z ZONE_STATUS.FIRST_TICK = 1 := by
  obtain ⟨cause, handle⟩ := r
  have hend : ∀ (c : Chip) d a, Quiet c ((c.finish handle stOk d).raise 0x0210 1 t a evDiag) := fun c d a =>
    (Quiet.finish c _ _ _).trans (Quiet.raise _ _ _ _ _ _)
  unfold Chip.terraceResetDone
  rw [hr]
  dsimp only
  rw [if_pos rfl]
  refine ⟨?_, ?_, fun z hz => ?_⟩
  · rw [(hend _ _ _).tstate, (Zonal.rehome _ t).tstate, Chip.showPergolas_tstate,
      Chip.eachOf_keeps (fun c => c.tstate t) _ _ _ fun c z => Chip.tstate_upd_ne c _ _ _ _ (by decide)]
    refine Chip.eachOf_preserves (fun c => c.tstate t = tsInService) (fun c p hc => ?_) _ ?_
    · split
      · exact hc
      · exact (Chip.tstate_upd_ne c _ _ _ _ (by decide)).trans hc
    · rw [Chip.tstate, Chip.getF_upd_one]
      rfl
  · rw [(hend _ _ _).ter, (Zonal.rehome _ t).ter, Chip.showPergolas_ter,
      Chip.eachOf_keeps (fun c => c.ter t) _ _ _ fun c z => Chip.ter_upd c _ _ _ _]
    refine Chip.eachOf_preserves (fun c => (c.ter t).reset = none) (fun c p hc => ?_) _ ?_
    · split
      · exact hc
      · rw [Chip.ter_modPerg, Chip.ter_upd]
        exact hc
    · rw [Chip.ter_upd, Chip.ter_modTer_self]
  · rw [(hend _ _ _).getF _ _ _ (by decide), Chip.rehome_firstTick, Chip.showPergolas_firstTick]
    refine Chip.eachOf_establishes (fun c => c.getF ZONE_STATUS z ZONE_STATUS.FIRST_TICK = 1) hz (fun c y hc => ?_) _
    by_cases hyz : y = z
    · rw [hyz, Chip.getF_upd_one]
      rfl
    · rw [Chip.getF_upd_ne _ _ _ _ _ _ _ (recKey_ne_of_inst _ hyz)]
      exact hc.resolve_left hyz

theorem terraceResetDone_pass_completes (s : State) (t₀ resume : Nat) (r : Nat × Option Nat) (ht₀ : t₀ < 4)
    (hr : (s.chip.ter t₀).reset = some r) :
    Completes (.terraceResetDone t₀ resume true) s fun t =>
      t.chip.tstate t₀ = tsInService ∧ (t.chip.ter t₀).reset = none ∧
      (∀ z ∈ terraceZones t₀, t.chip.getF ZONE_STATUS z ZONE_STATUS.FIRST_TICK = 1) := by
  refine Completes.of_run ((exec_terraceResetDone ..).trans (if_pos ht₀)) fun t hsh => ?_
  obtain ⟨hts, hreset, htick⟩ := Chip.terraceResetDone_pass _ t₀ resume r hr
  exact ⟨(hsh.tstate _).trans hts, by rw [hsh.ter, hreset], fun z hz => (hsh.getF _ _ _ (by decide)).trans (htick z hz)⟩

theorem terraceResetDone_fail_completes (s : State) (t₀ resume : Nat) (r : Nat × Option Nat) (ht₀ : t₀ < 4)
    (hr : (s.chip.ter t₀).reset = some r) :
    Completes (.terraceResetDone t₀ resume false) s fun t => t.chip.tstate t₀ = tsOutOfService ∧ (t.chip.ter t₀).reset = none := by
  refine Completes.of_run ((exec_terraceResetDone ..).trans (if_pos ht₀)) fun t hsh => ?_
  obtain ⟨cause, handle⟩ := r
  rw [hsh.tstate, hsh.ter, Chip.terraceResetDone, hr]
  exact Chip.terraceOutOfService_state _ t₀

/-! ## Faults of pergolas -/

/-- A pergola that stops shows the state given and keeps its other fields and its terrace's. -/
theorem Chip.pergolaStop_pstate (c : Chip) (p ps : Nat) : (c.pergolaStop p ps).pstate p = ps % 256 := by
  unfold Chip.pergolaStop
  dsimp only
  rw [(Zonal.showEngines _ _).pstate, Chip.pstate, Chip.getF_upd_one]
  rfl

/-- The lanes of a pergola and the zones on them stop. -/
theorem Zonal.pergolaZonesStop (c : Chip) (p : Nat) (zs : List Nat) :
    Zonal c ((c.eachOf zs Chip.displace).each 4 (fun c k => c.setLane (4 * p + k) {})) :=
  (Zonal.eachOf c zs _ Zonal.displace).trans (Zonal.each _ 4 _ fun c _ => Zonal.setLane c _ _)

theorem Chip.pergolaStop_getF (c : Chip) (p ps : Nat) (f : Fld) (hf : f.apart PERGOLA_STATUS.PSTATE) :
    (c.pergolaStop p ps).getF PERGOLA_STATUS p f = c.getF PERGOLA_STATUS p f := by
  unfold Chip.pergolaStop
  dsimp only
  rw [(Zonal.showEngines _ _).getF _ _ _ (by decide), Chip.getF_upd_one_apart _ _ _ _ _ _ hf, Chip.getF_modPerg,
    (Zonal.pergolaZonesStop c p _).getF _ _ _ (by decide)]

theorem HostKept.modPerg (c : Chip) (p : Nat) (f : Pergola → Pergola) : HostKept c (c.modPerg p f) := of_host rfl

theorem HostKept.pergolaStop (c : Chip) (p ps : Nat) : HostKept c (c.pergolaStop p ps) := by
  unfold Chip.pergolaStop
  exact (((Zonal.pergolaZonesStop c p _).host.trans (HostKept.modPerg _ p _)).trans (HostKept.upd _ _ _ _)).trans (Zonal.showEngines _ _).host

/-- A pergola retired shows what it shows when it stops. -/
theorem Chip.pergolaRetire_getF (c : Chip) (p : Nat) (d : List Nat) (f : Fld) :
    (((c.pergolaStop p psRetired).showRetired p true).raise 0x0209 2 p d evDiag).getF PERGOLA_STATUS p f =
      (c.pergolaStop p psRetired).getF PERGOLA_STATUS p f := by
  rw [(Quiet.raise _ _ _ _ _ _).getF _ _ _ (by decide)]
  exact Chip.getF_upd_ne _ _ _ _ _ _ _ (recKey_ne_of_id (by decide) _ _)

/-- A fault of a pergola in service: counted, its cause kept, the pergola in reset, or retired at the third in 10 minutes (R147, R148). -/
theorem Chip.pergolaFault_state (c : Chip) (p cause : Nat) (hcause : cause < 256) (hret : c.pstate p ≠ psRetired) (hoff : c.pstate p ≠ psOff)
    (hin : c.tstate (p / 16) = tsInService) :
    (c.pergolaFault p cause).getF PERGOLA_STATUS p PERGOLA_STATUS.FAULT_CNT = satInc 32 (c.getF PERGOLA_STATUS p PERGOLA_STATUS.FAULT_CNT) ∧
    (c.pergolaFault p cause).getF PERGOLA_STATUS p PERGOLA_STATUS.LAST_CAUSE = cause ∧
    (c.pergolaFault p cause).pstate p = (if 2 ≤ (c.recent (c.perg p).faults).length then psRetired else psResetting) := by
  have hguard : ¬ (c.pstate p = psRetired ∨ c.pstate p = psOff ∨ 2 ≤ c.tstate (p / 16)) := by
    rw [hin]
    simp [hret, hoff]
  unfold Chip.pergolaFault
  dsimp only
  rw [if_neg hguard]
  set a := c.incSat PERGOLA_STATUS p PERGOLA_STATUS.FAULT_CNT PERGOLA_STATUS.SAT 0 with ha
  have hcnt : a.getF PERGOLA_STATUS p PERGOLA_STATUS.FAULT_CNT = satInc 32 (c.getF PERGOLA_STATUS p PERGOLA_STATUS.FAULT_CNT) :=
    Chip.getF_incSat_self c _ _ _ _ _ (by decide)
  have hts : a.tstate (p / 16) = tsInService := (Chip.tstate_upd_ne c _ _ _ _ (by decide)).trans hin
  have hrec : a.recent (a.perg p).faults = c.recent (c.perg p).faults := by
    rw [ha, Chip.incSat, Chip.perg_upd]
    unfold Chip.recent Chip.since
    rw [Chip.upd_time]
  rw [List.length_append, List.length_singleton, hrec]
  generalize c.recent (c.perg p).faults = fs
  set b := (a.upd PERGOLA_STATUS p [(PERGOLA_STATUS.LAST_CAUSE, cause), (PERGOLA_STATUS.FAULTS_10MIN, min 3 (fs.length + 1))]).modPerg p
    (fun x => { x with faults := fs ++ [a.up], event := true }) with hb
  have hbcnt : b.getF PERGOLA_STATUS p PERGOLA_STATUS.FAULT_CNT = satInc 32 (c.getF PERGOLA_STATUS p PERGOLA_STATUS.FAULT_CNT) := by
    rw [hb, Chip.getF_modPerg, Chip.getF_upd_apart _ _ _ _ _ (apart_of_two (by decide)), hcnt]
  have hbcause : b.getF PERGOLA_STATUS p PERGOLA_STATUS.LAST_CAUSE = cause := by
    rw [hb, Chip.getF_modPerg, Chip.getF_upd_two_fst _ _ _ _ _ _ _ (by decide)]
    exact Nat.mod_eq_of_lt hcause
  have hbts : b.tstate (p / 16) ≠ tsResetting := by
    have : b.tstate (p / 16) = tsInService := (Chip.tstate_upd_ne a _ _ _ _ (by decide)).trans hts
    rw [this]
    decide
  rw [if_neg hbts]
  by_cases h : 2 ≤ fs.length
  · rw [if_pos (Nat.succ_le_succ h), if_pos h]
    refine ⟨?_, ?_, ?_⟩
    · rw [Chip.pergolaRetire_getF, Chip.pergolaStop_getF _ _ _ _ (by decide), hbcnt]
    · rw [Chip.pergolaRetire_getF, Chip.pergolaStop_getF _ _ _ _ (by decide), hbcause]
    · rw [Chip.pstate, Chip.pergolaRetire_getF]
      exact Chip.pergolaStop_pstate _ _ _
  · rw [if_neg (by omega), if_neg h]
    exact ⟨by rw [Chip.pergolaStop_getF _ _ _ _ (by decide), hbcnt], by rw [Chip.pergolaStop_getF _ _ _ _ (by decide), hbcause],
      Chip.pergolaStop_pstate _ _ _⟩

theorem pergolaFault_completes (s : State) (p cause : Nat) (hp : p < 64) (hcause : cause < 256) (hret : s.chip.pstate p ≠ psRetired)
    (hoff : s.chip.pstate p ≠ psOff) (hin : s.chip.tstate (p / 16) = tsInService) :
    Completes (.pergolaFault p cause) s fun t =>
      t.chip.getF PERGOLA_STATUS p PERGOLA_STATUS.FAULT_CNT = satInc 32 (s.chip.getF PERGOLA_STATUS p PERGOLA_STATUS.FAULT_CNT) ∧
      t.chip.getF PERGOLA_STATUS p PERGOLA_STATUS.LAST_CAUSE = cause ∧
      t.chip.pstate p = (if 2 ≤ (s.chip.recent (s.chip.perg p).faults).length then psRetired else psResetting) := by
  refine Completes.of_run ((exec_pergolaFault ..).trans (if_pos hp)) fun t hsh => ?_
  rw [hsh.getF _ _ _ (by decide), hsh.getF _ _ _ (by decide), hsh.pstate]
  exact Chip.pergolaFault_state _ p cause hcause hret hoff hin

/-! ## Self-tests and resets of pergolas -/

theorem Quiet.answerWaits (c : Chip) (key st : Nat) (d : List Nat) : Quiet c (c.answerWaits key st d) := by
  unfold Chip.answerWaits
  refine (Quiet.of_host c { c.host with waits := c.host.waits.filter (fun w => w.key != key) }).trans (Quiet.eachOf _ _ _ fun c w => ?_)
  dsimp only
  split
  · exact Quiet.showSlots c _
  · exact (Quiet.showSlots c _).trans (Quiet.reply _ _ _ _ _)

theorem Quiet.waitReply (c : Chip) (x : Ctx) (key op : Nat) : Quiet c (c.waitReply x key op) :=
  (Quiet.of_host c { c.host with waits := c.host.waits ++ [⟨key, op, x.ep, x.si, x.h⟩] }).trans (Quiet.showSlots _ _)

theorem pergolaSelfTestDone_completes (s : State) (p : Nat) (hp : p < 64) (hres : s.chip.pstate p = psResetting)
    (hin : s.chip.tstate (p / 16) = tsInService) :
    Completes (.pergolaSelfTestDone p true) s fun t => (t.chip.perg p).passedAt = some s.chip.up ∧ t.chip.pstate p ≠ psResetting := by
  refine Completes.of_run ((exec_pergolaSelfTestDone ..).trans (if_pos hp)) fun t hsh => ?_
  have hguard : ¬ (s.chip.pstate p ≠ psResetting ∨ s.chip.tstate (p / 16) ≠ tsInService) := by simp [hres, hin]
  rw [hsh.perg, hsh.pstate, Chip.pergolaSelfTestDone]
  dsimp only
  rw [if_neg hguard, if_pos rfl]
  set a := (s.chip.upd PERGOLA_STATUS p [(PERGOLA_STATUS.PSTATE, psActive)]).modPerg p
    (fun x => { x with passedAt := some (s.chip.upd PERGOLA_STATUS p [(PERGOLA_STATUS.PSTATE, psActive)]).up }) with ha
  have hpassed : (a.perg p).passedAt = some s.chip.up := by
    rw [ha, Chip.perg_modPerg_self]
    simp only [Chip.up, Chip.upd_time]
  have hactive : a.pstate p = psActive := by
    rw [ha, Chip.pstate, Chip.getF_modPerg, Chip.getF_upd_one]
    rfl
  rw [(Quiet.answerWaits _ _ _ _).perg, Chip.showPergolas_perg, (Quiet.answerWaits _ _ _ _).pstate]
  have hkeep : ∀ b : Chip, b.perg p = a.perg p ∨ (b.perg p).passedAt = (a.perg p).passedAt → b.pstate p = a.pstate p →
      (b.perg p).passedAt = some s.chip.up ∧ (b.showPergolas (p / 16)).pstate p ≠ psResetting := by
    intro b hb hp
    refine ⟨?_, Chip.showPergolas_pstate_ne _ _ _ (by rw [hp, hactive]; decide)⟩
    rcases hb with hb | hb
    · rw [hb, hpassed]
    · rw [hb, hpassed]
  split
  · refine hkeep _ (.inr ?_) ?_
    · rw [(Quiet.raise _ _ _ _ _ _).perg, Chip.perg_upd, Chip.perg_modPerg_self]
      change ((a.showRetired p false).perg p).passedAt = _
      rw [Chip.showRetired, Chip.perg_upd]
    · rw [(Quiet.raise _ _ _ _ _ _).pstate, Chip.pstate, Chip.getF_upd_one_apart _ _ _ _ _ _ (by decide)]
      exact Chip.pstate_upd_ne _ _ _ _ _ (by decide)
  · exact hkeep a (.inl rfl) rfl

theorem pergolaReset_completes {s : State} {h : Hdr} {x : Ctx} {p : Nat} (hs : Served s h (zoneCmdSpec 0x0202 [2] (Who.estateOr scDiag)) x)
    (hp : p < 64) (hrsv : h.prsv = 0) (hwho : x.who.estateOnly = true ∨ s.chip.pstate p ≠ psRetired)
    (hst : s.chip.pstate p ∉ [psOff, psSpare, psResetting]) (hin : s.chip.tstate (p / 16) = tsInService) :
    Completes (.pergolaReset h p) s fun t =>
      t.chip.pstate p = psResetting ∧ t.chip.host.waits = s.chip.host.waits ++ [⟨pergolaWait p, 0x0202, x.ep, x.si, h⟩] := by
  refine hs.completes (exec_pergolaReset ..) fun d hd hx => ?_
  have hps : d.pstate p = s.chip.pstate p := hd.quiet.pstate p
  have hts : d.tstate (p / 16) = tsInService := (hd.quiet.tstate _).trans hin
  dsimp only
  rw [checks_pass]
  · refine ⟨rfl, fun t hsh => ⟨?_, ?_⟩⟩
    · rw [hsh.pstate]
      exact ((Quiet.waitReply _ _ _ _).pstate p).trans (Chip.pergolaStop_pstate _ _ _)
    · rw [hsh.waits]
      unfold Chip.waitReply
      rw [(HostKept.showSlots _ _).waits, (HostKept.pergolaStop d p _).waits, hd.host.waits, hx]
  · have hden : (!x.who.estateOnly && d.pstate p == psRetired) = false := by
      rcases hwho with hw | hw <;> simp [hw, hps]
    have hbad : (d.pstate p == psOff || d.pstate p == psSpare || d.pstate p == psResetting || d.tstate (p / 16) != tsInService) = false := by
      simp only [List.mem_cons, List.not_mem_nil, or_false, not_or] at hst
      obtain ⟨h1, h2, h3⟩ := hst
      simp [hps, hts, h1, h2, h3]
    simp [hden, hbad, hrsv]
    omega

/-! ## Migration -/

theorem pergolaMigration_completes (s : State) (t₀ : Nat) (ht₀ : t₀ < 4) (hin : s.chip.tstate t₀ = tsInService) :
    Completes (.pergolaMigration t₀) s fun t => ∀ p ∈ terracePergolas t₀, (t.chip.perg p).migrate = false := by
  refine Completes.of_run ((exec_pergolaMigration ..).trans (if_pos ht₀)) fun t hsh p hp => ?_
  rw [hsh.perg, Chip.pergolaMigration, if_neg (not_not_intro hin)]
  dsimp only
  rw [(Zonal.rehome _ _).perg, Chip.showPergolas_perg]
  refine Chip.eachOf_establishes (fun c => (c.perg p).migrate = false) hp (fun c q hc => ?_) _
  by_cases hm : (!(c.perg q).migrate) = true
  · rw [if_pos hm]
    rcases hc with rfl | hc
    · simpa using hm
    · exact hc
  · rw [if_neg hm]
    generalize hfold : List.foldl _ (c, 0, 0) (c.homesOn t₀ q) = r
    have hr : r.1.perg p = c.perg p := by
      rw [← hfold]
      exact foldl_keeps (fun r : Chip × Nat × Nat => r.1.perg p) _ (fun r home => by split <;> rfl) _ _
    have hb : ((r.1.modPerg q (fun x => { x with migrate := false })).perg p).migrate = false := by
      rw [Chip.perg_modPerg, hr]
      split
      · rfl
      · next hne => exact hc.resolve_left hne
    split
    · rw [(Quiet.raise _ _ _ _ _ _).perg, Chip.perg_modPerg]
      split <;> exact hb
    · exact hb

theorem pergolaReturnHome_completes (s : State) (t₀ : Nat) (ht₀ : t₀ < 4) :
    Completes (.pergolaReturnHome t₀) s fun t =>
      ∀ m, m ∈ (t.chip.ter t₀).moves ↔ m ∈ (s.chip.ter t₀).moves ∧ ¬ (s.chip.pergolaUp (16 * t₀ + m.1 / 4) = true ∧
        ∃ a, (s.chip.perg (16 * t₀ + m.1 / 4)).passedAt = some a ∧ 60 * ticksPerSecond ≤ s.chip.since a) := by
  refine Completes.of_run ((exec_pergolaReturnHome ..).trans (if_pos ht₀)) fun t hsh m => ?_
  rw [hsh.ter, Chip.pergolaReturnHome]
  dsimp only
  rw [(Zonal.rehome _ _).ter, Chip.showPergolas_ter, Chip.ter_modTer_self, List.mem_filter]
  refine and_congr_right fun _ => ?_
  cases (s.chip.perg (16 * t₀ + m.1 / 4)).passedAt with
  | none => simp
  | some a => cases s.chip.pergolaUp (16 * t₀ + m.1 / 4) <;> simp

/-! ## Memory errors -/

theorem eccScrub_single_completes (s : State) (t₀ region offset : Nat) (ht₀ : t₀ < 4) (hreg : region < 4) :
    Completes (.eccScrub t₀ region offset false) s fun t =>
      t.chip.getF TERRACE_STATUS t₀ TERRACE_STATUS.ECC_CE_CNT = satInc 32 (s.chip.getF TERRACE_STATUS t₀ TERRACE_STATUS.ECC_CE_CNT) := by
  refine Completes.of_run ((exec_eccScrub ..).trans (if_pos ⟨ht₀, by omega⟩)) fun t hsh => ?_
  rw [hsh.getF _ _ _ (by decide), Chip.eccScrub, if_neg (by omega)]
  exact Chip.getF_incSat_self _ _ _ _ _ _ (by decide)

theorem contextArea_le {o a : Nat} (h : contextArea o = some a) : a < 6 := by
  unfold contextArea at h
  grind

theorem eccScrub_context_completes (s : State) (t₀ offset a z : Nat) (ht₀ : t₀ < 4) (ha : contextArea (offset % 1024) = some a)
    (hz : z = 256 * t₀ + offset / 1024 % 256) :
    Completes (.eccScrub t₀ 0 offset true) s fun t =>
      t.chip.getF TERRACE_STATUS t₀ TERRACE_STATUS.ECC_DE_CNT = satInc 32 (s.chip.getF TERRACE_STATUS t₀ TERRACE_STATUS.ECC_DE_CNT) ∧
      t.chip.getF ZONE_STATUS z ZONE_STATUS.CTX_DAMAGED = 1 ∧ (t.chip.getF ZONE_STATUS z ZONE_STATUS.DAMAGE).testBit a = true := by
  refine Completes.of_run ((exec_eccScrub ..).trans (if_pos ⟨ht₀, by omega⟩)) fun t hsh => ?_
  rw [hsh.getF _ _ _ (by decide), hsh.getF _ _ _ (by decide), hsh.getF _ _ _ (by decide), Chip.eccScrub, if_neg (by decide)]
  dsimp only
  rw [if_neg (by decide), if_pos rfl, ha]
  dsimp only
  rw [hz]
  refine ⟨?_, ?_, ?_⟩
  · rw [Chip.getF_upd_ne _ _ _ _ _ _ _ (recKey_ne_of_id (by decide) _ _)]
    exact ((Quiet.raise _ _ _ _ _ _).getF _ _ _ (by decide)).trans (Chip.getF_incSat_self _ _ _ _ _ _ (by decide))
  · rw [Chip.getF_upd_two_snd]
    rfl
  · rw [Chip.getF_upd_two_fst _ _ _ _ _ _ _ (by decide)]
    have hlt : a < ZONE_STATUS.DAMAGE.width := contextArea_le ha
    simp [setBit, Nat.testBit_mod_two_pow, Nat.testBit_or, Nat.testBit_two_pow_self, hlt]

theorem eccScrub_scratch_completes (s : State) (t₀ offset : Nat) (ht₀ : t₀ < 4) :
    Completes (.eccScrub t₀ 4 offset false) s fun t =>
      t.chip.getF PERGOLA_STATUS (16 * t₀ + offset % 16) PERGOLA_STATUS.SCRATCH_CE_CNT =
        satInc 32 (s.chip.getF PERGOLA_STATUS (16 * t₀ + offset % 16) PERGOLA_STATUS.SCRATCH_CE_CNT) := by
  refine Completes.of_run ((exec_eccScrub ..).trans (if_pos ⟨ht₀, by omega⟩)) fun t hsh => ?_
  rw [hsh.getF _ _ _ (by decide)]
  exact Chip.getF_incSat_self _ _ _ _ _ _ (by decide)

theorem programStoreRepair_completes (s : State) (t₀ id : Nat) (ht₀ : t₀ < 4) (hid : id < 128)
    (hbad : (s.chip.ter t₀).badProgs.contains id = true) :
    Completes (.programStoreRepair t₀ id) s fun t => (t.chip.ter t₀).badProgs = (s.chip.ter t₀).badProgs.filter (· != id) := by
  refine Completes.of_run ((exec_programStoreRepair ..).trans (if_pos ⟨ht₀, hid⟩)) fun t hsh => ?_
  rw [hsh.ter, Chip.programStoreRepair, if_neg (by rw [hbad]; decide)]
  dsimp only
  rw [Chip.eccEvent, (Quiet.raise _ _ _ _ _ _).ter, Chip.ter_modTer_self]

/-- Settles O22: clause by clause, what the command's own writes set, no later step of it writes again. -/
theorem terracesAct : Obligations.TerracesAct := by
  unfold Obligations.TerracesAct
  exact ⟨terraceWatchdog_completes, fun _ _ _ _ _ hs ht hrsv hwho hres hoff hk => terraceReset_completes hs ht hrsv hwho hres hoff hk,
    fun s t₀ resume r ht hr => terraceResetDone_pass_completes s t₀ resume r ht hr,
    fun s t₀ resume r ht hr => terraceResetDone_fail_completes s t₀ resume r ht hr,
    pergolaFault_completes, pergolaSelfTestDone_completes,
    fun _ _ _ _ hs hp hrsv hwho hst hin => pergolaReset_completes hs hp hrsv hwho hst hin,
    pergolaMigration_completes, pergolaReturnHome_completes, eccScrub_single_completes, eccScrub_context_completes,
    eccScrub_scratch_completes, programStoreRepair_completes⟩

end Sys2Proof.Machine
end

section
/-!
SUPPORT. What the tier follows (R33, R35): the units at work, as the Always-On Block sees them. `SameUnits` says which changes leave the tier
and the units below Full service as they are; Full service also asks for the Ethernet ports in use.
-/

namespace Sys2Proof.Machine

/-! ## The units at work -/

/-- `d` has the tier of `c` and all its units: but for events, the cause bits, the bundle's bookkeeping and what is not a unit. -/
structure SameUnits (c d : Chip) : Prop where
  boot : { d.boot with segments := c.boot.segments, bundleDirty := c.boot.bundleDirty } = c.boot
  tier : d.getF AON_STATUS 0 AON_STATUS.TIER = c.getF AON_STATUS 0 AON_STATUS.TIER
  outcome : d.getF AON_STATUS 0 AON_STATUS.FW_OUTCOME = c.getF AON_STATUS 0 AON_STATUS.FW_OUTCOME
  img : ∀ r ∈ [SUPPLY_STATUS, STORE_STATUS, TERRACE_STATUS, SECURITY_STATUS], ∀ i, d.img r i = c.img r i

namespace SameUnits

theorem trans {a b c : Chip} (h : SameUnits a b) (k : SameUnits b c) : SameUnits a c where
  boot := by
    have h1 := h.boot
    have h2 := k.boot
    rw [← h1, ← h2]
  tier := k.tier.trans h.tier
  outcome := k.outcome.trans h.outcome
  img r hr i := (k.img r hr i).trans (h.img r hr i)

theorem of_quiet {c d : Chip} (h : Quiet c d) : SameUnits c d where
  boot := by
    have hb := h.boot
    rw [← hb]
  tier := h.aon _ (by decide)
  outcome := h.aon _ (by decide)
  img r hr i := h.img r i (by
    simp only [List.mem_cons, List.not_mem_nil, or_false] at hr
    rcases hr with rfl | rfl | rfl | rfl <;> decide)

/-- A change beside `AON_STATUS`, the records of the units and the Always-On Block. -/
theorem of_recs {c d : Chip} (hboot : { d.boot with segments := c.boot.segments, bundleDirty := c.boot.bundleDirty } = c.boot)
    (himg : ∀ r ∈ [AON_STATUS, SUPPLY_STATUS, STORE_STATUS, TERRACE_STATUS, SECURITY_STATUS], ∀ i, d.img r i = c.img r i) : SameUnits c d where
  boot := hboot
  tier := by rw [Chip.getF, himg AON_STATUS (by simp), Chip.getF]
  outcome := by rw [Chip.getF, himg AON_STATUS (by simp), Chip.getF]
  img r hr i := himg r (List.mem_cons_of_mem _ hr) i

/-- Cause bits of `AON_STATUS` set and ended. -/
theorem upd_aon (c : Chip) (fs : List (Fld × Nat)) (ht : ∀ p ∈ fs, AON_STATUS.TIER.apart p.1) (ho : ∀ p ∈ fs, AON_STATUS.FW_OUTCOME.apart p.1) :
    SameUnits c (c.upd AON_STATUS 0 fs) where
  boot := by rw [Chip.upd_boot]
  tier := Chip.getF_upd_apart _ _ _ _ _ ht
  outcome := Chip.getF_upd_apart _ _ _ _ _ ho
  img r hr i := Chip.img_upd_ne _ _ _ _ _ _ (recKey_ne_of_id (by
    simp only [List.mem_cons, List.not_mem_nil, or_false] at hr
    rcases hr with rfl | rfl | rfl | rfl <;> decide) _ _)

theorem putCause (c : Chip) (k : Nat) (b : Bool) : SameUnits c (c.putCause k b) := by
  unfold Chip.putCause
  split
  · exact upd_aon c _ (apart_of_two (by decide)) (apart_of_two (by decide))
  · exact upd_aon c _ (apart_of_one (by decide)) (apart_of_one (by decide))

theorem unitCauses (c : Chip) : SameUnits c c.unitCauses := (putCause c 18 _).trans (putCause _ 19 _)

theorem level {c d : Chip} (h : SameUnits c d) : d.level = c.level := by
  have hb : d.boot.below = c.boot.below := by rw [← h.boot]
  unfold Chip.level
  rw [hb, h.tier]

theorem getF {c d : Chip} (h : SameUnits c d) {r : RecDesc} (hr : r ∈ [SUPPLY_STATUS, STORE_STATUS, TERRACE_STATUS, SECURITY_STATUS])
    (i : Nat) (f : Fld) : d.getF r i f = c.getF r i f := by rw [Chip.getF, h.img r hr i, Chip.getF]

theorem limitedUnits {c d : Chip} (h : SameUnits c d) : d.limitedUnits = c.limitedUnits := by
  unfold Chip.limitedUnits Chip.survivalUnits Chip.firebreakUnits Chip.keeperOk Chip.gatehouseOk Chip.holding Chip.terraceLeft Chip.tstate
    Chip.lifecycle Chip.getB
  simp only [h.getF (r := SUPPLY_STATUS) (by simp), h.getF (r := TERRACE_STATUS) (by simp), h.getF (r := SECURITY_STATUS) (by simp)]
  rw [← h.boot]

/-- With the ports in use as before, the units support the tier they did. -/
theorem supported {c d : Chip} (h : SameUnits c d) (hports : d.portsOk = c.portsOk) : d.supported = c.supported := by
  have hfull : d.fullUnits = c.fullUnits := by
    unfold Chip.fullUnits Chip.getB
    rw [h.limitedUnits, h.outcome, hports, h.getF (r := SUPPLY_STATUS) (by simp), h.getF (r := SUPPLY_STATUS) (by simp),
      h.getF (r := STORE_STATUS) (by simp), ← h.boot]
  unfold Chip.supported
  rw [hfull, h.limitedUnits]
  unfold Chip.survivalUnits Chip.firebreakUnits
  rw [← h.boot]

end SameUnits

/-- The causes of a unit's fall are bits of `AON_STATUS`. -/
theorem Chip.putCause_upd (c : Chip) (k : Nat) (b : Bool) : ∃ fs, c.putCause k b = c.upd AON_STATUS 0 fs := by
  unfold Chip.putCause
  split
  · exact ⟨_, rfl⟩
  · exact ⟨_, rfl⟩

theorem Chip.unitCauses_host (c : Chip) : c.unitCauses.host = c.host := by
  unfold Chip.unitCauses
  obtain ⟨fs, h⟩ := Chip.putCause_upd c 18 (!(c.boot.metering && c.boot.fabric && c.boot.timeUnit))
  rw [h]
  obtain ⟨gs, k⟩ := Chip.putCause_upd (c.upd AON_STATUS 0 fs) 19 (!c.portsOk)
  rw [k, Chip.upd_host, Chip.upd_host]

theorem Chip.unitCauses_img (c : Chip) (r : RecDesc) (i : Nat) (hr : AON_STATUS.id % 0x10000 ≠ r.id % 0x10000) :
    c.unitCauses.img r i = c.img r i := by
  unfold Chip.unitCauses
  obtain ⟨fs, h⟩ := Chip.putCause_upd c 18 (!(c.boot.metering && c.boot.fabric && c.boot.timeUnit))
  rw [h]
  obtain ⟨gs, k⟩ := Chip.putCause_upd (c.upd AON_STATUS 0 fs) 19 (!c.portsOk)
  rw [k, Chip.img_upd_ne _ _ _ _ _ _ (recKey_ne_of_id hr _ _), Chip.img_upd_ne _ _ _ _ _ _ (recKey_ne_of_id hr _ _)]

/-! ## The Ethernet ports -/

/-- The ports in use are those of the endpoints configured and the links up. -/
theorem Chip.portsOk_congr {c d : Chip} (hcfg : ∀ i, d.img ENDPOINT_CFG i = c.img ENDPOINT_CFG i)
    (hlink : ∀ p, p < 2 → c.portEnabled p = false ∨ d.linkUp p = c.linkUp p) : d.portsOk = c.portsOk := by
  have hen : ∀ p, d.portEnabled p = c.portEnabled p := fun p => by
    unfold Chip.portEnabled Chip.getB Chip.getF
    simp only [hcfg]
  unfold Chip.portsOk
  rw [Bool.eq_iff_iff, List.all_eq_true, List.all_eq_true]
  refine forall₂_congr fun p hp => ?_
  rw [hen]
  rcases hlink p (List.mem_range.mp hp) with h | h <;> simp [h]

theorem Chip.portsOk_of_links (c : Chip) (h : ∀ p, p < 2 → c.linkUp p = true) : c.portsOk = true := by
  unfold Chip.portsOk
  rw [List.all_eq_true]
  intro p hp
  rw [h p (List.mem_range.mp hp), Bool.or_true]

/-- A port in use that is down leaves the ports short. -/
theorem Chip.portsOk_of_down (c : Chip) {p : Nat} (hp : p < 2) (hen : c.portEnabled p = true) (hdown : c.linkUp p = false) :
    c.portsOk = false := by
  unfold Chip.portsOk
  rw [List.all_eq_false]
  exact ⟨p, List.mem_range.mpr hp, by simp [hen, hdown]⟩

/-! ## The fall of the tier -/

/-- A check finds no fall where the units support the tier. -/
theorem Chip.fallCheck_supported (c : Chip) (causes : Nat) (h : c.level ≤ c.supported) : c.fallCheck causes = c := by
  unfold Chip.fallCheck Chip.dropTo
  dsimp only
  rw [min_eq_right h, if_pos le_rfl]

/-- The units of Limited service without those of Full service support Limited service. -/
theorem Chip.supported_limited (c : Chip) (hlim : c.limitedUnits = true) (hfull : c.fullUnits = false) : c.supported = lvLimited := by
  have hsur : c.survivalUnits = true := by
    unfold Chip.limitedUnits at hlim
    simp only [Bool.and_eq_true] at hlim
    tauto
  have hfb : c.firebreakUnits = true := by
    unfold Chip.survivalUnits at hsur
    simp only [Bool.and_eq_true] at hsur
    tauto
  unfold Chip.supported
  simp [hfb, hsur, hlim, hfull]

theorem Quiet.flushDeferred (c : Chip) : Quiet c c.flushDeferred := by
  unfold Chip.flushDeferred
  exact (Quiet.of_host c { c.host with deferred := [] }).trans (Quiet.eachOf _ _ _ Quiet.deliver)

/-- The tier set is the one shown. -/
theorem Chip.setTier_limited (c : Chip) (causes : Nat) : (c.setTier lvLimited causes).level = lvLimited := by
  have hset : ∀ d : Chip, d.boot.below = false → (d.upd AON_STATUS 0 [(AON_STATUS.TIER, tierCode lvLimited)]).level = lvLimited :=
    fun d hd => by
      unfold Chip.level
      rw [Chip.upd_boot, hd, Chip.getF_upd_one]
      rfl
  unfold Chip.setTier
  dsimp only
  split
  · exact hset _ rfl
  · rw [(Quiet.raiseWith _ _).level]
    exact hset _ rfl

/-- A fall from Full service to Limited ends there. -/
theorem Chip.dropTo_limited (c : Chip) (causes : Nat) (h : c.level = lvFull) : (c.dropTo lvLimited causes).level = lvLimited := by
  unfold Chip.dropTo
  dsimp only
  rw [h, if_neg (by decide), (Quiet.flushDeferred _).level, Chip.setTier_limited]

end Sys2Proof.Machine
end

section
/-!
PROOF. Endpoints and links (R31, R33, R73, R74): the reset and the configuration of an endpoint, and an Ethernet link that comes up or goes
down.
-/

namespace Sys2Proof.Machine

/-! ## Events beside the endpoints -/

/-- `d` has the endpoints of `c` and their `ENDPOINT_STATUS`. -/
structure EndpointsKept (c d : Chip) : Prop where
  endpoints : d.host.endpoints = c.host.endpoints
  img : ∀ e, d.img ENDPOINT_STATUS e = c.img ENDPOINT_STATUS e

namespace EndpointsKept

theorem refl (c : Chip) : EndpointsKept c c := ⟨rfl, fun _ => rfl⟩

theorem trans {a b c : Chip} (h : EndpointsKept a b) (k : EndpointsKept b c) : EndpointsKept a c :=
  ⟨k.endpoints.trans h.endpoints, fun e => (k.img e).trans (h.img e)⟩

theorem upd (c : Chip) (r : RecDesc) (i : Nat) (fs : List (Fld × Nat)) (hr : r.id % 0x10000 ≠ ENDPOINT_STATUS.id % 0x10000) :
    EndpointsKept c (c.upd r i fs) :=
  ⟨by rw [Chip.upd_host], fun _ => Chip.img_upd_ne _ _ _ _ _ _ (recKey_ne_of_id hr _ _)⟩

theorem ite {c a b : Chip} (p : Prop) [Decidable p] (ha : EndpointsKept c a) (hb : EndpointsKept c b) :
    EndpointsKept c (if p then a else b) := by
  split
  · exact ha
  · exact hb

theorem deliver (c : Chip) (ev : Event) : EndpointsKept c (c.deliver ev) := by
  have hheld : EndpointsKept c (c.holdEvent ev) := by
    unfold Chip.holdEvent
    exact ite _ (ite _ ⟨rfl, fun _ => rfl⟩ (upd c _ _ _ (by decide))) (ite _ ⟨rfl, fun _ => rfl⟩ (upd c _ _ _ (by decide)))
  unfold Chip.deliver
  refine ite _ hheld (Chip.eachOf_preserves (EndpointsKept c) (fun d i hd => hd.trans ?_) _ (refl c))
  split
  · exact ⟨rfl, fun _ => rfl⟩
  · exact refl d

theorem emit (c : Chip) (ev : Event) : EndpointsKept c (c.emit ev) := by
  unfold Chip.emit
  exact ite _ ⟨rfl, fun _ => rfl⟩ (deliver c _)

theorem snapTrigger (c : Chip) (source event : Nat) : EndpointsKept c (c.snapTrigger source event) := by
  unfold Chip.snapTrigger
  refine ite _ (refl c) (ite _ (ite _ (refl c) (upd c _ _ _ (by decide))) (trans ?_ (emit _ _)))
  exact trans (b := { c with boot.segments := c.latchSegments }) ⟨rfl, fun _ => rfl⟩ (upd _ _ _ _ (by decide))

theorem raise (c : Chip) (code sev source : Nat) (data : List Nat) (aud : Audience) :
    EndpointsKept c (c.raise code sev source data aud) := by
  unfold Chip.raise Chip.raiseWith
  exact ite _ (ite _ (trans (trans (emit c _) (snapTrigger _ _ _)) (upd _ _ _ _ (by decide))) (trans (emit c _) (snapTrigger _ _ _)))
    (emit c _)

/-- Settling leaves the endpoints alone. -/
theorem of_settle (s : State) : EndpointsKept s.chip s.settle.chip where
  endpoints := by
    have h := congrArg HostSide.endpoints (State.settle_lines s).host
    exact h
  img e := (State.settle_lines s).img ENDPOINT_STATUS e (by decide)

theorem ep {c d : Chip} (h : EndpointsKept c d) (e : Nat) : d.ep e = c.ep e := by simp only [Chip.ep, h.endpoints]

end EndpointsKept

/-! ## An endpoint's reset -/

theorem Chip.dropHandles_sessions (c : Chip) (l : List Nat) : (c.eachOf l Chip.dropHandle).host.sessions = c.host.sessions :=
  Chip.eachOf_keeps (fun c => c.host.sessions) c l _ fun _ _ => rfl

theorem Chip.dropHandles_ethLink (c : Chip) (l : List Nat) : (c.eachOf l Chip.dropHandle).host.ethLink = c.host.ethLink :=
  Chip.eachOf_keeps (fun c => c.host.ethLink) c l _ fun _ _ => rfl

theorem Chip.setSes_ethLink (c : Chip) (i : Nat) (x : Session) : (c.setSes i x).host.ethLink = c.host.ethLink := rfl

/-- A session closed is not open; the others are as they were. -/
theorem Chip.closeSession_isOpen (c : Chip) (i j : Nat) :
    ((c.closeSession i).ses j).isOpen = if i = j then false else (c.ses j).isOpen := by
  unfold Chip.closeSession
  dsimp only
  by_cases hopen : (!(c.ses i).isOpen) = true
  · rw [if_pos hopen]
    split
    · next hij => simpa [hij] using hopen
    · rfl
  · rw [if_neg hopen, Chip.ses, Chip.upd_host, Chip.showSlots, Chip.upd_host, ← Chip.ses, Chip.ses_setSes]
    split
    · rfl
    · unfold Chip.ses
      rw [Chip.dropHandles_sessions]
      rfl

theorem Chip.closeSession_ethLink (c : Chip) (i : Nat) : (c.closeSession i).host.ethLink = c.host.ethLink := by
  unfold Chip.closeSession
  dsimp only
  split
  · rfl
  · rw [Chip.upd_host, Chip.showSlots, Chip.upd_host]
    refine (Chip.setSes_ethLink _ _ _).trans ?_
    rw [Chip.dropHandles_ethLink]
    rfl

theorem Quiet.closeSession (c : Chip) (i : Nat) : Quiet c (c.closeSession i) := by
  unfold Chip.closeSession
  dsimp only
  split
  · exact Quiet.refl c
  · refine Quiet.trans ?_ (Quiet.of_upd_host _ ENDPOINT_STATUS _ _ (.inl rfl))
    refine Quiet.trans (Quiet.trans ?_ (Quiet.setSes _ i _)) (Quiet.showSlots _ _)
    refine Quiet.trans ?_ (Quiet.eachOf _ _ _ Quiet.dropHandle)
    exact (Quiet.heldAccount c).trans (Quiet.of_host _ _)

theorem Quiet.clearEndpointStatus (c : Chip) (e : Nat) : Quiet c (c.clearRec ENDPOINT_STATUS e) := by
  have hrest := Chip.setImg_rest c ENDPOINT_STATUS e (ENDPOINT_STATUS.resetImg e)
  have hkey : ∀ (q : RecDesc) (j : Nat), q.id % 0x10000 ∉ noisyIds → recKey ENDPOINT_STATUS e ≠ recKey q j := fun q j hq =>
    recKey_ne_of_id (fun h => hq (h ▸ by decide)) _ _
  have hfld : ∀ (q : RecDesc) (f : Fld), ENDPOINT_STATUS.id % 0x10000 ≠ q.id % 0x10000 →
      (c.clearRec ENDPOINT_STATUS e).getF q 0 f = c.getF q 0 f := fun q f hq => by
    rw [Chip.getF, Chip.clearRec, Chip.img_setImg_ne _ _ _ _ _ _ (recKey_ne_of_id hq _ _), Chip.getF]
  exact ⟨hrest.freeIdx, hrest.sec, hrest.fb, hrest.store, hrest.zones, hrest.time, hrest.act, hrest.sense, hrest.meter, by
      rw [Chip.clearRec, hrest.boot], fun q j hq => Chip.img_setImg_ne _ _ _ _ _ _ (hkey q j hq),
    fun q j hq => Chip.version_setImg_ne _ _ _ _ _ _ (hkey q j hq), fun f _ => hfld _ f (by decide), fun f _ => hfld _ f (by decide)⟩

/-- An endpoint's reset changes nothing but the host side. -/
theorem Quiet.resetEndpoint (c : Chip) (e keep : Nat) : Quiet c (c.resetEndpoint e keep) := by
  unfold Chip.resetEndpoint
  refine Quiet.trans ?_ (Quiet.raise _ _ _ _ _ _)
  exact (((Quiet.eachOf c _ _ Quiet.closeSession).trans (Quiet.modEp _ e _)).trans (Quiet.clearEndpointStatus _ e)).trans (Quiet.showSlots _ e)

theorem Chip.resetEndpoint_ethLink (c : Chip) (e keep : Nat) : (c.resetEndpoint e keep).host.ethLink = c.host.ethLink := by
  unfold Chip.resetEndpoint
  dsimp only
  rw [(Noise.raise _ _ _ _ _ _).host.link, Chip.showSlots, Chip.upd_host, Chip.clearRec, (Chip.setImg_rest _ _ _ _).host]
  exact Chip.eachOf_keeps (fun c => c.host.ethLink) c _ _ Chip.closeSession_ethLink

/-- A reset endpoint accepts, and holds no frame. -/
theorem Chip.resetEndpoint_ep (c : Chip) (e : Nat) :
    ((c.resetEndpoint e 0).ep e).accepting = true ∧ ((c.resetEndpoint e 0).ep e).out = [] ∧ ((c.resetEndpoint e 0).ep e).refusals = [] ∧
      ((c.resetEndpoint e 0).ep e).inbound = 0 := by
  unfold Chip.resetEndpoint
  dsimp only
  rw [(EndpointsKept.raise _ _ _ _ _ _).ep, Chip.ep, Chip.showSlots, Chip.upd_host, Chip.clearRec, (Chip.setImg_rest _ _ _ _).host, ← Chip.ep,
    Chip.modEp, Chip.ep_setEp, if_pos rfl]
  exact ⟨rfl, by simp, rfl, rfl⟩

/-- A reset endpoint has counted nothing. -/
theorem Chip.resetEndpoint_counter (c : Chip) (e keep k : Nat) (hk : k < 7) :
    (c.resetEndpoint e keep).getF ENDPOINT_STATUS e (epCounter k) = 0 := by
  have hslots : (epCounter k).apart ENDPOINT_STATUS.FREE_GEN ∧ (epCounter k).apart ENDPOINT_STATUS.FREE_C0 := by
    unfold Fld.apart epCounter ENDPOINT_STATUS.FREE_GEN ENDPOINT_STATUS.FREE_C0
    dsimp only
    omega
  have hzero : ∀ k < 7, (epCounter k).get (ENDPOINT_STATUS.resetImg 0) = 0 := by decide +kernel
  unfold Chip.resetEndpoint
  dsimp only
  rw [Chip.getF, (EndpointsKept.raise _ _ _ _ _ _).img, ← Chip.getF, Chip.showSlots, Chip.getF_upd_apart _ _ _ _ _ (apart_of_two hslots),
    Chip.getF, Chip.clearRec, Chip.img_setImg_self]
  exact hzero k hk

/-- A reset endpoint has no session open. -/
theorem Chip.resetEndpoint_closed (c : Chip) (e keep i : Nat) (hi : i < 128) (he : (c.ses i).ep = e) :
    ((c.resetEndpoint e keep).ses i).isOpen = false := by
  unfold Chip.resetEndpoint
  dsimp only
  rw [((Noise.raise _ _ _ _ _ _).host.ses i).1, Chip.ses, Chip.showSlots, Chip.upd_host, Chip.clearRec, (Chip.setImg_rest _ _ _ _).host, ← Chip.ses]
  change ((c.eachOf _ Chip.closeSession).ses i).isOpen = false
  have hstep : ∀ (d : Chip) (j : Nat), j = i ∨ (d.ses i).isOpen = false → ((d.closeSession j).ses i).isOpen = false := fun d j h => by
    rw [Chip.closeSession_isOpen]
    split
    · rfl
    · next hne => exact h.resolve_left hne
  by_cases hopen : (c.ses i).isOpen = true
  · refine Chip.eachOf_establishes (fun d => (d.ses i).isOpen = false) (a := i) ?_ hstep c
    simp [Chip.openSessions, hi, he, hopen]
  · exact Chip.eachOf_preserves (fun d => (d.ses i).isOpen = false) (fun d j h => hstep d j (.inr h)) _ (by simpa using hopen)

theorem endpointReset_completes {s : State} {h : Hdr} {x : Ctx} {e : Nat} (hs : Served s h endpointResetSpec x) (he : e < 18)
    (hrsv : h.prsv = 0) :
    Completes (.endpointReset h e) s fun t =>
      (t.chip.ep e).accepting = true ∧ (t.chip.ep e).out = [] ∧ (t.chip.ep e).refusals = [] ∧ (t.chip.ep e).inbound = 0 ∧
      (∀ k, k < 7 → t.chip.getF ENDPOINT_STATUS e (epCounter k) = 0) ∧
      (∀ i, i < 128 → (s.chip.ses i).ep = e → (t.chip.ses i).isOpen = false) := by
  refine hs.completes_post (exec_endpointReset ..) fun d c hd _ hc => ?_
  rw [checks_pass _ _ _ (by simp [hrsv, he])] at hc ⊢
  have hk := EndpointsKept.of_settle { s with chip := c.resetEndpoint e 0 }
  have hsh := Shown.of_settle { s with chip := c.resetEndpoint e 0 }
  obtain ⟨hacc, hout, href, hin⟩ := Chip.resetEndpoint_ep c e
  rw [hk.ep]
  refine ⟨hacc, hout, href, hin, fun k hlt => ?_, fun i hi hep => ?_⟩
  · rw [Chip.getF, hk.img]
    exact Chip.resetEndpoint_counter c e 0 k hlt
  · rw [(hsh.ses i).1]
    exact Chip.resetEndpoint_closed c e 0 i hi (((hc.host.ses i).2.trans (hd.host.ses i).2).trans hep)

/-! ## An endpoint's configuration -/

theorem Quiet.endpointBad {c d : Chip} (hq : Quiet c d) (i img : Nat) : d.endpointBad i img = c.endpointBad i img := by
  have hcfg : d.getF ENDPOINT_CFG = c.getF ENDPOINT_CFG := by
    funext i f
    exact hq.getF ENDPOINT_CFG i f (by decide)
  unfold Chip.endpointBad Chip.getB
  rw [hcfg]

/-- Where both links are up and the units support the tier, an endpoint that is reset with its causes checked anew keeps the tier and
every configuration. -/
theorem Chip.endpointMoved_keeps (c : Chip) (e keep : Nat) (hlinks : ∀ p, p < 2 → c.linkUp p = true) (hlvl : c.level ≤ c.supported) :
    (((c.resetEndpoint e keep).unitCauses).fallCheck (2 ^ 19)).level = c.level ∧
      ∀ i, (((c.resetEndpoint e keep).unitCauses).fallCheck (2 ^ 19)).img ENDPOINT_CFG i = c.img ENDPOINT_CFG i := by
  have hq := Quiet.resetEndpoint c e keep
  set d := (c.resetEndpoint e keep).unitCauses with hd
  have hsame : SameUnits c d := (SameUnits.of_quiet hq).trans (SameUnits.unitCauses _)
  have hup : ∀ p, p < 2 → d.linkUp p = true := fun p hp => by
    rw [← hlinks p hp, Chip.linkUp, hd, Chip.unitCauses_host, Chip.resetEndpoint_ethLink, Chip.linkUp]
  have hsup : d.supported = c.supported := hsame.supported (by rw [d.portsOk_of_links hup, c.portsOk_of_links hlinks])
  rw [Chip.fallCheck_supported d _ (by rw [hsame.level, hsup]; exact hlvl)]
  exact ⟨hsame.level, fun i => by rw [hd, Chip.unitCauses_img _ _ _ (by decide), hq.img _ _ (by decide)]⟩

/-- A configuration written and its store booked: the units are as they were. -/
theorem SameUnits.written (c : Chip) (i img : Nat) : SameUnits c (c.written ENDPOINT_CFG i img) :=
  of_recs (Chip.recStored_boot (c.putImg ENDPOINT_CFG i _) _ _) fun r hr j => Chip.written_img_ne _ _ _ _ _ _ (recKey_ne_of_id (by
    simp only [List.mem_cons, List.not_mem_nil, or_false] at hr
    rcases hr with rfl | rfl | rfl | rfl | rfl <;> decide) _ _)

/-- The row as a write of the image with `EN` of the service UART kept; an endpoint that moved is reset after the reply. -/
theorem Chip.endpointCfgWrite_eq (c : Chip) (x : Ctx) (i ver img m : Nat)
    (hm : m = if i = 1 then ENDPOINT_CFG.EN.set (c.getF ENDPOINT_CFG i ENDPOINT_CFG.EN) img else img) :
    ∃ moved : Bool, ∃ keep : Nat, c.endpointCfgWrite x i ver img =
      c.setRecord x.h ENDPOINT_CFG i ver m { may := x.who.estateOnly, bad := c.endpointBad i m } (fun c _ => c)
        (fun c => if moved then ((c.resetEndpoint i keep).unitCauses).fallCheck (2 ^ 19) else c) :=
  ⟨_, _, by rw [hm]; rfl⟩

theorem endpointCfgWrite_completes {s : State} {h : Hdr} {x : Ctx} {inst ver img m : Nat} (hs : Served s h setRecordSpec x)
    (hwho : x.who.estateOnly = true)
    (hm : m = (if inst = 1 then ENDPOINT_CFG.EN.set (s.chip.getF ENDPOINT_CFG 1 ENDPOINT_CFG.EN) img else img))
    (hf : WriteFits s.chip h ENDPOINT_CFG inst ver m) (hbad : s.chip.endpointBad inst m = false)
    (hlinks : ∀ p, p < 2 → s.chip.linkUp p = true) (hlvl : s.chip.level ≤ s.chip.supported) :
    Completes (.endpointCfgWrite h inst ver img) s fun t => Wrote s t ENDPOINT_CFG inst m ∧ t.chip.level = s.chip.level := by
  refine hs.completes_post (exec_endpointCfgWrite ..) fun d e hd hx he => ?_
  have hmd : m = if inst = 1 then ENDPOINT_CFG.EN.set (d.getF ENDPOINT_CFG inst ENDPOINT_CFG.EN) img else img := by
    rw [hm, hd.quiet.getF _ _ _ (by decide)]
    split
    · next h1 => rw [h1]
    · rfl
  obtain ⟨moved, keep, hrow⟩ := d.endpointCfgWrite_eq x inst ver img m hmd
  obtain ⟨hchip, hpost⟩ := Chip.setRecord_fits (k := { may := x.who.estateOnly, bad := d.endpointBad inst m })
    (hx ▸ hf.of_quiet hd.quiet (by decide)) ⟨rfl, hwho, rfl, (hd.quiet.endpointBad inst m).trans hbad, rfl⟩ (fun c _ => c)
    (fun c => if moved then ((c.resetEndpoint inst keep).unitCauses).fallCheck (2 ^ 19) else c)
  rw [hrow, hchip] at he
  rw [hrow, hpost]
  have hsame : SameUnits s.chip e := ((SameUnits.of_quiet hd.quiet).trans (SameUnits.written d inst m)).trans (SameUnits.of_quiet he.quiet)
  have hlink : ∀ p, e.linkUp p = s.chip.linkUp p := fun p => by
    unfold Chip.linkUp
    rw [he.host.link, Chip.written, Chip.recStored_host, ← hd.host.link]
    rfl
  have hup : ∀ p, p < 2 → e.linkUp p = true := fun p hp => (hlink p).trans (hlinks p hp)
  have hsup : e.supported = s.chip.supported := hsame.supported (by rw [e.portsOk_of_links hup, s.chip.portsOk_of_links hlinks])
  have himg : e.img ENDPOINT_CFG inst = ENDPOINT_CFG.merge (s.chip.img ENDPOINT_CFG inst) m := by
    rw [he.quiet.img _ _ (by decide), Chip.written_img_self, hd.quiet.img _ _ (by decide)]
  obtain ⟨hl, hi⟩ := e.endpointMoved_keeps inst keep hup (by rw [hsame.level, hsup]; exact hlvl)
  have hend : ∀ c : Chip, c.level = e.level → c.img ENDPOINT_CFG inst = e.img ENDPOINT_CFG inst →
      Wrote s (State.settle { s with chip := c }) ENDPOINT_CFG inst m ∧ (State.settle { s with chip := c }).chip.level = s.chip.level := by
    intro c hcl hci
    have hsh := Shown.of_settle { s with chip := c }
    exact ⟨(hsh.img _ _ (by decide)).trans (hci.trans himg), hsh.level.trans (hcl.trans hsame.level)⟩
  cases moved with
  | false => exact hend e rfl rfl
  | true => exact hend _ hl (hi inst)

/-! ## Links -/

/-- A link as the part finds it after a change. -/
theorem Chip.linkChanged_link (c : Chip) (p q : Nat) (b : Bool) :
    ({ c with host.ethLink := Tab.set false c.host.ethLink p b } : Chip).unitCauses.linkUp q = if p = q then b else c.linkUp q := by
  rw [Chip.linkUp, Chip.unitCauses_host]
  exact Tab.get_set _ _ _ _ _

/-- The link alone has changed: the units but the ports are as they were. -/
theorem SameUnits.linkChanged (c : Chip) (p : Nat) (b : Bool) :
    SameUnits c ({ c with host.ethLink := Tab.set false c.host.ethLink p b } : Chip).unitCauses :=
  trans (of_quiet (Quiet.of_host c _)) (unitCauses _)

theorem ethernetLinkUp_completes (s : State) (p : Nat) (hp : p < 2) :
    Completes (.ethernetLinkChange p true) s fun t => t.chip.linkUp p = true ∧ t.chip.level = s.chip.level := by
  refine Completes.of_run ((exec_ethernetLinkChange ..).trans (if_pos hp)) fun t hsh => ?_
  rw [hsh.level, Chip.linkUp, hsh.link, ← Chip.linkUp, Chip.ethernetLinkChange]
  exact ⟨by rw [if_pos rfl, Chip.linkChanged_link, if_pos rfl], (SameUnits.linkChanged s.chip p true).level⟩

theorem ethernetLinkDown_unused_completes (s : State) (p : Nat) (hp : p < 2) (hen : s.chip.portEnabled p = false)
    (hlvl : s.chip.level ≤ s.chip.supported) :
    Completes (.ethernetLinkChange p false) s fun t => t.chip.linkUp p = false ∧ t.chip.level = s.chip.level := by
  refine Completes.of_run ((exec_ethernetLinkChange ..).trans (if_pos hp)) fun t hsh => ?_
  have hsame := SameUnits.linkChanged s.chip p false
  have hports : ({ s.chip with host.ethLink := Tab.set false s.chip.host.ethLink p false } : Chip).unitCauses.portsOk = s.chip.portsOk := by
    refine Chip.portsOk_congr (fun i => Chip.unitCauses_img _ _ _ (by decide)) fun q _ => ?_
    by_cases hq : p = q
    · exact .inl (hq ▸ hen)
    · exact .inr (by rw [Chip.linkChanged_link, if_neg hq])
  rw [hsh.level, Chip.linkUp, hsh.link, ← Chip.linkUp, Chip.ethernetLinkChange]
  dsimp only
  rw [if_neg (by decide), Chip.fallCheck_supported _ _ (by rw [hsame.level, hsame.supported hports]; exact hlvl)]
  exact ⟨by rw [Chip.linkChanged_link, if_pos rfl], hsame.level⟩

theorem ethernetLinkDown_used_completes (s : State) (p : Nat) (hp : p < 2) (hen : s.chip.portEnabled p = true) (hfull : s.chip.level = lvFull)
    (hlim : s.chip.limitedUnits = true) : Completes (.ethernetLinkChange p false) s fun t => t.chip.level = lvLimited := by
  refine Completes.of_run ((exec_ethernetLinkChange ..).trans (if_pos hp)) fun t hsh => ?_
  have hsame := SameUnits.linkChanged s.chip p false
  rw [hsh.level, Chip.ethernetLinkChange]
  dsimp only
  rw [if_neg (by decide)]
  set d := ({ s.chip with host.ethLink := Tab.set false s.chip.host.ethLink p false } : Chip).unitCauses with hd
  have hcfg : d.portEnabled p = true := by
    rw [← hen]
    unfold Chip.portEnabled Chip.getB Chip.getF
    simp only [hd, Chip.unitCauses_img _ ENDPOINT_CFG _ (by decide)]
    rfl
  have hports : d.portsOk = false := d.portsOk_of_down hp hcfg (by rw [hd, Chip.linkChanged_link, if_pos rfl])
  have hsup : d.supported = lvLimited :=
    d.supported_limited (hsame.limitedUnits.trans hlim) (by rw [Chip.fullUnits, hports, Bool.and_false])
  have hlvl : d.level = lvFull := hsame.level.trans hfull
  rw [Chip.fallCheck, hsup, hlvl]
  exact Chip.dropTo_limited d _ hlvl

/-- Settles O13: a reset endpoint's sessions close and its queues and counters empty before it reports; a configuration that leaves the
ports in use up, and a link that no endpoint uses, leave what the units support; a link in use that goes down leaves Limited service. -/
theorem endpointsAct : Obligations.EndpointsAct := by
  unfold Obligations.EndpointsAct
  exact ⟨fun _ _ _ _ hs he hrsv => endpointReset_completes hs he hrsv,
    fun _ _ _ _ _ _ _ hs hwho hm hf hbad hlinks hlvl => endpointCfgWrite_completes hs hwho hm hf hbad hlinks hlvl,
    ethernetLinkUp_completes, ethernetLinkDown_unused_completes, ethernetLinkDown_used_completes⟩

end Sys2Proof.Machine
end

section
/-!
SUPPORT. What the traffic of the host interface leaves of the sessions and of the frames sent: an event to one session, a reply, the
admission of a frame and the settling. `Told` says it for what happens inside the part, `Admitted` for a frame let through, `Ended` for a
command's end.
-/

namespace Sys2Proof.Machine

/-! ## Sessions -/

/-- A session without what events and replies write: its outgoing sequence number, its event queue and the marks of its rekeying. -/
def Session.core (s : Session) : Session :=
  { s with txSeq := 0, queue := [], lost := 0, evSeq := 0, rekeyHost := false, rekeyCtrl := false }

/-- A session without what its own frames write as well: the time and the address of the last one and the window of numbers. -/
def Session.fixed (s : Session) : Session := { s.core with high := 0, window := [], lastFrame := 0, addr := 0 }

theorem Session.fixed_of_core {s y : Session} (h : y.core = s.core) : y.fixed = s.fixed := by unfold Session.fixed; rw [h]

@[simp] theorem Session.core_high (s : Session) : s.core.high = s.high := rfl
@[simp] theorem Session.core_window (s : Session) : s.core.window = s.window := rfl

@[simp] theorem Session.fixed_isOpen (s : Session) : s.fixed.isOpen = s.isOpen := rfl
@[simp] theorem Session.fixed_gen (s : Session) : s.fixed.gen = s.gen := rfl
@[simp] theorem Session.fixed_ep (s : Session) : s.fixed.ep = s.ep := rfl
@[simp] theorem Session.fixed_kind (s : Session) : s.fixed.kind = s.kind := rfl
@[simp] theorem Session.fixed_index (s : Session) : s.fixed.index = s.index := rfl

theorem pushEvent_core (s : Session) (ev : Event) (data : List Nat) : (pushEvent s ev data).core = s.core := by
  unfold pushEvent
  dsimp only
  split <;> rfl

/-- Every session has in `d` the core that it has in `c`. -/
def SameCore (c d : Chip) : Prop := ∀ i, (d.ses i).core = (c.ses i).core

namespace SameCore

theorem refl (c : Chip) : SameCore c c := fun _ => rfl

theorem trans {a b c : Chip} (h : SameCore a b) (k : SameCore b c) : SameCore a c := fun i => (k i).trans (h i)

theorem of_sessions {c d : Chip} (h : d.host.sessions = c.host.sessions) : SameCore c d := fun i => by simp only [Chip.ses, h]

theorem ite {c a b : Chip} (p : Prop) [Decidable p] (ha : SameCore c a) (hb : SameCore c b) : SameCore c (if p then a else b) := by
  split
  · exact ha
  · exact hb

end SameCore

/-! ## Events to one session -/

/-- `d` has the frames and the assemblies of `c`, and its sessions but for what events and replies write. -/
structure Told (c d : Chip) : Prop where
  endpoints : d.host.endpoints = c.host.endpoints
  wire : d.host.wire = c.host.wire
  frags : d.host.frags = c.host.frags
  core : SameCore c d

namespace Told

theorem of_host {c d : Chip} (h : d.host = c.host) : Told c d := ⟨by rw [h], by rw [h], by rw [h], SameCore.of_sessions (by rw [h])⟩

theorem refl (c : Chip) : Told c c := of_host rfl

theorem trans {a b c : Chip} (h : Told a b) (k : Told b c) : Told a c :=
  ⟨k.endpoints.trans h.endpoints, k.wire.trans h.wire, k.frags.trans h.frags, h.core.trans k.core⟩

theorem ite {c a b : Chip} (p : Prop) [Decidable p] (ha : Told c a) (hb : Told c b) : Told c (if p then a else b) := by
  split
  · exact ha
  · exact hb

theorem ep {c d : Chip} (h : Told c d) (e : Nat) : d.ep e = c.ep e := by simp only [Chip.ep, h.endpoints]

theorem sent {c d : Chip} (h : Told c d) (e : Nat) : d.sent e = c.sent e := by simp only [Chip.sent, h.ep, h.wire]

theorem setSes (c : Chip) (i : Nat) (x : Session) (h : x.core = (c.ses i).core) : Told c (c.setSes i x) :=
  ⟨rfl, rfl, rfl, fun j => by
    rw [Chip.ses_setSes]
    split
    · next hij => rw [← hij, h]
    · rfl⟩

theorem raiseTo (c : Chip) (i code sev : Nat) (data : List Nat) : Told c (c.raiseTo i code sev data) := by
  unfold Chip.raiseTo
  dsimp only
  split
  · exact ite _ (setSes c i _ (pushEvent_core _ _ _)) (refl c)
  · exact refl c

theorem nextTx (c : Chip) (i : Nat) : Told c (c.nextTx i) := by
  unfold Chip.nextTx
  exact ite _ ((setSes c i _ (by rfl)).trans (raiseTo _ _ _ _ _)) (setSes c i _ rfl)

theorem rekeyHost (c : Chip) (i : Nat) : Told c (c.rekeyHost i) := by
  unfold Chip.rekeyHost
  exact ite _ ((setSes c i _ (by rfl)).trans (raiseTo _ _ _ _ _)) (refl c)

end Told

/-! ## Frames sent -/

theorem Chip.epCount_host (c : Chip) (e k : Nat) : (c.epCount e k).host = c.host := Chip.upd_host c _ _ _

theorem Chip.epCount_ses (c : Chip) (e k i : Nat) : (c.epCount e k).ses i = c.ses i := by unfold Chip.ses; rw [Chip.epCount_host]

theorem Chip.epCount_sessions (c : Chip) (e k : Nat) : (c.epCount e k).host.sessions = c.host.sessions := by rw [Chip.epCount_host]

theorem Chip.epCount_frags (c : Chip) (e k : Nat) : (c.epCount e k).host.frags = c.host.frags := by rw [Chip.epCount_host]

theorem Chip.showSlots_host (c : Chip) (e : Nat) : (c.showSlots e).host = c.host := Chip.upd_host c _ _ _

theorem Chip.ep_modEp (c : Chip) (e j : Nat) (f : Endpoint → Endpoint) : (c.modEp e f).ep j = if e = j then f (c.ep j) else c.ep j := by
  rw [Chip.modEp, Chip.ep_setEp]
  split
  · next h => rw [h]
  · rfl

/-- What has been sent is what waits in the outbound queues and what has left the pins. -/
theorem Chip.sent_congr {c d : Chip} (hout : ∀ e, (d.ep e).out = (c.ep e).out) (hwire : d.host.wire = c.host.wire) (e : Nat) :
    d.sent e = c.sent e := by
  unfold Chip.sent
  rw [hout, hwire]

theorem Chip.sent_of_host {c d : Chip} (h : d.host = c.host) (e : Nat) : d.sent e = c.sent e := (Told.of_host h).sent e

theorem Chip.sent_modEp (c : Chip) (e j : Nat) (f : Endpoint → Endpoint) (hf : ∀ x, (f x).out = x.out) : (c.modEp e f).sent j = c.sent j :=
  Chip.sent_congr (c := c) (d := c.modEp e f) (fun k => by rw [Chip.ep_modEp, apply_ite Endpoint.out, hf, ite_self]) rfl j

/-- A frame sent is the last one of its endpoint. -/
theorem Chip.sent_send (c : Chip) (e : Nat) (f : Frame) : (c.send e f).sent e = c.sent e ++ [f] := by
  have hcount := Chip.sent_of_host (c.epCount_host e cntOut) e
  unfold Chip.sent at hcount ⊢
  unfold Chip.send
  dsimp only
  by_cases he : e = 0
  · subst he
    simp only [if_true] at hcount ⊢
    rw [Chip.ep_modEp, if_pos rfl, hcount]
  · simp only [if_neg he] at hcount ⊢
    rw [List.filter_append, List.map_append, hcount]
    simp

theorem Chip.send_sessions (c : Chip) (e : Nat) (f : Frame) : (c.send e f).host.sessions = c.host.sessions := by
  unfold Chip.send
  dsimp only
  split
  · exact c.epCount_sessions e cntOut
  · exact c.epCount_sessions e cntOut

theorem Chip.send_frags (c : Chip) (e : Nat) (f : Frame) : (c.send e f).host.frags = c.host.frags := by
  unfold Chip.send
  dsimp only
  split
  · exact c.epCount_frags e cntOut
  · exact c.epCount_frags e cntOut

/-- A reply is one frame on the endpoint of its request, under the request's session and tag (R42). -/
theorem Chip.reply_send (c : Chip) (x : Ctx) (op st : Nat) (data : List Nat) :
    ∃ d f, Told c d ∧ c.reply x op st data = d.send x.ep f ∧ f.opcode = op ∧ f.session = x.h.session ∧ f.tag = x.h.tag ∧ f.cls = x.h.cls ∧
      f.status = some st ∧ f.data = if 0x10 ≤ st then [] else data :=
  ⟨_, _, Told.ite _ (Told.nextTx c _) (Told.refl c), rfl, rfl, rfl, rfl, rfl, rfl, rfl⟩

theorem SameCore.reply (c : Chip) (x : Ctx) (op st : Nat) (data : List Nat) : SameCore c (c.reply x op st data) := by
  obtain ⟨d, f, hd, hr, -⟩ := c.reply_send x op st data
  rw [hr]
  exact hd.core.trans (of_sessions (d.send_sessions _ f))

theorem Chip.reply_frags (c : Chip) (x : Ctx) (op st : Nat) (data : List Nat) : (c.reply x op st data).host.frags = c.host.frags := by
  obtain ⟨d, f, hd, hr, -⟩ := c.reply_send x op st data
  rw [hr, d.send_frags, hd.frags]

/-- An event to a session reaches the queue of that session alone, and none that is not subscribed (R49). -/
theorem Chip.raiseTo_unsubscribed (c : Chip) (j code sev i : Nat) (data : List Nat) (hsub : (c.ses i).sub = none) :
    (c.raiseTo j code sev data).ses i = c.ses i := by
  unfold Chip.raiseTo
  dsimp only
  split
  · next mask minSev hj =>
    have hne : j ≠ i := fun h => by rw [h, hsub] at hj; cases hj
    rw [apply_ite (fun d : Chip => d.ses i), Chip.ses_setSes, if_neg hne, ite_self]
  · rfl

/-- A session that is not subscribed keeps its queue and its count of lost events when a reply goes. -/
theorem Chip.reply_unsubscribed (c : Chip) (x : Ctx) (op st i : Nat) (data : List Nat) (hsub : (c.ses i).sub = none) :
    ((c.reply x op st data).ses i).queue = (c.ses i).queue ∧ ((c.reply x op st data).ses i).lost = (c.ses i).lost := by
  have hset : ∀ y : Session, y.sub = (c.ses x.si).sub → y.queue = (c.ses x.si).queue → y.lost = (c.ses x.si).lost →
      ((c.setSes x.si y).ses i).sub = none ∧ ((c.setSes x.si y).ses i).queue = (c.ses i).queue ∧
        ((c.setSes x.si y).ses i).lost = (c.ses i).lost := fun y hs hq hl => by
    rw [Chip.ses_setSes]
    split
    · next h => subst h; exact ⟨hs.trans hsub, hq, hl⟩
    · exact ⟨hsub, rfl, rfl⟩
  have hnext : ((c.nextTx x.si).ses i).queue = (c.ses i).queue ∧ ((c.nextTx x.si).ses i).lost = (c.ses i).lost := by
    unfold Chip.nextTx
    dsimp only
    obtain ⟨hs, hq, hl⟩ := hset { c.ses x.si with txSeq := (c.ses x.si).txSeq + 1, rekeyCtrl := (c.ses x.si).rekeyCtrl ||
      (decide (2 ^ 62 ≤ (c.ses x.si).txSeq + 1) && !(c.ses x.si).rekeyCtrl) } rfl rfl rfl
    split
    · rw [Chip.raiseTo_unsubscribed _ _ _ _ _ _ hs]
      exact ⟨hq, hl⟩
    · exact ⟨hq, hl⟩
  unfold Chip.reply
  dsimp only
  rw [Chip.ses, Chip.send_sessions, ← Chip.ses]
  split
  · exact hnext
  · exact ⟨rfl, rfl⟩

/-! ## Refusals -/

theorem SameCore.refuse (c : Chip) (h : Hdr) (op ses seq cr st addr : Nat) : SameCore c (c.refuse h op ses seq cr st addr) := by
  unfold Chip.refuse
  exact ite _ (of_sessions rfl) (of_sessions (by rw [Chip.epCount_host]))

theorem SameCore.refuseIn (c : Chip) (h : Hdr) (op si st : Nat) : SameCore c (c.refuseIn h op si st) := by
  unfold Chip.refuseIn
  exact ite _ ((Told.nextTx c si).core.trans (refuse _ _ _ _ _ _ _ _)) (of_sessions (by rw [Chip.epCount_host]))

/-! ## Admission (Table 2.10) -/

/-- The part when steps 4 to 7 have let a frame of an open session through: the frame has left its buffer and its number is spent. -/
def Chip.heard (c : Chip) (h : Hdr) : Chip :=
  let c := (c.popInbound h.ep).epCount h.ep cntIn
  let i := h.session % 128
  ((c.setSes i { c.ses i with lastFrame := c.up, addr := h.addr }).modSes i (fun s => markSeq s h.seq)).rekeyHost i

theorem Chip.popInbound_ses (c : Chip) (e i : Nat) : (c.popInbound e).ses i = c.ses i := rfl

/-- The number is marked in the session of the frame; no other session has changed. -/
theorem Chip.heard_core (c : Chip) (h : Hdr) (j : Nat) :
    ((c.heard h).ses j).core =
      if h.session % 128 = j then (markSeq { c.ses j with lastFrame := c.up, addr := h.addr } h.seq).core else (c.ses j).core := by
  unfold Chip.heard
  dsimp only
  rw [(Told.rekeyHost _ _).core, Chip.modSes, Chip.ses_setSes, Chip.ses_setSes, if_pos rfl, Chip.ses_setSes, Chip.epCount_ses,
    Chip.popInbound_ses, Chip.epCount_ses, Chip.popInbound_ses]
  split
  · next hj =>
    subst hj
    have hup : ((c.popInbound h.ep).epCount h.ep cntIn).up = c.up := by
      unfold Chip.up Chip.epCount Chip.incSat
      rw [Chip.upd_time]
      rfl
    rw [hup]
  · rfl

theorem Chip.heard_fixed (c : Chip) (h : Hdr) (j : Nat) : ((c.heard h).ses j).fixed = (c.ses j).fixed := by
  unfold Session.fixed
  rw [c.heard_core h j]
  split <;> rfl

theorem Chip.heard_sent (c : Chip) (h : Hdr) (e : Nat) : (c.heard h).sent e = c.sent e := by
  unfold Chip.heard
  dsimp only
  rw [(Told.rekeyHost _ _).sent]
  refine (Chip.sent_congr (fun _ => rfl) rfl e).trans (?_ : ((c.popInbound h.ep).epCount h.ep cntIn).sent e = c.sent e)
  rw [Chip.sent_of_host (Chip.epCount_host _ _ _)]
  exact c.sent_modEp _ _ _ fun _ => rfl

theorem Chip.heard_frags (c : Chip) (h : Hdr) : (c.heard h).host.frags = c.host.frags := by
  unfold Chip.heard
  dsimp only
  rw [(Told.rekeyHost _ _).frags]
  exact (c.popInbound h.ep).epCount_frags h.ep cntIn

/-- What steps 4 to 7 let through: a frame of session 0 where the command allows it, or one of an open session of its endpoint. -/
theorem Chip.admitFrame_go {c d : Chip} {h : Hdr} {op : Nat} {known in0 : Bool} {x : Ctx} {b : Bool}
    (hg : c.admitFrame h op known in0 = .go d x b) :
    (in0 = true ∧ x = ⟨h.ep, session0, .nobody, h⟩ ∧ d = (c.popInbound h.ep).epCount h.ep cntIn) ∨
      ∃ who, x = ⟨h.ep, h.session % 128, who, h⟩ ∧ (c.ses (h.session % 128)).isOpen = true ∧ (c.ses (h.session % 128)).ep = h.ep ∧
        d = c.heard h := by
  unfold Chip.admitFrame at hg
  dsimp only at hg
  split at hg
  · split at hg
    · cases hg
    split at hg
    · cases hg
    split at hg
    · cases hg
    next hin =>
    cases hg
    exact .inl ⟨by simpa using hin, rfl, rfl⟩
  · split at hg
    · cases hg
    next hok =>
    split at hg
    · cases hg
    split at hg
    · cases hg
    split at hg
    · cases hg
    split at hg
    · cases hg
    cases hg
    rw [Chip.epCount_ses, Chip.popInbound_ses] at hok
    simp only [Bool.or_eq_true, Bool.not_eq_true', bne_iff_ne, ne_eq, not_or, Bool.not_eq_false, not_not] at hok
    obtain ⟨⟨⟨hopen, -⟩, hep⟩, -⟩ := hok
    exact .inr ⟨_, rfl, hopen, hep, rfl⟩

/-- What steps 8 to 10 let through: the frame, its assembly ended where it has one. -/
theorem Chip.admitClass_go {c d : Chip} {x y : Ctx} {sp : CmdSpec} {b : Bool} (hg : c.admitClass x sp = .go d y b) :
    y = x ∧ (d = c ∨ d = c.dropFrag x.si x.h.tag) := by
  unfold Chip.admitClass at hg
  dsimp only [Chip.answer] at hg
  split at hg
  · cases hg
  split at hg
  · cases hg
  split at hg
  · cases hg
  split at hg
  · split at hg <;> cases hg
    exact ⟨rfl, .inr rfl⟩
  · split at hg
    · cases hg
    split at hg
    · split at hg <;> cases hg
      exact ⟨rfl, .inl rfl⟩
    · split at hg <;> cases hg
      exact ⟨rfl, .inl rfl⟩

/-- What steps 11 to 13 let through: the frame, and nothing has changed. -/
theorem Chip.admitWho_go {c d : Chip} {x y : Ctx} {sp : CmdSpec} {b : Bool} (hg : c.admitWho x sp = .go d y b) : y = x ∧ d = c := by
  unfold Chip.admitWho at hg
  dsimp only [Chip.answer] at hg
  split at hg
  · cases hg
  split at hg
  · cases hg
  split at hg
  · cases hg
  split at hg
  · cases hg
  split at hg
  · cases hg
  split at hg
  · cases hg
  cases hg
  exact ⟨rfl, rfl⟩

/-- The frame `h` has been let through in `c` as `x`, and the part is then `d`. -/
structure Admitted (c : Chip) (h : Hdr) (x : Ctx) (d : Chip) : Prop where
  hdr : x.h = h
  ep : x.ep = h.ep
  sent : ∀ e, d.sent e = c.sent e
  fixed : ∀ i, (d.ses i).fixed = (c.ses i).fixed
  opened : x.si = session0 ∨ (x.si < 128 ∧ (c.ses x.si).isOpen = true)

theorem Admitted.of_admitFrame {c d : Chip} {h : Hdr} {op : Nat} {known in0 : Bool} {x : Ctx} {b : Bool}
    (hg : c.admitFrame h op known in0 = .go d x b) : Admitted c h x d := by
  rcases Chip.admitFrame_go hg with ⟨-, rfl, rfl⟩ | ⟨who, rfl, hopen, -, rfl⟩
  · refine ⟨rfl, rfl, fun e => ?_, fun i => by rw [Chip.epCount_ses]; rfl, .inl rfl⟩
    rw [Chip.sent_of_host (Chip.epCount_host _ _ _)]
    exact c.sent_modEp _ _ _ fun _ => rfl
  · exact ⟨rfl, rfl, c.heard_sent h, c.heard_fixed h, .inr ⟨Nat.mod_lt _ (by decide), hopen⟩⟩

theorem Chip.dropFrag_sent (c : Chip) (si tag e : Nat) : (c.dropFrag si tag).sent e = c.sent e := by
  unfold Chip.dropFrag
  rw [Chip.sent_of_host (Chip.showSlots_host _ _)]
  rfl

theorem Chip.dropFrag_ses (c : Chip) (si tag i : Nat) : (c.dropFrag si tag).ses i = c.ses i := by
  unfold Chip.dropFrag Chip.ses
  rw [Chip.showSlots_host]

theorem Admitted.of_ingress {c d : Chip} {h : Hdr} {sp : CmdSpec} {x : Ctx} {b : Bool} (hg : c.ingress h sp = .go d x b) :
    Admitted c h x d := by
  unfold Chip.ingress at hg
  split at hg
  · cases hg
  split at hg
  · cases hg
  next e y b₁ hf =>
  split at hg
  · cases hg
  next k z b₂ hc =>
  have ha := Admitted.of_admitFrame hf
  obtain ⟨rfl, hk⟩ := Chip.admitClass_go hc
  obtain ⟨rfl, rfl⟩ := Chip.admitWho_go hg
  rcases hk with rfl | rfl
  · exact ha
  · exact ⟨ha.hdr, ha.ep, fun e => (Chip.dropFrag_sent _ _ _ _).trans (ha.sent e), fun i => by rw [Chip.dropFrag_ses, ha.fixed i], ha.opened⟩

/-- A command that session 0 may not send comes from an open session. -/
theorem Chip.ingress_opened {c d : Chip} {h : Hdr} {sp : CmdSpec} {x : Ctx} {b : Bool} (hg : c.ingress h sp = .go d x b)
    (h0 : sp.inSession0 = false) : x.si < 128 ∧ (c.ses x.si).isOpen = true := by
  unfold Chip.ingress at hg
  split at hg
  · cases hg
  split at hg
  · cases hg
  next e y b₁ hf =>
  split at hg
  · cases hg
  next k z b₂ hc =>
  obtain ⟨rfl, -⟩ := Chip.admitClass_go hc
  obtain ⟨rfl, -⟩ := Chip.admitWho_go hg
  rcases Chip.admitFrame_go hf with ⟨hin, -⟩ | ⟨who, rfl, hopen, -⟩
  · rw [h0] at hin
    cases hin
  · exact ⟨Nat.mod_lt _ (by decide), hopen⟩

/-! ## The end of a command -/

theorem State.settle_wire (s : State) : s.settle.chip.host.wire = s.chip.host.wire := by
  have h := congrArg HostSide.wire (State.settle_lines s).host
  exact h

/-- Settling moves no frame. -/
theorem State.settle_sent (s : State) (e : Nat) : s.settle.chip.sent e = s.chip.sent e :=
  Chip.sent_congr (fun k => by rw [(EndpointsKept.of_settle s).ep]) s.settle_wire e

theorem State.settle_ses (s : State) (i : Nat) : s.settle.chip.ses i = s.chip.ses i := by
  have h := congrArg HostSide.sessions (State.settle_lines s).host
  exact congrArg (fun l => Tab.get ({} : Session) l i) h

theorem State.settle_frags (s : State) : s.settle.chip.host.frags = s.chip.host.frags := by
  have h := congrArg HostSide.frags (State.settle_lines s).host
  exact h

/-- `d` is `c` when a reply has gone and the lines have settled. -/
structure Ended (c d : Chip) : Prop where
  shown : Shown c d
  sec : d.sec = c.sec
  ver : ∀ r i, r.id % 0x10000 ∉ shownIds → d.version r i = c.version r i
  frags : d.host.frags = c.host.frags
  core : SameCore c d
  still : ∀ i, (c.ses i).sub = none → (d.ses i).queue = (c.ses i).queue ∧ (d.ses i).lost = (c.ses i).lost

namespace Ended

theorem trans {a b c : Chip} (h : Ended a b) (k : Ended b c) : Ended a c where
  shown := h.shown.trans k.shown
  sec := k.sec.trans h.sec
  ver r i hr := (k.ver r i hr).trans (h.ver r i hr)
  frags := k.frags.trans h.frags
  core := h.core.trans k.core
  still i hi := by
    obtain ⟨hq, hl⟩ := h.still i hi
    obtain ⟨kq, kl⟩ := k.still i ((congrArg Session.sub (h.core i)).trans hi)
    exact ⟨kq.trans hq, kl.trans hl⟩

theorem of_noise {c d : Chip} (h : Noise c d) (hf : d.host.frags = c.host.frags) (hs : SameCore c d)
    (hu : ∀ i, (c.ses i).sub = none → (d.ses i).queue = (c.ses i).queue ∧ (d.ses i).lost = (c.ses i).lost) : Ended c d where
  shown := Shown.of_noise h
  sec := h.quiet.sec
  ver r i hr := h.quiet.ver r i (fun hm => hr (List.mem_append_left _ hm))
  frags := hf
  core := hs
  still := hu

theorem reply (c : Chip) (x : Ctx) (op st : Nat) (data : List Nat) : Ended c (c.reply x op st data) :=
  of_noise (Noise.reply c x op st data) (c.reply_frags x op st data) (SameCore.reply c x op st data)
    fun i => c.reply_unsubscribed x op st i data

theorem watched (r : Res) (k : Nat) : Ended r.chip (r.watched k).chip := by
  have hs : (r.watched k).chip.host.sessions = r.chip.host.sessions ∧ (r.watched k).chip.host.frags = r.chip.host.frags := by
    unfold Res.watched
    split <;> exact ⟨rfl, rfl⟩
  exact of_noise (Noise.watched r k) hs.2 (SameCore.of_sessions hs.1) fun i _ => by simp only [Chip.ses, hs.1, and_self]

theorem of_settle (s : State) : Ended s.chip s.settle.chip where
  shown := Shown.of_settle s
  sec := (State.settle_lines s).sec
  ver r i hr := (State.settle_lines s).ver r i (fun hm => hr (List.mem_append_right _ hm))
  frags := State.settle_frags s
  core i := by rw [State.settle_ses]
  still i _ := by rw [State.settle_ses]; exact ⟨rfl, rfl⟩

end Ended

theorem Res.watched_sent (r : Res) (k e : Nat) : (r.watched k).chip.sent e = r.chip.sent e := by
  unfold Res.watched
  split <;> rfl

theorem Res.watched_fields (r : Res) (k : Nat) :
    (r.watched k).status = r.status ∧ (r.watched k).data = r.data ∧ (r.watched k).held = r.held ∧ (r.watched k).post = r.post := by
  unfold Res.watched
  split <;> exact ⟨rfl, rfl, rfl, rfl⟩

/-- What an admitted command answers: `r` is what it does, `d` the part after its reply. -/
structure Answered (x : Ctx) (op : Nat) (r : Res) (d : Chip) : Prop where
  ended : Ended r.chip d
  sent : r.held = false → if r.status = stOk ∧ ¬ x.h.ackReq then d.sent x.ep = r.chip.sent x.ep
    else ∃ f : Frame, d.sent x.ep = r.chip.sent x.ep ++ [f] ∧ f.opcode = op ∧ f.session = x.h.session ∧ f.tag = x.h.tag ∧ f.cls = x.h.cls ∧
      f.status = some r.status ∧ f.data = if 0x10 ≤ r.status then [] else r.data

/-- The reply of a command: `d` is the part when it has gone. -/
theorem Chip.command_answered {c d : Chip} {h : Hdr} {sp : CmdSpec} {x : Ctx} {b : Bool} (hg : c.ingress h sp = .go d x b)
    (act : Ctx → Chip → Res) :
    ∃ e, Answered x sp.opcode (act x d) e ∧ c.command h sp act = (act x d).post e := by
  unfold Chip.command Res.conclude
  rw [hg]
  dsimp only
  set k := (d.ses x.si).kind
  obtain ⟨hst, hdata, hheld, hpost⟩ := (act x d).watched_fields k
  rw [hst, hdata, hheld, hpost]
  have hw := Ended.watched (act x d) k
  have hws := (act x d).watched_sent k x.ep
  by_cases hr : (act x d).held = true ∨ ((act x d).status = stOk ∧ ¬ x.h.ackReq = true)
  · rw [if_pos hr]
    refine ⟨_, ⟨hw, fun hh => ?_⟩, rfl⟩
    rw [if_pos (hr.resolve_left (by simp [hh]))]
    exact hws
  · rw [if_neg hr]
    refine ⟨_, ⟨hw.trans (Ended.reply _ x _ _ _), fun _ => ?_⟩, rfl⟩
    rw [if_neg fun hk => hr (.inr hk)]
    obtain ⟨g, f, hg, hrep, hf⟩ := ((act x d).watched k).chip.reply_send x sp.opcode (act x d).status (act x d).data
    exact ⟨f, by rw [hrep, Chip.sent_send, hg.sent, hws], hf⟩

/-- A row completes in the settled state that its meaning leaves. -/
theorem Completes.of_settled {i : Instr} {s : State} {f : Chip → Chip} {c : Chip} {p : State → Prop} (hi : exec i s = s.run f)
    (hc : f s.chip = c) (hp : p (State.settle { s with chip := c })) : Completes i s p := by
  subst hc
  exact ⟨_, hi, hp⟩

/-- An admitted command completes in the settled state that its reply and what follows it leave. -/
theorem Completes.of_answered {i : Instr} {s : State} {h : Hdr} {sp : CmdSpec} {act : Ctx → Chip → Res} {d : Chip} {x : Ctx} {b : Bool}
    {p : State → Prop} (hi : exec i s = s.run (fun c => c.command h sp act)) (hg : s.chip.ingress h sp = .go d x b)
    (hp : ∀ e, Answered x sp.opcode (act x d) e → p (State.settle { s with chip := (act x d).post e })) : Completes i s p := by
  obtain ⟨e, he, hc⟩ := Chip.command_answered hg act
  have h := hp e he
  rw [← hc] at h
  exact ⟨_, hi, h⟩

/-- A command that succeeds and has sent nothing itself is confirmed (R57). -/
theorem Admitted.confirmed {s : State} {h : Hdr} {x : Ctx} {d e : Chip} {op : Nat} {r : Res} (ha : Admitted s.chip h x d)
    (he : Answered x op r e) (hheld : r.held = false) (hst : r.status = stOk) (hsent : r.chip.sent h.ep = d.sent h.ep) :
    Confirmed s (State.settle { s with chip := e }) h op r.data := by
  have hs := he.sent hheld
  rw [ha.ep, hsent, ha.sent, ha.hdr, hst] at hs
  unfold Confirmed Replied
  rw [State.settle_sent]
  by_cases hack : h.ackReq = true
  · rw [if_neg (by simp [hack])] at hs
    rw [if_pos hack]
    exact hs
  · rw [if_pos ⟨rfl, hack⟩] at hs
    rw [if_neg hack]
    exact hs

/-- A command that a check refuses is answered with the status alone (R42). -/
theorem Admitted.refused {s : State} {h : Hdr} {x : Ctx} {d e : Chip} {op st : Nat} (ha : Admitted s.chip h x d)
    (he : Answered x op (d.no st) e) (hst : 0x10 ≤ st) : Replied s (State.settle { s with chip := e }) h op st [] := by
  have hs := he.sent rfl
  have hne : ¬ (st = stOk ∧ ¬ x.h.ackReq = true) := fun hk => by
    have : st = 0 := hk.1
    omega
  change if st = stOk ∧ ¬ x.h.ackReq = true then _ else _ at hs
  rw [if_neg hne, ha.ep, ha.hdr] at hs
  unfold Replied
  rw [State.settle_sent, ← ha.sent]
  change ∃ f : Frame, e.sent h.ep = d.sent h.ep ++ [f] ∧ _
  obtain ⟨f, hf, hop, hses, htag, hcls, hstat, hdata⟩ := hs
  exact ⟨f, hf, hop, hses, htag, hcls, hstat, hdata.trans (if_pos hst)⟩

end Sys2Proof.Machine
end

section
/-!
PROOF. The reset state (R45, R372, R381, R421, R450, R496), and result handles (R60): `RESULT_GET` of an unfinished operation need not leave
its handle in a state whose forced-off lines have not settled.
-/

namespace Sys2Proof.Machine

/-! ## Reset -/

/-- No safety output is on, so none breaks R381. -/
theorem reset_outputsOk : State.reset.outputsOk := by
  intro k _ hon
  have hoff : State.reset.chip.getF FB_STATUS 0 FB_STATUS.SO_ON = 0 := by decide +kernel
  rw [hoff, Nat.zero_testBit] at hon
  cases hon

/-- The Firebreak is harmless and asserts every line, but no channel is configured as a valve. -/
theorem reset_cutOk : State.reset.cutOk := by
  have hnone : ∀ ch < 96, State.reset.chip.chKind ch ≠ ckValve := by decide +kernel
  exact fun ch hch _ hvalve => absurd hvalve (hnone ch hch)

/-- Settles O59: VAON is absent and no valve is configured; the rest are values of the reset images. That the block starts without a
supply, from the factory image in bank A, is the model's choice (log entries 1 and 6). -/
theorem resetMeetsInvariants : Obligations.ResetMeetsInvariants := by
  unfold Obligations.ResetMeetsInvariants
  have hvaon : State.reset.chip.boot.vaon = false := rfl
  have hfault : State.reset.faultLineOk := fun h => absurd (hvaon.symm.trans h) (by decide)
  have hfailsafe : State.reset.failsafeOk := by
    unfold State.failsafeOk
    decide +kernel
  exact ⟨by unfold State.memoryOk; decide +kernel, rfl, reset_outputsOk, hfault, reset_cutOk, hfailsafe, rfl, hvaon, rfl, fun _ => rfl,
    by decide +kernel, by decide +kernel, by decide +kernel⟩

/-! ## A handle that settling finishes -/

/-- An estate session on endpoint 1 holds handle 0 of a homing that still runs on axis 0, while the Firebreak is harmless and asserts
every forced-off line. -/
def cutHoming : Chip :=
  let c : Chip :=
    { boot := { below := false },
      host := { sessions := [(1, { isOpen := true, gen := 1, ep := 1, kind := kEstate })], handles := [(0, { gen := 1, owner := some 1 })] },
      act := { axis := [(0, { handle := some 0 })] } }
  let c := c.upd AON_STATUS 0 [(AON_STATUS.TIER, tierCode lvLimited)]
  let c := c.upd CRED_ESTATE 0 [(CRED_ESTATE.VALID, 1)]
  (c.upd AX_CFG 0 [(AX_CFG.EN, 1)]).upd AX_STATUS 0 [(AX_STATUS.ASTATE, asHoming)]

/-- The session's first frame, a `RESULT_GET`. -/
def resultGetHdr : Hdr := { ep := 1, session := 129, seq := 1, len := 12 }

/-- Whether a gate lets a frame through for the session index `si`. -/
def Gate.passes (g : Gate) (si : Nat) : Bool :=
  match g with
  | .go _ x _ => x.si == si
  | .stop _ => false

theorem Gate.passes_go {g : Gate} {si : Nat} (hg : g.passes si = true) : ∃ c x b, g = .go c x b ∧ x.si = si := by
  cases g with
  | go c x b => exact ⟨c, x, b, rfl, by simpa [Gate.passes] using hg⟩
  | stop c => cases hg

theorem cutHoming_served : (cutHoming.ingress resultGetHdr resultGetSpec).passes 1 = true := by decide +kernel

theorem cutHoming_handle :
    cutHoming.findHandle 1 1 = some 0 ∧ (cutHoming.hnd 0).finished = false ∧
      ((State.settle { chip := cutHoming.resultGet resultGetHdr 1 0 4 }).chip.hnd 0).finished = true := by decide +kernel

/-- Refutes O10: in `cutHoming` the read answers PENDING, and the settling that ends the command stops the axis under its asserted lines and
fixes the homing's result in the handle.
The lines of such a state have not settled, but the statement asks for every state. -/
theorem not_handlesAct : ¬ Obligations.HandlesAct := by
  unfold Obligations.HandlesAct
  rintro ⟨hpending, -⟩
  obtain ⟨c, x, b, hgo, hsi⟩ := Gate.passes_go cutHoming_served
  obtain ⟨hfind, hopen, hclosed⟩ := cutHoming_handle
  obtain ⟨t, ht, hkept, -⟩ := hpending { chip := cutHoming } resultGetHdr x 1 0 4 0 ⟨c, b, hgo⟩ rfl (by decide) (by decide)
    (by rw [hsi]; exact hfind) hopen
  rw [exec_resultGet] at ht
  obtain rfl := Host.Outcome.next.inj ht
  have hfin := congrArg Handle.finished hkept
  rw [hopen] at hfin
  exact absurd (hclosed.symm.trans hfin) (by decide)

end Sys2Proof.Machine
end

section
/-!
PROOF. Session commands and the idle time-out (R50, R57, R62, R66): `PING`, `SESSION_CLOSE`, `SESSION_IDLE_TIMEOUT`, `SUBSCRIBE` and
`UNSUBSCRIBE`.
-/

namespace Sys2Proof.Machine

/-! ## A session closed -/

/-- No handle of a list that has been dropped has an owner. -/
theorem Chip.dropHandles_owner (c : Chip) (l : List Nat) (i k : Nat) (hk : (c.hnd k).owner = some i → k ∈ l) :
    ((c.eachOf l Chip.dropHandle).hnd k).owner ≠ some i := by
  have hstep : ∀ (d : Chip) (j : Nat), j = k ∨ (d.hnd k).owner ≠ some i → ((d.dropHandle j).hnd k).owner ≠ some i := fun d j h => by
    rw [Chip.dropHandle, Chip.hnd_setHnd]
    split
    · exact fun hn => nomatch hn
    · next hne => exact h.resolve_left hne
  by_cases hown : (c.hnd k).owner = some i
  · exact Chip.eachOf_establishes (fun d => (d.hnd k).owner ≠ some i) (hk hown) hstep c
  · exact Chip.eachOf_preserves (fun d => (d.hnd k).owner ≠ some i) (fun d j h => hstep d j (.inr h)) _ hown

theorem Chip.dropHandles_frags (c : Chip) (l : List Nat) : (c.eachOf l Chip.dropHandle).host.frags = c.host.frags :=
  Chip.eachOf_keeps (fun c => c.host.frags) c l _ fun _ _ => rfl

/-- The host side when an open session has closed: its assemblies are gone, its handles are dropped, then its index is emptied. -/
theorem Chip.closeSession_host (c : Chip) (i : Nat) (hopen : (c.ses i).isOpen = true) :
    ∃ (d : Chip) (l : List Nat), (∀ f ∈ d.host.frags, f.ses ≠ i) ∧ (∀ k, k < 1024 → (d.hnd k).owner = some i → k ∈ l) ∧
      (c.closeSession i).host = ((d.eachOf l Chip.dropHandle).setSes i { gen := (c.ses i).gen }).host := by
  unfold Chip.closeSession
  dsimp only
  rw [if_neg (by simp [hopen]), Chip.upd_host, Chip.showSlots, Chip.upd_host]
  exact ⟨_, _, fun f hf => by simpa using (List.mem_filter.mp hf).2,
    fun k hk hown => List.mem_filter.mpr ⟨List.mem_range.mpr hk, beq_iff_eq.mpr hown⟩, rfl⟩

/-- An open session that closes leaves its index with the generation alone, no handle and no assembly (R50). -/
theorem Chip.closeSession_clears (c : Chip) (i : Nat) (hopen : (c.ses i).isOpen = true) :
    (c.closeSession i).ses i = { gen := (c.ses i).gen } ∧ (∀ k, k < 1024 → ((c.closeSession i).hnd k).owner ≠ some i) ∧
      ∀ f ∈ (c.closeSession i).host.frags, f.ses ≠ i := by
  obtain ⟨d, l, hfrags, hl, hhost⟩ := c.closeSession_host i hopen
  refine ⟨?_, fun k hk => ?_, fun f hf => hfrags f ?_⟩
  · rw [Chip.ses, hhost]
    exact Tab.get_set_self _ _ _ _
  · rw [Chip.hnd, hhost]
    exact d.dropHandles_owner l i k (hl k hk)
  · rw [hhost] at hf
    rw [← Chip.dropHandles_frags d l]
    exact hf

/-- A session closed stays so when the lines settle. -/
theorem closeSession_settled (s : State) (c : Chip) (i : Nat) (hopen : (c.ses i).isOpen = true) :
    (State.settle { s with chip := c.closeSession i }).chip.ses i = { gen := (c.ses i).gen } ∧
      (∀ k, k < 1024 → ((State.settle { s with chip := c.closeSession i }).chip.hnd k).owner ≠ some i) ∧
      ∀ f ∈ (State.settle { s with chip := c.closeSession i }).chip.host.frags, f.ses ≠ i := by
  obtain ⟨hses, howner, hfrags⟩ := c.closeSession_clears i hopen
  rw [State.settle_ses, State.settle_frags]
  refine ⟨hses, fun k hk => ?_, hfrags⟩
  rw [Owned.of_settle]
  exact howner k hk

theorem sessionClose_completes {s : State} {h : Hdr} {x : Ctx} (hs : Served s h sessionCloseSpec x) :
    Completes (.sessionClose h) s fun t =>
      t.chip.ses x.si = { gen := (s.chip.ses x.si).gen } ∧ (∀ k, k < 1024 → (t.chip.hnd k).owner ≠ some x.si) ∧
      (∀ f ∈ t.chip.host.frags, f.ses ≠ x.si) := by
  obtain ⟨d, b, hg⟩ := hs
  refine Completes.of_answered (exec_sessionClose ..) hg fun e he => ?_
  have hfix : (e.ses x.si).fixed = (s.chip.ses x.si).fixed :=
    (Session.fixed_of_core (he.ended.core x.si)).trans ((Admitted.of_ingress hg).fixed x.si)
  have hopen : (e.ses x.si).isOpen = true := by
    rw [← Session.fixed_isOpen, hfix]
    exact (Chip.ingress_opened hg rfl).2
  have hgen : (e.ses x.si).gen = (s.chip.ses x.si).gen := by rw [← Session.fixed_gen, hfix, Session.fixed_gen]
  rw [← hgen]
  exact closeSession_settled s e x.si hopen

theorem sessionIdleTimeout_completes (s : State) (i : Nat) (hi : i < 128) (hopen : (s.chip.ses i).isOpen = true)
    (hidle : s.chip.passedS (s.chip.ses i).lastFrame (s.chip.getF ENDPOINT_CFG (s.chip.ses i).ep ENDPOINT_CFG.IDLE_TIMEOUT_S) = true) :
    Completes (.sessionIdleTimeout i) s fun t =>
      t.chip.ses i = { gen := (s.chip.ses i).gen } ∧ (∀ k, k < 1024 → (t.chip.hnd k).owner ≠ some i) := by
  obtain ⟨hses, howner, -⟩ := closeSession_settled s s.chip i hopen
  exact Completes.of_settled ((exec_sessionIdleTimeout ..).trans (if_pos hi)) (if_pos ⟨hopen, hidle⟩) ⟨hses, howner⟩

/-! ## `PING` -/

theorem ping_completes {s : State} {h : Hdr} {x : Ctx} (echo : Bytes) (hs : Served s h pingSpec x) :
    Completes (.ping h echo) s fun t =>
      Confirmed s t h 0x0000 (u8 (s.chip.getF AON_STATUS 0 AON_STATUS.TIER) ++ rsvBytes 3 ++ u64 s.chip.now ++ echo) := by
  obtain ⟨d, b, hg⟩ := hs
  refine Completes.of_answered (exec_ping ..) hg fun e he => ?_
  have hq := Quiet.of_go hg
  have hnow : d.now = s.chip.now := by
    unfold Chip.now
    rw [hq.time]
  rw [← hq.aon AON_STATUS.TIER (by decide), ← hnow]
  exact (Admitted.of_ingress hg).confirmed he rfl rfl rfl

/-! ## Subscriptions -/

/-- The held events that a session is given leave its subscription. -/
theorem SameCore.giveHeld (c : Chip) (i : Nat) : SameCore c (c.giveHeld i) := by
  unfold Chip.giveHeld
  dsimp only
  refine Chip.eachOf_preserves (SameCore c) (fun d ev hd => hd.trans ?_) _ (refl c)
  split
  · exact (Told.setSes d i _ (pushEvent_core _ _ _)).core
  · exact refl d

theorem subscribe_completes {s : State} {h : Hdr} {x : Ctx} {mask minSev : Nat} (hs : Served s h subscribeSpec x) (hrsv : h.prsv = 0)
    (hsev : minSev ≤ 3) :
    Completes (.subscribe h mask minSev) s fun t => (t.chip.ses x.si).sub = some (mask, minSev) := by
  obtain ⟨d, b, hg⟩ := hs
  refine Completes.of_answered (exec_subscribe ..) hg fun e he => ?_
  rw [checks_pass _ _ _ (by simp [hrsv]; omega)] at he ⊢
  rw [State.settle_ses]
  refine (congrArg Session.sub ((he.ended.core x.si).trans (SameCore.giveHeld _ x.si x.si))).trans ?_
  rw [Chip.modSes, Chip.ses_setSes, if_pos rfl]
  rfl

theorem unsubscribe_completes {s : State} {h : Hdr} {x : Ctx} (hs : Served s h unsubscribeSpec x) :
    Completes (.unsubscribe h) s fun t =>
      (t.chip.ses x.si).sub = none ∧ (t.chip.ses x.si).queue = [] ∧ (t.chip.ses x.si).lost = 0 := by
  obtain ⟨d, b, hg⟩ := hs
  refine Completes.of_answered (exec_unsubscribe ..) hg fun e he => ?_
  set c := d.heldAccount.modSes x.si (fun s => { s with sub := none, queue := [], lost := 0 }) with hc
  have hses : c.ses x.si = { d.ses x.si with sub := none, queue := [], lost := 0 } := by
    rw [hc, Chip.modSes, Chip.ses_setSes, if_pos rfl]
    rfl
  have hsub : (c.ses x.si).sub = none := by rw [hses]
  have hcore := he.ended.core x.si
  obtain ⟨hqueue, hlost⟩ := he.ended.still x.si hsub
  rw [State.settle_ses]
  exact ⟨(congrArg Session.sub hcore).trans hsub, hqueue.trans (by rw [hses]), hlost.trans (by rw [hses])⟩

/-- Settles O9: a session closed is emptied, a reply leaves a session's core, and a session without a subscription is told nothing. -/
theorem sessionCommandsAct : Obligations.SessionCommandsAct := by
  unfold Obligations.SessionCommandsAct
  exact ⟨fun _ _ _ echo hs => ping_completes echo hs, fun _ _ _ hs => sessionClose_completes hs, sessionIdleTimeout_completes,
    fun _ _ _ _ _ hs hrsv hsev => subscribe_completes hs hrsv hsev, fun _ _ _ hs => unsubscribe_completes hs⟩

end Sys2Proof.Machine
end

section
/-!
PROOF. Reads of records and snapshots (R62, R85, R515), and the SPI operations and address resolution (R54, R68 to R71).
-/

namespace Sys2Proof.Machine

/-! ## Reads -/

/-- A command that changes nothing leaves every record image as it was but those that the host interface and the lines write. -/
theorem Ended.img_of_read {s : State} {d e : Chip} (hd : Quiet s.chip d) (he : Ended d e) (q : RecDesc) (i : Nat)
    (hq : q.id % 0x10000 ∉ [FB_STATUS.id, AON_STATUS.id, SNAP_STATUS.id, ENDPOINT_STATUS.id, CH_STATUS.id, AX_STATUS.id]) :
    (State.settle { s with chip := e }).chip.img q i = s.chip.img q i := by
  have hsub : ∀ n ∈ shownIds, n ∈ [FB_STATUS.id, AON_STATUS.id, SNAP_STATUS.id, ENDPOINT_STATUS.id, CH_STATUS.id, AX_STATUS.id] := by decide
  have hshown : q.id % 0x10000 ∉ shownIds := fun hm => hq (hsub _ hm)
  rw [(Shown.of_settle _).img _ _ hshown, he.shown.img _ _ hshown]
  exact hd.img q i fun hm => hshown (List.mem_append_left _ hm)

/-- Once every check of `GET_RECORD` passes, it answers the view with its write-only fields as zero. -/
theorem getRecord_completes {s : State} {h : Hdr} {c : Chip} {x : Ctx} {b : Bool} {rec inst offset n : Nat} {r : RecDesc} {v : Nat}
    (hg : s.chip.ingress h getRecordSpec = .go c x b) (hr : findRecord rec = some r) (hinst : inst < r.count)
    (hv : c.view x.who r inst = some v) (hrsv : h.prsv = 0) (hn : 1 ≤ n) (hmax : n ≤ 1008) (hoff : offset < r.len) :
    Completes (.getRecord h rec inst offset n) s fun t =>
      Confirmed s t h 0x0005 (u16 rec ++ u16 inst ++ u16 r.len ++ u16 offset ++ u32 (c.version r inst)
        ++ imageBytes (v - (v &&& r.hiddenMask)) r.len offset n) ∧
      (∀ q i, q.id % 0x10000 ∉ [FB_STATUS.id, AON_STATUS.id, SNAP_STATUS.id, ENDPOINT_STATUS.id, CH_STATUS.id, AX_STATUS.id] →
        t.chip.img q i = s.chip.img q i) := by
  refine Completes.of_answered (exec_getRecord ..) hg fun e he => ?_
  simp only [hr, hv] at he ⊢
  rw [checks_pass _ _ _ (by simp [hrsv]; omega)] at he ⊢
  exact ⟨(Admitted.of_ingress hg).confirmed he rfl rfl rfl, he.ended.img_of_read (Quiet.of_go hg)⟩

/-- Once every check of `SNAP_READ` passes, it answers the latched segment, masked for all but plots. -/
theorem snapRead_completes {s : State} {h : Hdr} {c : Chip} {x : Ctx} {b : Bool} {segment inst offset n : Nat} {r : RecDesc} {g : Segment}
    (hg : s.chip.ingress h snapReadSpec = .go c x b) (hr : snapRecords.find? (fun r => r.id == segment) = some r) (hinst : inst < r.count)
    (hseg : c.boot.segments.find? (fun y => y.record == segment && y.inst == inst) = some g)
    (hmay : c.segmentMay x.who r (some g) inst = true) (hheld : c.getB SNAP_STATUS 0 SNAP_STATUS.SNAP_STATE = true) (hrsv : h.prsv = 0)
    (hn : 1 ≤ n) (hmax : n ≤ 996) (hoff : offset < r.len) :
    Completes (.snapRead h segment inst offset n) s fun t =>
      Confirmed s t h 0x0F01 (u32 (c.getF SNAP_STATUS 0 SNAP_STATUS.SNAP_ID) ++ u16 segment ++ u16 inst ++ u16 r.len ++ u16 offset ++ u8 g.flags
        ++ rsvBytes 3 ++ u64 (c.getF SNAP_STATUS 0 SNAP_STATUS.TIME)
        ++ imageBytes (if whoPlots x.who then g.img else c.maskSegment r g) r.len offset n) := by
  refine Completes.of_answered (exec_snapRead ..) hg fun e he => ?_
  simp only [hr, hseg] at he ⊢
  rw [checks_pass _ _ _ (by simp [hmay, hheld, hrsv]; omega)] at he ⊢
  exact (Admitted.of_ingress hg).confirmed he rfl rfl rfl

/-- Settles O11: a read that every check lets through acts on nothing, so only what the host interface and the lines write has changed. -/
theorem readsReturnViews : Obligations.ReadsReturnViews := by
  unfold Obligations.ReadsReturnViews
  exact ⟨fun _ _ _ _ _ _ _ _ _ _ _ hg hr hinst hv hrsv hn hmax hoff => getRecord_completes hg hr hinst hv hrsv hn hmax hoff,
    fun _ _ _ _ _ _ _ _ _ _ _ hg hr hinst hseg hmay hheld hrsv hn hmax hoff =>
      snapRead_completes hg hr hinst hseg hmay hheld hrsv hn hmax hoff⟩

/-! ## The SPI target port -/

theorem State.settle_ep (s : State) (e : Nat) : s.settle.chip.ep e = s.chip.ep e := (EndpointsKept.of_settle s).ep e

theorem spiWrite_whole_completes (s : State) (hup : s.chip.listening 0 = true) (hfree : (s.chip.ep 0).inbound < 4) :
    Completes (.spiWrite true) s fun t => (t.chip.ep 0).inbound = (s.chip.ep 0).inbound + 1 := by
  refine Completes.of_settled (exec_spiWrite ..) rfl ?_
  rw [State.settle_ep, Chip.spiWrite, if_neg (by simp [hup]), if_neg (by simp; omega), Chip.ep_modEp, if_pos rfl]

theorem spiWrite_cut_completes (s : State) (hup : s.chip.listening 0 = true) :
    Completes (.spiWrite false) s fun t =>
      (t.chip.ep 0).inbound = (s.chip.ep 0).inbound ∧ (t.chip.ep 0).spiFlags.testBit 0 = true ∧ (t.chip.ep 0).spiFlags.testBit 1 = true := by
  refine Completes.of_settled (exec_spiWrite ..) rfl ?_
  have hep : (s.chip.epCount 0 cntFraming).ep 0 = s.chip.ep 0 := (Told.of_host (s.chip.epCount_host 0 cntFraming)).ep 0
  rw [State.settle_ep, Chip.spiWrite, if_neg (by simp [hup]), if_pos (.inr Bool.false_ne_true), Chip.ep_modEp, if_pos rfl, hep]
  refine ⟨rfl, ?_, ?_⟩
  · simp [setBit]
  · simp [setBit, Nat.testBit_or, show Nat.testBit 2 1 = true from rfl]

theorem spiRead_whole_completes (s : State) (f : Frame) (l : List Frame) (hnext : nextOut (s.chip.ep 0) = f :: l) :
    Completes (.spiRead true) s fun t => t.chip.host.wire = s.chip.host.wire ++ [(0, f)] ∧ (t.chip.ep 0).out = l := by
  refine Completes.of_settled (exec_spiRead ..) rfl ?_
  rw [State.settle_wire, State.settle_ep, Chip.spiRead, hnext]
  dsimp only
  rw [if_pos rfl, Chip.ep_modEp, if_pos rfl]
  exact ⟨rfl, rfl⟩

theorem spiRead_cut_completes (s : State) (f : Frame) (l : List Frame) (hnext : nextOut (s.chip.ep 0) = f :: l) :
    Completes (.spiRead false) s fun t =>
      t.chip.host.wire = s.chip.host.wire ∧ (t.chip.ep 0).out = f :: l ∧ (t.chip.ep 0).started = true := by
  refine Completes.of_settled (exec_spiRead ..) rfl ?_
  rw [State.settle_wire, State.settle_ep, Chip.spiRead, hnext]
  dsimp only
  rw [if_neg Bool.false_ne_true, Chip.ep_modEp, if_pos rfl]
  exact ⟨rfl, rfl, rfl⟩

theorem State.settle_spiRead (s : State) : s.settle.chip.host.spiRead = s.chip.host.spiRead := by
  have h := congrArg HostSide.spiRead (State.settle_lines s).host
  exact h

theorem spiStatus_completes (s : State) :
    Completes .spiStatus s fun t =>
      t.chip.host.spiRead = u8 (min 255 (s.chip.ep 0).out.length) ++ u8 (4 - (s.chip.ep 0).inbound) ++ u8 (s.chip.ep 0).spiFlags ++ rsvBytes 1 ∧
      (t.chip.ep 0).spiFlags = 0 := by
  refine Completes.of_settled (exec_spiStatus ..) rfl ?_
  rw [State.settle_spiRead, State.settle_ep, Chip.spiStatus, Chip.ep_modEp, if_pos rfl]
  exact ⟨rfl, rfl⟩

/-! ## Address resolution -/

theorem State.settle_arpReplies (s : State) : s.settle.chip.host.arpReplies = s.chip.host.arpReplies := by
  have h := congrArg HostSide.arpReplies (State.settle_lines s).host
  exact h

theorem arpRequest_completes (s : State) (e target asker : Nat) (he : e < 18) (hup : s.chip.udpUp e = true)
    (hen : s.chip.getB ENDPOINT_CFG e ENDPOINT_CFG.IPV4_EN = true) (hne : target ≠ 0)
    (hown : target = s.chip.getF ENDPOINT_CFG e ENDPOINT_CFG.IPV4_ADDR) :
    Completes (.arpRequest e target asker) s fun t => t.chip.host.arpReplies = s.chip.host.arpReplies ++ [(e, asker)] :=
  Completes.of_settled ((exec_arpRequest ..).trans (if_pos he)) (if_pos ⟨hup, hen, hne, hown⟩) (State.settle_arpReplies _)

theorem neighbourSolicitation_completes (s : State) (e target asker : Nat) (he : e < 18) (hup : s.chip.udpUp e = true)
    (hen : s.chip.getB ENDPOINT_CFG e ENDPOINT_CFG.IPV6_EN = true) (hne : target ≠ 0)
    (hown : target = s.chip.getF ENDPOINT_CFG e ENDPOINT_CFG.IPV6_ADDR ∨
      target = linkLocal (s.chip.getF ENDPOINT_CFG e ENDPOINT_CFG.PORT)) :
    Completes (.neighbourSolicitation e target asker) s fun t => t.chip.host.arpReplies = s.chip.host.arpReplies ++ [(e, asker)] :=
  Completes.of_settled ((exec_neighbourSolicitation ..).trans (if_pos he)) (if_pos ⟨hup, hen, hne, hown⟩) (State.settle_arpReplies _)

/-- Settles O15: each operation writes the port or the replies once, and settling moves neither. What a cut-short write or read leaves is
the model's choice (log entry 103). -/
theorem transportsAct : Obligations.TransportsAct := by
  unfold Obligations.TransportsAct
  exact ⟨spiWrite_whole_completes, spiWrite_cut_completes, spiRead_whole_completes, spiRead_cut_completes, spiStatus_completes,
    arpRequest_completes, neighbourSolicitation_completes⟩

end Sys2Proof.Machine
end

section
/-!
PROOF. `SET_RECORD` (R63, R64, R78, R85): a write that fits of a record without a row of its own, an unknown record, and a write under a
`VERSION` that is not the record's, which every writer refuses.
-/

namespace Sys2Proof.Machine

/-! ## A write that fits -/

theorem Chip.recStored_version (c : Chip) (r q : RecDesc) (i j : Nat) : (c.recStored r i).version q j = c.version q j := by
  unfold Chip.recStored Chip.dirty
  dsimp only
  repeat' split
  all_goals rfl

/-- An accepted write advances the record's `VERSION` once (R63). -/
theorem Chip.written_version (c : Chip) (r : RecDesc) (i img : Nat) : (c.written r i img).version r i = bumpVersion (c.version r i) := by
  rw [Chip.written, Chip.recStored_version]
  exact Tab.get_set_self _ _ _ _

theorem Chip.written_host (c : Chip) (r : RecDesc) (i img : Nat) : (c.written r i img).host = c.host := Chip.recStored_host _ _ _

/-- A write that fits and that nothing stands against answers the `VERSION` after it. -/
theorem Chip.setRecord_plain {c : Chip} {h : Hdr} {r : RecDesc} {inst ver img : Nat} {k : WriteCheck} (hf : WriteFits c h r inst ver img)
    (hk : k.Passes) :
    c.setRecord h r inst ver img k (fun c _ => c) =
      { chip := c.written r inst img, data := u32 (bumpVersion (c.version r inst)) } := by
  rw [← c.written_version r inst img]
  obtain ⟨hlen, hinst, hrsv, hclear, hrange, hver⟩ := hf
  obtain ⟨hid, hmay, hheld, hbad, hstate⟩ := hk
  have hv : (ver != 0xFFFFFFFF && ver != c.version r inst) = false := by
    rcases hver with h | h <;> simp [h]
  unfold Chip.setRecord
  dsimp only
  rw [checks_pass _ _ _ (by simp [hlen, hrsv, hclear, hrange, hv, hid, hmay, hheld, hbad, hstate, hinst])]
  rfl

/-- A record that `SET_RECORD` writes by a plain write: its image and `VERSION` stand, and the reply shows the `VERSION` (R64). -/
theorem setRecord_plain_completes {s : State} {h : Hdr} {x : Ctx} {r : RecDesc} {inst ver img : Nat} {k : WriteCheck}
    (hs : Served s h setRecordSpec x) (hr : r.id % 0x10000 ∉ shownIds) (hf : WriteFits s.chip h r inst ver img) (hk : k.Passes)
    (hrow : ∀ c : Chip, c.writeRecord x r.id inst ver img = c.setRecord x.h r inst ver img k (fun c _ => c)) :
    Completes (.setRecord h r.id inst ver img) s fun t =>
      Wrote s t r inst img ∧ t.chip.version r inst = bumpVersion (s.chip.version r inst) ∧
      Confirmed s t h 0x0006 (u32 (bumpVersion (s.chip.version r inst))) := by
  obtain ⟨d, b, hg⟩ := hs
  have ha := Admitted.of_ingress hg
  have hq := Quiet.of_go hg
  have hnoisy : r.id % 0x10000 ∉ noisyIds := fun hm => hr (List.mem_append_left _ hm)
  refine Completes.of_answered (exec_setRecord ..) hg fun e he => ?_
  rw [hrow, Chip.setRecord_plain (ha.hdr ▸ hf.of_quiet hq hnoisy) hk] at he ⊢
  have hend := he.ended.trans (Ended.of_settle { s with chip := e })
  change Wrote s (State.settle { s with chip := e }) r inst img ∧ (State.settle { s with chip := e }).chip.version r inst = _ ∧ _
  refine ⟨?_, ?_, ?_⟩
  · unfold Wrote
    rw [hend.shown.img _ _ hr, Chip.written_img_self, hq.img _ _ hnoisy]
  · rw [hend.ver _ _ hr, Chip.written_version, hq.ver _ _ hnoisy]
  · rw [← hq.ver _ _ hnoisy]
    exact ha.confirmed he rfl rfl (Chip.sent_of_host (d.written_host r inst img) _)

/-! ## Refusals -/

/-- Where a check fails nothing has changed. -/
theorem checks_fail (c : Chip) (l : List (Bool × Nat)) (act : Unit → Res) (hl : ∃ q ∈ l, q.1 = true) : ∃ st, checks c l act = c.no st := by
  obtain ⟨q, hq, ht⟩ := hl
  obtain ⟨p, hp⟩ := Option.isSome_iff_exists.mp (List.find?_isSome.mpr ⟨q, hq, ht⟩)
  unfold checks
  rw [hp]
  exact ⟨p.2, rfl⟩

/-- A write under a `VERSION` that is not the record's is refused, if not for that, for an earlier check (R64). -/
theorem Chip.setRecord_stale (c : Chip) (h : Hdr) (r : RecDesc) (inst ver img : Nat) (k : WriteCheck) (effect : Chip → Nat → Chip)
    (post : Chip → Chip) (hany : ver ≠ 0xFFFFFFFF) (hver : ver ≠ c.version r inst) :
    ∃ st, c.setRecord h r inst ver img k effect post = c.no st := by
  unfold Chip.setRecord
  exact checks_fail _ _ _ ⟨(ver != 0xFFFFFFFF && ver != c.version r inst, stBadState), by simp, by simp [hany, hver]⟩

/-- A writer of record `r` that goes through `setRecord`, with the checks that every record shares. -/
def SharedWrite (c : Chip) (x : Ctx) (r : RecDesc) (f : Nat → Nat → Nat → Res) : Prop :=
  ∀ inst ver img, ∃ m k effect post, f inst ver img = c.setRecord x.h r inst ver m k effect post

theorem SharedWrite.cons {c : Chip} {x : Ctx} {r : RecDesc} {f : Nat → Nat → Nat → Res} {l : List (RecDesc × (Nat → Nat → Nat → Res))}
    (hf : SharedWrite c x r f) (hl : ∀ p ∈ l, SharedWrite c x p.1 p.2) : ∀ p ∈ (r, f) :: l, SharedWrite c x p.1 p.2 :=
  List.forall_mem_cons.mpr ⟨hf, hl⟩

theorem Chip.recordWriters_sharedWrite (c : Chip) (x : Ctx) : ∀ p ∈ c.recordWriters x, SharedWrite c x p.1 p.2 := by
  unfold Chip.recordWriters
  delta Chip.endpointCfgWrite Chip.credentialWrite Chip.plotLimitsWrite Chip.writeSchedule Chip.planPrefsWrite Chip.forecastWrite
    Chip.axCfgWrite Chip.encCfgWrite Chip.fanPortCfgWrite Chip.ainCfgWrite Chip.meterCfgWrite Chip.tariffWrite Chip.timeRefCfgWrite
    Chip.holdRailCfgWrite Chip.snapCfgWrite
  iterate 59 refine SharedWrite.cons (fun _ _ _ => ⟨_, _, _, _, rfl⟩) ?_
  exact List.forall_mem_nil _

theorem findRecord_id {rec : Nat} {r : RecDesc} (hr : findRecord rec = some r) : r.id = rec := by
  unfold findRecord at hr
  have h := List.find?_some hr
  simpa using h

theorem Chip.writeRecord_stale (c : Chip) (x : Ctx) {rec inst ver img : Nat} {r : RecDesc} (hr : findRecord rec = some r)
    (hany : ver ≠ 0xFFFFFFFF) (hver : ver ≠ c.version r inst) : ∃ st, c.writeRecord x rec inst ver img = c.no st := by
  unfold Chip.writeRecord
  simp only [hr]
  split
  · next p hp =>
    obtain ⟨m, k, effect, post, hw⟩ := c.recordWriters_sharedWrite x p (List.mem_of_find?_eq_some hp) inst ver img
    have hid : p.1.id = r.id := by
      have h := List.find?_some hp
      rw [findRecord_id hr]
      simpa using h
    have hsame : c.version p.1 inst = c.version r inst := by unfold Chip.version recKey; rw [hid]
    rw [hw]
    exact c.setRecord_stale _ _ _ _ _ _ _ _ hany (hsame ▸ hver)
  · exact c.setRecord_stale _ _ _ _ _ _ _ _ hany hver

theorem setRecord_unknown_completes {s : State} {h : Hdr} {x : Ctx} {rec inst ver img : Nat} (hs : Served s h setRecordSpec x)
    (hr : findRecord rec = none) :
    Completes (.setRecord h rec inst ver img) s fun t => Replied s t h 0x0006 stBadParam [] := by
  obtain ⟨d, b, hg⟩ := hs
  refine Completes.of_answered (exec_setRecord ..) hg fun e he => ?_
  have hno : d.writeRecord x rec inst ver img = d.no stBadParam := by
    unfold Chip.writeRecord
    simp only [hr]
  rw [hno] at he ⊢
  exact (Admitted.of_ingress hg).refused he (by decide)

theorem setRecord_stale_completes {s : State} {h : Hdr} {c : Chip} {x : Ctx} {b : Bool} {rec inst ver img : Nat} {r : RecDesc}
    (hg : s.chip.ingress h setRecordSpec = .go c x b) (hr : findRecord rec = some r) (hany : ver ≠ 0xFFFFFFFF)
    (hver : ver ≠ c.version r inst) :
    Completes (.setRecord h rec inst ver img) s fun t => ∀ q i,
      q.id % 0x10000 ∉ [FB_STATUS.id, AON_STATUS.id, SNAP_STATUS.id, ENDPOINT_STATUS.id, CH_STATUS.id, AX_STATUS.id] →
        t.chip.img q i = s.chip.img q i := by
  refine Completes.of_answered (exec_setRecord ..) hg fun e he => ?_
  obtain ⟨st, hno⟩ := c.writeRecord_stale x hr hany hver
  rw [hno] at he ⊢
  exact he.ended.img_of_read (Quiet.of_go hg)

/-! ## The two records written plainly -/

theorem writeRecord_chGlobal (c : Chip) (x : Ctx) (inst ver img : Nat) :
    c.writeRecord x CH_GLOBAL.id inst ver img = c.setRecord x.h CH_GLOBAL inst ver img (estateMay x) (fun c _ => c) := by
  have hrec : findRecord CH_GLOBAL.id = some CH_GLOBAL := by decide +kernel
  have hrow : (c.recordWriters x).find? (fun p => p.1.id == CH_GLOBAL.id) = some (CH_GLOBAL, c.chGlobalWrite x) := by
    unfold Chip.recordWriters
    iterate 24 refine (List.find?_cons_of_neg (by dsimp only; decide)).trans ?_
    exact List.find?_cons_of_pos rfl
  unfold Chip.writeRecord
  simp only [hrec, hrow]
  rfl

theorem writeRecord_kpGlobal (c : Chip) (x : Ctx) (inst ver img : Nat) :
    c.writeRecord x KP_GLOBAL.id inst ver img = c.setRecord x.h KP_GLOBAL inst ver img
      { may := x.who.estateOnly, bad := decide (KP_GLOBAL.DEBOUNCE_MS.get img % 2 ≠ 0) } (fun c _ => c) := by
  have hrec : findRecord KP_GLOBAL.id = some KP_GLOBAL := by decide +kernel
  have hrow : (c.recordWriters x).find? (fun p => p.1.id == KP_GLOBAL.id) = some (KP_GLOBAL, c.kpGlobalWrite x) := by
    unfold Chip.recordWriters
    iterate 37 refine (List.find?_cons_of_neg (by dsimp only; decide)).trans ?_
    exact List.find?_cons_of_pos rfl
  unfold Chip.writeRecord
  simp only [hrec, hrow]
  rfl

/-- Settles O12: the two records are written by `setRecord` with no effect of their own; an unknown number has no writer, and no writer gets
past the `VERSION` check. -/
theorem setRecordWrites : Obligations.SetRecordWrites := by
  unfold Obligations.SetRecordWrites
  refine ⟨fun s h x ver img r inst hrec hs hwho hf => ?_, fun _ _ _ _ _ _ _ hs hr => setRecord_unknown_completes hs hr,
    fun _ _ _ _ _ _ _ _ _ _ hg hr hany hver => setRecord_stale_completes hg hr hany hver⟩
  rcases hrec with rfl | ⟨rfl, heven⟩
  · exact setRecord_plain_completes hs (by decide) hf ⟨rfl, hwho, rfl, rfl, rfl⟩ fun c => writeRecord_chGlobal c x inst ver img
  · exact setRecord_plain_completes hs (by decide) hf ⟨rfl, hwho, rfl, by simp [heven], rfl⟩ fun c => writeRecord_kpGlobal c x inst ver img

end Sys2Proof.Machine
end

section
/-!
PROOF. Fragments, events, held events and refused frames (R55 to R57, R66, R75, R539).
-/

namespace Sys2Proof.Machine

/-! ## Fragments -/

theorem Chip.admitFrame_frags {c d : Chip} {h : Hdr} {op : Nat} {known in0 : Bool} {x : Ctx} {b : Bool}
    (hg : c.admitFrame h op known in0 = .go d x b) : d.host.frags = c.host.frags := by
  rcases Chip.admitFrame_go hg with ⟨-, -, rfl⟩ | ⟨-, -, -, -, rfl⟩
  · exact (c.popInbound h.ep).epCount_frags h.ep cntIn
  · exact c.heard_frags h

/-- The slots that are held follow the assemblies, the waiting replies and the endpoints of the sessions. -/
theorem Chip.epFrags_congr {c d : Chip} (hk : HostKept c d) (hf : d.host.frags = c.host.frags) (e : Nat) : d.epFrags e = c.epFrags e := by
  unfold Chip.epFrags
  rw [hf, hk.waits]
  simp only [(hk.ses _).2]

theorem Chip.sesFrags_congr {c d : Chip} (hk : HostKept c d) (hf : d.host.frags = c.host.frags) (i : Nat) :
    d.sesFrags i = c.sesFrags i := by
  unfold Chip.sesFrags
  rw [hf, hk.waits]

theorem fragmentStore_completes (s : State) (h : Hdr) (op : Nat) (c : Chip) (x : Ctx) (b : Bool) (hup : s.chip.listening h.ep = true)
    (hfin : h.final = false) (hg : s.chip.admitFrame h op (opcodeKnown op) (opcodeOpen op) = .go c x b)
    (hcls : (opcodeClasses op).contains h.cls = true) (hses : x.si ≠ session0) (h2 : 2 ≤ h.cls) (hnew : s.chip.fragOf x.si h.tag = none)
    (hlen : h.len ≤ 1024) (htwo : (s.chip.host.frags.filter (fun g => g.ses == x.si)).length < 2) (hfree : 0 < s.chip.freeGen h.ep)
    (hcap : s.chip.sesFrags x.si < s.chip.slotCap h.ep) :
    Completes (.fragmentStore h op) s fun t =>
      t.chip.host.frags = s.chip.host.frags ++ [⟨x.si, h.tag, op, h.cls, h.len, s.chip.up⟩] := by
  have hf := Chip.admitFrame_frags hg
  have hk : HostKept s.chip c := ((HostKept.admits_admitFrame ..).go hg).1
  have hq : Quiet s.chip c := by
    have hq := Quiet.admitFrame s.chip h op (opcodeKnown op) (opcodeOpen op)
    rwa [hg] at hq
  have hnew' : c.fragOf x.si h.tag = none := by rw [← hnew, Chip.fragOf, Chip.fragOf, hf]
  have hgen : c.freeGen h.ep = s.chip.freeGen h.ep := by rw [Chip.freeGen, Chip.epFrags_congr hk hf, Chip.freeGen]
  have hslots : c.slotCap h.ep = s.chip.slotCap h.ep := hq.getF _ _ _ (by decide)
  have hup' : c.up = s.chip.up := congrArg (·.up) hq.time
  refine Completes.of_settled (exec_fragmentStore ..) rfl ?_
  rw [State.settle_frags]
  unfold Chip.fragmentStore
  rw [if_neg (by simp [hup, hfin]), hg]
  dsimp only
  rw [if_neg (by rw [hcls]; decide), if_neg (fun hb => hb.elim hses (by omega)), hnew']
  dsimp only
  rw [if_neg (by omega), hf, if_neg (by omega), hgen, hslots, Chip.sesFrags_congr hk hf, if_neg (by omega), hup',
    apply_ite (fun d : Chip => d.host.frags), Chip.reply_frags, Chip.showSlots_host, ite_self]

theorem Chip.fragOf_dropFrag (c : Chip) (i tag : Nat) : (c.dropFrag i tag).fragOf i tag = none := by
  unfold Chip.fragOf Chip.dropFrag
  rw [Chip.showSlots_host, List.find?_eq_none]
  intro f hf hp
  have hout := (List.mem_filter.mp hf).2
  rw [hp] at hout
  cases hout

theorem fragmentTimeout_completes (s : State) (i tag : Nat) (f : Frag) (hi : i < 128) (hf : s.chip.fragOf i tag = some f)
    (hlate : ticksPerSecond < s.chip.since f.last) : Completes (.fragmentTimeout i tag) s fun t => t.chip.fragOf i tag = none := by
  refine Completes.of_settled ((exec_fragmentTimeout ..).trans (if_pos hi)) rfl ?_
  unfold Chip.fragmentTimeout
  rw [hf]
  dsimp only
  rw [if_neg (by omega), Chip.fragOf, State.settle_frags, Chip.reply_frags]
  exact s.chip.fragOf_dropFrag i tag

/-! ## Events on the wire -/

theorem Chip.sent_eachOf_send (c : Chip) (e : Nat) (l : List Frame) : (c.eachOf l (fun c f => c.send e f)).sent e = c.sent e ++ l := by
  induction l generalizing c with
  | nil => exact (List.append_nil _).symm
  | cons f l ih =>
    refine (ih (c.send e f)).trans ?_
    rw [Chip.sent_send, List.append_assoc]
    rfl

theorem Chip.send_refusals (c : Chip) (e j : Nat) (f : Frame) : ((c.send e f).ep j).refusals = (c.ep j).refusals := by
  have hcount : ((c.epCount e cntOut).ep j) = c.ep j := (Told.of_host (c.epCount_host e cntOut)).ep j
  unfold Chip.send
  dsimp only
  split
  · rw [Chip.ep_modEp, hcount]
    split <;> rfl
  · exact congrArg Endpoint.refusals hcount

/-- The refusals that wait leave in their order, and the sessions are untouched (R75). -/
theorem Chip.sendRefusals_sent (c : Chip) (e : Nat) : (c.sendRefusals e).sent e = c.sent e ++ (c.ep e).refusals := by
  unfold Chip.sendRefusals
  dsimp only
  rw [Chip.sent_eachOf_send, Chip.sent_modEp]
  exact fun _ => rfl

theorem Chip.sendRefusals_refusals (c : Chip) (e : Nat) : ((c.sendRefusals e).ep e).refusals = [] := by
  unfold Chip.sendRefusals
  dsimp only
  rw [Chip.eachOf_keeps (fun d => (d.ep e).refusals) _ _ _ fun d f => d.send_refusals e e f, Chip.ep_modEp, if_pos rfl]

theorem Chip.sendRefusals_sessions (c : Chip) (e : Nat) : (c.sendRefusals e).host.sessions = c.host.sessions := by
  unfold Chip.sendRefusals
  dsimp only
  rw [Chip.eachOf_keeps (fun d => d.host.sessions) _ _ _ fun d f => d.send_sessions e f]
  rfl

theorem eventTransmit_completes (s : State) (e i : Nat) (q : QEvent) (l : List QEvent) (he : 1 ≤ e) (he' : e < 18) (hi : i < 128)
    (hup : s.chip.listening e = true) (hopen : (s.chip.ses i).isOpen = true) (hep : (s.chip.ses i).ep = e)
    (hqueue : (s.chip.ses i).queue = q :: l) :
    Completes (.eventTransmit e i) s fun t =>
      (t.chip.ep e).refusals = [] ∧
      ∃ f, t.chip.sent e = s.chip.sent e ++ (s.chip.ep e).refusals ++ [f] ∧ f.opcode = 0x0010 ∧ f.session = s.chip.sidOf i ∧
        f.status = none ∧ f.data = eventBytes q := by
  have hses : (s.chip.sendRefusals e).ses i = s.chip.ses i := by rw [Chip.ses, Chip.sendRefusals_sessions, Chip.ses]
  refine Completes.of_settled ((exec_eventTransmit ..).trans (if_pos ⟨he', hi⟩)) rfl ?_
  rw [State.settle_ep, State.settle_sent]
  unfold Chip.eventTransmit
  rw [if_neg (by simp [hup])]
  dsimp only
  rw [hses, hqueue]
  dsimp only
  rw [if_neg (by simp [hopen, hep]; omega)]
  have htold : Told (s.chip.sendRefusals e) (((s.chip.sendRefusals e).modSes i fun s => { s with queue := l }).nextTx i) :=
    (Told.setSes _ i { (s.chip.sendRefusals e).ses i with queue := l } rfl).trans (Told.nextTx _ i)
  generalize ((s.chip.sendRefusals e).modSes i fun s => { s with queue := l }).nextTx i = d at htold ⊢
  have hgen : (d.ses i).gen = (s.chip.ses i).gen := by
    have hcore := congrArg Session.gen (htold.core i)
    rw [hses] at hcore
    exact hcore
  refine ⟨?_, ?_⟩
  · refine (d.send_refusals e e _).trans ?_
    rw [htold.ep, Chip.sendRefusals_refusals]
  · have hsent := d.sent_send e ⟨0x0010, d.sidOf i, (d.ses i).txSeq, 0, if q.sev = 3 then 0 else if q.sev = 2 then 1 else 2, none, 0,
      eventBytes q, (s.chip.ses i).addr⟩
    rw [htold.sent, Chip.sendRefusals_sent] at hsent
    exact ⟨_, hsent, rfl, congrArg (fun g => i + 128 * g) hgen, rfl, rfl⟩

/-! ## Held events -/

/-- A held event with the time it has been held under a subscription brought up to date (R539). -/
def Chip.accounted (c : Chip) (y : Held) : Held :=
  { y with run := if c.anySub then y.run + c.since y.since else y.run, since := c.up }

/-- Those brought up to date and kept are those whose time is not yet up. -/
theorem Chip.map_ev_accounted (c : Chip) (l : List Held) :
    ((l.map c.accounted).filter (fun y => decide (y.run < 600 * ticksPerSecond))).map Held.ev =
      (l.filter (fun y =>
        decide ((if c.anySub then y.run + c.since y.since else y.run) < 600 * ticksPerSecond))).map Held.ev := by
  rw [List.filter_map, List.map_map]
  rfl

theorem heldEventRelease_completes (s : State) :
    Completes .heldEventRelease s fun t =>
      t.chip.host.heldChip.map Held.ev = (s.chip.host.heldChip.filter (fun y =>
        decide ((if s.chip.anySub then y.run + s.chip.since y.since else y.run) < 600 * ticksPerSecond))).map Held.ev ∧
      t.chip.host.heldFb.map Held.ev = (s.chip.host.heldFb.filter (fun y =>
        decide ((if s.chip.anySub then y.run + s.chip.since y.since else y.run) < 600 * ticksPerSecond))).map Held.ev := by
  refine Completes.of_settled (exec_heldEventRelease s) rfl ?_
  have hhost := (State.settle_lines { s with chip := s.chip.heldEventRelease }).host
  have hchip := congrArg HostSide.heldChip hhost
  have hfb := congrArg HostSide.heldFb hhost
  rw [← s.chip.map_ev_accounted, ← s.chip.map_ev_accounted]
  exact ⟨congrArg (List.map Held.ev) hchip, congrArg (List.map Held.ev) hfb⟩

/-! ## Refused frames -/

theorem framing_completes (s : State) (h : Hdr) (op fault : Nat) (hup : s.chip.listening h.ep = true) (h1 : 1 ≤ fault) (h4 : fault < 4) :
    Completes (.frameRefusal h op fault) s fun t =>
      t.chip.getF ENDPOINT_STATUS h.ep (epCounter cntFraming) = satInc 32 (s.chip.getF ENDPOINT_STATUS h.ep (epCounter cntFraming)) := by
  refine Completes.of_settled ((exec_frameRefusal ..).trans (if_pos h4)) rfl ?_
  have hcount : (s.chip.frameRefusal h op fault).getF ENDPOINT_STATUS h.ep (epCounter cntFraming) =
      satInc 32 (s.chip.getF ENDPOINT_STATUS h.ep (epCounter cntFraming)) := by
    unfold Chip.frameRefusal
    rw [if_neg (by simp [hup]), if_pos (by omega)]
    dsimp only
    rw [apply_ite (fun d : Chip => d.getF ENDPOINT_STATUS h.ep (epCounter cntFraming))]
    exact (ite_self _).trans (Chip.getF_incSat_self (s.chip.popInbound h.ep) _ _ _ _ _ (by decide))
  rw [← hcount, Chip.getF, (EndpointsKept.of_settle _).img, Chip.getF]

/-- With room in the queue and in the second, `AUTH_FAIL` joins the refusals in session-0 form (R75). -/
theorem Chip.authFail_refusals (c : Chip) (h : Hdr) (op : Nat) (hroom : (c.ep h.ep).refusals.length < 8)
    (hrate : ((c.ep h.ep).authTimes.filter (fun y => decide (c.since y < ticksPerSecond))).length < 100) :
    ∃ f, ((c.authFail h op).ep h.ep).refusals = (c.ep h.ep).refusals ++ [f] ∧ f.session = 0 ∧ f.status = some stAuthFail ∧ f.opcode = op ∧
      f.tag = h.tag := by
  have hep : (c.epCount h.ep cntAuth).ep h.ep = c.ep h.ep := (Told.of_host (c.epCount_host h.ep cntAuth)).ep h.ep
  have hsince : (c.epCount h.ep cntAuth).since = c.since := by
    unfold Chip.since
    rw [(Quiet.epCount c h.ep cntAuth).time]
  unfold Chip.authFail
  dsimp only
  rw [hep, hsince, if_pos hrate, Chip.refuse, Chip.ep_modEp, if_pos rfl, hep, if_pos hroom, Chip.ep_modEp, if_pos rfl, Chip.ep_modEp,
    if_pos rfl, hep]
  exact ⟨_, rfl, rfl, rfl, rfl, rfl⟩

theorem authFail_completes (s : State) (h : Hdr) (op : Nat) (hup : s.chip.listening h.ep = true) (hses : h.session ≠ 0)
    (hshut : (s.chip.ses (h.session % 128)).isOpen = false) (hroom : (s.chip.ep h.ep).refusals.length < 8)
    (hrate : ((s.chip.ep h.ep).authTimes.filter (fun y => decide (s.chip.since y < ticksPerSecond))).length < 100) :
    Completes (.frameRefusal h op 0) s fun t =>
      ∃ f, (t.chip.ep h.ep).refusals = (s.chip.ep h.ep).refusals ++ [f] ∧ f.session = 0 ∧ f.status = some stAuthFail ∧ f.opcode = op ∧
        f.tag = h.tag := by
  refine Completes.of_settled ((exec_frameRefusal ..).trans (if_pos (by decide))) rfl ?_
  rw [State.settle_ep]
  have hstop : s.chip.frameRefusal h op 0 = ((s.chip.popInbound h.ep).epCount h.ep cntIn).authFail h op := by
    unfold Chip.frameRefusal Chip.admitFrame
    rw [if_neg (by simp [hup]), if_neg (by simp)]
    dsimp only
    rw [if_neg hses, if_pos (by rw [Chip.epCount_ses, Chip.popInbound_ses, hshut]; rfl)]
  have hep : ((s.chip.popInbound h.ep).epCount h.ep cntIn).ep h.ep = { s.chip.ep h.ep with inbound := (s.chip.ep h.ep).inbound - 1 } := by
    rw [(Told.of_host ((s.chip.popInbound h.ep).epCount_host h.ep cntIn)).ep, Chip.popInbound, Chip.ep_modEp, if_pos rfl]
  have hsince : ((s.chip.popInbound h.ep).epCount h.ep cntIn).since = s.chip.since := by
    unfold Chip.since
    rw [((Quiet.popInbound s.chip h.ep).trans (Quiet.epCount _ h.ep cntIn)).time]
  have hfail := Chip.authFail_refusals ((s.chip.popInbound h.ep).epCount h.ep cntIn) h op (by rw [hep]; exact hroom)
    (by rw [hep, hsince]; exact hrate)
  rw [hep] at hfail
  rw [hstop]
  exact hfail

/-- Settles O14: each clause is one operation on the assemblies, the queues or the counters, which settling keeps. That refusals wait in a
queue, leave before the events and are dropped when it is full is the choice of log entry 12. -/
theorem fragmentsAndEventsAct : Obligations.FragmentsAndEventsAct := by
  unfold Obligations.FragmentsAndEventsAct
  exact ⟨fragmentStore_completes, fragmentTimeout_completes, eventTransmit_completes, heldEventRelease_completes, framing_completes,
    authFail_completes⟩

end Sys2Proof.Machine
end

section
/-!
PROOF. The window of sequence numbers of a session (R45 to R47, R49): as functions, and at `PING`.
-/

namespace Sys2Proof.Machine

/-! ## The window -/

theorem seqRefused_iff (y : Session) (m : Nat) : seqRefused y m = true ↔ m = 0 ∨ m + 64 ≤ y.high ∨ m ∈ y.window := by
  simp [seqRefused, or_assoc]

theorem mem_markSeq_window (y : Session) (n m : Nat) :
    m ∈ (markSeq y n).window ↔ (m = n ∨ m ∈ y.window) ∧ max y.high n < m + 64 := by
  simp [markSeq, List.mem_filter]

/-- A number marked is refused from then on, and so is what the window has left behind; nothing else becomes refused. -/
theorem seqRefused_markSeq (y : Session) (n m : Nat) :
    seqRefused (markSeq y n) m = true ↔ seqRefused y m = true ∨ m = n ∨ m + 64 ≤ n := by
  have hhigh : (markSeq y n).high = max y.high n := rfl
  rw [seqRefused_iff, seqRefused_iff, mem_markSeq_window, hhigh]
  by_cases hw : m ∈ y.window
  · simp only [hw, or_true, true_and, true_or, iff_true]
    omega
  · simp only [hw, or_false]
    omega

/-- What refuses a number is the part of the session that events and replies leave alone. -/
theorem seqRefused_core (y : Session) (m : Nat) : seqRefused y.core m = seqRefused y m := rfl

/-! ## A frame that names an open session and authenticates -/

/-- The part when step 4 has found the session: the time and the address of the frame are noted. -/
def Chip.stamped (c : Chip) (h : Hdr) : Chip :=
  let c := (c.popInbound h.ep).epCount h.ep cntIn
  let i := h.session % 128
  c.setSes i { c.ses i with lastFrame := c.up, addr := h.addr }

theorem Chip.stamped_window (c : Chip) (h : Hdr) (i : Nat) :
    ((c.stamped h).ses i).high = (c.ses i).high ∧ ((c.stamped h).ses i).window = (c.ses i).window := by
  unfold Chip.stamped
  dsimp only
  rw [Chip.ses_setSes, Chip.epCount_ses, Chip.popInbound_ses, Chip.epCount_ses, Chip.popInbound_ses]
  split
  · next hi => rw [hi]; exact ⟨rfl, rfl⟩
  · exact ⟨rfl, rfl⟩

theorem Chip.stamped_sent (c : Chip) (h : Hdr) (e : Nat) : (c.stamped h).sent e = c.sent e := by
  refine (Chip.sent_of_host (d := (c.popInbound h.ep).epCount h.ep cntIn) (Chip.epCount_host _ _ _) e).trans ?_
  exact c.sent_modEp _ _ _ fun _ => rfl

theorem Chip.stamped_refusals (c : Chip) (h : Hdr) : ((c.stamped h).ep h.ep).refusals = (c.ep h.ep).refusals := by
  have hep : ((c.popInbound h.ep).epCount h.ep cntIn).ep h.ep = (c.popInbound h.ep).ep h.ep := (Told.of_host (Chip.epCount_host _ _ _)).ep _
  change (((c.popInbound h.ep).epCount h.ep cntIn).ep h.ep).refusals = _
  rw [hep, Chip.popInbound, Chip.ep_modEp, if_pos rfl]

/-- The header names an open session of its endpoint and the trailer is right (R45, R46). -/
structure Named (c : Chip) (h : Hdr) : Prop where
  ses : h.session ≠ 0
  opened : (c.ses (h.session % 128)).isOpen = true
  gen : (c.ses (h.session % 128)).gen = h.session / 128
  ep : (c.ses (h.session % 128)).ep = h.ep
  auth : h.authentic = true

/-- The number is checked first; once it is spent, whatever refuses the frame acts on the part that has heard it. -/
theorem Named.admitFrame {c : Chip} {h : Hdr} (hn : Named c h) (op : Nat) (in0 : Bool) :
    c.admitFrame h op true in0 =
      if seqRefused (c.ses (h.session % 128)) h.seq then
        .stop (((c.stamped h).epCount h.ep cntReplay).refuseIn h op (h.session % 128) stReplay)
      else if 2 ^ 63 ≤ h.seq then .stop ((c.heard h).refuseIn h op (h.session % 128) stBadState)
      else if h.zero ≠ 0 ∨ h.rsv ≠ 0 then .stop ((c.heard h).refuseIn h op (h.session % 128) stBadParam)
      else .go (c.heard h) ⟨h.ep, h.session % 128, (c.heard h).whoOf ((c.heard h).ses (h.session % 128)), h⟩ false := by
  have hses : ((c.popInbound h.ep).epCount h.ep cntIn).ses (h.session % 128) = c.ses (h.session % 128) := Chip.epCount_ses _ _ _ _
  unfold Chip.admitFrame
  dsimp only
  rw [if_neg hn.ses, if_neg (by rw [hses]; simp [hn.opened, hn.gen, hn.ep, hn.auth]), if_neg (c := (!true) = true) (by decide), ← hses]
  rfl

/-! ## What a number refused leaves -/

theorem SameCore.epCount (c : Chip) (e k : Nat) : SameCore c (c.epCount e k) := of_sessions (c.epCount_sessions e k)

theorem Chip.sent_refuse (c : Chip) (h : Hdr) (op ses seq cr st addr e : Nat) : (c.refuse h op ses seq cr st addr).sent e = c.sent e := by
  unfold Chip.refuse
  split
  · exact c.sent_modEp _ _ _ fun _ => rfl
  · exact Chip.sent_of_host (c.epCount_host _ _) e

theorem Chip.sent_refuseIn (c : Chip) (h : Hdr) (op si st e : Nat) : (c.refuseIn h op si st).sent e = c.sent e := by
  unfold Chip.refuseIn
  split
  · exact (Chip.sent_refuse _ _ _ _ _ _ _ _ _).trans ((Told.nextTx c si).sent e)
  · exact Chip.sent_of_host (c.epCount_host _ _) e

/-- With room in the queue a refusal under a session joins it (R75). -/
theorem Chip.refuseIn_refusals (c : Chip) (h : Hdr) (op si st : Nat) (hroom : (c.ep h.ep).refusals.length < 8) :
    ∃ f : Frame, ((c.refuseIn h op si st).ep h.ep).refusals = (c.ep h.ep).refusals ++ [f] ∧ f.status = some st ∧ f.tag = h.tag ∧
      f.session = h.session := by
  have hep : (c.nextTx si).ep h.ep = c.ep h.ep := (Told.nextTx c si).ep h.ep
  unfold Chip.refuseIn
  rw [if_pos hroom]
  dsimp only
  rw [Chip.refuse, hep, if_pos hroom, Chip.ep_modEp, if_pos rfl, hep]
  exact ⟨_, rfl, rfl, rfl, rfl⟩

/-- A number refused is answered `REPLAY` and leaves the window and the frames sent (R47). -/
theorem Chip.replayed_refused (c : Chip) (h : Hdr) (op : Nat) :
    let d := ((c.stamped h).epCount h.ep cntReplay).refuseIn h op (h.session % 128) stReplay
    (d.ses (h.session % 128)).high = (c.ses (h.session % 128)).high ∧ (d.ses (h.session % 128)).window = (c.ses (h.session % 128)).window ∧
      d.sent h.ep = c.sent h.ep ∧ ((c.ep h.ep).refusals.length < 8 → ∃ f : Frame,
        (d.ep h.ep).refusals = (c.ep h.ep).refusals ++ [f] ∧ f.status = some stReplay ∧ f.tag = h.tag ∧ f.session = h.session) := by
  intro d
  have hcore : SameCore (c.stamped h) d := (SameCore.epCount _ _ _).trans (SameCore.refuseIn _ _ _ _ _)
  obtain ⟨hhigh, hwindow⟩ := c.stamped_window h (h.session % 128)
  have hrefusals : (((c.stamped h).epCount h.ep cntReplay).ep h.ep).refusals = (c.ep h.ep).refusals := by
    rw [(Told.of_host ((c.stamped h).epCount_host h.ep cntReplay)).ep, c.stamped_refusals]
  have hses := hcore (h.session % 128)
  have khigh := congrArg Session.high hses
  have kwindow := congrArg Session.window hses
  rw [Session.core_high, Session.core_high] at khigh
  rw [Session.core_window, Session.core_window] at kwindow
  refine ⟨khigh.trans hhigh, kwindow.trans hwindow, ?_, fun hroom => ?_⟩
  · rw [Chip.sent_refuseIn, Chip.sent_of_host (Chip.epCount_host _ _ _), c.stamped_sent]
  · rw [← hrefusals] at hroom ⊢
    exact Chip.refuseIn_refusals _ h op _ stReplay hroom

/-! ## What follows a number spent -/

theorem SameCore.dropFrag (c : Chip) (si tag : Nat) : SameCore c (c.dropFrag si tag) := fun i => by rw [Chip.dropFrag_ses]

theorem Gate.chip_stop (c : Chip) : (Gate.stop c).chip = c := rfl

theorem Gate.chip_go (c : Chip) (x : Ctx) (b : Bool) : (Gate.go c x b).chip = c := rfl

theorem Gate.chip_ite (p : Prop) [Decidable p] (a b : Gate) : (if p then a else b).chip = if p then a.chip else b.chip := by
  split <;> rfl

theorem SameCore.answer (c : Chip) (x : Ctx) (op st : Nat) : SameCore c (c.answer x op st).chip := SameCore.reply c x op st []

theorem SameCore.admitClass (c : Chip) (x : Ctx) (sp : CmdSpec) : SameCore c (c.admitClass x sp).chip := by
  have hcredit := (SameCore.epCount c x.h.ep cntCredit).trans (SameCore.answer _ x sp.opcode stNoCredit)
  unfold Chip.admitClass
  simp only [Gate.chip_ite]
  refine ite _ (answer c _ _ _) (ite _ (answer c _ _ _) (ite _ (answer c _ _ _) ?_))
  split
  · rw [Gate.chip_ite]
    exact ite _ ((dropFrag c _ _).trans (answer _ _ _ _)) (dropFrag c _ _)
  · simp only [Gate.chip_ite]
    exact ite _ (epCount c _ _) (ite _ (ite _ (refl c) hcredit) (ite _ (refl c) hcredit))

theorem SameCore.admitWho (c : Chip) (x : Ctx) (sp : CmdSpec) : SameCore c (c.admitWho x sp).chip := by
  unfold Chip.admitWho
  simp only [Gate.chip_ite]
  exact ite _ (answer c _ _ _) (ite _ (answer c _ _ _) (ite _ (answer c _ _ _) (ite _ (answer c _ _ _) (ite _ (answer c _ _ _)
    (ite _ (answer c _ _ _) (refl c))))))

/-- Once the number is spent, the frame's other checks leave the windows alone (R47). -/
theorem Named.ingress_core {c : Chip} {h : Hdr} (hn : Named c h) (hup : c.listening h.ep = true)
    (hnew : seqRefused (c.ses (h.session % 128)) h.seq = false) (sp : CmdSpec) : SameCore (c.heard h) (c.ingress h sp).chip := by
  have hrefuse := fun st => SameCore.refuseIn (c.heard h) h sp.opcode (h.session % 128) st
  have hframe : SameCore (c.heard h) (c.admitFrame h sp.opcode true sp.inSession0).chip := by
    rw [hn.admitFrame, if_neg (by simp [hnew])]
    simp only [Gate.chip_ite, Gate.chip_stop, Gate.chip_go]
    exact SameCore.ite _ (hrefuse _) (SameCore.ite _ (hrefuse _) (SameCore.refl _))
  unfold Chip.ingress
  rw [if_neg (by simp [hup])]
  cases hf : c.admitFrame h sp.opcode true sp.inSession0 with
  | stop d => rwa [hf] at hframe
  | go d x b =>
    rw [hf] at hframe
    have hclass := SameCore.admitClass d x sp
    dsimp only
    cases hc : d.admitClass x sp with
    | stop k =>
      rw [hc] at hclass
      exact hframe.trans hclass
    | go k y b =>
      rw [hc] at hclass
      exact (hframe.trans hclass).trans (SameCore.admitWho k y sp)

/-- A command that leaves the windows alone leaves those of the frame heard. -/
theorem Named.command_core {c : Chip} {h : Hdr} (hn : Named c h) (hup : c.listening h.ep = true)
    (hnew : seqRefused (c.ses (h.session % 128)) h.seq = false) (sp : CmdSpec) (act : Ctx → Chip → Res)
    (hact : ∀ x d, SameCore d (act x d).chip) (hpost : ∀ x d, (act x d).post = id) : SameCore (c.heard h) (c.command h sp act) := by
  have hin := hn.ingress_core hup hnew sp
  rcases hg : c.ingress h sp with d | ⟨d, x, b⟩
  · rw [hg] at hin
    unfold Chip.command
    rw [hg]
    exact hin
  · rw [hg] at hin
    obtain ⟨e, he, hc⟩ := Chip.command_answered hg act
    rw [hc, hpost]
    exact (hin.trans (hact x d)).trans he.ended.core

theorem ping_spends_completes (s : State) (h : Hdr) (echo : Bytes) (hn : Named s.chip h) (hup : s.chip.listening h.ep = true) :
    Completes (.ping h echo) s fun t =>
      (seqRefused (s.chip.ses (h.session % 128)) h.seq = true →
        (t.chip.ses (h.session % 128)).high = (s.chip.ses (h.session % 128)).high ∧
        (t.chip.ses (h.session % 128)).window = (s.chip.ses (h.session % 128)).window ∧
        t.chip.sent h.ep = s.chip.sent h.ep ∧ ((s.chip.ep h.ep).refusals.length < 8 → ∃ f : Frame,
          (t.chip.ep h.ep).refusals = (s.chip.ep h.ep).refusals ++ [f] ∧ f.status = some stReplay ∧ f.tag = h.tag ∧ f.session = h.session)) ∧
      (seqRefused (s.chip.ses (h.session % 128)) h.seq = false →
        (t.chip.ses (h.session % 128)).high = max (s.chip.ses (h.session % 128)).high h.seq ∧
        ∀ m, seqRefused (t.chip.ses (h.session % 128)) m = true ↔
          seqRefused (s.chip.ses (h.session % 128)) m = true ∨ m = h.seq ∨ m + 64 ≤ h.seq) := by
  refine Completes.of_settled (exec_ping ..) rfl ?_
  rw [State.settle_ses, State.settle_sent, State.settle_ep]
  refine ⟨fun hold => ?_, fun hnew => ?_⟩
  · have hstop : s.chip.ping h echo =
        ((s.chip.stamped h).epCount h.ep cntReplay).refuseIn h pingSpec.opcode (h.session % 128) stReplay := by
      unfold Chip.ping Chip.command Chip.ingress
      rw [if_neg (by simp [hup]), hn.admitFrame, if_pos hold]
    rw [hstop]
    exact s.chip.replayed_refused h pingSpec.opcode
  · have hcore : SameCore (s.chip.heard h) (s.chip.ping h echo) :=
      hn.command_core hup hnew pingSpec _ (fun _ d => SameCore.refl d) fun _ _ => rfl
    have hmark := (hcore (h.session % 128)).trans ((s.chip.heard_core h (h.session % 128)).trans (if_pos rfl))
    have hhigh := congrArg Session.high hmark
    rw [Session.core_high, Session.core_high] at hhigh
    refine ⟨hhigh, fun m => ?_⟩
    rw [← seqRefused_core, hmark, seqRefused_core, seqRefused_markSeq]
    rfl

/-- Settles O58: the functions by the window's arithmetic; at `PING` a number refused stops the frame before it is marked, and nothing after
the mark touches the window. -/
theorem sequenceNumbersSpent : Obligations.SequenceNumbersSpent := by
  unfold Obligations.SequenceNumbersSpent
  refine ⟨seqRefused_iff, fun y n m _ => seqRefused_markSeq y n m, ?_⟩
  rintro s h echo i hup hses rfl hopen hgen hep hauth
  exact ping_spends_completes s h echo ⟨hses, hopen, hgen, hep, hauth⟩ hup

end Sys2Proof.Machine
end

section
/-!
PROOF. Opening a session (R45, R84, R92 to R94, R99).
-/

namespace Sys2Proof.Machine

/-! ## What the checks of R93 read -/

theorem Quiet.getB {c d : Chip} (h : Quiet c d) (r : RecDesc) (i : Nat) (f : Fld) (hr : r.id % 0x10000 ∉ noisyIds) :
    d.getB r i f = c.getB r i f := by rw [Chip.getB, h.getF r i f hr, Chip.getB]

theorem Quiet.plotSecret {c d : Chip} (h : Quiet c d) (p : Nat) : d.plotSecret p = c.plotSecret p := by
  unfold Chip.plotSecret
  rw [h.sec]

theorem Quiet.slotState {c d : Chip} (h : Quiet c d) (p : Nat) : d.slotState p = c.slotState p := h.getF _ _ _ (by decide)

theorem Quiet.since {c d : Chip} (h : Quiet c d) (t : Nat) : d.since t = c.since t := by
  unfold Chip.since
  rw [h.time]

theorem Quiet.credLive {c d : Chip} (h : Quiet c d) (v : Bool) (n : Nat) : d.credLive v n = c.credLive v n := by
  unfold Chip.credLive Chip.now
  rw [h.time]

theorem Quiet.credOf {c d : Chip} (h : Quiet c d) (k i : Nat) : d.credOf k i = c.credOf k i := by
  have hb := fun r hr j f => h.getB r j f hr
  have hf := fun r hr j f => h.getF r j f hr
  unfold Chip.credOf
  simp only [hf CRED_ESTATE (by decide), hb CRED_ESTATE (by decide), hf CRED_OPERATOR (by decide), hb CRED_OPERATOR (by decide),
    hf CRED_FEEDER (by decide), hb CRED_FEEDER (by decide), h.plotSecret, h.slotState, h.credLive]

theorem Quiet.openCred {c d : Chip} (h : Quiet c d) (q : OpenReq) : d.openCred q = c.openCred q := by
  have hvalid : ∀ i, d.credValid CRED_ESTATE i = c.credValid CRED_ESTATE i := fun i => h.getB _ _ _ (by decide)
  unfold Chip.openCred Chip.serviceEn Chip.safeKey
  simp only [h.credOf, hvalid, h.getF SECURITY_STATUS _ _ (by decide), h.getF CRED_OPERATOR _ _ (by decide)]

theorem Quiet.openKey {c d : Chip} (h : Quiet c d) (q : OpenReq) : d.openKey q = c.openKey q := by
  unfold Chip.openKey
  simp only [h.plotSecret, h.getF CRED_ESTATE _ _ (by decide), h.getF CRED_OPERATOR _ _ (by decide), h.getF CRED_FEEDER _ _ (by decide)]

theorem Quiet.codeLive {c d : Chip} (h : Quiet c d) (p : Nat) : d.codeLive p = c.codeLive p := by
  unfold Chip.codeLive Chip.now
  rw [h.slotState, h.time, h.getF PLOT_SLOT _ _ (by decide)]

theorem Quiet.codeRight {c d : Chip} (h : Quiet c d) (q : OpenReq) : d.codeRight q = c.codeRight q := by
  unfold Chip.codeRight
  rw [h.plotSecret]

theorem Chip.openSessions_congr {c d : Chip} (h : ∀ i, (d.ses i).isOpen = (c.ses i).isOpen) : d.openSessions = c.openSessions := by
  unfold Chip.openSessions
  simp only [h]

theorem Chip.openIndex_congr {c d : Chip} (h : ∀ i, (d.ses i).fixed = (c.ses i).fixed) (q : OpenReq) : d.openIndex q = c.openIndex q := by
  have hopen : ∀ i, (d.ses i).isOpen = (c.ses i).isOpen := fun i => (congrArg Session.isOpen (h i) :)
  have hkind : ∀ i, (d.ses i).kind = (c.ses i).kind := fun i => (congrArg Session.kind (h i) :)
  have hindex : ∀ i, (d.ses i).index = (c.ses i).index := fun i => (congrArg Session.index (h i) :)
  unfold Chip.openIndex
  simp only [Chip.openSessions_congr hopen, hopen, hkind, hindex]

/-- Request `q` on endpoint `e`, with a challenge issued at `t`, passes every check of R93 and takes index `i`. -/
structure OpenPasses (c : Chip) (e : Nat) (q : OpenReq) (t i : Nat) : Prop where
  ranges : q.ranges e = true
  fresh : c.since t < 30 * ticksPerSecond
  cred : c.openCred q = true
  eph : onCurve q.eph = true
  newKey : 6 ≤ q.kind → onCurve q.newKey = true
  signed : ∃ k, c.openKey q = some k ∧ Sig.verifies q.sig k = true
  code : q.kind = 6 → c.codeLive q.index = true ∧ c.codeRight q = true
  served : c.level < lvFull → q.kind = 1 ∨ q.kind = 7 ∨ (q.kind = 5 ∧ q.index < 16)
  index : c.openIndex q = some i

/-- Admission changes nothing that the checks read. -/
theorem OpenPasses.of_admitted {c d : Chip} {h : Hdr} {x : Ctx} {e t i : Nat} {q : OpenReq} (hp : OpenPasses c e q t i) (hq : Quiet c d)
    (ha : Admitted c h x d) : OpenPasses d e q t i where
  ranges := hp.ranges
  fresh := by rw [hq.since]; exact hp.fresh
  cred := by rw [hq.openCred]; exact hp.cred
  eph := hp.eph
  newKey := hp.newKey
  signed := by rw [hq.openKey]; exact hp.signed
  code := by rw [hq.codeLive, hq.codeRight]; exact hp.code
  served := by rw [hq.level]; exact hp.served
  index := by rw [Chip.openIndex_congr ha.fixed]; exact hp.index

/-- The challenge `y` is held no longer. -/
def Chip.spent (c : Chip) (y : Nat × Nat × Nat) : Chip := { c with sec.challenges := c.sec.challenges.erase y }

/-- No check reads the challenges held. -/
theorem OpenPasses.spent {c : Chip} {e t i : Nat} {q : OpenReq} (hp : OpenPasses c e q t i) (y : Nat × Nat × Nat) :
    OpenPasses (c.spent y) e q t i :=
  ⟨hp.ranges, hp.fresh, hp.cred, hp.eph, hp.newKey, hp.signed, hp.code, hp.served, hp.index⟩

/-- What a request does before its session starts: an enrolment takes the plot's key, a claim the estate's. -/
def Chip.credentialed (c : Chip) (q : OpenReq) : Chip :=
  if q.kind = 6 then c.enrol q.index q.newKey else if q.kind = 7 then c.claim q.newKey else c

theorem OpenPasses.start {c : Chip} {x : Ctx} {q : OpenReq} {t i : Nat} (hp : OpenPasses c x.ep q t i) (hrsv : x.h.prsv = 0) :
    c.openChecks x q (some t) = (c.credentialed q).sessionStart x q i := by
  obtain ⟨k, hk, hsig⟩ := hp.signed
  unfold Chip.openChecks
  rw [hk, hp.index]
  dsimp only
  have hnew : ¬ (6 ≤ q.kind ∧ (!onCurve q.newKey) = true) := fun hb => by simp [hp.newKey hb.1] at hb
  rw [if_neg (by simp [hp.ranges, hrsv]), if_neg (by simp only [hp.fresh, hp.cred, hp.eph, hsig, hnew]; simp),
    if_neg (fun hb => by simp [(hp.code hb.1).1] at hb), if_neg (fun hb => by simp [(hp.code hb.1).2] at hb),
    if_neg (fun hb => hb.2 (hp.served hb.1))]
  rfl

/-! ## The session that starts -/

theorem Chip.sessionStart_ses (c : Chip) (x : Ctx) (q : OpenReq) (i : Nat) :
    let y := (c.sessionStart x q i).chip.ses i
    y.isOpen = true ∧ y.ep = x.ep ∧ y.kind = sessionKind q.kind ∧ y.index = q.index ∧
      y.gen = if (c.ses i).gen = 511 then 1 else (c.ses i).gen + 1 := by
  unfold Chip.sessionStart
  dsimp only
  rw [Chip.ses, Chip.upd_host, ← Chip.ses, Chip.ses_setSes, if_pos rfl]
  exact ⟨rfl, rfl, rfl, rfl, rfl⟩

theorem Chip.sessionStart_sec (c : Chip) (x : Ctx) (q : OpenReq) (i : Nat) : (c.sessionStart x q i).chip.sec = c.sec := by
  unfold Chip.sessionStart
  dsimp only
  rw [Chip.upd_sec]
  rfl

theorem Chip.sessionStart_getF (c : Chip) (x : Ctx) (q : OpenReq) (i : Nat) (r : RecDesc) (j : Nat) (f : Fld)
    (hr : r.id % 0x10000 ≠ ENDPOINT_STATUS.id % 0x10000) : (c.sessionStart x q i).chip.getF r j f = c.getF r j f := by
  unfold Chip.sessionStart
  dsimp only
  rw [Chip.getF_upd_ne _ _ _ _ _ _ _ (recKey_ne_of_id hr.symm _ _)]
  rfl

/-- `d` is the part when a request that passes has been answered: the part let on as `c` has spent the challenge and started the session. -/
structure Opened (s : State) (h : Hdr) (q : OpenReq) (y : Nat × Nat × Nat) (i : Nat) (x : Ctx) (c d : Chip) : Prop where
  quiet : Quiet s.chip c
  admitted : Admitted s.chip h x c
  ended : Ended (((c.spent y).credentialed q).sessionStart x q i).chip d

/-- A request that passes starts its session, and its challenge is spent (R93). -/
theorem sessionOpen_completes {s : State} {h : Hdr} {x : Ctx} {q : OpenReq} {y : Nat × Nat × Nat} {i : Nat} {p : State → Prop}
    (hs : Served s h (sessionOpenSpec q.kind) x) (hrsv : h.prsv = 0) (hp : OpenPasses s.chip h.ep q y.2.2 i)
    (hheld : s.chip.sec.challenges.find? (fun c => c.1 == h.ep && c.2.1 == q.challenge) = some y)
    (hend : ∀ c t, Opened s h q y i x c t.chip → p t) :
    Completes (.sessionOpen h q.kind q.index q.challenge q.nonce q.eph q.sig q.newKey q.mac) s p := by
  obtain ⟨d, b, hg⟩ := hs
  have ha := Admitted.of_ingress hg
  have hq := Quiet.of_go hg
  have hheld' : d.sec.challenges.find? (fun c => c.1 == x.ep && c.2.1 == q.challenge) = some y := by rw [ha.ep, hq.sec, hheld]
  have hp' : OpenPasses (d.spent y) x.ep q y.2.2 i := by
    rw [ha.ep]
    exact (hp.of_admitted hq ha).spent y
  refine Completes.of_answered (exec_sessionOpen .. : _ = s.run fun c => c.sessionOpen h q) hg fun e he => ?_
  simp only [hheld'] at he ⊢
  change Answered x _ ((d.spent y).openChecks x q (some y.2.2)) e at he
  change p (State.settle { s with chip := ((d.spent y).openChecks x q (some y.2.2)).post e })
  rw [hp'.start (by rw [ha.hdr]; exact hrsv)] at he ⊢
  exact hend d _ ⟨hq, ha, he.ended.trans (Ended.of_settle { s with chip := e })⟩

namespace Opened

/-- The session stands as it started. -/
theorem ses {s : State} {h : Hdr} {q : OpenReq} {y : Nat × Nat × Nat} {i : Nat} {x : Ctx} {c d : Chip} (ho : Opened s h q y i x c d) :
    (d.ses i).isOpen = true ∧ (d.ses i).ep = h.ep ∧ (d.ses i).kind = sessionKind q.kind ∧ (d.ses i).index = q.index ∧
      (d.ses i).gen = if (((c.spent y).credentialed q).ses i).gen = 511 then 1 else (((c.spent y).credentialed q).ses i).gen + 1 := by
  obtain ⟨hopen, hep, hkind, hindex, hgen⟩ := ((c.spent y).credentialed q).sessionStart_ses x q i
  have hfixed := Session.fixed_of_core (ho.ended.core i)
  have kopen := congrArg Session.isOpen hfixed
  have kep := congrArg Session.ep hfixed
  have kkind := congrArg Session.kind hfixed
  have kindex := congrArg Session.index hfixed
  have kgen := congrArg Session.gen hfixed
  simp only [Session.fixed_isOpen, Session.fixed_ep, Session.fixed_kind, Session.fixed_index, Session.fixed_gen] at kopen kep kkind kindex kgen
  exact ⟨kopen.trans hopen, kep.trans (hep.trans ho.admitted.ep), kkind.trans hkind, kindex.trans hindex, kgen.trans hgen⟩

theorem sec {s : State} {h : Hdr} {q : OpenReq} {y : Nat × Nat × Nat} {i : Nat} {x : Ctx} {c d : Chip} (ho : Opened s h q y i x c d) :
    d.sec = ((c.spent y).credentialed q).sec := ho.ended.sec.trans (Chip.sessionStart_sec _ x q i)

end Opened

/-- An open under a credential changes nothing else: the generation advances and the challenge is spent. -/
theorem sessionOpen_credential_completes (s : State) (h : Hdr) (x : Ctx) (q : OpenReq) (y : Nat × Nat × Nat) (k i : Nat)
    (hs : Served s h (sessionOpenSpec q.kind) x) (hrsv : h.prsv = 0) (hrange : q.ranges h.ep = true)
    (hheld : s.chip.sec.challenges.find? (fun c => c.1 == h.ep && c.2.1 == q.challenge) = some y)
    (hfresh : s.chip.since y.2.2 < 30 * ticksPerSecond) (hcred : s.chip.openCred q = true) (heph : onCurve q.eph = true) (hkind : q.kind < 6)
    (hkey : s.chip.openKey q = some k) (hsig : Sig.verifies q.sig k = true)
    (hserved : s.chip.level < lvFull → q.kind = 1 ∨ (q.kind = 5 ∧ q.index < 16)) (hidx : s.chip.openIndex q = some i) :
    Completes (.sessionOpen h q.kind q.index q.challenge q.nonce q.eph q.sig q.newKey q.mac) s fun t =>
      (t.chip.ses i).isOpen = true ∧ (t.chip.ses i).ep = h.ep ∧ (t.chip.ses i).kind = q.kind ∧ (t.chip.ses i).index = q.index ∧
      (t.chip.ses i).gen = (if (s.chip.ses i).gen = 511 then 1 else (s.chip.ses i).gen + 1) ∧
      t.chip.sec.challenges = s.chip.sec.challenges.erase y := by
  have hp : OpenPasses s.chip h.ep q y.2.2 i :=
    ⟨hrange, hfresh, hcred, heph, fun h6 => by omega, ⟨k, hkey, hsig⟩, fun h6 => by omega,
      fun hl => (hserved hl).imp_right .inr, hidx⟩
  refine sessionOpen_completes hs hrsv hp hheld fun c t ho => ?_
  have hsame : (c.spent y).credentialed q = c.spent y := by rw [Chip.credentialed, if_neg (by omega), if_neg (by omega)]
  have hk : sessionKind q.kind = q.kind := by rw [sessionKind, if_neg (by omega), if_neg (by omega)]
  obtain ⟨hopen, hep, hkd, hindex, hgen⟩ := ho.ses
  have hold : (c.ses i).gen = (s.chip.ses i).gen := (congrArg Session.gen (ho.admitted.fixed i) :)
  rw [hsame] at hgen
  change _ = if (c.ses i).gen = 511 then 1 else (c.ses i).gen + 1 at hgen
  rw [hold] at hgen
  refine ⟨hopen, hep, hkd.trans hk, hindex, hgen, ?_⟩
  rw [ho.sec, hsame, Chip.spent, ho.quiet.sec]

/-! ## Enrolment -/

theorem Chip.copyPdefs_sec (c : Chip) (l : List Nat) (which : Nat → Bool) : (c.eachOf l (fun c z => c.copyPdef z which)).sec = c.sec :=
  Chip.eachOf_keeps (fun c => c.sec) c l _ fun _ _ => Chip.upd_sec _ _ _ _

theorem Chip.copyPdefs_slotState (c : Chip) (l : List Nat) (which : Nat → Bool) (p : Nat) :
    (c.eachOf l (fun c z => c.copyPdef z which)).slotState p = c.slotState p :=
  Chip.eachOf_keeps (fun c => c.slotState p) c l _ fun _ _ => Chip.getF_upd_ne _ _ _ _ _ _ _ (recKey_ne_of_id (by decide) _ _)

theorem Chip.plotSecret_setPlotSecret (c : Chip) (p : Nat) (y : PlotSecret) : (c.setPlotSecret p y).plotSecret p = y :=
  Tab.get_set_self ({} : PlotSecret) c.sec.plots p y

theorem Chip.takePlotKey_plotSecret (c : Chip) (p key : Nat) :
    ((c.takePlotKey p key).plotSecret p).key = some key ∧ ((c.takePlotKey p key).plotSecret p).code = none := by
  unfold Chip.takePlotKey Chip.requestStore
  dsimp only
  rw [Chip.plotSecret, Chip.upd_sec, Chip.upd_sec, ← Chip.plotSecret, Chip.plotSecret_setPlotSecret]
  exact ⟨rfl, rfl⟩

/-- The slot is enrolled under the new key, and the code is gone (R99). -/
theorem Chip.enrol_slot (c : Chip) (p key : Nat) :
    (c.enrol p key).slotState p = slEnrolled ∧ ((c.enrol p key).plotSecret p).key = some key ∧ ((c.enrol p key).plotSecret p).code = none := by
  unfold Chip.enrol
  dsimp only
  have hslot := Chip.getF_upd_two_fst (c.takePlotKey p key) PLOT_SLOT p PLOT_SLOT.STATE PLOT_SLOT.CODE_EXPIRY slEnrolled 0 (by decide)
  have hsec := Chip.upd_sec (c.takePlotKey p key) PLOT_SLOT p [(PLOT_SLOT.STATE, slEnrolled), (PLOT_SLOT.CODE_EXPIRY, 0)]
  generalize (c.takePlotKey p key).upd PLOT_SLOT p [(PLOT_SLOT.STATE, slEnrolled), (PLOT_SLOT.CODE_EXPIRY, 0)] = d at hslot hsec ⊢
  have hq := Quiet.raise (d.eachOf (d.plotZones p) fun c z => c.copyPdef z plotClass) 0x0300 0 p (u8 p) (evPlotKey p)
  refine ⟨?_, ?_⟩
  · rw [hq.slotState, Chip.copyPdefs_slotState]
    exact hslot
  · rw [hq.plotSecret, Chip.plotSecret, Chip.copyPdefs_sec, hsec, ← Chip.plotSecret]
    exact c.takePlotKey_plotSecret p key

theorem sessionOpen_enrol_completes (s : State) (h : Hdr) (x : Ctx) (q : OpenReq) (y : Nat × Nat × Nat) (i : Nat)
    (hs : Served s h (sessionOpenSpec q.kind) x) (hrsv : h.prsv = 0) (hkind : q.kind = 6) (hindex : q.index < 256)
    (hheld : s.chip.sec.challenges.find? (fun c => c.1 == h.ep && c.2.1 == q.challenge) = some y)
    (hfresh : s.chip.since y.2.2 < 30 * ticksPerSecond) (heph : onCurve q.eph = true) (hnew : onCurve q.newKey = true)
    (hsig : Sig.verifies q.sig q.newKey = true) (hlive : s.chip.codeLive q.index = true) (hright : s.chip.codeRight q = true)
    (hfull : s.chip.level = lvFull) (hidx : s.chip.openIndex q = some i) :
    Completes (.sessionOpen h q.kind q.index q.challenge q.nonce q.eph q.sig q.newKey q.mac) s fun t =>
      (t.chip.ses i).isOpen = true ∧ (t.chip.ses i).kind = kPlot ∧ (t.chip.ses i).index = q.index ∧
      t.chip.slotState q.index = slEnrolled ∧ (t.chip.plotSecret q.index).key = some q.newKey ∧
      (t.chip.plotSecret q.index).code = none := by
  have hp : OpenPasses s.chip h.ep q y.2.2 i := by
    refine ⟨?_, hfresh, ?_, heph, fun _ => hnew, ⟨q.newKey, ?_, hsig⟩, fun _ => ⟨hlive, hright⟩,
      fun hl => absurd hfull (Nat.ne_of_lt hl), hidx⟩
    · simp [OpenReq.ranges, hkind]; omega
    · simp [Chip.openCred, hkind]
    · simp [Chip.openKey, hkind]
  refine sessionOpen_completes hs hrsv hp hheld fun c t ho => ?_
  have henrol : (c.spent y).credentialed q = (c.spent y).enrol q.index q.newKey := if_pos hkind
  obtain ⟨hopen, -, hkd, hix, -⟩ := ho.ses
  obtain ⟨hslot, hkey, hcode⟩ := (c.spent y).enrol_slot q.index q.newKey
  have hsecret : t.chip.plotSecret q.index = ((c.spent y).enrol q.index q.newKey).plotSecret q.index := by
    rw [Chip.plotSecret, ho.sec, henrol, Chip.plotSecret]
  refine ⟨hopen, by rw [hkd, hkind]; rfl, hix, ?_, hsecret ▸ hkey, hsecret ▸ hcode⟩
  rw [← hslot, ← henrol]
  exact (ho.ended.shown.getF PLOT_SLOT _ _ (by decide)).trans (Chip.sessionStart_getF _ _ _ _ _ _ _ (by decide))

/-! ## No challenge -/

theorem sessionOpen_denied_completes (s : State) (h : Hdr) (x : Ctx) (q : OpenReq) (hs : Served s h (sessionOpenSpec q.kind) x)
    (hrsv : h.prsv = 0) (hrange : q.ranges h.ep = true)
    (hnone : s.chip.sec.challenges.find? (fun c => c.1 == h.ep && c.2.1 == q.challenge) = none) :
    Completes (.sessionOpen h q.kind q.index q.challenge q.nonce q.eph q.sig q.newKey q.mac) s fun t =>
      Replied s t h 0x0001 stDenied [] ∧ t.chip.openSessions = s.chip.openSessions := by
  obtain ⟨d, b, hg⟩ := hs
  have ha := Admitted.of_ingress hg
  have hnone' : d.sec.challenges.find? (fun c => c.1 == x.ep && c.2.1 == q.challenge) = none := by
    rw [ha.ep, (Quiet.of_go hg).sec, hnone]
  have hno : d.openChecks x q none = d.no stDenied := by
    unfold Chip.openChecks
    rw [if_neg (by simp [ha.ep, hrange, ha.hdr, hrsv]), if_pos (.inl rfl)]
  refine Completes.of_answered (exec_sessionOpen .. : _ = s.run fun c => c.sessionOpen h q) hg fun e he => ?_
  simp only [hnone', hno] at he ⊢
  refine ⟨ha.refused he (by decide), Chip.openSessions_congr fun i => ?_⟩
  have hend := he.ended.trans (Ended.of_settle { s with chip := e })
  exact (hend.shown.ses i).1.trans ((HostKept.ingress_go hg).1.ses i).1

/-- Settles O16: a request that passes the checks of R93 starts its session, after the enrolment where it is one; without a challenge it is
refused before anything changes. -/
theorem sessionOpens : Obligations.SessionOpens := by
  unfold Obligations.SessionOpens
  exact ⟨sessionOpen_credential_completes, sessionOpen_enrol_completes, sessionOpen_denied_completes⟩

end Sys2Proof.Machine
end

section
/-!
SUPPORT. Rules that the commands of the principals share: one field among several assigned, a store requested (R452), what an event leaves of
the sessions, and the frame in which a served command acts.
-/

namespace Sys2Proof.Machine

/-! ## Several fields assigned at once -/

/-- A field among those assigned reads as assigned where those after it are apart from it. -/
theorem Chip.getF_upd_append (c : Chip) (r : RecDesc) (i : Nat) (f : Fld) (v : Nat) (pre post : List (Fld × Nat))
    (h : ∀ p ∈ post, f.apart p.1) : (c.upd r i (pre ++ (f, v) :: post)).getF r i f = v % 2 ^ f.width := by
  have hset : setFields (pre ++ (f, v) :: post) (c.img r i) = setFields post (f.set v (setFields pre (c.img r i))) := by
    unfold setFields
    rw [List.foldl_append, List.foldl_cons]
  rw [Chip.getF, Chip.img_upd_self, hset, get_setFields_apart f post _ h, Fld.get_set_self]

theorem leBytes_length (n v : Nat) : (leBytes n v).length = n := by
  induction n generalizing v with
  | zero => rfl
  | succ n ih => rw [leBytes, List.length_cons, ih]

/-! ## A store requested -/

theorem Chip.requestStore_rest (c : Chip) (k : Nat) : SameRest c (c.requestStore k) := c.upd_rest _ _ _

theorem Chip.requestStore_img (c : Chip) (k : Nat) (r : RecDesc) (i : Nat) (hr : STORE_STATUS.id % 0x10000 ≠ r.id % 0x10000) :
    (c.requestStore k).img r i = c.img r i := Chip.img_upd_ne _ _ _ _ _ _ (recKey_ne_of_id hr _ _)

theorem Chip.requestStore_getF (c : Chip) (k : Nat) (r : RecDesc) (i : Nat) (f : Fld) (hr : STORE_STATUS.id % 0x10000 ≠ r.id % 0x10000) :
    (c.requestStore k).getF r i f = c.getF r i f := by rw [Chip.getF, c.requestStore_img k r i hr, Chip.getF]

/-- The cause of the request is pending. -/
theorem Chip.requestStore_pending (c : Chip) (k : Nat) (hk : k < 16) :
    ((c.requestStore k).getF STORE_STATUS 0 STORE_STATUS.PENDING_CAUSE).testBit k = true := by
  have hw : k < STORE_STATUS.PENDING_CAUSE.width := hk
  rw [Chip.requestStore, Chip.getF_upd_one, Nat.testBit_mod_two_pow, setBit, Nat.testBit_or, Nat.testBit_two_pow_self, Bool.or_true,
    decide_eq_true hw, Bool.and_true]

/-! ## Sessions under an event -/

namespace SameCore

theorem deliver (c : Chip) (ev : Event) : SameCore c (c.deliver ev) := by
  have hheld : SameCore c (c.holdEvent ev) := by
    unfold Chip.holdEvent Chip.inc
    exact ite _ (ite _ (of_sessions rfl) (of_sessions (by rw [Chip.upd_host]))) (ite _ (of_sessions rfl) (of_sessions (by rw [Chip.upd_host])))
  unfold Chip.deliver
  refine ite _ hheld (Chip.eachOf_preserves (SameCore c) (fun d i hd => hd.trans ?_) _ (refl c))
  split
  · exact (Told.setSes d i _ (pushEvent_core _ _ _)).core
  · exact refl d

theorem emit (c : Chip) (ev : Event) : SameCore c (c.emit ev) := by
  unfold Chip.emit
  exact ite _ (of_sessions rfl) (deliver c _)

theorem snapTrigger (c : Chip) (source event : Nat) : SameCore c (c.snapTrigger source event) := by
  unfold Chip.snapTrigger Chip.incSat
  refine ite _ (refl c) (ite _ (ite _ (refl c) (of_sessions (by rw [Chip.upd_host]))) (trans ?_ (emit _ _)))
  exact of_sessions (by rw [Chip.upd_host])

theorem raise (c : Chip) (code sev source : Nat) (data : List Nat) (aud : Audience) : SameCore c (c.raise code sev source data aud) := by
  unfold Chip.raise Chip.raiseWith Chip.incSat
  have hsnap : ∀ ev, SameCore c ((c.emit ev).snapTrigger 4 ev.code) := fun ev => trans (emit c ev) (snapTrigger _ _ _)
  exact ite _ (ite _ (trans (hsnap _) (of_sessions (by rw [Chip.upd_host]))) (hsnap _)) (emit c _)

end SameCore

/-! ## The frame of a command -/

/-- What a command does is one outcome: what holds of it twice holds together. -/
theorem Completes.and {i : Instr} {s : State} {p q : State → Prop} (hp : Completes i s p) (hq : Completes i s q) :
    Completes i s fun t => p t ∧ q t := by
  obtain ⟨t, ht, hpt⟩ := hp
  obtain ⟨u, hu, hqu⟩ := hq
  obtain rfl : t = u := Host.Outcome.next.inj (ht.symm.trans hu)
  exact ⟨t, ht, hpt, hqu⟩

/-- A row completes in any state that its meaning, settled, ends in. -/
theorem Completes.of_ended {i : Instr} {s : State} {f : Chip → Chip} {c : Chip} {p : State → Prop} (hi : exec i s = s.run f)
    (hc : f s.chip = c) (hp : ∀ t : State, Ended c t.chip → p t) : Completes i s p :=
  Completes.of_settled hi hc (hp _ (Ended.of_settle { s with chip := c }))

/-- A served command that has nothing after its reply acts on the part as its admission left it, and completes in any state that its act
ends in. -/
theorem Served.acts {i : Instr} {s : State} {h : Hdr} {sp : CmdSpec} {x : Ctx} (hs : Served s h sp x) {act : Ctx → Chip → Res}
    {p : State → Prop} (hi : exec i s = s.run (fun c => c.command h sp act))
    (hact : ∀ d, Noise s.chip d → Admitted s.chip h x d → (act x d).post = id ∧ ∀ t : State, Ended (act x d).chip t.chip → p t) :
    Completes i s p := by
  obtain ⟨d, b, hg⟩ := hs
  obtain ⟨hpost, hp⟩ := hact d ⟨Quiet.of_go hg, (HostKept.ingress_go hg).1⟩ (Admitted.of_ingress hg)
  refine Completes.of_answered hi hg fun e he => hp _ ?_
  rw [hpost]
  exact he.ended.trans (Ended.of_settle { s with chip := e })

/-- An admitted write of a record completes in any state that its effect ends in on the part with the image written. -/
theorem Served.writes {i : Instr} {s : State} {h : Hdr} {x : Ctx} {r : RecDesc} {inst ver img : Nat} {p : State → Prop}
    (hs : Served s h setRecordSpec x) (hr : r.id % 0x10000 ∉ noisyIds) (hf : WriteFits s.chip h r inst ver img) {row : Ctx → Chip → Res}
    (hi : exec i s = s.run (fun c => c.writeRow h row)) (k : Chip → WriteCheck) (effect : Chip → Nat → Chip)
    (hrow : ∀ d, row x d = d.setRecord x.h r inst ver img (k d) effect) (hk : ∀ d, Quiet s.chip d → (k d).Passes)
    (hp : ∀ d, Noise s.chip d → ∀ t : State, Ended (effect (d.written r inst img) (s.chip.img r inst)) t.chip → p t) : Completes i s p := by
  refine hs.acts hi fun d hd ha => ?_
  obtain ⟨hchip, hpost⟩ := Chip.setRecord_fits (ha.hdr ▸ hf.of_quiet hd.quiet hr) (hk d hd.quiet) effect id
  rw [hrow d]
  refine ⟨hpost, fun t ht => hp d hd t ?_⟩
  rw [hchip, hd.quiet.img _ _ hr] at ht
  exact ht

/-- The image written is the merged one (R64). -/
theorem Chip.written_img_quiet {c d : Chip} (hq : Quiet c d) {r : RecDesc} (hr : r.id % 0x10000 ∉ noisyIds) (inst img : Nat) :
    (d.written r inst img).img r inst = r.merge (c.img r inst) img := by rw [Chip.written_img_self, hq.img _ _ hr]

end Sys2Proof.Machine
end

section
/-!
PROOF. Identity and attestation (R90, R91), credentials (R82, R83) and anti-rollback (R123, R124).
-/

namespace Sys2Proof.Machine

/-! ## Identity and attestation -/

/-- A new challenge is held whichever one gives way to it. -/
theorem mem_addChallenge (l : List (Nat × Nat × Nat)) (e v at_ : Nat) : (e, v, at_) ∈ addChallenge l e v at_ :=
  List.mem_append_right _ (List.mem_singleton.mpr rfl)

theorem Quiet.up {c d : Chip} (h : Quiet c d) : d.up = c.up := by
  unfold Chip.up
  rw [h.time]

/-- One random value is drawn (R90). -/
theorem getIdentity_spends {s : State} {h : Hdr} {x : Ctx} {cert : Nat} (hs : Served s h getIdentitySpec x) (hcert : cert ≤ 1)
    (hrsv : h.prsv = 0) : Completes (.getIdentity h cert) s fun t => t.chip.freeIdx = s.chip.freeIdx + 1 := by
  refine hs.completes_post (exec_getIdentity ..) fun d e hd _ he => ?_
  rw [checks_pass _ _ _ (by simp [hrsv, hcert])] at he ⊢
  rw [(State.settle_lines _).freeIdx]
  exact he.quiet.freeIdx.trans (congrArg (· + 1) hd.quiet.freeIdx)

/-- A command that succeeds, has sent nothing itself and is asked for its reply sends one that starts as its data does (R57). -/
theorem Admitted.replied_prefix {s : State} {h : Hdr} {x : Ctx} {d e : Chip} {op n : Nat} {r : Res} {pre : List Nat}
    (ha : Admitted s.chip h x d) (he : Answered x op r e) (hheld : r.held = false) (hst : r.status = stOk)
    (hsent : r.chip.sent h.ep = d.sent h.ep) (hack : h.ackReq = true) (hpre : pre <+: r.data) (hn : pre.length = n) :
    ∃ l, Replied s (State.settle { s with chip := e }) h op stOk l ∧ l.take n = pre := by
  have hr := ha.confirmed he hheld hst hsent
  unfold Confirmed at hr
  rw [if_pos hack] at hr
  exact ⟨r.data, hr, hn ▸ (List.prefix_iff_eq_take.mp hpre).symm⟩

theorem getIdentity_completes {s : State} {h : Hdr} {x : Ctx} {cert : Nat} (hs : Served s h getIdentitySpec x) (hcert : cert ≤ 1)
    (hrsv : h.prsv = 0) :
    Completes (.getIdentity h cert) s fun t =>
      (∃ v, (h.ep, v, s.chip.up) ∈ t.chip.sec.challenges) ∧
      (h.ackReq = true → ∃ d, Replied s t h 0x0100 stOk d ∧ d.take 8 = u64 s.chip.sec.serial) := by
  obtain ⟨d, b, hg⟩ := hs
  have hq := Quiet.of_go hg
  have ha := Admitted.of_ingress hg
  refine Completes.of_answered (exec_getIdentity ..) hg fun e he => ?_
  rw [checks_pass _ _ _ (by simp [hrsv, hcert])] at he ⊢
  refine ⟨⟨(d.draw 16).1, ?_⟩, fun hack => ha.replied_prefix he rfl rfl rfl hack ?_ (leBytes_length _ _)⟩
  · rw [(State.settle_lines _).sec]
    change _ ∈ e.sec.challenges
    rw [he.ended.sec, ← ha.ep, ← hq.up]
    exact mem_addChallenge _ _ _ _
  · rw [← hq.sec]
    dsimp only
    simp only [List.append_assoc]
    exact List.prefix_append _ _

theorem attest_completes {s : State} {h : Hdr} {x : Ctx} {nonce : Nat} (hs : Served s h attestSpec x) :
    Completes (.attest h nonce) s fun t => t.chip.sec = s.chip.sec ∧
      (h.ackReq = true → ∃ d, Replied s t h 0x0101 stOk d ∧ d.take 40 = leBytes 32 nonce ++ u64 s.chip.sec.serial) := by
  obtain ⟨d, b, hg⟩ := hs
  have hq := Quiet.of_go hg
  refine Completes.of_answered (exec_attest ..) hg fun e he =>
    ⟨?_, fun hack => (Admitted.of_ingress hg).replied_prefix he rfl rfl rfl hack ?_ ?_⟩
  · rw [(State.settle_lines _).sec]
    exact he.ended.sec.trans hq.sec
  · rw [← hq.sec]
    dsimp only
    simp only [List.append_assoc]
    exact ⟨_, List.append_assoc _ _ _⟩
  · rw [List.length_append, leBytes_length, u64, leBytes_length]

/-! ## Credentials -/

/-- `CRED_CHANGED` and the store leave every record but those that events write and `STORE_STATUS`. -/
theorem Chip.credChanged_img (c : Chip) (r q : RecDesc) (i j : Nat) (hq : q.id % 0x10000 ∉ noisyIds)
    (hs : STORE_STATUS.id % 0x10000 ≠ q.id % 0x10000) : (c.credChanged r i).img q j = c.img q j := by
  unfold Chip.credChanged
  rw [Chip.requestStore_img _ _ _ _ hs, (Quiet.raise _ _ _ _ _ _).img _ _ hq]

/-- `GEN` after a write is one more exactly when the key has changed or `VALID` has gone from 1 to 0; the other fields stand (R83). -/
theorem Chip.credGen_getF (c : Chip) (r : RecDesc) (i old : Nat) :
    (c.credGen r i old).getF r i CRED_ESTATE.VALID = CRED_ESTATE.VALID.get (c.img r i) ∧
    (c.credGen r i old).getF r i CRED_ESTATE.PUBKEY = CRED_ESTATE.PUBKEY.get (c.img r i) ∧
    (c.credGen r i old).getF r i CRED_ESTATE.GEN =
      if CRED_ESTATE.PUBKEY.get old ≠ CRED_ESTATE.PUBKEY.get (c.img r i) ∨
          (CRED_ESTATE.VALID.get old = 1 ∧ CRED_ESTATE.VALID.get (c.img r i) = 0)
        then (CRED_ESTATE.GEN.get old + 1) % 2 ^ 32 else c.getF r i CRED_ESTATE.GEN := by
  unfold Chip.credGen
  dsimp only
  split
  · refine ⟨Chip.getF_upd_one_apart _ _ _ _ _ _ (by decide), Chip.getF_upd_one_apart _ _ _ _ _ _ (by decide), ?_⟩
    rw [Chip.getF_upd_one]
    exact Nat.mod_mod _ _
  · exact ⟨rfl, rfl, rfl⟩

/-- A record that `SET_RECORD` leaves a field of: the field reads in the merged image as in the old one. -/
theorem RecDesc.get_merge_kept (r : RecDesc) (f : Fld) (old new : Nat)
    (hf : ∀ n, f.off ≤ n → n < f.off + f.width → r.writeMask.testBit n = false) : f.get (r.merge old new) = f.get old := by
  apply Nat.eq_of_testBit_eq
  intro n
  rw [Fld.testBit_get, Fld.testBit_get, RecDesc.testBit_merge]
  by_cases hn : n < f.width
  · rw [if_neg (by rw [hf _ (by omega) (by omega)]; decide)]
  · simp only [hn, decide_false, Bool.false_and]

/-- `GEN` is read-only in the three records. -/
theorem credRec_gen_merge (k old new : Nat) (hk : k < 3) :
    CRED_ESTATE.GEN.get ((credRec k).merge old new) = CRED_ESTATE.GEN.get old := by
  have hmask : ∀ k < 3, ∀ n < 32, (credRec k).writeMask.testBit (64 + n) = false := by decide +kernel
  refine RecDesc.get_merge_kept _ _ _ _ fun n h0 h1 => ?_
  change 64 ≤ n at h0
  change n < 64 + 32 at h1
  have := hmask k hk (n - 64) (by omega)
  rwa [Nat.add_sub_cancel' h0] at this

theorem credRec_apart (k : Nat) (hk : k < 3) :
    (credRec k).id % 0x10000 ∉ shownIds ∧ STORE_STATUS.id % 0x10000 ≠ (credRec k).id % 0x10000 := by
  have h : ∀ k < 3, (credRec k).id % 0x10000 ∉ shownIds ∧ STORE_STATUS.id % 0x10000 ≠ (credRec k).id % 0x10000 := by decide
  exact h k hk

/-- A credential's image meets the rules of its record (R82 to R84). -/
theorem credentialWrite_passes {c d : Chip} {x : Ctx} {k inst img : Nat} (hq : Quiet c d) (hk : k < 3) (hwho : x.who.estateOnly = true)
    (hkey : CRED_ESTATE.VALID.get img = 1 → onCurve (CRED_ESTATE.PUBKEY.get img) = true)
    (hexp : k ≠ 0 → badTime (CRED_OPERATOR.EXPIRY.get img) = false)
    (hsrc : k = 2 → (CRED_ESTATE.VALID.get img = 1 → CRED_FEEDER.SRC_COUNT.get img ≠ 0) ∧ CRED_FEEDER.SRC_FIRST.get img ≤ 4095 ∧
      CRED_FEEDER.SRC_FIRST.get img + CRED_FEEDER.SRC_COUNT.get img ≤ 4096)
    (hlast : k = 0 → CRED_ESTATE.VALID.get img = 1 ∨ c.credValid CRED_ESTATE (1 - inst) = true) :
    WriteCheck.Passes
      { may := x.who.estateOnly,
        bad := (CRED_ESTATE.VALID.get img == 1 && !onCurve (CRED_ESTATE.PUBKEY.get img))
          || ((k != 0 && k != 1) && ((CRED_ESTATE.VALID.get img == 1 && CRED_FEEDER.SRC_COUNT.get img == 0)
            || decide (4096 < CRED_FEEDER.SRC_FIRST.get img + CRED_FEEDER.SRC_COUNT.get img)
            || decide (4095 < CRED_FEEDER.SRC_FIRST.get img)))
          || (k != 0 && badTime (CRED_OPERATOR.EXPIRY.get img)),
        state := if k = 0 ∧ !(CRED_ESTATE.VALID.get img == 1) ∧ ¬ d.credValid CRED_ESTATE (1 - inst) then stBadState else 0 } := by
  have hvalid : d.credValid CRED_ESTATE (1 - inst) = c.credValid CRED_ESTATE (1 - inst) := hq.getB _ _ _ (by decide)
  refine ⟨rfl, hwho, rfl, ?_, ?_⟩
  · have hcurve : (CRED_ESTATE.VALID.get img == 1 && !onCurve (CRED_ESTATE.PUBKEY.get img)) = false := by
      by_cases hv : CRED_ESTATE.VALID.get img = 1
      · simp [hkey hv]
      · simp [hv]
    have hlife : (k != 0 && badTime (CRED_OPERATOR.EXPIRY.get img)) = false := by
      by_cases h0 : k = 0
      · simp [h0]
      · simp [hexp h0]
    have hrange : ((k != 0 && k != 1) && ((CRED_ESTATE.VALID.get img == 1 && CRED_FEEDER.SRC_COUNT.get img == 0)
        || decide (4096 < CRED_FEEDER.SRC_FIRST.get img + CRED_FEEDER.SRC_COUNT.get img)
        || decide (4095 < CRED_FEEDER.SRC_FIRST.get img))) = false := by
      by_cases h2 : k = 2
      · obtain ⟨hcount, hfirst, hsum⟩ := hsrc h2
        have hnone : (CRED_ESTATE.VALID.get img == 1 && CRED_FEEDER.SRC_COUNT.get img == 0) = false := by
          by_cases hv : CRED_ESTATE.VALID.get img = 1
          · simp [hcount hv]
          · simp [hv]
        simp [hnone, hfirst, hsum]
      · have : k = 0 ∨ k = 1 := by omega
        rcases this with rfl | rfl <;> rfl
    simp only [hcurve, hlife, hrange, Bool.or_false]
  · refine if_neg fun hb => ?_
    obtain ⟨h0, hv, hother⟩ := hb
    rcases hlast h0 with h | h
    · simp [h] at hv
    · exact hother (hvalid.trans h)

theorem credentialWrite_completes {s : State} {h : Hdr} {x : Ctx} {k inst ver img old new : Nat} (hk : k < 3)
    (hs : Served s h setRecordSpec x) (hwho : x.who.estateOnly = true) (hf : WriteFits s.chip h (credRec k) inst ver img)
    (hold : old = s.chip.img (credRec k) inst) (hnew : new = (credRec k).merge old img)
    (hkey : CRED_ESTATE.VALID.get img = 1 → onCurve (CRED_ESTATE.PUBKEY.get img) = true)
    (hexp : k ≠ 0 → badTime (CRED_OPERATOR.EXPIRY.get img) = false)
    (hsrc : k = 2 → (CRED_ESTATE.VALID.get img = 1 → CRED_FEEDER.SRC_COUNT.get img ≠ 0) ∧ CRED_FEEDER.SRC_FIRST.get img ≤ 4095 ∧
      CRED_FEEDER.SRC_FIRST.get img + CRED_FEEDER.SRC_COUNT.get img ≤ 4096)
    (hlast : k = 0 → CRED_ESTATE.VALID.get img = 1 ∨ s.chip.credValid CRED_ESTATE (1 - inst) = true) :
    Completes (.credentialWrite h k inst ver img) s fun t =>
      t.chip.getF (credRec k) inst CRED_ESTATE.VALID = CRED_ESTATE.VALID.get new ∧
      t.chip.getF (credRec k) inst CRED_ESTATE.PUBKEY = CRED_ESTATE.PUBKEY.get new ∧
      t.chip.getF (credRec k) inst CRED_ESTATE.GEN =
        (if CRED_ESTATE.PUBKEY.get old ≠ CRED_ESTATE.PUBKEY.get new ∨ (CRED_ESTATE.VALID.get old = 1 ∧ CRED_ESTATE.VALID.get new = 0)
          then (CRED_ESTATE.GEN.get old + 1) % 2 ^ 32 else CRED_ESTATE.GEN.get old) ∧
      (t.chip.getF STORE_STATUS 0 STORE_STATUS.PENDING_CAUSE).testBit 6 = true := by
  obtain ⟨hshown, hstore⟩ := credRec_apart k hk
  have hnoisy : (credRec k).id % 0x10000 ∉ noisyIds := fun hm => hshown (List.mem_append_left _ hm)
  refine hs.writes hnoisy hf ((exec_credentialWrite ..).trans (if_pos hk)) _ (fun c old => (c.credGen (credRec k) inst old).credChanged (credRec k) inst)
    (fun d => by unfold Chip.credentialWrite; rfl) (fun d hd => credentialWrite_passes hd hk hwho hkey hexp hsrc hlast) fun d hd t ht => ?_
  have himg : (d.written (credRec k) inst img).img (credRec k) inst = new := by
    rw [Chip.written_img_quiet hd.quiet hnoisy, ← hold, hnew]
  obtain ⟨hvalid, hpub, hgen⟩ := (d.written (credRec k) inst img).credGen_getF (credRec k) inst old
  have hkept : (d.written (credRec k) inst img).getF (credRec k) inst CRED_ESTATE.GEN = CRED_ESTATE.GEN.get old := by
    rw [Chip.getF, himg, hnew, credRec_gen_merge _ _ _ hk]
  rw [himg] at hvalid hpub hgen
  rw [hkept] at hgen
  have hend : ∀ f : Fld, t.chip.getF (credRec k) inst f = ((d.written (credRec k) inst img).credGen (credRec k) inst old).getF (credRec k) inst f :=
    fun f => by rw [ht.shown.getF _ _ _ hshown, ← hold, Chip.getF, Chip.credChanged_img _ _ _ _ _ hnoisy hstore, Chip.getF]
  refine ⟨(hend _).trans hvalid, (hend _).trans hpub, (hend _).trans hgen, ?_⟩
  rw [ht.shown.getF _ _ _ (by decide)]
  exact Chip.requestStore_pending _ 6 (by decide)

/-! ## Anti-rollback -/

theorem Quiet.runSlot {c d : Chip} (h : Quiet c d) (i : Nat) : d.runSlot i = c.runSlot i := by
  unfold Chip.runSlot
  rw [← h.boot]

theorem rollbackCommit_completes {s : State} {h : Hdr} {x : Ctx} {image sl v : Nat} (hs : Served s h rollbackCommitSpec x) (himg : image ≤ 2)
    (hrsv : h.prsv = 0) (hrun : s.chip.runSlot image = some sl) (hfree : s.chip.secF (SECURITY_STATUS.OTP_SLOTS_FREE image) ≠ 0)
    (hv : v = s.chip.getF FW_SLOT (fwInst image sl) FW_SLOT.SEC_VER) :
    Completes (.rollbackCommit h image) s fun t =>
      t.chip.secF (SECURITY_STATUS.OTP_FLOOR image) = max v (s.chip.secF (SECURITY_STATUS.OTP_FLOOR image)) ∧
      t.chip.secF (SECURITY_STATUS.OTP_SLOTS_FREE image) = s.chip.secF (SECURITY_STATUS.OTP_SLOTS_FREE image)
        - (if s.chip.secF (SECURITY_STATUS.OTP_FLOOR image) < v then 1 else 0) := by
  refine hs.acts (exec_rollbackCommit ..) fun d hd _ => ?_
  have hsec : ∀ f, d.secF f = s.chip.secF f := fun f => hd.quiet.getF _ _ _ (by decide)
  dsimp only
  simp only [hd.quiet.runSlot, hrun, Option.getD_some, hd.quiet.getF FW_SLOT _ _ (by decide), ← hv, hsec]
  rw [checks_pass _ _ _ (by simp [hrsv, hfree, himg])]
  refine ⟨rfl, fun t ht => ?_⟩
  have hend : ∀ f, t.chip.secF f = _ := fun f => ht.shown.getF SECURITY_STATUS 0 f (by decide)
  rw [hend, hend]
  dsimp only
  by_cases hlt : s.chip.secF (SECURITY_STATUS.OTP_FLOOR image) < v
  · have hsmall : v < 2 ^ (SECURITY_STATUS.OTP_FLOOR image).width := hv ▸ Fld.get_lt FW_SLOT.SEC_VER _
    have hslots : s.chip.secF (SECURITY_STATUS.OTP_SLOTS_FREE image) < 2 ^ (SECURITY_STATUS.OTP_SLOTS_FREE image).width := Fld.get_lt _ _
    rw [if_pos hlt, if_pos hlt, Chip.getF_upd_two_fst, Chip.getF_upd_two_snd, max_eq_left hlt.le, Nat.mod_eq_of_lt hsmall,
      Nat.mod_eq_of_lt (lt_of_le_of_lt (Nat.sub_le _ _) hslots)]
    · exact ⟨rfl, rfl⟩
    · exact .inl (by simp only [SECURITY_STATUS.OTP_FLOOR, SECURITY_STATUS.OTP_SLOTS_FREE]; omega)
  · rw [if_neg hlt, if_neg hlt, max_eq_right (not_lt.mp hlt)]
    exact ⟨hsec _, hsec _⟩

/-- An image newer than its minimum is among those whose minimum the next store raises (R123). -/
theorem shadowMinRaise_completes (s : State) (i sl : Nat) (hfull : s.chip.level = lvFull)
    (hhour : s.chip.passedS s.chip.boot.runSince 3600 = true) (hi : i < 3) (hrun : s.chip.runSlot i = some sl)
    (hmin : s.chip.secF (SECURITY_STATUS.SHADOW_MIN i) < s.chip.getF FW_SLOT (fwInst i sl) FW_SLOT.SEC_VER) :
    Completes .shadowMinRaise s fun t =>
      (i, s.chip.getF FW_SLOT (fwInst i sl) FW_SLOT.SEC_VER) ∈ t.chip.boot.secRun ∧
      (t.chip.getF STORE_STATUS 0 STORE_STATUS.PENDING_CAUSE).testBit 7 = true := by
  refine Completes.of_settled (exec_shadowMinRaise ..) rfl ?_
  rw [(State.settle_lines _).boot, (Shown.of_settle _).getF _ _ _ (by decide), Chip.shadowMinRaise, if_neg (by simp [hfull, hhour])]
  dsimp only
  generalize hl : (List.range 3).filterMap _ = l
  have hmem : (i, s.chip.getF FW_SLOT (fwInst i sl) FW_SLOT.SEC_VER) ∈ l := by
    rw [← hl, List.mem_filterMap]
    exact ⟨i, List.mem_range.mpr hi, by rw [hrun]; exact if_pos hmin⟩
  rw [if_neg (by rw [List.isEmpty_iff]; exact List.ne_nil_of_mem hmem)]
  exact ⟨by rw [(Chip.requestStore_rest _ _).boot]; exact hmem, Chip.requestStore_pending _ 7 (by decide)⟩

/-- Settles O17: each act writes what its rule names, and neither the reply nor the settling moves it. -/
theorem identityCommandsAct : Obligations.IdentityCommandsAct := by
  unfold Obligations.IdentityCommandsAct
  refine ⟨fun s h x cert hs hcert hrsv => ?_, fun s h x nonce hs => attest_completes hs,
    fun s h x k inst ver img old new hk hs hwho hf hold hnew hkey hexp hsrc hlast =>
      credentialWrite_completes hk hs hwho hf hold hnew hkey hexp hsrc hlast,
    fun s h x image sl v hs himg hrsv hrun hfree hv => rollbackCommit_completes hs himg hrsv hrun hfree hv, shadowMinRaise_completes⟩
  obtain ⟨t, ht, ⟨hheld, hreply⟩, hidx⟩ := (getIdentity_completes hs hcert hrsv).and (getIdentity_spends hs hcert hrsv)
  exact ⟨t, ht, hheld, hidx, hreply⟩

end Sys2Proof.Machine
end

section
/-!
PROOF. Plot slots (R96 to R102): creation, expiry of the code, rotation of the key and eviction.
-/

namespace Sys2Proof.Machine

/-! ## A slot and its secrets -/

theorem Quiet.lifecycle {c d : Chip} (h : Quiet c d) : d.lifecycle = c.lifecycle := h.getF _ _ _ (by decide)

theorem Quiet.now {c d : Chip} (h : Quiet c d) : d.now = c.now := by
  unfold Chip.now
  rw [h.time]

theorem Ended.slotState {c d : Chip} (h : Ended c d) (p : Nat) : d.slotState p = c.slotState p := h.shown.getF _ _ _ (by decide)

theorem Chip.plotSecret_congr {c d : Chip} (h : d.sec = c.sec) (p : Nat) : d.plotSecret p = c.plotSecret p := by
  unfold Chip.plotSecret
  rw [h]

@[simp] theorem Chip.plotSecret_upd (c : Chip) (r : RecDesc) (i : Nat) (fs : List (Fld × Nat)) (p : Nat) :
    (c.upd r i fs).plotSecret p = c.plotSecret p := Chip.plotSecret_congr (Chip.upd_sec c r i fs) p

@[simp] theorem Chip.plotSecret_requestStore (c : Chip) (k p : Nat) : (c.requestStore k).plotSecret p = c.plotSecret p :=
  Chip.plotSecret_congr (c.requestStore_rest k).sec p

theorem Ended.plotSecret {c d : Chip} (h : Ended c d) (p : Nat) : d.plotSecret p = c.plotSecret p := Chip.plotSecret_congr h.sec p

/-! ## A slot awaiting its plot -/

theorem plotCreate_completes {s : State} {h : Hdr} {x : Ctx} {p lifetime : Nat} (hs : Served s h plotCreateSpec x) (hlife : lifetime ≤ 2160)
    (hrsv : h.prsv = 0) (hst : s.chip.slotState p = slEmpty ∨ s.chip.slotState p = slCodeDead) (hlc : s.chip.lifecycle ≠ lcUnlocked) :
    Completes (.plotCreate h p lifetime) s fun t =>
      t.chip.slotState p = slAwaiting ∧ t.chip.getF PLOT_SLOT p PLOT_SLOT.FAIL_CNT = 0 ∧ (t.chip.plotSecret p).code.isSome = true ∧
      t.chip.getF PLOT_SLOT p PLOT_SLOT.CODE_EXPIRY =
        (s.chip.now + (if lifetime = 0 then 336 else lifetime) * 3600 * ticksPerSecond) % 2 ^ PLOT_SLOT.CODE_EXPIRY.width := by
  refine hs.acts (exec_plotCreate ..) fun d hd _ => ?_
  have hstate : (d.slotState p != slEmpty && d.slotState p != slCodeDead) = false := by
    rw [hd.quiet.slotState]
    rcases hst with h | h <;> simp [h]
  dsimp only
  rw [checks_pass _ _ _ (by simp [hrsv, hstate, hd.quiet.lifecycle, hlc, hlife])]
  refine ⟨rfl, fun t ht => ?_⟩
  rw [ht.slotState, ht.shown.getF _ _ _ (by decide), ht.shown.getF _ _ _ (by decide), ht.plotSecret, ← hd.quiet.now, Chip.slotState]
  dsimp only
  rw [Chip.requestStore_getF _ _ _ _ _ (by decide), Chip.requestStore_getF _ _ _ _ _ (by decide), Chip.requestStore_getF _ _ _ _ _ (by decide),
    Chip.plotSecret_requestStore, Chip.plotSecret_upd, Chip.plotSecret_setPlotSecret]
  exact ⟨Chip.getF_upd_append _ _ _ _ _ [] _ (apart_of_two (by decide)), Chip.getF_upd_append _ _ _ _ _ [_] _ (apart_of_one (by decide)),
    rfl, Chip.getF_upd_append _ _ _ _ _ [_, _] [] (fun _ hm => absurd hm List.not_mem_nil)⟩

theorem enrolCodeExpiry_completes (s : State) (p : Nat) (hp : p < 256) (hst : s.chip.slotState p = slAwaiting)
    (hexp : s.chip.getF PLOT_SLOT p PLOT_SLOT.CODE_EXPIRY ≤ s.chip.now) :
    Completes (.enrolCodeExpiry p) s fun t => t.chip.slotState p = slCodeDead ∧ (t.chip.plotSecret p).code = none := by
  refine Completes.of_ended ((exec_enrolCodeExpiry ..).trans (if_pos hp)) (if_pos ⟨hst, hexp⟩) fun t ht => ?_
  rw [ht.slotState, ht.plotSecret, Chip.codeDead, Chip.plotSecret_upd, Chip.plotSecret_setPlotSecret]
  exact ⟨Chip.getF_upd_two_fst _ _ _ _ _ _ _ (by decide), rfl⟩

/-! ## Rotation of the key -/

/-- The new key of a plot has the next generation (R101). -/
theorem Chip.takePlotKey_keyGen (c : Chip) (p key : Nat) : ((c.takePlotKey p key).plotSecret p).keyGen = (c.plotSecret p).keyGen + 1 := by
  unfold Chip.takePlotKey
  dsimp only
  rw [Chip.plotSecret_requestStore, Chip.plotSecret_upd, Chip.plotSecret_setPlotSecret]

theorem plotKeyRotate_completes {s : State} {h : Hdr} {x : Ctx} {key : Nat} {sig : Sig} {p : Nat} (hs : Served s h plotKeyRotateSpec x)
    (hwho : x.who.plotOf = some p) (hkey : onCurve key = true) (hsig : Sig.verifies sig key = true) :
    Completes (.plotKeyRotate h key sig) s fun t =>
      (t.chip.plotSecret p).key = some key ∧ (t.chip.plotSecret p).keyGen = (s.chip.plotSecret p).keyGen + 1 ∧
      (t.chip.ses x.si).credGen = (t.chip.plotSecret p).keyGen := by
  refine hs.acts (exec_plotKeyRotate ..) fun d hd _ => ?_
  simp only [hwho]
  rw [checks_pass _ _ _ (by simp [hkey, hsig])]
  refine ⟨rfl, fun t ht => ?_⟩
  dsimp only at ht
  generalize hy : d.takePlotKey p key = y at ht
  have hsecret : t.chip.plotSecret p = y.plotSecret p := by
    rw [ht.plotSecret, (Quiet.raise _ _ _ _ _ _).plotSecret]
    rfl
  have hses : (t.chip.ses x.si).credGen = (y.plotSecret p).keyGen := by
    have hcore := (ht.core x.si).trans (SameCore.raise _ _ _ _ _ _ x.si)
    rw [Chip.modSes, Chip.ses_setSes, if_pos rfl] at hcore
    exact (congrArg Session.credGen hcore :)
  rw [hses, hsecret, ← hy]
  exact ⟨(d.takePlotKey_plotSecret p key).1, by rw [d.takePlotKey_keyGen, hd.quiet.plotSecret], rfl⟩

/-! ## Eviction -/

/-- The slot is WIPING, without code and key (R102). -/
theorem Chip.evictBegin_slot (c : Chip) (p : Nat) :
    (c.evictBegin p).slotState p = slWiping ∧ ((c.evictBegin p).plotSecret p).code = none ∧ ((c.evictBegin p).plotSecret p).key = none ∧
      (c.evictBegin p).sec.evicting = c.sec.evicting := by
  unfold Chip.evictBegin
  dsimp only
  rw [Chip.plotSecret_upd, Chip.plotSecret_setPlotSecret, Chip.upd_sec]
  exact ⟨Chip.getF_upd_append _ _ _ _ _ [] _ (apart_of_two (by decide)), rfl, rfl, rfl⟩

theorem Owned.evictBegin (c : Chip) (p : Nat) : Owned c (c.evictBegin p) := by
  unfold Chip.evictBegin
  exact of_host (Chip.upd_host _ _ _ _)

theorem Noise.freeHandle {c d : Chip} (h : Noise c d) (si : Nat) : d.freeHandle si = c.freeHandle si := by
  unfold Chip.freeHandle Chip.hnd
  rw [h.host.handles]

/-- A handle issued is its session's. -/
theorem Chip.newHandle_owner (c : Chip) (si k : Nat) : ((c.newHandle si k).hnd k).owner = some si := by
  rw [Chip.newHandle, Chip.hnd_setHnd, if_pos rfl]

theorem plotEvict_completes {s : State} {h : Hdr} {x : Ctx} {p k : Nat} (hs : Served s h plotEvictSpec x) (hrsv : h.prsv = 0)
    (hempty : s.chip.slotState p ≠ slEmpty) (hwiping : s.chip.slotState p ≠ slWiping) (hk : s.chip.freeHandle x.si = some k) :
    Completes (.plotEvict h p) s fun t =>
      t.chip.slotState p = slWiping ∧ (t.chip.plotSecret p).code = none ∧ (t.chip.plotSecret p).key = none ∧
      (t.chip.hnd k).owner = some x.si ∧ t.chip.sec.evicting = s.chip.sec.evicting ++ [{ plot := p, handle := some k }] := by
  refine hs.acts (exec_plotEvict ..) fun d hd _ => ?_
  have hstate : (d.slotState p == slEmpty || d.slotState p == slWiping) = false := by simp [hd.quiet.slotState, hempty, hwiping]
  dsimp only
  rw [checks_pass _ _ _ (by simp [hrsv, hstate])]
  obtain ⟨hpost, hchip⟩ := Chip.accept_free d x _ k ((hd.freeHandle x.si).trans hk)
  refine ⟨hpost, fun t ht => ?_⟩
  rw [hchip] at ht
  obtain ⟨hslot, hcode, hkey, hlist⟩ := (d.newHandle x.si k).evictBegin_slot p
  rw [ht.slotState, ht.plotSecret, ht.shown.owned, ht.sec, ← hd.quiet.sec]
  refine ⟨hslot, hcode, hkey, ?_, congrArg (· ++ _) hlist⟩
  exact (Owned.evictBegin _ p k).trans (d.newHandle_owner x.si k)

/-- Step 7 of R102 leaves the slot EMPTY. -/
theorem Chip.evictEnd_slotState (c : Chip) (p : Nat) (k : Option Nat) : (c.evictEnd p k).slotState p = slEmpty := by
  unfold Chip.evictEnd
  dsimp only
  rw [(Quiet.raise _ _ _ _ _ _).slotState, (Quiet.finish _ _ _ _).slotState,
    Chip.eachOf_keeps (fun c => c.slotState p) _ _ _ fun c z => (Zonal.undisplace c z).getF PLOT_SLOT p PLOT_SLOT.STATE (by decide)]
  exact Chip.getF_upd_two_fst _ _ _ _ _ _ _ (by decide)

/-- Steps 2 to 5 of R102 end by marking the plot's data as wiped. -/
theorem Chip.evictWipe_wiped (c : Chip) (p : Nat) : ((c.evictWipe p).plotSecret p).wiped = true := by
  unfold Chip.evictWipe
  dsimp only
  rw [Chip.plotSecret_setPlotSecret]

theorem plotWipe_completes (s : State) (p : Nat) (e : Evict) (hp : p < 256)
    (he : s.chip.sec.evicting.find? (fun e => e.plot == p && e.stage == 0) = some e) :
    Completes (.plotWipe p) s fun t =>
      ({ e with stage := 1 } ∈ t.chip.sec.evicting ∧ (t.chip.plotSecret p).wiped = true) ∨ t.chip.slotState p = slEmpty := by
  refine Completes.of_ended ((exec_plotWipe ..).trans (if_pos hp)) rfl fun t ht => ?_
  rw [ht.slotState, ht.plotSecret, ht.sec, Chip.plotWipe, he]
  dsimp only
  split
  · refine .inl ⟨List.mem_append_right _ (List.mem_singleton.mpr rfl), ?_⟩
    change ((((s.chip.evictWipe p).requestStore 6).plotSecret p).wiped) = true
    rw [Chip.plotSecret_requestStore, s.chip.evictWipe_wiped]
  · exact .inr (Chip.evictEnd_slotState _ p e.handle)

/-- Settles O18: each command writes the slot and the plot's secrets last, and what follows it moves neither. That an eviction whose store
cannot be made ends at once is the model's choice (log entry 85). -/
theorem plotSlotsAct : Obligations.PlotSlotsAct := by
  unfold Obligations.PlotSlotsAct
  exact ⟨fun s h x p lifetime hs _ hlife hrsv hst hlc => plotCreate_completes hs hlife hrsv hst hlc, enrolCodeExpiry_completes,
    fun s h x key sig p hs hwho hkey hsig => plotKeyRotate_completes hs hwho hkey hsig,
    fun s h x p k hs _ hrsv hempty hwiping hk => plotEvict_completes hs hrsv hempty hwiping hk, plotWipe_completes⟩

end Sys2Proof.Machine
end

section
/-!
PROOF. Privacy (R105, R108 to R110): the configuration, the occupancy groups and the quarter-hour at which their entries are published.
-/

namespace Sys2Proof.Machine

theorem privacyCfgWrite_completes {s : State} {h : Hdr} {x : Ctx} {inst ver img : Nat} (hs : Served s h setRecordSpec x)
    (hwho : x.who.estateOnly = true) (hf : WriteFits s.chip h PRIVACY_CFG inst ver img) :
    Completes (.privacyCfgWrite h inst ver img) s fun t =>
      Wrote s t PRIVACY_CFG inst img ∧ (t.chip.getF STORE_STATUS 0 STORE_STATUS.PENDING_CAUSE).testBit 6 = true := by
  refine hs.writes (by decide) hf (exec_privacyCfgWrite ..) _ (fun c _ => c.requestStore 6) (fun _ => rfl)
    (fun _ _ => ⟨rfl, hwho, rfl, rfl, rfl⟩) fun d hd t ht => ⟨?_, ?_⟩
  · unfold Wrote
    rw [ht.shown.img _ _ (by decide), Chip.requestStore_img _ _ _ _ (by decide), Chip.written_img_quiet hd.quiet (by decide)]
  · rw [ht.shown.getF _ _ _ (by decide)]
    exact Chip.requestStore_pending _ 6 (by decide)

/-! ## A change of a group -/

theorem Quiet.occGroupBad {c d : Chip} (hq : Quiet c d) (i img : Nat) : d.occGroupBad i img = c.occGroupBad i img := by
  unfold Chip.occGroupBad
  simp only [hq.img OCC_GROUP _ (by decide), hq.getF PRIVACY_CFG _ _ (by decide)]

theorem Quiet.occGroupHeld {c d : Chip} (hq : Quiet c d) (i img : Nat) : d.occGroupHeld i img = c.occGroupHeld i img := by
  unfold Chip.occGroupHeld
  simp only [hq.img OCC_GROUP _ (by decide), hq.getF PRIVACY_CFG _ _ (by decide), hq.getF OCC_GROUP _ _ (by decide), hq.now]

theorem Chip.recStored_time (c : Chip) (r : RecDesc) (i : Nat) : (c.recStored r i).time = c.time := by
  unfold Chip.recStored Chip.dirty
  dsimp only
  repeat' split
  all_goals rfl

/-- The image in force until the quarter-hour is remembered, once for each group (R109). -/
def Chip.occRemember (c : Chip) (i old : Nat) : Chip :=
  if c.sec.occPending.any (fun p => p.1 == i) then c else { c with sec.occPending := c.sec.occPending ++ [(i, old)] }

theorem Chip.occRemember_pending (c : Chip) (i old : Nat) : (c.occRemember i old).sec.occPending.any (fun p => p.1 == i) = true := by
  unfold Chip.occRemember
  split
  · next h => exact h
  · simp

theorem Chip.occRemember_recs (c : Chip) (i old : Nat) : (c.occRemember i old).recs = c.recs := by
  unfold Chip.occRemember
  split <;> rfl

/-- `LAST_CHANGE` lies between the count and the zones. -/
theorem occGroup_lastChange_apart {f : Fld} (hf : f ∈ OCC_GROUP.COUNT :: (List.range 64).map OCC_GROUP.ZONE) :
    f.apart OCC_GROUP.LAST_CHANGE := by
  rcases List.mem_cons.mp hf with rfl | hz
  · decide
  · obtain ⟨k, -, rfl⟩ := List.mem_map.mp hz
    simp only [Fld.apart, OCC_GROUP.ZONE, OCC_GROUP.LAST_CHANGE]
    omega

theorem occGroupWrite_completes {s : State} {h : Hdr} {x : Ctx} {inst ver img : Nat} (hs : Served s h setRecordSpec x)
    (hwho : x.who.estateOnly = true) (hf : WriteFits s.chip h OCC_GROUP inst ver img) (hbad : s.chip.occGroupBad inst img = false)
    (hheld : s.chip.occGroupHeld inst img = false) :
    Completes (.occGroupWrite h inst ver img) s fun t =>
      (∀ f ∈ OCC_GROUP.COUNT :: (List.range 64).map OCC_GROUP.ZONE,
        t.chip.getF OCC_GROUP inst f = f.get (OCC_GROUP.merge (s.chip.img OCC_GROUP inst) img)) ∧
      t.chip.getF OCC_GROUP inst OCC_GROUP.LAST_CHANGE = s.chip.now % 2 ^ OCC_GROUP.LAST_CHANGE.width ∧
      t.chip.sec.occPending.any (fun p => p.1 == inst) = true := by
  refine hs.writes (by decide) hf (exec_occGroupWrite ..) _
    (fun c old => ((c.upd OCC_GROUP inst [(OCC_GROUP.LAST_CHANGE, c.now)]).occRemember inst old).requestStore 6) (fun _ => rfl)
    (fun d hd => ⟨rfl, hwho, rfl, (hd.occGroupBad inst img).trans hbad, if_neg (by simp [hd.occGroupHeld, hheld])⟩) fun d hd t ht => ?_
  set w := d.written OCC_GROUP inst img with hw
  have hnow : w.now = s.chip.now := by
    rw [← hd.quiet.now, hw, Chip.written]
    exact congrArg Time.rtc (Chip.recStored_time _ _ _)
  have hend : ∀ f, t.chip.getF OCC_GROUP inst f = (w.upd OCC_GROUP inst [(OCC_GROUP.LAST_CHANGE, w.now)]).getF OCC_GROUP inst f := fun f => by
    rw [ht.shown.getF _ _ _ (by decide), Chip.requestStore_getF _ _ _ _ _ (by decide), Chip.getF,
      Chip.img_congr (Chip.occRemember_recs _ _ _), Chip.getF]
  refine ⟨fun f hmem => ?_, ?_, ?_⟩
  · rw [hend, Chip.getF_upd_one_apart _ _ _ _ _ _ (occGroup_lastChange_apart hmem), Chip.getF, Chip.written_img_quiet hd.quiet (by decide)]
  · rw [hend, Chip.getF_upd_one, hnow]
  · rw [ht.sec, (Chip.requestStore_rest _ _).sec]
    exact Chip.occRemember_pending _ _ _

/-! ## The quarter-hour -/

/-- A group with fewer zones than `K_MIN` is withheld, with a value of zero (R110). -/
theorem Chip.occEntry_few (c : Chip) (zs : List Nat) (hfew : zs.length < c.getF PRIVACY_CFG 0 PRIVACY_CFG.K_MIN) :
    (c.occEntry zs).1 = 0 ∧ (c.occEntry zs).2.2 = 1 := by
  unfold Chip.occEntry
  dsimp only
  rw [if_pos (.inr hfew)]
  exact ⟨rfl, rfl⟩

/-- The fields of an entry of a group's history. -/
def occFields (l : List (Nat × Nat × Nat)) (k : Nat) : List (Fld × Nat) :=
  [(OCC_AGG.VALUE k, (l.getD k (0, 0, 0)).1), (OCC_AGG.REPORTING k, (l.getD k (0, 0, 0)).2.1),
    (OCC_AGG.WITHHELD k, (l.getD k (0, 0, 0)).2.2)]

/-- The fields of older entries lie beyond those of the newest. -/
theorem occFields_apart (l : List (Nat × Nat × Nat)) (ks : List Nat) {f : Fld} (hf : f.off + f.width ≤ 96) :
    ∀ p ∈ (ks.map Nat.succ).flatMap (occFields l), f.apart p.1 := by
  intro p hp
  obtain ⟨k, hk, hp⟩ := List.mem_flatMap.mp hp
  obtain ⟨j, -, rfl⟩ := List.mem_map.mp hk
  simp only [occFields, List.mem_cons, List.not_mem_nil, or_false] at hp
  rcases hp with rfl | rfl | rfl <;> simp only [Fld.apart, OCC_AGG.VALUE, OCC_AGG.REPORTING, OCC_AGG.WITHHELD] <;> omega

/-- The newest entry of a history is the one published. -/
theorem Chip.occPublish_newest (c : Chip) (g start : Nat) (e : Nat × Nat × Nat) :
    (c.occPublish g start e).getF OCC_AGG g (OCC_AGG.VALUE 0) = e.1 % 2 ^ 16 ∧
      (c.occPublish g start e).getF OCC_AGG g (OCC_AGG.WITHHELD 0) = e.2.2 % 2 := by
  unfold Chip.occPublish
  dsimp only
  generalize List.replicate _ _ ++ _ = old
  have hnewest : ((e :: old).take 96).getD 0 (0, 0, 0) = e := rfl
  generalize (e :: old).take 96 = l at hnewest
  have hfields : (List.range 96).flatMap (occFields l) = occFields l 0 ++ ((List.range 95).map Nat.succ).flatMap (occFields l) := by
    rw [List.range_succ_eq_map, List.flatMap_cons]
  change (c.upd OCC_AGG g ((OCC_AGG.NEWEST_START, start) :: (List.range 96).flatMap (occFields l))).getF _ _ _ = _ ∧
    (c.upd OCC_AGG g ((OCC_AGG.NEWEST_START, start) :: (List.range 96).flatMap (occFields l))).getF _ _ _ = _
  rw [hfields, ← hnewest]
  have hvalue : (OCC_AGG.VALUE 0).apart (OCC_AGG.REPORTING 0) ∧ (OCC_AGG.VALUE 0).apart (OCC_AGG.WITHHELD 0) := by decide
  refine ⟨Chip.getF_upd_append _ _ _ _ _ [_] _ (List.forall_mem_cons.mpr ⟨hvalue.1, List.forall_mem_cons.mpr ⟨hvalue.2, ?_⟩⟩),
    Chip.getF_upd_append _ _ _ _ _ [_, _, _] _ ?_⟩
  · exact occFields_apart l _ (by decide)
  · exact occFields_apart l _ (by decide)

/-- `d` has the secrets of `c` and every record but `OCC_AGG`. -/
structure OccFrame (c d : Chip) : Prop where
  sec : d.sec = c.sec
  img : ∀ r i, OCC_AGG.id % 0x10000 ≠ r.id % 0x10000 → d.img r i = c.img r i

namespace OccFrame

theorem refl (c : Chip) : OccFrame c c := ⟨rfl, fun _ _ _ => rfl⟩

theorem symm {c d : Chip} (h : OccFrame c d) : OccFrame d c := ⟨h.sec.symm, fun r i hr => (h.img r i hr).symm⟩

theorem trans {a b c : Chip} (h : OccFrame a b) (k : OccFrame b c) : OccFrame a c :=
  ⟨k.sec.trans h.sec, fun r i hr => (k.img r i hr).trans (h.img r i hr)⟩

end OccFrame

/-- The image of a group that is in force, for the interval that has closed (R109). -/
def Chip.occInForce (c : Chip) (g : Nat) : Nat := Tab.get (c.img OCC_GROUP g) c.sec.occPending g

theorem OccFrame.occInForce {c d : Chip} (h : OccFrame c d) (g : Nat) : d.occInForce g = c.occInForce g := by
  unfold Chip.occInForce
  rw [h.sec, h.img OCC_GROUP g (by decide)]

/-- One group publishes its entry, if it is in use. -/
def Chip.occPublishOne (start : Nat) (c : Chip) (g : Nat) : Chip :=
  if OCC_GROUP.COUNT.get (c.occInForce g) = 0 then c else c.occPublish g start (c.occEntry (groupZones (c.occInForce g)))

theorem OccFrame.occPublishOne (start : Nat) (c : Chip) (g : Nat) : OccFrame c (c.occPublishOne start g) := by
  unfold Chip.occPublishOne
  split
  · exact refl c
  · exact ⟨Chip.upd_sec _ _ _ _, fun r i hr => Chip.img_upd_ne _ _ _ _ _ _ (recKey_ne_of_id hr _ _)⟩

/-- A group publishes nothing of another. -/
theorem Chip.occPublishOne_getF_ne (c : Chip) (start g k : Nat) (f : Fld) (hk : g ≠ k) :
    (c.occPublishOne start g).getF OCC_AGG k f = c.getF OCC_AGG k f := by
  unfold Chip.occPublishOne
  split
  · rfl
  · exact Chip.getF_upd_ne _ _ _ _ _ _ _ (recKey_ne_of_inst _ hk)

/-- The newest entry of a group is withheld, with a value of zero. -/
def Chip.occWithheld (c : Chip) (g : Nat) : Prop :=
  c.getF OCC_AGG g (OCC_AGG.WITHHELD 0) = 1 ∧ c.getF OCC_AGG g (OCC_AGG.VALUE 0) = 0

theorem Chip.occPublishOne_withheld (c : Chip) (start g : Nat) (hused : groupZones (c.occInForce g) ≠ [])
    (hfew : (groupZones (c.occInForce g)).length < c.getF PRIVACY_CFG 0 PRIVACY_CFG.K_MIN) : (c.occPublishOne start g).occWithheld g := by
  have hcount : OCC_GROUP.COUNT.get (c.occInForce g) ≠ 0 := fun h0 => hused (by rw [groupZones, h0]; rfl)
  obtain ⟨hvalue, hwithheld⟩ := c.occPublish_newest g start (c.occEntry (groupZones (c.occInForce g)))
  obtain ⟨h0, h1⟩ := c.occEntry_few (groupZones (c.occInForce g)) hfew
  rw [h0] at hvalue
  rw [h1] at hwithheld
  rw [Chip.occPublishOne, if_neg hcount]
  exact ⟨hwithheld, hvalue⟩

/-- Every group in use with fewer zones than `K_MIN` has published a withheld entry when all have published. -/
theorem Chip.occPublishAll_withheld (c : Chip) (start g : Nat) (hg : g < 64) (hused : groupZones (c.occInForce g) ≠ [])
    (hfew : (groupZones (c.occInForce g)).length < c.getF PRIVACY_CFG 0 PRIVACY_CFG.K_MIN) :
    (c.each 64 (Chip.occPublishOne start)).occWithheld g := by
  have hall : OccFrame c (c.each 64 (Chip.occPublishOne start)) :=
    Chip.eachOf_preserves (OccFrame c) (fun d k h => h.trans (OccFrame.occPublishOne start d k)) _ (OccFrame.refl c)
  refine Chip.eachOf_establishes (fun d => OccFrame c d → d.occWithheld g) (List.mem_range.mpr hg) (fun d k hk hframe => ?_) c hall
  have hd : OccFrame c d := hframe.trans (OccFrame.occPublishOne start d k).symm
  by_cases hkg : k = g
  · subst hkg
    refine d.occPublishOne_withheld start k (by rw [hd.occInForce]; exact hused) ?_
    rw [hd.occInForce, Chip.getF, hd.img PRIVACY_CFG 0 (by decide)]
    exact hfew
  · obtain ⟨hwithheld, hvalue⟩ := hk.resolve_left hkg hd
    exact ⟨(d.occPublishOne_getF_ne start k g _ hkg).trans hwithheld, (d.occPublishOne_getF_ne start k g _ hkg).trans hvalue⟩

theorem Chip.each_keeps {γ : Type} (g : Chip → γ) (c : Chip) (n : Nat) (f : Chip → Nat → Chip) (hf : ∀ c k, g (f c k) = g c) :
    g (c.each n f) = g c := foldl_keeps g f hf _ c

theorem Chip.each_modZrt_recs (c : Chip) (n : Nat) (f : ZoneRt → ZoneRt) : (c.each n fun c z => c.modZrt z f).recs = c.recs :=
  Chip.each_keeps Chip.recs c n _ fun _ _ => rfl

/-- At a new quarter-hour the groups publish for the one that has closed, and nothing is pending or summed any longer. -/
theorem Chip.quarterHourAggregate_closes (c : Chip) (q : Nat) (hq : q = c.now / ticksPerQuarter * ticksPerQuarter) (h0 : q ≠ 0)
    (hnew : q ≠ c.sec.aggAt) (hlim : lvLimited ≤ c.level) :
    c.quarterHourAggregate.sec.aggAt = q ∧ c.quarterHourAggregate.sec.occPending = [] ∧ c.quarterHourAggregate.act.acc = [] ∧
      c.quarterHourAggregate.recs = (c.each 64 (Chip.occPublishOne (q - ticksPerQuarter))).recs := by
  have hpublish : Chip.occPublishOne (q - ticksPerQuarter) = fun c g =>
      let img := Tab.get (c.img OCC_GROUP g) c.sec.occPending g
      if OCC_GROUP.COUNT.get img = 0 then c else c.occPublish g (q - ticksPerQuarter) (c.occEntry (groupZones img)) := rfl
  rw [Chip.quarterHourAggregate, ← hq, if_neg (by simp only [h0, hnew, false_or]; exact not_lt.mpr hlim), ← hpublish]
  generalize c.each 64 _ = d
  dsimp only
  exact ⟨rfl, rfl, rfl, Chip.each_modZrt_recs d 1024 _⟩

theorem State.settle_sums (s : State) : s.settle.chip.act.acc = s.chip.act.acc := by
  have h := congrArg Act.acc s.settle_lines.act
  exact h

/-- A row completes in any state that its meaning, settled, ends in; settling leaves the running sums. -/
theorem Completes.of_ended_sums {i : Instr} {s : State} {f : Chip → Chip} {c : Chip} {p : State → Prop} (hi : exec i s = s.run f)
    (hc : f s.chip = c) (hp : ∀ t : State, Ended c t.chip → t.chip.act.acc = c.act.acc → p t) : Completes i s p :=
  Completes.of_settled hi hc (hp _ (Ended.of_settle { s with chip := c }) (State.settle_sums { s with chip := c }))

theorem quarterHourAggregate_completes (s : State) (q : Nat) (hq : q = s.chip.now / ticksPerQuarter * ticksPerQuarter) (h0 : q ≠ 0)
    (hnew : q ≠ s.chip.sec.aggAt) (hlim : lvLimited ≤ s.chip.level) :
    Completes .quarterHourAggregate s fun t =>
      t.chip.sec.aggAt = q ∧ t.chip.sec.occPending = [] ∧ t.chip.act.acc = [] ∧
      (∀ g z, g < 64 → z = groupZones (Tab.get (s.chip.img OCC_GROUP g) s.chip.sec.occPending g) → z ≠ [] →
        z.length < s.chip.getF PRIVACY_CFG 0 PRIVACY_CFG.K_MIN →
        t.chip.getF OCC_AGG g (OCC_AGG.WITHHELD 0) = 1 ∧ t.chip.getF OCC_AGG g (OCC_AGG.VALUE 0) = 0) := by
  obtain ⟨hagg, hpend, hacc, hrecs⟩ := s.chip.quarterHourAggregate_closes q hq h0 hnew hlim
  refine Completes.of_ended_sums (exec_quarterHourAggregate ..) rfl fun t ht hsums => ?_
  refine ⟨(congrArg Sec.aggAt ht.sec).trans hagg, (congrArg Sec.occPending ht.sec).trans hpend, hsums.trans hacc, fun g z hg hz hused hfew => ?_⟩
  have hend : ∀ f, t.chip.getF OCC_AGG g f = (s.chip.each 64 (Chip.occPublishOne (q - ticksPerQuarter))).getF OCC_AGG g f := fun f =>
    (ht.shown.getF _ _ _ (by decide)).trans (congrArg f.get (Chip.img_congr hrecs _ _))
  rw [hend, hend]
  subst hz
  exact s.chip.occPublishAll_withheld _ g hg hused hfew

/-- Settles O19: a write's own fields lie apart from those its effect sets, and at a quarter-hour each group writes its own record alone. That
the image in force is remembered apart until then is the model's choice (log entry 87). -/
theorem privacyCommandsAct : Obligations.PrivacyCommandsAct := by
  unfold Obligations.PrivacyCommandsAct
  exact ⟨fun s h x inst ver img hs hwho hf => privacyCfgWrite_completes hs hwho hf,
    fun s h x inst ver img hs hwho hf hbad hheld => occGroupWrite_completes hs hwho hf hbad hheld, quarterHourAggregate_completes⟩

end Sys2Proof.Machine
end

section
/-!
PROOF. The service pins and the debug unlock (R113, R117 to R119, R465).
-/

namespace Sys2Proof.Machine

/-! ## The pins -/

theorem Ended.secF {c d : Chip} (h : Ended c d) (f : Fld) : d.secF f = c.secF f := h.shown.getF _ _ _ (by decide)
theorem Quiet.secF {c d : Chip} (h : Quiet c d) (f : Fld) : d.secF f = c.secF f := h.getF _ _ _ (by decide)
theorem Quiet.serviceEn {c d : Chip} (h : Quiet c d) : d.serviceEn = c.serviceEn := congrArg (Nat.testBit · 0) (h.secF SECURITY_STATUS.PINS)
theorem Quiet.safeKey {c d : Chip} (h : Quiet c d) : d.safeKey = c.safeKey := congrArg (Nat.testBit · 1) (h.secF SECURITY_STATUS.PINS)

/-- The session has no raw access. -/
def Session.rawless (x : Session) : Prop := x.rawRead = false ∧ x.rawWrite = false

theorem SameCore.rawless {c d : Chip} (h : SameCore c d) {i : Nat} (hi : (c.ses i).rawless) : (d.ses i).rawless :=
  ⟨(congrArg Session.rawRead (h i) :).trans hi.1, (congrArg Session.rawWrite (h i) :).trans hi.2⟩

/-- The open sessions give up their raw access. -/
def Chip.rawEnd (c : Chip) : Chip := c.eachOf c.openSessions (fun c i => c.modSes i (fun s => { s with rawRead := false, rawWrite := false }))

theorem Quiet.rawEnd (c : Chip) : Quiet c c.rawEnd := Quiet.eachOf _ _ _ fun c i => Quiet.modSes c i _

theorem Chip.rawEnd_rawless (c : Chip) (i : Nat) (hi : i < 128) (hopen : (c.ses i).isOpen = true) : (c.rawEnd.ses i).rawless := by
  have hmem : i ∈ c.openSessions := List.mem_filter.mpr ⟨List.mem_range.mpr hi, hopen⟩
  refine Chip.eachOf_establishes (fun d => (d.ses i).rawless) hmem (fun d j hj => ?_) c
  rw [Chip.modSes, Chip.ses_setSes]
  split
  · exact ⟨rfl, rfl⟩
  · next hne => exact hj.resolve_left hne

theorem servicePinChange_completes (s : State) (pins : Nat) (hpins : pins < 4) (hvaon : s.chip.boot.vaon = true)
    (hnew : s.chip.secF SECURITY_STATUS.PINS ≠ pins) :
    Completes (.servicePinChange pins) s fun t => t.chip.secF SECURITY_STATUS.PINS = pins ∧
      (pins.testBit 0 = false → ∀ i, i < 128 → (s.chip.ses i).isOpen = true →
        (t.chip.ses i).rawRead = false ∧ (t.chip.ses i).rawWrite = false) := by
  refine Completes.of_ended ((exec_servicePinChange ..).trans (if_pos hpins)) rfl fun t ht => ?_
  have hmod : pins % 4 = pins := Nat.mod_eq_of_lt hpins
  set c := s.chip.upd SECURITY_STATUS 0 [(SECURITY_STATUS.PINS, pins)] with hc
  have hshown : c.secF SECURITY_STATUS.PINS = pins := (Chip.getF_upd_one ..).trans hmod
  have hact : s.chip.servicePinChange pins =
      (if c.serviceEn then c else c.rawEnd).raise 0x0104 1 0 (u8 pins) { anyOperator := true } := by
    unfold Chip.servicePinChange
    rw [hmod, if_neg (by simp [hvaon, hnew])]
    rfl
  rw [hact] at ht
  constructor
  · rw [ht.secF, (Quiet.raise _ _ _ _ _ _).secF]
    split
    · exact hshown
    · exact ((Quiet.rawEnd c).secF _).trans hshown
  · intro hoff i hi hopen
    have hen : c.serviceEn = false := (congrArg (Nat.testBit · 0) hshown).trans hoff
    rw [hen, if_neg (by decide)] at ht
    have hopen' : (c.ses i).isOpen = true := by
      rw [hc, Chip.ses, Chip.upd_host]
      exact hopen
    exact ht.core.rawless ((SameCore.raise _ _ _ _ _ _).rawless (c.rawEnd_rawless i hi hopen'))

/-! ## The unlock -/

theorem debugChallenge_completes {s : State} {h : Hdr} {x : Ctx} (hs : Served s h (debugSpec 0x0102 0) x) (hen : s.chip.serviceEn = true)
    (hkey : s.chip.safeKey = true) : Completes (.debugChallenge h) s fun t => ∃ v, t.chip.sec.debugChallenge = some (v, s.chip.up) := by
  refine hs.acts (exec_debugChallenge ..) fun d hd _ => ?_
  rw [checks_pass _ _ _ (by simp [hd.quiet.serviceEn, hd.quiet.safeKey, hen, hkey])]
  refine ⟨rfl, fun t ht => ⟨(d.draw 32).1, ?_⟩⟩
  rw [ht.sec, ← hd.quiet.up]
  rfl

theorem debugUnlock_completes {s : State} {h : Hdr} {x : Ctx} {challenge minutes keyId : Nat} {sig : Sig} {at_ k : Nat}
    (hs : Served s h (debugSpec 0x0103 108) x) (hen : s.chip.serviceEn = true) (hkey : s.chip.safeKey = true) (hid : keyId ≤ 3)
    (hch : s.chip.sec.debugChallenge = some (challenge, at_)) (hlive : s.chip.since at_ < 600 * ticksPerSecond)
    (hsig : Sig.verifies sig keyId = true) (hmin : 1 ≤ minutes) (hmax : minutes ≤ 1440) (hrsv : h.prsv = 0)
    (hcount : s.chip.secF SECURITY_STATUS.UNLOCK_COUNT < 32) (hlc : s.chip.lifecycle = lcField) (hop : s.chip.sec.unlockOp = none)
    (hk : s.chip.freeHandle x.si = some k) :
    Completes (.debugUnlock h s.chip.sec.serial challenge minutes keyId sig) s fun t =>
      t.chip.sec.debugChallenge = none ∧ t.chip.sec.unlockOp = some { handle := some k, minutes := minutes } ∧
        (t.chip.hnd k).owner = some x.si := by
  refine hs.acts (exec_debugUnlock ..) fun d hd _ => ?_
  have hpins : (d.serviceEn && d.safeKey) = true := by rw [hd.quiet.serviceEn, hd.quiet.safeKey, hen, hkey]; rfl
  have hage : d.since at_ < 600 * ticksPerSecond := hd.quiet.since at_ ▸ hlive
  have hrange : (minutes == 0) = false := beq_false_of_ne (by omega)
  dsimp only
  rw [checks_pass _ _ _ (by
    simp [hpins, hage, hsig, hrange, hd.quiet.sec, hd.quiet.secF, hd.quiet.lifecycle, hch, hop, hlc, hrsv, hid, hmax, hcount])]
  obtain ⟨hpost, hchip⟩ := Chip.accept_free d x _ k ((hd.freeHandle x.si).trans hk)
  refine ⟨hpost, fun t ht => ?_⟩
  rw [hchip] at ht
  rw [ht.sec, ht.shown.owned]
  exact ⟨rfl, rfl, d.newHandle_owner x.si k⟩

/-- Step 4 of R118 leaves the lifecycle UNLOCKED. -/
theorem Chip.unlockEnter_lifecycle (c : Chip) (k : Option Nat) (minutes n : Nat) : (c.unlockEnter k minutes n).lifecycle = lcUnlocked := by
  unfold Chip.unlockEnter
  dsimp only
  rw [(Quiet.finish _ _ _ _).lifecycle, Chip.setLifecycle, (Quiet.raise _ _ _ _ _ _).lifecycle]
  exact Chip.getF_upd_one ..

theorem debugUnlockApply_completes (s : State) (u : Unlock) (hop : s.chip.sec.unlockOp = some u) (hst : u.stage = 0) :
    Completes .debugUnlockApply s fun t =>
      (∃ v, t.chip.sec.unlockOp = some v ∧ v.stage = 1 ∧ v.minutes = u.minutes) ∨ t.chip.lifecycle = lcUnlocked := by
  refine Completes.of_ended (exec_debugUnlockApply ..) rfl fun t ht => ?_
  rw [ht.sec, Chip.lifecycle, ht.shown.getF _ _ _ (by decide), ← Chip.lifecycle, Chip.debugUnlockApply, hop]
  dsimp only
  rw [if_neg (not_not.mpr hst)]
  split
  · exact .inl ⟨_, rfl, rfl, rfl⟩
  · exact .inr (Chip.unlockEnter_lifecycle ..)

end Sys2Proof.Machine
end

section
/-!
PROOF. The end of an unlock in operation (R36, R119): the Keeper and the Gatehouse restart under a tier hold, and the tier stands.
-/

namespace Sys2Proof.Machine

/-! ## What stands while units restart -/

/-- `d` has the tier, the time, the links and the units of `c`, but for the Keeper, the Gatehouse and the lifecycle. -/
structure Standing (c d : Chip) : Prop where
  boot : { d.boot with segments := c.boot.segments, keeper := c.boot.keeper, gatehouse := c.boot.gatehouse } = c.boot
  time : d.time = c.time
  link : d.host.ethLink = c.host.ethLink
  tier : d.getF AON_STATUS 0 AON_STATUS.TIER = c.getF AON_STATUS 0 AON_STATUS.TIER
  outcome : d.getF AON_STATUS 0 AON_STATUS.FW_OUTCOME = c.getF AON_STATUS 0 AON_STATUS.FW_OUTCOME
  img : ∀ r ∈ [SUPPLY_STATUS, STORE_STATUS, TERRACE_STATUS, ENDPOINT_CFG], ∀ i, d.img r i = c.img r i

namespace Standing

theorem trans {a b c : Chip} (h : Standing a b) (k : Standing b c) : Standing a c where
  boot := by
    have h1 := h.boot
    have h2 := k.boot
    rw [← h1, ← h2]
  time := k.time.trans h.time
  link := k.link.trans h.link
  tier := k.tier.trans h.tier
  outcome := k.outcome.trans h.outcome
  img r hr i := (k.img r hr i).trans (h.img r hr i)

theorem of_quiet {c d : Chip} (h : Quiet c d) (hlink : d.host.ethLink = c.host.ethLink) : Standing c d where
  boot := by
    have hb := h.boot
    rw [← hb]
  time := h.time
  link := hlink
  tier := h.aon _ (by decide)
  outcome := h.aon _ (by decide)
  img r hr i := h.img r i (by
    simp only [List.mem_cons, List.not_mem_nil, or_false] at hr
    rcases hr with rfl | rfl | rfl | rfl <;> decide)

theorem of_noise {c d : Chip} (h : Noise c d) : Standing c d := of_quiet h.quiet h.host.link

/-- A change beside the records, the clock and the links. -/
theorem of_recs {c d : Chip} (hrecs : d.recs = c.recs) (htime : d.time = c.time) (hlink : d.host.ethLink = c.host.ethLink)
    (hboot : { d.boot with segments := c.boot.segments, keeper := c.boot.keeper, gatehouse := c.boot.gatehouse } = c.boot) : Standing c d :=
  ⟨hboot, htime, hlink, congrArg AON_STATUS.TIER.get (Chip.img_congr hrecs _ _), congrArg AON_STATUS.FW_OUTCOME.get (Chip.img_congr hrecs _ _),
    fun r _ i => Chip.img_congr hrecs r i⟩

/-- Assignments that leave the tier and the outcome of the firmware's start. -/
theorem of_upd (c : Chip) (r : RecDesc) (i : Nat) (fs : List (Fld × Nat))
    (hr : ∀ q ∈ [SUPPLY_STATUS, STORE_STATUS, TERRACE_STATUS, ENDPOINT_CFG], r.id % 0x10000 ≠ q.id % 0x10000)
    (ht : (c.upd r i fs).getF AON_STATUS 0 AON_STATUS.TIER = c.getF AON_STATUS 0 AON_STATUS.TIER)
    (ho : (c.upd r i fs).getF AON_STATUS 0 AON_STATUS.FW_OUTCOME = c.getF AON_STATUS 0 AON_STATUS.FW_OUTCOME) : Standing c (c.upd r i fs) where
  boot := by rw [Chip.upd_boot]
  time := Chip.upd_time _ _ _ _
  link := by rw [Chip.upd_host]
  tier := ht
  outcome := ho
  img q hq j := Chip.img_upd_ne _ _ _ _ _ _ (recKey_ne_of_id (hr q hq) _ _)

theorem upd_aon (c : Chip) (fs : List (Fld × Nat)) (ht : ∀ p ∈ fs, AON_STATUS.TIER.apart p.1)
    (ho : ∀ p ∈ fs, AON_STATUS.FW_OUTCOME.apart p.1) : Standing c (c.upd AON_STATUS 0 fs) :=
  of_upd c _ _ _ (by decide) (Chip.getF_upd_apart _ _ _ _ _ ht) (Chip.getF_upd_apart _ _ _ _ _ ho)

theorem upd_security (c : Chip) (fs : List (Fld × Nat)) : Standing c (c.upd SECURITY_STATUS 0 fs) :=
  of_upd c _ _ _ (by decide) (Chip.getF_upd_ne _ _ _ _ _ _ _ (recKey_ne_of_id (by decide) _ _))
    (Chip.getF_upd_ne _ _ _ _ _ _ _ (recKey_ne_of_id (by decide) _ _))

theorem level {c d : Chip} (h : Standing c d) : d.level = c.level := by
  have hb : d.boot.below = c.boot.below := by rw [← h.boot]
  unfold Chip.level
  rw [hb, h.tier]

theorem recentRestarts {c d : Chip} (h : Standing c d) : d.recentRestarts = c.recentRestarts := by
  have hb : d.boot.restarts = c.boot.restarts := by rw [← h.boot]
  unfold Chip.recentRestarts Chip.since
  rw [hb, h.time]

theorem getF {c d : Chip} (h : Standing c d) {r : RecDesc} (hr : r ∈ [SUPPLY_STATUS, STORE_STATUS, TERRACE_STATUS, ENDPOINT_CFG]) (i : Nat)
    (f : Fld) : d.getF r i f = c.getF r i f := by rw [Chip.getF, h.img r hr i, Chip.getF]

theorem portsOk {c d : Chip} (h : Standing c d) : d.portsOk = c.portsOk :=
  Chip.portsOk_congr (h.img ENDPOINT_CFG (by simp)) fun p _ => .inr (by rw [Chip.linkUp, h.link, ← Chip.linkUp])

end Standing

/-! ## Units that a hold stands in for -/

/-- `c` under a tier hold of both the Keeper and the Gatehouse. -/
def Chip.heldBoth (c : Chip) (l : List (Nat × Nat)) (since cause : Nat) : Chip :=
  { c with boot.restarts := l, boot.hold := some ⟨2, since, cause⟩ }

/-- The units of Limited service are all there with the two at work, or with a hold that stands in for them. -/
theorem Chip.limitedUnits_iff (c : Chip) : c.limitedUnits = true ↔
    (c.survivalUnits = true ∧ c.getB SUPPLY_STATUS 0 SUPPLY_STATUS.PG_CORE = true ∧ c.getB SUPPLY_STATUS 0 SUPPLY_STATUS.PLLA_LOCK = true ∧
      c.boot.allocUp = true ∧ c.terraceLeft = true ∧ c.boot.resetLow = false ∧ c.boot.pfHalt = false) ∧
    (c.keeperOk = true ∧ c.gatehouseOk = true) ∧ (c.lifecycle = lcField ∨ c.lifecycle = lcUnlocked) := by
  unfold Chip.limitedUnits
  simp only [Bool.and_eq_true, Bool.or_eq_true, Bool.not_eq_true', beq_iff_eq]
  tauto

theorem Standing.survivalUnits {c d : Chip} (h : Standing c d) : d.survivalUnits = c.survivalUnits := by
  unfold Chip.survivalUnits Chip.firebreakUnits
  rw [← h.boot]

theorem Standing.terraceLeft {c d : Chip} (h : Standing c d) : d.terraceLeft = c.terraceLeft := by
  unfold Chip.terraceLeft Chip.tstate
  simp only [h.getF (r := TERRACE_STATUS) (by simp)]

theorem Standing.limitedUnits {c d : Chip} (h : Standing c d) (hlc : d.lifecycle = lcField) (l : List (Nat × Nat)) (since cause : Nat)
    (hlim : c.limitedUnits = true) : (d.heldBoth l since cause).limitedUnits = true := by
  obtain ⟨hunits, -, -⟩ := c.limitedUnits_iff.mp hlim
  refine (Chip.limitedUnits_iff _).mpr ⟨?_, ⟨Bool.or_true _, Bool.or_true _⟩, .inl hlc⟩
  rw [← h.survivalUnits, ← h.terraceLeft, Chip.getB, Chip.getB, ← h.getF (by simp), ← h.getF (by simp), ← h.boot] at hunits
  exact hunits

theorem Standing.fullUnits {c d : Chip} (h : Standing c d) (hlc : d.lifecycle = lcField) (l : List (Nat × Nat)) (since cause : Nat)
    (hfull : c.fullUnits = true) : (d.heldBoth l since cause).fullUnits = true := by
  unfold Chip.fullUnits at hfull ⊢
  simp only [Bool.and_eq_true, and_assoc] at hfull ⊢
  obtain ⟨hlim, hunits⟩ := hfull
  refine ⟨h.limitedUnits hlc l since cause hlim, ?_⟩
  rw [← h.portsOk, Chip.getB, Chip.getB, ← h.getF (by simp), ← h.getF (by simp), ← h.getF (r := STORE_STATUS) (by simp), ← h.outcome,
    ← h.boot] at hunits
  exact hunits

theorem Chip.supported_le_full (c : Chip) : c.supported ≤ lvFull := by
  unfold Chip.supported
  repeat' split
  all_goals decide

/-- A part that supports Limited service has its units. -/
theorem Chip.limitedUnits_of_supported (c : Chip) (h : lvLimited ≤ c.supported) : c.limitedUnits = true := by
  by_contra hno
  rw [Bool.not_eq_true] at hno
  have hlow : c.supported ≤ lvSurvival := by
    unfold Chip.supported
    simp only [hno, Bool.not_false, if_true]
    repeat' split
    all_goals decide
  exact absurd (h.trans hlow) (by decide)

theorem Chip.supported_full (c : Chip) (hfull : c.fullUnits = true) : c.supported = lvFull := by
  have hlim : c.limitedUnits = true := by
    unfold Chip.fullUnits at hfull
    simp only [Bool.and_eq_true, and_assoc] at hfull
    exact hfull.1
  obtain ⟨⟨hsur, -⟩, -⟩ := c.limitedUnits_iff.mp hlim
  have hfb : c.firebreakUnits = true := by
    unfold Chip.survivalUnits at hsur
    simp only [Bool.and_eq_true, and_assoc] at hsur
    exact hsur.1
  unfold Chip.supported
  simp only [hfb, hsur, hlim, hfull, Bool.not_true, Bool.false_eq_true, if_false]

/-- Units of Limited service, and of Full service where it had them, support the tier that was supported. -/
theorem Chip.supported_le {c d : Chip} (hlvl : lvLimited ≤ c.supported) (hlim : c.limitedUnits = true → d.limitedUnits = true)
    (hfull : c.fullUnits = true → d.fullUnits = true) : c.supported ≤ d.supported := by
  have hlow := c.limitedUnits_of_supported hlvl
  cases hd : d.fullUnits with
  | true => exact d.supported_full hd ▸ c.supported_le_full
  | false =>
    have hc : c.fullUnits = false := Bool.eq_false_iff.mpr fun h => by simp [hfull h] at hd
    rw [d.supported_limited (hlim hlow) hd, c.supported_limited hlow hc]

/-! ## The restart -/

theorem Noise.showSlots (c : Chip) (e : Nat) : Noise c (c.showSlots e) := ⟨Quiet.showSlots c e, HostKept.showSlots c e⟩

theorem Noise.eachOf {α : Type} (c : Chip) (l : List α) (f : Chip → α → Chip) (hf : ∀ c a, Noise c (f c a)) : Noise c (c.eachOf l f) :=
  ⟨Quiet.eachOf c l f fun c a => (hf c a).quiet, HostKept.eachOf c l f fun c a => (hf c a).host⟩

/-- `d` has the lifecycle and the JTAG clock of `c`, and all that stands. -/
structure Restarting (c d : Chip) : Prop where
  standing : Standing c d
  lifecycle : d.lifecycle = c.lifecycle
  jtag : d.sec.jtag = c.sec.jtag

namespace Restarting

theorem trans {a b c : Chip} (h : Restarting a b) (k : Restarting b c) : Restarting a c :=
  ⟨h.standing.trans k.standing, k.lifecycle.trans h.lifecycle, k.jtag.trans h.jtag⟩

theorem of_quiet {c d : Chip} (h : Quiet c d) (hlink : d.host.ethLink = c.host.ethLink) : Restarting c d :=
  ⟨.of_quiet h hlink, h.lifecycle, by rw [h.sec]⟩

theorem of_noise {c d : Chip} (h : Noise c d) : Restarting c d := of_quiet h.quiet h.host.link

theorem upd_aon (c : Chip) (fs : List (Fld × Nat)) (ht : ∀ p ∈ fs, AON_STATUS.TIER.apart p.1)
    (ho : ∀ p ∈ fs, AON_STATUS.FW_OUTCOME.apart p.1) : Restarting c (c.upd AON_STATUS 0 fs) :=
  ⟨.upd_aon c fs ht ho, Chip.getF_upd_ne _ _ _ _ _ _ _ (recKey_ne_of_id (by decide) _ _), by rw [Chip.upd_sec]⟩

theorem inFlightDown (c : Chip) : Restarting c c.inFlightDown := by
  unfold Chip.inFlightDown
  refine ((of_quiet (Quiet.of_host c { c.host with waits := [], frags := [] }) rfl).trans (of_noise (Noise.eachOf _ _ _ fun c w => ?_))).trans
    (of_noise (Noise.eachOf _ _ _ fun c f => ?_))
  · exact (Noise.showSlots _ _).trans (Noise.reply _ _ _ _ _)
  · exact (Noise.showSlots _ _).trans (Noise.reply _ _ _ _ _)

theorem hostDown (c : Chip) : Restarting c c.hostDown := by
  unfold Chip.hostDown Chip.closeSessions
  refine (of_quiet (Quiet.eachOf c _ _ Quiet.closeSession) ?_).trans ⟨.of_recs rfl rfl rfl rfl, rfl, rfl⟩
  exact Chip.eachOf_keeps (fun c => c.host.ethLink) c _ _ Chip.closeSession_ethLink

theorem unitsDown (c : Chip) : Restarting c { c with boot.keeper := false, boot.gatehouse := false } := ⟨.of_recs rfl rfl rfl rfl, rfl, rfl⟩

end Restarting

/-- The Keeper and the Gatehouse go down: what is in flight ends, and the sessions close. -/
def Chip.bothDown (c : Chip) : Chip :=
  (Chip.setCause { c.inFlightDown.hostDown with boot.keeper := false, boot.gatehouse := false } 9).incSat AON_STATUS 0
    AON_STATUS.KEEPER_RESTART_CNT AON_STATUS.SAT 1

theorem Chip.unlockStop_eq (c : Chip) : c.unlockStop = c.endUnlock.bothDown.startHold 2 2 := rfl

theorem Restarting.bothDown (c : Chip) : Restarting c c.bothDown := by
  unfold Chip.bothDown Chip.setCause Chip.incSat
  refine (((inFlightDown c).trans (hostDown _)).trans (unitsDown _)).trans ((upd_aon _ _ ?_ ?_).trans (upd_aon _ _ ?_ ?_))
  all_goals exact apart_of_two (by decide)

/-- The unlock's end shows the lifecycle FIELD and stops the JTAG clock (R119). -/
theorem Chip.endUnlock_ends (c : Chip) (h : c.lifecycle = lcUnlocked) :
    Standing c c.endUnlock ∧ c.endUnlock.lifecycle = lcField ∧ c.endUnlock.sec.jtag = false := by
  unfold Chip.endUnlock
  rw [if_neg (not_not.mpr h)]
  dsimp only
  generalize hd : ({ c with sec.jtag := false, sec.unlockEnd := none } : Chip) = d
  have hstand : Standing c d := hd ▸ .of_recs rfl rfl rfl rfl
  have hjtag : d.sec.jtag = false := hd ▸ rfl
  refine ⟨(hstand.trans (.upd_security _ _)).trans (.of_noise (Noise.raise _ _ _ _ _ _)), ?_, ?_⟩
  · rw [(Quiet.raise _ _ _ _ _ _).lifecycle]
    exact Chip.getF_upd_two_fst _ _ _ _ _ _ _ (by decide)
  · rw [(Quiet.raise _ _ _ _ _ _).sec, Chip.upd_sec, hjtag]

/-- A restart of both units, the first in 10 min, holds the tier. -/
theorem Chip.startHold_both {c d : Chip} (h : Standing c d) (hlc : d.lifecycle = lcField) (hrecent : c.recentRestarts = [])
    (hlim : lvLimited ≤ c.level) (hsup : c.level ≤ c.supported) (cause : Nat) :
    (d.startHold 2 cause).lifecycle = lcField ∧ (d.startHold 2 cause).sec = d.sec ∧
      (d.startHold 2 cause).boot.hold = some ⟨2, d.up, cause⟩ ∧ (d.startHold 2 cause).level = c.level := by
  have hhold : (!!d.recentRestarts.isEmpty && decide (lvLimited ≤ d.level)) = true := by
    rw [h.recentRestarts, hrecent, h.level, decide_eq_true hlim]
    rfl
  set l := d.recentRestarts ++ [(2, d.up)] with hl
  set m := (d.heldBoth l d.up cause).upd AON_STATUS 0 [(AON_STATUS.TIER_HOLD, 1)] with hm
  have hunits : SameUnits (d.heldBoth l d.up cause) m := .upd_aon _ _ (apart_of_one (by decide)) (apart_of_one (by decide))
  have hlvl : m.level = c.level := hunits.level.trans h.level
  have hports : m.portsOk = (d.heldBoth l d.up cause).portsOk :=
    (Standing.upd_aon _ _ (apart_of_one (by decide)) (apart_of_one (by decide))).portsOk
  have hfit : m.level ≤ m.supported := by
    rw [hlvl, hunits.supported hports]
    exact hsup.trans (Chip.supported_le (hlim.trans hsup) (h.limitedUnits hlc l d.up cause) (h.fullUnits hlc l d.up cause))
  have hstart : d.startHold 2 cause = m := by
    unfold Chip.startHold
    dsimp only
    rw [show (!!d.recentRestarts.isEmpty && decide (lvLimited ≤ Chip.level { d with boot.restarts := l })) = true from hhold, if_pos rfl,
      if_pos rfl]
    exact m.fallCheck_supported _ hfit
  rw [hstart, hm, Chip.upd_sec, Chip.upd_boot, ← hm]
  exact ⟨(Chip.getF_upd_ne _ _ _ _ _ _ _ (recKey_ne_of_id (by decide) _ _)).trans hlc, rfl, rfl, hlvl⟩

/-- The Gatehouse and the Keeper restart as the unlock ends (R119): the lifecycle is FIELD, no JTAG clock runs, and the tier is held. -/
theorem Chip.unlockStop_ends (c : Chip) (hlc : c.lifecycle = lcUnlocked) (hrecent : c.recentRestarts = []) (hsup : c.level ≤ c.supported)
    (hlim : lvLimited ≤ c.level) :
    c.unlockStop.lifecycle = lcField ∧ c.unlockStop.sec.jtag = false ∧ c.unlockStop.boot.hold = some ⟨2, c.up, 2⟩ ∧
      c.unlockStop.level = c.level := by
  obtain ⟨hstand, hfield, hjtag⟩ := c.endUnlock_ends hlc
  rw [c.unlockStop_eq]
  have hrestart := Restarting.bothDown c.endUnlock
  generalize c.endUnlock.bothDown = d at hrestart ⊢
  have hd := hstand.trans hrestart.standing
  obtain ⟨hlife, hsec, hhold, hlvl⟩ := Chip.startHold_both hd (hrestart.lifecycle.trans hfield) hrecent hlim hsup 2
  refine ⟨hlife, ?_, ?_, hlvl⟩
  · rw [hsec, hrestart.jtag, hjtag]
  · rw [hhold, Chip.up, hd.time, ← Chip.up]

/-! ## The two ways in which it ends -/

theorem State.settle_hold (s : State) : s.settle.chip.boot.hold = s.chip.boot.hold := congrArg Boot.hold (State.settle_lines s).boot

/-- What is to be seen once an unlock in operation has ended: FIELD without JTAG, under a tier hold. -/
def UnlockEnded (c d : Chip) : Prop :=
  d.lifecycle = lcField ∧ d.sec.jtag = false ∧ d.boot.hold = some ⟨2, c.up, 2⟩ ∧ d.level = c.level

theorem UnlockEnded.settle {c d : Chip} (s : State) (h : UnlockEnded c d) : UnlockEnded c (State.settle { s with chip := d }).chip := by
  obtain ⟨hlc, hjtag, hhold, hlvl⟩ := h
  have hend := Ended.of_settle { s with chip := d }
  exact ⟨(hend.shown.getF _ _ _ (by decide)).trans hlc, (congrArg Sec.jtag hend.sec).trans hjtag, (State.settle_hold _).trans hhold,
    hend.shown.level.trans hlvl⟩

/-- What the end of an unlock in operation meets when it may hold the tier (R35): no restart of late, and every unit of the tier at work. -/
structure Holdable (c : Chip) : Prop where
  lifecycle : c.lifecycle = lcUnlocked
  recent : c.recentRestarts = []
  supported : c.level ≤ c.supported
  limited : lvLimited ≤ c.level

theorem Holdable.of_noise {c d : Chip} (h : Holdable c) (hd : Noise c d) : Holdable d := by
  have hstand := Standing.of_noise hd
  refine ⟨hd.quiet.lifecycle.trans h.lifecycle, hstand.recentRestarts.trans h.recent, ?_, hstand.level ▸ h.limited⟩
  rw [hstand.level, (SameUnits.of_quiet hd.quiet).supported hstand.portsOk]
  exact h.supported

theorem Holdable.unlockStop {c : Chip} (h : Holdable c) : UnlockEnded c c.unlockStop :=
  c.unlockStop_ends h.lifecycle h.recent h.supported h.limited

theorem debugLock_completes {s : State} {h : Hdr} {x : Ctx} (hs : Served s h debugLockSpec x) (hhold : Holdable s.chip) :
    Completes (.debugLock h) s fun t => UnlockEnded s.chip t.chip := by
  refine hs.completes_post (exec_debugLock ..) fun d e hd _ he => ?_
  have hlc : d.lifecycle = lcUnlocked := hd.quiet.lifecycle.trans hhold.lifecycle
  rw [checks_pass _ _ _ (by simp [hlc])] at he ⊢
  have hnoise : Noise s.chip e := hd.trans he
  have hend := (hhold.of_noise hnoise).unlockStop.settle s
  rw [UnlockEnded, hnoise.quiet.up, hnoise.quiet.level] at hend
  exact hend

theorem unlockEnd_completes (s : State) (hhold : Holdable s.chip)
    (hdue : s.chip.secF SECURITY_STATUS.UNLOCK_EXPIRY ≤ s.chip.now ∨ s.chip.serviceEn = false) :
    Completes .unlockEnd s fun t => UnlockEnded s.chip t.chip := by
  have hrow : s.chip.unlockEndRow = s.chip.unlockStop := if_pos ⟨hhold.lifecycle, by simpa using hdue⟩
  exact Completes.of_settled (exec_unlockEnd ..) hrow (hhold.unlockStop.settle s)

end Sys2Proof.Machine
end

section
/-!
SUPPORT. What `AON_STATUS` shows of the tier and of the last reset, which the wiping of a plot and the erasure of the shadow store leave
alone, and the end of a chip reset (R506).
-/

namespace Sys2Proof.Machine

/-! ## The tier and the last reset -/

/-- `d` shows the tier and the last reset cause of `c`. -/
structure AonKept (c d : Chip) : Prop where
  below : d.boot.below = c.boot.below
  aon : ∀ f ∈ [AON_STATUS.TIER, AON_STATUS.LAST_RESET_CAUSE], d.getF AON_STATUS 0 f = c.getF AON_STATUS 0 f

namespace AonKept

theorem refl (c : Chip) : AonKept c c := ⟨rfl, fun _ _ => rfl⟩

theorem trans {a b c : Chip} (h : AonKept a b) (k : AonKept b c) : AonKept a c :=
  ⟨k.below.trans h.below, fun f hf => (k.aon f hf).trans (h.aon f hf)⟩

theorem ite {c a b : Chip} (p : Prop) [Decidable p] (ha : AonKept c a) (hb : AonKept c b) : AonKept c (if p then a else b) := by
  split
  · exact ha
  · exact hb

theorem eachOf {α : Type} (c : Chip) (l : List α) (f : Chip → α → Chip) (hf : ∀ c a, AonKept c (f c a)) : AonKept c (c.eachOf l f) :=
  Chip.eachOf_preserves (AonKept c) (fun d a hd => hd.trans (hf d a)) l (refl c)

theorem each (c : Chip) (n : Nat) (f : Chip → Nat → Chip) (hf : ∀ c k, AonKept c (f c k)) : AonKept c (c.each n f) :=
  eachOf c (List.range n) f hf

theorem level {c d : Chip} (h : AonKept c d) : d.level = c.level := by
  unfold Chip.level
  rw [h.below, h.aon _ List.mem_cons_self]

theorem resetCause {c d : Chip} (h : AonKept c d) :
    d.getF AON_STATUS 0 AON_STATUS.LAST_RESET_CAUSE = c.getF AON_STATUS 0 AON_STATUS.LAST_RESET_CAUSE := h.aon _ (by simp)

theorem of_quiet {c d : Chip} (h : Quiet c d) : AonKept c d where
  below := by rw [← h.boot]
  aon f hf := h.aon f ((by decide : ∀ f ∈ [AON_STATUS.TIER, AON_STATUS.LAST_RESET_CAUSE], f.apart AON_STATUS.EARLY_LOST) f hf)

/-- A change beside the records. -/
theorem of_recs {c d : Chip} (hrecs : d.recs = c.recs) (hbelow : d.boot.below = c.boot.below) : AonKept c d :=
  ⟨hbelow, fun f _ => congrArg f.get (Chip.img_congr hrecs _ _)⟩

theorem setImg (c : Chip) (r : RecDesc) (i v : Nat) (hr : r.id % 0x10000 ≠ AON_STATUS.id % 0x10000) : AonKept c (c.setImg r i v) where
  below := by rw [(Chip.setImg_rest c r i v).boot]
  aon f _ := by rw [Chip.getF, Chip.img_setImg_ne _ _ _ _ _ _ (recKey_ne_of_id hr _ _), Chip.getF]

theorem upd (c : Chip) (r : RecDesc) (i : Nat) (fs : List (Fld × Nat)) (hr : r.id % 0x10000 ≠ AON_STATUS.id % 0x10000) :
    AonKept c (c.upd r i fs) := setImg c r i _ hr

theorem clearRec (c : Chip) (r : RecDesc) (i : Nat) (hr : r.id % 0x10000 ≠ AON_STATUS.id % 0x10000) : AonKept c (c.clearRec r i) :=
  setImg c r i _ hr

theorem upd_aon (c : Chip) (fs : List (Fld × Nat))
    (h : ∀ f ∈ [AON_STATUS.TIER, AON_STATUS.LAST_RESET_CAUSE], ∀ p ∈ fs, f.apart p.1) : AonKept c (c.upd AON_STATUS 0 fs) where
  below := by rw [Chip.upd_boot]
  aon f hf := Chip.getF_upd_apart _ _ _ _ _ (h f hf)

theorem putCause (c : Chip) (k : Nat) (b : Bool) : AonKept c (c.putCause k b) := by
  have hcause : ∀ f ∈ [AON_STATUS.TIER, AON_STATUS.LAST_RESET_CAUSE], f.apart AON_STATUS.LIVE ∧ f.apart AON_STATUS.LATCH := by decide
  unfold Chip.putCause
  split
  · exact upd_aon c _ fun f hf => apart_of_two (hcause f hf)
  · exact upd_aon c _ fun f hf => apart_of_one (hcause f hf).1

/-! ### Zones of a plot -/

theorem modZrt (c : Chip) (z : Nat) (f : ZoneRt → ZoneRt) : AonKept c (c.modZrt z f) := of_recs rfl rfl

theorem modModel (c : Chip) (z : Nat) (f : Model → Model) : AonKept c (c.modModel z f) := modZrt c z _

theorem setLane (c : Chip) (e : Nat) (x : Lane) : AonKept c (c.setLane e x) := of_recs rfl rfl

theorem modLink (c : Chip) (z : Nat) (f : Link → Link) : AonKept c (c.modLink z f) := by
  unfold Chip.modLink
  exact (modZrt c z _).trans (each _ _ _ fun c k => ite _ (setLane c _ _) (refl c))

theorem unload (c : Chip) (z : Nat) : AonKept c (c.unload z) := by
  unfold Chip.unload
  exact each _ _ _ fun c k => ite _ (setLane c _ _) (refl c)

theorem latchFallback (c : Chip) (z : Nat) : AonKept c (c.latchFallback z) := modZrt c z _

theorem endTest (c : Chip) (z cause : Nat) : AonKept c (c.endTest z cause) := by
  unfold Chip.endTest
  dsimp only
  split
  · exact modModel c z _
  · exact ((((modModel c z _).trans (modModel _ z _)).trans (modLink _ z _)).trans (upd _ _ _ _ (by decide))).trans
      (of_quiet (Quiet.raiseZone _ _ _ _ _ _))

theorem displace (c : Chip) (z : Nat) : AonKept c (c.displace z) := by
  unfold Chip.displace Chip.leaveRunning
  exact ite _ ((((unload c z).trans (upd _ _ _ _ (by decide))).trans (latchFallback _ z)).trans (endTest _ z 4)) (refl c)

theorem undisplace (c : Chip) (z : Nat) : AonKept c (c.undisplace z) := by
  unfold Chip.undisplace
  exact ite _ (upd c _ _ _ (by decide)) (refl c)

theorem setMState (c : Chip) (z new owner : Nat) : AonKept c (c.setMState z new owner) := by
  unfold Chip.setMState
  dsimp only
  split
  · exact refl c
  · refine trans ?_ (ite _ (of_quiet (Quiet.raiseMasked _ _ _ _ _ _ _)) (refl _))
    refine trans ?_ (of_quiet (Quiet.raiseMasked _ _ _ _ _ _ _))
    exact trans (trans (modLink c z _) (modModel _ z _)) (upd _ _ _ _ (by decide))

theorem wipePrivate (c : Chip) (z owner : Nat) : AonKept c (c.wipePrivate z owner) := by
  unfold Chip.wipePrivate
  have hclear : ∀ {b : Chip} {r : RecDesc}, r.id % 0x10000 ≠ AON_STATUS.id % 0x10000 → AonKept c b → AonKept c (b.clearRec r z) :=
    fun hr h => h.trans (clearRec _ _ z hr)
  have hround : ∀ d : Chip, AonKept d (d.dropRound z) := fun d => of_recs rfl rfl
  have hestimate : ∀ d : Chip, AonKept d (d.resetEstimate z) := fun d =>
    ((modModel d z _).trans (modLink _ z _)).trans (upd _ _ _ _ (by decide))
  have hblock : ∀ d : Chip, AonKept d (d.clearBlock z) := fun d => (modModel d z _).trans (upd _ _ _ _ (by decide))
  refine trans (trans ?_ (modZrt _ z _)) (modLink _ z _)
  iterate 7 refine hclear (by decide) ?_
  refine trans (trans (trans (trans ?_ (hround _)) (setMState _ z 0 owner)) (hestimate _)) (hblock _)
  exact hclear (by decide) (hclear (by decide) (endTest c z 4))

/-! ### A plot evicted -/

theorem of_meter (c : Chip) (x : Metering) : AonKept c { c with meter := x } := of_recs rfl rfl

theorem of_zones (c : Chip) (x : Zones) : AonKept c { c with zones := x } := of_recs rfl rfl

theorem of_sec (c : Chip) (x : Sec) : AonKept c { c with sec := x } := of_recs rfl rfl

theorem evictStatement (c : Chip) (p : Nat) : AonKept c (c.evictStatement p) := by
  unfold Chip.evictStatement Chip.formStatement
  exact trans (trans (trans (trans (setImg c _ _ _ (by decide)) (of_meter _ _)) (upd _ _ _ _ (by decide))) (upd _ _ _ _ (by decide)))
    (of_quiet (Quiet.raise _ _ _ _ _ _))

theorem bundleForget (c : Chip) (gone : Nat → Bool) : AonKept c (c.bundleForget gone) := of_recs rfl rfl

theorem bundleWrite (c : Chip) : AonKept c (c.bundleWrite false) := by
  have hcopy : ∀ x y : Bundle, ∀ d : Chip, d = (if c.bundleNewerB then { c with boot.bundleA := x } else { c with boot.bundleB := y }) →
      AonKept c { d with boot.bundleDirty := none, boot.bundleBroken := false } := by
    rintro x y d rfl
    split
    · exact of_recs rfl rfl
    · exact of_recs rfl rfl
  unfold Chip.bundleWrite
  dsimp only
  rw [if_neg (by decide)]
  exact (hcopy _ _ _ rfl).trans (upd _ _ _ _ (by decide))

theorem setPlotSecret (c : Chip) (p : Nat) (x : PlotSecret) : AonKept c (c.setPlotSecret p x) := of_recs rfl rfl

theorem evictBegin (c : Chip) (p : Nat) : AonKept c (c.evictBegin p) := by
  have hdraw : AonKept c (c.draw 32).2 := of_recs rfl rfl
  exact (hdraw.trans (setPlotSecret _ p _)).trans (upd _ _ _ _ (by decide))

theorem evictWipe (c : Chip) (p : Nat) : AonKept c (c.evictWipe p) := by
  unfold Chip.evictWipe Chip.closeSessions
  refine trans ?_ (setPlotSecret _ p _)
  refine trans (trans (trans (trans (trans ?_ (upd _ _ _ _ (by decide))) (of_meter _ _)) (of_zones _ _)) (bundleForget _ _)) (bundleWrite _)
  refine trans (trans ?_ (eachOf _ _ _ fun c z => ?_)) (clearRec _ _ _ (by decide))
  · refine trans (trans (of_quiet (Quiet.eachOf c _ _ Quiet.closeSession)) (eachOf _ _ _ fun c z => ?_)) (evictStatement _ p)
    exact ((displace c z).trans (unload _ z)).trans (latchFallback _ z)
  · exact (((wipePrivate c z p).trans (upd _ _ _ _ (by decide))).trans (clearRec _ _ z (by decide))).trans (upd _ _ _ _ (by decide))

theorem evictFinish (c : Chip) (p : Nat) (handle : Option Nat) : AonKept c (c.evictFinish p handle) := by
  unfold Chip.evictFinish Chip.evictEnd
  have hwipe : AonKept c (if (c.plotSecret p).wiped then c else c.evictWipe p) := ite _ (refl c) (evictWipe c p)
  refine hwipe.trans ?_
  refine trans (trans (trans ?_ (eachOf _ _ _ undisplace)) (of_quiet (Quiet.finish _ _ _ _))) (of_quiet (Quiet.raise _ _ _ _ _ _))
  exact (setPlotSecret _ p _).trans (upd _ _ _ _ (by decide))

theorem evictAll (c : Chip) : AonKept c c.evictAll := by
  unfold Chip.evictAll
  refine eachOf _ _ _ fun c p => trans ?_ (evictFinish _ p _)
  refine (of_sec c { c.sec with evicting := c.sec.evicting.filter (fun y => y.plot != p) }).trans ?_
  exact ite _ (refl _) (evictBegin _ p)

/-! ### The store erased -/

/-- A stored image put back into another record. -/
theorem restoreRec (c : Chip) (key img : Nat) (hkey : key ≠ recKey AON_STATUS 0) : AonKept c (c.restoreRec key img) := by
  have himg : (c.restoreRec key img).img AON_STATUS 0 = c.img AON_STATUS 0 := by
    unfold Chip.restoreRec
    split
    · rfl
    · exact Tab.get_set_ne _ _ _ _ hkey
  refine ⟨?_, fun f _ => congrArg f.get himg⟩
  unfold Chip.restoreRec
  split
  · rfl
  · rfl

theorem restoreRecs (c : Chip) (recs : List (Nat × Nat)) (p : Nat → Bool) (hp : p (recKey AON_STATUS 0) = false) :
    AonKept c (c.restoreRecs recs p) := by
  unfold Chip.restoreRecs Chip.eachOf
  refine List.foldlRecOn _ _ (refl c) fun d hd key hkey => hd.trans (restoreRec d key _ ?_)
  rintro rfl
  rw [(List.mem_filter.mp hkey).2] at hp
  cases hp

theorem setStstate (c : Chip) (st : Nat) : AonKept c (c.setStstate st) := (upd c _ _ _ (by decide)).trans (putCause _ _ _)

theorem eraseAll (c : Chip) : AonKept c c.eraseAll := by
  have hops : ∀ (d : Chip) (o : MemOp), AonKept d (d.memOp o) := fun _ _ => of_recs rfl rfl
  have hareas : ∀ (d : Chip) (st : Store) (a b : Bundle) (z : Zones) (x : Sec),
      AonKept d { d with store := st, boot.bundleA := a, boot.bundleB := b, boot.policy := none, zones := z, sec := x, meter := {} } :=
    fun _ _ _ _ _ _ => of_recs rfl rfl
  unfold Chip.eraseAll
  refine trans (trans (trans ?_ (hareas _ _ _ _ _ _)) (restoreRecs _ _ _ (by decide +kernel))) (setStstate _ _)
  refine trans (trans ?_ (clearRec _ _ _ (by decide))) (clearRec _ _ _ (by decide))
  exact ((hops c _).trans (hops _ _)).trans (hops _ _)

end AonKept

/-! ## The end of a chip reset -/

/-- What a chip reset shows and reports once its units are reset (R506, R512). -/
def Chip.resetEnd (c : Chip) (cause : Nat) (core : Bool) (old : Level) : Chip :=
  let c := c.incSat AON_STATUS 0 AON_STATUS.CHIP_RESET_CNT AON_STATUS.SAT 0
  let c := c.upd AON_STATUS 0 [(AON_STATUS.LAST_RESET, c.now), (AON_STATUS.LAST_RESET_CAUSE, 2 ^ cause),
    (AON_STATUS.LATCH, setBit (c.getF AON_STATUS 0 AON_STATUS.LATCH) cause),
    (AON_STATUS.BOOT_STEP, min (c.getF AON_STATUS 0 AON_STATUS.BOOT_STEP) (if core then 5 else 4))]
  let c := c.logEntry (2 ^ cause) old (min old lvSurvival)
  (if min old lvSurvival < old then c.setTier (min old lvSurvival) (2 ^ cause) else c).judgeAuto

theorem Chip.chipReset_end (c : Chip) (cause : Nat) (core : Bool) : ∃ d : Chip, c.chipReset cause core = d.resetEnd cause core c.level :=
  ⟨_, rfl⟩

theorem AonKept.logEntry (c : Chip) (cause old new : Nat) : AonKept c (c.logEntry cause old new) := by
  have hseq : ∀ (d : Chip) (n : Nat), AonKept d { d with boot.logSeq := n } := fun _ _ => of_recs rfl rfl
  unfold Chip.logEntry
  exact ((each c _ _ fun c k => setImg c _ _ _ (by decide)).trans (hseq _ _)).trans (setImg _ _ _ _ (by decide))

theorem AonKept.judgeAuto (c : Chip) : AonKept c c.judgeAuto := by
  unfold Chip.judgeAuto
  have hgroups : AonKept c (Chip.each { c with act.fanAuto := c.autoCauses } 16
      (fun d g => d.upd FAN_GROUP_STATUS g [(FAN_GROUP_STATUS.AUTO_CAUSE, c.autoCauses)])) :=
    trans (b := { c with act.fanAuto := c.autoCauses }) (of_recs rfl rfl) (each _ _ _ fun d g => upd d _ _ _ (by decide))
  exact ite _ (refl c) (ite _ hgroups (hgroups.trans (of_quiet (Quiet.raise _ _ _ _ _ _))))

/-- The tier set is the one shown. -/
theorem Chip.setTier_level (c : Chip) (new causes : Nat) (h1 : 1 ≤ new) (h4 : new ≤ 4) : (c.setTier new causes).level = new := by
  have hset : ∀ d : Chip, d.boot.below = false → (d.upd AON_STATUS 0 [(AON_STATUS.TIER, tierCode new)]).level = new := fun d hd => by
    have hcode : (new - 1) % 2 ^ AON_STATUS.TIER.width + 1 = new := by
      simp only [AON_STATUS.TIER]
      omega
    rw [Chip.level, Chip.upd_boot, hd, Chip.getF_upd_one]
    exact hcode
  have hbelow : (new == lvNone) = false := beq_false_of_ne (Nat.one_le_iff_ne_zero.mp h1)
  unfold Chip.setTier
  dsimp only
  split
  · exact hset _ hbelow
  · rw [(Quiet.raiseWith _ _).level]
    exact hset _ hbelow

theorem Chip.setTier_resetCause (c : Chip) (new causes : Nat) :
    (c.setTier new causes).getF AON_STATUS 0 AON_STATUS.LAST_RESET_CAUSE = c.getF AON_STATUS 0 AON_STATUS.LAST_RESET_CAUSE := by
  have hset : ∀ b, (Chip.upd { c with boot.below := b } AON_STATUS 0 [(AON_STATUS.TIER, tierCode new)]).getF AON_STATUS 0
      AON_STATUS.LAST_RESET_CAUSE = c.getF AON_STATUS 0 AON_STATUS.LAST_RESET_CAUSE := fun b =>
    Chip.getF_upd_apart _ _ _ _ _ (apart_of_one (by decide))
  unfold Chip.setTier
  dsimp only
  split
  · exact hset _
  · rw [(Quiet.raiseWith _ _).aon _ (by decide)]
    exact hset _

/-- A chip reset records its cause and leaves at most Survival service. -/
theorem Chip.resetEnd_shows (c : Chip) (cause : Nat) (core : Bool) (old : Level) (hcause : cause < 32) (hold : lvSurvival < old) :
    (c.resetEnd cause core old).getF AON_STATUS 0 AON_STATUS.LAST_RESET_CAUSE = 2 ^ cause ∧ (c.resetEnd cause core old).level = lvSurvival := by
  have hmin : min old lvSurvival = lvSurvival := min_eq_right hold.le
  unfold Chip.resetEnd
  dsimp only
  rw [hmin, if_pos hold, (AonKept.judgeAuto _).resetCause, (AonKept.judgeAuto _).level, Chip.setTier_resetCause,
    Chip.setTier_level _ _ _ (by decide) (by decide), (AonKept.logEntry _ _ _ _).resetCause]
  refine ⟨?_, rfl⟩
  refine (Chip.getF_upd_append _ _ _ _ _ [_] _ (apart_of_two (by decide))).trans (Nat.mod_eq_of_lt ?_)
  exact Nat.pow_lt_pow_right (by decide) hcause

end Sys2Proof.Machine
end

section
/-!
PROOF. Decommissioning (R120, R506), and the obligation on the lifecycle's commands.
-/

namespace Sys2Proof.Machine

/-- A command is served in Limited service or above (R36). -/
theorem Served.limited {s : State} {h : Hdr} {sp : CmdSpec} {x : Ctx} (hs : Served s h sp x) : lvLimited ≤ s.chip.level := by
  obtain ⟨d, b, hg⟩ := hs
  have hup : s.chip.listening h.ep = true := by
    by_contra hdown
    rw [Chip.ingress, if_pos (by simpa using hdown)] at hg
    cases hg
  unfold Chip.listening at hup
  simp only [Bool.and_eq_true, decide_eq_true_eq] at hup
  tauto

/-- What `DECOMMISSION` erases and shows before the chip reset (R120). -/
def Chip.erased (c : Chip) : Chip := Chip.setLifecycle { c.evictAll.eraseAll with sec.identityBurned := true } lcDecommissioned

theorem AonKept.erased (c : Chip) : AonKept c c.erased := by
  unfold Chip.erased Chip.setLifecycle
  refine trans (trans (trans ((evictAll c).trans (eraseAll _)) ?_) (upd _ _ _ _ (by decide))) (of_quiet (Quiet.raise _ _ _ _ _ _))
  exact of_sec _ _

theorem decommission_completes {s : State} {h : Hdr} {x : Ctx} (hs : Served s h (debugSpec 0x0105 16) x) (hen : s.chip.serviceEn = true)
    (hkey : s.chip.safeKey = true) (hrsv : h.prsv = 0) :
    Completes (.decommission h s.chip.sec.serial 0xDEC00515) s fun t =>
      t.chip.getF AON_STATUS 0 AON_STATUS.LAST_RESET_CAUSE = 2 ^ 20 ∧ t.chip.level ≤ lvSurvival := by
  refine hs.completes_post (exec_decommission ..) fun d e hd _ he => ?_
  have hpins : (d.serviceEn && d.safeKey) = true := by rw [hd.quiet.serviceEn, hd.quiet.safeKey, hen, hkey]; rfl
  rw [checks_pass _ _ _ (by simp [hpins, hrsv, hd.quiet.sec])] at he ⊢
  have hlvl : lvSurvival < e.erased.level := by
    rw [(AonKept.erased e).level, he.quiet.level, hd.quiet.level]
    exact hs.limited
  obtain ⟨y, hy⟩ := e.erased.chipReset_end 20 true
  obtain ⟨hcause, hend⟩ := y.resetEnd_shows 20 true _ (by decide) hlvl
  rw [← hy] at hcause hend
  have hsettle : ∀ z : Chip, z.getF AON_STATUS 0 AON_STATUS.LAST_RESET_CAUSE = 2 ^ 20 → z.level = lvSurvival →
      (State.settle { s with chip := z }).chip.getF AON_STATUS 0 AON_STATUS.LAST_RESET_CAUSE = 2 ^ 20 ∧
        (State.settle { s with chip := z }).chip.level ≤ lvSurvival := fun z hz hl =>
    ⟨((State.settle_lines { s with chip := z }).aon _ (by decide)).trans hz, ((Ended.of_settle { s with chip := z }).shown.level.trans hl).le⟩
  exact hsettle (e.erased.chipReset 20 true) hcause hend

/-- Settles O20: an unlock's end leaves every unit of the tier at work but the two that the hold stands in for, and what a decommissioning
erases leaves the tier from which the chip reset falls. That this reset is recorded with cause bit 20 is the model's choice (log entry 84). -/
theorem lifecycleCommandsAct : Obligations.LifecycleCommandsAct := by
  unfold Obligations.LifecycleCommandsAct
  exact ⟨servicePinChange_completes, fun s h x hs hen hkey => debugChallenge_completes hs hen hkey,
    fun s h x challenge minutes keyId sig at_ k hs hen hkey hid hch hlive hsig hmin hmax hrsv hcount hlc hop hk =>
      debugUnlock_completes hs hen hkey hid hch hlive hsig hmin hmax hrsv hcount hlc hop hk,
    debugUnlockApply_completes,
    fun s h x hs hlc hrecent hsup hlim => debugLock_completes hs ⟨hlc, hrecent, hsup, hlim⟩,
    fun s hlc hdue hrecent hsup hlim => unlockEnd_completes s ⟨hlc, hrecent, hsup, hlim⟩ hdue,
    fun s h x hs hen hkey hrsv => decommission_completes hs hen hkey hrsv⟩

end Sys2Proof.Machine
end

section
/-!
PROOF. Tick tables and programs (R136, R137, R162, R187, R190): how a load is accepted, checked and committed, what a table or a program leaves
in force, and how a program goes.
-/

namespace Sys2Proof.Machine

/-- A field apart from each of the fields that a list assigns. -/
theorem apart_of_fields {f : Fld} {fs : List (Fld × Nat)} (gs : List Fld) (hgs : fs.map Prod.fst = gs) (h : ∀ g ∈ gs, f.apart g) :
    ∀ p ∈ fs, f.apart p.1 := fun _ hp => h _ (hgs ▸ List.mem_map_of_mem hp)

/-! ## Loads of tick tables -/

/-- A load accepted for a terrace takes a handle of the calling session, and the session keeps it. -/
theorem Chip.accept_load {c d : Chip} {x : Ctx} {k : Nat} (hd : Noise c d) (hk : c.freeHandle x.si = some k) (t : Nat)
    (f : Nat → Terrace → Terrace) :
    (d.accept x (fun e k => e.modTer t (f k))).post = id ∧ (d.accept x (fun e k => e.modTer t (f k))).chip.ter t = f k (c.ter t) ∧
      ((d.accept x (fun e k => e.modTer t (f k))).chip.hnd k).owner = some x.si := by
  obtain ⟨hpost, hchip⟩ := Chip.accept_free d x (fun e k => e.modTer t (f k)) k ((hd.freeHandle x.si).trans hk)
  rw [hchip, Chip.ter_modTer_self]
  refine ⟨hpost, congrArg (f k) (hd.quiet.ter t), ?_⟩
  exact (Owned.modTer _ t _ k).trans (d.newHandle_owner x.si k)

theorem tickTableLoad_completes {s : State} {h : Hdr} {x : Ctx} {img t₀ k : Nat} (hs : Served s h tickTableLoadSpec x)
    (ht : t₀ = TICK_TABLE.TERRACE.get img) (ht₀ : t₀ < 4) (hload : (s.chip.ter t₀).load = none) (hin : s.chip.tstate t₀ = tsInService)
    (hk : s.chip.freeHandle x.si = some k) :
    Completes (.tickTableLoad h img) s fun t =>
      (t.chip.ter t₀).load = some { handle := some k, img := img, len := h.len } ∧ (t.chip.hnd k).owner = some x.si := by
  refine hs.completes (exec_tickTableLoad ..) fun d hd _ => ?_
  rw [← ht, checks_pass _ _ _ (by simp [hd.quiet.ter, hd.quiet.tstate, hload, hin]; omega)]
  obtain ⟨hpost, hter, howner⟩ := Chip.accept_load hd hk t₀ fun k y => { y with load := some { handle := some k, img := img, len := h.len } }
  exact ⟨hpost, fun t hsh => ⟨by rw [hsh.ter, hter], (hsh.owned k).trans howner⟩⟩

theorem tickTableValidated_completes (s : State) (t₀ : Nat) (l : TableLoad) (ht₀ : t₀ < 4) (hload : (s.chip.ter t₀).load = some l)
    (hnew : l.valid = false) :
    Completes (.tickTableValidated t₀) s fun t =>
      if (s.chip.tableCheck t₀ l.img l.len).1 = 0 then
        (t.chip.ter t₀).load = some { l with valid := true } ∧ t.chip.getF TERRACE_STATUS t₀ TERRACE_STATUS.LOAD_PENDING = 1
      else (t.chip.ter t₀).load = none := by
  refine Completes.of_run ((exec_tickTableValidated ..).trans (if_pos ht₀)) fun t hsh => ?_
  rw [hsh.ter, hsh.getF _ _ _ (by decide), Chip.tickTableValidated, hload]
  dsimp only
  rw [if_neg (show ¬ l.valid = true by rw [hnew]; decide)]
  by_cases hr : (s.chip.tableCheck t₀ l.img l.len).1 = 0
  · rw [if_pos hr, if_pos hr, Chip.ter_upd, Chip.ter_modTer_self, Chip.getF_upd_one]
    exact ⟨rfl, rfl⟩
  · rw [if_neg hr, if_neg hr, Chip.ter_modTer_self]

theorem tickTableCommitPoint_completes (s : State) (t₀ : Nat) (l : TableLoad) (ht₀ : t₀ < 4) (hload : (s.chip.ter t₀).load = some l)
    (hvalid : l.valid = true) :
    Completes (.tickTableCommitPoint t₀) s fun t => (t.chip.ter t₀).load = some { l with committed := true } := by
  refine Completes.of_run ((exec_tickTableCommitPoint ..).trans (if_pos ht₀)) fun t hsh => ?_
  rw [hsh.ter, Chip.tickTableCommitPoint, Chip.ter_modTer_self, hload]
  dsimp only
  rw [if_pos hvalid]

/-! ## A table active -/

/-- An unsaved change is booked beside the records. -/
theorem Chip.dirty_img (c : Chip) (r : RecDesc) (i : Nat) : c.dirty.img r i = c.img r i := by
  unfold Chip.dirty
  split <;> rfl

/-- The table taken, before the zones and the pergolas follow it (R137). -/
def Chip.tableTaken (c : Chip) (t img : Nat) : Chip :=
  ((c.setImg TICK_TABLE t img).upd TERRACE_STATUS t [(TERRACE_STATUS.TABLE_ID, TICK_TABLE.TABLE_ID.get img)]).modTer t (fun x =>
    { x with moves := x.moves.filter (fun m =>
      (((c.setImg TICK_TABLE t img).entries t).any (fun y => y.engine == m.1) && (TICK_TABLE.SPARE_MASK.get img).testBit m.2)) })

/-- What follows a table taken: the zones, the pergolas as they are shown, then the zones again. -/
theorem Chip.installTable_follows (c : Chip) (t img : Nat) :
    ∃ a, Zonal (c.tableTaken t img) a ∧ Zonal (a.showPergolas t) (c.installTable t img) := by
  unfold Chip.installTable
  refine ⟨_, Zonal.eachOf _ _ _ fun c z => ?_, (((Zonal.showEngines _ t).trans (Zonal.showUsers _ t)).trans
    (Zonal.eachOf _ _ _ fun c z => Zonal.ite _ (Zonal.displace c z) (Zonal.undisplace c z))).trans (Zonal.each _ _ _ Zonal.showIsolation)⟩
  exact Zonal.ite _ (Zonal.ite _ (Zonal.refl c) (Zonal.upd c _ _ _ (by decide)))
    (Zonal.ite _ (Zonal.upd c _ _ _ (by decide)) (Zonal.zoneUnused c z))

/-- Showing the pergolas writes `PERGOLA_STATUS` and `TERRACE_STATUS` alone. -/
theorem Chip.showPergolas_img (c : Chip) (t : Nat) (r : RecDesc) (i : Nat) (hp : PERGOLA_STATUS.id % 0x10000 ≠ r.id % 0x10000)
    (ht : TERRACE_STATUS.id % 0x10000 ≠ r.id % 0x10000) : (c.showPergolas t).img r i = c.img r i := by
  unfold Chip.showPergolas
  dsimp only
  rw [Chip.img_upd_ne _ _ _ _ _ _ (recKey_ne_of_id ht _ _)]
  refine Chip.eachOf_keeps (fun c => c.img r i) _ _ _ fun c p => ?_
  split
  · rfl
  · exact Chip.img_upd_ne _ _ _ _ _ _ (recKey_ne_of_id hp _ _)

/-- A terrace that takes a table has its image, and shows its `TABLE_ID`. -/
theorem Chip.installTable_table (c : Chip) (t img : Nat) :
    (c.installTable t img).img TICK_TABLE t = img ∧
      (c.installTable t img).getF TERRACE_STATUS t TERRACE_STATUS.TABLE_ID = TICK_TABLE.TABLE_ID.get img := by
  obtain ⟨a, hbefore, hafter⟩ := c.installTable_follows t img
  constructor
  · rw [hafter.img _ _ (by decide), Chip.showPergolas_img _ _ _ _ (by decide) (by decide), hbefore.img _ _ (by decide), Chip.tableTaken,
      Chip.img_modTer, Chip.img_upd_ne _ _ _ _ _ _ (recKey_ne_of_id (by decide) _ _), Chip.img_setImg_self]
  · rw [hafter.getF _ _ _ (by decide), Chip.showPergolas_getF _ _ _ _ _ (by decide) fun c v =>
      Chip.getF_upd_one_apart c _ _ _ _ v (by decide), hbefore.getF _ _ _ (by decide), Chip.tableTaken, Chip.getF_modTer, Chip.getF_upd_one]
    exact Nat.mod_eq_of_lt (Fld.get_lt _ _)

/-- A committed load takes its table, and what follows is its result and its event (R137). -/
theorem Chip.tickTableActive_quiet (c : Chip) (t : Nat) (l : TableLoad) (hload : (c.ter t).load = some l) (hvalid : l.valid = true)
    (hcommitted : l.committed = true) :
    Quiet (((c.installTable t l.img).dirty.modTer t (fun x => { x with load := none })).upd TERRACE_STATUS t
      [(TERRACE_STATUS.LOAD_PENDING, 0)]) (c.tickTableActive t) := by
  unfold Chip.tickTableActive
  rw [hload]
  dsimp only
  rw [if_neg (by simp [hvalid, hcommitted])]
  exact (Quiet.finish _ _ _ _).trans (Quiet.raise _ _ _ _ _ _)

theorem tickTableActive_completes (s : State) (t₀ : Nat) (l : TableLoad) (ht₀ : t₀ < 4) (hload : (s.chip.ter t₀).load = some l)
    (hvalid : l.valid = true) (hcommitted : l.committed = true) :
    Completes (.tickTableActive t₀) s fun t =>
      t.chip.img TICK_TABLE t₀ = l.img ∧ t.chip.getF TERRACE_STATUS t₀ TERRACE_STATUS.TABLE_ID = TICK_TABLE.TABLE_ID.get l.img ∧
      (t.chip.ter t₀).load = none ∧ t.chip.getF TERRACE_STATUS t₀ TERRACE_STATUS.LOAD_PENDING = 0 := by
  refine Completes.of_run ((exec_tickTableActive ..).trans (if_pos ht₀)) fun t hsh => ?_
  have hq := s.chip.tickTableActive_quiet t₀ l hload hvalid hcommitted
  obtain ⟨himg, hid⟩ := s.chip.installTable_table t₀ l.img
  refine ⟨?_, ?_, ?_, ?_⟩
  · rw [hsh.img _ _ (by decide), hq.img _ _ (by decide), Chip.img_upd_ne _ _ _ _ _ _ (recKey_ne_of_id (by decide) _ _), Chip.img_modTer,
      Chip.dirty_img, himg]
  · rw [hsh.getF _ _ _ (by decide), hq.getF _ _ _ (by decide), Chip.getF_upd_one_apart _ _ _ _ _ _ (by decide), Chip.getF_modTer,
      Chip.getF, Chip.dirty_img]
    exact hid
  · rw [hsh.ter, hq.ter, Chip.ter_upd, Chip.ter_modTer_self]
  · rw [hsh.getF _ _ _ (by decide), hq.getF _ _ _ (by decide), Chip.getF_upd_one]
    rfl

/-! ## Programs -/

theorem programLoad_completes {s : State} {h : Hdr} {x : Ctx} {t₀ id img k : Nat} (hs : Served s h programLoadSpec x) (ht₀ : t₀ < 4)
    (hid : id < 128) (hrsv : h.prsv = 0) (hin : s.chip.tstate t₀ = tsInService) (hprog : (s.chip.ter t₀).prog = none)
    (hk : s.chip.freeHandle x.si = some k) :
    Completes (.programLoad h t₀ id img) s fun t =>
      (t.chip.ter t₀).prog = some { handle := some k, id := id, img := img, len := h.len - 4 } := by
  refine hs.completes (exec_programLoad ..) fun d hd _ => ?_
  rw [checks_pass _ _ _ (by simp [hd.quiet.ter, hd.quiet.tstate, hprog, hin, hrsv]; omega)]
  obtain ⟨hpost, hter, -⟩ := Chip.accept_load hd hk t₀ fun k y =>
    { y with prog := some { handle := some k, id := id, img := img, len := h.len - 4 } }
  exact ⟨hpost, fun t hsh => by rw [hsh.ter, hter]⟩

/-- Compaction moves programs: it leaves the run-time state of the zone side. -/
theorem Chip.compact_zones (c : Chip) (t but : Nat) : (c.compact t but).zones = c.zones :=
  foldl_keeps (fun r : Chip × Nat => r.1.zones) _ (fun _ _ => Chip.upd_zones _ _ _ _) _ _

/-- A program is put into the store as it stands or as compaction leaves it (R187): its information and its image, then the marks and counts
that follow. -/
theorem Chip.storeProgram_writes (c : Chip) (t id img : Nat) :
    ∃ (a : Chip) (fs : List (Fld × Nat)), a.zones = c.zones ∧ (∀ p ∈ fs, PROGRAM_INFO.VALID.apart p.1) ∧
      c.storeProgram t id img = (((((a.upd PROGRAM_INFO (128 * t + id) ((PROGRAM_INFO.VALID, 1) :: fs)).setImg PROGRAM_IMAGE (128 * t + id) img).modTer
        t (fun x => { x with badProgs := x.badProgs.filter (· != id) })).showUsers t).dirty) := by
  have hfs : ∀ n k w b u r : Nat, ∀ p ∈ [(PROGRAM_INFO.STEP_COUNT, n), (PROGRAM_INFO.CONST_COUNT, k), (PROGRAM_INFO.WCET, w),
      (PROGRAM_INFO.BASE, b), (PROGRAM_INFO.USER_ID, u), (PROGRAM_INFO.CRC, r)], PROGRAM_INFO.VALID.apart p.1 := fun n k w b u r =>
    apart_of_fields [PROGRAM_INFO.STEP_COUNT, PROGRAM_INFO.CONST_COUNT, PROGRAM_INFO.WCET, PROGRAM_INFO.BASE, PROGRAM_INFO.USER_ID,
      PROGRAM_INFO.CRC] rfl (by decide)
  unfold Chip.storeProgram
  dsimp only
  split
  · exact ⟨_, _, rfl, hfs _ _ _ _ _ _, rfl⟩
  · exact ⟨_, _, c.compact_zones t id, hfs _ _ _ _ _ _, rfl⟩

/-- The users shown are one field of `PROGRAM_INFO`. -/
theorem Chip.showUsers_valid (c : Chip) (t i : Nat) :
    (c.showUsers t).getF PROGRAM_INFO i PROGRAM_INFO.VALID = c.getF PROGRAM_INFO i PROGRAM_INFO.VALID := by
  unfold Chip.showUsers
  exact Chip.each_keeps (fun c => c.getF PROGRAM_INFO i PROGRAM_INFO.VALID) _ _ _ fun c id =>
    Chip.getF_upd_apart_inst c _ _ _ _ _ (apart_of_one (by decide))

theorem Chip.dirty_zones (c : Chip) : c.dirty.zones = c.zones := by
  unfold Chip.dirty
  split <;> rfl

/-- A program stored is VALID, its image is in the store, and the load under way is as it was (R190). -/
theorem Chip.storeProgram_stored (c : Chip) (t id img : Nat) :
    (c.storeProgram t id img).getF PROGRAM_INFO (128 * t + id) PROGRAM_INFO.VALID = 1 ∧
      (c.storeProgram t id img).img PROGRAM_IMAGE (128 * t + id) = img ∧ ((c.storeProgram t id img).ter t).prog = (c.ter t).prog := by
  obtain ⟨a, fs, hzones, hfs, heq⟩ := c.storeProgram_writes t id img
  rw [heq]
  refine ⟨?_, ?_, ?_⟩
  · rw [Chip.getF, Chip.dirty_img, ← Chip.getF, Chip.showUsers_valid, Chip.getF_modTer, Chip.getF,
      Chip.img_setImg_ne _ _ _ _ _ _ (recKey_ne_of_id (by decide) _ _)]
    exact Chip.getF_upd_append a _ _ _ 1 [] fs hfs
  · rw [Chip.dirty_img, (Zonal.showUsers _ t).img _ _ (by decide), Chip.img_modTer, Chip.img_setImg_self]
  · unfold Chip.ter
    rw [Chip.dirty_zones, (Zonal.showUsers _ t).terrace]
    change ((Chip.modTer _ t _).ter t).prog = _
    rw [Chip.ter_modTer_self, Chip.ter, (Chip.setImg_rest _ _ _ _).zones, Chip.upd_zones, hzones]

/-- The checks of a program end: one that passes them is stored, one that fails leaves the store, and what follows is the result and the
event (R190). -/
theorem Chip.programLoadResult_quiet (c : Chip) (t : Nat) (p : ProgLoad) (hprog : (c.ter t).prog = some p) :
    Quiet (if (c.programCheck t p.id p.img p.len).1 = 0 then (c.modTer t (fun x => { x with prog := none })).storeProgram t p.id p.img
      else c.modTer t (fun x => { x with prog := none })) (c.programLoadResult t) := by
  unfold Chip.programLoadResult
  rw [hprog]
  dsimp only
  split
  · exact (Quiet.finish _ _ _ _).trans (Quiet.raise _ _ _ _ _ _)
  · exact Quiet.finish _ _ _ _

theorem programLoadResult_completes (s : State) (t₀ : Nat) (p : ProgLoad) (ht₀ : t₀ < 4) (hprog : (s.chip.ter t₀).prog = some p) :
    Completes (.programLoadResult t₀) s fun t =>
      (t.chip.ter t₀).prog = none ∧
      (if (s.chip.programCheck t₀ p.id p.img p.len).1 = 0 then
        t.chip.getF PROGRAM_INFO (128 * t₀ + p.id) PROGRAM_INFO.VALID = 1 ∧ t.chip.img PROGRAM_IMAGE (128 * t₀ + p.id) = p.img
      else t.chip.img PROGRAM_IMAGE (128 * t₀ + p.id) = s.chip.img PROGRAM_IMAGE (128 * t₀ + p.id)) := by
  refine Completes.of_run ((exec_programLoadResult ..).trans (if_pos ht₀)) fun t hsh => ?_
  have hq := s.chip.programLoadResult_quiet t₀ p hprog
  rw [hsh.ter, hsh.img _ _ (by decide), hsh.getF _ _ _ (by decide), hq.ter, hq.img _ _ (by decide), hq.getF _ _ _ (by decide)]
  by_cases hr : (s.chip.programCheck t₀ p.id p.img p.len).1 = 0
  · simp only [if_pos hr]
    obtain ⟨hvalid, himg, hter⟩ := (s.chip.modTer t₀ (fun x => { x with prog := none })).storeProgram_stored t₀ p.id p.img
    exact ⟨by rw [hter, Chip.ter_modTer_self], hvalid, himg⟩
  · simp only [if_neg hr]
    exact ⟨by rw [Chip.ter_modTer_self], rfl⟩

/-- No field of `PROGRAM_INFO` has a reset value. -/
theorem programInfo_resetImg (i : Nat) : PROGRAM_INFO.resetImg i = 0 := by simp [RecDesc.resetImg, PROGRAM_INFO]

theorem programUnload_completes {s : State} {h : Hdr} {x : Ctx} {t₀ id force : Nat} (hs : Served s h programUnloadSpec x) (ht₀ : t₀ < 4)
    (hid : id < 128) (hforce : force ≤ 1) (hrsv : h.prsv = 0)
    (hvalid : s.chip.getB PROGRAM_INFO (128 * t₀ + id) PROGRAM_INFO.VALID = true)
    (husers : s.chip.getF PROGRAM_INFO (128 * t₀ + id) PROGRAM_INFO.USERS = 0 ∨ force = 1) (hprog : (s.chip.ter t₀).prog = none) :
    Completes (.programUnload h t₀ id force) s fun t => t.chip.getF PROGRAM_INFO (128 * t₀ + id) PROGRAM_INFO.VALID = 0 := by
  refine hs.completes (exec_programUnload ..) fun d hd _ => ?_
  have hrec : ∀ f, d.getF PROGRAM_INFO (128 * t₀ + id) f = s.chip.getF PROGRAM_INFO (128 * t₀ + id) f := fun f => hd.quiet.getF _ _ _ (by decide)
  have hgo : (!d.getB PROGRAM_INFO (128 * t₀ + id) PROGRAM_INFO.VALID ||
      (decide (0 < d.getF PROGRAM_INFO (128 * t₀ + id) PROGRAM_INFO.USERS) && force == 0)) = false := by
    unfold Chip.getB at hvalid ⊢
    rw [hrec, hrec, hvalid]
    rcases husers with h | h <;> simp [h]
  dsimp only
  rw [checks_pass _ _ _ (by simp [hgo, hd.quiet.ter, hprog, hrsv]; omega)]
  refine ⟨rfl, fun t hsh => ?_⟩
  rw [hsh.getF _ _ _ (by decide), (Quiet.raise _ _ _ _ _ _).getF _ _ _ (by decide), Chip.getF, Chip.dirty_img, ← Chip.getF, Chip.showUsers_valid,
    Chip.getF, Chip.clearRec, Chip.img_setImg_ne _ _ _ _ _ _ (recKey_ne_of_id (by decide) _ _), Chip.clearRec, Chip.img_setImg_self,
    programInfo_resetImg]
  rfl

/-- Settles O23: each command's own writes set what the statement names; a table's followers are zonal, so that they spare it, and a program's
followers write its count of users alone. -/
theorem tablesAndProgramsLoad : Obligations.TablesAndProgramsLoad := by
  unfold Obligations.TablesAndProgramsLoad
  exact ⟨fun s h x img t₀ k hs ht ht₀ hload hin hk => tickTableLoad_completes hs ht ht₀ hload hin hk,
    tickTableValidated_completes, tickTableCommitPoint_completes, tickTableActive_completes,
    fun s h x t₀ id img k hs ht₀ hid hrsv hin hprog hk => programLoad_completes hs ht₀ hid hrsv hin hprog hk,
    fun s t₀ p ht₀ hprog _ => programLoadResult_completes s t₀ p ht₀ hprog,
    fun s h x t₀ id force hs ht₀ hid hforce hrsv hvalid husers hprog => programUnload_completes hs ht₀ hid hforce hrsv hvalid husers hprog⟩

end Sys2Proof.Machine
end

section
/-!
SUPPORT. What the engine side changes beside a zone's status and its context: the model, the tuning, the occupancy shown and the host side.
`Aside` says it once for every operation of a window that leaves the status and the context as they are (R127 to R133, R144).
-/

namespace Sys2Proof.Machine

/-! ## Beside the status of a zone -/

/-- The records that operations beside a zone's status and context write. -/
def asideIds : List Nat := noisyIds ++ [ZONE_OCC, OCC_TIMELINE, MODEL_COEF, TUNE_STATUS].map RecDesc.id

theorem asideIds_zonal {n : Nat} (h : n ∈ asideIds) : n ∈ zoneIds := by
  have hall : ∀ m ∈ asideIds, m ∈ zoneIds := by decide
  exact hall n h

/-- `d` is `c` but for events, the run-time state of zones, the links that lanes hold, and the records of a zone's model, tuning and
occupancy. -/
structure Aside (c d : Chip) : Prop where
  zonal : Zonal c d
  img : ∀ r i, r.id % 0x10000 ∉ asideIds → d.img r i = c.img r i
  lane : ∀ k, (d.lane k).zone = (c.lane k).zone

@[simp] theorem Chip.lane_upd (c : Chip) (r : RecDesc) (i : Nat) (fs : List (Fld × Nat)) (e : Nat) : (c.upd r i fs).lane e = c.lane e := by
  unfold Chip.lane
  rw [Chip.upd_zones]

@[simp] theorem Chip.lane_setLane_self (c : Chip) (e : Nat) (x : Lane) : (c.setLane e x).lane e = x := by rw [Chip.lane_setLane, if_pos rfl]

@[simp] theorem Chip.lane_modLane_self (c : Chip) (e : Nat) (f : Lane → Lane) : (c.modLane e f).lane e = f (c.lane e) :=
  Chip.lane_setLane_self c e _

@[simp] theorem Chip.zrt_modZrt_self (c : Chip) (z : Nat) (f : ZoneRt → ZoneRt) : (c.modZrt z f).zrt z = f (c.zrt z) := by
  rw [Chip.modZrt, Chip.zrt_setZrt, if_pos rfl]

theorem Shown.lane {c d : Chip} (h : Shown c d) (e : Nat) : d.lane e = c.lane e := by simp only [Chip.lane, h.zones]

theorem Shown.zrt {c d : Chip} (h : Shown c d) (z : Nat) : d.zrt z = c.zrt z := by simp only [Chip.zrt, h.zones]

namespace Aside

theorem refl (c : Chip) : Aside c c := ⟨Zonal.refl c, fun _ _ _ => rfl, fun _ => rfl⟩

theorem trans {a b c : Chip} (h : Aside a b) (k : Aside b c) : Aside a c where
  zonal := h.zonal.trans k.zonal
  img r i hr := (k.img r i hr).trans (h.img r i hr)
  lane e := (k.lane e).trans (h.lane e)

theorem getF {c d : Chip} (h : Aside c d) (r : RecDesc) (i : Nat) (f : Fld) (hr : r.id % 0x10000 ∉ asideIds) :
    d.getF r i f = c.getF r i f := by rw [Chip.getF, h.img r i hr, Chip.getF]

theorem ite {c a b : Chip} (p : Prop) [Decidable p] (ha : Aside c a) (hb : Aside c b) : Aside c (if p then a else b) := by
  split
  · exact ha
  · exact hb

theorem eachOf {α : Type} (c : Chip) (l : List α) (f : Chip → α → Chip) (hf : ∀ c a, Aside c (f c a)) : Aside c (c.eachOf l f) :=
  Chip.eachOf_preserves (Aside c) (fun d a hd => hd.trans (hf d a)) l (refl c)

theorem of_noise {c d : Chip} (h : Noise c d) : Aside c d where
  zonal := Zonal.of_noise h
  img r i hr := h.quiet.img r i (fun hm => hr (List.mem_append_left _ hm))
  lane k := by simp only [Chip.lane, h.quiet.zones]

theorem upd (c : Chip) (r : RecDesc) (i : Nat) (fs : List (Fld × Nat)) (hr : r.id % 0x10000 ∈ asideIds) : Aside c (c.upd r i fs) where
  zonal := Zonal.upd c r i fs (asideIds_zonal hr)
  img q j hq := Chip.img_upd_ne c r q i j fs (recKey_ne_of_id (fun h => hq (h ▸ hr)) i j)
  lane k := by rw [Chip.lane_upd]

theorem modZrt (c : Chip) (z : Nat) (f : ZoneRt → ZoneRt) : Aside c (c.modZrt z f) := ⟨Zonal.modZrt c z f, fun _ _ _ => rfl, fun _ => rfl⟩

theorem modModel (c : Chip) (z : Nat) (f : Model → Model) : Aside c (c.modModel z f) := modZrt c z _

theorem restartHistory (c : Chip) (z : Nat) : Aside c (c.restartHistory z) := modModel c z _

theorem takeFallback (c : Chip) (z : Nat) : Aside c (c.takeFallback z) := by
  unfold Chip.takeFallback
  exact modZrt c z _

/-- A lane that keeps its zone. -/
theorem setLane (c : Chip) (e : Nat) (x : Lane) (h : x.zone = (c.lane e).zone) : Aside c (c.setLane e x) where
  zonal := Zonal.setLane c e x
  img _ _ _ := rfl
  lane k := by
    rw [Chip.lane_setLane]
    split
    · next he => rw [← he, h]
    · rfl

theorem modLink (c : Chip) (z : Nat) (f : Link → Link) : Aside c (c.modLink z f) := by
  unfold Chip.modLink
  exact (modZrt c z _).trans (eachOf _ _ _ fun c k => ite _ (setLane c _ _ rfl) (refl c))

theorem endTest (c : Chip) (z cause : Nat) : Aside c (c.endTest z cause) := by
  unfold Chip.endTest
  dsimp only
  split
  · exact modModel c z _
  · exact ((((modModel c z _).trans (modModel _ z _)).trans (modLink _ z _)).trans (upd _ _ _ _ (by decide))).trans
      (of_noise (Noise.raiseZone _ _ _ _ _ _))

/-- What follows when a zone leaves RUNNING is beside its status. -/
theorem leaveRunning (c : Chip) (z new : Nat) : Aside (c.upd ZONE_STATUS z [(ZONE_STATUS.ZSTATE, new)]) (c.leaveRunning z new) := by
  unfold Chip.leaveRunning Chip.latchFallback
  exact (modZrt _ z _).trans (endTest _ z 4)

theorem periodEnds (c : Chip) (z : Nat) : Aside c (c.periodEnds z) := by
  unfold Chip.periodEnds
  dsimp only
  split
  · exact (modZrt c z _).trans (upd _ _ _ _ (by decide))
  · exact modZrt c z _

theorem relayStart (c : Chip) (z f : Nat) : Aside c (c.relayStart z f) := by
  unfold Chip.relayStart
  exact ((modLink c z _).trans (modModel _ z _)).trans (upd _ _ _ _ (by decide))

theorem occWriteBack (c : Chip) (z st ev out : Nat) : Aside c (c.occWriteBack z st ev out) := by
  unfold Chip.occWriteBack
  dsimp only
  refine ite _ ((modZrt c z _).trans (upd _ _ _ _ (by decide))) ?_
  exact ((((modZrt c z _).trans (upd _ _ _ _ (by decide))).trans (upd _ _ _ _ (by decide))).trans (upd _ _ _ _ (by decide))).trans
    (of_noise (Noise.raiseMasked _ _ _ _ _ _ _))

end Aside

end Sys2Proof.Machine
end

section
/-!
PROOF. The windows of an engine (R127 to R133, R167, R192, R256): the load of a context, the execution of a tick, the publish point, the
write-back, and the readings that reach the bindings.
-/

namespace Sys2Proof.Machine

/-! ## The tick base -/

theorem Chip.ite_keeps {γ : Type} (g : Chip → γ) {a b : Chip} {v : γ} (p : Prop) [Decidable p] (ha : g a = v) (hb : g b = v) :
    g (if p then a else b) = v := by
  split
  · exact ha
  · exact hb

/-- The tick base of a terrace writes the frame seen and, at a hyperperiod boundary, which zones run their own programs (R132, R152). -/
theorem Chip.tickFrame_keeps {γ : Type} (g : Chip → γ) (t : Nat)
    (hframe : ∀ (d : Chip) n a, g (d.modTer t (fun y => { y with frame := n, frameAt := a })) = g d)
    (hzrt : ∀ (d : Chip) z, g (d.modZrt z (fun y => { y with zrt := true })) = g d) (c : Chip) (frame : Nat) :
    g (c.tickFrame t frame) = g c := by
  unfold Chip.tickFrame
  exact Chip.ite_keeps g _ ((Chip.eachOf_keeps g _ _ _ hzrt).trans (Chip.ite_keeps g _ rfl (hframe c _ _)))
    (Chip.ite_keeps g _ rfl (hframe c _ _))

/-- Which entry is due reads the tick table, the moves of its terrace and the pergolas (R134, R147). -/
theorem Chip.dueEntry_congr {c d : Chip} (himg : ∀ t, d.img TICK_TABLE t = c.img TICK_TABLE t) (hmoves : ∀ t, (d.ter t).moves = (c.ter t).moves)
    (hperg : ∀ p, d.perg p = c.perg p) (hstate : ∀ p, d.pstate p = c.pstate p) (e frame window : Nat) :
    d.dueEntry e frame window = c.dueEntry e frame window := by
  have hnow : ∀ t home, d.engineNow t home = c.engineNow t home := fun t home => by
    unfold Chip.engineNow Chip.pergolaUp
    rw [hmoves, hperg, hstate]
  simp only [Chip.dueEntry, Chip.entries, himg, hnow]

theorem Zonal.dueEntry {c d : Chip} (h : Zonal c d) (e frame window : Nat) : d.dueEntry e frame window = c.dueEntry e frame window :=
  Chip.dueEntry_congr (fun _ => h.img _ _ (by decide)) (fun _ => by rw [h.ter]) h.perg h.pstate e frame window

theorem Chip.tickFrame_dueEntry (c : Chip) (t n e frame window : Nat) :
    (c.tickFrame t n).dueEntry e frame window = c.dueEntry e frame window := by
  refine Chip.tickFrame_keeps (fun d => d.dueEntry e frame window) t (fun d _ _ => ?_) (fun d z => (Zonal.modZrt d z _).dueEntry e frame window) c n
  refine Chip.dueEntry_congr (c := d) (d := d.modTer t _) (fun _ => rfl) (fun u => ?_) (fun _ => rfl) (fun _ => rfl) e frame window
  rw [Chip.modTer, Chip.ter_setTer]
  split
  · next h => rw [h]
  · rfl

theorem Chip.tickFrame_img (c : Chip) (t n : Nat) (r : RecDesc) (i : Nat) : (c.tickFrame t n).img r i = c.img r i :=
  Chip.tickFrame_keeps (fun d => d.img r i) t (fun _ _ _ => rfl) (fun _ _ => rfl) c n

theorem Chip.tickFrame_getF (c : Chip) (t n : Nat) (r : RecDesc) (i : Nat) (f : Fld) : (c.tickFrame t n).getF r i f = c.getF r i f := by
  rw [Chip.getF, Chip.tickFrame_img, Chip.getF]

theorem Chip.tickFrame_boot (c : Chip) (t n : Nat) : (c.tickFrame t n).boot = c.boot :=
  Chip.tickFrame_keeps Chip.boot t (fun _ _ _ => rfl) (fun _ _ => rfl) c n

theorem Chip.tickFrame_lane (c : Chip) (t n e : Nat) : (c.tickFrame t n).lane e = c.lane e :=
  Chip.tickFrame_keeps (fun d => d.lane e) t (fun _ _ _ => rfl) (fun _ _ => rfl) c n

theorem Chip.tickFrame_level (c : Chip) (t n : Nat) : (c.tickFrame t n).level = c.level := by
  unfold Chip.level
  rw [Chip.tickFrame_boot, Chip.tickFrame_getF]

theorem Chip.tickFrame_pergolaUp (c : Chip) (t n p : Nat) : (c.tickFrame t n).pergolaUp p = c.pergolaUp p := by
  unfold Chip.pergolaUp Chip.pstate
  rw [Chip.tickFrame_getF]

/-! ## The load of a context -/

/-- The part when a context is copied: the zone's period has ended, its fallback demands are taken and a due relay test has begun (R127, R206,
R207). -/
def Chip.periodTaken (c : Chip) (z : Nat) : Chip :=
  let c := (c.periodEnds z).takeFallback z
  match (c.zrt z).model.testDue with
  | some f => if c.romNow z then c else c.relayStart z f
  | none => c

theorem Aside.periodTaken (c : Chip) (z : Nat) : Aside c (c.periodTaken z) := by
  unfold Chip.periodTaken
  have hfall := (Aside.periodEnds c z).trans (Aside.takeFallback _ z)
  dsimp only
  split
  · exact Aside.ite _ hfall (hfall.trans (Aside.relayStart _ z _))
  · exact hfall

/-- A load copies the records as they stand once the engine and the port status are shown (R127). -/
theorem Chip.loadContext_copies (c : Chip) (e z : Nat) :
    ∃ (a : Chip) (l : Lane) (v : Nat → Nat),
      a.recs = ((c.periodTaken z).upd ZONE_STATUS z
        ((ZONE_STATUS.ENGINE, e) :: (List.range 8).map (fun p => (ZONE_STATUS.PORT_STATUS p, v p)))).recs ∧
      c.loadContext e z = a.setLane e l ∧ l.zone = some z ∧ l.cfg = a.img ZONE_CFG z ∧ l.params = a.img ZONE_PARAMS z ∧
      l.state = a.img ZONE_STATE z ∧ l.running = false ∧ l.done = false := by
  refine ⟨_, _, fun p => Tab.get 0 (((c.periodTaken z).zrt z).worst) p, ?_, rfl, rfl, rfl, rfl, rfl, rfl, rfl⟩
  have htrack : ∀ d : Chip, (if d.romNow z then d else
      (List.range 8).foldl (fun c n => if c.nbIncluded z n then c.trackNeigh z n c.up else c) d).recs = d.recs := fun d => by
    refine Chip.ite_keeps Chip.recs _ rfl (foldl_keeps Chip.recs _ (fun c n => ?_) _ _)
    exact Chip.ite_keeps Chip.recs _ rfl rfl
  exact Chip.ite_keeps Chip.recs _ (htrack _) (htrack _)

/-- The context copied into a lane, and the engine shown (R127). -/
theorem Chip.loadContext_lane (c : Chip) (e z : Nat) (he : e < 256) :
    ((c.loadContext e z).lane e).zone = some z ∧ ((c.loadContext e z).lane e).cfg = c.img ZONE_CFG z ∧
      ((c.loadContext e z).lane e).params = c.img ZONE_PARAMS z ∧ ((c.loadContext e z).lane e).state = c.img ZONE_STATE z ∧
      ((c.loadContext e z).lane e).running = false ∧ ((c.loadContext e z).lane e).done = false ∧
      (c.loadContext e z).getF ZONE_STATUS z ZONE_STATUS.ENGINE = e := by
  obtain ⟨a, l, v, hrecs, heq, hzone, hcfg, hparams, hstate, hrun, hdone⟩ := c.loadContext_copies e z
  have himg : ∀ r : RecDesc, ZONE_STATUS.id % 0x10000 ≠ r.id % 0x10000 → r.id % 0x10000 ∉ asideIds →
      a.img r z = c.img r z := fun r hr hids => by
    rw [Chip.img_congr hrecs, Chip.img_upd_ne _ _ _ _ _ _ (recKey_ne_of_id hr _ _), (Aside.periodTaken c z).img r z hids]
  rw [heq, Chip.lane_setLane_self, hcfg, hparams, hstate]
  refine ⟨hzone, himg _ (by decide) (by decide), himg _ (by decide) (by decide), himg _ (by decide) (by decide), hrun, hdone, ?_⟩
  change ZONE_STATUS.ENGINE.get (a.img ZONE_STATUS z) = e
  rw [Chip.img_congr hrecs]
  refine (Chip.getF_upd_append _ _ _ _ _ [] _ ?_).trans (Nat.mod_eq_of_lt he)
  simp only [List.forall_mem_map]
  exact fun p _ => .inl (by simp only [ZONE_STATUS.ENGINE, ZONE_STATUS.PORT_STATUS]; omega)

/-- An engine without a zone writes nothing back. -/
theorem Chip.writeBack_none (c : Chip) (e : Nat) (h : (c.lane e).zone = none) : c.writeBack e = c := by
  unfold Chip.writeBack
  dsimp only
  rw [h]

/-- At a window that no entry is due in, the engine writes back and loads nothing (R133). -/
theorem Chip.windowPortPhase_idle (c : Chip) (e frame window : Nat) (hdue : (c.writeBack e).dueEntry e frame window = none) :
    c.windowPortPhase e frame window = (c.writeBack e).tickFrame (e / 64) frame := by
  unfold Chip.windowPortPhase
  dsimp only
  rw [Chip.tickFrame_dueEntry, hdue]
  exact ite_self _

/-- At the window of a due zone that runs, its context is loaded (R127, R133). -/
theorem Chip.windowPortPhase_loads (c : Chip) (e frame window : Nat) (x : Entry) (z : Nat) (hfree : (c.lane e).zone = none)
    (hlevel : lvLimited ≤ c.level) (hhalt : c.boot.pfHalt = false) (hin : c.tstate (e / 64) = tsInService) (hup : c.pergolaUp (e / 4) = true)
    (hdue : c.dueEntry e frame window = some x) (hz : z = 256 * (e / 64) + x.slot) (hen : c.getB ZONE_CFG z ZONE_CFG.EN = true)
    (hrun : c.zstate z = zsRunning) (hgood : c.getB ZONE_STATUS z ZONE_STATUS.CTX_DAMAGED = false) :
    c.windowPortPhase e frame window = (c.tickFrame (e / 64) frame).loadContext e z := by
  unfold Chip.windowPortPhase
  rw [c.writeBack_none e hfree]
  dsimp only
  set d := c.tickFrame (e / 64) frame with hd
  have hen' : d.getB ZONE_CFG z ZONE_CFG.EN = true := by rw [Chip.getB, hd, Chip.tickFrame_getF, ← Chip.getB, hen]
  have hrun' : d.zstate z = zsRunning := by rw [Chip.zstate, hd, Chip.tickFrame_getF, ← Chip.zstate, hrun]
  have hgood' : d.getB ZONE_STATUS z ZONE_STATUS.CTX_DAMAGED = false := by rw [Chip.getB, hd, Chip.tickFrame_getF, ← Chip.getB, hgood]
  have hopen : ¬ (d.level < lvLimited ∨ d.boot.pfHalt = true ∨ d.tstate (e / 64) ≠ tsInService ∨ ¬ d.pergolaUp (e / 4) = true) := by
    rw [hd, Chip.tickFrame_level, Chip.tickFrame_boot, Chip.tstate, Chip.tickFrame_getF, ← Chip.tstate, Chip.tickFrame_pergolaUp, hhalt, hin, hup]
    simpa using hlevel
  rw [if_neg hopen, hd, Chip.tickFrame_dueEntry, hdue, ← hd]
  dsimp only
  have hstands : ¬ (d.zstate z = zsUnused ∧ d.hasProgram z = true) := by rw [hrun']; exact fun h => absurd h.1 (by decide)
  rw [← hz, if_neg (by simp [hen']), if_neg hstands, if_pos hrun', if_neg (not_not_intro hrun'), if_neg (by simp [hgood'])]

theorem windowPortPhase_loads_completes (s : State) (e frame window : Nat) (x : Entry) (z : Nat) (he : e < 256)
    (hfree : (s.chip.lane e).zone = none) (hlevel : lvLimited ≤ s.chip.level) (hhalt : s.chip.boot.pfHalt = false)
    (hin : s.chip.tstate (e / 64) = tsInService) (hup : s.chip.pergolaUp (e / 4) = true) (hdue : s.chip.dueEntry e frame window = some x)
    (hz : z = 256 * (e / 64) + x.slot) (hen : s.chip.getB ZONE_CFG z ZONE_CFG.EN = true) (hrun : s.chip.zstate z = zsRunning)
    (hgood : s.chip.getB ZONE_STATUS z ZONE_STATUS.CTX_DAMAGED = false) :
    Completes (.windowPortPhase e frame window) s fun t =>
      (t.chip.lane e).zone = some z ∧ (t.chip.lane e).cfg = s.chip.img ZONE_CFG z ∧ (t.chip.lane e).params = s.chip.img ZONE_PARAMS z ∧
      (t.chip.lane e).state = s.chip.img ZONE_STATE z ∧ (t.chip.lane e).running = false ∧ (t.chip.lane e).done = false ∧
      t.chip.getF ZONE_STATUS z ZONE_STATUS.ENGINE = e := by
  refine Completes.of_run ((exec_windowPortPhase ..).trans (if_pos he)) fun t hsh => ?_
  have hlane := (s.chip.tickFrame (e / 64) frame).loadContext_lane e z he
  rw [hsh.lane, hsh.getF _ _ _ (by decide),
    s.chip.windowPortPhase_loads e frame window x z hfree hlevel hhalt hin hup hdue hz hen hrun hgood]
  simp only [Chip.tickFrame_img] at hlane
  exact hlane

/-! ## The write-back -/

/-- What a completed tick assigns of its zone's runtime header and demand values (R128, R157). -/
def tickFields (l : Lane) (most : Nat) : List (Fld × Nat) :=
  [(ZONE_STATUS.FIRST_TICK, 0), (ZONE_STATUS.CYC_LAST, l.cycles), (ZONE_STATUS.CYC_MAX, most), (ZONE_STATUS.ROM_PROG, if l.rom then 1 else 0)] ++
    (List.range 8).map (fun p => (ZONE_STATUS.DEMAND p, l.port p))

/-- A completed tick counted: one run, and one saturation where a step had one (R157). -/
def Chip.tickCounted (c : Chip) (z : Nat) (l : Lane) : Chip :=
  if l.flags.testBit flSat then
    (c.incSat ZONE_STATUS z ZONE_STATUS.RUN_CNT ZONE_STATUS.CNT_SAT 0).incSat ZONE_STATUS z ZONE_STATUS.SAT_CNT ZONE_STATUS.CNT_SAT 2
  else c.incSat ZONE_STATUS z ZONE_STATUS.RUN_CNT ZONE_STATUS.CNT_SAT 0

/-- The records of a completed tick: the runtime header, the demand values and the state words (R128). -/
def Chip.tickRecorded (c : Chip) (z : Nat) (l : Lane) (most : Nat) : Chip :=
  ((c.tickCounted z l).upd ZONE_STATUS z (tickFields l most)).setImg ZONE_STATE z l.state

/-- The write-back of a completed tick: its records, what stands beside them, and the lane cleared (R128, R133). -/
theorem Chip.writeBack_records (c : Chip) (e z : Nat) (hz : (c.lane e).zone = some z) (hdone : (c.lane e).done = true)
    (hrun : c.zstate z = zsRunning) :
    ∃ (a : Chip) (most : Nat), Aside (c.tickRecorded z (c.lane e) most) a ∧ c.writeBack e = a.setLane e (a.lane e).scrubbed := by
  have hgo : ¬ ((!(c.lane e).done) = true ∨ c.zstate z ≠ zsRunning) := by simp [hdone, hrun]
  have hruns : satInc 32 (c.getF ZONE_STATUS z ZONE_STATUS.RUN_CNT) ≠ 0 := by unfold satInc; split <;> omega
  unfold Chip.writeBack
  dsimp only
  rw [hz]
  dsimp only
  rw [if_neg hgo]
  refine ⟨_, max (c.lane e).cycles (c.getF ZONE_STATUS z ZONE_STATUS.CYC_MAX), ?_, rfl⟩
  rw [if_neg hruns]
  refine Aside.trans ?_ (Aside.eachOf _ _ _ fun c ev => Aside.of_noise (Noise.raiseWith c ev))
  refine Aside.trans (Aside.trans (Aside.trans ?_ (Aside.modModel _ z _)) (Aside.modModel _ z _)) (Aside.modZrt _ z _)
  split
  · exact (Aside.modZrt _ z _).trans (Aside.occWriteBack _ z _ _ _)
  · exact Aside.modZrt _ z _

theorem Zonal.setImg (c : Chip) (r : RecDesc) (i v : Nat) (hr : r.id % 0x10000 ∈ zoneIds) : Zonal c (c.setImg r i v) where
  img q j hq := Chip.img_setImg_ne c r q i j _ (recKey_ne_of_id (fun h => hq (h ▸ hr)) i j)
  terrace := by rw [(Chip.setImg_rest c r i v).zones]
  pergola := by rw [(Chip.setImg_rest c r i v).zones]
  host := HostKept.of_host (Chip.setImg_rest c r i v).host

theorem Zonal.tickRecorded (c : Chip) (z : Nat) (l : Lane) (most : Nat) : Zonal c (c.tickRecorded z l most) := by
  have hcount : Zonal c (c.tickCounted z l) := by
    unfold Chip.tickCounted Chip.incSat
    exact ite _ ((upd c _ _ _ (by decide)).trans (upd _ _ _ _ (by decide))) (upd c _ _ _ (by decide))
  exact (hcount.trans (upd _ _ _ _ (by decide))).trans (setImg _ _ _ _ (by decide))

/-- A field below the demand values and apart from those assigned before them is not among those assigned. -/
theorem apart_of_demands {f : Fld} (l : Lane) {fs : List (Fld × Nat)} (gs : List Fld) (hgs : fs.map Prod.fst = gs) (hbelow : f.off + f.width ≤ 256)
    (hf : ∀ g ∈ gs, f.apart g) : ∀ p ∈ fs ++ (List.range 8).map (fun p => (ZONE_STATUS.DEMAND p, l.port p)), f.apart p.1 := by
  rw [List.forall_mem_append]
  refine ⟨apart_of_fields gs hgs hf, List.forall_mem_map.mpr fun p _ => .inl ?_⟩
  simp only [ZONE_STATUS.DEMAND]
  omega

theorem demand_apart (i j : Nat) (h : i ≠ j) : (ZONE_STATUS.DEMAND i).apart (ZONE_STATUS.DEMAND j) := by
  unfold Fld.apart ZONE_STATUS.DEMAND
  dsimp only
  omega

/-- One run is counted, a saturation or not (R157). -/
theorem Chip.tickCounted_runs (c : Chip) (z : Nat) (l : Lane) :
    (c.tickCounted z l).getF ZONE_STATUS z ZONE_STATUS.RUN_CNT = satInc 32 (c.getF ZONE_STATUS z ZONE_STATUS.RUN_CNT) := by
  have hrun : (c.incSat ZONE_STATUS z ZONE_STATUS.RUN_CNT ZONE_STATUS.CNT_SAT 0).getF ZONE_STATUS z ZONE_STATUS.RUN_CNT =
      satInc 32 (c.getF ZONE_STATUS z ZONE_STATUS.RUN_CNT) := Chip.getF_incSat_self _ _ _ _ _ _ (by decide)
  unfold Chip.tickCounted
  refine Chip.ite_keeps (fun d => d.getF ZONE_STATUS z ZONE_STATUS.RUN_CNT) _ ?_ hrun
  exact (Chip.getF_upd_apart _ _ _ _ _ (apart_of_two (by decide))).trans hrun

/-- What the records of a completed tick show (R128, R157). -/
theorem Chip.tickRecorded_shows (c : Chip) (z : Nat) (l : Lane) (most : Nat) :
    (c.tickRecorded z l most).getF ZONE_STATUS z ZONE_STATUS.RUN_CNT = satInc 32 (c.getF ZONE_STATUS z ZONE_STATUS.RUN_CNT) ∧
      (c.tickRecorded z l most).getF ZONE_STATUS z ZONE_STATUS.FIRST_TICK = 0 ∧
      (c.tickRecorded z l most).getF ZONE_STATUS z ZONE_STATUS.CYC_LAST = l.cycles % 2 ^ 16 ∧
      (∀ p, p < 8 → (c.tickRecorded z l most).getF ZONE_STATUS z (ZONE_STATUS.DEMAND p) = l.port p) ∧
      (c.tickRecorded z l most).img ZONE_STATE z = l.state := by
  have hstatus : ∀ f, (c.tickRecorded z l most).getF ZONE_STATUS z f =
      ((c.tickCounted z l).upd ZONE_STATUS z (tickFields l most)).getF ZONE_STATUS z f := fun f =>
    congrArg f.get (Chip.img_setImg_ne _ _ _ _ _ _ (recKey_ne_of_id (by decide) _ _))
  refine ⟨?_, ?_, ?_, fun p hp => ?_, Chip.img_setImg_self _ _ _ _⟩
  · rw [hstatus, tickFields, Chip.getF_upd_apart _ _ _ _ _ (apart_of_demands l [ZONE_STATUS.FIRST_TICK, ZONE_STATUS.CYC_LAST, ZONE_STATUS.CYC_MAX,
      ZONE_STATUS.ROM_PROG] rfl (by decide) (by decide)), Chip.tickCounted_runs]
  · rw [hstatus]
    exact Chip.getF_upd_append _ _ _ _ 0 [] _ (apart_of_demands l [ZONE_STATUS.CYC_LAST, ZONE_STATUS.CYC_MAX, ZONE_STATUS.ROM_PROG] rfl
      (by decide) (by decide))
  · rw [hstatus]
    exact Chip.getF_upd_append _ _ _ _ l.cycles [(ZONE_STATUS.FIRST_TICK, 0)] _ (apart_of_demands l [ZONE_STATUS.CYC_MAX, ZONE_STATUS.ROM_PROG] rfl
      (by decide) (by decide))
  · rw [hstatus, Chip.getF, Chip.img_upd_self, tickFields, setFields, List.foldl_append]
    change (ZONE_STATUS.DEMAND p).get (setFields ((List.range 8).map fun p => (ZONE_STATUS.DEMAND p, l.port p)) _) = l.port p
    rw [get_setFields_map _ demand_apart, if_pos (List.mem_range.mpr hp)]
    exact Nat.mod_eq_of_lt (Fld.get_lt _ _)

/-- A write-back where no entry is due leaves the completed tick's records and an empty lane (R128, R133). -/
theorem windowPortPhase_writesBack_completes (s : State) (e frame window : Nat) (l : Lane) (z : Nat) (he : e < 256) (hl : s.chip.lane e = l)
    (hz : l.zone = some z) (hdone : l.done = true) (hrun : s.chip.zstate z = zsRunning) (hdue : s.chip.dueEntry e frame window = none) :
    Completes (.windowPortPhase e frame window) s fun t =>
      (t.chip.lane e).zone = none ∧
      t.chip.getF ZONE_STATUS z ZONE_STATUS.RUN_CNT = satInc 32 (s.chip.getF ZONE_STATUS z ZONE_STATUS.RUN_CNT) ∧
      t.chip.getF ZONE_STATUS z ZONE_STATUS.FIRST_TICK = 0 ∧
      t.chip.getF ZONE_STATUS z ZONE_STATUS.CYC_LAST = l.cycles % 2 ^ 16 ∧
      (∀ p, p < 8 → t.chip.getF ZONE_STATUS z (ZONE_STATUS.DEMAND p) = l.port p) ∧
      t.chip.img ZONE_STATE z = l.state ∧ t.chip.getF ZONE_CFG z ZONE_CFG.OWNER = s.chip.getF ZONE_CFG z ZONE_CFG.OWNER := by
  subst hl
  refine Completes.of_run ((exec_windowPortPhase ..).trans (if_pos he)) fun t hsh => ?_
  obtain ⟨a, most, haside, hback⟩ := s.chip.writeBack_records e z hz hdone hrun
  have hzonal : Zonal s.chip (s.chip.writeBack e) := by
    rw [hback]
    exact ((Zonal.tickRecorded _ z _ most).trans haside.zonal).trans (Zonal.setLane _ _ _)
  rw [Chip.windowPortPhase_idle _ _ _ _ (by rw [hzonal.dueEntry, hdue])] at hsh
  have himg : ∀ r i, r.id % 0x10000 ∉ shownIds → r.id % 0x10000 ∉ asideIds →
      t.chip.img r i = (s.chip.tickRecorded z (s.chip.lane e) most).img r i := fun r i hshown hids => by
    rw [hsh.img r i hshown, Chip.tickFrame_img, hback]
    exact haside.img r i hids
  have hF : ∀ f, t.chip.getF ZONE_STATUS z f = (s.chip.tickRecorded z (s.chip.lane e) most).getF ZONE_STATUS z f := fun f =>
    congrArg f.get (himg _ _ (by decide) (by decide))
  rw [hsh.lane, Chip.tickFrame_lane, hback, Chip.lane_setLane_self, himg ZONE_STATE _ (by decide) (by decide), hsh.getF ZONE_CFG _ _ (by decide),
    Chip.tickFrame_getF, hzonal.getF ZONE_CFG _ _ (by decide)]
  simp only [hF]
  obtain ⟨hruns, hfirst, hcyc, hdem, hstate⟩ := s.chip.tickRecorded_shows z (s.chip.lane e) most
  exact ⟨rfl, hruns, hfirst, hcyc, hdem, hstate, trivial⟩

/-! ## The execution of a tick -/

/-- The part once a tick has begun and its instant is recorded (R167). -/
def Chip.tickBegun (c : Chip) (e z : Nat) : Chip :=
  (c.beginTick e).upd ZONE_STATUS z [(ZONE_STATUS.LAST_RUN, ((c.beginTick e).lane e).start)]

theorem Chip.tickBegun_lane (c : Chip) (e z : Nat) : (c.tickBegun e z).lane e = (c.beginTick e).lane e := Chip.lane_upd _ _ _ _ _

theorem Chip.tickBegun_img (c : Chip) (e z : Nat) (r : RecDesc) (i : Nat) (hr : ZONE_STATUS.id % 0x10000 ≠ r.id % 0x10000) :
    (c.tickBegun e z).img r i = c.img r i := Chip.img_upd_ne _ _ _ _ _ _ (recKey_ne_of_id hr _ _)

theorem Chip.tickBegun_ter (c : Chip) (e z t : Nat) : (c.tickBegun e z).ter t = c.ter t := Chip.ter_upd _ _ _ _ _

theorem Chip.tickBegun_lastRun (c : Chip) (e z : Nat) :
    (c.tickBegun e z).getF ZONE_STATUS z ZONE_STATUS.LAST_RUN = ((c.beginTick e).lane e).start % 2 ^ 64 := Chip.getF_upd_one _ _ _ _ _

theorem Chip.tickBegun_faultCnt (c : Chip) (e z : Nat) :
    (c.tickBegun e z).getF ZONE_STATUS z ZONE_STATUS.FAULT_CNT = c.getF ZONE_STATUS z ZONE_STATUS.FAULT_CNT :=
  Chip.getF_upd_one_apart _ _ _ _ _ _ (by decide)

theorem Chip.tickBegun_periodFx (c : Chip) (e z : Nat) : (c.tickBegun e z).periodFx z = c.periodFx z := by
  unfold Chip.periodFx Chip.entry Chip.entries
  rw [c.tickBegun_img e z _ _ (by decide)]

/-- A ROM program's tick ends within 160 cycles, how many is free (R192). -/
theorem Chip.zoneExecution_rom (c : Chip) (e z : Nat) (hz : ((c.beginTick e).lane e).zone = some z)
    (hrun : ((c.beginTick e).lane e).running = true) (hrom : ((c.beginTick e).lane e).rom = true) :
    c.zoneExecution e = (c.tickBegun e z).spend.modLane e (fun l =>
      { l.romTick (c.periodFx z) with done := true, running := false, cycles := (c.tickBegun e z).freeVal 32 % 161 }) := by
  unfold Chip.zoneExecution
  dsimp only
  rw [hz]
  dsimp only
  rw [if_neg (by simp [hrun]), if_pos hrom, ← c.tickBegun_periodFx e z]
  rfl

/-- A stored program's tick runs its steps (R167). -/
theorem Chip.zoneExecution_steps (c : Chip) (e z : Nat) (hz : ((c.beginTick e).lane e).zone = some z)
    (hrun : ((c.beginTick e).lane e).running = true) (hrom : ((c.beginTick e).lane e).rom = false) :
    c.zoneExecution e = (c.tickBegun e z).runSteps e 128 := by
  unfold Chip.zoneExecution
  dsimp only
  rw [hz]
  dsimp only
  rw [if_neg (by simp [hrun]), if_neg (by simp [hrom])]
  rfl

/-- An engine that does not run fetches nothing. -/
theorem Chip.runSteps_idle (c : Chip) (e n : Nat) (h : (c.lane e).zone = none ∨ (c.lane e).running = false) : c.runSteps e n = c := by
  have hfetch : c.fetchStep e = c := by
    unfold Chip.fetchStep
    dsimp only
    split
    · rfl
    · next z hz =>
      rw [if_pos]
      rcases h with h | h
      · rw [hz] at h
        cases h
      · simp [h]
  induction n with
  | zero => rfl
  | succ n ih => rw [Chip.runSteps, hfetch, ih]

/-- A ROM program's tick is done, its instant recorded and one free value spent (R167, R192). -/
theorem zoneExecution_rom_completes (s : State) (e : Nat) (l : Lane) (z : Nat) (he : e < 256) (hl : l = (s.chip.beginTick e).lane e)
    (hz : l.zone = some z) (hrun : l.running = true) (hrom : l.rom = true) :
    Completes (.zoneExecution e) s fun t =>
      (t.chip.lane e).done = true ∧ (t.chip.lane e).running = false ∧ (t.chip.lane e).cycles ≤ 160 ∧
      (t.chip.lane e).demand = (l.romTick (s.chip.periodFx z)).demand ∧ t.chip.freeIdx = s.chip.freeIdx + 1 ∧
      t.chip.getF ZONE_STATUS z ZONE_STATUS.LAST_RUN = l.start % 2 ^ 64 := by
  subst hl
  refine ⟨_, (exec_zoneExecution ..).trans (if_pos he), ?_⟩
  have hsh := Shown.of_settle { s with chip := s.chip.zoneExecution e }
  have hfree := (State.settle_lines { s with chip := s.chip.zoneExecution e }).freeIdx
  dsimp only at hsh hfree ⊢
  rw [hsh.lane, hsh.getF _ _ _ (by decide), hfree, s.chip.zoneExecution_rom e z hz hrun hrom, Chip.lane_modLane_self]
  refine ⟨rfl, rfl, Nat.lt_succ_iff.mp (Nat.mod_lt _ (by decide)), ?_, ?_, s.chip.tickBegun_lastRun e z⟩
  · change (((s.chip.tickBegun e z).lane e).romTick _).demand = _
    rw [Chip.tickBegun_lane]
  · change (s.chip.tickBegun e z).freeIdx + 1 = _
    rw [Chip.tickBegun, Chip.upd_freeIdx]
    rfl

/-- A program of one step, which is `END`, ends at that step (R167, R169). -/
theorem Chip.fetchStep_end (c : Chip) (e z : Nat) (hz : (c.lane e).zone = some z) (hrun : (c.lane e).running = true) (hstep : (c.lane e).step = 0)
    (hcyc : (c.lane e).cycles = 0) (hvalid : c.getB PROGRAM_INFO ((c.lane e).progIndex z) PROGRAM_INFO.VALID = true)
    (hgood : (c.ter (z / 256)).badProgs.contains ((c.lane e).progIndex z % 128) = false)
    (hone : imgSteps (c.img PROGRAM_IMAGE ((c.lane e).progIndex z)) = 1) (hend : imgWord (c.img PROGRAM_IMAGE ((c.lane e).progIndex z)) 0 = 0) :
    c.fetchStep e = (c.modLane e (fun l => { l with done := true, running := false })).modLane e (fun l => { l with cycles := 2 }) := by
  have hlegal : stepCheck (c.img PROGRAM_IMAGE ((c.lane e).progIndex z)) 0 = 0 := by
    unfold stepCheck
    rw [hend]
    rfl
  unfold Chip.fetchStep
  dsimp only
  rw [hz]
  dsimp only
  rw [if_neg (by simp [hrun]), if_neg (by simp [hvalid]), if_neg (by simp only [hgood]; decide), hstep, hend, hlegal, hone]
  unfold Chip.chargeStep
  dsimp only
  rw [hcyc]
  rfl

/-- A tick of one step, `END`, is done in two cycles (R167, R169). -/
theorem zoneExecution_end_completes (s : State) (e : Nat) (l : Lane) (z : Nat) (he : e < 256) (hl : l = (s.chip.beginTick e).lane e)
    (hz : l.zone = some z) (hrun : l.running = true) (hrom : l.rom = false) (hstep : l.step = 0) (hcyc : l.cycles = 0)
    (hvalid : s.chip.getB PROGRAM_INFO (l.progIndex z) PROGRAM_INFO.VALID = true)
    (hgood : (s.chip.ter (z / 256)).badProgs.contains (l.progIndex z % 128) = false)
    (hone : imgSteps (s.chip.img PROGRAM_IMAGE (l.progIndex z)) = 1) (hend : imgWord (s.chip.img PROGRAM_IMAGE (l.progIndex z)) 0 = 0) :
    Completes (.zoneExecution e) s fun t =>
      (t.chip.lane e).done = true ∧ (t.chip.lane e).running = false ∧ (t.chip.lane e).cycles = 2 ∧
      t.chip.getF ZONE_STATUS z ZONE_STATUS.LAST_RUN = l.start % 2 ^ 64 := by
  subst hl
  refine Completes.of_run ((exec_zoneExecution ..).trans (if_pos he)) fun t hsh => ?_
  have hlane := s.chip.tickBegun_lane e z
  have himg := fun r i => s.chip.tickBegun_img e z r i
  have hsteps : (s.chip.tickBegun e z).fetchStep e = _ := Chip.fetchStep_end _ e z (by rw [hlane, hz]) (by rw [hlane, hrun]) (by rw [hlane, hstep])
    (by rw [hlane, hcyc]) (by rw [hlane, Chip.getB, Chip.getF, himg _ _ (by decide)]; exact hvalid) (by rw [hlane, s.chip.tickBegun_ter, hgood])
    (by rw [hlane, himg _ _ (by decide), hone]) (by rw [hlane, himg _ _ (by decide), hend])
  rw [hsh.lane, hsh.getF _ _ _ (by decide), s.chip.zoneExecution_steps e z hz hrun hrom, Chip.runSteps, hsteps,
    Chip.runSteps_idle _ _ _ (.inr (by simp)), Chip.lane_modLane_self, Chip.lane_modLane_self]
  exact ⟨rfl, rfl, rfl, s.chip.tickBegun_lastRun e z⟩

/-! ## The fault of a missing program -/

/-- The zone faulted: its state, and what leaving RUNNING does beside it (R160). -/
theorem Chip.faultState_aside (c : Chip) (z : Nat) :
    Aside (c.upd ZONE_STATUS z [(ZONE_STATUS.ZSTATE, zsFaulted)])
      (if c.zstate z = zsRunning then c.leaveRunning z zsFaulted else c.upd ZONE_STATUS z [(ZONE_STATUS.ZSTATE, zsFaulted)]) :=
  Aside.ite _ (Aside.leaveRunning c z _) (Aside.refl _)

/-- What a fault of a zone writes once its state is set: the code, the step and the count (R160). -/
def Chip.faultRecorded (c : Chip) (z code step : Nat) : Chip :=
  (c.upd ZONE_STATUS z [(ZONE_STATUS.FAULT_CODE, code), (ZONE_STATUS.FAULT_STEP, step)]).incSat ZONE_STATUS z ZONE_STATUS.FAULT_CNT
    ZONE_STATUS.CNT_SAT 1

/-- A fault is its record, on the zone faulted and its lane cleared, and what stands beside them. -/
theorem Chip.zoneFault_records (c : Chip) (e z code step : Nat) :
    ∃ b : Chip, Aside ((c.setLane e (c.lane e).scrubbed).upd ZONE_STATUS z [(ZONE_STATUS.ZSTATE, zsFaulted)]) b ∧
      Aside (b.faultRecorded z code step) (c.zoneFault e z code step) :=
  ⟨_, Chip.faultState_aside _ z, (Aside.restartHistory _ z).trans (Aside.of_noise (Noise.raiseZone _ _ _ _ _ _))⟩

theorem Chip.faultRecorded_shows (c : Chip) (z code step : Nat) :
    (c.faultRecorded z code step).getF ZONE_STATUS z ZONE_STATUS.ZSTATE = c.getF ZONE_STATUS z ZONE_STATUS.ZSTATE ∧
      (c.faultRecorded z code step).getF ZONE_STATUS z ZONE_STATUS.FAULT_CODE = code % 2 ^ 8 ∧
      (c.faultRecorded z code step).getF ZONE_STATUS z ZONE_STATUS.FAULT_STEP = step % 2 ^ 8 ∧
      (c.faultRecorded z code step).getF ZONE_STATUS z ZONE_STATUS.FAULT_CNT = satInc 32 (c.getF ZONE_STATUS z ZONE_STATUS.FAULT_CNT) := by
  have hcount : ∀ f, f.apart ZONE_STATUS.FAULT_CNT ∧ f.apart ZONE_STATUS.CNT_SAT → (c.faultRecorded z code step).getF ZONE_STATUS z f =
      (c.upd ZONE_STATUS z [(ZONE_STATUS.FAULT_CODE, code), (ZONE_STATUS.FAULT_STEP, step)]).getF ZONE_STATUS z f := fun f hf =>
    Chip.getF_upd_apart _ _ _ _ _ (apart_of_two hf)
  refine ⟨?_, ?_, ?_, ?_⟩
  · rw [hcount _ (by decide), Chip.getF_upd_apart _ _ _ _ _ (apart_of_two (by decide))]
  · rw [hcount _ (by decide)]
    exact Chip.getF_upd_two_fst _ _ _ _ _ _ _ (by decide)
  · rw [hcount _ (by decide)]
    exact Chip.getF_upd_two_snd _ _ _ _ _ _ _
  · refine (Chip.getF_incSat_self _ _ _ _ _ _ (by decide)).trans ?_
    rw [Chip.getF_upd_apart _ _ _ _ _ (apart_of_two (by decide))]
    rfl

/-- A fault leaves its engine empty and the zone's fault recorded (R160). -/
theorem Chip.zoneFault_faulted (c : Chip) (e z code step : Nat) :
    (c.zoneFault e z code step).zstate z = zsFaulted ∧
      (c.zoneFault e z code step).getF ZONE_STATUS z ZONE_STATUS.FAULT_CODE = code % 2 ^ 8 ∧
      (c.zoneFault e z code step).getF ZONE_STATUS z ZONE_STATUS.FAULT_STEP = step % 2 ^ 8 ∧
      (c.zoneFault e z code step).getF ZONE_STATUS z ZONE_STATUS.FAULT_CNT = satInc 32 (c.getF ZONE_STATUS z ZONE_STATUS.FAULT_CNT) ∧
      ((c.zoneFault e z code step).lane e).zone = none := by
  obtain ⟨b, hstate, hfault⟩ := c.zoneFault_records e z code step
  obtain ⟨hz, hcode, hstep, hcnt⟩ := b.faultRecorded_shows z code step
  have hF := fun f => hfault.getF ZONE_STATUS z f (by decide)
  have hB := fun f => hstate.getF ZONE_STATUS z f (by decide)
  refine ⟨?_, (hF _).trans hcode, (hF _).trans hstep, ?_, ?_⟩
  · rw [Chip.zstate, hF, hz, hB]
    exact Chip.getF_upd_one _ _ _ _ _
  · rw [hF, hcnt, hB, Chip.getF_upd_one_apart _ _ _ _ _ _ (by decide)]
    rfl
  · rw [hfault.lane, Chip.faultRecorded, Chip.incSat, Chip.lane_upd, Chip.lane_upd, hstate.lane, Chip.lane_upd, Chip.lane_setLane_self]
    rfl

/-- A fetch from a program that is not there faults the zone with code 6 (R167, R168). -/
theorem Chip.fetchStep_missing (c : Chip) (e z : Nat) (hz : (c.lane e).zone = some z) (hrun : (c.lane e).running = true)
    (hmiss : c.getB PROGRAM_INFO ((c.lane e).progIndex z) PROGRAM_INFO.VALID = false) :
    c.fetchStep e = c.zoneFault e z 6 (c.lane e).step := by
  unfold Chip.fetchStep
  dsimp only
  rw [hz]
  dsimp only
  rw [if_neg (by simp [hrun]), if_pos (by simp [hmiss])]

/-- A tick whose program is not there faults its zone at the step it stood at (R160, R168). -/
theorem zoneExecution_missing_completes (s : State) (e : Nat) (l : Lane) (z : Nat) (he : e < 256) (hl : l = (s.chip.beginTick e).lane e)
    (hz : l.zone = some z) (hrun : l.running = true) (hrom : l.rom = false) (hstep : l.step < 256)
    (hmiss : s.chip.getB PROGRAM_INFO (l.progIndex z) PROGRAM_INFO.VALID = false) :
    Completes (.zoneExecution e) s fun t => ZoneFaulted s t e z 6 l.step := by
  subst hl
  refine Completes.of_run ((exec_zoneExecution ..).trans (if_pos he)) fun t hsh => ?_
  have hlane := s.chip.tickBegun_lane e z
  have hfetch : (s.chip.tickBegun e z).fetchStep e = (s.chip.tickBegun e z).zoneFault e z 6 ((s.chip.beginTick e).lane e).step := by
    rw [Chip.fetchStep_missing _ e z (by rw [hlane, hz]) (by rw [hlane, hrun])
      (by rw [hlane, Chip.getB, Chip.getF, s.chip.tickBegun_img e z _ _ (by decide)]; exact hmiss), hlane]
  obtain ⟨hstate, hcode, hat, hcnt, hnone⟩ := (s.chip.tickBegun e z).zoneFault_faulted e z 6 ((s.chip.beginTick e).lane e).step
  rw [s.chip.zoneExecution_steps e z hz hrun hrom, Chip.runSteps, hfetch, Chip.runSteps_idle _ _ _ (.inl hnone)] at hsh
  have hF := fun f => hsh.getF ZONE_STATUS z f (by decide)
  rw [Nat.mod_eq_of_lt (show _ < 2 ^ 8 from hstep)] at hat
  rw [Chip.tickBegun_faultCnt] at hcnt
  exact ⟨(hF _).trans hstate, (hF _).trans hcode, (hF _).trans hat, (hF _).trans hcnt, by rw [hsh.lane, hnone]⟩

/-! ## The publish point -/

/-- The latch takes the demands of a completed tick of a zone that runs, else the fallback (R128, R256). -/
theorem Chip.publishPoint_latch (c : Chip) (e z : Nat) (hz : (c.lane e).zone = some z) :
    ((c.publishPoint e).zrt z).latch =
      (if (c.lane e).done = true ∧ c.zstate z = zsRunning then (c.lane e).demand else (c.zrt z).fallback) := by
  unfold Chip.publishPoint
  dsimp only
  rw [hz]
  dsimp only
  rw [Chip.zrt_modZrt_self]
  by_cases hrun : (c.lane e).done = true ∧ c.zstate z = zsRunning
  · rw [if_pos hrun, if_pos (by simp [hrun])]
    split <;> rfl
  · rw [if_neg hrun, if_neg (by simpa using hrun)]

theorem publishPoint_completes (s : State) (e : Nat) (l : Lane) (z : Nat) (he : e < 256) (hl : s.chip.lane e = l) (hz : l.zone = some z) :
    Completes (.publishPoint e) s fun t =>
      (t.chip.zrt z).latch = (if l.done ∧ s.chip.zstate z = zsRunning then l.demand else (s.chip.zrt z).fallback) := by
  subst hl
  refine Completes.of_run ((exec_publishPoint ..).trans (if_pos he)) fun t hsh => ?_
  rw [hsh.zrt, Chip.publishPoint_latch _ e z hz]

/-! ## The updates of bindings -/

/-- A field assigned once and apart from the others assigned reads the value. -/
theorem get_setFields_of_mem {f : Fld} {v : Nat} {fs : List (Fld × Nat)} (hmem : (f, v) ∈ fs) (h : ∀ p ∈ fs, p = (f, v) ∨ f.apart p.1)
    (img : Nat) : f.get (setFields fs img) = v % 2 ^ f.width := by
  induction fs generalizing img with
  | nil => exact absurd hmem (by simp)
  | cons p fs ih =>
    rw [setFields_cons]
    by_cases hin : (f, v) ∈ fs
    · exact ih hin (fun q hq => h q (List.mem_cons_of_mem _ hq)) _
    · obtain rfl : (f, v) = p := (List.mem_cons.mp hmem).resolve_right hin
      rw [get_setFields_apart _ _ _ fun q hq => (h q (List.mem_cons_of_mem _ hq)).resolve_left fun he => hin (he ▸ hq)]
      exact Fld.get_set_self _ _ _

/-- The fields of the bindings a reading is written to. -/
def bindingFields (a t : Nat) (hits : List Nat) : List (Fld × Nat) :=
  hits.flatMap fun n => [(ZONE_BINDINGS.VALUE n, a), (ZONE_BINDINGS.TIME n, t)]

theorem mem_bindingFields {a t : Nat} {hits : List Nat} {p : Fld × Nat} :
    p ∈ bindingFields a t hits ↔ ∃ n ∈ hits, p = (ZONE_BINDINGS.VALUE n, a) ∨ p = (ZONE_BINDINGS.TIME n, t) := by
  simp [bindingFields]

theorem bindingFields_value (a t : Nat) {hits : List Nat} {n : Nat} (hn : n ∈ hits) (img : Nat) :
    (ZONE_BINDINGS.VALUE n).get (setFields (bindingFields a t hits) img) = a % 2 ^ 32 := by
  refine get_setFields_of_mem (mem_bindingFields.mpr ⟨n, hn, .inl rfl⟩) (fun p hp => ?_) img
  obtain ⟨m, -, rfl | rfl⟩ := mem_bindingFields.mp hp
  · by_cases hnm : m = n
    · exact .inl (by rw [hnm])
    · exact .inr (by simp only [Fld.apart, ZONE_BINDINGS.VALUE]; omega)
  · exact .inr (by simp only [Fld.apart, ZONE_BINDINGS.VALUE, ZONE_BINDINGS.TIME]; omega)

theorem bindingFields_time (a t : Nat) {hits : List Nat} {n : Nat} (hn : n ∈ hits) (img : Nat) :
    (ZONE_BINDINGS.TIME n).get (setFields (bindingFields a t hits) img) = t % 2 ^ (ZONE_BINDINGS.TIME n).width := by
  refine get_setFields_of_mem (mem_bindingFields.mpr ⟨n, hn, .inr rfl⟩) (fun p hp => ?_) img
  obtain ⟨m, -, rfl | rfl⟩ := mem_bindingFields.mp hp
  · exact .inr (by simp only [Fld.apart, ZONE_BINDINGS.VALUE, ZONE_BINDINGS.TIME]; omega)
  · by_cases hnm : m = n
    · exact .inl (by rw [hnm])
    · exact .inr (by simp only [Fld.apart, ZONE_BINDINGS.TIME]; omega)

/-- A reading written into the bindings of one zone (R129, R338). -/
def Chip.bindZone (kind idx : Nat) (v : Int) (t : Nat) (c : Chip) (z : Nat) : Chip :=
  let hits := if c.mayBind z kind idx then c.bindsOf z kind idx else []
  if hits.isEmpty then c else c.upd ZONE_BINDINGS z (bindingFields (ofSigned 32 v) t hits)

theorem Chip.writeBinding_eq (c : Chip) (kind idx : Nat) (v : Int) (t : Nat) :
    c.writeBinding kind idx v t = c.each 1024 (Chip.bindZone kind idx v t) := rfl

theorem Chip.bindZone_keeps {γ : Type} (g : Chip → γ) (hg : ∀ (c : Chip) z fs, g (c.upd ZONE_BINDINGS z fs) = g c) (kind idx : Nat) (v : Int)
    (t : Nat) (c : Chip) (z : Nat) : g (c.bindZone kind idx v t z) = g c := by
  unfold Chip.bindZone
  exact Chip.ite_keeps g _ rfl (hg c z _)

/-- The bindings a source may write in a zone, which a change of bindings leaves. -/
theorem Chip.bindTargets_upd (c : Chip) (i z kind idx : Nat) (fs : List (Fld × Nat)) :
    (c.upd ZONE_BINDINGS i fs).mayBind z kind idx = c.mayBind z kind idx ∧
      (c.upd ZONE_BINDINGS i fs).bindsOf z kind idx = c.bindsOf z kind idx := by
  have himg : ∀ r : RecDesc, ZONE_BINDINGS.id % 0x10000 ≠ r.id % 0x10000 →
      ∀ j, (c.upd ZONE_BINDINGS i fs).img r j = c.img r j := fun r hr j =>
    Chip.img_upd_ne _ _ _ _ _ _ (recKey_ne_of_id hr _ _)
  unfold Chip.mayBind Chip.bindsOf Chip.srcOwner Chip.zoneOwner Chip.getF
  rw [himg FEED_SRC (by decide), himg AIN_CFG (by decide), himg PRS_CFG (by decide), himg KP_CFG (by decide), himg ZONE_CFG (by decide)]
  exact ⟨rfl, rfl⟩

/-- The zone's bindings to the source show the reading, where its owner may write them (R129, R338). -/
def BindingShown (z kind idx : Nat) (v : Int) (t : Nat) (c : Chip) : Prop :=
  c.mayBind z kind idx = true → ∀ n ∈ c.bindsOf z kind idx,
    c.getF ZONE_BINDINGS z (ZONE_BINDINGS.VALUE n) = ofSigned 32 v % 2 ^ 32 ∧
      c.getF ZONE_BINDINGS z (ZONE_BINDINGS.TIME n) = t % 2 ^ (ZONE_BINDINGS.TIME n).width

theorem bindZone_shown (c : Chip) (z kind idx : Nat) (v : Int) (t : Nat) : BindingShown z kind idx v t (c.bindZone kind idx v t z) := by
  unfold BindingShown
  rw [Chip.bindZone_keeps (fun d => d.mayBind z kind idx) (fun c i fs => (c.bindTargets_upd i z kind idx fs).1),
    Chip.bindZone_keeps (fun d => d.bindsOf z kind idx) (fun c i fs => (c.bindTargets_upd i z kind idx fs).2)]
  intro hmay n hn
  have hne : ¬ (c.bindsOf z kind idx).isEmpty = true := fun h => by
    rw [List.isEmpty_iff.mp h] at hn
    exact absurd hn (by simp)
  have heq : c.bindZone kind idx v t z = c.upd ZONE_BINDINGS z (bindingFields (ofSigned 32 v) t (c.bindsOf z kind idx)) := by
    unfold Chip.bindZone
    dsimp only
    rw [if_pos hmay, if_neg hne]
  rw [heq, Chip.getF, Chip.getF, Chip.img_upd_self]
  exact ⟨bindingFields_value _ _ hn _, bindingFields_time _ _ hn _⟩

theorem bindZone_preserves_shown (c : Chip) (i z kind idx : Nat) (v : Int) (t : Nat) (hi : i ≠ z) (h : BindingShown z kind idx v t c) :
    BindingShown z kind idx v t (c.bindZone kind idx v t i) := by
  have hother : ∀ fs, BindingShown z kind idx v t (c.upd ZONE_BINDINGS i fs) := fun fs => by
    unfold BindingShown Chip.getF
    rw [(c.bindTargets_upd i z kind idx fs).1, (c.bindTargets_upd i z kind idx fs).2, Chip.img_upd_ne _ _ _ _ _ _ (recKey_ne_of_inst _ hi)]
    exact h
  unfold Chip.bindZone
  dsimp only
  generalize (if c.mayBind i kind idx = true then c.bindsOf i kind idx else []) = hits
  split
  · exact h
  · exact hother _

theorem writeBinding_shown (c : Chip) (z kind idx : Nat) (v : Int) (t : Nat) (hz : z < 1024) :
    BindingShown z kind idx v t (c.writeBinding kind idx v t) := by
  rw [Chip.writeBinding_eq]
  refine Chip.eachOf_establishes (BindingShown z kind idx v t) (List.mem_range.mpr hz) (fun c i hi => ?_) c
  by_cases hiz : i = z
  · subst hiz
    exact bindZone_shown c i kind idx v t
  · exact bindZone_preserves_shown c i z kind idx v t hiz (hi.resolve_left hiz)

theorem Chip.writeBinding_keeps {γ : Type} (g : Chip → γ) (hg : ∀ (c : Chip) z fs, g (c.upd ZONE_BINDINGS z fs) = g c) (c : Chip)
    (kind idx : Nat) (v : Int) (t : Nat) : g (c.writeBinding kind idx v t) = g c :=
  Chip.each_keeps g c _ _ (Chip.bindZone_keeps g hg kind idx v t)

/-- The one reading that waits is written, and none waits any longer (R129). -/
theorem bindingUpdate_completes (s : State) (kind idx : Nat) (v : Int) (at_ : Nat) (hhold : s.chip.boot.hold = none)
    (hone : s.chip.zones.updates = [(kind, idx, v, at_)]) :
    Completes .bindingUpdate s fun t =>
      t.chip.zones.updates = [] ∧
      (∀ z n, z < 1024 → s.chip.mayBind z kind idx = true → n ∈ s.chip.bindsOf z kind idx →
        t.chip.getF ZONE_BINDINGS z (ZONE_BINDINGS.VALUE n) = ofSigned 32 v % 2 ^ 32 ∧
        t.chip.getF ZONE_BINDINGS z (ZONE_BINDINGS.TIME n) = at_ % 2 ^ (ZONE_BINDINGS.TIME n).width) := by
  refine Completes.of_run (exec_bindingUpdate s) fun t hsh => ?_
  have heq : s.chip.bindingUpdate = Chip.writeBinding { s.chip with zones.updates := [] } kind idx v at_ := by
    unfold Chip.bindingUpdate
    rw [if_neg (by simp [hhold]), hone]
    dsimp only [Chip.eachOf, List.foldl]
  rw [heq] at hsh
  refine ⟨?_, fun z n hz hmay hn => ?_⟩
  · rw [hsh.zones]
    exact Chip.writeBinding_keeps (fun d => d.zones.updates) (fun c z fs => by rw [Chip.upd_zones]) { s.chip with zones.updates := [] } _ _ _ _
  · rw [hsh.getF _ _ _ (by decide), hsh.getF _ _ _ (by decide)]
    refine writeBinding_shown _ z kind idx v at_ hz ?_ n ?_
    · rw [Chip.writeBinding_keeps (fun d => d.mayBind z kind idx) fun c i fs => (c.bindTargets_upd i z kind idx fs).1]
      exact hmay
    · rw [Chip.writeBinding_keeps (fun d => d.bindsOf z kind idx) fun c i fs => (c.bindTargets_upd i z kind idx fs).2]
      exact hn

/-- Settles O21: each row by what its meaning leaves, through the lemmas on the load, the write-back, the fetch, the fault and the bindings. -/
theorem windowsRun : Obligations.WindowsRun := by
  unfold Obligations.WindowsRun
  exact ⟨windowPortPhase_loads_completes, windowPortPhase_writesBack_completes, zoneExecution_rom_completes, zoneExecution_end_completes,
    zoneExecution_missing_completes, publishPoint_completes, bindingUpdate_completes⟩

end Sys2Proof.Machine
end

section
/-!
SUPPORT. One step of a zone program: what stands of the part outside the lane of the engine that executes it, and the step itself, checked,
charged and executed (R164, R167, R168).
-/

namespace Sys2Proof.Machine

/-! ## Outside one lane -/

/-- `d` is `c` but for the lane of engine `e`. -/
structure LaneSet (c d : Chip) (e : Nat) : Prop where
  rest : { d with zones.lane := c.zones.lane } = c
  lane : ∀ k, k ≠ e → d.lane k = c.lane k

namespace LaneSet

theorem trans {a b c : Chip} {e : Nat} (h : LaneSet a b e) (k : LaneSet b c e) : LaneSet a c e where
  rest := by rw [← h.rest, ← k.rest]
  lane j hj := (k.lane j hj).trans (h.lane j hj)

theorem modLane (c : Chip) (e : Nat) (f : Lane → Lane) : LaneSet c (c.modLane e f) e :=
  ⟨rfl, fun k hk => by rw [Chip.modLane, Chip.lane_setLane, if_neg (Ne.symm hk)]⟩

/-- A meaning that changes one lane leaves, once the lines have settled, everything else as it was. -/
theorem laneOnly {s : State} {d : Chip} {e : Nat} (h : LaneSet s.chip d e) : LaneOnly s (State.settle { s with chip := d }) e := by
  have hl := State.settle_lines { s with chip := d }
  have hlane : ∀ k, (State.settle { s with chip := d }).chip.lane k = d.lane k := (Shown.of_settle { s with chip := d }).lane
  have keeps : ∀ {γ : Type} (g : Chip → γ), (∀ x, g { d with zones.lane := x } = g d) → g d = g s.chip := fun g hg => by
    rw [← hg s.chip.zones.lane, h.rest]
  refine ⟨fun k hk => (hlane k).trans (h.lane k hk), ?_, ?_, hl.sec.trans (keeps Chip.sec fun _ => rfl), hl.time.trans (keeps Chip.time fun _ => rfl),
    hl.meter.trans (keeps Chip.meter fun _ => rfl), hl.sense.trans (keeps Chip.sense fun _ => rfl), hl.boot.trans (keeps Chip.boot fun _ => rfl),
    hl.fb.trans (keeps Chip.fb fun _ => rfl), fun hdry => ?_, rfl, fun r i hr => ?_⟩
  · exact (congrArg Zones.zone hl.zones).trans (keeps (fun c => c.zones.zone) fun _ => rfl)
  · exact (congrArg HostSide.sessions hl.host).trans (keeps (fun c => c.host.sessions) fun _ => rfl)
  · have hops : d.store.ops = [] := (keeps (fun c => c.store.ops) fun _ => rfl).trans hdry
    rw [State.settle_mem, hops, Mem.applyAll_nil]
  · exact (hl.img r i hr).trans (keeps (fun c => c.img r i) fun _ => rfl)

end LaneSet

theorem LaneSet.beginTick (c : Chip) (e : Nat) : LaneSet c (c.beginTick e) e := modLane c e _

/-! ### What a step reads of the part, with the tick begun -/

theorem Chip.beginTick_img (c : Chip) (e : Nat) (r : RecDesc) (i : Nat) : (c.beginTick e).img r i = c.img r i := rfl

@[simp] theorem Chip.beginTick_periodFx (c : Chip) (e z : Nat) : (c.beginTick e).periodFx z = c.periodFx z := rfl

@[simp] theorem Chip.beginTick_schedAt (c : Chip) (e z : Nat) (t : Int) : (c.beginTick e).schedAt z t = c.schedAt z t := rfl

@[simp] theorem Chip.beginTick_planIndex (c : Chip) (e z t : Nat) (rom : Bool) : (c.beginTick e).planIndex z t rom = c.planIndex z t rom := rfl

@[simp] theorem Chip.beginTick_planStep (c : Chip) (e z j : Nat) : (c.beginTick e).planStep z j = c.planStep z j := rfl

@[simp] theorem Chip.beginTick_rdnValue (c : Chip) (e z n t : Nat) : (c.beginTick e).rdnValue z n t = c.rdnValue z n t := rfl

/-! ## The step executed -/

/-- The fields of a step word read back (R164). -/
theorem stepOf_word {op d a b low : Nat} (hop : op < 64) (hd : d < 32) (ha : a < 32) (hb : b < 32) (hlow : low < 2048) :
    stepOf ((((op * 32 + d) * 32 + a) * 32 + b) * 2048 + low) = ⟨op, d, a, b, low, b * 2048 + low⟩ := by
  unfold stepOf
  congr 1 <;> omega

/-- Below the field `B` the field `IMM` reads as `PARM`. -/
theorem imm_mod (b low : Nat) {n : Nat} (hn : n ∣ 2048) : (b * 2048 + low) % n = low % n := by
  rw [Nat.add_mod, Nat.mod_eq_zero_of_dvd (hn.mul_left b), Nat.zero_add, Nat.mod_mod]

/-- Cycles charged for a step at a cycle of a lane: its cost, and for `MUPD` the wait (Table 5.5, R186). -/
def stepCharge (s : Step) (cycles e : Nat) : Nat := stepCost s + (if s.op = 0x2E then mupdWait cycles (e % 4) else 0)

/-- A legal step inside the budget whose operation goes on to the next is charged, and the step pointer advances (R167). -/
theorem Chip.chargeStep_next {c d : Chip} {e z img : Nat} {x : Step} (hbudget : (c.lane e).cycles + stepCharge x (c.lane e).cycles e < 2048)
    (hact : c.opStep e z img x = (d, .next)) :
    c.chargeStep e z img x true =
      d.modLane e (fun m => { m with cycles := (c.lane e).cycles + stepCharge x (c.lane e).cycles e, step := (c.lane e).step + 1 }) := by
  unfold stepCharge at hbudget
  unfold Chip.chargeStep
  dsimp only
  rw [if_neg (by decide), if_neg (by omega), hact]
  rfl

namespace StepReady

variable {s : State} {e op d a b low : Nat} {l : Lane} {z : Nat}

theorem lane (h : StepReady s e op d a b low l z) : (s.chip.beginTick e).lane e = l := by
  obtain ⟨-, -, -, -, -, hl, -⟩ := h
  exact hl.symm

theorem parm_lt (h : StepReady s e op d a b low l z) : low < 2048 := by
  obtain ⟨-, -, -, -, hlow, -⟩ := h
  exact hlow

/-- A row with the fields `B` and `PARM` executes the step. -/
theorem exec_parm (h : StepReady s e op d a b low l z) {i : Instr}
    (hi : exec i s = if e < 256 then s.run (fun c => c.zoneStep e op d a b low) else .refused .noSuchUnit) :
    exec i s = s.run (fun c => c.zoneStep e op d a b low) := hi.trans (if_pos h.1)

/-- A row with the field `IMM` executes the step with `B` above `PARM`. -/
theorem exec_imm (h : StepReady s e op d a b low l z) {i : Instr}
    (hi : exec i s =
      if e < 256 then s.run (fun c => c.zoneStep e op d a ((b * 2048 + low) / 2048) ((b * 2048 + low) % 2048)) else .refused .noSuchUnit) :
    exec i s = s.run (fun c => c.zoneStep e op d a b low) := by
  have hlow := h.parm_lt
  rw [show (b * 2048 + low) / 2048 = b by omega, show (b * 2048 + low) % 2048 = low by omega] at hi
  exact h.exec_parm hi

/-- The step passes its checks and is charged. -/
theorem zoneStep_eq (h : StepReady s e op d a b low l z) (hop : op < 64) :
    s.chip.zoneStep e op d a b low =
      (s.chip.beginTick e).chargeStep e z (s.chip.img PROGRAM_IMAGE (l.progIndex z)) ⟨op, d, a, b, low, b * 2048 + low⟩ true := by
  obtain ⟨-, hd, ha, hb, hlow, hl, hz, hrun, hrom, hstep, hcheck, -⟩ := h
  unfold Chip.zoneStep
  dsimp only
  rw [← hl, hz]
  dsimp only
  rw [if_neg (by simp [hrun, hrom]), Nat.mod_eq_of_lt hd, Nat.mod_eq_of_lt ha, Nat.mod_eq_of_lt hb, Nat.mod_eq_of_lt hlow,
    Chip.beginTick_img, hcheck, stepOf_word hop hd ha hb hlow, decide_eq_true hstep]
  rfl

/-- The step leaves what its operation leaves, with the cycles charged and the step pointer on the next step. -/
theorem zoneStep_next (h : StepReady s e op d a b low l z) (hop : op < 64) {cost : Nat}
    (hcost : stepCharge ⟨op, d, a, b, low, b * 2048 + low⟩ l.cycles e = cost) (hbudget : l.cycles + cost < 2048) {c : Chip}
    (hact : (s.chip.beginTick e).opStep e z (s.chip.img PROGRAM_IMAGE (l.progIndex z)) ⟨op, d, a, b, low, b * 2048 + low⟩ = (c, .next)) :
    s.chip.zoneStep e op d a b low = c.modLane e (fun m => { m with cycles := l.cycles + cost, step := l.step + 1 }) := by
  subst hcost
  have hl := h.lane
  rw [h.zoneStep_eq hop, Chip.chargeStep_next (by rw [hl]; exact hbudget) hact, hl]

/-- A step, but for `MUPD` with its wait, that only changes its lane, by `f`, leaves that lane charged and everything else as it was. -/
theorem completes (h : StepReady s e op d a b low l z) {i : Instr} (hi : exec i s = s.run (fun c => c.zoneStep e op d a b low)) {cost : Nat}
    {f : Lane → Lane} {m : Lane} (hop : op < 46 ∨ op = 47) (hcost : stepCost ⟨op, d, a, b, low, b * 2048 + low⟩ = cost)
    (hact : (s.chip.beginTick e).opStep e z (s.chip.img PROGRAM_IMAGE (l.progIndex z)) ⟨op, d, a, b, low, b * 2048 + low⟩ =
      (s.chip.beginTick e).lop e f) (hm : f l = m) {p : State → Prop}
    (hp : ∀ t : State, t.chip.lane e = { m with cycles := l.cycles + cost, step := l.step + 1 } → LaneOnly s t e → p t) :
    Completes i s p := by
  subst hm
  have hbudget : l.cycles + cost < 2048 := by
    obtain ⟨-, -, -, -, -, -, -, -, -, -, -, hbudget⟩ := h
    rwa [hcost] at hbudget
  have hstep := h.zoneStep_next (by omega) (by rw [stepCharge, hcost, if_neg (show op ≠ 0x2E by omega)]; rfl) hbudget hact
  have hset : LaneSet s.chip (s.chip.zoneStep e op d a b low) e := by
    rw [hstep]
    exact ((LaneSet.beginTick _ e).trans (LaneSet.modLane _ e f)).trans (LaneSet.modLane _ e _)
  refine ⟨_, hi, hp _ ?_ hset.laneOnly⟩
  rw [(Shown.of_settle { s with chip := s.chip.zoneStep e op d a b low }).lane, hstep, Chip.lane_modLane_self, Chip.lane_modLane_self, h.lane]

end StepReady

end Sys2Proof.Machine
end

section
/-!
SUPPORT. The slots, flags and words of a lane: a slot written with `Z` and `N` and with further flags (`Lane.Puts`), limits and signed words
(R164, R165).
-/

namespace Sys2Proof.Machine

/-! ## Bits of a mask -/

theorem testBit_setBit (m k j : Nat) : (setBit m k).testBit j = (decide (k = j) || m.testBit j) := by
  rw [setBit, Nat.testBit_or, Nat.testBit_two_pow, Bool.or_comm]

theorem testBit_clearBit (m k j : Nat) : (clearBit m k).testBit j = (decide (k ≠ j) && m.testBit j) := by
  unfold clearBit
  by_cases hk : m.testBit k = true
  · rw [if_pos hk, testBit_sub_of_subset j m (2 ^ k) (Nat.ge_two_pow_of_testBit hk) fun i hi => ?_, Nat.testBit_two_pow]
    · rw [Bool.and_comm, decide_not]
    · obtain rfl : k = i := by simpa [Nat.testBit_two_pow] using hi
      exact hk
  · rw [if_neg hk]
    by_cases hj : k = j
    · subst hj
      simpa using hk
    · simp [hj]

/-- The bit put reads as put, every other bit as before. -/
theorem testBit_putBit (m k j : Nat) (b : Bool) : (putBit m k b).testBit j = if k = j then b else m.testBit j := by
  cases b
  · rw [putBit, if_neg (by decide), testBit_clearBit]
    by_cases h : k = j <;> simp [h]
  · rw [putBit, if_pos rfl, testBit_setBit]
    by_cases h : k = j <;> simp [h]

theorem putBit_comm (m : Nat) {j k : Nat} (b c : Bool) (h : j ≠ k) : putBit (putBit m j b) k c = putBit (putBit m k c) j b := by
  refine Nat.eq_of_testBit_eq fun i => ?_
  simp only [testBit_putBit]
  by_cases hj : j = i
  · rw [if_pos hj, if_neg (fun hk => h (hj.trans hk.symm)), if_pos hj]
  · rw [if_neg hj, if_neg hj]

/-! ## Signed words -/

theorem toSigned_mod (w v : Nat) : toSigned w (v % 2 ^ w) = toSigned w v := by
  unfold toSigned
  rw [Nat.mod_mod]

theorem ofSigned_toSigned (w v : Nat) (h : v < 2 ^ w) : ofSigned w (toSigned w v) = v := by
  unfold ofSigned toSigned
  rw [Nat.mod_eq_of_lt h]
  split
  · rw [Int.emod_eq_of_lt (by omega) (by exact_mod_cast h), Int.toNat_natCast]
  · rw [Int.sub_emod_right, Int.emod_eq_of_lt (by omega) (by exact_mod_cast h), Int.toNat_natCast]

/-! ## Limits -/

theorem clampI_eq_max_min {lo hi : Int} (h : lo ≤ hi) (v : Int) : clampI lo hi v = max lo (min hi v) := by
  unfold clampI
  split
  · omega
  · split <;> omega

theorem sat32_eq (v : Int) : sat32 v = max (-2 ^ 31) (min (2 ^ 31 - 1) v) := clampI_eq_max_min (by decide) v

theorem sats_iff (v : Int) : sats v = true ↔ v < -2 ^ 31 ∨ 2 ^ 31 ≤ v := by
  rw [sats, bne_iff_ne, sat32_eq]
  omega

/-! ## Words of a lane -/

@[simp] theorem Lane.S_setS_self (l : Lane) (k : Nat) (v : Int) : (l.setS k v).S k = toSigned 32 (ofSigned 32 v) := by
  change toSigned 32 ((ZONE_STATE.S k).get ((ZONE_STATE.S k).set (ofSigned 32 v) l.state)) = _
  rw [Fld.get_set_self]
  exact toSigned_mod 32 _

/-! ## A slot written -/

/-- The lane `m` is `k` with `v` in slot `d` and the flags `Z` and `N` of `v` and those of `fl`; the other slots and flags are those of `l`
(R165). -/
structure Lane.Puts (l k m : Lane) (d : Nat) (v : Int) (fl : List (Nat × Bool)) : Prop where
  rest : m = { k with w := m.w, flags := m.flags }
  slot : m.W d = v
  others : ∀ j, j ≠ d → m.W j = l.W j
  zero : m.flags.testBit flZ = (v == 0)
  neg : m.flags.testBit flN = decide (v < 0)
  given : ∀ p ∈ fl, m.flags.testBit p.1 = p.2
  kept : ∀ j, 2 ≤ j → j ∉ fl.map Prod.fst → m.flags.testBit j = l.flags.testBit j

theorem flZ_ne {n : Nat} (h : 2 ≤ n) : flZ ≠ n := show 0 ≠ n by omega

theorem flN_ne {n : Nat} (h : 2 ≤ n) : flN ≠ n := show 1 ≠ n by omega

/-- `Z` and `N` written. -/
theorem Lane.testBit_zn (l : Lane) (d j : Nat) :
    (l.zn d).flags.testBit j = if flN = j then decide (l.W d < 0) else if flZ = j then l.W d == 0 else l.flags.testBit j := by
  change (putBit (putBit l.flags flZ (l.W d == 0)) flN (decide (l.W d < 0))).testBit j = _
  rw [testBit_putBit, testBit_putBit]

/-- A flag beside `Z` and `N` may be written before the slot or after it. -/
theorem Lane.put_flag (l : Lane) {n : Nat} (b : Bool) (d : Nat) (v : Int) (hn : 2 ≤ n) : (l.flag n b).put d v = (l.put d v).flag n b := by
  have hflags : ∀ f z s, putBit (putBit (putBit f n b) flZ z) flN s = putBit (putBit (putBit f flZ z) flN s) n b := fun f z s => by
    rw [putBit_comm f b z (flZ_ne hn).symm, putBit_comm _ b s (flN_ne hn).symm]
  exact congrArg (fun g => { Lane.put l d v with flags := g }) (hflags _ _ _)

theorem Lane.putSat_eq (l : Lane) (d : Nat) (v : Int) :
    l.putSat d v = if sats v then (l.put d (sat32 v)).flag flSat true else l.put d (sat32 v) := by
  unfold Lane.putSat
  dsimp only
  split
  · exact l.put_flag true d _ (by decide)
  · rfl

namespace Lane.Puts

variable {l k m : Lane} {d : Nat} {v : Int} {fl : List (Nat × Bool)}

/-- A slot whose flags `Z` and `N` are written. -/
theorem of_zn (hw : m.W d = v) (hothers : ∀ j, j ≠ d → m.W j = l.W j) (hflags : m.flags = l.flags) (hrest : m = { k with w := m.w, flags := m.flags }) :
    Puts l k (m.zn d) d v [] where
  rest := by
    have h := congrArg (fun x : Lane => { x with flags := (m.zn d).flags }) hrest
    exact h
  slot := hw
  others := hothers
  zero := by
    rw [testBit_zn, hw]
    rfl
  neg := by
    rw [testBit_zn, hw]
    rfl
  given _ hp := absurd hp (by simp)
  kept j hj _ := by rw [testBit_zn, if_neg (flN_ne hj), if_neg (flZ_ne hj), hflags]

/-- A slot left as it is. -/
theorem zn (l : Lane) (d : Nat) : Puts l l (l.zn d) d (l.W d) [] := of_zn rfl (fun _ _ => rfl) rfl rfl

/-- A slot written once the rest of the lane has become that of `k`. -/
theorem put (k : Lane) (d : Nat) (v : Int) (hw : k.w = l.w) (hflags : k.flags = l.flags) : Puts l k (k.put d v) d v [] := by
  refine of_zn (Tab.get_set_self _ _ _ _) (fun j hj => ?_) hflags rfl
  change Tab.get 0 (Tab.set 0 k.w d v) j = Tab.get 0 l.w j
  rw [Tab.get_set_ne _ _ _ _ (Ne.symm hj), hw]

/-- One flag more, beside `Z` and `N` and those written before. -/
theorem flag (h : Puts l k m d v fl) (n : Nat) (b : Bool) (hn : 2 ≤ n) (hnew : n ∉ fl.map Prod.fst) :
    Puts l k (m.flag n b) d v ((n, b) :: fl) where
  rest := by
    have hr := congrArg (fun x : Lane => { x with flags := (m.flag n b).flags }) h.rest
    exact hr
  slot := h.slot
  others := h.others
  zero := (testBit_putBit ..).trans ((if_neg (flZ_ne hn).symm).trans h.zero)
  neg := (testBit_putBit ..).trans ((if_neg (flN_ne hn).symm).trans h.neg)
  given p hp := by
    refine (testBit_putBit ..).trans ?_
    rcases List.mem_cons.mp hp with rfl | hp
    · exact if_pos rfl
    · rw [if_neg fun he => hnew (List.mem_map.mpr ⟨p, hp, he.symm⟩)]
      exact h.given p hp
  kept j hj hfree := by
    rw [List.map_cons, List.mem_cons, not_or] at hfree
    exact (testBit_putBit ..).trans ((if_neg (Ne.symm hfree.1)).trans (h.kept j hj hfree.2))

theorem put_flag (k : Lane) (d : Nat) (v : Int) (n : Nat) (b : Bool) (hw : k.w = l.w) (hflags : k.flags = l.flags) (hn : 2 ≤ n) :
    Puts l k ((k.put d v).flag n b) d v [(n, b)] := (put k d v hw hflags).flag n b hn (by simp)

theorem perm {fl' : List (Nat × Bool)} (h : Puts l k m d v fl) (hp : fl.Perm fl') : Puts l k m d v fl' :=
  { h with
    given := fun p hm => h.given p (hp.mem_iff.mpr hm)
    kept := fun j hj hfree => h.kept j hj fun hm => hfree ((hp.map Prod.fst).mem_iff.mp hm) }

theorem ite {m' : Lane} {v' : Int} {fl' : List (Nat × Bool)} (p : Prop) [Decidable p] (h : p → Puts l k m d v fl)
    (h' : ¬ p → Puts l k m' d v' fl') : Puts l k (if p then m else m') d (if p then v else v') (if p then fl else fl') := by
  by_cases hp : p
  · rw [if_pos hp, if_pos hp, if_pos hp]
    exact h hp
  · rw [if_neg hp, if_neg hp, if_neg hp]
    exact h' hp

/-- A slot written with a value limited to fx32, which sets `SAT` where it was limited (R165). -/
theorem putSat (l : Lane) (d : Nat) (v : Int) :
    Puts l l (l.putSat d v) d (max (-2 ^ 31) (min (2 ^ 31 - 1) v)) (if v < -2 ^ 31 ∨ 2 ^ 31 ≤ v then [(flSat, true)] else []) := by
  have hput : Puts l l (l.put d (sat32 v)) d (sat32 v) [] := put l d _ rfl rfl
  have h := ite (sats v = true) (fun _ => hput.flag flSat true (by decide) (by simp)) (fun _ => hput)
  rw [putSat_eq, ← sat32_eq]
  simp only [← sats_iff]
  rwa [ite_self] at h

end Lane.Puts

namespace StepReady

variable {s : State} {e op d a b low : Nat} {l : Lane} {z : Nat}

/-- A step that writes its slot and flags, and otherwise turns its lane into `k` (R165, R167). -/
theorem stepped (h : StepReady s e op d a b low l z) {i : Instr} (hi : exec i s = s.run (fun c => c.zoneStep e op d a b low)) {cost : Nat}
    {k m : Lane} {f : Lane → Lane} {v : Int} {fl : List (Nat × Bool)} (hop : op < 46 ∨ op = 47)
    (hcost : stepCost ⟨op, d, a, b, low, b * 2048 + low⟩ = cost)
    (hact : (s.chip.beginTick e).opStep e z (s.chip.img PROGRAM_IMAGE (l.progIndex z)) ⟨op, d, a, b, low, b * 2048 + low⟩ =
      (s.chip.beginTick e).lop e f)
    (hm : f l = m) (hput : Lane.Puts l k m d v fl) : Completes i s fun t => Stepped t e l k cost d v fl ∧ LaneOnly s t e := by
  refine h.completes hi hop hcost hact hm fun t hlane honly => ⟨⟨_, rfl, ?_⟩, honly⟩
  rw [hlane]
  exact ⟨congrArg (fun x : Lane => { x with cycles := l.cycles + cost, step := l.step + 1 }) hput.rest, hput.slot, hput.others, hput.zero, hput.neg,
    hput.given, hput.kept⟩

end StepReady

end Sys2Proof.Machine
end

section
/-!
PROOF. The opcodes that move words and the arithmetic opcodes (R165, R169, Table 5.5).
-/

namespace Sys2Proof.Machine

/-- Settles O26: each row by its opcode, which writes one slot with `Z` and `N`, or one state word. -/
theorem moveSteps : Obligations.MoveSteps := by
  unfold Obligations.MoveSteps
  have himm : ∀ b low, (b * 2048 + low) % 64 = low % 64 := fun b low => imm_mod b low (by decide)
  refine ⟨fun s e d a b low l z h => ?_, fun s e d a b low l z h => ?_, fun s e d a b low l z h => ?_, fun s e d a b low l z h => ?_,
    fun s e d a b low l z h => ?_, fun s e d a b low l z h => ?_, fun s e d a b low l z h => ?_⟩
  · exact h.stepped (h.exec_imm (exec_zpMov ..)) (by decide) rfl rfl rfl (.put l d _ rfl rfl)
  · exact h.stepped (h.exec_imm (exec_zpLdl ..)) (by decide) rfl rfl rfl (.put l d _ rfl rfl)
  · exact h.stepped (h.exec_imm (exec_zpLdh ..)) (by decide) rfl rfl rfl (.put l d _ rfl rfl)
  · exact h.stepped (h.exec_imm (exec_zpLdc ..)) (by decide) rfl rfl (by dsimp only; rw [himm]) (.put l d _ rfl rfl)
  · exact h.stepped (h.exec_imm (exec_zpLdp ..)) (by decide) rfl rfl (by dsimp only; rw [himm]) (.put l d _ rfl rfl)
  · exact h.stepped (h.exec_imm (exec_zpLds ..)) (by decide) rfl rfl (by dsimp only; rw [himm]) (.put l d _ rfl rfl)
  · refine h.completes (h.exec_imm (exec_zpSts ..)) (by decide) rfl rfl rfl fun t hlane honly => ?_
    rw [himm] at hlane
    exact ⟨hlane, by rw [hlane]; exact l.S_setS_self _ _, honly⟩

/-- Settles O27: each row by its opcode, which writes the exact result through the one limit of fx32. -/
theorem arithmeticSteps : Obligations.ArithmeticSteps := by
  unfold Obligations.ArithmeticSteps
  refine ⟨fun s e d a b low l z v h hv => ?_, fun s e d a b low l z v h hv => ?_, fun s e d a b low l z v h hv => ?_,
    fun s e d a b low l z v h hdiv hv => ?_, fun s e d a b low l z v h hv => ?_, fun s e d a b low l z v h hv => ?_,
    fun s e d a b low l z v h hv => ?_, fun s e d a b low l z v h hv => ?_⟩ <;> subst hv
  · exact h.stepped (h.exec_parm (exec_zpAdd ..)) (by decide) rfl rfl rfl (.putSat l d _)
  · exact h.stepped (h.exec_parm (exec_zpSub ..)) (by decide) rfl rfl rfl (.putSat l d _)
  · exact h.stepped (h.exec_parm (exec_zpMul ..)) (by decide) rfl rfl rfl (.putSat l d _)
  · refine h.stepped (h.exec_parm (exec_zpDiv ..)) (by decide) rfl (if_neg ?_) rfl (.putSat l d _)
    rwa [h.lane]
  · exact h.stepped (h.exec_imm (exec_zpAddi ..)) (by decide) rfl rfl rfl (.putSat l d _)
  · exact h.stepped (h.exec_imm (exec_zpMuli ..)) (by decide) rfl rfl rfl (.putSat l d _)
  · exact h.stepped (h.exec_imm (exec_zpAbs ..)) (by decide) rfl rfl rfl (.putSat l d _)
  · exact h.stepped (h.exec_imm (exec_zpNeg ..)) (by decide) rfl rfl rfl (.putSat l d _)

end Sys2Proof.Machine
end

section
/-!
PROOF. Tables, filters, rate limits, hysteresis and timers (R171, R172, Table 5.5).
-/

namespace Sys2Proof.Machine

/-- A value was limited exactly where it lay outside the interval. -/
theorem clampI_bne {lo hi : Int} (h : lo ≤ hi) (v : Int) : (clampI lo hi v != v) = decide (v < lo ∨ hi < v) := by
  rw [clampI_eq_max_min h, Bool.eq_iff_iff, bne_iff_ne, decide_eq_true_iff]
  omega

/-- Settles O29: each row by its opcode, which writes a slot, a flag and, but for the tables, a state word. -/
theorem dynamicSteps : Obligations.DynamicSteps := by
  unfold Obligations.DynamicSteps
  have himm : ∀ b low, (b * 2048 + low) % 64 = low % 64 := fun b low => imm_mod b low (by decide)
  refine ⟨fun s e d a b low l z g h hg => ?_, fun s e d a b low l z g h hg => ?_, fun s e d a b low l z k x al v h hk hx hal hv => ?_,
    fun s e d a b low l z k x r v h hk hx hr hv => ?_, fun s e d a b low l z k v h hk hv => ?_, fun s e d a b low l z k v h hk hv => ?_⟩
  · subst hg
    exact h.stepped (h.exec_imm (exec_zpTblc ..)) (by decide) rfl rfl (by dsimp only; rw [himm]) (.put l d _ rfl rfl)
  · subst hg
    refine h.stepped (h.exec_imm (exec_zpTblp ..)) (by decide) rfl rfl rfl ?_
    dsimp only
    rw [himm]
    cases tableRises b fun j => l.P (low % 64 + j)
    · exact .put_flag l d _ flInv true rfl rfl (by decide)
    · exact .put_flag l d _ flInv false rfl rfl (by decide)
  · have hlim : clampI 0 fxOne (l.W b) = al := (clampI_eq_max_min (by decide) _).trans hal.symm
    subst hv hx hk
    exact h.stepped (h.exec_parm (exec_zpLpf ..)) (by decide) rfl rfl (by dsimp only; rw [hlim]; rfl)
      (.put_flag (l.setS _ _) d _ flLim _ rfl rfl (by decide))
  · have hle : -r ≤ r := by omega
    subst hk
    refine h.stepped (h.exec_parm (exec_zpRate ..)) (by decide) rfl rfl ?_ (.put_flag (l.setS _ _) d _ flLim _ rfl rfl (by decide))
    dsimp only
    rw [← hr, ← hx, clampI_bne hle, clampI_eq_max_min hle, ← hv]
  · subst hv hk
    exact h.stepped (h.exec_parm (exec_zpHyst ..)) (by decide) rfl rfl rfl (.put_flag (l.setS _ _) d _ flC _ rfl rfl (by decide))
  · subst hk
    refine h.stepped (h.exec_parm (exec_zpTon ..)) (by decide) rfl rfl ?_ (.put_flag (l.setS _ _) d _ flC _ rfl rfl (by decide))
    dsimp only
    rw [Chip.beginTick_periodFx, ← hv, boolFx]
    simp only [decide_eq_true_eq]

end Sys2Proof.Machine
end

section
/-!
PROOF. The reading opcodes: bindings, occupancy, schedule, plan, system values, neighbours and the model (R173 to R180, R186).
-/

namespace Sys2Proof.Machine

/-! ## What the reading opcodes find -/

theorem getD_pair {α : Type} (x y w : α) (n : Nat) : [x, y].getD n w = if n = 0 then x else if n = 1 then y else w := by
  match n with
  | 0 => rfl
  | 1 => rfl
  | n + 2 => rfl

/-- Evidence below zero is none at all (R176). -/
theorem fdiv_fxOne_neg_iff (v : Int) : Int.fdiv v fxOne < 0 ↔ v < 0 := by
  rw [Int.fdiv_eq_ediv_of_nonneg v (by decide)]
  change v / 65536 < 0 ↔ v < 0
  omega

theorem Chip.opPlan_none {c : Chip} {e z : Nat} (x : Step) (h : c.planIndex z (c.lane e).start (c.lane e).rom = none) :
    c.opPlan e z x = c.lop e (fun l => (l.zn x.d).flag flInv true) := by
  unfold Chip.opPlan
  dsimp only
  rw [h]

/-- The value that `PLAN` reads of a plan step (R179). -/
theorem Chip.opPlan_some {c : Chip} {e z j : Nat} (x : Step) (h : c.planIndex z (c.lane e).start (c.lane e).rom = some j) :
    c.opPlan e z x = c.lop e (fun l => (l.put x.d ([centiFx (c.planStep z j).1, centiFx (c.planStep z j).2.1].getD (x.imm % 4)
      (divRound ((c.planStep z j).2.2 * 65536 : Nat) 200))).flag flInv false) := by
  unfold Chip.opPlan
  dsimp only
  rw [h, getD_pair]

/-- The ticks since the local midnight (R180). -/
theorem sub_fdiv_mul_eq_emod (v : Int) {n : Int} (hn : 0 ≤ n) : v - Int.fdiv v n * n = v % n := by
  rw [Int.fdiv_eq_ediv_of_nonneg v hn, Int.emod_def, Int.mul_comm]

/-- Settles O30: each row by its opcode; what cannot be read leaves the slot and sets its flag. -/
theorem readingSteps : Obligations.ReadingSteps := by
  unfold Obligations.ReadingSteps
  refine ⟨fun s e d a b low l z n h hn => ?_, fun s e d a b low l z n h hn => ?_, fun s e d a b low l z bs h hbs => ?_,
    fun s e d a b low l z k j ev new out h hk hj hev hnew hout => ?_, fun s e d a b low l z o h ho => ?_, fun s e d a b low l z h hplan => ?_,
    fun s e d a b low l z j p h hplan hp => ?_, fun s e d a b low l z h hsel => ?_, fun s e d a b low l z h hsel => ?_,
    fun s e d a b low l z v h hv => ?_, fun s e d a b low l z u h hu => ?_⟩
  · refine h.stepped (h.exec_imm (exec_zpRdb ..)) (by decide) rfl rfl rfl ?_
    dsimp only
    rw [imm_mod b low (by decide), ← hn]
    cases l.fresh n
    · exact (Lane.Puts.zn l d).flag flStale true (by decide) (by simp)
    · exact .put_flag l d _ flStale false rfl rfl (by decide)
  · refine h.stepped (h.exec_imm (exec_zpRdba ..)) (by decide) rfl rfl ?_ (.put_flag l d _ flStale _ rfl rfl (by decide))
    dsimp only
    rw [imm_mod b low (by decide), ← hn]
  · refine h.stepped (h.exec_imm (exec_zpPfus ..)) (by decide) rfl rfl rfl ?_
    dsimp only
    rw [← hbs]
    by_cases hnone : bs = []
    · rw [if_pos (List.isEmpty_iff.mpr hnone), if_pos hnone, decide_eq_true hnone]
      exact .put_flag l d _ flStale true rfl rfl (by decide)
    · rw [if_neg (mt List.isEmpty_iff.mp hnone), if_neg hnone, decide_eq_false hnone]
      exact .put_flag l d _ flStale false rfl rfl (by decide)
  · refine h.stepped (h.exec_parm (exec_zpOcc ..)) (by decide) rfl rfl ?_ (.put_flag _ d _ flC _ rfl rfl (by decide))
    simp only [fdiv_fxOne_neg_iff]
    rw [Chip.beginTick_periodFx, ← hk, ← hj, ← hev, ← hnew, ← hout]
  · refine h.stepped (h.exec_imm (exec_zpSched ..)) (by decide) rfl rfl ?_
      ((Lane.Puts.put_flag l d _ flC _ rfl rfl (by decide)).flag flLim _ (by decide) (by simp) |>.perm (.swap _ _ _))
    dsimp only
    rw [h.lane, Chip.beginTick_schedAt, ← ho, imm_mod b low (by decide), getD_pair]
  · refine h.stepped (h.exec_imm (exec_zpPlan ..)) (by decide) rfl (Chip.opPlan_none _ ?_) rfl
      ((Lane.Puts.zn l d).flag flInv true (by decide) (by simp))
    rw [h.lane, Chip.beginTick_planIndex, hplan]
  · subst hp
    refine h.stepped (h.exec_imm (exec_zpPlan ..)) (by decide) rfl (Chip.opPlan_some (j := j) _ ?_) ?_
      (.put_flag l d _ flInv false rfl rfl (by decide))
    · rw [h.lane, Chip.beginTick_planIndex, hplan]
    · dsimp only
      rw [imm_mod b low (by decide), Chip.beginTick_planStep]
  · refine h.stepped (h.exec_imm (exec_zpRdsys ..)) (by decide) rfl rfl ?_ (.put l d _ rfl rfl)
    dsimp only
    rw [imm_mod b low (by decide), Chip.beginTick_periodFx]
    rcases hsel with hsel | hsel | hsel <;> rw [hsel] <;> rfl
  · refine h.stepped (h.exec_imm (exec_zpRdsys ..)) (by decide) rfl rfl ?_ (.put l d _ rfl rfl)
    dsimp only
    rw [imm_mod b low (by decide), sub_fdiv_mul_eq_emod _ (by decide)]
    rcases hsel with hsel | hsel <;> rw [hsel] <;> rfl
  · refine h.stepped (h.exec_imm (exec_zpRdn ..)) (by decide) rfl rfl rfl ?_
    dsimp only
    rw [h.lane, imm_mod b low (by decide), Chip.beginTick_rdnValue, ← hv]
    cases v with
    | none => exact (Lane.Puts.zn l d).flag flStale true (by decide) (by simp)
    | some v => exact .put_flag l d v flStale false rfl rfl (by decide)
  · refine h.stepped (h.exec_imm (exec_zpMrd ..)) (by decide) rfl rfl rfl ?_
    dsimp only
    rw [imm_mod b low (by decide), hu]
    by_cases hok : l.link.mstate = 2 ∨ l.link.mstate = 3
    · rw [if_pos hok, decide_eq_true hok]
      exact .put_flag l d _ flInv false rfl rfl (by decide)
    · rw [if_neg hok, decide_eq_false hok]
      exact (Lane.Puts.zn l d).flag flInv true (by decide) (by simp)

end Sys2Proof.Machine
end

section
/-!
PROOF. The controllers, the demand ports, the alarms and the model opcodes (R181 to R186, R203, R208).
-/

namespace Sys2Proof.Machine

/-! ## Controllers -/

/-- A controller's output in its slot, with its integral and output in the state words (R181). -/
theorem Lane.Puts.piPut {l : Lane} (k : Lane) (d sb : Nat) (r : PiOut) (hw : k.w = l.w) (hflags : k.flags = l.flags) :
    Lane.Puts l ((k.setS sb r.i).setS (sb + 1) r.u) (k.piPut d sb r) d r.u ((flLim, r.lim) :: if r.sat then [(flSat, true)] else []) := by
  have hput : Lane.Puts l ((k.setS sb r.i).setS (sb + 1) r.u) (((k.setS sb r.i).setS (sb + 1) r.u).put d r.u) d r.u [] := .put _ d _ hw hflags
  unfold Lane.piPut
  dsimp only
  by_cases hsat : r.sat = true
  · rw [if_pos hsat, if_pos hsat, Lane.put_flag _ _ _ _ (by decide)]
    exact (hput.flag flSat true (by decide) (by simp)).flag flLim r.lim (by decide) (by simp)
  · rw [if_neg hsat, if_neg hsat]
    exact hput.flag flLim r.lim (by decide) (by simp)

/-- A controller that also shows in `INV` whether its gains are tuned (R182). -/
theorem Lane.Puts.piPut_inv {l : Lane} (k : Lane) (d sb : Nat) (r : PiOut) (b : Bool) (hw : k.w = l.w) (hflags : k.flags = l.flags) :
    Lane.Puts l ((k.setS sb r.i).setS (sb + 1) r.u) ((k.piPut d sb r).flag flInv b) d r.u
      ((flLim, r.lim) :: (flInv, b) :: if r.sat then [(flSat, true)] else []) := by
  refine ((Lane.Puts.piPut k d sb r hw hflags).flag flInv b (by decide) ?_).perm (.swap _ _ _)
  split <;> simp

/-- `API` is a controller step, before which a change without a bump is taken where it is marked for the family (R182, R206). -/
theorem Chip.opApi_eq {c : Chip} {e z : Nat} {x : Step} {l : Lane} {f : Nat} (hl : c.lane e = l)
    (hf : f = (if l.P (x.parm % 64) = 65536 then 1 else if l.P (x.parm % 64) = 131072 then 2 else 0)) :
    ∃ r : PiOut, c.opApi e z x = c.lop e (fun m =>
      ((if l.link.bumpless && l.link.bumpFam == f then { m with link := { m.link with bumpless := false } } else m).piPut x.d
        (2 * (x.parm / 64)) r).flag flInv (!l.link.gainsOk.testBit f)) := by
  subst hl hf
  exact ⟨_, rfl⟩

/-- A marked change without a bump is taken once (R182, R206). -/
theorem zpApi_bumpless_completes (s : State) (e d a b low : Nat) (l : Lane) (z k f : Nat) (h : StepReady s e 0x26 d a b low l z)
    (hk : k = low % 64) (hf : f = (if l.P k = 65536 then 1 else if l.P k = 131072 then 2 else 0)) (hbump : l.link.bumpless = true)
    (hfam : l.link.bumpFam = f) :
    Completes (.zpApi e d a b low) s fun t =>
      (t.chip.lane e).link.bumpless = false ∧ (t.chip.lane e).flags.testBit flInv = !l.link.gainsOk.testBit f ∧
      (t.chip.lane e).cycles = l.cycles + 28 ∧ (∀ i, i ≠ d → (t.chip.lane e).W i = l.W i) ∧ LaneOnly s t e := by
  subst hk
  obtain ⟨r, hact⟩ := Chip.opApi_eq (z := z) (x := ⟨0x26, d, a, b, low, b * 2048 + low⟩) h.lane hf
  have hmark : (l.link.bumpless && l.link.bumpFam == f) = true := by simp [hbump, hfam]
  rw [hmark] at hact
  have hput := Lane.Puts.piPut_inv (l := l) { l with link := { l.link with bumpless := false } } d (2 * (low / 64)) r
    (!l.link.gainsOk.testBit f) rfl rfl
  refine h.completes (h.exec_parm (exec_zpApi ..)) (by decide) rfl hact rfl fun t hlane honly => ?_
  rw [hlane]
  exact ⟨congrArg (fun m : Lane => m.link.bumpless) hput.rest, hput.given (flInv, !l.link.gainsOk.testBit f) (by simp), rfl, hput.others, honly⟩

/-! ## Demand ports -/

theorem Lane.port_setPort_self (l : Lane) (k q : Nat) : (l.setPort k q).port k = q % 2 ^ 16 := Fld.get_set_self _ _ _

theorem Lane.port_setPort_ne (l : Lane) {j k : Nat} (q : Nat) (h : j ≠ k) : (l.setPort k q).port j = l.port j :=
  Fld.get_set_apart _ _ _ _ (by simp only [Fld.apart]; omega)

/-- A value as q16 is the value limited to 0 and 0xFFFF (R184). -/
theorem fxQ16_mod (v : Int) : fxQ16 v % 2 ^ 16 = (max 0 (min 65535 v)).toNat := by
  unfold fxQ16
  split
  · omega
  · split <;> omega

/-- `DEM` puts a demand into its port, and `SAT` where the value is no demand (R184). -/
theorem zpDem_completes (s : State) (e d a b low : Nat) (l : Lane) (z : Nat) (v : Int) (h : StepReady s e 0x2B d a b low l z) (hv : v = l.W a) :
    Completes (.zpDem e d a (b * 2048 + low)) s fun t =>
      (t.chip.lane e).port (low % 8) = (max 0 (min 65535 v)).toNat ∧ (∀ p, p < 8 → p ≠ low % 8 → (t.chip.lane e).port p = l.port p) ∧
      (v < 0 ∨ 65536 < v → (t.chip.lane e).flags.testBit flSat = true) ∧
      (0 ≤ v ∧ v ≤ 65536 → (t.chip.lane e).flags.testBit flSat = l.flags.testBit flSat) ∧
      (∀ i, (t.chip.lane e).W i = l.W i) ∧ LaneOnly s t e := by
  refine h.completes (h.exec_imm (exec_zpDem ..)) (by decide) rfl rfl
    (m := (if v < 0 ∨ 65536 < v then l.flag flSat true else l).setPort (low % 8) (fxQ16 v)) ?_ fun t hlane honly => ?_
  · dsimp only
    rw [imm_mod b low (by decide), ← hv]
  · rw [hlane]
    refine ⟨(Lane.port_setPort_self _ _ _).trans (fxQ16_mod v), fun p _ hp => (Lane.port_setPort_ne _ _ hp).trans ?_, fun hout => ?_,
      fun hin => ?_, fun i => ?_, honly⟩
    · split <;> rfl
    · rw [if_pos hout]
      exact (testBit_putBit l.flags flSat flSat true).trans (if_pos rfl)
    · rw [if_neg (by omega)]
      rfl
    · split <;> rfl

/-! ## Alarm bits -/

theorem ofSigned_lt (w : Nat) (v : Int) : ofSigned w v < 2 ^ w := by
  have hpos : (0 : Int) < ((2 ^ w : Nat) : Int) := by exact_mod_cast Nat.two_pow_pos w
  have hlt := Int.emod_lt_of_pos v hpos
  have hnonneg := Int.emod_nonneg v hpos.ne'
  unfold ofSigned
  omega

theorem putBit_lt {m k w : Nat} (b : Bool) (hm : m < 2 ^ w) (hk : k < w) : putBit m k b < 2 ^ w := by
  refine Nat.lt_pow_two_of_testBit _ fun i hi => ?_
  rw [testBit_putBit, if_neg (by omega)]
  exact Nat.testBit_lt_two_pow (hm.trans_le (Nat.pow_le_pow_right (by decide) hi))

/-- A state word reads as the word put into it. -/
theorem Lane.word_setS (l : Lane) (k v : Nat) (h : v < 2 ^ 32) : ofSigned 32 ((l.setS k (toSigned 32 v)).S k) = v := by
  rw [Lane.S_setS_self, ofSigned_toSigned _ _ (ofSigned_lt _ _), ofSigned_toSigned _ _ h]

/-- The number of an alarm bit is above that of its word (R185). -/
theorem alarmBit_eq (b : Nat) {low : Nat} (h : low < 2048) : (b * 2048 + low) / 64 % 32 = low / 64 := by omega

/-- `ALM` is silent where its bit stands already (R185). -/
theorem zpAlm_same_completes (s : State) (e d a b low : Nat) (l : Lane) (z n k : Nat) (h : StepReady s e 0x2D d a b low l z) (hn : n = low / 64)
    (hk : k = low % 64) (hsame : (ofSigned 32 (l.S k)).testBit n = (l.W a != 0)) :
    Completes (.zpAlm e d a (b * 2048 + low)) s fun t =>
      t.chip.lane e = { l with cycles := l.cycles + 4, step := l.step + 1 } ∧ LaneOnly s t e := by
  refine h.completes (h.exec_imm (exec_zpAlm ..)) (by decide) rfl rfl (m := l) ?_ fun t hlane honly => ⟨hlane, honly⟩
  dsimp only
  rw [imm_mod b low (by decide), alarmBit_eq b h.parm_lt, ← hn, ← hk, if_pos hsame]

/-- `ALM` writes its bit and queues one event where the bit changes (R185). -/
theorem zpAlm_change_completes (s : State) (e d a b low : Nat) (l : Lane) (z n k : Nat) (h : StepReady s e 0x2D d a b low l z)
    (hn : n = low / 64) (hk : k = low % 64) (hchange : (ofSigned 32 (l.S k)).testBit n ≠ (l.W a != 0)) :
    Completes (.zpAlm e d a (b * 2048 + low)) s fun t =>
      (ofSigned 32 ((t.chip.lane e).S k)).testBit n = (l.W a != 0) ∧
      (∃ ev, (t.chip.lane e).events = l.events ++ [ev] ∧ ev.code = 0x0240 ∧ ev.sev = (if n < 16 then 1 else 2) ∧ ev.source = z) ∧
      (∀ i, (t.chip.lane e).W i = l.W i) ∧ LaneOnly s t e := by
  have hlow := h.parm_lt
  refine h.completes (h.exec_imm (exec_zpAlm ..)) (by decide) rfl rfl rfl fun t hlane honly => ?_
  rw [imm_mod b low (by decide), alarmBit_eq b hlow, ← hn, ← hk, if_neg hchange] at hlane
  rw [hlane]
  refine ⟨?_, ⟨_, rfl, rfl, rfl, rfl⟩, fun _ => rfl, honly⟩
  have hword := l.word_setS k (putBit (ofSigned 32 (l.S k)) n (l.W a != 0)) (putBit_lt _ (ofSigned_lt 32 _) (by omega))
  exact (congrArg (Nat.testBit · n) hword).trans ((testBit_putBit ..).trans (if_pos rfl))

/-! ## Tests and updates -/

theorem Chip.opAtun_none {c : Chip} {e z : Nat} (x : Step) (h : (c.zrt z).model.test = none) :
    c.opAtun e z x = c.lop e (fun l => (l.put x.d (l.W x.b)).flag flC false) := by
  unfold Chip.opAtun
  dsimp only
  rw [h]

/-- `MUPD` notes the update, gives its result and costs its wait as well (R186). -/
theorem zpMupd_completes (s : State) (e d a b low : Nat) (l : Lane) (z : Nat) (u : Chip × Int × Bool) (h : StepReady s e 0x2E d a b low l z)
    (hbudget : l.cycles + 70 + mupdWait l.cycles (e % 4) < 2048) (hu : u = (s.chip.beginTick e).modelUpdate z (l.W a)) :
    Completes (.zpMupd e d a (b * 2048 + low)) s fun t =>
      (t.chip.lane e).mupd = true ∧ (t.chip.lane e).W d = sat32 u.2.1 ∧ (t.chip.lane e).flags.testBit flInv = !u.2.2 ∧
      (t.chip.lane e).cycles = l.cycles + 70 + mupdWait l.cycles (e % 4) ∧ (t.chip.lane e).step = l.step + 1 := by
  have hstep := h.zoneStep_next (by decide) (cost := 70 + mupdWait l.cycles (e % 4)) rfl (by omega) rfl
  rw [h.lane, ← hu] at hstep
  refine Completes.of_run (h.exec_imm (exec_zpMupd ..)) fun t hsh => ?_
  rw [hsh.lane, hstep, Chip.lane_modLane_self, Chip.lane_modLane_self]
  have hput := Lane.Puts.put_flag (l := u.1.lane e) { u.1.lane e with mupd := true } d (sat32 u.2.1) flInv (!u.2.2) rfl rfl (by decide)
  exact ⟨rfl, hput.slot, hput.given _ (List.mem_singleton_self _), (Nat.add_assoc _ _ _).symm, rfl⟩

/-- Settles O31: each row by its opcode; `API` with a marked change, `DEM`, `ALM` and `MUPD` by lemmas of their own. -/
theorem controllerSteps : Obligations.ControllerSteps := by
  unfold Obligations.ControllerSteps
  refine ⟨fun s e d a b low l z k j r h hk hj hr => ?_, fun s e d a b low l z k j f g r h hk hj hf hg hbump hr => ?_,
    zpApi_bumpless_completes, fun s e d a b low l z g num ok h hg hnum hok => ?_, fun s e d a b low l z h htest => ?_,
    fun s e d a b low l z h => ?_, zpDem_completes, fun s e d a b low l z code h hcode => ?_, zpAlm_same_completes,
    zpAlm_change_completes, zpMupd_completes⟩
  · refine h.stepped (h.exec_parm (exec_zpPi ..)) (by decide) rfl rfl ?_ (.piPut l d j r rfl rfl)
    dsimp only
    rw [Chip.beginTick_periodFx, ← hk, ← hj, ← hr]
  · refine h.stepped (h.exec_parm (exec_zpApi ..)) (by decide) rfl rfl ?_ (.piPut_inv l d j r _ rfl rfl)
    have hno : (l.link.bumpless && l.link.bumpFam == f) = false := by
      rcases hbump with hbump | hbump <;> simp [hbump]
    dsimp only
    rw [h.lane, Chip.beginTick_periodFx, ← hk, ← hj, show (2 * fxOne : Int) = 131072 from rfl, ← hf, hno, ← hg]
    simp only [Bool.false_eq_true, if_false, ← hr]
  · refine h.stepped (h.exec_imm (exec_zpMff ..)) (by decide) rfl rfl rfl ?_
    dsimp only
    rw [imm_mod b low (by decide), ← hg, ← hnum, ← hok]
    cases ok
    · exact .put_flag l d _ flInv true rfl rfl (by decide)
    · rw [clampI_eq_max_min (by decide)]
      exact .put_flag l d _ flInv false rfl rfl (by decide)
  · exact h.stepped (h.exec_parm (exec_zpAtun ..)) (by decide) rfl (Chip.opAtun_none _ htest) rfl (.put_flag l d _ flC false rfl rfl (by decide))
  · exact h.completes (h.exec_imm (exec_zpPubt ..)) (by decide) rfl rfl rfl fun t hlane honly => ⟨hlane, honly⟩
  · subst hcode
    exact h.stepped (h.exec_imm (exec_zpPst ..)) (by decide) rfl rfl (by dsimp only; rw [imm_mod b low (by decide)]; rfl)
      (.put_flag l d _ flC _ rfl rfl (by decide))

end Sys2Proof.Machine
end

section
/-!
SUPPORT. The model side of a zone: what the operations on a zone's link, its model and its plan leave in the zone's run-time state, and which
records they write (R201 to R211, R222).
-/

namespace Sys2Proof.Machine

/-! ## The records an operation writes -/

/-- `d` has the records of `c` but for those listed and those that events write. -/
def Spares (ids : List Nat) (c d : Chip) : Prop := ∀ r i, r.id % 0x10000 ∉ noisyIds ++ ids → d.img r i = c.img r i

namespace Spares

variable {ids : List Nat} {c d e : Chip}

theorem refl (ids : List Nat) (c : Chip) : Spares ids c c := fun _ _ _ => rfl

theorem trans (h : Spares ids c d) (k : Spares ids d e) : Spares ids c e := fun r i hr => (k r i hr).trans (h r i hr)

theorem getF (h : Spares ids c d) {r : RecDesc} (i : Nat) (f : Fld) (hr : r.id % 0x10000 ∉ noisyIds ++ ids) :
    d.getF r i f = c.getF r i f := by rw [Chip.getF, h r i hr, Chip.getF]

theorem mono {ids' : List Nat} (h : Spares ids c d) (hsub : ids ⊆ ids') : Spares ids' c d := fun r i hr =>
  h r i fun hm => hr ((List.mem_append.mp hm).elim (List.mem_append_left _) fun hm => List.mem_append_right _ (hsub hm))

theorem of_recs (ids : List Nat) (h : d.recs = c.recs) : Spares ids c d := fun r i _ => Chip.img_congr h r i

theorem of_quiet (ids : List Nat) (h : Quiet c d) : Spares ids c d := fun r i hr => h.img r i fun hm => hr (List.mem_append_left _ hm)

theorem upd (c : Chip) (r : RecDesc) (i : Nat) (fs : List (Fld × Nat)) (hr : r.id % 0x10000 ∈ ids) : Spares ids c (c.upd r i fs) :=
  fun q j hq => Chip.img_upd_ne c r q i j fs (recKey_ne_of_id (fun h => hq (List.mem_append_right _ (h ▸ hr))) i j)

theorem clearRec (c : Chip) (r : RecDesc) (i : Nat) (hr : r.id % 0x10000 ∈ ids) : Spares ids c (c.clearRec r i) :=
  fun q j hq => Chip.img_setImg_ne c r q i j _ (recKey_ne_of_id (fun h => hq (List.mem_append_right _ (h ▸ hr))) i j)

theorem eachOf {α : Type} (c : Chip) (l : List α) (f : Chip → α → Chip) (hf : ∀ c a, Spares ids c (f c a)) : Spares ids c (c.eachOf l f) :=
  Chip.eachOf_preserves (Spares ids c) (fun d a hd => hd.trans (hf d a)) l (refl ids c)

theorem ite {a b : Chip} (p : Prop) [Decidable p] (ha : Spares ids c a) (hb : Spares ids c b) : Spares ids c (if p then a else b) := by
  split
  · exact ha
  · exact hb

end Spares

/-- A field assigned, once or more and always the same, among fields apart from it. -/
theorem Chip.getF_upd_mem (c : Chip) (r : RecDesc) (i : Nat) (f : Fld) (v : Nat) (fs : List (Fld × Nat)) (hmem : (f, v) ∈ fs)
    (hothers : ∀ p ∈ fs, p = (f, v) ∨ f.apart p.1) : (c.upd r i fs).getF r i f = v % 2 ^ f.width := by
  rw [Chip.getF, Chip.img_upd_self]
  generalize c.img r i = img
  induction fs generalizing img with
  | nil => exact absurd hmem (by simp)
  | cons p fs ih =>
    have hrest : ∀ q ∈ fs, q = (f, v) ∨ f.apart q.1 := fun q hq => hothers q (List.mem_cons_of_mem _ hq)
    rw [setFields_cons]
    by_cases hlater : (f, v) ∈ fs
    · exact ih hlater hrest _
    · obtain rfl := (List.mem_cons.mp hmem).resolve_right hlater
      rw [get_setFields_apart f fs _ fun q hq => (hrest q hq).resolve_left fun he => hlater (he ▸ hq)]
      exact Fld.get_set_self _ _ _

/-! ## Zones, links and models -/

theorem Quiet.zrt {c d : Chip} (h : Quiet c d) (z : Nat) : d.zrt z = c.zrt z := by simp only [Chip.zrt, h.zones]

@[simp] theorem Chip.zrt_upd (c : Chip) (r : RecDesc) (i : Nat) (fs : List (Fld × Nat)) (z : Nat) : (c.upd r i fs).zrt z = c.zrt z := by
  unfold Chip.zrt
  rw [Chip.upd_zones]

theorem Chip.zrt_modZrt (c : Chip) (y z : Nat) (f : ZoneRt → ZoneRt) : (c.modZrt y f).zrt z = if y = z then f (c.zrt z) else c.zrt z := by
  rw [Chip.modZrt, Chip.zrt_setZrt]
  split
  · next h => rw [h]
  · rfl

@[simp] theorem Chip.zrt_modModel (c : Chip) (z : Nat) (f : Model → Model) :
    (c.modModel z f).zrt z = { c.zrt z with model := f (c.zrt z).model } := Chip.zrt_modZrt_self c z _

/-- A change of a link is one of the zone's run-time state and of lanes. -/
theorem Chip.modLink_eq (c : Chip) (z : Nat) (f : Link → Link) :
    ∃ ls, c.modLink z f = { c.modZrt z (fun x => { x with link := f x.link }) with zones.lane := ls } := by
  unfold Chip.modLink Chip.each
  refine Chip.eachOf_preserves (fun d => ∃ ls, d = { c.modZrt z (fun x => { x with link := f x.link }) with zones.lane := ls })
    (fun d k hd => ?_) (List.range 64) ⟨_, rfl⟩
  obtain ⟨ls, rfl⟩ := hd
  dsimp only
  split
  · exact ⟨_, rfl⟩
  · exact ⟨ls, rfl⟩

/-- What a change of a link keeps: all that a change of the zone's run-time state and of lanes keeps. -/
theorem Chip.modLink_keeps {γ : Type} (g : Chip → γ) (c : Chip) (z : Nat) (f : Link → Link)
    (hg : ∀ (l : List (Nat × Lane)) (y : List (Nat × ZoneRt)), g { c with zones.zone := y, zones.lane := l } = g c) :
    g (c.modLink z f) = g c := by
  obtain ⟨ls, h⟩ := c.modLink_eq z f
  rw [h]
  exact hg ls _

@[simp] theorem Chip.zrt_modLink (c : Chip) (z : Nat) (f : Link → Link) :
    (c.modLink z f).zrt z = { c.zrt z with link := f (c.zrt z).link } := by
  obtain ⟨ls, h⟩ := c.modLink_eq z f
  rw [h]
  exact c.zrt_modZrt_self z (fun x => { x with link := f x.link })

theorem Chip.zrt_modLink_ne (c : Chip) {y z : Nat} (f : Link → Link) (h : y ≠ z) : (c.modLink y f).zrt z = c.zrt z := by
  obtain ⟨ls, heq⟩ := c.modLink_eq y f
  rw [heq]
  exact (c.zrt_modZrt y z (fun x => { x with link := f x.link })).trans (if_neg h)

@[simp] theorem Chip.modLink_time (c : Chip) (z : Nat) (f : Link → Link) : (c.modLink z f).time = c.time :=
  Chip.modLink_keeps Chip.time c z f fun _ _ => rfl

theorem Spares.modLink (ids : List Nat) (c : Chip) (z : Nat) (f : Link → Link) : Spares ids c (c.modLink z f) :=
  Spares.of_recs ids (Chip.modLink_keeps Chip.recs c z f fun _ _ => rfl)

theorem Spares.modModel (ids : List Nat) (c : Chip) (z : Nat) (f : Model → Model) : Spares ids c (c.modModel z f) := Spares.of_recs ids rfl

theorem Spares.modZrt (ids : List Nat) (c : Chip) (z : Nat) (f : ZoneRt → ZoneRt) : Spares ids c (c.modZrt z f) := Spares.of_recs ids rfl

/-- The arbiter's pairs are beside the records. -/
theorem Spares.fights (ids : List Nat) (c : Chip) (l : List Fight) : Spares ids c { c with zones.fights := l } := Spares.of_recs ids rfl

/-! ## Tests -/

/-- A test ended writes the status of the tuning. -/
theorem Spares.endTest (c : Chip) (z cause : Nat) : Spares [TUNE_STATUS.id] c (c.endTest z cause) := by
  unfold Chip.endTest
  dsimp only
  split
  · exact Spares.modModel _ c z _
  · exact ((((Spares.modModel _ c z _).trans (Spares.modModel _ _ z _)).trans (Spares.modLink _ _ z _)).trans
      (Spares.upd _ _ _ _ (by decide))).trans (Spares.of_quiet _ (Quiet.raiseZone _ _ _ _ _ _))

/-- A zone whose test ended has none, running or due; of its link the relay's fields alone change. -/
theorem Chip.endTest_zrt (c : Chip) (z cause : Nat) :
    ∃ f b, (c.endTest z cause).zrt z = { c.zrt z with
      model := { (c.zrt z).model with test := none, testDue := none }, link := { (c.zrt z).link with relayFam := f, relayHigh := b } } := by
  unfold Chip.endTest
  dsimp only
  rw [Chip.zrt_modModel]
  dsimp only
  cases htest : (c.zrt z).model.test with
  | none => exact ⟨(c.zrt z).link.relayFam, (c.zrt z).link.relayHigh, by rw [Chip.zrt_modModel, ← htest]⟩
  | some r =>
    refine ⟨3, false, ?_⟩
    dsimp only
    rw [(Quiet.raiseZone _ _ _ _ _ _).zrt, Chip.zrt_upd, Chip.zrt_modLink, Chip.zrt_modModel, Chip.zrt_modModel]

/-- A running test that ends shows `FAILED` and its cause (Table 6.17). -/
theorem Chip.endTest_shows (c : Chip) (z cause : Nat) (r : Relay) (htest : (c.zrt z).model.test = some r) :
    (c.endTest z cause).getF TUNE_STATUS z (TUNE_STATUS.TSTATE r.fam) = 3 ∧
      (c.endTest z cause).getF TUNE_STATUS z (TUNE_STATUS.CAUSE r.fam) = cause % 256 := by
  unfold Chip.endTest
  dsimp only
  rw [Chip.zrt_modModel]
  dsimp only
  rw [htest]
  dsimp only
  rw [(Quiet.raiseZone _ _ _ _ _ _).getF _ _ _ (by decide), (Quiet.raiseZone _ _ _ _ _ _).getF _ _ _ (by decide)]
  refine ⟨Chip.getF_upd_two_fst _ _ _ _ _ _ _ (.inl ?_), Chip.getF_upd_two_snd _ _ _ _ _ _ _⟩
  simp only [TUNE_STATUS.TSTATE, TUNE_STATUS.CAUSE]
  omega

/-! ## The state of a model -/

theorem Spares.setMState (c : Chip) (z new owner : Nat) : Spares [ MODEL_COEF.id] c (c.setMState z new owner) := by
  unfold Chip.setMState
  dsimp only
  refine Spares.ite _ (Spares.refl _ c) ?_
  have hraise : ∀ (d : Chip) code sev l k aud, Spares [ MODEL_COEF.id] d (d.raiseMasked code sev z l k aud) := fun d code sev l k aud =>
    Spares.of_quiet _ (Quiet.raiseMasked d code sev z l k aud)
  refine Spares.trans (Spares.trans ?_ (hraise _ _ _ _ _ _)) (Spares.ite _ (hraise _ _ _ _ _ _) (Spares.refl _ _))
  exact ((Spares.modLink _ c z _).trans (Spares.modModel _ _ z _)).trans (Spares.upd _ _ _ _ (by decide))

/-- The part with a model's state entered anew, before the events that tell of it (Table 6.5). -/
def Chip.mstateEntered (c : Chip) (z new : Nat) : Chip :=
  let c := c.modLink z (fun k => { k with mstate := new })
  let c := c.modModel z (fun m => { m with heldSince := if new = 3 then some c.now else none })
  c.upd MODEL_COEF z [(MODEL_COEF.MSTATE, new), (MODEL_COEF.SINCE, c.now), (MODEL_COEF.VALID, if new = 2 ∨ new = 3 then 1 else 0)]

theorem Chip.setMState_quiet (c : Chip) (z new owner : Nat) (hne : (c.zrt z).link.mstate ≠ new) :
    Quiet (c.mstateEntered z new) (c.setMState z new owner) := by
  unfold Chip.setMState
  dsimp only
  rw [if_neg hne]
  split
  · exact (Quiet.raiseMasked _ _ _ _ _ _ _).trans (Quiet.raiseMasked _ _ _ _ _ _ _)
  · exact Quiet.raiseMasked _ _ _ _ _ _ _

/-- The link has the state that was set; of the model `heldSince` alone changes. -/
theorem Chip.setMState_zrt (c : Chip) (z new owner : Nat) :
    ∃ h, (c.setMState z new owner).zrt z = { c.zrt z with
      link := { (c.zrt z).link with mstate := new }, model := { (c.zrt z).model with heldSince := h } } := by
  by_cases hne : (c.zrt z).link.mstate = new
  · refine ⟨(c.zrt z).model.heldSince, ?_⟩
    rw [Chip.setMState, if_pos hne, ← hne]
  · rw [(c.setMState_quiet z new owner hne).zrt, Chip.mstateEntered]
    dsimp only
    rw [Chip.zrt_upd, Chip.zrt_modModel, Chip.zrt_modLink]
    exact ⟨_, rfl⟩

/-- A state entered anew shows, valid in VALID and HELD alone (Table 6.5). -/
theorem Chip.setMState_shows (c : Chip) (z new owner : Nat) (hne : (c.zrt z).link.mstate ≠ new) :
    (c.setMState z new owner).getF MODEL_COEF z MODEL_COEF.MSTATE = new % 256 ∧
      (c.setMState z new owner).getF MODEL_COEF z MODEL_COEF.VALID = (if new = 2 ∨ new = 3 then 1 else 0) := by
  have hq := c.setMState_quiet z new owner hne
  rw [hq.getF _ _ _ (by decide), hq.getF _ _ _ (by decide)]
  refine ⟨Chip.getF_upd_append _ _ _ _ _ [] _ (apart_of_two (by decide)), (Chip.getF_upd_append _ _ _ _ _ [_, _] [] (by simp)).trans ?_⟩
  split <;> rfl

/-- The other fields of the model's record stay when a state is set. -/
theorem Chip.setMState_getF (c : Chip) (z new owner : Nat) (f : Fld)
    (hf : f.apart MODEL_COEF.MSTATE ∧ f.apart MODEL_COEF.SINCE ∧ f.apart MODEL_COEF.VALID) :
    (c.setMState z new owner).getF MODEL_COEF z f = c.getF MODEL_COEF z f := by
  by_cases hne : (c.zrt z).link.mstate = new
  · rw [Chip.setMState, if_pos hne]
  · rw [(c.setMState_quiet z new owner hne).getF _ _ _ (by decide), Chip.mstateEntered,
      Chip.getF_upd_apart _ _ _ _ _ (List.forall_mem_cons.mpr ⟨hf.1, apart_of_two hf.2⟩)]
    exact ((Spares.modLink [] c z _).trans (Spares.modModel [] _ z _)).getF _ _ (by decide)

/-! ## Gains, plans and estimates -/

theorem Spares.showGains (c : Chip) (z f : Nat) : Spares [TUNE_STATUS.id] c (c.showGains z f) := Spares.upd _ _ _ _ (by decide)

theorem Chip.showGains_zrt (c : Chip) (z f : Nat) : (c.showGains z f).zrt z = c.zrt z := Chip.zrt_upd _ _ _ _ _

/-- The gains shown of a family leave the states of the tests. -/
theorem Chip.showGains_tstate (c : Chip) (z f k : Nat) :
    (c.showGains z f).getF TUNE_STATUS z (TUNE_STATUS.TSTATE k) = c.getF TUNE_STATUS z (TUNE_STATUS.TSTATE k) := by
  refine Chip.getF_upd_apart _ _ _ _ _ (List.forall_mem_cons.mpr ⟨?_, apart_of_two ⟨?_, ?_⟩⟩) <;>
    simp only [Fld.apart, TUNE_STATUS.TSTATE, TUNE_STATUS.SOURCE, TUNE_STATUS.KP, TUNE_STATUS.TI] <;> omega

theorem Spares.modelGainsEnd (c : Chip) (z : Nat) : Spares [TUNE_STATUS.id] c (c.modelGainsEnd z) := by
  unfold Chip.modelGainsEnd
  exact Spares.eachOf c _ _ fun d f => Spares.ite _ ((Spares.modLink _ d z _).trans (Spares.showGains _ z f)) (Spares.refl _ d)

/-- The end of the model's gains changes the gains of the link alone (R211). -/
theorem Chip.modelGainsEnd_zrt (c : Chip) (z : Nat) :
    ∃ g k m, (c.modelGainsEnd z).zrt z = { c.zrt z with link := { (c.zrt z).link with gains := g, gainsOk := k, gainsModel := m } } := by
  unfold Chip.modelGainsEnd
  refine Chip.eachOf_preserves
    (fun d => ∃ g k m, d.zrt z = { c.zrt z with link := { (c.zrt z).link with gains := g, gainsOk := k, gainsModel := m } })
    (fun d f hd => ?_) _ ⟨_, _, _, rfl⟩
  obtain ⟨g, k, m, hd⟩ := hd
  dsimp only
  split
  · rw [Chip.showGains_zrt, Chip.zrt_modLink, hd]
    split <;> exact ⟨_, _, _, rfl⟩
  · exact ⟨g, k, m, hd⟩

theorem Spares.planInvalid (c : Chip) (z : Nat) : Spares [ZONE_PLAN.id] c (c.planInvalid z) := by
  unfold Chip.planInvalid
  exact (((Spares.upd c _ _ _ (by decide)).trans (Spares.fights _ _ _)).trans (Spares.modLink _ _ z _)).trans (Spares.modZrt _ _ z _)

theorem Chip.planInvalid_zrt (c : Chip) (z : Nat) :
    (c.planInvalid z).zrt z = { c.zrt z with link := { (c.zrt z).link with planOk := false }, offs := [] } := by
  have hfights : ∀ (d : Chip) l, ({ d with zones.fights := l } : Chip).zrt z = d.zrt z := fun _ _ => rfl
  unfold Chip.planInvalid
  dsimp only
  rw [Chip.zrt_modZrt_self, Chip.zrt_modLink, hfights, Chip.zrt_upd]

theorem Chip.planInvalid_pstate (c : Chip) (z : Nat) : (c.planInvalid z).getF ZONE_PLAN z ZONE_PLAN.PSTATE = 0 := by
  unfold Chip.planInvalid
  dsimp only
  rw [(Spares.modZrt [] _ z _).getF _ _ (by decide), (Spares.modLink [] _ z _).getF _ _ (by decide), (Spares.fights [] _ _).getF _ _ (by decide)]
  exact Chip.getF_upd_append _ _ _ _ _ [] _ (List.forall_mem_cons.mpr ⟨by decide, apart_of_two (by decide)⟩)

theorem Spares.dropRound (ids : List Nat) (c : Chip) (z : Nat) : Spares ids c (c.dropRound z) := Spares.of_recs ids rfl

theorem Chip.dropRound_zrt (c : Chip) (z y : Nat) : (c.dropRound z).zrt y = c.zrt y := rfl

theorem Spares.modelLost (c : Chip) (z new owner : Nat) :
    Spares [ MODEL_COEF.id, TUNE_STATUS.id, ZONE_PLAN.id] c (c.modelLost z new owner) := by
  unfold Chip.modelLost
  exact (((Spares.setMState c z new owner).mono (by simp)).trans ((Spares.modelGainsEnd _ z).mono (by simp))).trans
    ((Spares.planInvalid _ z).mono (by simp))

/-- A model lost has its new state, and no plan (R205, R222). -/
theorem Chip.modelLost_zrt (c : Chip) (z new owner : Nat) :
    ((c.modelLost z new owner).zrt z).link.mstate = new ∧ ((c.modelLost z new owner).zrt z).link.planOk = false := by
  unfold Chip.modelLost
  obtain ⟨h, hstate⟩ := c.setMState_zrt z new owner
  obtain ⟨g, k, m, hgains⟩ := (c.setMState z new owner).modelGainsEnd_zrt z
  rw [Chip.planInvalid_zrt, hgains, hstate]
  exact ⟨rfl, rfl⟩

/-- Of the model's record a lost model writes what setting its state writes. -/
theorem Chip.modelLost_coef (c : Chip) (z new owner : Nat) (f : Fld) :
    (c.modelLost z new owner).getF MODEL_COEF z f = (c.setMState z new owner).getF MODEL_COEF z f := by
  unfold Chip.modelLost
  rw [(Spares.planInvalid _ z).getF _ _ (by decide), (Spares.modelGainsEnd _ z).getF _ _ (by decide)]

theorem Spares.resetEstimate (c : Chip) (z : Nat) : Spares [ MODEL_COEF.id] c (c.resetEstimate z) := by
  unfold Chip.resetEstimate
  exact ((Spares.modModel _ c z _).trans (Spares.modLink _ _ z _)).trans (Spares.upd _ _ _ _ (by decide))

theorem Chip.resetEstimate_zrt (c : Chip) (z : Nat) :
    (c.resetEstimate z).zrt z = { c.zrt z with
      model := { (c.zrt z).model with theta := [], cov := [] }, link := { (c.zrt z).link with pubSeq := 0 } } := by
  unfold Chip.resetEstimate
  dsimp only
  rw [Chip.zrt_upd, Chip.zrt_modLink, Chip.zrt_modModel]

theorem Chip.resetEstimate_updates (c : Chip) (z : Nat) : (c.resetEstimate z).getF MODEL_COEF z MODEL_COEF.UPDATES = 0 :=
  Chip.getF_upd_two_fst _ _ _ _ _ _ _ (by decide)

theorem Spares.clearBlock (c : Chip) (z : Nat) : Spares [ MODEL_COEF.id] c (c.clearBlock z) := by
  unfold Chip.clearBlock
  exact (Spares.modModel _ c z _).trans (Spares.upd _ _ _ _ (by decide))

theorem Chip.clearBlock_zrt (c : Chip) (z : Nat) :
    (c.clearBlock z).zrt z = { c.zrt z with model := { (c.zrt z).model with published := none } } := by
  unfold Chip.clearBlock
  dsimp only
  rw [Chip.zrt_upd, Chip.zrt_modModel]

theorem Chip.clearBlock_updates (c : Chip) (z : Nat) :
    (c.clearBlock z).getF MODEL_COEF z MODEL_COEF.UPDATES = c.getF MODEL_COEF z MODEL_COEF.UPDATES := by
  refine Chip.getF_upd_apart _ _ _ _ _ fun p hp => .inl ?_
  rcases List.mem_append.mp hp with hp | hp <;> obtain ⟨k, -, rfl⟩ := List.mem_map.mp hp <;>
    simp only [ MODEL_COEF.UPDATES, MODEL_COEF.COEF, MODEL_COEF.GN] <;> omega

theorem Chip.clearBlock_coef (c : Chip) (z i : Nat) (hi : i < 16) : (c.clearBlock z).getF MODEL_COEF z (MODEL_COEF.COEF i) = 0 := by
  refine Chip.getF_upd_mem _ _ _ _ 0 _ (List.mem_append_left _ (List.mem_map.mpr ⟨i, List.mem_range.mpr hi, rfl⟩)) fun p hp => ?_
  rcases List.mem_append.mp hp with hp | hp <;> obtain ⟨k, hk, rfl⟩ := List.mem_map.mp hp
  · by_cases hki : k = i
    · exact .inl (by rw [hki])
    · refine .inr ?_
      simp only [Fld.apart, MODEL_COEF.COEF]
      omega
  · refine .inr (.inl ?_)
    simp only [ MODEL_COEF.COEF, MODEL_COEF.GN]
    omega

end Sys2Proof.Machine
end

section
/-!
PROOF. The identification unit (R201 to R209, R229, R231, R239): the rows that time brings, relay tests, resets, the configuration and the
archive.
-/

namespace Sys2Proof.Machine

/-! ## Held models and neighbours -/

theorem modelHeldTimeout_completes (s : State) (z h : Nat) (hz : z < 1024) (hheld : (s.chip.zrt z).model.heldSince = some h)
    (hstate : (s.chip.zrt z).link.mstate = 3) (hdue : h + 86400 * ticksPerSecond ≤ s.chip.now) :
    Completes (.modelHeldTimeout z) s fun t =>
      (t.chip.zrt z).link.mstate = 4 ∧ t.chip.getF MODEL_COEF z MODEL_COEF.MSTATE = 4 ∧ t.chip.getF MODEL_COEF z MODEL_COEF.VALID = 0 ∧
      t.chip.getF ZONE_PLAN z ZONE_PLAN.PSTATE = 0 ∧ (t.chip.zrt z).link.planOk = false := by
  refine Completes.of_run ((exec_modelHeldTimeout ..).trans (if_pos hz)) fun t hsh => ?_
  have hlost : s.chip.modelHeldTimeout z = s.chip.modelLost z 4 (s.chip.zoneOwner z) := by
    unfold Chip.modelHeldTimeout
    rw [hheld]
    exact if_pos ⟨hstate, hdue⟩
  rw [hlost] at hsh
  obtain ⟨hmstate, hplan⟩ := s.chip.modelLost_zrt z 4 (s.chip.zoneOwner z)
  obtain ⟨hshown, hvalid⟩ := s.chip.setMState_shows z 4 (s.chip.zoneOwner z) (by rw [hstate]; decide)
  rw [hsh.zrt, hsh.getF _ _ _ (by decide), hsh.getF _ _ _ (by decide), hsh.getF _ _ _ (by decide), Chip.modelLost_coef, Chip.modelLost_coef]
  exact ⟨hmstate, hshown, hvalid, Chip.planInvalid_pstate _ z, hplan⟩

/-- A neighbour whose freshness has not changed is noted as it stood. -/
theorem Chip.trackNeigh_same (c : Chip) (z n loadAt : Nat) (x : Neigh) (hx : x = Tab.get { since := c.now } (c.zrt z).model.neigh n)
    (hfresh : x.fresh = (c.nbValue z n loadAt).isSome) : Tab.get {} ((c.trackNeigh z n loadAt).zrt z).model.neigh n = x := by
  unfold Chip.trackNeigh
  dsimp only
  rw [Chip.zrt_modModel]
  dsimp only
  rw [Tab.get_set_self, ← hx, if_pos hfresh]

theorem Chip.neighbourDrop_due (c : Chip) (z n : Nat) (x : Neigh) (hin : c.nbIncluded z n = true) (hfull : lvFull ≤ c.level)
    (hx : x = Tab.get { since := c.now } (c.zrt z).model.neigh n) (hfresh : x.fresh = (c.nbValue z n c.up).isSome)
    (hdue : x.since + 600 * ticksPerSecond ≤ c.now) :
    c.neighbourDrop z n = (c.trackNeigh z n c.up).upd MODEL_COEF z
      [(MODEL_COEF.NB_DROPPED, putBit (c.getF MODEL_COEF z MODEL_COEF.NB_DROPPED) n !x.fresh)] := by
  have hguard : ¬ (!c.nbIncluded z n || decide (c.level < lvFull)) = true := by simp [hin, hfull]
  unfold Chip.neighbourDrop
  rw [if_neg hguard]
  dsimp only
  rw [Chip.trackNeigh_same c z n c.up x hx hfresh]
  exact if_neg (Nat.not_lt.mpr hdue)

theorem neighbourDrop_completes (s : State) (z n : Nat) (x : Neigh) (hz : z < 1024) (hn : n < 8) (hin : s.chip.nbIncluded z n = true)
    (hfull : lvFull ≤ s.chip.level) (hx : x = Tab.get { since := s.chip.now } (s.chip.zrt z).model.neigh n)
    (hfresh : x.fresh = (s.chip.nbValue z n s.chip.up).isSome) (hdue : x.since + 600 * ticksPerSecond ≤ s.chip.now) :
    Completes (.neighbourDrop z n) s fun t =>
      t.chip.nbDropped z n = !x.fresh ∧ (∀ k, k ≠ n → t.chip.nbDropped z k = s.chip.nbDropped z k) := by
  refine Completes.of_run ((exec_neighbourDrop ..).trans (if_pos ⟨hz, hn⟩)) fun t hsh => ?_
  rw [Chip.neighbourDrop_due s.chip z n x hin hfull hx hfresh hdue] at hsh
  have hlt : putBit (s.chip.getF MODEL_COEF z MODEL_COEF.NB_DROPPED) n (!x.fresh) < 2 ^ MODEL_COEF.NB_DROPPED.width :=
    putBit_lt _ (Fld.get_lt _ _) hn
  unfold Chip.nbDropped
  rw [hsh.getF _ _ _ (by decide), Chip.getF_upd_one, Nat.mod_eq_of_lt hlt]
  exact ⟨(testBit_putBit ..).trans (if_pos rfl), fun k hk => (testBit_putBit ..).trans (if_neg hk.symm)⟩

/-! ## Relay tests -/

/-- A relay test that starts is the zone's test, and shows as running (R207). -/
theorem Chip.relayStart_shows (c : Chip) (z f : Nat) :
    ((c.relayStart z f).zrt z).model.test = some { fam := f, start := c.now } ∧
      (c.relayStart z f).getF TUNE_STATUS z (TUNE_STATUS.TSTATE f) = 1 := by
  unfold Chip.relayStart
  dsimp only
  refine ⟨?_, Chip.getF_upd_one _ _ _ _ _⟩
  rw [Chip.zrt_upd, Chip.zrt_modModel]
  dsimp only
  rw [Chip.now, Chip.modLink_time, Chip.now]

theorem Chip.autoTuneStart_lowest (c : Chip) (z f : Nat) (hauto : c.getB MODEL_CFG z MODEL_CFG.AUTO_TUNE = true)
    (htest : (c.zrt z).model.test = none) (husable : c.modelUsable z = false) (hrun : c.zstate z = zsRunning) (hfull : c.level = lvFull)
    (hmode : (c.schedAt z c.localTime).mode = 0) (hf : f < 3)
    (hlower : ∀ k, k < f → (c.zrt z).link.gainsOk.testBit k = true ∨ c.famPort z k = 0xFF)
    (hgains : (c.zrt z).link.gainsOk.testBit f = false) (hport : c.famPort z f ≠ 0xFF) : c.autoTuneStart z = c.relayStart z f := by
  have hfind : (List.range 3).find? (fun f => !(c.zrt z).link.gainsOk.testBit f && c.famPort z f != 0xFF) = some f := by
    refine List.find?_range_eq_some.mpr ⟨by simp [hgains, hport], List.mem_range.mpr hf, fun k hk => ?_⟩
    rcases hlower k hk with h | h <;> simp [h]
  unfold Chip.autoTuneStart
  dsimp only
  rw [hfind, hauto, htest, husable, hrun, hfull, hmode]
  rfl

theorem autoTuneStart_completes (s : State) (z f : Nat) (hz : z < 1024) (hauto : s.chip.getB MODEL_CFG z MODEL_CFG.AUTO_TUNE = true)
    (htest : (s.chip.zrt z).model.test = none) (husable : s.chip.modelUsable z = false) (hrun : s.chip.zstate z = zsRunning)
    (hfull : s.chip.level = lvFull) (hmode : (s.chip.schedAt z s.chip.localTime).mode = 0) (hf : f < 3)
    (hlower : ∀ k, k < f → (s.chip.zrt z).link.gainsOk.testBit k = true ∨ s.chip.famPort z k = 0xFF)
    (hgains : (s.chip.zrt z).link.gainsOk.testBit f = false) (hport : s.chip.famPort z f ≠ 0xFF) :
    Completes (.autoTuneStart z) s fun t =>
      (t.chip.zrt z).model.test = some { fam := f, start := s.chip.now } ∧ t.chip.getF TUNE_STATUS z (TUNE_STATUS.TSTATE f) = 1 := by
  refine Completes.of_run ((exec_autoTuneStart ..).trans (if_pos hz)) fun t hsh => ?_
  rw [s.chip.autoTuneStart_lowest z f hauto htest husable hrun hfull hmode hf hlower hgains hport] at hsh
  rw [hsh.zrt, hsh.getF _ _ _ (by decide)]
  exact s.chip.relayStart_shows z f

/-- A test that is over its time or below Full service ends, with `TIER` before `TIMEOUT` (R209, Table 6.7). -/
theorem Chip.relayTestEnd_due (c : Chip) (z : Nat) (r : Relay) (htest : (c.zrt z).model.test = some r)
    (hdue : c.level < lvFull ∨ r.start + c.getF MODEL_CFG z MODEL_CFG.TUNE_MAX_H * 3600 * ticksPerSecond ≤ c.now) :
    c.relayTestEnd z = c.endTest z (if c.level < lvFull then 5 else 2) := by
  unfold Chip.relayTestEnd
  rw [htest]
  dsimp only
  by_cases hlow : c.level < lvFull
  · rw [if_pos hlow, if_pos hlow]
  · rw [if_neg hlow, if_neg hlow, if_pos (hdue.resolve_left hlow)]

/-- A test that ends leaves no test, and shows `FAILED` with its cause. -/
theorem Shown.of_endTest {c d : Chip} {z cause : Nat} (h : Shown (c.endTest z cause) d) {r : Relay} (htest : (c.zrt z).model.test = some r) :
    (d.zrt z).model.test = none ∧ d.getF TUNE_STATUS z (TUNE_STATUS.TSTATE r.fam) = 3 ∧
      d.getF TUNE_STATUS z (TUNE_STATUS.CAUSE r.fam) = cause % 256 := by
  obtain ⟨f, b, hzrt⟩ := c.endTest_zrt z cause
  rw [h.zrt, h.getF _ _ _ (by decide), h.getF _ _ _ (by decide), hzrt]
  exact ⟨rfl, c.endTest_shows z cause r htest⟩

theorem relayTestEnd_completes (s : State) (z : Nat) (r : Relay) (hz : z < 1024) (htest : (s.chip.zrt z).model.test = some r)
    (hdue : s.chip.level < lvFull ∨ r.start + s.chip.getF MODEL_CFG z MODEL_CFG.TUNE_MAX_H * 3600 * ticksPerSecond ≤ s.chip.now) :
    Completes (.relayTestEnd z) s fun t =>
      (t.chip.zrt z).model.test = none ∧ t.chip.getF TUNE_STATUS z (TUNE_STATUS.TSTATE r.fam) = 3 ∧
      t.chip.getF TUNE_STATUS z (TUNE_STATUS.CAUSE r.fam) = (if s.chip.level < lvFull then 5 else 2) := by
  refine Completes.of_run ((exec_relayTestEnd ..).trans (if_pos hz)) fun t hsh => ?_
  rw [s.chip.relayTestEnd_due z r htest hdue] at hsh
  obtain ⟨hnone, hstate, hcause⟩ := hsh.of_endTest htest
  refine ⟨hnone, hstate, hcause.trans ?_⟩
  split <;> rfl

theorem tuneStart_completes {s : State} {h : Hdr} {x : Ctx} {z fam : Nat} (hs : Served s h tuneStartSpec x) (hz : z < 1024) (hfam : fam < 3)
    (hrsv : h.prsv = 0) (hrun : s.chip.zstate z = zsRunning) (htest : (s.chip.zrt z).model.test = none)
    (hdue : (s.chip.zrt z).model.testDue = none) (hport : s.chip.famPort z fam ≠ 0xFF) :
    Completes (.tuneStart h z fam) s fun t => (t.chip.zrt z).model.testDue = some fam := by
  refine hs.completes (exec_tuneStart ..) fun d hd _ => ?_
  have hstate : d.zstate z = zsRunning := (hd.quiet.getF _ _ _ (by decide)).trans hrun
  have hfamPort : d.famPort z fam ≠ 0xFF := by
    rw [Chip.famPort, hd.quiet.getF _ _ _ (by decide)]
    exact hport
  rw [checks_pass]
  · refine ⟨rfl, fun t hsh => ?_⟩
    rw [hsh.zrt, Chip.zrt_modModel]
  · simp [hrsv, hstate, hd.quiet.zrt, htest, hdue, hfamPort]
    omega

theorem tuneAbort_completes {s : State} {h : Hdr} {x : Ctx} {z : Nat} {r : Relay} (hs : Served s h tuneAbortSpec x) (hz : z < 1024)
    (hrsv : h.prsv = 0) (htest : (s.chip.zrt z).model.test = some r) :
    Completes (.tuneAbort h z) s fun t =>
      (t.chip.zrt z).model.test = none ∧ t.chip.getF TUNE_STATUS z (TUNE_STATUS.TSTATE r.fam) = 3 ∧
      t.chip.getF TUNE_STATUS z (TUNE_STATUS.CAUSE r.fam) = 6 := by
  refine hs.completes (exec_tuneAbort ..) fun d hd _ => ?_
  rw [checks_pass]
  · refine ⟨rfl, fun t hsh => hsh.of_endTest ?_⟩
    rw [hd.quiet.zrt, htest]
  · simp [hrsv]
    omega

/-! ## `MODEL_RESET` -/

/-- Bit 0: the estimate and the published block at reset, the model NONE. -/
def Chip.resetModel (c : Chip) (z owner : Nat) : Chip := ((c.modelLost z 0 owner).resetEstimate z).clearBlock z

/-- Bit 1: the tests' results gone, the tests shown IDLE. -/
def Chip.resetTuning (c : Chip) (z : Nat) : Chip :=
  let c := c.endTest z 4
  let c := c.modModel z (fun m => { m with relayGains := [], dead := none })
  let c := c.modLink z (fun k => { k with gainsOk := k.gainsOk &&& k.gainsModel, bumpless := false, meanOut := 0 })
  let c := c.upd TUNE_STATUS z ((List.range 3).flatMap (fun f => [(TUNE_STATUS.TSTATE f, 0), (TUNE_STATUS.CAUSE f,
    c.getF TUNE_STATUS z (TUNE_STATUS.CAUSE f)), (TUNE_STATUS.KU f, 0), (TUNE_STATUS.PU f, 0),
    (TUNE_STATUS.MEAN_OUT f, 0), (TUNE_STATUS.DEAD_MEAS f, 0)]))
  c.each 3 (fun c f => c.showGains z f)

/-- Bit 2: the profile and the timeline at reset. -/
def Chip.resetPresence (c : Chip) (z : Nat) : Chip := (c.clearRec PRESENCE_PROFILE z).clearRec OCC_TIMELINE z

/-- Bit 3: no plan, and out of the round. -/
def Chip.resetPlan (c : Chip) (z : Nat) : Chip := (c.planInvalid z).dropRound z

/-- What `MODEL_RESET` resets, part by part in the order of the bits (R239). -/
def Chip.resetParts (c : Chip) (z owner what : Nat) : Chip :=
  let c := if what.testBit 0 then c.resetModel z owner else c
  let c := if what.testBit 1 then c.resetTuning z else c
  let c := if what.testBit 2 then c.resetPresence z else c
  if what.testBit 3 then c.resetPlan z else c

theorem Chip.modelReset_eq (c : Chip) (h : Hdr) (z what : Nat) :
    c.modelReset h z what = c.command h modelResetSpec (fun _ c => checks c [
      (decide (1023 < z), stBadParam), (what == 0 || decide (15 < what) || h.prsv != 0, stBadParam), (c.wipingZone z, stBadState)]
      (fun _ => { chip := c.resetParts z (c.zoneOwner z) what })) := rfl

/-- The model is NONE, without updates and without coefficients. -/
def Chip.ModelAtReset (c : Chip) (z : Nat) : Prop :=
  (c.zrt z).link.mstate = 0 ∧ c.getF MODEL_COEF z MODEL_COEF.UPDATES = 0 ∧
    ∀ i, i < 16 → c.getF MODEL_COEF z (MODEL_COEF.COEF i) = 0

/-- No test runs, no dead time is measured, and every family's test is IDLE. -/
def Chip.TuningAtReset (c : Chip) (z : Nat) : Prop :=
  (c.zrt z).model.test = none ∧ (c.zrt z).model.dead = none ∧ ∀ f, f < 3 → c.getF TUNE_STATUS z (TUNE_STATUS.TSTATE f) = 0

theorem Chip.ModelAtReset.of_kept {c d : Chip} {z : Nat} (h : c.ModelAtReset z)
    (hstate : (d.zrt z).link.mstate = (c.zrt z).link.mstate) (himg : d.img MODEL_COEF z = c.img MODEL_COEF z) : d.ModelAtReset z := by
  unfold Chip.ModelAtReset Chip.getF
  rw [hstate, himg]
  exact h

theorem Chip.TuningAtReset.of_kept {c d : Chip} {z : Nat} (h : c.TuningAtReset z) (hmodel : (d.zrt z).model = (c.zrt z).model)
    (himg : d.img TUNE_STATUS z = c.img TUNE_STATUS z) : d.TuningAtReset z := by
  unfold Chip.TuningAtReset Chip.getF
  rw [hmodel, himg]
  exact h

theorem Chip.resetModel_atReset (c : Chip) (z owner : Nat) : (c.resetModel z owner).ModelAtReset z := by
  unfold Chip.ModelAtReset Chip.resetModel
  rw [Chip.clearBlock_zrt, Chip.resetEstimate_zrt, Chip.clearBlock_updates, Chip.resetEstimate_updates]
  obtain ⟨hstate, -⟩ := c.modelLost_zrt z 0 owner
  dsimp only
  exact ⟨hstate, rfl, fun i hi => Chip.clearBlock_coef _ z i hi⟩

theorem Spares.resetTuning (c : Chip) (z : Nat) : Spares [TUNE_STATUS.id] c (c.resetTuning z) := by
  unfold Chip.resetTuning
  exact ((((Spares.endTest c z 4).trans (Spares.modModel _ _ z _)).trans (Spares.modLink _ _ z _)).trans (Spares.upd _ _ _ _ (by decide))).trans
    (Spares.eachOf _ _ _ fun d f => Spares.showGains d z f)

/-- The tuning reset leaves the model's state, and no test and no measured dead time. -/
theorem Chip.resetTuning_zrt (c : Chip) (z : Nat) :
    ((c.resetTuning z).zrt z).link.mstate = (c.zrt z).link.mstate ∧ ((c.resetTuning z).zrt z).model.test = none ∧
      ((c.resetTuning z).zrt z).model.dead = none := by
  obtain ⟨f, b, hend⟩ := c.endTest_zrt z 4
  unfold Chip.resetTuning
  dsimp only
  rw [Chip.each_keeps (fun d => d.zrt z) _ _ _ fun d f => d.showGains_zrt z f, Chip.zrt_upd, Chip.zrt_modLink, Chip.zrt_modModel, hend]
  exact ⟨rfl, rfl, rfl⟩

theorem Chip.resetTuning_tstate (c : Chip) (z f : Nat) (hf : f < 3) :
    (c.resetTuning z).getF TUNE_STATUS z (TUNE_STATUS.TSTATE f) = 0 := by
  unfold Chip.resetTuning
  dsimp only
  rw [Chip.each_keeps (fun d => d.getF TUNE_STATUS z (TUNE_STATUS.TSTATE f)) _ _ _ fun d k => d.showGains_tstate z k f]
  refine Chip.getF_upd_mem _ _ _ _ 0 _ (List.mem_flatMap.mpr ⟨f, List.mem_range.mpr hf, List.mem_cons_self⟩) fun p hp => ?_
  obtain ⟨k, -, hp⟩ := List.mem_flatMap.mp hp
  simp only [List.mem_cons, List.not_mem_nil, or_false] at hp
  by_cases hkf : k = f
  · subst hkf
    rcases hp with rfl | rfl | rfl | rfl | rfl | rfl
    · exact .inl rfl
    all_goals
      refine .inr (.inl ?_)
      simp only [TUNE_STATUS.TSTATE, TUNE_STATUS.CAUSE, TUNE_STATUS.KU, TUNE_STATUS.PU, TUNE_STATUS.MEAN_OUT, TUNE_STATUS.DEAD_MEAS]
      omega
  · refine .inr ?_
    rcases hp with rfl | rfl | rfl | rfl | rfl | rfl <;>
      simp only [Fld.apart, TUNE_STATUS.TSTATE, TUNE_STATUS.CAUSE, TUNE_STATUS.KU, TUNE_STATUS.PU, TUNE_STATUS.MEAN_OUT,
        TUNE_STATUS.DEAD_MEAS] <;> omega

theorem Spares.resetPresence (c : Chip) (z : Nat) : Spares [PRESENCE_PROFILE.id, OCC_TIMELINE.id] c (c.resetPresence z) :=
  (Spares.clearRec c _ z (by decide)).trans (Spares.clearRec _ _ z (by decide))

theorem Chip.resetPresence_profile (c : Chip) (z : Nat) : (c.resetPresence z).img PRESENCE_PROFILE z = PRESENCE_PROFILE.resetImg z := by
  unfold Chip.resetPresence
  rw [Spares.clearRec (ids := [OCC_TIMELINE.id]) _ OCC_TIMELINE z (by decide) _ _ (by decide)]
  exact Chip.img_setImg_self _ _ _ _

theorem Chip.resetPresence_zrt (c : Chip) (z : Nat) : (c.resetPresence z).zrt z = c.zrt z := by
  unfold Chip.resetPresence Chip.clearRec Chip.zrt
  rw [(Chip.setImg_rest _ _ _ _).zones, (Chip.setImg_rest _ _ _ _).zones]

theorem Spares.resetPlan (c : Chip) (z : Nat) : Spares [ZONE_PLAN.id] c (c.resetPlan z) :=
  (Spares.planInvalid c z).trans (Spares.dropRound _ _ z)

theorem Chip.resetPlan_zrt (c : Chip) (z : Nat) :
    (c.resetPlan z).zrt z = { c.zrt z with link := { (c.zrt z).link with planOk := false }, offs := [] } :=
  (Chip.dropRound_zrt _ z z).trans (Chip.planInvalid_zrt c z)

theorem Chip.plan?_dropRound_self (c : Chip) (z : Nat) : (c.dropRound z).plan? z = none := by
  have hfree := Tab.free_del c.zones.plan z
  unfold Chip.plan? Chip.dropRound
  rw [List.find?_eq_none.mpr, Option.map_none]
  exact fun p hp => by simpa using hfree p hp

theorem Chip.resetTuning_atReset (c : Chip) (z : Nat) : (c.resetTuning z).TuningAtReset z := by
  obtain ⟨-, htest, hdead⟩ := c.resetTuning_zrt z
  exact ⟨htest, hdead, fun f hf => c.resetTuning_tstate z f hf⟩

/-- What a part that is reset keeps, it keeps whether it is reset or not. -/
theorem Chip.part_keeps {c d : Chip} (p : Chip → Prop) (b : Prop) [Decidable b] (hd : p c → p d) (hc : p c) : p (if b then d else c) := by
  split
  · exact hd hc
  · exact hc

/-- The parts reset after the model leave it at reset. -/
theorem Chip.resetParts_model (c : Chip) (z owner what : Nat) (hbit : what.testBit 0 = true) :
    (c.resetParts z owner what).ModelAtReset z := by
  unfold Chip.resetParts
  dsimp only
  rw [if_pos hbit]
  refine Chip.part_keeps (Chip.ModelAtReset · z) _ (fun h => ?_) <| Chip.part_keeps (Chip.ModelAtReset · z) _ (fun h => ?_) <|
    Chip.part_keeps (Chip.ModelAtReset · z) _ (fun h => ?_) (c.resetModel_atReset z owner)
  · exact h.of_kept (by rw [Chip.resetPlan_zrt]) (Spares.resetPlan _ z _ _ (by decide))
  · exact h.of_kept (by rw [Chip.resetPresence_zrt]) (Spares.resetPresence _ z _ _ (by decide))
  · exact h.of_kept (Chip.resetTuning_zrt _ z).1 (Spares.resetTuning _ z _ _ (by decide))

/-- The parts reset after the tuning leave it at reset. -/
theorem Chip.resetParts_tuning (c : Chip) (z owner what : Nat) (hbit : what.testBit 1 = true) :
    (c.resetParts z owner what).TuningAtReset z := by
  unfold Chip.resetParts
  dsimp only
  rw [if_pos hbit]
  refine Chip.part_keeps (Chip.TuningAtReset · z) _ (fun h => ?_) <| Chip.part_keeps (Chip.TuningAtReset · z) _ (fun h => ?_)
    (Chip.resetTuning_atReset _ z)
  · exact h.of_kept (by rw [Chip.resetPlan_zrt]) (Spares.resetPlan _ z _ _ (by decide))
  · exact h.of_kept (by rw [Chip.resetPresence_zrt]) (Spares.resetPresence _ z _ _ (by decide))

theorem Chip.resetParts_profile (c : Chip) (z owner what : Nat) (hbit : what.testBit 2 = true) :
    (c.resetParts z owner what).img PRESENCE_PROFILE z = PRESENCE_PROFILE.resetImg z := by
  unfold Chip.resetParts
  dsimp only
  rw [if_pos hbit]
  exact Chip.part_keeps (fun d => d.img PRESENCE_PROFILE z = PRESENCE_PROFILE.resetImg z) _
    (fun h => (Spares.resetPlan _ z _ _ (by decide)).trans h) (Chip.resetPresence_profile _ z)

theorem Chip.resetParts_plan (c : Chip) (z owner what : Nat) (hbit : what.testBit 3 = true) :
    (c.resetParts z owner what).getF ZONE_PLAN z ZONE_PLAN.PSTATE = 0 ∧ (c.resetParts z owner what).plan? z = none := by
  unfold Chip.resetParts
  dsimp only
  rw [if_pos hbit]
  exact ⟨((Spares.dropRound [] _ z).getF _ _ (by decide)).trans (Chip.planInvalid_pstate _ z), Chip.plan?_dropRound_self _ z⟩

theorem Shown.plan? {c d : Chip} (h : Shown c d) (z : Nat) : d.plan? z = c.plan? z := by simp only [Chip.plan?, h.zones]

theorem modelReset_completes {s : State} {h : Hdr} {x : Ctx} {z what : Nat} (hs : Served s h modelResetSpec x) (hz : z < 1024)
    (hsome : 1 ≤ what) (hmask : what ≤ 15) (hrsv : h.prsv = 0) (hwipe : s.chip.wipingZone z = false) :
    Completes (.modelReset h z what) s fun t =>
      (what.testBit 0 = true → (t.chip.zrt z).link.mstate = 0 ∧ t.chip.getF MODEL_COEF z MODEL_COEF.UPDATES = 0 ∧
        ∀ i, i < 16 → t.chip.getF MODEL_COEF z (MODEL_COEF.COEF i) = 0) ∧
      (what.testBit 1 = true → (t.chip.zrt z).model.test = none ∧ (t.chip.zrt z).model.dead = none ∧
        ∀ f, f < 3 → t.chip.getF TUNE_STATUS z (TUNE_STATUS.TSTATE f) = 0) ∧
      (what.testBit 2 = true → t.chip.img PRESENCE_PROFILE z = PRESENCE_PROFILE.resetImg z) ∧
      (what.testBit 3 = true → t.chip.getF ZONE_PLAN z ZONE_PLAN.PSTATE = 0 ∧ t.chip.plan? z = none) := by
  refine hs.completes ((exec_modelReset ..).trans (congrArg s.run (funext fun c => c.modelReset_eq h z what))) fun d hd _ => ?_
  have hwiping : d.wipingZone z = false := by
    rw [Chip.wipingZone, hd.quiet.zoneOwner, Chip.slotState, hd.quiet.getF PLOT_SLOT _ _ (by decide)]
    exact hwipe
  rw [checks_pass]
  · refine ⟨rfl, fun t hsh => ⟨fun h0 => ?_, fun h1 => ?_, fun h2 => ?_, fun h3 => ?_⟩⟩
    · exact (Chip.resetParts_model d z _ what h0).of_kept (by rw [hsh.zrt]) (hsh.img _ _ (by decide))
    · exact (Chip.resetParts_tuning d z _ what h1).of_kept (by rw [hsh.zrt]) (hsh.img _ _ (by decide))
    · exact (hsh.img _ _ (by decide)).trans (Chip.resetParts_profile d z _ what h2)
    · rw [hsh.getF _ _ _ (by decide), hsh.plan?]
      exact Chip.resetParts_plan d z _ what h3
  · simp [hrsv, hwiping]
    omega

/-! ## `MODEL_CFG` -/

/-- What follows a write of `MODEL_CFG`: a change of a regressor resets the estimate, and VALID becomes HELD (R203). -/
def Chip.modelCfgEffect (c : Chip) (z old : Nat) : Chip :=
  if regressorFields.any (fun k => k.get old != c.getF MODEL_CFG z k) then
    let c := c.resetEstimate z
    if (c.zrt z).link.mstate = 2 then c.setMState z 3 (c.zoneOwner z) else c
  else c

theorem Spares.modelCfgEffect (c : Chip) (z old : Nat) : Spares [ MODEL_COEF.id] c (c.modelCfgEffect z old) := by
  unfold Chip.modelCfgEffect
  have hreset := Spares.resetEstimate c z
  exact Spares.ite _ (Spares.ite _ (hreset.trans (Spares.setMState _ z 3 _)) hreset) (Spares.refl _ c)

/-- A regressor changed leaves the estimate at reset and the model not VALID. -/
theorem Chip.modelCfgEffect_reset (c : Chip) (z old : Nat) (k : Fld) (hk : k ∈ regressorFields) (hne : k.get old ≠ c.getF MODEL_CFG z k) :
    (c.modelCfgEffect z old).getF MODEL_COEF z MODEL_COEF.UPDATES = 0 ∧ ((c.modelCfgEffect z old).zrt z).model.theta = [] ∧
      ((c.modelCfgEffect z old).zrt z).link.mstate ≠ 2 := by
  have hany : regressorFields.any (fun k => k.get old != c.getF MODEL_CFG z k) = true :=
    List.any_eq_true.mpr ⟨k, hk, bne_iff_ne.mpr hne⟩
  have hzrt := c.resetEstimate_zrt z
  unfold Chip.modelCfgEffect
  rw [if_pos hany]
  dsimp only
  split
  · obtain ⟨h, hstate⟩ := (c.resetEstimate z).setMState_zrt z 3 ((c.resetEstimate z).zoneOwner z)
    rw [Chip.setMState_getF _ _ _ _ _ (by decide), hstate, hzrt]
    exact ⟨c.resetEstimate_updates z, rfl, (by decide : (3 : Nat) ≠ 2)⟩
  · next hvalid => exact ⟨c.resetEstimate_updates z, by rw [hzrt], hvalid⟩

theorem modelCfgWrite_completes {s : State} {h : Hdr} {x : Ctx} {z ver img : Nat} (hs : Served s h setRecordSpec x)
    (hwho : x.who.estateOnly = true) (hf : WriteFits s.chip h MODEL_CFG z ver img) (hbad : modelCfgBad img = false) :
    Completes (.modelCfgWrite h z ver img) s fun t => Wrote s t MODEL_CFG z img ∧
      ((∃ k ∈ regressorFields, k.get (t.chip.img MODEL_CFG z) ≠ k.get (s.chip.img MODEL_CFG z)) →
        t.chip.getF MODEL_COEF z MODEL_COEF.UPDATES = 0 ∧ (t.chip.zrt z).model.theta = [] ∧ (t.chip.zrt z).link.mstate ≠ 2) := by
  refine hs.write_completes (by decide) hf (exec_modelCfgWrite ..) _ (fun c old => c.modelCfgEffect z old) (fun _ _ => rfl)
    (fun d hd => ⟨rfl, hwho, rfl, hbad, rfl⟩) fun d hd t hsh => ?_
  have himg : t.chip.img MODEL_CFG z = (d.written MODEL_CFG z img).img MODEL_CFG z :=
    (hsh.img _ _ (by decide)).trans (Spares.modelCfgEffect _ z _ _ _ (by decide))
  have hold : d.img MODEL_CFG z = s.chip.img MODEL_CFG z := hd.quiet.img _ _ (by decide)
  refine ⟨?_, fun ⟨k, hk, hne⟩ => ?_⟩
  · rw [Wrote, himg, Chip.written_img_self, hold]
  · rw [hsh.zrt, hsh.getF _ _ _ (by decide)]
    refine Chip.modelCfgEffect_reset _ z _ k hk ?_
    rw [hold, Chip.getF, ← himg]
    exact hne.symm

/-! ## The learning archive -/

/-- The archive's copy of the part as it stands: one above both copies, of now, with every zone (R229). -/
def Chip.archCopy (c : Chip) : Archive :=
  ⟨true, max c.zones.archA.seq c.zones.archB.seq + 1, c.now, (List.range 1024).map (fun z => (z, c.archZone z))⟩

theorem Chip.mem_archCopy (c : Chip) (z : Nat) (hz : z < 1024) : (z, c.archZone z) ∈ c.archCopy.zones := by
  unfold Chip.archCopy
  dsimp only
  exact List.mem_map.mpr ⟨z, List.mem_range.mpr hz, rfl⟩

theorem Chip.learningArchiveWrite_due (c : Chip) (hfull : c.level = lvFull) (hdue : c.now % (21600 * ticksPerSecond) = 0) :
    c.learningArchiveWrite = if c.zones.archB.valid ∧ (¬ c.zones.archA.valid ∨ c.zones.archA.seq ≤ c.zones.archB.seq) then
      { c with zones.archA := c.archCopy } else { c with zones.archB := c.archCopy } := by
  unfold Chip.learningArchiveWrite
  rw [if_neg (by rw [hfull, hdue]; decide)]
  rfl

theorem learningArchiveWrite_completes (s : State) (hfull : s.chip.level = lvFull) (hdue : s.chip.now % (21600 * ticksPerSecond) = 0) :
    Completes .learningArchiveWrite s fun t => ∃ y : Archive,
      y.valid = true ∧ y.seq = max s.chip.zones.archA.seq s.chip.zones.archB.seq + 1 ∧ y.time = s.chip.now ∧
      (∀ z, z < 1024 → (z, s.chip.archZone z) ∈ y.zones) ∧
      (if s.chip.zones.archB.valid = true ∧ (s.chip.zones.archA.valid = false ∨ s.chip.zones.archA.seq ≤ s.chip.zones.archB.seq) then
        t.chip.zones.archA = y ∧ t.chip.zones.archB = s.chip.zones.archB
      else t.chip.zones.archA = s.chip.zones.archA ∧ t.chip.zones.archB = y) := by
  refine Completes.of_run (exec_learningArchiveWrite s) fun t hsh => ?_
  rw [s.chip.learningArchiveWrite_due hfull hdue] at hsh
  refine ⟨s.chip.archCopy, rfl, rfl, rfl, fun z hz => s.chip.mem_archCopy z hz, ?_⟩
  rw [hsh.zones]
  simp only [Bool.not_eq_true]
  split <;> exact ⟨rfl, rfl⟩

/-- Settles O33: clause by clause, through what each operation on a model leaves. -/
theorem modelsAct : Obligations.ModelsAct := by
  unfold Obligations.ModelsAct
  exact ⟨modelHeldTimeout_completes, neighbourDrop_completes, autoTuneStart_completes,
    fun s z r hz htest _ hdue => relayTestEnd_completes s z r hz htest hdue,
    fun _ _ _ _ _ hs hz hsome hmask hrsv hwipe => modelReset_completes hs hz hsome hmask hrsv hwipe,
    fun _ _ _ _ _ hs hz hfam hrsv hrun htest hdue hport => tuneStart_completes hs hz hfam hrsv hrun htest hdue hport,
    fun _ _ _ _ _ hs hz hrsv htest _ => tuneAbort_completes hs hz hrsv htest,
    fun _ _ _ _ _ _ hs hwho hf hbad => modelCfgWrite_completes hs hwho hf hbad, learningArchiveWrite_completes⟩

end Sys2Proof.Machine
end

section
/-!
PROOF. Planning rounds (R213, R214, R220, R222, Table 6.8): the capture at a quarter-hour, the iterations, the late zones, the commit and the
end of a plan.
-/

namespace Sys2Proof.Machine

/-! ## The plans of a round -/

theorem Tab.find?_del_ne {α : Type} (t : List (Nat × α)) {k j : Nat} (h : k ≠ j) :
    (Tab.del k t).find? (fun p => p.1 == j) = t.find? (fun p => p.1 == j) := by
  induction t with
  | nil => rfl
  | cons p t ih =>
    by_cases hk : p.1 = k
    · have hj : (p.1 == j) = false := by simpa [hk] using h
      rw [Tab.del, if_pos hk, ih, List.find?_cons_of_neg (by simp [hj])]
    · rw [Tab.del, if_neg hk, List.find?_cons, List.find?_cons, ih]

theorem Tab.find?_ins_self {α : Type} (t : List (Nat × α)) (k : Nat) (v : α) (h : Tab.free k t) :
    (Tab.ins k v t).find? (fun p => p.1 == k) = some (k, v) := by
  induction t with
  | nil => simp [Tab.ins]
  | cons p t ih =>
    obtain ⟨hp, ht⟩ := List.forall_mem_cons.mp h
    unfold Tab.ins
    split
    · simp
    · rw [List.find?_cons_of_neg (by simpa using hp), ih ht]

theorem Tab.find?_ins_ne {α : Type} (t : List (Nat × α)) {k j : Nat} (v : α) (h : k ≠ j) :
    (Tab.ins k v t).find? (fun p => p.1 == j) = t.find? (fun p => p.1 == j) := by
  induction t with
  | nil => simp [Tab.ins, h]
  | cons p t ih =>
    unfold Tab.ins
    split
    · rw [List.find?_cons_of_neg (by simpa using h)]
    · rw [List.find?_cons, List.find?_cons, ih]

theorem Chip.plan?_setPlan (c : Chip) (z y : Nat) (p : Plan) : (c.setPlan z p).plan? y = if z = y then some p else c.plan? y := by
  unfold Chip.plan? Chip.setPlan
  split
  · next h => rw [← h, Tab.find?_ins_self _ _ _ (Tab.free_del _ _), Option.map_some]
  · next h => rw [Tab.find?_ins_ne _ _ h, Tab.find?_del_ne _ h]

theorem Chip.plan?_dropRound_ne (c : Chip) {z y : Nat} (h : z ≠ y) : (c.dropRound z).plan? y = c.plan? y := by
  unfold Chip.plan? Chip.dropRound
  rw [Tab.find?_del_ne _ h]

@[simp] theorem Chip.plan?_upd (c : Chip) (r : RecDesc) (i : Nat) (fs : List (Fld × Nat)) (z : Nat) : (c.upd r i fs).plan? z = c.plan? z := by
  unfold Chip.plan?
  rw [Chip.upd_zones]

/-- A zone with a plan in the round is one of its terrace's zones of the round. -/
theorem Chip.mem_roundZones (c : Chip) (z : Nat) (p : Plan) (h : c.plan? z = some p) : z ∈ c.roundZones (z / 256) := by
  obtain ⟨⟨y, q⟩, hfind, -⟩ := Option.map_eq_some_iff.mp h
  have hkey : y = z := by simpa using List.find?_some hfind
  subst hkey
  exact List.mem_filter.mpr ⟨List.mem_map.mpr ⟨_, List.mem_of_find?_eq_some hfind, rfl⟩, by simp⟩

theorem Chip.ter_modTer (c : Chip) (t k : Nat) (f : Terrace → Terrace) : (c.modTer t f).ter k = if t = k then f (c.ter k) else c.ter k := by
  rw [Chip.modTer, Chip.ter_setTer]
  split
  · next h => rw [h]
  · rfl

/-- A zone's part in planning stands in `d` as in `c`: its plan of the round, its record and its run-time state. -/
structure PlanKept (z : Nat) (c d : Chip) : Prop where
  plan : d.plan? z = c.plan? z
  img : d.img ZONE_PLAN z = c.img ZONE_PLAN z
  zrt : d.zrt z = c.zrt z

namespace PlanKept

variable {z : Nat} {a b c : Chip}

theorem trans (h : PlanKept z a b) (k : PlanKept z b c) : PlanKept z a c :=
  ⟨k.plan.trans h.plan, k.img.trans h.img, k.zrt.trans h.zrt⟩

theorem upd (c : Chip) (r : RecDesc) (i : Nat) (fs : List (Fld × Nat)) (h : recKey r i ≠ recKey ZONE_PLAN z) : PlanKept z c (c.upd r i fs) :=
  ⟨Chip.plan?_upd _ _ _ _ _, Chip.img_upd_ne _ _ _ _ _ _ h, Chip.zrt_upd _ _ _ _ _⟩

theorem dropRound (c : Chip) {y : Nat} (h : y ≠ z) : PlanKept z c (c.dropRound y) := ⟨c.plan?_dropRound_ne h, rfl, rfl⟩

theorem modTer (c : Chip) (t : Nat) (f : Terrace → Terrace) : PlanKept z c (c.modTer t f) := ⟨rfl, rfl, rfl⟩

theorem modZrt (c : Chip) {y : Nat} (f : ZoneRt → ZoneRt) (h : y ≠ z) : PlanKept z c (c.modZrt y f) :=
  ⟨rfl, rfl, (c.zrt_modZrt y z f).trans (if_neg h)⟩

theorem modLink (c : Chip) {y : Nat} (f : Link → Link) (h : y ≠ z) : PlanKept z c (c.modLink y f) :=
  ⟨Chip.modLink_keeps (Chip.plan? · z) c y f fun _ _ => rfl, Spares.modLink [] c y f _ _ (by decide), c.zrt_modLink_ne f h⟩

theorem of_quiet (h : Quiet a b) : PlanKept z a b := ⟨by simp only [Chip.plan?, h.zones], h.img _ _ (by decide), h.zrt z⟩

theorem commitPlan (c : Chip) {y : Nat} (p : Plan) (h : y ≠ z) : PlanKept z c (c.commitPlan y p) := by
  unfold Chip.commitPlan
  exact ((upd c _ _ _ (recKey_ne_of_inst _ h)).trans (modLink _ _ h)).trans (modZrt _ _ h)

end PlanKept

/-! ## The start of a round -/

/-- A terrace without a round has nothing to commit. -/
theorem Chip.planCommit_idle (c : Chip) (t : Nat) (h : (c.ter t).roundQ = none) : c.planCommit t = c := by
  unfold Chip.planCommit
  rw [h]

theorem mem_terraceZones (z t : Nat) : z ∈ terraceZones t ↔ z / 256 = t := by
  unfold terraceZones
  rw [List.mem_map]
  refine ⟨fun ⟨k, hk, he⟩ => ?_, fun h => ⟨z % 256, List.mem_range.mpr (Nat.mod_lt _ (by decide)), by omega⟩⟩
  have := List.mem_range.mp hk
  omega

/-- The terraces that start a round now, and the zones planned in it (R214). -/
def Chip.planningTerraces (c : Chip) : List Nat := (List.range 4).filter (fun t => c.terracePlans t && (c.ter t).roundQ.isNone)

def Chip.plannedZones (c : Chip) : List Nat := c.planningTerraces.flatMap (fun t => (terraceZones t).filter c.plannable)

/-- The part with the inputs of every planned zone captured. -/
def Chip.captured (c : Chip) : Chip :=
  c.eachOf c.plannedZones (fun d z => d.setPlan z (c.capture z c.now (c.planMode (z / 256)) (fun y => c.plannedZones.contains y)))

/-- The part with the round of a terrace begun at `q`. -/
def Chip.roundBegun (c : Chip) (q t : Nat) : Chip :=
  let mode := c.planMode t
  let c := c.modTer t (fun x => { x with roundQ := some q, iter := 0 })
  c.upd PLAN_ROUND t [(PLAN_ROUND.LAST_Q, q), (PLAN_ROUND.PLANNED, (c.roundZones t).length), (PLAN_ROUND.LATE_NOW, 0),
    (PLAN_ROUND.SCEN, (modeCounts mode).1)]

/-- With no round running a quarter-hour captures the planned zones and begins the rounds. -/
theorem Chip.planRoundStart_fresh (c : Chip) (hq : c.now % ticksPerQuarter = 0) (hidle : ∀ k, k < 4 → (c.ter k).roundQ = none) :
    c.planRoundStart = c.captured.eachOf c.planningTerraces (fun d t => d.roundBegun c.now t) := by
  have hcommit : c.each 4 Chip.planCommit = c :=
    List.foldlRecOn (motive := (· = c)) (List.range 4) _ rfl fun d hd k hk => by
      rw [hd, c.planCommit_idle k (hidle k (List.mem_range.mp hk))]
  unfold Chip.planRoundStart
  rw [if_neg (not_not_intro hq)]
  dsimp only
  rw [hcommit]
  rfl

theorem Chip.mem_planningTerraces (c : Chip) (hidle : ∀ k, k < 4 → (c.ter k).roundQ = none) (k : Nat) :
    k ∈ c.planningTerraces ↔ k < 4 ∧ c.terracePlans k = true := by
  unfold Chip.planningTerraces
  rw [List.mem_filter, List.mem_range, Bool.and_eq_true]
  exact ⟨fun ⟨hk, hplans, _⟩ => ⟨hk, hplans⟩, fun ⟨hk, hplans⟩ => ⟨hk, hplans, by rw [hidle k hk]; rfl⟩⟩

theorem Chip.mem_plannedZones (c : Chip) (hidle : ∀ k, k < 4 → (c.ter k).roundQ = none) (z : Nat) :
    z ∈ c.plannedZones ↔ z < 1024 ∧ c.terracePlans (z / 256) = true ∧ c.plannable z = true := by
  unfold Chip.plannedZones
  simp only [List.mem_flatMap, List.mem_filter, mem_terraceZones, c.mem_planningTerraces hidle]
  constructor
  · rintro ⟨t, ⟨ht, hplans⟩, rfl, hz⟩
    exact ⟨by omega, hplans, hz⟩
  · rintro ⟨hlt, hplans, hz⟩
    exact ⟨z / 256, ⟨by omega, hplans⟩, rfl, hz⟩

theorem Chip.captured_plan (c : Chip) (z : Nat) (hz : z ∈ c.plannedZones) :
    c.captured.plan? z = some (c.capture z c.now (c.planMode (z / 256)) (fun y => c.plannedZones.contains y)) := by
  unfold Chip.captured
  refine Chip.eachOf_establishes (fun d => d.plan? z = some (c.capture z c.now (c.planMode (z / 256)) (fun y => c.plannedZones.contains y))) hz
    (fun d y h => ?_) c
  rw [Chip.plan?_setPlan]
  split
  · next he => rw [he]
  · next hne => exact h.resolve_left hne

theorem PlanKept.roundBegun (c : Chip) (q t z : Nat) : PlanKept z c (c.roundBegun q t) :=
  (PlanKept.modTer c t _).trans (PlanKept.upd _ _ _ _ (recKey_ne_of_id (by decide) _ _))

/-- A terrace has begun its round at `q`. -/
def Chip.InRound (c : Chip) (k q : Nat) : Prop :=
  (c.ter k).roundQ = some q ∧ (c.ter k).iter = 0 ∧ c.getF PLAN_ROUND k PLAN_ROUND.LAST_Q = q % 2 ^ 64

theorem Chip.roundBegun_inRound (c : Chip) (q t k : Nat) (h : t = k ∨ c.InRound k q) : (c.roundBegun q t).InRound k q := by
  unfold Chip.roundBegun Chip.InRound
  rw [Chip.ter_upd, Chip.ter_modTer]
  by_cases htk : t = k
  · subst htk
    rw [if_pos rfl]
    exact ⟨rfl, rfl, Chip.getF_upd_append _ _ _ _ _ [] _
      (List.forall_mem_cons.mpr ⟨(by decide : PLAN_ROUND.LAST_Q.apart PLAN_ROUND.PLANNED), apart_of_two (by decide)⟩)⟩
  · rw [if_neg htk, Chip.getF_upd_ne _ _ _ _ _ _ _ (recKey_ne_of_inst _ htk)]
    exact h.resolve_left htk

theorem planRoundStart_completes (s : State) (hq : s.chip.now % ticksPerQuarter = 0) (hidle : ∀ k, k < 4 → (s.chip.ter k).roundQ = none) :
    Completes .planRoundStart s fun t =>
      (∀ k, k < 4 → s.chip.terracePlans k = true →
        (t.chip.ter k).roundQ = some s.chip.now ∧ (t.chip.ter k).iter = 0 ∧
        t.chip.getF PLAN_ROUND k PLAN_ROUND.LAST_Q = s.chip.now % 2 ^ 64) ∧
      (∀ z, z < 1024 → s.chip.terracePlans (z / 256) = true → s.chip.plannable z = true →
        ∃ planned, (∀ y, planned y = (decide (y < 1024) && s.chip.terracePlans (y / 256) && s.chip.plannable y)) ∧
          t.chip.plan? z = some (s.chip.capture z s.chip.now (s.chip.planMode (z / 256)) planned)) := by
  refine Completes.of_run (exec_planRoundStart s) fun t hsh => ?_
  rw [s.chip.planRoundStart_fresh hq hidle] at hsh
  refine ⟨fun k hk hplans => ?_, fun z hz hplans hzone => ⟨fun y => s.chip.plannedZones.contains y, fun y => ?_, ?_⟩⟩
  · rw [hsh.ter, hsh.getF _ _ _ (by decide)]
    exact Chip.eachOf_establishes (Chip.InRound · k s.chip.now) ((s.chip.mem_planningTerraces hidle k).mpr ⟨hk, hplans⟩)
      (fun d t h => d.roundBegun_inRound _ t k h) _
  · rw [Bool.eq_iff_iff, List.contains_iff_mem, s.chip.mem_plannedZones hidle]
    simp [and_assoc]
  · rw [hsh.plan?, Chip.eachOf_keeps (Chip.plan? · z) _ _ _ fun d t => (PlanKept.roundBegun d _ t z).plan]
    exact s.chip.captured_plan z ((s.chip.mem_plannedZones hidle z).mpr ⟨hz, hplans, hzone⟩)

/-! ## Iterations -/

/-- Two plans agree in what an iteration finds; an exchange of trajectories leaves it. -/
def Plan.SameResult (p y : Plan) : Prop :=
  y.off = p.off ∧ y.cost = p.cost ∧ y.iter = p.iter ∧ y.traj = p.traj ∧ y.finished = p.finished

/-- The exchange of trajectories changes plans of the round alone. -/
theorem Chip.takeTrajectories_ter (c : Chip) (k : Nat) : c.takeTrajectories.ter k = c.ter k := by
  unfold Chip.takeTrajectories
  refine Chip.eachOf_keeps (Chip.ter · k) _ _ _ fun d p => ?_
  dsimp only
  split <;> rfl

theorem Chip.takeTrajectories_plan (c : Chip) (z : Nat) (p : Plan) (h : c.plan? z = some p) :
    ∃ y, c.takeTrajectories.plan? z = some y ∧ p.SameResult y := by
  unfold Chip.takeTrajectories
  refine Chip.eachOf_preserves (fun d => ∃ y, d.plan? z = some y ∧ p.SameResult y) (fun d e hd => ?_) _ ⟨p, h, rfl, rfl, rfl, rfl, rfl⟩
  obtain ⟨y, hy, hsame⟩ := hd
  dsimp only
  by_cases hez : e.1 = z
  · rw [hez, hy]
    dsimp only
    rw [Chip.plan?_setPlan, if_pos rfl]
    exact ⟨_, rfl, hsame⟩
  · split
    · exact ⟨y, hy, hsame⟩
    · rw [Chip.plan?_setPlan, if_neg hez]
      exact ⟨y, hy, hsame⟩

/-- A deadline of the only zone of a round, done with its iteration. -/
theorem Chip.planIterationDeadline_one (c : Chip) (k z q doneMask : Nat) (p : Plan) (hround : (c.ter k).roundQ = some q)
    (hplan : c.zones.plan = [(z, p)]) (hz : z / 256 = k) (hdue : c.iterationDue k q = true) (hdone : doneMask.testBit (z % 256) = true) :
    c.planIterationDeadline k doneMask =
      ((c.setPlan z p.iterate).modTer k (fun x => { x with iter := x.iter + 1 })).takeTrajectories := by
  have hzones : (c.roundZones k).filter (fun z => doneMask.testBit (z % 256)) = [z] := by simp [Chip.roundZones, hplan, hz, hdone]
  have hp : c.plan? z = some p := by simp [Chip.plan?, hplan]
  unfold Chip.planIterationDeadline
  rw [hround]
  dsimp only
  rw [hdue, hzones]
  simp only [Chip.eachOf, List.foldl_cons, List.foldl_nil, hp]
  rfl

theorem planIterationDeadline_completes (s : State) (k z : Nat) (p : Plan) (q doneMask : Nat) (hk : k < 4)
    (hround : (s.chip.ter k).roundQ = some q) (hplan : s.chip.zones.plan = [(z, p)]) (hz : z / 256 = k)
    (hdue : s.chip.iterationDue k q = true) (hdone : doneMask.testBit (z % 256) = true) :
    Completes (.planIterationDeadline k doneMask) s fun t =>
      (t.chip.ter k).iter = (s.chip.ter k).iter + 1 ∧ (t.chip.ter k).roundQ = some q ∧
      ∃ y, t.chip.plan? z = some y ∧ y.off = p.iterate.off ∧ y.cost = p.iterate.cost ∧ y.iter = p.iterate.iter ∧ y.traj = p.iterate.traj ∧
        y.finished = p.iterate.finished := by
  refine Completes.of_run ((exec_planIterationDeadline ..).trans (if_pos hk)) fun t hsh => ?_
  rw [s.chip.planIterationDeadline_one k z q doneMask p hround hplan hz hdue hdone] at hsh
  have hter : (s.chip.setPlan z p.iterate).ter k = s.chip.ter k := rfl
  rw [hsh.ter, hsh.plan?, Chip.takeTrajectories_ter, Chip.ter_modTer_self, hter]
  refine ⟨rfl, hround, Chip.takeTrajectories_plan _ z p.iterate ?_⟩
  rw [(PlanKept.modTer _ k _).plan, Chip.plan?_setPlan, if_pos rfl]

/-! ## Late zones -/

/-- The zones of a terrace's round that have not finished. -/
def Chip.lateZones (c : Chip) (t : Nat) : List Nat :=
  (c.roundZones t).filter (fun z => match c.plan? z with | some p => !p.finished | none => false)

/-- The part with the late zones marked and dropped (Table 6.8). -/
def Chip.lateDropped (c : Chip) (t : Nat) : Chip :=
  c.eachOf (c.lateZones t) (fun c z => (c.upd ZONE_PLAN z [(ZONE_PLAN.LATE, 1)]).dropRound z)

/-- The late zones counted and reported. -/
def Chip.lateCounted (c : Chip) (t n : Nat) : Chip :=
  let v := min (c.getF PLAN_ROUND t PLAN_ROUND.LATE_CNT + n) (2 ^ 32 - 1)
  let c := c.upd PLAN_ROUND t [(PLAN_ROUND.LATE_NOW, n), (PLAN_ROUND.LATE_CNT, v),
    (PLAN_ROUND.SAT, if v = 2 ^ 32 - 1 then 1 else c.getF PLAN_ROUND t PLAN_ROUND.SAT)]
  c.raise 0x0404 1 t (u16 n ++ rsvBytes 2) evDiag

theorem Chip.planLateDeadline_due (c : Chip) (t q : Nat) (hround : (c.ter t).roundQ = some q) (hdue : q + 720 * ticksPerSecond ≤ c.now) :
    c.planLateDeadline t = if (c.lateZones t).length = 0 then c.lateDropped t
      else (c.lateDropped t).lateCounted t (c.lateZones t).length := by
  unfold Chip.planLateDeadline
  rw [hround]
  exact if_neg (Nat.not_lt.mpr hdue)

theorem PlanKept.lateCounted (c : Chip) (t n z : Nat) : PlanKept z c (c.lateCounted t n) :=
  (PlanKept.upd _ _ _ _ (recKey_ne_of_id (by decide) _ _)).trans (PlanKept.of_quiet (Quiet.raise _ _ _ _ _ _))

/-- The late deadline drops the late zones; beside that it counts and reports them. -/
theorem Chip.planLateDeadline_kept (c : Chip) (t q z : Nat) (hround : (c.ter t).roundQ = some q) (hdue : q + 720 * ticksPerSecond ≤ c.now) :
    PlanKept z (c.lateDropped t) (c.planLateDeadline t) := by
  rw [c.planLateDeadline_due t q hround hdue]
  split
  · exact ⟨rfl, rfl, rfl⟩
  · exact PlanKept.lateCounted _ t _ z

theorem Chip.lateDropped_late (c : Chip) (z : Nat) (p : Plan) (hp : c.plan? z = some p) (hlate : p.finished = false) :
    (c.lateDropped (z / 256)).plan? z = none ∧ (c.lateDropped (z / 256)).getF ZONE_PLAN z ZONE_PLAN.LATE = 1 := by
  have hmem : z ∈ c.lateZones (z / 256) := List.mem_filter.mpr ⟨c.mem_roundZones z p hp, by simp [hp, hlate]⟩
  unfold Chip.lateDropped
  refine Chip.eachOf_establishes (fun d => d.plan? z = none ∧ d.getF ZONE_PLAN z ZONE_PLAN.LATE = 1) hmem (fun d y h => ?_) c
  by_cases hyz : y = z
  · subst hyz
    exact ⟨Chip.plan?_dropRound_self _ _, Chip.getF_upd_one _ _ _ _ _⟩
  · have hkept : PlanKept z d ((d.upd ZONE_PLAN y [(ZONE_PLAN.LATE, 1)]).dropRound y) :=
      (PlanKept.upd d _ _ _ (recKey_ne_of_inst _ hyz)).trans (PlanKept.dropRound _ hyz)
    rw [hkept.plan, Chip.getF, hkept.img]
    exact h.resolve_left hyz

/-- A finished plan stays in the round. -/
theorem Chip.lateDropped_finished (c : Chip) (t z : Nat) (p : Plan) (hp : c.plan? z = some p) (hfinished : p.finished = true) :
    (c.lateDropped t).plan? z = some p := by
  unfold Chip.lateDropped
  refine List.foldlRecOn (motive := fun d : Chip => d.plan? z = some p) _ _ hp fun d hd y hy => ?_
  have hyz : y ≠ z := by
    rintro rfl
    simpa [hp, hfinished] using (List.mem_filter.mp hy).2
  rw [Chip.plan?_dropRound_ne _ hyz, Chip.plan?_upd, hd]

theorem planLateDeadline_completes (s : State) (k q : Nat) (hk : k < 4) (hround : (s.chip.ter k).roundQ = some q)
    (hdue : q + 720 * ticksPerSecond ≤ s.chip.now) :
    Completes (.planLateDeadline k) s fun t => ∀ z p, z < 1024 → z / 256 = k → s.chip.plan? z = some p → p.finished = false →
      t.chip.plan? z = none ∧ t.chip.getF ZONE_PLAN z ZONE_PLAN.LATE = 1 := by
  refine Completes.of_run ((exec_planLateDeadline ..).trans (if_pos hk)) fun t hsh z p _ hzk hp hlate => ?_
  have hkept := s.chip.planLateDeadline_kept k q z hround hdue
  subst hzk
  rw [hsh.plan?, hsh.getF _ _ _ (by decide), Chip.getF, hkept.plan, hkept.img]
  exact s.chip.lateDropped_late z p hp hlate

/-! ## The commit -/

/-- What one element's step brings about from an invariant that the other steps keep, and every later step keeps, holds at the end. -/
theorem Chip.eachOf_reaches {α : Type} (inv done : Chip → Prop) {f : Chip → α → Chip} {l : List α} {a : α} (ha : a ∈ l)
    (hinv : ∀ c b, b ≠ a → inv c → inv (f c b)) (hstep : ∀ c, inv c → done (f c a)) (hdone : ∀ c b, done c → done (f c b)) {c : Chip}
    (hc : inv c) : done (c.eachOf l f) := by
  induction l generalizing c with
  | nil => exact absurd ha (by simp)
  | cons b l ih =>
    by_cases hb : b = a
    · subst hb
      exact Chip.eachOf_preserves done hdone l (hstep c hc)
    · exact ih ((List.mem_cons.mp ha).resolve_left (Ne.symm hb)) (hinv c b hb hc)

/-- A zone's plan of the round is committed, and the zone leaves the round. -/
def Chip.commitZone (c : Chip) (z : Nat) : Chip :=
  match c.plan? z with
  | some p => (c.commitPlan z p).dropRound z
  | none => c

/-- The plan `p` is the zone's plan in force, and the round holds none of it. -/
def Chip.Committed (c : Chip) (z : Nat) (p : Plan) : Prop :=
  c.plan? z = none ∧ c.getF ZONE_PLAN z ZONE_PLAN.PSTATE = 1 ∧ c.getF ZONE_PLAN z ZONE_PLAN.LATE = 0 ∧
    c.getF ZONE_PLAN z ZONE_PLAN.START = (p.q + ticksPerQuarter) % 2 ^ 64 ∧ (c.zrt z).offs = p.off ∧ (c.zrt z).link.planOk = true

theorem Chip.Committed.of_kept {c d : Chip} {z : Nat} {p : Plan} (h : c.Committed z p) (k : PlanKept z c d) : d.Committed z p := by
  unfold Chip.Committed Chip.getF
  rw [k.plan, k.img, k.zrt]
  exact h

theorem PlanKept.commitZone (c : Chip) {y z : Nat} (h : y ≠ z) : PlanKept z c (c.commitZone y) := by
  unfold Chip.commitZone
  split
  · exact (PlanKept.commitPlan c _ h).trans (PlanKept.dropRound _ h)
  · exact ⟨rfl, rfl, rfl⟩

/-- The steps of a plan stand behind the fields of its state. -/
theorem Plan.fields_behind (p : Plan) : ∀ e ∈ p.fields, 256 ≤ e.1.off := by
  intro e he
  obtain ⟨j, -, he⟩ := List.mem_flatMap.mp he
  simp only [List.mem_cons, List.not_mem_nil, or_false] at he
  rcases he with rfl | rfl | rfl | rfl | rfl | rfl | rfl <;>
    simp only [ZONE_PLAN.SP_HEAT, ZONE_PLAN.SP_COOL, ZONE_PLAN.T_PRED, ZONE_PLAN.P_OCC, ZONE_PLAN.DISCOMFORT, ZONE_PLAN.DC_BAND,
      ZONE_PLAN.OCC_MODE] <;> omega

theorem apart_of_names {f : Fld} {fs : List (Fld × Nat)} (gs : List Fld) (hgs : fs.map Prod.fst = gs) (h : ∀ g ∈ gs, f.apart g) :
    ∀ p ∈ fs, f.apart p.1 := fun p hp => h p.1 (hgs ▸ List.mem_map_of_mem hp)

/-- A committed plan shows as valid, in time, and from the quarter-hour after its round's start. -/
theorem Chip.commitPlan_shows (c : Chip) (z : Nat) (p : Plan) :
    (c.commitPlan z p).getF ZONE_PLAN z ZONE_PLAN.PSTATE = 1 ∧ (c.commitPlan z p).getF ZONE_PLAN z ZONE_PLAN.LATE = 0 ∧
      (c.commitPlan z p).getF ZONE_PLAN z ZONE_PLAN.START = (p.q + ticksPerQuarter) % 2 ^ 64 := by
  have hbehind : ∀ {f : Fld} {pre gs : List (Fld × Nat)} {v : Nat}, f.off + f.width ≤ 256 → (∀ e ∈ gs, f.apart e.1) →
      (c.upd ZONE_PLAN z ((pre ++ (f, v) :: gs) ++ p.fields)).getF ZONE_PLAN z f = v % 2 ^ f.width := fun {f pre gs v} hf hgs => by
    rw [List.append_assoc, List.cons_append]
    exact Chip.getF_upd_append _ _ _ _ _ _ _ fun e he =>
      (List.mem_append.mp he).elim (hgs e) fun he => .inl (hf.trans (p.fields_behind e he))
  unfold Chip.commitPlan
  dsimp only
  simp only [(Spares.modZrt [] _ z _).getF z _ (show ZONE_PLAN.id % 0x10000 ∉ noisyIds ++ [] by decide),
    (Spares.modLink [] _ z _).getF z _ (show ZONE_PLAN.id % 0x10000 ∉ noisyIds ++ [] by decide)]
  refine ⟨hbehind (pre := []) (by decide) ?_, hbehind (pre := [_]) (by decide) ?_, hbehind (pre := [_, _, _, _, _, _]) (by decide) ?_⟩
  · exact apart_of_names [ZONE_PLAN.LATE, ZONE_PLAN.NB_FIXED, ZONE_PLAN.FORECAST_HELD, ZONE_PLAN.ITER, ZONE_PLAN.SCEN, ZONE_PLAN.START,
      ZONE_PLAN.COST, ZONE_PLAN.ROUND] rfl (by decide)
  · exact apart_of_names [ZONE_PLAN.NB_FIXED, ZONE_PLAN.FORECAST_HELD, ZONE_PLAN.ITER, ZONE_PLAN.SCEN, ZONE_PLAN.START,
      ZONE_PLAN.COST, ZONE_PLAN.ROUND] rfl (by decide)
  · exact apart_of_two (by decide)

theorem Chip.commitPlan_zrt (c : Chip) (z : Nat) (p : Plan) :
    (c.commitPlan z p).zrt z = { c.zrt z with link := { (c.zrt z).link with planOk := true }, offs := p.off } := by
  unfold Chip.commitPlan
  dsimp only
  rw [Chip.zrt_modZrt_self, Chip.zrt_modLink, Chip.zrt_upd]

theorem Chip.commitZone_committed (c : Chip) (z : Nat) (p : Plan) (hp : c.plan? z = some p) : (c.commitZone z).Committed z p := by
  obtain ⟨hstate, hlate, hstart⟩ := c.commitPlan_shows z p
  have hdrop := fun f => (Spares.dropRound [] (c.commitPlan z p) z).getF (r := ZONE_PLAN) z f (by decide)
  unfold Chip.commitZone
  rw [hp]
  dsimp only
  unfold Chip.Committed
  rw [hdrop, hdrop, hdrop, Chip.dropRound_zrt, Chip.commitPlan_zrt]
  exact ⟨Chip.plan?_dropRound_self _ _, hstate, hlate, hstart, rfl, rfl⟩

/-- A committed plan stays while other zones commit theirs. -/
theorem Chip.Committed.commitZone {c : Chip} {z : Nat} {p : Plan} (h : c.Committed z p) (y : Nat) : (c.commitZone y).Committed z p := by
  by_cases hyz : y = z
  · subst hyz
    rw [Chip.commitZone, h.1]
    exact h
  · exact h.of_kept (PlanKept.commitZone c hyz)

/-- The round of a terrace ended, with the most iterations that one of its zones took. -/
def Chip.roundEnded (c : Chip) (t best : Nat) : Chip :=
  (c.upd PLAN_ROUND t [(PLAN_ROUND.ITER_MAX, best)]).modTer t (fun x => { x with roundQ := none })

theorem PlanKept.roundEnded (c : Chip) (t best z : Nat) : PlanKept z c (c.roundEnded t best) :=
  (PlanKept.upd c _ _ _ (recKey_ne_of_id (by decide) _ _)).trans (PlanKept.modTer _ t _)

/-- At its end a round drops the late zones, commits the others' plans and ends. -/
theorem Chip.planCommit_due (c : Chip) (t q : Nat) (hround : (c.ter t).roundQ = some q) (hdue : q + ticksPerQuarter ≤ c.now) :
    ∃ best, c.planCommit t =
      ((c.planLateDeadline t).eachOf ((c.planLateDeadline t).roundZones t) Chip.commitZone).roundEnded t best := by
  unfold Chip.planCommit
  rw [hround]
  exact ⟨_, if_neg (Nat.not_lt.mpr hdue)⟩

theorem Chip.planCommit_committed (c : Chip) (t q z : Nat) (p : Plan) (hround : (c.ter t).roundQ = some q) (hdue : q + ticksPerQuarter ≤ c.now)
    (hz : z / 256 = t) (hp : c.plan? z = some p) (hfinished : p.finished = true) : (c.planCommit t).Committed z p := by
  subst hz
  have hlate : q + 720 * ticksPerSecond ≤ c.now := le_trans (Nat.add_le_add_left (by decide) q) hdue
  have hkept : (c.planLateDeadline (z / 256)).plan? z = some p :=
    (c.planLateDeadline_kept _ q z hround hlate).plan.trans (c.lateDropped_finished _ z p hp hfinished)
  obtain ⟨best, heq⟩ := c.planCommit_due _ q hround hdue
  rw [heq]
  refine Chip.Committed.of_kept ?_ (PlanKept.roundEnded _ _ best z)
  exact Chip.eachOf_reaches (fun d => d.plan? z = some p) (Chip.Committed · z p) (Chip.mem_roundZones _ z p hkept)
    (fun d y hyz hd => (PlanKept.commitZone d hyz).plan.trans hd) (fun d hd => d.commitZone_committed z p hd)
    (fun d y hd => hd.commitZone y) hkept

theorem planCommit_completes (s : State) (k q : Nat) (hk : k < 4) (hround : (s.chip.ter k).roundQ = some q)
    (hdue : q + ticksPerQuarter ≤ s.chip.now) :
    Completes (.planCommit k) s fun t => (t.chip.ter k).roundQ = none ∧
      ∀ z p, z < 1024 → z / 256 = k → s.chip.plan? z = some p → p.finished = true →
        t.chip.plan? z = none ∧ t.chip.getF ZONE_PLAN z ZONE_PLAN.PSTATE = 1 ∧ t.chip.getF ZONE_PLAN z ZONE_PLAN.LATE = 0 ∧
        t.chip.getF ZONE_PLAN z ZONE_PLAN.START = (p.q + ticksPerQuarter) % 2 ^ 64 ∧ (t.chip.zrt z).offs = p.off ∧
        (t.chip.zrt z).link.planOk = true := by
  refine Completes.of_run ((exec_planCommit ..).trans (if_pos hk)) fun t hsh => ⟨?_, fun z p _ hz hp hfinished => ?_⟩
  · obtain ⟨best, heq⟩ := s.chip.planCommit_due k q hround hdue
    rw [hsh.ter, heq, Chip.roundEnded, Chip.ter_modTer_self]
  · exact (s.chip.planCommit_committed k q z p hround hdue hz hp hfinished).of_kept
      ⟨hsh.plan? z, hsh.img _ _ (by decide), hsh.zrt z⟩

/-- A plan is invalid after its last step (R222). -/
theorem planExpiry_completes (s : State) (z : Nat) (hz : z < 1024) (hvalid : s.chip.getF ZONE_PLAN z ZONE_PLAN.PSTATE = 1)
    (hend : s.chip.getF ZONE_PLAN z ZONE_PLAN.START + 96 * ticksPerQuarter ≤ s.chip.now) :
    Completes (.planExpiry z) s fun t => t.chip.getF ZONE_PLAN z ZONE_PLAN.PSTATE = 0 ∧ (t.chip.zrt z).link.planOk = false := by
  refine Completes.of_run ((exec_planExpiry ..).trans (if_pos hz)) fun t hsh => ?_
  rw [hsh.getF _ _ _ (by decide), hsh.zrt, Chip.planExpiry, if_pos ⟨hvalid, hend⟩, Chip.planInvalid_zrt]
  exact ⟨s.chip.planInvalid_pstate z, rfl⟩

end Sys2Proof.Machine
end

section
/-!
PROOF. The fight arbiter (R224 to R226): the pairs it keeps, what judging one pair leaves of the others, and the offsets of an episode.
-/

namespace Sys2Proof.Machine

/-! ## Sorted lists -/

section Sorted

variable {α : Type} (key : α → Nat)

theorem mem_insertOn (x y : α) (l : List α) : y ∈ insertOn key x l ↔ y = x ∨ y ∈ l := by
  induction l with
  | nil => simp [insertOn]
  | cons a l ih =>
    unfold insertOn
    split
    · rw [List.mem_cons, ih, List.mem_cons]
      tauto
    · rw [List.mem_cons]

theorem pairwise_insertOn (x : α) (l : List α) (h : l.Pairwise (key · ≤ key ·)) : (insertOn key x l).Pairwise (key · ≤ key ·) := by
  induction l with
  | nil => simp [insertOn]
  | cons a l ih =>
    obtain ⟨ha, hl⟩ := List.pairwise_cons.mp h
    unfold insertOn
    split
    · next hle =>
      refine List.pairwise_cons.mpr ⟨fun y hy => ?_, ih hl⟩
      rcases (mem_insertOn key x y l).mp hy with rfl | hy
      · exact hle
      · exact ha y hy
    · next hlt =>
      refine List.pairwise_cons.mpr ⟨fun y hy => ?_, h⟩
      rcases List.mem_cons.mp hy with rfl | hy
      · omega
      · have := ha y hy
        omega

/-- Among entries of one key the one inserted comes last. -/
theorem filter_insertOn {p : α → Bool} (hp : ∀ a b, p a = true → p b = true → key a = key b) (x : α) (l : List α)
    (h : l.Pairwise (key · ≤ key ·)) : (insertOn key x l).filter p = l.filter p ++ [x].filter p := by
  induction l with
  | nil => rfl
  | cons a l ih =>
    obtain ⟨ha, hl⟩ := List.pairwise_cons.mp h
    unfold insertOn
    split
    · rw [List.filter_cons, List.filter_cons, ih hl]
      split <;> rfl
    · next hlt =>
      cases hx : p x with
      | false => simp [hx]
      | true =>
        have hnone : (a :: l).filter p = [] := by
          refine List.filter_eq_nil_iff.mpr fun y hy hpy => ?_
          have hkey := hp y x hpy hx
          rcases List.mem_cons.mp hy with rfl | hy
          · omega
          · have := ha y hy
            omega
        rw [List.filter_cons, if_pos hx, hnone]
        simp [hx]

/-- Sorting keeps the order of entries of one key, so the first of them stays the first. -/
theorem find?_sortOn {p : α → Bool} (hp : ∀ a b, p a = true → p b = true → key a = key b) (l : List α) :
    (sortOn key l).find? p = l.find? p := by
  have hfold : ∀ l acc : List α, acc.Pairwise (key · ≤ key ·) →
      (l.foldl (fun acc x => insertOn key x acc) acc).filter p = acc.filter p ++ l.filter p := by
    intro l
    induction l with
    | nil => simp
    | cons a l ih =>
      intro acc hacc
      rw [List.foldl_cons, ih _ (pairwise_insertOn key a acc hacc), filter_insertOn key hp a acc hacc, List.append_assoc, ← List.filter_append]
      rfl
  rw [← List.head?_filter, ← List.head?_filter, sortOn, hfold l [] List.Pairwise.nil]
  rfl

end Sorted

theorem nodup_eraseDups {α : Type} [BEq α] [LawfulBEq α] (l : List α) : l.eraseDups.Nodup := by
  match l with
  | [] => simp
  | a :: l =>
    rw [List.eraseDups_cons, List.nodup_cons, List.mem_eraseDups]
    exact ⟨by simp, nodup_eraseDups _⟩
termination_by l.length
decreasing_by exact Nat.lt_succ_of_le (List.length_filter_le _ _)

/-! ## Pairs -/

/-- A pair found is the pair of its zones. -/
theorem Chip.pair_zones {c : Chip} {z n : Nat} {f : Fight} (h : c.pair z n = some f) : f.z = z ∧ f.n = n := by
  simpa using List.find?_some h

theorem Chip.pair_congr {c d : Chip} (h : d.zones.fights = c.zones.fights) (z n : Nat) : d.pair z n = c.pair z n := by
  unfold Chip.pair
  rw [h]

/-- A pair written reads as written, every other pair as before. -/
theorem Chip.pair_setFight (c : Chip) (f : Fight) (z n : Nat) :
    (c.setFight f).pair z n = if f.z = z ∧ f.n = n then some f else c.pair z n := by
  have hkey : ∀ a b : Fight, (a.z == z && a.n == n) = true → (b.z == z && b.n == n) = true → 1024 * a.z + a.n = 1024 * b.z + b.n := by
    simp only [Bool.and_eq_true, beq_iff_eq]
    rintro a b ⟨ha, ha'⟩ ⟨hb, hb'⟩
    rw [ha, ha', hb, hb']
  unfold Chip.setFight Chip.pair
  dsimp only
  rw [find?_sortOn _ hkey, List.find?_cons]
  by_cases h : f.z = z ∧ f.n = n
  · rw [if_pos h, h.1, h.2]
    simp
  · have hf : (f.z == z && f.n == n) = false := by simpa using h
    rw [if_neg h, hf, List.find?_filter]
    dsimp only
    congr 1
    funext x
    rw [Bool.eq_iff_iff]
    simp only [decide_eq_true_eq, Bool.and_eq_true, Bool.or_eq_true, bne_iff_ne, beq_iff_eq]
    refine ⟨And.right, ?_⟩
    rintro ⟨rfl, rfl⟩
    exact ⟨by omega, rfl, rfl⟩

/-! ## What judging leaves -/

/-- The records that judging pairs writes, beside those of events. -/
abbrev fightIds : List Nat := [ZONE_PLAN.id, FIGHT_STATUS.id]

/-- `d` is `c` but for the arbiter's pairs, events, and the records that show plans and fights. -/
structure Judged (c d : Chip) : Prop where
  zone : d.zones.zone = c.zones.zone
  time : d.time = c.time
  img : Spares fightIds c d

/-- Beside that the pairs are as they were. -/
structure Showing (c d : Chip) : Prop extends Judged c d where
  fights : d.zones.fights = c.zones.fights

/-- Beside that the pairs other than that of `z` and `n` are as they were. -/
structure OnPair (z n : Nat) (c d : Chip) : Prop extends Judged c d where
  pair : ∀ a b, ¬ (z = a ∧ n = b) → d.pair a b = c.pair a b

namespace Judged

variable {a b c d : Chip}

theorem refl (c : Chip) : Judged c c := ⟨rfl, rfl, Spares.refl _ c⟩

theorem trans (h : Judged a b) (k : Judged b c) : Judged a c := ⟨k.zone.trans h.zone, k.time.trans h.time, h.img.trans k.img⟩

theorem fightF (h : Judged c d) (f : Fld) : d.fightF f = c.fightF f := h.img.getF 0 f (by decide)

theorem since (h : Judged c d) (t : Nat) : d.since t = c.since t := by simp only [Chip.since, h.time]

/-- The roles of a pair rest on the demands summed and the configuration. -/
theorem fightRoles (h : Judged c d) (z n : Nat) : d.fightRoles z n = c.fightRoles z n := by
  have hreach : ∀ z heat, d.demandReaches z heat = c.demandReaches z heat := fun z heat => by
    unfold Chip.demandReaches Chip.zrt
    rw [h.zone, h.fightF]
  unfold Chip.fightRoles
  simp only [hreach]

end Judged

namespace Showing

variable {a b c : Chip}

theorem refl (c : Chip) : Showing c c := ⟨Judged.refl c, rfl⟩

theorem trans (h : Showing a b) (k : Showing b c) : Showing a c := ⟨h.toJudged.trans k.toJudged, k.fights.trans h.fights⟩

theorem pair (h : Showing a b) (z n : Nat) : b.pair z n = a.pair z n := Chip.pair_congr h.fights z n

theorem upd (c : Chip) (r : RecDesc) (i : Nat) (fs : List (Fld × Nat)) (hr : r.id % 0x10000 ∈ fightIds) : Showing c (c.upd r i fs) :=
  ⟨⟨by rw [Chip.upd_zones], Chip.upd_time _ _ _ _, Spares.upd _ _ _ _ hr⟩, by rw [Chip.upd_zones]⟩

theorem raiseZone (c : Chip) (code sev z : Nat) (data masked : List Nat) : Showing c (c.raiseZone code sev z data masked) := by
  have h := Quiet.raiseZone c code sev z data masked
  exact ⟨⟨by rw [h.zones], h.time, Spares.of_quiet _ h⟩, by rw [h.zones]⟩

theorem showArb (c : Chip) (z : Nat) : Showing c (c.showArb z) := upd c _ _ _ (by decide)

theorem showFight (c : Chip) (f : Fight) : Showing c (c.showFight f) := (showArb c f.heater).trans (showArb _ f.cooler)

theorem showActive (c : Chip) : Showing c c.showActive := upd c _ _ _ (by decide)

theorem incSat (c : Chip) (f sat : Fld) (k : Nat) : Showing c (c.incSat FIGHT_STATUS 0 f sat k) := upd c _ _ _ (by decide)

end Showing

namespace OnPair

variable {z n : Nat} {a b c : Chip}

theorem refl (c : Chip) : OnPair z n c c := ⟨Judged.refl c, fun _ _ _ => rfl⟩

theorem trans (h : OnPair z n a b) (k : OnPair z n b c) : OnPair z n a c :=
  ⟨h.toJudged.trans k.toJudged, fun x y hxy => (k.pair x y hxy).trans (h.pair x y hxy)⟩

theorem of_showing (h : Showing a b) : OnPair z n a b := ⟨h.toJudged, fun x y _ => h.pair x y⟩

theorem ite (p : Prop) [Decidable p] (ha : OnPair z n c a) (hb : OnPair z n c b) : OnPair z n c (if p then a else b) := by
  split
  · exact ha
  · exact hb

theorem setFight (c : Chip) (f : Fight) : OnPair f.z f.n c (c.setFight f) :=
  ⟨⟨rfl, rfl, Spares.fights _ c _⟩, fun x y hxy => (c.pair_setFight f x y).trans (if_neg hxy)⟩

theorem endEpisode (c : Chip) (f : Fight) : OnPair f.z f.n c (c.endEpisode f) := by
  unfold Chip.endEpisode
  refine ite _ ?_ (refl c)
  exact (setFight c { f with episode := false }).trans (of_showing
    ((((Showing.showActive _).trans (Showing.showFight _ f)).trans (Showing.raiseZone _ _ _ _ _ _)).trans (Showing.raiseZone _ _ _ _ _ _)))

end OnPair

/-- The pair `f` in an episode that starts, its offsets half of `WIDEN` (R225). -/
def Chip.episodeOf (c : Chip) (f : Fight) (heater cooler : Nat) : Fight :=
  let w := divFree 225 (c.fightF FIGHT_CFG.WIDEN) 2
  { f with episode := true, heater := heater, cooler := cooler, hh := -w, hc := w, ch := -w, cc := w }

/-- An episode that starts is written in its pair; beside that it is counted, shown and reported. -/
theorem Chip.startEpisode_showing (c : Chip) (f : Fight) (heater cooler : Nat) :
    Showing (c.setFight (c.episodeOf f heater cooler)) (c.startEpisode f heater cooler) := by
  unfold Chip.startEpisode
  exact ((((Showing.showFight _ _).trans (Showing.incSat _ _ _ _)).trans (Showing.showActive _)).trans (Showing.raiseZone _ _ _ _ _ _)).trans
    (Showing.raiseZone _ _ _ _ _ _)

theorem OnPair.startEpisode (c : Chip) (f : Fight) (heater cooler : Nat) : OnPair f.z f.n c (c.startEpisode f heater cooler) :=
  (OnPair.setFight c (c.episodeOf f heater cooler)).trans (OnPair.of_showing (c.startEpisode_showing f heater cooler))

/-- The pair that is judged, or a new one. -/
theorem Chip.judged_zones (c : Chip) (z n : Nat) (b : Bool) :
    ∃ f : Fight, f.z = z ∧ f.n = n ∧ (let f := (c.pair z n).getD { z := z, n := n, since := c.up }
      if b = f.fighting then f else { f with fighting := b, since := c.up }) = f := by
  cases hpair : c.pair z n with
  | none =>
    refine ⟨_, ?_, ?_, rfl⟩ <;> dsimp only [Option.getD_none] <;> split <;> rfl
  | some f =>
    obtain ⟨hz, hn⟩ := Chip.pair_zones hpair
    refine ⟨_, ?_, ?_, rfl⟩ <;> dsimp only [Option.getD_some] <;> split <;> assumption

/-- Judging a pair leaves the others. -/
theorem OnPair.judgePair (c : Chip) (w : List (Nat × Nat)) (z n : Nat) : OnPair z n c (c.judgePair w z n) := by
  unfold Chip.judgePair
  dsimp only
  generalize (if w.contains (z, n) = true then c.fightRoles z n else none) = roles
  obtain ⟨f, rfl, rfl, hf⟩ := c.judged_zones z n roles.isSome
  dsimp only at hf
  rw [hf]
  have hjudged : OnPair f.z f.n c (if roles.isSome = true then ((c.setFight f).endEpisode f).incSat FIGHT_STATUS 0 FIGHT_STATUS.MINUTES
      FIGHT_STATUS.SAT 1 else (c.setFight f).endEpisode f) := by
    have hend := (OnPair.setFight c f).trans (OnPair.endEpisode _ f)
    exact OnPair.ite _ (hend.trans (OnPair.of_showing (Showing.incSat _ _ _ _))) hend
  split
  · exact OnPair.ite _ (hjudged.trans (OnPair.startEpisode _ f _ _)) hjudged
  · exact hjudged

/-- A watched pair that has fought for `DETECT_S` starts its episode (R225). -/
theorem Chip.judgePair_starts (c : Chip) (w : List (Nat × Nat)) {z n heater cooler : Nat} {f : Fight} (hw : (z, n) ∈ w)
    (hpair : c.pair z n = some f) (hfights : f.fighting = true) (hfree : f.episode = false) (hroles : c.fightRoles z n = some (heater, cooler))
    (hlong : c.fightF FIGHT_CFG.DETECT_S * ticksPerSecond ≤ c.since f.since) :
    (c.judgePair w z n).pair z n = some (c.episodeOf f heater cooler) := by
  obtain ⟨hz, hn⟩ := Chip.pair_zones hpair
  have hend : (c.setFight f).endEpisode f = c.setFight f := if_neg (by simp [hfree])
  obtain ⟨d, hd, hjudged⟩ : ∃ d, (c.setFight f).incSat FIGHT_STATUS 0 FIGHT_STATUS.MINUTES FIGHT_STATUS.SAT 1 = d ∧ Judged c d :=
    ⟨_, rfl, (OnPair.setFight c f).toJudged.trans (Showing.incSat _ _ _ _).toJudged⟩
  have heq : c.judgePair w z n = d.startEpisode f heater cooler := by
    have hlong' : d.fightF FIGHT_CFG.DETECT_S * ticksPerSecond ≤ d.since f.since := by
      rw [hjudged.fightF, hjudged.since]
      exact hlong
    unfold Chip.judgePair
    simp only [List.contains_iff_mem.mpr hw, hroles, hpair, Option.getD_some, Option.isSome_some, hfights, if_true, hend, hd, hfree,
      decide_eq_true hlong', Bool.not_false, Bool.true_and]
  have hepisode : d.episodeOf f heater cooler = c.episodeOf f heater cooler := by
    unfold Chip.episodeOf
    rw [hjudged.fightF]
  rw [heq, (d.startEpisode_showing f heater cooler).pair, Chip.pair_setFight, hepisode]
  exact if_pos ⟨hz, hn⟩

/-! ## `FIGHT_EVALUATE` -/

/-- What the one step of an element brings about from an invariant of the steps before it, and every later step keeps, holds at the end. -/
theorem Chip.eachOf_once {α : Type} (inv done : Chip → Prop) {f : Chip → α → Chip} {l : List α} (hl : l.Nodup) {a : α} (ha : a ∈ l)
    (hinv : ∀ c b, b ≠ a → inv c → inv (f c b)) (hstep : ∀ c, inv c → done (f c a)) (hdone : ∀ c b, b ≠ a → done c → done (f c b)) {c : Chip}
    (hc : inv c) : done (c.eachOf l f) := by
  obtain ⟨pre, post, rfl⟩ := List.append_of_mem ha
  have hnotin : a ∉ pre ++ post := (List.nodup_cons.mp (List.nodup_middle.mp hl)).1
  obtain ⟨hpre, hpost⟩ := not_or.mp (mt List.mem_append.mpr hnotin)
  have hbefore : inv (pre.foldl f c) := List.foldlRecOn (motive := inv) pre f hc fun d hd b hb => hinv d b (fun h => hpre (h ▸ hb)) hd
  unfold Chip.eachOf
  rw [List.foldl_append, List.foldl_cons]
  exact List.foldlRecOn (motive := done) post f (hstep _ hbefore) fun d hd b hb => hdone d b (fun h => hpost (h ▸ hb)) hd

/-- The pairs to judge: those watched and those held. -/
def Chip.judgedPairs (c : Chip) : List (Nat × Nat) := (c.watchedPairs ++ c.zones.fights.map (fun f => (f.z, f.n))).eraseDups

/-- The part with every pair judged. -/
def Chip.fightsJudged (c : Chip) : Chip := c.eachOf c.judgedPairs (fun d p => d.judgePair c.watchedPairs p.1 p.2)

/-- The part without the pairs that are neither in an episode nor watched. -/
def Chip.pairsKept (c : Chip) (w : List (Nat × Nat)) : Chip :=
  { c with zones.fights := c.zones.fights.filter (fun f => f.episode || w.contains (f.z, f.n)) }

/-- The part with the demands summed for the arbiter at zero. -/
def Chip.sumsCleared (c : Chip) : Chip :=
  c.each 1024 (fun c z => if (c.zrt z).fightN = 0 then c else c.modZrt z (fun x => { x with heatSum := 0, coolSum := 0, fightN := 0 }))

theorem Chip.fightEvaluate_eq (c : Chip) :
    c.fightEvaluate = ((c.fightsJudged.pairsKept c.watchedPairs).upd FIGHT_STATUS 0
      [(FIGHT_STATUS.WATCHED, c.watchedPairs.length)]).sumsCleared := rfl

/-- Clearing the sums leaves all that the zones' run-time state leaves. -/
theorem Chip.sumsCleared_keeps {γ : Type} (g : Chip → γ) (c : Chip) (hg : ∀ (d : Chip) z f, g (d.modZrt z f) = g d) :
    g c.sumsCleared = g c := by
  unfold Chip.sumsCleared
  exact Chip.each_keeps g _ _ _ fun d z => Chip.ite_keeps g _ rfl (hg d z _)

theorem Chip.each_establishes (p : Chip → Prop) {n k : Nat} (hk : k < n) {f : Chip → Nat → Chip} (hf : ∀ c j, j = k ∨ p c → p (f c j)) (c : Chip) :
    p (c.each n f) :=
  Chip.eachOf_establishes p (List.mem_range.mpr hk) hf c

theorem Chip.sumsCleared_fightN (c : Chip) (z : Nat) (hz : z < 1024) : (c.sumsCleared.zrt z).fightN = 0 := by
  unfold Chip.sumsCleared
  refine Chip.each_establishes (fun d => (d.zrt z).fightN = 0) hz (fun d y h => ?_) c
  split
  · next hzero => exact h.elim (fun he => he ▸ hzero) id
  · rw [Chip.zrt_modZrt]
    split
    · rfl
    · next hne => exact h.resolve_left hne

theorem Chip.pairsKept_pair {c : Chip} (w : List (Nat × Nat)) {z n : Nat} {g : Fight} (h : c.pair z n = some g) (hg : g.episode = true) :
    (c.pairsKept w).pair z n = some g := by
  obtain ⟨hzn, pre, post, hfights, hpre⟩ := List.find?_eq_some_iff_append.mp h
  unfold Chip.pairsKept Chip.pair
  dsimp only
  rw [List.find?_filter]
  refine List.find?_eq_some_iff_append.mpr ⟨by simp [hg, hzn], pre, post, hfights, fun x hx => ?_⟩
  have := hpre x hx
  simp only [Bool.not_eq_true'] at this
  simp [this]

/-- Judging all pairs starts the episode of one that has fought for `DETECT_S`. -/
theorem Chip.fightsJudged_starts (c : Chip) {z n heater cooler : Nat} {f : Fight} (hw : (z, n) ∈ c.watchedPairs)
    (hpair : c.pair z n = some f) (hfights : f.fighting = true) (hfree : f.episode = false) (hroles : c.fightRoles z n = some (heater, cooler))
    (hlong : c.fightF FIGHT_CFG.DETECT_S * ticksPerSecond ≤ c.since f.since) :
    c.fightsJudged.pair z n = some (c.episodeOf f heater cooler) := by
  have hother : ∀ (d : Chip) (p : Nat × Nat), p ≠ (z, n) → (d.judgePair c.watchedPairs p.1 p.2).pair z n = d.pair z n := fun d p hp =>
    (OnPair.judgePair d c.watchedPairs p.1 p.2).pair z n fun h => hp (Prod.ext h.1 h.2)
  have hmem : (z, n) ∈ c.judgedPairs := List.mem_eraseDups.mpr (List.mem_append_left _ hw)
  unfold Chip.fightsJudged
  refine Chip.eachOf_once (fun d => Judged c d ∧ d.pair z n = some f) (fun d => d.pair z n = some (c.episodeOf f heater cooler))
    (nodup_eraseDups _) hmem (fun d p hp hd => ?_) (fun d hd => ?_)
    (fun d p hp hd => (hother d p hp).trans hd) ⟨Judged.refl c, hpair⟩
  · exact ⟨hd.1.trans (OnPair.judgePair d c.watchedPairs p.1 p.2).toJudged, (hother d p hp).trans hd.2⟩
  · obtain ⟨hjudged, hd⟩ := hd
    have hepisode : d.episodeOf f heater cooler = c.episodeOf f heater cooler := by
      unfold Chip.episodeOf
      rw [hjudged.fightF]
    rw [← hepisode]
    refine d.judgePair_starts c.watchedPairs hw hd hfights hfree ((hjudged.fightRoles z n).trans hroles) ?_
    rw [hjudged.fightF, hjudged.since]
    exact hlong

theorem Shown.pair {c d : Chip} (h : Shown c d) (z n : Nat) : d.pair z n = c.pair z n := Chip.pair_congr (by rw [h.zones]) z n

theorem fightEvaluate_completes (s : State) :
    Completes .fightEvaluate s fun t =>
      t.chip.getF FIGHT_STATUS 0 FIGHT_STATUS.WATCHED = s.chip.watchedPairs.length % 2 ^ FIGHT_STATUS.WATCHED.width ∧
      (∀ z, z < 1024 → (t.chip.zrt z).fightN = 0) ∧
      ∀ z n f a b w, (z, n) ∈ s.chip.watchedPairs → s.chip.pair z n = some f → f.fighting = true → f.episode = false →
        s.chip.fightRoles z n = some (a, b) → s.chip.fightF FIGHT_CFG.DETECT_S * ticksPerSecond ≤ s.chip.since f.since →
        w = divFree 225 (s.chip.fightF FIGHT_CFG.WIDEN) 2 →
        ∃ g, t.chip.pair z n = some g ∧ g.episode = true ∧ g.heater = a ∧ g.cooler = b ∧ g.hh = -w ∧ g.ch = -w ∧ g.hc = w ∧ g.cc = w := by
  refine Completes.of_run (exec_fightEvaluate s) fun t hsh => ?_
  rw [s.chip.fightEvaluate_eq] at hsh
  refine ⟨?_, fun z hz => ?_, fun z n f a b w hw hpair hfights hfree hroles hlong hwidth => ?_⟩
  · rw [hsh.getF _ _ _ (by decide), Chip.sumsCleared_keeps (fun d => d.getF FIGHT_STATUS 0 FIGHT_STATUS.WATCHED) _ fun _ _ _ => rfl]
    exact Chip.getF_upd_one _ _ _ _ _
  · rw [hsh.zrt]
    exact Chip.sumsCleared_fightN _ z hz
  · subst hwidth
    refine ⟨s.chip.episodeOf f a b, ?_, rfl, rfl, rfl, rfl, rfl, rfl, rfl⟩
    rw [hsh.pair, Chip.sumsCleared_keeps (Chip.pair · z n) _ fun _ _ _ => rfl, (Showing.upd _ _ _ _ (by decide)).pair]
    exact Chip.pairsKept_pair _ (s.chip.fightsJudged_starts hw hpair hfights hfree hroles hlong) rfl

/-! ## `FIGHT_OFFSET_STEP` -/

theorem fightOffsetStep_completes (s : State) (z y : Nat) (f : Fight) (top : Int) (hz : z < 1024) (hy : y < 1024)
    (hpair : s.chip.pair (min z y) (max z y) = some f) (hepisode : f.episode = true) (hfights : f.fighting = true)
    (htop : top = divFree 225 (s.chip.fightF FIGHT_CFG.WIDEN) 2 + s.chip.fightF FIGHT_CFG.DRAW_MAX) :
    Completes (.fightOffsetStep z y) s fun t =>
      t.chip.pair (min z y) (max z y) = some { f with hh := max (-top) (f.hh - 10), cc := min top (f.cc + 10) } := by
  refine Completes.of_run ((exec_fightOffsetStep ..).trans (if_pos ⟨hz, hy⟩)) fun t hsh => ?_
  rw [hsh.pair, Chip.fightOffsetStep, hpair]
  dsimp only
  rw [hepisode, hfights, ← htop]
  exact ((Showing.showFight _ _).pair _ _).trans ((Chip.pair_setFight _ _ _ _).trans (if_pos (Chip.pair_zones hpair)))

/-- Settles O34: clause by clause, the rounds by what each step leaves of a zone's part in them, the fights by what judging leaves of a pair. -/
theorem plansAndFightsAct : Obligations.PlansAndFightsAct := by
  unfold Obligations.PlansAndFightsAct
  exact ⟨planRoundStart_completes, planIterationDeadline_completes, planLateDeadline_completes, planCommit_completes, planExpiry_completes,
    fightEvaluate_completes, fightOffsetStep_completes⟩

end Sys2Proof.Machine
end

section
/-!
SUPPORT. What the work of the allocator and of the units it drives leaves (R242 to R312): `Driven` says it for every operation of a frame
boundary, of a micro-slot and of the settling, and `TokensKept` adds, for those that move no token, the charges and the reserve.
-/

namespace Sys2Proof.Machine

/-! ## The forced-off lines -/

/-- What the forced-off lines are read from. -/
theorem Chip.forcedLines_congr {c d : Chip} (hok : d.boot.fbkOk = c.boot.fbkOk) (hready : d.boot.fbReady = c.boot.fbReady)
    (hinfo : d.img FB_CONFIG_INFO 0 = c.img FB_CONFIG_INFO 0) (hcut : ∀ f, d.img FB_FUNC_CFG f = c.img FB_FUNC_CFG f)
    (hfunc : ∀ f, f < 3 → d.funcState f = c.funcState f) : d.forcedLines = c.forcedLines := by
  have htripped : d.tripped = c.tripped := by
    unfold Chip.tripped
    exact List.filter_congr fun f hf => by rw [hfunc f (List.mem_range.mp hf)]
  unfold Chip.forcedLines Chip.fbHarmless Chip.failsafe Chip.getF
  simp only [htripped, hok, hready, hinfo, hcut]

theorem Chip.forcedLines_of_recs {c d : Chip} (hrecs : d.recs = c.recs) (hboot : d.boot = c.boot) : d.forcedLines = c.forcedLines :=
  Chip.forcedLines_congr (by rw [hboot]) (by rw [hboot]) (Chip.img_congr hrecs _ _) (fun _ => Chip.img_congr hrecs _ _)
    fun f _ => by unfold Chip.funcState Chip.getF; rw [Chip.img_congr hrecs]

theorem Quiet.forcedLines {c d : Chip} (h : Quiet c d) : d.forcedLines = c.forcedLines :=
  Chip.forcedLines_congr (by rw [← h.boot]) (by rw [← h.boot]) (h.img _ _ (by decide)) (fun _ => h.img _ _ (by decide))
    fun f hf => h.fbs _ (.inl (by simp only [FB_STATUS.FUNC_STATE, FB_STATUS.EVT_LOST]; omega))

/-- An assignment to a record that the Firebreak does not read. -/
theorem Chip.forcedLines_upd (c : Chip) (r : RecDesc) (i : Nat) (fs : List (Fld × Nat))
    (hr : r.id % 0x10000 ∉ [FB_STATUS, FB_CONFIG_INFO, FB_FUNC_CFG].map (·.id % 0x10000)) : (c.upd r i fs).forcedLines = c.forcedLines := by
  have hne : ∀ q ∈ [FB_STATUS, FB_CONFIG_INFO, FB_FUNC_CFG], ∀ j, recKey r i ≠ recKey q j := fun q hq j =>
    recKey_ne_of_id (fun h => hr (List.mem_map.mpr ⟨q, hq, h.symm⟩)) i j
  exact Chip.forcedLines_congr (by rw [Chip.upd_boot]) (by rw [Chip.upd_boot]) (Chip.img_upd_ne _ _ _ _ _ _ (hne _ (by simp) _))
    (fun _ => Chip.img_upd_ne _ _ _ _ _ _ (hne _ (by simp) _)) fun _ _ => Chip.getF_upd_ne _ _ _ _ _ _ _ (hne _ (by simp) _)

/-! ## The frame -/

/-- The allocator's state without what its work moves: tokens, targets, drives, reports. -/
def Act.fixed (x : Act) : Act :=
  let y := { x with c := 0, maps := [], tgt := [], chan := [], axis := [], group := [], man0 := [] }
  { y with lastShed := none, bnr := false, acc := [], rot := 0 }

/-- The records that the drives, the arrays, the fans and the allocator show their work in. -/
def driveIds : List Nat :=
  shownIds ++ [ENC_STATUS, TARGET_STATUS, BUDGET_STATUS, ARRAY_STATUS, FAN_GROUP_STATUS, FAN_PORT_STATUS, ZONE_STATUS].map RecDesc.id

/-- `d` is `c` after work of the allocator or of what it drives: masks, budget and frame stand, the configuration stands, a forced valve
stays in FORCED and an axis without a class-0 move is given none. -/
structure Driven (c d : Chip) : Prop where
  act : d.act.fixed = c.act.fixed
  lines : d.forcedLines = c.forcedLines
  img : ∀ r i, r.id % 0x10000 ∉ driveIds → d.img r i = c.img r i
  valve : ∀ ch, c.forced ch = true → c.chKind ch = ckValve → c.cstate ch = csForced → d.cstate ch = csForced
  c0 : ∀ a, (c.axis a).c0 = false → (d.axis a).c0 = false

/-- Work that moves no token. -/
structure TokensKept (c d : Chip) : Prop extends Driven c d where
  charge : ∀ i, (d.tgt i).charge = (c.tgt i).charge
  reserve : d.act.c = c.act.c

namespace Driven

variable {b c d : Chip}

/-- What is read of the fixed part stands. -/
theorem kept {γ : Type} (h : Driven c d) (g : Act → γ) (hg : ∀ x : Act, g x.fixed = g x) : g d.act = g c.act := by rw [← hg, h.act, hg]

theorem forced_eq (h : Driven c d) (ch : Nat) : d.forced ch = c.forced ch := by
  unfold Chip.forced Chip.stopped
  rw [h.lines, h.kept Act.stopMask fun _ => rfl, h.kept Act.forceMask fun _ => rfl]

theorem getF (h : Driven c d) (r : RecDesc) (i : Nat) (f : Fld) (hr : r.id % 0x10000 ∉ driveIds) : d.getF r i f = c.getF r i f := by
  rw [Chip.getF, h.img r i hr, Chip.getF]

theorem chKind (h : Driven c d) (ch : Nat) : d.chKind ch = c.chKind ch := h.getF _ _ _ (by decide)

theorem budget (h : Driven c d) : d.act.b = c.act.b := h.kept Act.b fun _ => rfl

theorem cNom (h : Driven c d) : d.cNom = c.cNom := by
  unfold Chip.cNom
  rw [h.getF _ _ _ (by decide), h.budget]

theorem refl (c : Chip) : Driven c c := ⟨rfl, rfl, fun _ _ _ => rfl, fun _ _ _ h => h, fun _ h => h⟩

theorem trans (h : Driven b c) (k : Driven c d) : Driven b d where
  act := k.act.trans h.act
  lines := k.lines.trans h.lines
  img r i hr := (k.img r i hr).trans (h.img r i hr)
  valve ch hf hk hs := k.valve ch ((h.forced_eq ch).trans hf) ((h.chKind ch).trans hk) (h.valve ch hf hk hs)
  c0 a ha := k.c0 a (h.c0 a ha)

theorem ite {a b : Chip} (p : Prop) [Decidable p] (ha : Driven c a) (hb : Driven c b) : Driven c (if p then a else b) := by
  split
  · exact ha
  · exact hb

theorem eachOf {α : Type} (h : Driven c d) (l : List α) (f : Chip → α → Chip) (hf : ∀ e a, Driven e (f e a)) : Driven c (d.eachOf l f) :=
  Chip.eachOf_preserves (Driven c) (fun e a he => he.trans (hf e a)) l h

theorem each (h : Driven c d) (n : Nat) (f : Chip → Nat → Chip) (hf : ∀ e k, Driven e (f e k)) : Driven c (d.each n f) :=
  h.eachOf (List.range n) f hf

/-- A change beside the records and the parts of the allocator that are fixed. -/
theorem of_recs (hrecs : d.recs = c.recs) (hboot : d.boot = c.boot) (hact : d.act.fixed = c.act.fixed)
    (hc0 : ∀ a, (c.axis a).c0 = false → (d.axis a).c0 = false) : Driven c d where
  act := hact
  lines := Chip.forcedLines_of_recs hrecs hboot
  img r i _ := Chip.img_congr hrecs r i
  valve ch _ _ hs := by
    unfold Chip.cstate Chip.getF
    rw [Chip.img_congr hrecs]
    exact hs
  c0 := hc0

end Driven

namespace TokensKept

variable {b c d : Chip}

theorem refl (c : Chip) : TokensKept c c := ⟨Driven.refl c, fun _ => rfl, rfl⟩

theorem trans (h : TokensKept b c) (k : TokensKept c d) : TokensKept b d :=
  ⟨h.toDriven.trans k.toDriven, fun i => (k.charge i).trans (h.charge i), k.reserve.trans h.reserve⟩

theorem ite {a b : Chip} (p : Prop) [Decidable p] (ha : TokensKept c a) (hb : TokensKept c b) : TokensKept c (if p then a else b) := by
  split
  · exact ha
  · exact hb

theorem eachOf {α : Type} (h : TokensKept c d) (l : List α) (f : Chip → α → Chip) (hf : ∀ e a, TokensKept e (f e a)) :
    TokensKept c (d.eachOf l f) :=
  Chip.eachOf_preserves (TokensKept c) (fun e a he => he.trans (hf e a)) l h

theorem each (h : TokensKept c d) (n : Nat) (f : Chip → Nat → Chip) (hf : ∀ e k, TokensKept e (f e k)) : TokensKept c (d.each n f) :=
  h.eachOf (List.range n) f hf

/-! ### Writes of the state -/

/-- A change beside the records and the allocator. -/
theorem beside (h : TokensKept c d) {e : Chip} (hrecs : e.recs = d.recs) (hboot : e.boot = d.boot) (hact : e.act = d.act) : TokensKept c e :=
  h.trans ⟨.of_recs hrecs hboot (by rw [hact]) fun a ha => by unfold Chip.axis; rw [hact]; exact ha,
    fun i => by unfold Chip.tgt; rw [hact], by rw [hact]⟩

/-- A change of the allocator alone that moves neither tokens nor targets nor axes. -/
theorem acted (h : TokensKept c d) (x : Act) (hfix : x.fixed = d.act.fixed := by rfl) (htgt : x.tgt = d.act.tgt := by rfl)
    (haxis : x.axis = d.act.axis := by rfl) (hc : x.c = d.act.c := by rfl) : TokensKept c { d with act := x } :=
  h.trans ⟨.of_recs rfl rfl hfix fun a ha => by unfold Chip.axis; rw [haxis]; exact ha, fun i => by unfold Chip.tgt; rw [htgt], hc⟩

theorem setTgt (h : TokensKept c d) (i : Nat) (x : Tgt) (hx : x.charge = (d.tgt i).charge := by rfl) : TokensKept c (d.setTgt i x) := by
  refine h.trans ⟨.of_recs rfl rfl rfl fun _ ha => ha, fun j => ?_, rfl⟩
  rw [Chip.tgt_setTgt]
  split
  · next hij => rw [← hij, hx]
  · rfl

theorem modTgt (h : TokensKept c d) (i : Nat) (f : Tgt → Tgt) (hf : ∀ t, (f t).charge = t.charge := by intro _; rfl) : TokensKept c (d.modTgt i f) :=
  h.setTgt i _ (hf _)

theorem modAxis (h : TokensKept c d) (a : Nat) (f : Axis → Axis) (hf : ∀ x : Axis, x.c0 = false → (f x).c0 = false := by intro _ hx; exact hx) :
    TokensKept c (d.modAxis a f) := by
  refine h.trans ⟨.of_recs rfl rfl rfl fun k hk => ?_, fun _ => rfl, rfl⟩
  rw [Chip.modAxis, Chip.axis_setAxis]
  split
  · next hak => exact hf _ (hak ▸ hk)
  · exact hk

theorem modChan (h : TokensKept c d) (ch : Nat) (f : Chan → Chan) : TokensKept c (d.modChan ch f) := h.acted _

theorem modFgroup (h : TokensKept c d) (g : Nat) (f : FanGroup → FanGroup) : TokensKept c (d.modFgroup g f) := h.acted _

theorem modZrt (h : TokensKept c d) (z : Nat) (f : ZoneRt → ZoneRt) : TokensKept c (d.modZrt z f) := h.beside rfl rfl rfl

theorem modArr (h : TokensKept c d) (a : Nat) (f : Arr → Arr) : TokensKept c (d.modArr a f) := h.beside rfl rfl rfl

theorem sampleMean (h : TokensKept c d) (key : Nat) (v : Int) : TokensKept c (d.sampleMean key v) := h.acted _

/-- Events, replies and results of handles. -/
theorem quiet (h : TokensKept c d) {e : Chip} (hq : Quiet d e) : TokensKept c e :=
  h.trans {
    act := by rw [hq.act]
    lines := hq.forcedLines
    img := fun r i hr => hq.img r i fun hm => hr (List.mem_append_left _ (List.mem_append_left _ hm))
    valve := fun ch _ _ hs => (hq.getF _ _ _ (by decide)).trans hs
    c0 := fun a ha => by unfold Chip.axis; rw [hq.act]; exact ha
    charge := fun i => by unfold Chip.tgt; rw [hq.act]
    reserve := by rw [hq.act] }

theorem raise (h : TokensKept c d) (code sev source : Nat) (data : List Nat) (aud : Audience) :
    TokensKept c (d.raise code sev source data aud) := h.quiet (Quiet.raise d code sev source data aud)

theorem answerWaits (h : TokensKept c d) (key st : Nat) (data : List Nat) : TokensKept c (d.answerWaits key st data) :=
  h.quiet (Quiet.answerWaits d key st data)

/-! ### Writes of records -/

/-- An assignment that leaves the lines, and a forced valve in FORCED. -/
theorem assigned (h : TokensKept c d) (r : RecDesc) (i : Nat) (fs : List (Fld × Nat)) (hr : r.id % 0x10000 ∈ driveIds)
    (hlines : (d.upd r i fs).forcedLines = d.forcedLines)
    (hvalve : ∀ ch, d.forced ch = true → d.chKind ch = ckValve → d.cstate ch = csForced → (d.upd r i fs).cstate ch = csForced) :
    TokensKept c (d.upd r i fs) :=
  h.trans {
    act := by rw [Chip.upd_act]
    lines := hlines
    img := fun q j hq => Chip.img_upd_ne d r q i j fs (recKey_ne_of_id (fun e => hq (e ▸ hr)) i j)
    valve := hvalve
    c0 := fun a ha => by unfold Chip.axis; rw [Chip.upd_act]; exact ha
    charge := fun i => by unfold Chip.tgt; rw [Chip.upd_act]
    reserve := by rw [Chip.upd_act] }

/-- An assignment to a record that neither the Firebreak nor the channels keep. -/
theorem upd (h : TokensKept c d) (r : RecDesc) (i : Nat) (fs : List (Fld × Nat)) (hr : r.id % 0x10000 ∈ driveIds)
    (hfb : r.id % 0x10000 ∉ [FB_STATUS, FB_CONFIG_INFO, FB_FUNC_CFG].map (·.id % 0x10000)) (hch : r.id % 0x10000 ≠ CH_STATUS.id % 0x10000) :
    TokensKept c (d.upd r i fs) :=
  h.assigned r i fs hr (d.forcedLines_upd r i fs hfb) fun _ _ _ hs => (Chip.getF_upd_ne _ _ _ _ _ _ _ (recKey_ne_of_id hch _ _)).trans hs

theorem updAxis (h : TokensKept c d) (a : Nat) (fs : List (Fld × Nat)) : TokensKept c (d.upd AX_STATUS a fs) :=
  h.upd _ a fs (by decide) (by decide) (by decide)

theorem updTarget (h : TokensKept c d) (i : Nat) (fs : List (Fld × Nat)) : TokensKept c (d.upd TARGET_STATUS i fs) :=
  h.upd _ i fs (by decide) (by decide) (by decide)

theorem updBudget (h : TokensKept c d) (fs : List (Fld × Nat)) : TokensKept c (d.upd BUDGET_STATUS 0 fs) :=
  h.upd _ 0 fs (by decide) (by decide) (by decide)

/-- An assignment to a channel's status beside its state. -/
theorem updChannel (h : TokensKept c d) (ch : Nat) (fs : List (Fld × Nat)) (hfs : ∀ p ∈ fs, CH_STATUS.CSTATE.apart p.1) :
    TokensKept c (d.upd CH_STATUS ch fs) :=
  h.assigned _ ch fs (by decide) (d.forcedLines_upd _ ch fs (by decide)) fun _ _ _ hs => (Chip.getF_upd_apart_inst _ _ _ _ _ _ hfs).trans hs

/-- An assignment to a channel's status that does not take it out of FORCED. -/
theorem updCstate (h : TokensKept c d) (ch : Nat) (fs : List (Fld × Nat))
    (hstay : d.forced ch = true → d.chKind ch = ckValve → d.cstate ch = csForced → (d.upd CH_STATUS ch fs).cstate ch = csForced) :
    TokensKept c (d.upd CH_STATUS ch fs) :=
  h.assigned _ ch fs (by decide) (d.forcedLines_upd _ ch fs (by decide)) fun k hf hk hs => by
    by_cases hck : ch = k
    · subst hck
      exact hstay hf hk hs
    · exact (Chip.getF_upd_ne _ _ _ _ _ _ _ (recKey_ne_of_inst _ hck)).trans hs

/-- An assignment to the Firebreak's status beside the states of its functions. -/
theorem updFirebreak (h : TokensKept c d) (fs : List (Fld × Nat)) (hfs : ∀ f, f < 3 → ∀ p ∈ fs, (FB_STATUS.FUNC_STATE f).apart p.1) :
    TokensKept c (d.upd FB_STATUS 0 fs) :=
  h.assigned _ 0 fs (by decide)
    (Chip.forcedLines_congr (by rw [Chip.upd_boot]) (by rw [Chip.upd_boot]) (Chip.img_upd_ne _ _ _ _ _ _ (recKey_ne_of_id (by decide) _ _))
      (fun _ => Chip.img_upd_ne _ _ _ _ _ _ (recKey_ne_of_id (by decide) _ _)) fun f hf => Chip.getF_upd_apart _ _ _ _ _ (hfs f hf))
    fun _ _ _ hs => (Chip.getF_upd_ne _ _ _ _ _ _ _ (recKey_ne_of_id (by decide) _ _)).trans hs

end TokensKept

end Sys2Proof.Machine
end

section
/-!
SUPPORT. The operations of the channels, axes, arrays and fans that the allocator uses (R272 to R348): none of them moves a token, takes a
forced valve out of FORCED or gives an axis a class-0 move.
-/

namespace Sys2Proof.Machine

namespace TokensKept

variable {c d : Chip}

/-! ### Channels -/

theorem setCstate (h : TokensKept c d) (ch s : Nat)
    (hs : d.forced ch = true → d.chKind ch = ckValve → d.cstate ch = csForced → s = csForced) : TokensKept c (d.setCstate ch s) :=
  h.updCstate ch _ fun hf hk hc => by
    rw [Chip.cstate, Chip.getF_upd_one, hs hf hk hc]
    rfl

theorem abandonWatch (h : TokensKept c d) (ch : Nat) : TokensKept c (d.abandonWatch ch) := h.modChan ch _

theorem rest (h : TokensKept c d) (ch : Nat) : TokensKept c (d.rest ch) := by
  refine h.trans ?_
  unfold Chip.rest
  dsimp only
  have hopen : TokensKept d (((d.abandonWatch ch).upd CH_STATUS ch [(CH_STATUS.ECON_REQ, 0)]).modTgt ch fun t =>
      { t with closedAt := some ((d.abandonWatch ch).upd CH_STATUS ch [(CH_STATUS.ECON_REQ, 0)]).act.frame }) :=
    (((refl d).abandonWatch ch).updChannel ch _ (apart_of_one (by decide))).modTgt ch _
  have hleft := ite (d.chDriven ch = true) hopen (refl d)
  refine ite _ hleft ((hleft.modChan ch _).setCstate ch _ fun hf hk _ => if_pos ⟨?_, ?_⟩)
  · exact (hleft.chKind ch).symm.trans hk
  · exact (hleft.forced_eq ch).symm.trans hf

theorem switchOff (h : TokensKept c d) (ch : Nat) : TokensKept c (d.switchOff ch) := ite _ (h.rest ch) h

theorem requeue (h : TokensKept c d) (i : Nat) : TokensKept c (d.requeue i) := h.modTgt i _

theorem judgeMan0 (h : TokensKept c d) (seq st : Nat) : TokensKept c (d.judgeMan0 seq st) := by
  unfold Chip.judgeMan0
  exact (h.acted _).answerWaits _ _ _

theorem resetAnswer (h : TokensKept c d) (ch code : Nat) : TokensKept c (d.resetAnswer ch code) := by
  unfold Chip.resetAnswer
  split
  · exact h
  · have hdone := h.modChan ch fun x => { x with resetting := none }
    exact (ite _ (ite _ (hdone.requeue ch) ((hdone.requeue ch).raise _ _ _ _ _)) hdone).answerWaits _ _ _

theorem goHot (h : TokensKept c d) (ch : Nat) : TokensKept c (d.goHot ch) := by
  unfold Chip.goHot Chip.coilHotEvent
  exact ite _ h (((h.modChan ch _).rest ch).raise _ _ _ _ _)

theorem setManual (h : TokensKept c d) (ch mode timeout cause : Nat) : TokensKept c (d.setManual ch mode timeout cause) := by
  have hset : TokensKept c (d.upd CH_STATUS ch [(CH_STATUS.MANUAL_MODE, mode), (CH_STATUS.MANUAL, if mode = 0 then 0 else 1)]) :=
    h.updChannel ch _ (apart_of_two (by decide))
  unfold Chip.setManual
  exact ite _ (hset.modChan ch _) ((hset.modChan ch _).raise _ _ _ _ _)

/-- A pull-in starts on a channel that nothing forces. -/
theorem startBoost (h : TokensKept c d) (ch : Nat) (holdPull : Bool) (hfree : d.forced ch = false) :
    TokensKept c (d.startBoost ch holdPull) := by
  refine h.trans ?_
  unfold Chip.startBoost
  have hset := ((refl d).abandonWatch ch).modChan ch
  refine ((hset _).updCstate ch _ fun hf => ?_).modTgt ch _
  rw [(hset _).forced_eq ch, hfree] at hf
  exact absurd hf (by decide)

theorem boostNotReady (h : TokensKept c d) : TokensKept c d.boostNotReady := by
  unfold Chip.boostNotReady
  split
  · exact h
  · exact ite _ h (((h.acted _).each 96 _ fun e ch => (refl e).updChannel ch _ (apart_of_one (by decide))).raise _ _ _ _ _)

/-! ### Axes -/

theorem setAstate (h : TokensKept c d) (a s : Nat) : TokensKept c (d.setAstate a s) := h.updAxis a _

theorem axDrive (h : TokensKept c d) (a : Nat) (num : Int) : TokensKept c (d.axDrive a num) := by
  unfold Chip.axDrive
  exact (h.modAxis a _).updAxis a _

theorem axHalt (h : TokensKept c d) (a new : Nat) : TokensKept c (d.axHalt a new) := by
  unfold Chip.axHalt
  exact ((h.axDrive a 0).modAxis a _).setAstate a new

theorem homeResult (h : TokensKept c d) (a st : Nat) (data : List Nat) : TokensKept c (d.homeResult a st data) := by
  unfold Chip.homeResult
  exact (h.quiet (Quiet.finish d _ st data)).modAxis a _

theorem abandonHoming (h : TokensKept c d) (a st : Nat) : TokensKept c (d.abandonHoming a st) := by
  unfold Chip.abandonHoming
  exact ite _ ((h.updAxis a _).homeResult a st []) h

theorem axStop (h : TokensKept c d) (a : Nat) : TokensKept c (d.axStop a) := by
  have hshow : TokensKept c (d.upd AX_STATUS a [(AX_STATUS.FORCED, if d.axForced a then 1 else 0)]) := h.updAxis a _
  unfold Chip.axStop
  exact ite _ hshow ((hshow.abandonHoming a stBadState).axHalt a asStopped)

theorem axAim (h : TokensKept c d) (a sp : Nat) : TokensKept c (d.axAim a sp) := by
  unfold Chip.axAim
  exact (h.modAxis a _).updAxis a _

theorem axMove (h : TokensKept c d) (a : Nat) : TokensKept c (d.axMove a) := by
  unfold Chip.axMove
  exact (h.modAxis a _).setAstate a asMoving

theorem axHome (h : TokensKept c d) (a : Nat) (grant : Bool) : TokensKept c (d.axHome a grant) := by
  unfold Chip.axHome
  exact (((ite _ ((h.modAxis a _).upd ENC_STATUS _ _ (by decide) (by decide) (by decide)) (h.modAxis a _)).updAxis a _).setAstate a
    asHoming).axDrive a _

theorem discardWait (h : TokensKept c d) (i : Nat) : TokensKept c (d.discardWait i) := by
  unfold Chip.discardWait
  split
  · exact h
  · have hdrop := h.modTgt i (fun t => { t with wait := none })
    exact ite _ (hdrop.homeResult _ _ _) hdrop

/-! ### Arrays -/

theorem updArray (h : TokensKept c d) (a : Nat) (fs : List (Fld × Nat)) : TokensKept c (d.upd ARRAY_STATUS a fs) :=
  h.upd _ a fs (by decide) (by decide) (by decide)

theorem overrun (h : TokensKept c d) (a kind : Nat) : TokensKept c (d.overrun a kind) := by
  unfold Chip.overrun Chip.incSat
  exact ite _ (((h.updArray a _).modArr a _).raise _ _ _ _ _) ((h.updArray a _).modArr a _)

theorem takeMode (h : TokensKept c d) (a : Nat) : TokensKept c (d.takeMode a) := ite _ h (h.updArray a _)

theorem settleArr (h : TokensKept c d) (a : Nat) : TokensKept c (d.settleArr a) := ite _ h (h.updArray a _)

theorem regularTrigger (h : TokensKept c d) (a : Nat) (entries : List Nat) : TokensKept c (d.regularTrigger a entries) := by
  unfold Chip.regularTrigger
  exact ite _ h (ite _ (h.overrun a 3) (ite _ (h.overrun a 0) (((h.takeMode a).modArr a _).settleArr a)))

theorem triggerB (h : TokensKept c d) : TokensKept c d.triggerB := by
  unfold Chip.triggerB
  have htrig := h.regularTrigger 1 d.regularB.1
  exact ite _ (htrig.acted _) htrig

/-! ### Fans -/

theorem updFanGroup (h : TokensKept c d) (g : Nat) (fs : List (Fld × Nat)) : TokensKept c (d.upd FAN_GROUP_STATUS g fs) :=
  h.upd _ g fs (by decide) (by decide) (by decide)

theorem groupOutput (h : TokensKept c d) (g src target out : Nat) (skipping : Bool) :
    TokensKept c (d.groupOutput g src target out skipping) := by
  unfold Chip.groupOutput
  exact ((h.modFgroup g _).updFanGroup g _).eachOf _ _ fun e p => (refl e).upd FAN_PORT_STATUS p _ (by decide) (by decide) (by decide)

theorem groupStep (h : TokensKept c d) (g : Nat) : TokensKept c (d.groupStep g) := by
  have hcurve : TokensKept c (d.curveState g) := ite _ (h.updFanGroup g _) (ite _ (h.updFanGroup g _) h)
  unfold Chip.groupStep
  exact ite _ ((hcurve.modFgroup g _).groupOutput _ _ _ _ _) ((hcurve.modFgroup g _).groupOutput _ _ _ _ _)

theorem fanMicroslot (h : TokensKept c d) : TokensKept c d.fanMicroslot := by
  unfold Chip.fanMicroslot
  exact ite _ h (h.each 16 _ fun e g => ite _ ((refl e).groupStep g) (refl e))

/-! ### Settling -/

theorem settleForced (h : TokensKept c d) : TokensKept c d.settleForced := by
  unfold Chip.settleForced
  exact ite _ h ((h.each 96 _ fun e ch => ite _ ((refl e).rest ch) (refl e)).each 24 _ fun e a => ite _ ((refl e).axStop a) (refl e))

theorem settleFb (h : TokensKept c d) : TokensKept c d.settleFb := by
  unfold Chip.settleFb
  exact (h.updFirebreak _ fun f hf => apart_of_fields [FB_STATUS.SO_PERMIT, FB_STATUS.SO_REQ, FB_STATUS.FAILSAFE] rfl
    (by interval_cases f <;> decide)).updFirebreak _ fun f hf => apart_of_one (by interval_cases f <;> decide)

theorem settleLines (h : TokensKept c d) : TokensKept c d.settleLines :=
  (settleForced (ite _ (h.upd AON_STATUS 0 _ (by decide) (by decide) (by decide)) h)).settleFb

theorem of_settle (s : State) : TokensKept s.chip s.settle.chip :=
  settleLines ((refl s.chip).beside (e := { s.chip with store.ops := [] }) rfl rfl rfl)

end TokensKept

/-! ## Targets under settling -/

/-- A target without its time of closing. -/
def Tgt.steady (t : Tgt) : Tgt := { t with closedAt := none }

theorem Chip.tgt_of_act {c d : Chip} (h : d.act = c.act) (i : Nat) : d.tgt i = c.tgt i := by rw [Chip.tgt, h, Chip.tgt]

theorem Chip.rest_steady (c : Chip) (ch i : Nat) : ((c.rest ch).tgt i).steady = (c.tgt i).steady := by
  have hmod : ∀ d : Chip, ∀ t : Option Nat, ((d.modTgt ch fun x => { x with closedAt := t }).tgt i).steady = (d.tgt i).steady := fun d t => by
    rw [Chip.modTgt, Chip.tgt_setTgt]
    split
    · next h => rw [← h]; rfl
    · rfl
  have hnew : ∀ (d : Chip) (p : Prop) [Decidable p] (f : Chan → Chan) (new : Nat),
      ((if p then d else (d.modChan ch f).setCstate ch new).tgt i).steady = (d.tgt i).steady := fun d p _ f new => by
    split
    · rfl
    · exact congrArg Tgt.steady (Chip.tgt_of_act (Chip.upd_act ..) i)
  unfold Chip.rest
  refine (hnew _ _ _ _).trans ?_
  split
  · exact (hmod _ _).trans (congrArg Tgt.steady (Chip.tgt_of_act (Chip.upd_act ..) i))
  · rfl

theorem Chip.axStop_tgt (c : Chip) (a i : Nat) : (c.axStop a).tgt i = c.tgt i := by
  have hfinish : ∀ (d : Chip) k st data, (d.finish k st data).act = d.act := fun d k st data => (Quiet.finish d k st data).act
  have htgt : (c.axStop a).act.tgt = c.act.tgt := by
    unfold Chip.axStop Chip.abandonHoming
    dsimp only
    repeat' split
    all_goals simp [Chip.axHalt, Chip.axDrive, Chip.setAstate, Chip.modAxis, Chip.setAxis, Chip.homeResult, hfinish]
  rw [Chip.tgt, htgt, Chip.tgt]

/-- Settling closes channels and stops axes: of a target it moves the time of closing alone. -/
theorem State.settle_steady (s : State) (i : Nat) : (s.settle.chip.tgt i).steady = (s.chip.tgt i).steady := by
  have hfault : ∀ d : Chip, d.settleFault.tgt i = d.tgt i := fun d => Chip.tgt_of_act (by unfold Chip.settleFault; split <;> simp) i
  have hforced : ∀ d : Chip, (d.settleForced.tgt i).steady = (d.tgt i).steady := fun d => by
    unfold Chip.settleForced
    dsimp only
    split
    · rfl
    · refine (Chip.eachOf_keeps (fun e => (e.tgt i).steady) _ _ _ fun e a => ?_).trans
        (Chip.eachOf_keeps (fun e => (e.tgt i).steady) _ _ _ fun e ch => ?_)
      · split
        · rw [Chip.axStop_tgt]
        · rfl
      · split
        · exact e.rest_steady ch i
        · rfl
  have hfb : ∀ d : Chip, d.settleFb.tgt i = d.tgt i := fun d => Chip.tgt_of_act (by simp [Chip.settleFb]) i
  change ((Chip.settleLines { s.chip with store.ops := [] }).tgt i).steady = _
  rw [Chip.settleLines, hfb, hforced, hfault]
  rfl

end Sys2Proof.Machine
end

section
/-!
SUPPORT. The ledger (R248 to R251): what a change of a charge makes of the held and the free tokens, and the allocator's operations, those
that move no token (`TokensKept`) and those that do but leave a balanced ledger balanced (`Paid`).
-/

namespace Sys2Proof.Machine

/-! ## Held and free tokens -/

theorem foldl_range_add (n : Nat) (f : Nat → Nat) : (List.range n).foldl (fun s i => s + f i) 0 = ∑ i ∈ Finset.range n, f i := by
  induction n with
  | zero => rfl
  | succ n ih => rw [List.range_succ, List.foldl_append, ih, Finset.sum_range_succ]; rfl

theorem Chip.heldTokens_eq_sum (c : Chip) : c.heldTokens = ∑ i ∈ Finset.range 120, (c.tgt i).charge := foldl_range_add _ _

theorem Chip.charge_modTgt (c : Chip) (i j : Nat) (f : Tgt → Tgt) :
    ((c.modTgt i f).tgt j).charge = if i = j then (f (c.tgt i)).charge else (c.tgt j).charge := by
  rw [Chip.modTgt, Chip.tgt_setTgt]
  split <;> rfl

/-- A target's new charge takes the place of its old one. -/
theorem Chip.heldTokens_modTgt (c : Chip) (i : Nat) (f : Tgt → Tgt) (hi : i < 120) :
    (c.modTgt i f).heldTokens + (c.tgt i).charge = c.heldTokens + (f (c.tgt i)).charge := by
  have hmem : i ∈ Finset.range 120 := Finset.mem_range.mpr hi
  have hothers : ∑ j ∈ (Finset.range 120).erase i, ((c.modTgt i f).tgt j).charge = ∑ j ∈ (Finset.range 120).erase i, (c.tgt j).charge :=
    Finset.sum_congr rfl fun j hj => by rw [Chip.charge_modTgt, if_neg (Finset.ne_of_mem_erase hj).symm]
  rw [Chip.heldTokens_eq_sum, Chip.heldTokens_eq_sum, ← Finset.sum_erase_add _ _ hmem, ← Finset.sum_erase_add _ (fun j => (c.tgt j).charge) hmem,
    hothers, Chip.charge_modTgt, if_pos rfl]
  omega

theorem Chip.heldTokens_modTgt_le (c : Chip) (i : Nat) (f : Tgt → Tgt) :
    (c.modTgt i f).heldTokens ≤ c.heldTokens + (f (c.tgt i)).charge := by
  by_cases hi : i < 120
  · have := c.heldTokens_modTgt i f hi
    omega
  · have hsame : (c.modTgt i f).heldTokens = c.heldTokens := by
      rw [Chip.heldTokens_eq_sum, Chip.heldTokens_eq_sum]
      exact Finset.sum_congr rfl fun j hj => by
        have := Finset.mem_range.mp hj
        rw [Chip.charge_modTgt, if_neg (by omega)]
    omega

/-- No free token is owed, and the reserve is within its nominal value (R251). -/
def Chip.Balanced (c : Chip) : Prop := 0 ≤ c.freeTokens ∧ c.act.c ≤ c.cNom

theorem TokensKept.heldTokens {c d : Chip} (h : TokensKept c d) : d.heldTokens = c.heldTokens := by
  rw [Chip.heldTokens_eq_sum, Chip.heldTokens_eq_sum]
  exact Finset.sum_congr rfl fun i _ => h.charge i

theorem TokensKept.freeTokens {c d : Chip} (h : TokensKept c d) : d.freeTokens = c.freeTokens := by
  rw [Chip.freeTokens, Chip.freeTokens, h.heldTokens, h.reserve, h.budget]

theorem TokensKept.balanced {c d : Chip} (h : TokensKept c d) (hc : c.Balanced) : d.Balanced := by
  unfold Chip.Balanced
  rw [h.freeTokens, h.reserve, h.cNom]
  exact hc

/-! ## Work that moves tokens -/

namespace Driven

variable {c d e : Chip}

theorem after (h : Driven c d) (k : TokensKept d e) : Driven c e := h.trans k.toDriven

theorem modTgt (h : Driven c d) (i : Nat) (f : Tgt → Tgt) : Driven c (d.modTgt i f) := h.trans (of_recs rfl rfl rfl fun _ ha => ha)

theorem setReserve (h : Driven c d) (n : Nat) : Driven c { d with act.c := n } := h.trans (of_recs rfl rfl rfl fun _ ha => ha)

theorem recharge (h : Driven c d) (i kind charge : Nat) : Driven c (d.recharge i kind charge) := by
  unfold Chip.recharge
  exact (h.modTgt i _).setReserve _

theorem releaseCharge (h : Driven c d) (i : Nat) : Driven c (d.releaseCharge i) := ite _ h (h.recharge i 0 0)

theorem topUp (h : Driven c d) : Driven c d.topUp := h.setReserve _

end Driven

/-- Work after which a ledger that was balanced is balanced. -/
structure Paid (c d : Chip) : Prop extends Driven c d where
  balanced : c.Balanced → d.Balanced

namespace Paid

variable {b c d : Chip}

theorem of_kept (h : TokensKept c d) : Paid c d := ⟨h.toDriven, h.balanced⟩

theorem refl (c : Chip) : Paid c c := of_kept (TokensKept.refl c)

theorem trans (h : Paid b c) (k : Paid c d) : Paid b d := ⟨h.toDriven.trans k.toDriven, fun hb => k.balanced (h.balanced hb)⟩

theorem each (c : Chip) (n : Nat) (f : Chip → Nat → Chip) (hf : ∀ d k, Paid d (f d k)) : Paid c (c.each n f) :=
  Chip.eachOf_preserves (Paid c) (fun d k hd => hd.trans (hf d k)) (List.range n) (refl c)

end Paid

/-! ## Operations that move no token -/

namespace TokensKept

variable {c d : Chip}

theorem countGrant (h : TokensKept c d) (i : Nat) : TokensKept c (d.countGrant i) := (h.updBudget _).updTarget i _

theorem countTo (h : TokensKept c d) (i f : Nat) : TokensKept c (d.countTo i f) := by
  unfold Chip.countTo
  exact (h.setTgt i _).each _ _ fun e _ => (refl e).updTarget i _

theorem cycleTo (h : TokensKept c d) (ch f : Nat) : TokensKept c (d.cycleTo ch f) := by
  unfold Chip.cycleTo Chip.endCycle
  exact ite _ h (h.setTgt ch _)

/-- What a rank 1 to 3 cause or a manual off orders. -/
theorem obey (h : TokensKept c d) (i : Nat) : TokensKept c (d.obey i) := by
  unfold Chip.obey
  refine ite _ (ite _ h (ite _ ?_ (ite _ ?_ ?_))) (ite _ (ite _ h (ite _ ?_ (ite _ ?_ (ite _ ?_ h)))) (ite _ (h.modFgroup _ _) h))
  · have hrest := (ite (d.cstate i = csForced) h (h.rest i)).discardWait i
    exact (ite _ (hrest.resetAnswer i 0) hrest).eachOf _ _ fun e m => (refl e).judgeMan0 m.seq stBadState
  · exact (h.switchOff i).discardWait i
  · exact ite _ ((h.rest i).requeue i) h
  · exact (h.axStop _).discardWait i
  · exact h.axStop _
  · exact ((h.updAxis _ _).setAstate _ _).requeue i

theorem takeMaps (h : TokensKept c d) : TokensKept c d.takeMaps := by
  unfold Chip.takeMaps
  refine h.each 136 _ fun e i => ite _ (refl e) ?_
  have hmap := (refl e).acted { e.act with maps := Tab.set (ACT_MAP.resetImg i) e.act.maps i (e.img ACT_MAP i) }
  refine ite _ ?_ hmap
  exact ite _ (ite _ (hmap.modTgt i _) ((hmap.modTgt i _).switchOff i))
    (ite _ (ite _ (((hmap.modTgt i _).abandonHoming _ _).axHalt _ _) (hmap.modTgt i _)) (hmap.modTgt i _))

theorem takeDemand (h : TokensKept c d) (i : Nat) : TokensKept c (d.takeDemand i) := by
  unfold Chip.takeDemand
  exact ite _ ((h.modTgt i _).modFgroup _ _) (h.modTgt i _)

theorem applyRank (h : TokensKept c d) (i : Nat) : TokensKept c (d.applyRank i) := by
  unfold Chip.applyRank
  exact (h.obey i).modTgt i _

theorem runValve (h : TokensKept c d) (i : Nat) : TokensKept c (d.runValve i) := by
  unfold Chip.runValve
  have hhot := ite ((d.chan i).hotReq = true ∧ (d.cstate i = csHold ∨ d.cstate i = csEcon)) (h.goHot i) h
  exact ite _ h (ite _ (ite _ (hhot.switchOff i) hhot)
    (ite _ ((((hhot.cycleTo i _).modTgt i _).switchOff i).modTgt i _) ((hhot.cycleTo i _).modTgt i _)))

theorem enqueue (h : TokensKept c d) (i : Nat) (manual : Bool) (cls seq : Nat) : TokensKept c (d.enqueue i manual cls seq) := by
  unfold Chip.enqueue
  exact h.modTgt i _ fun t => by split <;> rfl

theorem queueChannel (h : TokensKept c d) (i : Nat) : TokensKept c (d.queueChannel i) := by
  unfold Chip.queueChannel
  refine ite _ h (ite _ (ite _ (h.enqueue _ _ _ _) h) (ite _ ?_ (ite _ (ite _ h (h.modTgt i _)) (h.modTgt i _))))
  exact ite _ ((h.modTgt i _).enqueue _ _ _ _) ((h.modTgt i _).modTgt i _)

theorem queueAxis (h : TokensKept c d) (i : Nat) : TokensKept c (d.queueAxis i) := by
  unfold Chip.queueAxis
  refine ite _ h ?_
  split
  · exact ite _ h (h.modTgt i _)
  · refine ite _ (ite _ (((h.axAim _ _).modAxis _ _).setAstate _ _) h) (ite _ (h.modAxis _ _) (ite _ (ite _ (h.enqueue _ _ _ _) h) (ite _ ?_ ?_)))
    · exact ite _ ((ite _ (h.requeue i) h).enqueue _ _ _ _) h
    · exact ite _ (h.enqueue _ _ _ _) (ite _ (h.enqueue _ _ _ _) (ite _ (h.modTgt i _) (h.modTgt i _)))

theorem takeReports (h : TokensKept c d) (z : Nat) (rs : List ((Nat × Nat) × (Nat × Nat))) : TokensKept c (d.takeReports z rs) := by
  unfold Chip.takeReports
  exact h.modZrt z _

theorem showTarget (h : TokensKept c d) (i : Nat) : TokensKept c (d.showTarget i) := by
  unfold Chip.showTarget
  exact ((h.updTarget i _).sampleMean _ _).sampleMean _ _

end TokensKept

end Sys2Proof.Machine
end

section
/-!
SUPPORT. Shedding, moves and pull-ins (R252 to R255): shedding at a frame boundary leaves the ledger balanced, and what is granted after it is
paid for from free tokens and the reserve.
-/

namespace Sys2Proof.Machine

/-! ## Shedding -/

theorem Driven.shedEcon {c d : Chip} (h : Driven c d) (i : Nat) : Driven c (d.shedEcon i) := by
  unfold Chip.shedEcon
  split
  · next hcond =>
    obtain ⟨-, hhold, -⟩ := hcond
    refine (h.after ((TokensKept.refl d).setCstate i csEcon fun _ _ hforced => ?_)).modTgt i _
    rw [hhold] at hforced
    exact absurd hforced (by decide)
  · exact h

/-- A target whose charge is taken by shedding. -/
def Tgt.shedded (t : Tgt) : Tgt := { t with shed := true, charge := 0, ckind := 0 }

/-- A target switched off: its charge goes first, and nothing after that moves a token. -/
theorem Chip.shedOff_kept (c : Chip) (i : Nat) : TokensKept (c.modTgt i Tgt.shedded) (c.shedOff i) := by
  have hcount := (TokensKept.refl (c.modTgt i Tgt.shedded)).updTarget i
  unfold Chip.shedOff Chip.incSat
  exact TokensKept.ite _ ((hcount _).switchOff i) ((hcount _).axStop _)

theorem Driven.shedOff {c d : Chip} (h : Driven c d) (i : Nat) : Driven c (d.shedOff i) := (h.modTgt i _).after (d.shedOff_kept i)

theorem Chip.shedOff_charge (c : Chip) (i j : Nat) : ((c.shedOff i).tgt j).charge = if i = j then 0 else (c.tgt j).charge := by
  rw [(c.shedOff_kept i).charge, Chip.charge_modTgt]
  rfl

/-- One target of the shedding order: switched off while tokens are short. -/
def shedStep (keep : Nat) (s : Chip × List Nat) (i : Nat) : Chip × List Nat :=
  if s.1.shortOf keep then (s.1.shedOff i, s.2 ++ [i]) else s

theorem Chip.shedTo_eq (c : Chip) (keep top : Nat) :
    c.shedTo keep top =
      ((c.eachOf c.shedOrder (fun d i => if d.shortOf keep then d.shedEcon i else d)).shedOrder.filter (fun i => decide (i < top))).foldl
        (shedStep keep) (c.eachOf c.shedOrder (fun d i => if d.shortOf keep then d.shedEcon i else d), []) := rfl

theorem Driven.shedSteps {c : Chip} (keep : Nat) (l : List Nat) (s : Chip × List Nat) (h : Driven c s.1) :
    Driven c (l.foldl (shedStep keep) s).1 := by
  induction l generalizing s with
  | nil => exact h
  | cons i l ih =>
    refine ih _ ?_
    unfold shedStep
    split
    · exact h.shedOff i
    · exact h

theorem Driven.shedTo {c d : Chip} (h : Driven c d) (keep top : Nat) : Driven c (d.shedTo keep top).1 := by
  rw [Chip.shedTo_eq]
  exact Driven.shedSteps keep _ _ (h.eachOf _ _ fun e i => ite _ ((refl e).shedEcon i) (refl e))

theorem Chip.room_of_not_short {c : Chip} {keep : Nat} (h : ¬ c.shortOf keep = true) : c.heldTokens ≤ c.act.b := by
  have := of_decide_eq_false (Bool.not_eq_true _ ▸ h)
  omega

/-- Where nothing is short nothing more is switched off. -/
theorem foldl_shedStep_of_room {keep : Nat} {s : Chip × List Nat} (h : ¬ s.1.shortOf keep = true) (l : List Nat) :
    l.foldl (shedStep keep) s = s := by
  induction l with
  | nil => rfl
  | cons i l ih => rw [List.foldl_cons, shedStep, if_neg h, ih]

/-- Where every charged target is in the list, taking them off one by one ends with no more held than the budget: at the latest when
nothing is held. -/
theorem Chip.shedSteps_room (keep : Nat) (l : List Nat) (s : Chip × List Nat) (hl : ∀ i, i < 120 → (s.1.tgt i).charge ≠ 0 → i ∈ l) :
    (l.foldl (shedStep keep) s).1.heldTokens ≤ (l.foldl (shedStep keep) s).1.act.b := by
  induction l generalizing s with
  | nil =>
    have hnone : s.1.heldTokens = 0 := by
      rw [Chip.heldTokens_eq_sum]
      refine Finset.sum_eq_zero fun i hi => ?_
      by_contra hne
      exact absurd (hl i (Finset.mem_range.mp hi) hne) (by simp)
    exact hnone ▸ Nat.zero_le _
  | cons i l ih =>
    by_cases hshort : s.1.shortOf keep = true
    · rw [List.foldl_cons, shedStep, if_pos hshort]
      refine ih _ fun j hj hcharge => ?_
      rw [Chip.shedOff_charge] at hcharge
      obtain ⟨hij, hcharge⟩ : i ≠ j ∧ (s.1.tgt j).charge ≠ 0 := by simpa using hcharge
      exact (List.mem_cons.mp (hl j hj hcharge)).resolve_left hij.symm
    · rw [foldl_shedStep_of_room hshort]
      exact Chip.room_of_not_short hshort

theorem Chip.mem_shedOrder (c : Chip) (i : Nat) : i ∈ c.shedOrder ↔ i < 120 ∧ (c.tgt i).charge ≠ 0 := by
  have hsort : ∀ (key : Nat → Nat) (l acc : List Nat), i ∈ l.foldl (fun acc x => insertOn key x acc) acc ↔ i ∈ l ∨ i ∈ acc := by
    intro key l
    induction l with
    | nil => simp
    | cons a l ih =>
      intro acc
      rw [List.foldl_cons, ih, mem_insertOn, List.mem_cons]
      tauto
  unfold Chip.shedOrder sortOn
  rw [hsort]
  simp

theorem Chip.shedTo_room (c : Chip) (keep : Nat) : (c.shedTo keep 120).1.heldTokens ≤ (c.shedTo keep 120).1.act.b := by
  rw [Chip.shedTo_eq]
  refine Chip.shedSteps_room keep _ _ fun i hi hcharge => ?_
  exact List.mem_filter.mpr ⟨(Chip.mem_shedOrder _ i).mpr ⟨hi, hcharge⟩, decide_eq_true hi⟩

/-- Where the budget covers the held tokens, the reserve is filled from what is left. -/
theorem Chip.topUp_balanced (c : Chip) (h : c.heldTokens ≤ c.act.b) : c.topUp.Balanced := by
  have hheld : c.topUp.heldTokens = c.heldTokens := rfl
  have hb : c.topUp.act.b = c.act.b := rfl
  have hc : c.topUp.act.c = min c.cNom ((c.act.b : Int) - c.heldTokens).toNat := rfl
  unfold Chip.Balanced Chip.freeTokens
  rw [hheld, hb, hc]
  exact ⟨by omega, Nat.min_le_left _ _⟩

/-- After shedding at a frame boundary the ledger is balanced, whatever it was before. -/
theorem Chip.boundaryShed_paid (c : Chip) : Driven c c.boundaryShed ∧ c.boundaryShed.Balanced := by
  unfold Chip.boundaryShed
  dsimp only
  split
  · next hroom => exact ⟨(Driven.refl c).topUp, c.topUp_balanced (Chip.room_of_not_short (keep := max c.cNom c.deferredCost) (by simpa using hroom))⟩
  · have hshed := ((Driven.refl c).shedTo (max c.cNom c.deferredCost) 120).topUp
    have hbal := (c.shedTo (max c.cNom c.deferredCost) 120).1.topUp_balanced (c.shedTo_room _)
    have hkept := TokensKept.refl (c.shedTo (max c.cNom c.deferredCost) 120).1.topUp
    refine (fun h => ⟨hshed.after h, h.balanced hbal⟩ : TokensKept _ _ → _) (TokensKept.ite _ hkept ?_)
    exact ((hkept.acted _).eachOf _ _ fun e _ => (TokensKept.refl e).updBudget _).raise _ _ _ _ _

/-! ## Moves -/

/-- A target charged for a move. -/
def Tgt.moving (t : Tgt) (cost : Nat) : Tgt := { t with charge := cost, ckind := 4, wait := none, restore := false }

/-- A move starts: the axis is charged, and nothing after that moves a token. -/
theorem Chip.startMove_kept (c : Chip) (a : Nat) (home : Bool) :
    TokensKept (c.modTgt (axBase + a) (·.moving (c.mapF (axBase + a) ACT_MAP.RUN_TOKENS))) (c.startMove a home) := by
  unfold Chip.startMove Chip.incSat
  have hcount := ((TokensKept.refl (c.modTgt (axBase + a) (·.moving (c.mapF (axBase + a) ACT_MAP.RUN_TOKENS)))).countGrant (axBase + a)).updAxis a
  exact TokensKept.ite _ ((hcount _).axHome a false) (TokensKept.ite _ (((hcount _).modAxis a _).axHome a true) (((hcount _).axAim a _).axMove a))

theorem Driven.startMove {c d : Chip} (h : Driven c d) (a : Nat) (home : Bool) : Driven c (d.startMove a home) :=
  (h.modTgt _ _).after (d.startMove_kept a home)

theorem Chip.startMove_freeTokens (c : Chip) (a : Nat) (home : Bool) :
    c.freeTokens - c.mapF (axBase + a) ACT_MAP.RUN_TOKENS ≤ (c.startMove a home).freeTokens := by
  have hheld : (c.modTgt (axBase + a) (·.moving (c.mapF (axBase + a) ACT_MAP.RUN_TOKENS))).heldTokens ≤
      c.heldTokens + c.mapF (axBase + a) ACT_MAP.RUN_TOKENS := c.heldTokens_modTgt_le _ _
  rw [(c.startMove_kept a home).freeTokens]
  unfold Chip.freeTokens
  change _ ≤ (c.act.b : Int) - _ - c.act.c
  omega

/-- A move that the reserve and the free tokens cover leaves the ledger balanced (R254). -/
theorem Paid.startMove (c : Chip) (a n : Nat) (home : Bool) (hn : n ≤ c.act.c)
    (hfit : c.Balanced → (c.mapF (axBase + a) ACT_MAP.RUN_TOKENS : Int) ≤ c.freeTokens + n) :
    Paid c (Chip.startMove { c with act.c := c.act.c - n } a home) := by
  have hd := ((Driven.refl c).setReserve (c.act.c - n)).startMove a home
  have hfree := Chip.startMove_freeTokens { c with act.c := c.act.c - n } a home
  have hc := (Chip.startMove_kept { c with act.c := c.act.c - n } a home).reserve
  have hpaid : Chip.freeTokens { c with act.c := c.act.c - n } = c.freeTokens + n := by
    change (c.act.b : Int) - c.heldTokens - (c.act.c - n : Nat) = (c.act.b : Int) - c.heldTokens - c.act.c + n
    omega
  change _ - (c.mapF (axBase + a) ACT_MAP.RUN_TOKENS : Int) ≤ _ at hfree
  change _ = c.act.c - n at hc
  refine ⟨hd, fun hbal => ⟨by have := hfit hbal; omega, ?_⟩⟩
  rw [hc, hd.cNom]
  exact (Nat.sub_le _ _).trans hbal.2

theorem Paid.deferredMoves (c : Chip) : Paid c c.deferredMoves := by
  unfold Chip.deferredMoves
  refine Paid.each c 24 _ fun c a => ?_
  split
  · exact Paid.refl c
  · have hput := (TokensKept.refl c).modAxis a (fun x => { x with c0Deferred := false })
    dsimp only
    split
    · exact Paid.of_kept hput
    · next hgo =>
      obtain ⟨-, hfit⟩ : c.deferredReady a = true ∧ (c.mapF (axBase + a) ACT_MAP.RUN_TOKENS : Int) ≤ c.freeTokens + c.act.c := by
        simpa using hgo
      refine (Paid.of_kept hput).trans (Paid.startMove _ a _ false (Nat.min_le_right _ _) fun hbal => ?_)
      obtain ⟨howed, -⟩ := hbal
      rw [hput.freeTokens] at howed ⊢
      change (c.mapF (axBase + a) ACT_MAP.RUN_TOKENS : Int) ≤ _ + (min (c.mapF (axBase + a) ACT_MAP.RUN_TOKENS) c.act.c : Nat)
      omega

/-! ## Pull-ins -/

/-- A target charged for a pull-in. -/
def Tgt.pulling (t : Tgt) (cost : Nat) : Tgt := { t with charge := cost, ckind := 1, wait := none, restore := false }

/-- A pull-in on a channel that nothing forces: the channel is charged, and nothing after that moves a token. -/
theorem Chip.grantPull_kept (c : Chip) (ch cost : Nat) (holdPull : Bool) (hfree : c.forced ch = false) :
    TokensKept (c.modTgt ch (·.pulling cost)) (c.grantPull ch cost holdPull) := by
  have hcount := ((TokensKept.refl (c.modTgt ch (·.pulling cost))).updTarget ch [(TARGET_STATUS.PULL_TOKENS, cost)]).countGrant ch
  unfold Chip.grantPull
  exact hcount.startBoost ch holdPull ((hcount.forced_eq ch).trans hfree)

theorem Chip.grantPull_freeTokens (c : Chip) (ch cost : Nat) (holdPull : Bool) (hch : ch < 96) (hfree : c.forced ch = false) :
    (c.grantPull ch cost holdPull).freeTokens = c.freeTokens + (c.tgt ch).charge - cost := by
  have hheld : (c.modTgt ch (·.pulling cost)).heldTokens + (c.tgt ch).charge = c.heldTokens + cost := c.heldTokens_modTgt _ _ (by omega)
  rw [(c.grantPull_kept ch cost holdPull hfree).freeTokens]
  unfold Chip.freeTokens
  change (c.act.b : Int) - _ - c.act.c = _
  omega

/-- A pull-in that the free tokens and the channel's own charge cover leaves the ledger balanced. -/
theorem Paid.grantPull (c : Chip) (ch cost : Nat) (holdPull : Bool) (hch : ch < 96) (hfree : c.forced ch = false)
    (hfit : (cost : Int) ≤ c.freeTokens + (c.tgt ch).charge) : Paid c (c.grantPull ch cost holdPull) := by
  have hkept := c.grantPull_kept ch cost holdPull hfree
  have hd := ((Driven.refl c).modTgt ch _).after hkept
  refine ⟨hd, fun hbal => ⟨?_, ?_⟩⟩
  · rw [c.grantPull_freeTokens ch cost holdPull hch hfree]
    omega
  · rw [hkept.reserve, hd.cNom]
    exact hbal.2

/-! ## Verdicts -/

/-- The part as a verdict leaves it. -/
def Verdict.chip : Verdict → Chip
  | .grant c => c
  | .pass c => c
  | .stop c => c

theorem Paid.judgeMove (c : Chip) (i : Nat) (hi : axBase ≤ i) : Paid c (c.judgeMove i).chip := by
  unfold Chip.judgeMove
  dsimp only
  split
  · exact Paid.refl c
  · split
    · next hfit =>
      have hmove := Paid.startMove c (i - axBase) 0 (((c.tgt i).wait.map Req.home).getD false) (Nat.zero_le _)
        (fun _ => by rw [Nat.add_sub_cancel' hi]; omega)
      exact hmove
    · exact Paid.refl c

theorem Paid.verdict_ite {c : Chip} {a b : Verdict} (p : Prop) [Decidable p] (ha : Paid c a.chip) (hb : ¬ p → Paid c b.chip) :
    Paid c (if p then a else b).chip := by
  split
  · exact ha
  · next hp => exact hb hp

theorem Paid.judgePull (c : Chip) (ch : Nat) (m : Option Man0) (hch : ch < 96) : Paid c (c.judgePull ch m).chip := by
  have hsay : ∀ {d : Chip} (st : Nat), Paid c d → Paid c (if m.isSome = true then d.judgeMan0 ((m.map Man0.seq).getD 0) st else d) :=
    fun st h => h.trans (Paid.of_kept (TokensKept.ite _ ((TokensKept.refl _).judgeMan0 _ st) (TokensKept.refl _)))
  have hsame := TokensKept.refl c
  have hmanual : ∀ st, TokensKept c (if m.isSome = true then c.judgeMan0 ((m.map Man0.seq).getD 0) st else c) :=
    fun st => TokensKept.ite _ (hsame.judgeMan0 _ st) hsame
  unfold Chip.judgePull
  refine verdict_ite _ (hsay _ (refl c)) fun _ => verdict_ite _ (hsay _ (refl c)) fun hready => verdict_ite _ (hsay _ (refl c)) fun _ =>
    verdict_ite _ (of_kept (TokensKept.ite _ (hmanual _) (TokensKept.ite _ hsame (hsame.modTgt ch _)))) fun _ =>
    verdict_ite _ (of_kept (TokensKept.ite _ (hmanual _) (TokensKept.ite _ hsame (hsame.goHot ch)))) fun _ =>
    verdict_ite _ (hsay _ (refl c)) fun hfits => hsay _ ?_
  have hfree : c.forced ch = false := by
    by_contra hforced
    exact hready (.inr (.inl (by simpa using hforced)))
  have hfit : (c.pullCost ch (c.act.bnr && c.vt ch VALVE_TYPE.HOLD_PULL_EN == 1) : Int) ≤ c.freeTokens + (c.tgt ch).charge := by
    simp only [Bool.not_eq_true', Bool.not_eq_false, Bool.and_eq_true, decide_eq_true_eq] at hfits
    exact hfits.1.1
  cases m with
  | none => exact Paid.grantPull c ch _ _ hch hfree hfit
  | some m =>
    have hset := hsame.setManual ch 1 m.timeout 0
    refine (of_kept hset).trans (Paid.grantPull _ ch _ _ hch ((hset.forced_eq ch).trans hfree) ?_)
    rw [hset.freeTokens, hset.charge]
    exact hfit

/-- What is granted in a frame is paid for. -/
theorem Paid.grantAll (n : Nat) (c : Chip) (l : List (List Nat × Option Man0 × Nat)) : Paid c (grantAll n c l) := by
  induction l generalizing n c with
  | nil => unfold Sys2Proof.Machine.grantAll; exact Paid.refl c
  | cons q l ih =>
    obtain ⟨p, m, i⟩ := q
    unfold Sys2Proof.Machine.grantAll
    cases n with
    | zero =>
      dsimp only
      refine Paid.trans ?_ (ih 0 _)
      cases m with
      | none => exact Paid.refl c
      | some m => exact Paid.of_kept ((TokensKept.refl c).acted _)
    | succ n =>
      have hverdict : Paid c (if i < axBase then c.judgePull i m else c.judgeMove i).chip := by
        split
        · next hi => exact Paid.judgePull c i m hi
        · next hi => exact Paid.judgeMove c i (by omega)
      dsimp only
      revert hverdict
      cases (if i < axBase then c.judgePull i m else c.judgeMove i) with
      | grant d => exact fun h => h.trans (ih n d)
      | pass d => exact fun h => h.trans (ih (n + 1) d)
      | stop d => exact fun h => h.trans (Paid.of_kept ((TokensKept.refl d).eachOf _ _ fun e k => (TokensKept.refl e).judgeMan0 _ _))

end Sys2Proof.Machine
end

section
/-!
PROOF. The frame boundary (Table 7.5, R250 to R255): its steps up to shedding settle the budget and the masks, shedding balances the ledger,
what follows is paid for, and the ledger shown is the one it ends with.
-/

namespace Sys2Proof.Machine

/-! ## Conversions and economy holds -/

namespace Driven

variable {c d : Chip}

theorem convert (h : Driven c d) (i : Nat) : Driven c (d.convert i) := by
  unfold Chip.convert
  exact ite _ (h.releaseCharge i) (ite _ ((h.recharge i 2 _).after ((TokensKept.refl _).updTarget i _)) h)

theorem startEcon (h : Driven c d) (i : Nat) : Driven c (d.startEcon i) := by
  unfold Chip.startEcon
  split
  · next hcond =>
    obtain ⟨-, hhold, -, -⟩ := hcond
    have hecon := ((TokensKept.refl (d.recharge i 3 (econCost (d.tgt i).charge))).setCstate i csEcon fun _ _ (hforced : d.cstate i = csForced) => by
      rw [hhold] at hforced
      exact absurd hforced (by decide)).updChannel i [(CH_STATUS.ECON_REQ, 0)] (apart_of_one (by decide))
    exact (h.recharge i 3 _).after hecon
  · exact h

end Driven

/-! ## The budget and the masks -/

/-- What a boundary fixes for its frame: B, the frame's number, the masks and the releases. -/
def Act.settings (x : Act) : Nat × Nat × Nat × Nat × Nat × Nat × List Nat :=
  (x.b, x.frame, x.stopMask, x.forceMask, x.resume, x.release, x.zoneRelease)

/-- The frame is counted for every target in use, and begins. -/
def Chip.frameBegun (c : Chip) : Chip :=
  { c.eachOf c.liveTargets (fun d i => d.countTo i (c.act.frame + 1)) with act.frame := c.act.frame + 1 }

/-- Step 1 of Table 7.5. -/
def Chip.settingsTaken (c : Chip) : Chip := c.frameBegun.takeBudget.takeMaps.takeReleases

/-- The budget, the mode and the reserve's bound as step 1 takes them, before the event. -/
def Chip.budgetTaken (c : Chip) : Chip :=
  let d := { c with act.b := c.budget, act.estWrite := false, act.tierWrite := false,
                    act.borrow := c.getB ALLOC_MODE 0 ALLOC_MODE.MODE && !(decide (c.level = lvLimited) && !c.act.loaded) }
  { d with act.c := min d.act.c d.cNom }

/-- The masks as their releases leave them. -/
def Chip.released (c : Chip) : Chip :=
  { c with act.stopMask := maskOff c.act.stopMask c.act.resume, act.forceMask := maskOff c.act.forceMask c.act.release,
           act.resume := 0, act.release := 0, act.zoneRelease := [] }

theorem Driven.settings {c d : Chip} (h : Driven c d) : d.act.settings = c.act.settings := h.kept Act.settings fun _ => rfl

theorem Chip.takeBudget_kept (c : Chip) : TokensKept c.budgetTaken c.takeBudget :=
  TokensKept.ite _ (TokensKept.refl c.budgetTaken) ((TokensKept.refl c.budgetTaken).raise _ _ _ _ _)

theorem TokensKept.setIsolated {c d : Chip} (h : TokensKept c d) (z : Nat) (b : Bool) : TokensKept c (d.setIsolated z b) := by
  unfold Chip.setIsolated
  exact (h.upd ZONE_STATUS z _ (by decide) (by decide) (by decide)).quiet (Quiet.raiseZone _ _ _ _ _ _)

theorem TokensKept.showForce {c d : Chip} (h : TokensKept c d) : TokensKept c d.showForce := by
  unfold Chip.showForce
  exact (h.each 96 _ fun e ch => (refl e).updChannel ch _ (apart_of_one (by decide))).raise _ _ _ _ _

theorem Chip.takeReleases_kept (c : Chip) : TokensKept c.released c.takeReleases := by
  have hresume : TokensKept c.released (if c.act.resume = 0 then c.released else
      (c.released.each 120 fun d i => if (i < axBase ∧ c.act.resume.testBit 0) ∨ (axBase ≤ i ∧ c.act.resume.testBit 1) then d.requeue i else d).raise
        0x0503 2 0 (u8 (c.released.each 120 fun d i =>
          if (i < axBase ∧ c.act.resume.testBit 0) ∨ (axBase ≤ i ∧ c.act.resume.testBit 1) then d.requeue i else d).act.stopMask ++ rsvBytes 1)
        evChannels) :=
    .ite _ (.refl _) (((TokensKept.refl c.released).each 120 _ fun e i => .ite _ ((TokensKept.refl e).requeue i) (.refl e)).raise _ _ _ _ _)
  unfold Chip.takeReleases
  exact (TokensKept.ite _ hresume hresume.showForce).eachOf _ _ fun e z => (TokensKept.refl e).setIsolated z false

/-- What a boundary counts leaves the effective budget. -/
theorem Chip.frameBegun_budget (c : Chip) : c.frameBegun.budget = c.budget := by
  have hcount : TokensKept c (c.eachOf c.liveTargets fun d i => d.countTo i (c.act.frame + 1)) :=
    (TokensKept.refl c).eachOf _ _ fun d i => (TokensKept.refl d).countTo i _
  have hcode := hcount.kept Act.pdCode fun _ => rfl
  have hloaded := hcount.kept Act.loaded fun _ => rfl
  have hget : ∀ r f, r.id % 0x10000 ∉ driveIds → c.frameBegun.getF r 0 f = c.getF r 0 f := fun r f hr => hcount.getF r 0 f hr
  have hcap : ∀ code, c.frameBegun.pdCap code = c.pdCap code := fun code => by
    unfold Chip.pdCap
    rw [hget _ _ (by decide)]
  have hphases : c.frameBegun.phases = c.phases := by
    unfold Chip.phases
    rw [hget _ _ (by decide)]
  have hnow : c.frameBegun.pdNow = c.pdNow := congrArg (·.getD 7) hcode
  have hdefault : c.frameBegun.defaultBudget = c.defaultBudget := by
    unfold Chip.defaultBudget
    rw [hget _ _ (by decide)]
    exact congrArg (!· || _) hloaded
  unfold Chip.budget
  rw [hcap, hphases, hnow, hdefault, hget _ _ (by decide)]

theorem Chip.released_settings {c : Chip} {b f sm fm res rel : Nat} {zs : List Nat} (h : c.act.settings = (b, f, sm, fm, res, rel, zs)) :
    c.released.act.settings = (b, f, maskOff sm res, maskOff fm rel, 0, 0, []) := by
  unfold Act.settings at h
  simp only [Prod.mk.injEq] at h
  obtain ⟨rfl, rfl, rfl, rfl, rfl, rfl, -⟩ := h
  rfl

theorem Chip.settingsTaken_settings (c : Chip) :
    c.settingsTaken.act.settings =
      (c.budget, c.act.frame + 1, maskOff c.act.stopMask c.act.resume, maskOff c.act.forceMask c.act.release, 0, 0, []) := by
  have hcount : TokensKept c (c.eachOf c.liveTargets fun d i => d.countTo i (c.act.frame + 1)) :=
    (TokensKept.refl c).eachOf _ _ fun d i => (TokensKept.refl d).countTo i _
  have hbegun : c.frameBegun.budgetTaken.act.settings = (c.budget, c.act.frame + 1, c.act.settings.2.2) := by
    rw [← c.frameBegun_budget, ← hcount.settings]
    rfl
  have hmaps : c.frameBegun.takeBudget.takeMaps.act.settings = c.frameBegun.budgetTaken.act.settings :=
    c.frameBegun.takeBudget_kept.takeMaps.settings
  rw [Chip.settingsTaken, (Chip.takeReleases_kept _).settings]
  exact Chip.released_settings (hmaps.trans hbegun)

/-! ## The ledger shown -/

/-- `BUDGET_STATUS` of `d` shows the ledger of `c`. -/
def Chip.LedgerShown (c d : Chip) : Prop :=
  d.getF BUDGET_STATUS 0 BUDGET_STATUS.BUDGET_EFF = c.act.b % 2 ^ 16 ∧ d.getF BUDGET_STATUS 0 BUDGET_STATUS.HELD = c.heldTokens % 2 ^ 16 ∧
  d.getF BUDGET_STATUS 0 BUDGET_STATUS.FREE = c.freeTokens.toNat % 2 ^ 16 ∧ d.getF BUDGET_STATUS 0 BUDGET_STATUS.RESERVE = c.act.c % 2 ^ 16 ∧
  d.getF BUDGET_STATUS 0 BUDGET_STATUS.STOP = c.act.stopMask % 2 ^ 3

/-- The fields of `BUDGET_STATUS` that a boundary assigns, in order. -/
def budgetFlds : List Fld :=
  [BUDGET_STATUS.BUDGET_EFF, BUDGET_STATUS.CAP_PD, BUDGET_STATUS.PD_CLS, BUDGET_STATUS.PHASES, BUDGET_STATUS.STOP, BUDGET_STATUS.DEFAULT_BUDGET,
   BUDGET_STATUS.STRICT_FORCED, BUDGET_STATUS.FREE, BUDGET_STATUS.HELD, BUDGET_STATUS.RESERVE, BUDGET_STATUS.WAITING, BUDGET_STATUS.LIMITED_NOW,
   BUDGET_STATUS.PEAK_HELD]

theorem Chip.LedgerShown.of_img {c d e : Chip} (h : c.LedgerShown d) (himg : e.img BUDGET_STATUS 0 = d.img BUDGET_STATUS 0) : c.LedgerShown e := by
  unfold Chip.LedgerShown Chip.getF at *
  rw [himg]
  exact h

theorem TokensKept.ledgerShown {c d e : Chip} (h : TokensKept c d) (hs : c.LedgerShown e) : d.LedgerShown e := by
  unfold Chip.LedgerShown at *
  rw [h.budget, h.heldTokens, h.freeTokens, h.reserve, h.kept Act.stopMask fun _ => rfl]
  exact hs

theorem TokensKept.showBudget {c d : Chip} (h : TokensKept c d) (targets : List Nat) : TokensKept c (d.showBudget targets) := by
  unfold Chip.showBudget
  exact ite _ ((h.updBudget _).raise _ _ _ _ _) (h.updBudget _)

theorem Chip.showBudget_shows (c : Chip) (targets : List Nat) : c.LedgerShown (c.showBudget targets) := by
  have hraise : ∀ (p : Prop) [Decidable p] (d : Chip) code sev source data aud, c.LedgerShown d →
      c.LedgerShown (if p then d.raise code sev source data aud else d) := fun p _ d code sev source data aud h => by
    split
    · exact h.of_img ((Quiet.raise d code sev source data aud).img _ _ (by decide))
    · exact h
  unfold Chip.showBudget
  refine hraise _ _ _ _ _ _ _ ⟨?_, ?_, ?_, ?_, ?_⟩
  · exact c.getF_upd_append _ 0 _ _ [] _ (apart_of_fields (budgetFlds.drop 1) rfl (by decide))
  · exact c.getF_upd_append _ 0 _ _ [_, _, _, _, _, _, _, _] _ (apart_of_fields (budgetFlds.drop 9) rfl (by decide))
  · exact c.getF_upd_append _ 0 _ _ [_, _, _, _, _, _, _] _ (apart_of_fields (budgetFlds.drop 8) rfl (by decide))
  · exact c.getF_upd_append _ 0 _ _ [_, _, _, _, _, _, _, _, _] _ (apart_of_fields (budgetFlds.drop 10) rfl (by decide))
  · exact c.getF_upd_append _ 0 _ _ [_, _, _, _] _ (apart_of_fields (budgetFlds.drop 5) rfl (by decide))

/-- Array B's trigger shows its work in its own status alone. -/
theorem Chip.triggerB_img (c : Chip) (r : RecDesc) (i : Nat) (hr : r.id % 0x10000 ∉ noisyIds) (hne : r.id % 0x10000 ≠ ARRAY_STATUS.id % 0x10000) :
    c.triggerB.img r i = c.img r i := by
  have hupd : ∀ (d : Chip) a fs, (d.upd ARRAY_STATUS a fs).img r i = d.img r i := fun d a fs =>
    Chip.img_upd_ne _ _ _ _ _ _ (recKey_ne_of_id hne.symm _ _)
  have hraise : ∀ (d : Chip) code sev source data aud, (d.raise code sev source data aud).img r i = d.img r i := fun d code sev source data aud =>
    (Quiet.raise d code sev source data aud).img r i hr
  have hite : ∀ {a b : Chip} (p : Prop) [Decidable p], a.img r i = c.img r i → b.img r i = c.img r i → (if p then a else b).img r i = c.img r i :=
    fun p _ ha hb => by
      split
      · exact ha
      · exact hb
  have hover : ∀ kind, (c.overrun 1 kind).img r i = c.img r i := fun kind => by
    unfold Chip.overrun Chip.incSat
    exact hite _ ((hraise _ _ _ _ _ _).trans (hupd _ _ _)) (hupd _ _ _)
  have htake : (c.takeMode 1).img r i = c.img r i := hite _ rfl (hupd _ _ _)
  have hsettle : ∀ d : Chip, d.img r i = c.img r i → (d.settleArr 1).img r i = c.img r i := fun d h => hite _ h ((hupd _ _ _).trans h)
  have hrun : (c.regularTrigger 1 c.regularB.1).img r i = c.img r i :=
    hite _ rfl (hite _ (hover 3) (hite _ (hover 0) (hsettle _ htake)))
  exact hite _ hrun hrun

/-! ## The boundary -/

/-- Steps 2 to 5 of Table 7.5 for the targets in use: demands, ranks, cycles, conversions and economy holds. -/
def Chip.targetsRun (c : Chip) (live : List Nat) : Chip :=
  ((((c.eachOf live Chip.takeDemand).eachOf live Chip.applyRank).eachOf (live.filter (fun i => decide (i < axBase))) Chip.runValve).eachOf live
    Chip.convert).eachOf live Chip.startEcon

/-- A target in use asks for what it wants. -/
def Chip.ask (c : Chip) (i : Nat) : Chip := if i < axBase then c.queueChannel i else if i < fgBase then c.queueAxis i else c

/-- Steps 7 and 8: requests, the moves STRICT has put off, and grants. -/
def Chip.requestsServed (c : Chip) (live : List Nat) : Chip :=
  let d := ((c.eachOf live Chip.ask).boostNotReady).deferredMoves
  grantAll (d.getF BUDGET_CFG 0 BUDGET_CFG.PULL_PER_FRAME) d d.queue

/-- Step 9: the ports' reports and the targets' status. -/
def Chip.targetsReported (c : Chip) (live : List Nat) : Chip :=
  let rs := c.portReports (live.filter (fun i => c.mapF i ACT_MAP.EN == 1))
  (c.eachOf ((rs.map (fun r => r.1.1)).eraseDups) (fun d z => d.takeReports z (rs.filter (fun r => r.1.1 == z)))).eachOf live Chip.showTarget

/-- The chip after step 8, and after step 9 before its ledger is shown. -/
def Chip.boundaryServed (c : Chip) : Chip :=
  (c.settingsTaken.targetsRun c.settingsTaken.liveTargets).boundaryShed.requestsServed c.settingsTaken.liveTargets

def Chip.boundaryEnd (c : Chip) : Chip := c.boundaryServed.targetsReported c.settingsTaken.liveTargets

/-- The enabled targets whose limits step 9 counts. -/
def Chip.boundaryOn (c : Chip) : List Nat := c.settingsTaken.liveTargets.filter (fun i => c.boundaryServed.mapF i ACT_MAP.EN == 1)

/-- A boundary of the running allocator runs its steps, shows the ledger and triggers array B. -/
theorem Chip.allocFrameBoundary_eq (c : Chip) (hrun : c.act.running = true) (hpf : c.boot.pfHalt = false) :
    c.allocFrameBoundary = (c.boundaryEnd.showBudget c.boundaryOn).triggerB := by
  unfold Chip.allocFrameBoundary
  rw [if_neg (by rw [hrun, hpf]; decide)]
  rfl

theorem Driven.targetsRun (c : Chip) (live : List Nat) : Driven c (c.targetsRun live) :=
  (((((TokensKept.refl c).eachOf _ _ fun d i => (TokensKept.refl d).takeDemand i).eachOf _ _ fun d i => (TokensKept.refl d).applyRank i).eachOf _ _
    fun d i => (TokensKept.refl d).runValve i).toDriven.eachOf _ _ fun d i => (Driven.refl d).convert i).eachOf _ _ fun d i =>
    (Driven.refl d).startEcon i

theorem TokensKept.ask {c d : Chip} (h : TokensKept c d) (i : Nat) : TokensKept c (d.ask i) := ite _ (h.queueChannel i) (ite _ (h.queueAxis i) h)

theorem Paid.requestsServed (c : Chip) (live : List Nat) : Paid c (c.requestsServed live) :=
  ((Paid.of_kept ((TokensKept.refl c).eachOf _ _ fun d i => (TokensKept.refl d).ask i).boostNotReady).trans (Paid.deferredMoves _)).trans
    (Paid.grantAll _ _ _)

theorem TokensKept.targetsReported (c : Chip) (live : List Nat) : TokensKept c (c.targetsReported live) :=
  ((TokensKept.refl c).eachOf _ _ fun d z => (TokensKept.refl d).takeReports z _).eachOf _ _ fun d i => (TokensKept.refl d).showTarget i

/-- Shedding balances the ledger and what follows keeps it balanced; the settings stand from step 1 on. -/
theorem Chip.boundaryEnd_balanced (c : Chip) : c.boundaryEnd.Balanced ∧ c.boundaryEnd.act.settings = c.settingsTaken.act.settings := by
  have hrun := Driven.targetsRun c.settingsTaken c.settingsTaken.liveTargets
  obtain ⟨hshed, hbalanced⟩ := (c.settingsTaken.targetsRun c.settingsTaken.liveTargets).boundaryShed_paid
  have hserved := (Paid.requestsServed (c.settingsTaken.targetsRun c.settingsTaken.liveTargets).boundaryShed c.settingsTaken.liveTargets).trans
    (Paid.of_kept (TokensKept.targetsReported _ c.settingsTaken.liveTargets))
  exact ⟨hserved.balanced hbalanced, ((hrun.trans hshed).trans hserved.toDriven).settings⟩

/-- Settles O35: shedding leaves the ledger balanced (`Chip.boundaryShed_paid`), every later step of the boundary is paid for (`Paid`), and
neither the showing nor the settling moves a token (`TokensKept`). That the reserve is filled before shedding is judged is the model's choice
(log entry 33). -/
theorem ledgerStaysBalanced : Obligations.LedgerStaysBalanced := by
  unfold Obligations.LedgerStaysBalanced
  intro s hrun hpf
  refine Completes.of_settled (exec_allocFrameBoundary s) (s.chip.allocFrameBoundary_eq hrun hpf) ?_
  obtain ⟨hbalanced, hsettings⟩ := s.chip.boundaryEnd_balanced
  have hend := (((TokensKept.refl s.chip.boundaryEnd).showBudget s.chip.boundaryOn).triggerB).trans
    (TokensKept.of_settle { s with chip := (s.chip.boundaryEnd.showBudget s.chip.boundaryOn).triggerB })
  have himg := ((State.settle_lines { s with chip := (s.chip.boundaryEnd.showBudget s.chip.boundaryOn).triggerB }).img BUDGET_STATUS 0 (by decide)).trans
    ((s.chip.boundaryEnd.showBudget s.chip.boundaryOn).triggerB_img BUDGET_STATUS 0 (by decide) (by decide))
  have hshown := hend.ledgerShown ((s.chip.boundaryEnd.showBudget_shows s.chip.boundaryOn).of_img himg)
  have hall := (hend.settings.trans hsettings).trans s.chip.settingsTaken_settings
  unfold Act.settings at hall
  simp only [Prod.mk.injEq] at hall
  obtain ⟨hb, hframe, hstop, hforce, hresume, hrelease, hzone⟩ := hall
  obtain ⟨hfree, hreserve⟩ := hend.balanced hbalanced
  exact ⟨hfree, hreserve, hb, hframe, hstop, hforce, hresume, hrelease, hzone, fun _ => hshown⟩

end Sys2Proof.Machine
end

section
/-!
PROOF. Combined demands (R243), on times (R245) and pull-ins that are judged (R252, R254).
-/

namespace Sys2Proof.Machine

/-! ## Combined demands -/

/-- A fold that keeps one of two values, never one worse than either, ends with a value of the list that none is better than. -/
theorem foldl_keeps_best {α : Type} (op : Nat → Nat → Nat) (good : Nat → Nat → Prop) (hop : ∀ m n, op m n = m ∨ op m n = n)
    (hgood : ∀ m n, good (op m n) m ∧ good (op m n) n) (hrefl : ∀ n, good n n) (htrans : ∀ {k m n}, good k m → good m n → good k n)
    (f : α → Nat) (a : α) (l : List α) :
    (∃ s ∈ a :: l, l.foldl (fun m s => op m (f s)) (f a) = f s) ∧ ∀ s ∈ a :: l, good (l.foldl (fun m s => op m (f s)) (f a)) (f s) := by
  induction l using List.reverseRecOn with
  | nil => exact ⟨⟨a, by simp, rfl⟩, fun s hs => List.mem_singleton.mp hs ▸ hrefl _⟩
  | append_singleton l b ih =>
    obtain ⟨⟨s, hs, heq⟩, hall⟩ := ih
    rw [List.foldl_append, List.foldl_cons, List.foldl_nil]
    obtain ⟨hold, hnew⟩ := hgood (l.foldl (fun m s => op m (f s)) (f a)) (f b)
    refine ⟨?_, fun t ht => ?_⟩
    · rcases hop (l.foldl (fun m s => op m (f s)) (f a)) (f b) with h | h
      · exact ⟨s, List.mem_append_left [b] hs, h.trans heq⟩
      · exact ⟨b, List.mem_append_right (a :: l) (List.mem_singleton_self b), h⟩
    · rcases List.mem_append.mp (show t ∈ (a :: l) ++ [b] from ht) with ht | ht
      · exact htrans hold (hall t ht)
      · exact List.mem_singleton.mp ht ▸ hnew

/-- A target with sources combines their demands by its mode; a fan group's is always the highest. -/
theorem Chip.combined_of_sources (c : Chip) (i : Nat) {s : Nat × Nat × Nat} {rest : List (Nat × Nat × Nat)} (hs : c.sources i = s :: rest) :
    c.combined i =
      if fgBase ≤ i then rest.foldl (fun m x => max m (c.srcDemand x)) (c.srcDemand s)
      else if ACT_MAP.COMBINE.get (c.amap i) = 1 then rest.foldl (fun m x => min m (c.srcDemand x)) (c.srcDemand s)
      else if ACT_MAP.COMBINE.get (c.amap i) = 2 then
        (2 * ((c.sources i).map fun x => c.srcDemand x * x.2.2).sum + ((c.sources i).map fun x => x.2.2).sum) /
          (2 * ((c.sources i).map fun x => x.2.2).sum)
      else rest.foldl (fun m x => max m (c.srcDemand x)) (c.srcDemand s) := by
  have hmap : mapSources (c.amap i) = s :: rest := hs
  simp only [Chip.combined, hs, hmap, List.map_cons, List.foldl_map, List.sum_eq_foldl, List.foldl_cons]

theorem Chip.combined_highest (c : Chip) (i : Nat) (hne : c.sources i ≠ []) (hmode : fgBase ≤ i ∨ ACT_MAP.COMBINE.get (c.amap i) = 0) :
    (∃ s ∈ c.sources i, c.combined i = c.srcDemand s) ∧ ∀ s ∈ c.sources i, c.srcDemand s ≤ c.combined i := by
  obtain ⟨s, rest, hs⟩ := List.exists_cons_of_ne_nil hne
  have hmax : c.combined i = rest.foldl (fun m x => max m (c.srcDemand x)) (c.srcDemand s) := by
    rw [c.combined_of_sources i hs]
    rcases hmode with hfan | hzero
    · rw [if_pos hfan]
    · simp [hzero]
  rw [hs, hmax]
  exact foldl_keeps_best max (fun m n => n ≤ m) (fun m n => by omega) (fun m n => by omega) (fun n => Nat.le_refl n) (fun h k => k.trans h) _ _ _

theorem Chip.combined_lowest (c : Chip) (i : Nat) (hne : c.sources i ≠ []) (hfan : i < fgBase) (hmode : ACT_MAP.COMBINE.get (c.amap i) = 1) :
    (∃ s ∈ c.sources i, c.combined i = c.srcDemand s) ∧ ∀ s ∈ c.sources i, c.combined i ≤ c.srcDemand s := by
  obtain ⟨s, rest, hs⟩ := List.exists_cons_of_ne_nil hne
  rw [c.combined_of_sources i hs, if_neg (Nat.not_le.mpr hfan), if_pos hmode, hs]
  exact foldl_keeps_best min (fun m n => m ≤ n) (fun m n => by omega) (fun m n => by omega) (fun n => Nat.le_refl n) (fun h k => h.trans k) _ _ _

/-- Rounded to nearest with ties upward: the quotient lies above n/w less a half, and at most a half above it. -/
theorem roundUp_bounds (n w : Nat) (hw : 0 < w) :
    2 * n < (2 * ((2 * n + w) / (2 * w)) + 1) * w ∧ 2 * ((2 * n + w) / (2 * w)) * w ≤ 2 * n + w := by
  have hdiv := Nat.div_add_mod (2 * n + w) (2 * w)
  have hmod := Nat.mod_lt (2 * n + w) (show 0 < 2 * w by omega)
  generalize (2 * n + w) / (2 * w) = q at *
  have hq : 2 * w * q = 2 * q * w := by ring
  rw [Nat.add_mul, Nat.one_mul]
  omega

theorem Chip.combined_mean (c : Chip) (i : Nat) (hne : c.sources i ≠ []) (hfan : i < fgBase) (hmode : ACT_MAP.COMBINE.get (c.amap i) = 2) :
    c.combined i = (2 * ((c.sources i).map fun x => c.srcDemand x * x.2.2).sum + ((c.sources i).map fun x => x.2.2).sum) /
      (2 * ((c.sources i).map fun x => x.2.2).sum) := by
  obtain ⟨s, rest, hs⟩ := List.exists_cons_of_ne_nil hne
  rw [c.combined_of_sources i hs, if_neg (Nat.not_le.mpr hfan), if_neg (by omega), if_pos hmode]

/-! ## On times -/

theorem Chip.onTime_full (c : Chip) (ch : Nat) (hdem : (c.tgt ch).dem = 0xFFFF) (hmin : c.minOnMs ch ≤ c.cycleMs ch) :
    c.onTime ch = c.cycleMs ch := by
  unfold Chip.onTime
  dsimp only
  rw [if_pos hdem, if_neg (show ¬ (c.cycleMs ch : Int) < c.minOnMs ch by omega)]
  split
  · rfl
  · exact Int.toNat_natCast _

theorem Chip.onTime_bounds (c : Chip) (ch : Nat) :
    c.onTime ch = 0 ∨ c.onTime ch = c.cycleMs ch ∨ (c.minOnMs ch ≤ c.onTime ch ∧ c.onTime ch + c.minOffMs ch ≤ c.cycleMs ch) := by
  unfold Chip.onTime
  dsimp only
  generalize (if (c.tgt ch).dem = 0xFFFF then (c.cycleMs ch : Int) else divRound (((c.tgt ch).dem : Int) * c.cycleMs ch + (c.tgt ch).carry) 65536) = on
  by_cases hshort : on < c.minOnMs ch
  · rw [if_pos hshort]
    split
    · exact .inr (.inl rfl)
    · exact .inl rfl
  · rw [if_neg hshort]
    split
    · exact .inr (.inl rfl)
    · exact .inr (.inr (by omega))

/-! ## Pull-ins -/

/-- A healthy valve channel that nothing forces, isolates, trips or holds back. -/
structure Chip.PullReady (c : Chip) (ch : Nat) : Prop where
  fault : c.chFault ch = 0
  kind : c.chKind ch = ckValve
  free : c.forced ch = false
  iso : c.isoStop ch = false
  trip : (c.chan ch).trip = 0
  reset : (c.chan ch).resetting = none
  cool : (c.chan ch).hot = false
  boost : c.act.bnr = false
  supply : c.act.lowSince = none
  coil : c.coilRefuses ch (c.getF SUPPLY_STATUS 0 SUPPLY_STATUS.VBOOST) = false

/-- The demanded pull-in of a ready channel is granted where it fits F and the currents, and stops the frame's grants where it does not. -/
theorem Chip.PullReady.judged {c : Chip} {ch : Nat} (h : c.PullReady ch) :
    c.judgePull ch none =
      if (c.pullCost ch false : Int) ≤ c.freeTokens + (c.tgt ch).charge ∧ c.currentsFit ch false = true then
        .grant (c.grantPull ch (c.pullCost ch false) false) else .stop c := by
  unfold Chip.judgePull
  by_cases hfits : (c.pullCost ch false : Int) ≤ c.freeTokens + (c.tgt ch).charge ∧ c.currentsFit ch false = true
  · rw [if_pos hfits]
    obtain ⟨htokens, hcurrents⟩ := hfits
    simp [h.fault, h.kind, h.free, h.iso, h.trip, h.reset, h.cool, h.boost, h.supply, h.coil, htokens, hcurrents]
  · rw [if_neg hfits]
    simpa [h.fault, h.kind, h.free, h.iso, h.trip, h.reset, h.cool, h.boost, h.supply, h.coil] using hfits

/-- A channel whose pull-in has started is in BOOST. -/
theorem Chip.startBoost_cstate (c : Chip) (ch : Nat) (holdPull : Bool) : (c.startBoost ch holdPull).cstate ch = csBoost := by
  unfold Chip.startBoost
  refine (Chip.getF_upd_append _ CH_STATUS ch CH_STATUS.CSTATE csBoost [] _ fun p hp => ?_).trans (by decide)
  have hflds : CH_STATUS.CSTATE.apart CH_STATUS.ECON_REQ ∧ CH_STATUS.CSTATE.apart CH_STATUS.LAST_CLOSE := by decide
  rcases List.mem_cons.mp hp with rfl | hp
  · exact hflds.1
  · split at hp
    · exact List.mem_singleton.mp hp ▸ hflds.2
    · split at hp
      · exact List.mem_singleton.mp hp ▸ hflds.2
      · exact absurd hp (by simp)

theorem Chip.grantPull_cstate (c : Chip) (ch cost : Nat) (holdPull : Bool) : (c.grantPull ch cost holdPull).cstate ch = csBoost :=
  Chip.startBoost_cstate _ ch holdPull

theorem Chip.modTgt_wait (c : Chip) (i : Nat) (f : Tgt → Tgt) (hf : ∀ t, (f t).wait = t.wait) :
    ((c.modTgt i f).tgt i).wait = (c.tgt i).wait := by
  rw [Chip.modTgt, Chip.tgt_setTgt, if_pos rfl, hf]

/-- Nothing waits on a channel whose pull-in is granted. -/
theorem Chip.grantPull_wait (c : Chip) (ch cost : Nat) (holdPull : Bool) : ((c.grantPull ch cost holdPull).tgt ch).wait = none := by
  have hboost : ∀ d : Chip, ((d.startBoost ch holdPull).tgt ch).wait = (d.tgt ch).wait := fun d => by
    unfold Chip.startBoost
    refine (Chip.modTgt_wait _ ch _ ?_).trans (congrArg Tgt.wait (Chip.tgt_of_act (Chip.upd_act ..) ch))
    exact fun _ => rfl
  have hcount : ∀ d : Chip, ((d.countGrant ch).tgt ch).wait = (d.tgt ch).wait := fun d =>
    congrArg Tgt.wait (Chip.tgt_of_act ((Chip.upd_act ..).trans (Chip.upd_act ..)) ch)
  unfold Chip.grantPull
  dsimp only
  rw [hboost, hcount, Chip.tgt_of_act (Chip.upd_act ..), Chip.modTgt, Chip.tgt_setTgt, if_pos rfl]

/-- Settles O36: a combined demand by the shape of its fold, an on time by its two limits, and a pull-in by its verdict
(`Chip.PullReady.judged`). -/
theorem demandsAndGrants : Obligations.DemandsAndGrants := by
  unfold Obligations.DemandsAndGrants
  refine ⟨Chip.combined_highest, Chip.combined_lowest, ?_, ?_, Chip.onTime_full, Chip.onTime_bounds, ?_⟩
  · intro c i n w hne hfan hmode hn hw hpos
    rw [c.combined_mean i hne hfan hmode, ← hn, ← hw]
    exact roundUp_bounds n w hpos
  · intro c z p hiso
    unfold Chip.portDemand
    rw [if_pos hiso]
  · rintro c ch cost hch hfault hkind hfree hiso htrip hreset hcool hboost hsupply hcoil rfl
    rw [Chip.PullReady.judged ⟨hfault, hkind, hfree, hiso, htrip, hreset, hcool, hboost, hsupply, hcoil⟩]
    split
    · exact ⟨_, rfl, c.grantPull_cstate ch _ false,
        ((c.grantPull_kept ch _ false hfree).charge ch).trans ((c.charge_modTgt ch ch _).trans (if_pos rfl)),
        c.grantPull_wait ch _ false, c.grantPull_freeTokens ch _ false hch hfree⟩
    · rfl

end Sys2Proof.Machine
end

section
/-!
PROOF. The allocator's micro-slot (R244, R249, R254, R260): forced valves come to rest in FORCED, and purges make or put off their moves.
-/

namespace Sys2Proof.Machine

/-! ## Forced valves in a micro-slot -/

/-- A valve that is forced comes to rest in FORCED. -/
theorem Chip.rest_forced (c : Chip) (ch : Nat) (hk : c.chKind ch = ckValve) (hf : c.forced ch = true) (hne : c.cstate ch ≠ csForced) :
    (c.rest ch).cstate ch = csForced := by
  unfold Chip.rest
  dsimp only
  rw [if_pos (show c.chKind ch = ckValve ∧ c.forced ch = true from ⟨hk, hf⟩), if_neg hne.symm, Chip.setCstate, Chip.cstate, Chip.getF_upd_one]
  rfl

/-- A forced channel has rank 1 or 2. -/
theorem Chip.rankOf_forced (c : Chip) (ch : Nat) (hch : ch < axBase) (hf : c.forced ch = true) : (c.rankOf ch).1 ≤ 2 := by
  unfold Chip.forced at hf
  unfold Chip.rankOf
  rw [if_pos hch]
  split
  · exact Nat.le_succ 1
  · split
    · exact Nat.le_refl 2
    · next hlines hstop => rw [if_pos (by simpa [hlines, hstop] using hf)]

/-- A forced valve that obeys its rank is in FORCED. -/
theorem Chip.obey_forced (c : Chip) (ch : Nat) (hch : ch < axBase) (hk : c.chKind ch = ckValve) (hf : c.forced ch = true) :
    (c.obey ch).cstate ch = csForced := by
  have hrest : TokensKept c (if c.cstate ch = csForced then c else c.rest ch) := .ite _ (.refl c) ((TokensKept.refl c).rest ch)
  have hstate : (if c.cstate ch = csForced then c else c.rest ch).cstate ch = csForced := by
    split
    · next h => exact h
    · next h => exact c.rest_forced ch hk hf h
  have hafter : ∀ {e : Chip}, TokensKept (if c.cstate ch = csForced then c else c.rest ch) e → e.cstate ch = csForced := fun h =>
    h.valve ch ((hrest.forced_eq ch).trans hf) ((hrest.chKind ch).trans hk) hstate
  have hdiscard := (TokensKept.refl (if c.cstate ch = csForced then c else c.rest ch)).discardWait ch
  unfold Chip.obey
  rw [if_pos hch, if_neg (not_not.mpr hk)]
  dsimp only
  rw [if_pos (c.rankOf_forced ch hch hf)]
  exact hafter ((TokensKept.ite _ (hdiscard.resetAnswer ch 0) hdiscard).eachOf _ _ fun e m => (TokensKept.refl e).judgeMan0 m.seq stBadState)

/-- The targets that a rank up to 4 orders obey it. -/
def Chip.ranksObeyed (c : Chip) : Chip := c.eachOf c.liveTargets (fun d i => if (d.rankOf i).1 ≤ 4 then d.obey i else d)

theorem Chip.ranksObeyed_kept (c : Chip) : TokensKept c c.ranksObeyed :=
  (TokensKept.refl c).eachOf _ _ fun d i => .ite _ ((TokensKept.refl d).obey i) (.refl d)

theorem Chip.ranksObeyed_forced (c : Chip) (ch : Nat) (hch : ch < 96) (hk : c.chKind ch = ckValve) (hf : c.forced ch = true) :
    c.ranksObeyed.cstate ch = csForced := by
  have hlive : ch ∈ c.liveTargets := by
    refine List.mem_filter.mpr ⟨List.mem_range.mpr (by omega), ?_⟩
    rw [if_pos (show ch < axBase from hch), hk]
    simp
  have hobeyed : c.ranksObeyed.forced ch = true → c.ranksObeyed.chKind ch = ckValve → c.ranksObeyed.cstate ch = csForced := by
    refine Chip.eachOf_establishes (fun d => d.forced ch = true → d.chKind ch = ckValve → d.cstate ch = csForced) hlive (fun d i hd => ?_) c
    have hstep : TokensKept d (if (d.rankOf i).1 ≤ 4 then d.obey i else d) := .ite _ ((TokensKept.refl d).obey i) (.refl d)
    intro hf' hk'
    have hfd := (hstep.forced_eq ch).symm.trans hf'
    have hkd := (hstep.chKind ch).symm.trans hk'
    rcases hd with rfl | hd
    · have hrank := d.rankOf_forced i hch hfd
      rw [if_pos (by omega)]
      exact d.obey_forced i hch hkd hfd
    · exact hstep.valve ch hfd hkd (hd hfd hkd)
  exact hobeyed ((c.ranksObeyed_kept.forced_eq ch).trans hf) ((c.ranksObeyed_kept.chKind ch).trans hk)

/-! ## Class-0 moves -/

/-- Work of the drives after which an axis waits for no class-0 move. -/
structure Purged (a : Nat) (c d : Chip) : Prop extends Driven c d where
  moved : (d.axis a).c0 = false

namespace Purged

variable {a : Nat} {c d e : Chip}

theorem after (h : Purged a c d) (k : Driven d e) : Purged a c e := ⟨h.toDriven.trans k, k.c0 a h.moved⟩

theorem kept (h : Purged a c d) (k : TokensKept d e) : Purged a c e := h.after k.toDriven

theorem ite {x y : Chip} (p : Prop) [Decidable p] (hx : Purged a c x) (hy : Purged a c y) : Purged a c (if p then x else y) := by
  split
  · exact hx
  · exact hy

/-- A class-0 move that is over or put off. -/
theorem of_modAxis (h : Driven c d) (f : Axis → Axis) (hf : ∀ x, (f x).c0 = false) : Purged a c (d.modAxis a f) where
  toDriven := h.after ((TokensKept.refl d).modAxis a f fun x _ => hf x)
  moved := by rw [Chip.modAxis, Chip.axis_setAxis, if_pos rfl, hf]

end Purged

/-- A class-0 move is over. -/
def Chip.class0Done (c : Chip) (a : Nat) : Chip := c.modAxis a (fun x => { x with c0 := false, c0Deferred := false, corr := false })

/-- The move of a purge begins, paid from the reserve first. -/
def Chip.class0Pay (c : Chip) (a : Nat) : Chip :=
  (Chip.class0Done { c with act.c := c.act.c - min (c.mapF (axBase + a) ACT_MAP.RUN_TOKENS) c.act.c } a).startMove a false

/-- What was shed for a move is counted and reported. -/
def Chip.borrowTold (r : Chip × List Nat) (frame short : Nat) : Chip :=
  let c := { r.1 with act.lastShed := some frame }
  let c := c.eachOf r.2 (fun c _ => c.incSat BUDGET_STATUS 0 BUDGET_STATUS.SHED_CNT BUDGET_STATUS.SAT 1)
  let c := c.incSat BUDGET_STATUS 0 BUDGET_STATUS.BORROW_CNT BUDGET_STATUS.SAT 2
  c.raise 0x0504 1 0 (u16 short ++ u8 r.2.length ++ rsvBytes 1) evChannels

/-- The move of a purge that the axis is free to make, where `short` tokens are wanting. -/
def Chip.class0Afford (c : Chip) (a short : Nat) : Chip :=
  if short = 0 then c.class0Pay a
  else if c.act.borrow then Chip.borrowTold ((c.class0Pay a).shedTo 0 axBase) c.act.frame short
  else (c.modAxis a (fun x => { x with c0 := false, c0Deferred := true })).incSat BUDGET_STATUS 0 BUDGET_STATUS.DEFER_CNT BUDGET_STATUS.SAT 3

theorem Chip.class0Done_purged {c d : Chip} (h : Driven c d) (a : Nat) : Purged a c (d.class0Done a) := Purged.of_modAxis h _ fun _ => rfl

theorem Chip.class0Afford_purged (c : Chip) (a short : Nat) : Purged a c (c.class0Afford a short) := by
  have hpay : Purged a c (c.class0Pay a) :=
    (Chip.class0Done_purged ((Driven.refl c).setReserve _) a).after ((Driven.refl _).startMove a false)
  have htold : ∀ r frame, TokensKept r.1 (Chip.borrowTold r frame short) := fun r frame =>
    ((((TokensKept.refl r.1).acted _).eachOf _ _ fun e _ => (TokensKept.refl e).updBudget _).updBudget _).raise _ _ _ _ _
  exact .ite _ hpay (.ite _ ((hpay.after ((Driven.refl _).shedTo 0 axBase)).kept (htold _ _))
    ((Purged.of_modAxis (Driven.refl c) _ fun _ => rfl).kept ((TokensKept.refl _).updBudget _)))

/-- The setpoint of a purge's position on an axis in state `s`. -/
def Chip.class0Go (c : Chip) (a s sp : Nat) : Chip :=
  if (c.rankOf (axBase + a)).1 ≤ 3 ∨ s = asStopped ∨ s = asFault ∨ s = asOff ∨ ¬ c.axEn a ∨ (s = asUnhomed ∧ ¬ c.canHome a) then c.class0Done a
  else if s = asMoving ∨ s = asSettling then
    Chip.class0Done (((c.axAim a sp).modAxis a (fun x => { x with moveAt := c.up, settleAt := none })).setAstate a asMoving) a
  else if s = asHoming then Chip.class0Done (c.modAxis a (fun x => { x with sp := sp })) a
  else if s = asIdle ∧ (c.axis a).sp = sp then c.class0Done a
  else c.class0Afford a ((c.mapF (axBase + a) ACT_MAP.RUN_TOKENS : Int) - (c.act.c + c.freeTokens)).toNat

theorem Chip.class0Move_of_purge (c : Chip) (a : Nat) {p : Purge} (hp : c.axPurge a = some p) :
    c.class0Move a =
      (c.upd AX_STATUS a [(AX_STATUS.CORR_PENDING, 0)]).class0Go a (c.astate a) (c.getF PURGE_CFG p.set PURGE_CFG.POSITION) := by
  simp only [Chip.class0Move, hp, Chip.class0Go, Chip.class0Afford, Chip.class0Pay, Chip.class0Done, Chip.borrowTold]

theorem Chip.class0Go_purged (c : Chip) (a s sp : Nat) : Purged a c (c.class0Go a s sp) :=
  have hkept := TokensKept.refl c
  .ite _ (Chip.class0Done_purged hkept.toDriven a) (.ite _ (Chip.class0Done_purged (((hkept.axAim a _).modAxis a _).setAstate a asMoving).toDriven a)
    (.ite _ (Chip.class0Done_purged (hkept.modAxis a _).toDriven a)
      (.ite _ (Chip.class0Done_purged hkept.toDriven a) (c.class0Afford_purged a _))))

/-- A class-0 move is made, found needless or put off: it waits no longer. -/
theorem Chip.class0Move_purged (c : Chip) (a : Nat) : Purged a c (c.class0Move a) := by
  cases hp : c.axPurge a with
  | none =>
    have hnone : c.class0Move a = c.class0Done a := by simp only [Chip.class0Move, hp, Chip.class0Done]
    exact hnone ▸ Chip.class0Done_purged (Driven.refl c) a
  | some p =>
    have hgo := (c.upd AX_STATUS a [(AX_STATUS.CORR_PENDING, 0)]).class0Go_purged a (c.astate a) (c.getF PURGE_CFG p.set PURGE_CFG.POSITION)
    rw [c.class0Move_of_purge a hp]
    exact ⟨((TokensKept.refl c).updAxis a _).toDriven.trans hgo.toDriven, hgo.moved⟩

/-! ## The micro-slot -/

theorem Chip.releases_driven (c : Chip) (l : List Nat) : Driven c (c.eachOf l Chip.releaseCharge) :=
  (Driven.refl c).eachOf l _ fun d i => (Driven.refl d).releaseCharge i

/-- A micro-slot of the running allocator: ranks are obeyed, idle charges released, and purges move their axes. -/
theorem Chip.class0Microslot_eq (c : Chip) (hrun : c.act.running = true) :
    ∃ l, c.class0Microslot = (c.ranksObeyed.eachOf l Chip.releaseCharge).each 24 (fun d a => if (d.axis a).c0 then d.class0Move a else d) := by
  unfold Chip.class0Microslot
  rw [if_neg (by rw [hrun]; decide)]
  exact ⟨_, rfl⟩

theorem class0Microslot_completes (s : State) (hrun : s.chip.act.running = true) :
    Completes .class0Microslot s fun t =>
      (∀ ch, ch < 96 → s.chip.chKind ch = ckValve → s.chip.forced ch = true → t.chip.cstate ch = csForced) ∧
      (∀ a, a < 24 → (t.chip.axis a).c0 = false) := by
  obtain ⟨l, heq⟩ := s.chip.class0Microslot_eq hrun
  have hstep : ∀ d a, Driven d (if (d.axis a).c0 then d.class0Move a else d) := fun d a =>
    .ite _ (d.class0Move_purged a).toDriven (.refl d)
  have hmoves := (s.chip.ranksObeyed.releases_driven l).each 24 _ hstep
  refine Completes.of_settled (exec_class0Microslot s) (congrArg Chip.fanMicroslot heq) ?_
  have hend : ∀ d : Chip, TokensKept d (State.settle { s with chip := d.fanMicroslot }).chip := fun d =>
    (TokensKept.refl d).fanMicroslot.trans (TokensKept.of_settle { s with chip := d.fanMicroslot })
  refine ⟨fun ch hch hk hf => ?_, fun a ha => (hend _).c0 a ?_⟩
  · refine (hmoves.after (hend _)).valve ch ((s.chip.ranksObeyed_kept.forced_eq ch).trans hf) ((s.chip.ranksObeyed_kept.chKind ch).trans hk) ?_
    exact s.chip.ranksObeyed_forced ch hch hk hf
  · refine Chip.eachOf_establishes (fun d => (d.axis a).c0 = false) (List.mem_range.mpr ha) (fun d b hd => ?_) _
    rcases hd with rfl | hd
    · split
      · exact (d.class0Move_purged b).moved
      · next hnone => exact Bool.not_eq_true _ ▸ hnone
    · exact (hstep d b).c0 a hd

end Sys2Proof.Machine
end

section
/-!
PROOF. The sampled PD class (R250), the end of a cycle (R245), the quiet time of shedding (R255), the plant stops (R260) and the writes of
`ACT_MAP` and `BUDGET_CFG` (R242, R264).
-/

namespace Sys2Proof.Machine

/-- The allocator's state without its targets, channels and axes. -/
def Act.bare (x : Act) : Act := { x with chan := [], axis := [], tgt := [] }

/-- What is read beside targets, channels and axes. -/
theorem Act.bare_read {γ : Type} {x y : Act} (h : x.bare = y.bare) (g : Act → γ) (hg : ∀ z : Act, g z.bare = g z) : g x = g y := by
  rw [← hg, h, hg]

/-- Settling leaves all of the allocator but its targets, channels and axes. -/
theorem State.settle_bare (s : State) : s.settle.chip.act.bare = s.chip.act.bare := by
  have hlines := congrArg Act.bare (State.settle_lines s).act
  exact hlines

/-- A served command that has nothing after its reply completes in any state that shows what it leaves, with the allocator as it left it. -/
theorem Served.orders {i : Instr} {s : State} {h : Hdr} {sp : CmdSpec} {x : Ctx} (hs : Served s h sp x) {act : Ctx → Chip → Res}
    {p : State → Prop} (hi : exec i s = s.run (fun c => c.command h sp act))
    (hact : ∀ d, Noise s.chip d → x.h = h → (act x d).post = id ∧
      ∀ t : State, Shown (act x d).chip t.chip → t.chip.act.bare = (act x d).chip.act.bare → p t) : Completes i s p := by
  refine hs.completes_post hi fun d e hd hx he => ?_
  obtain ⟨hpost, hp⟩ := hact d hd hx
  rw [hpost]
  exact hp _ ((Shown.of_noise he).trans (Shown.of_settle { s with chip := e }))
    ((State.settle_bare { s with chip := e }).trans (congrArg Act.bare he.quiet.act))

/-! ## The PD class -/

theorem Chip.pdClassSample_act (c : Chip) (code : Nat) (hrun : c.act.running = true) :
    (c.pdClassSample code).act.pdLast = some code ∧
      (c.pdClassSample code).act.pdCode = if c.act.pdLast = some code then some code else c.act.pdCode := by
  have hraise : ∀ (d : Chip) (ev sev source : Nat) (data : List Nat) (aud : Audience), (d.raise ev sev source data aud).act = d.act :=
    fun d ev sev source data aud => (Quiet.raise d ev sev source data aud).act
  unfold Chip.pdClassSample
  rw [if_neg (by rw [hrun]; decide)]
  dsimp only
  by_cases hsame : c.act.pdLast = some code
  · rw [if_pos hsame]
    split
    · next hno => exact ⟨rfl, by simpa [hsame] using hno⟩
    · rw [hraise]
      exact ⟨rfl, rfl⟩
  · rw [if_neg hsame, if_pos (.inl (by simpa using hsame))]
    exact ⟨rfl, rfl⟩

theorem pdClassSample_completes (s : State) (code : Nat) (hcode : code < 8) (hrun : s.chip.act.running = true) :
    Completes (.pdClassSample code) s fun t =>
      t.chip.act.pdLast = some code ∧ t.chip.act.pdCode = (if s.chip.act.pdLast = some code then some code else s.chip.act.pdCode) := by
  refine Completes.of_settled ((exec_pdClassSample code s).trans (if_pos hcode)) rfl ?_
  have hsettled := State.settle_bare { s with chip := s.chip.pdClassSample code }
  obtain ⟨hlast, hnow⟩ := s.chip.pdClassSample_act code hrun
  exact ⟨(Act.bare_read hsettled Act.pdLast fun _ => rfl).trans hlast, (Act.bare_read hsettled Act.pdCode fun _ => rfl).trans hnow⟩

/-! ## The end of a cycle -/

/-- Counting a target's time leaves the maps in force. -/
theorem Chip.countTo_maps (c : Chip) (i f : Nat) : (c.countTo i f).act.maps = c.act.maps := by
  unfold Chip.countTo
  exact Chip.each_keeps (fun d => d.act.maps) _ _ _ fun d _ => congrArg Act.maps (Chip.upd_act ..)

theorem Chip.cycleTo_cyc (c : Chip) (ch f : Nat) : ((c.cycleTo ch f).tgt ch).cyc = some (c.cycleAt ch f) := by
  unfold Chip.cycleTo
  dsimp only
  split
  · next h => exact h
  · rw [Chip.endCycle, Chip.tgt_setTgt, if_pos rfl]

theorem valveCycleEnd_completes (s : State) (ch : Nat) (hch : ch < 96) (hrun : s.chip.act.running = true)
    (hen : s.chip.mapF ch ACT_MAP.EN = 1) :
    Completes (.valveCycleEnd ch) s fun t => (t.chip.tgt ch).cyc = some (s.chip.cycleAt ch (s.chip.act.frame + 1)) := by
  have hends : s.chip.valveCycleEnd ch = (s.chip.countTo ch (s.chip.act.frame + 1)).cycleTo ch (s.chip.act.frame + 1) :=
    if_neg (by simp [hrun, hen])
  have hat : ∀ c d : Chip, d.act.maps = c.act.maps → d.cycleAt ch (s.chip.act.frame + 1) = c.cycleAt ch (s.chip.act.frame + 1) := fun c d h => by
    unfold Chip.cycleAt Chip.phaseMs Chip.cycleMs Chip.mapF Chip.amap
    rw [h]
  refine Completes.of_settled ((exec_valveCycleEnd ch s).trans (if_pos hch)) hends ?_
  refine (congrArg Tgt.cyc (State.settle_steady { s with chip := _ } ch)).trans ((Chip.cycleTo_cyc _ ch _).trans ?_)
  rw [hat _ _ (s.chip.countTo_maps ch _)]

/-! ## The quiet time of shedding -/

/-- A target that may be queued again after shedding. -/
def Tgt.quietOver (t : Tgt) : Tgt := if t.shed then { t with shed := false, restore := true } else t

theorem Tgt.quietOver_shed (t : Tgt) : t.quietOver.shed = false ∧ (t.shed = true → t.quietOver.restore = true) := by
  unfold Tgt.quietOver
  split
  · exact ⟨rfl, fun _ => rfl⟩
  · next h => exact ⟨by simpa using h, fun hs => absurd hs h⟩

/-- One target's quiet time is over. -/
def Chip.queueAgain (c : Chip) (i : Nat) : Chip :=
  if (c.tgt i).shed then c.modTgt i (fun t => { t with shed := false, restore := true }) else c

theorem Chip.tgt_queueAgain (c : Chip) (i j : Nat) : (c.queueAgain i).tgt j = if i = j then (c.tgt j).quietOver else c.tgt j := by
  unfold Chip.queueAgain Tgt.quietOver
  by_cases hij : i = j
  · subst hij
    rw [if_pos rfl]
    split
    · rw [Chip.modTgt, Chip.tgt_setTgt, if_pos rfl]
    · rfl
  · rw [if_neg hij]
    split
    · rw [Chip.modTgt, Chip.tgt_setTgt, if_neg hij]
    · rfl

theorem Chip.tgt_queuedAgain (c : Chip) (i : Nat) (hi : i < 120) : (c.each 120 Chip.queueAgain).tgt i = (c.tgt i).quietOver :=
  Chip.eachOf_once (fun d => d.tgt i = c.tgt i) (fun d => d.tgt i = (c.tgt i).quietOver) List.nodup_range (List.mem_range.mpr hi)
    (fun d j hj hd => by rw [d.tgt_queueAgain, if_neg hj, hd]) (fun d hd => by rw [d.tgt_queueAgain, if_pos rfl, hd])
    (fun d j hj hd => by rw [d.tgt_queueAgain, if_neg hj, hd]) rfl

theorem shedHoldoffExpiry_completes (s : State) (f : Nat) (hshed : s.chip.act.lastShed = some f)
    (hquiet : f + 1000 * s.chip.getF BUDGET_CFG 0 BUDGET_CFG.SHED_HOLDOFF_S ≤ s.chip.act.frame) :
    Completes .shedHoldoffExpiry s fun t => t.chip.act.lastShed = none ∧
      ∀ i, i < 120 → (t.chip.tgt i).shed = false ∧ ((s.chip.tgt i).shed = true → (t.chip.tgt i).restore = true) := by
  have hexpires : s.chip.shedHoldoffExpiry = Chip.each { s.chip with act.lastShed := none } 120 Chip.queueAgain := by
    unfold Chip.shedHoldoffExpiry
    rw [hshed]
    exact if_neg (Nat.not_lt.mpr hquiet)
  have hlast : (Chip.each { s.chip with act.lastShed := none } 120 Chip.queueAgain).act.lastShed = none :=
    Chip.each_keeps (fun d => d.act.lastShed) _ _ _ fun d i => by
      unfold Chip.queueAgain
      split <;> rfl
  have hsettled : ∀ d : Chip, (State.settle { s with chip := d }).chip.act.lastShed = d.act.lastShed ∧
      ∀ i, ((State.settle { s with chip := d }).chip.tgt i).steady = (d.tgt i).steady := fun d =>
    ⟨Act.bare_read (State.settle_bare { s with chip := d }) Act.lastShed fun _ => rfl, State.settle_steady { s with chip := d }⟩
  obtain ⟨hforgot, hsteady⟩ := hsettled (Chip.each { s.chip with act.lastShed := none } 120 Chip.queueAgain)
  refine Completes.of_settled (exec_shedHoldoffExpiry s) hexpires ⟨hforgot.trans hlast, fun i hi => ?_⟩
  have hagain := hsteady i
  rw [Chip.tgt_queuedAgain _ i hi] at hagain
  obtain ⟨hoff, hrestore⟩ := (s.chip.tgt i).quietOver_shed
  exact ⟨(congrArg Tgt.shed hagain).trans hoff, fun h => (congrArg Tgt.restore hagain).trans (hrestore h)⟩

/-! ## Plant stops -/

/-- A mask of plant kinds passes its check. -/
theorem plantMask_passes {mask prsv : Nat} (hlow : 1 ≤ mask) (hhigh : mask < 8) (hprsv : prsv = 0) :
    ∀ q ∈ [(mask == 0 || decide (8 ≤ mask) || prsv != 0, stBadParam)], q.1 = false := by
  have hzero : mask ≠ 0 := by omega
  simp [hzero, hhigh, hprsv]

theorem plantStop_completes (s : State) (h : Hdr) (x : Ctx) (mask : Nat) (hs : Served s h (chSpec 0x0510 [0, 1] 4) x) (hlow : 1 ≤ mask)
    (hhigh : mask < 8) (hprsv : h.prsv = 0) :
    Completes (.plantStop h mask) s fun t =>
      t.chip.act.stopMask = s.chip.act.stopMask ||| mask ∧ t.chip.act.resume = maskOff s.chip.act.resume mask := by
  refine hs.orders (exec_plantStop h mask s) fun d hd _ => ?_
  rw [checks_pass _ _ _ (plantMask_passes hlow hhigh hprsv), ← hd.quiet.act]
  refine ⟨rfl, fun t _ hact => ?_⟩
  dsimp only at hact
  have hmasks : t.chip.act.bare = Act.bare { d.act with stopMask := d.act.stopMask ||| mask, resume := maskOff d.act.resume mask } := by
    split at hact
    · exact hact
    · exact hact.trans (congrArg Act.bare (Quiet.raise _ _ _ _ _ _).act)
  exact ⟨Act.bare_read hmasks Act.stopMask fun _ => rfl, Act.bare_read hmasks Act.resume fun _ => rfl⟩

theorem plantResume_completes (s : State) (h : Hdr) (x : Ctx) (mask : Nat) (hs : Served s h (chSpec 0x0511 [1, 2] 4) x) (hlow : 1 ≤ mask)
    (hhigh : mask < 8) (hprsv : h.prsv = 0) :
    Completes (.plantResume h mask) s fun t =>
      t.chip.act.resume = s.chip.act.resume ||| mask ∧ t.chip.act.stopMask = s.chip.act.stopMask := by
  refine hs.orders (exec_plantResume h mask s) fun d hd _ => ?_
  rw [checks_pass _ _ _ (plantMask_passes hlow hhigh hprsv), ← hd.quiet.act]
  exact ⟨rfl, fun t _ hact => ⟨Act.bare_read hact Act.resume fun _ => rfl, Act.bare_read hact Act.stopMask fun _ => rfl⟩⟩

/-! ## Writes of records -/

theorem Chip.written_act (c : Chip) (r : RecDesc) (i img : Nat) : (c.written r i img).act = c.act := by
  unfold Chip.written Chip.recStored Chip.dirty
  dsimp only
  repeat' split
  all_goals rfl

/-- An admitted write of a record completes in any state with the image written and the allocator as the record's effect leaves it. -/
theorem Served.writes_act {i : Instr} {s : State} {h : Hdr} {x : Ctx} {r : RecDesc} {inst ver img : Nat} {p : State → Prop}
    (hs : Served s h setRecordSpec x) (hr : r.id % 0x10000 ∉ shownIds) (hf : WriteFits s.chip h r inst ver img) {row : Ctx → Chip → Res}
    (hi : exec i s = s.run (fun c => c.writeRow h row)) (k : Chip → WriteCheck) (effect : Act → Act)
    (hrow : ∀ d, row x d = d.setRecord x.h r inst ver img (k d) (fun c _ => { c with act := effect c.act }))
    (hk : ∀ d, Quiet s.chip d → (k d).Passes)
    (hp : ∀ t : State, Wrote s t r inst img → t.chip.act.bare = (effect s.chip.act).bare → p t) : Completes i s p := by
  have hquiet : r.id % 0x10000 ∉ noisyIds := fun hm => hr (List.mem_append_left _ hm)
  refine hs.orders hi fun d hd hx => ?_
  obtain ⟨hchip, hpost⟩ := Chip.setRecord_fits (hx ▸ hf.of_quiet hd.quiet hquiet) (hk d hd.quiet) (fun c _ => { c with act := effect c.act }) id
  rw [hrow d]
  refine ⟨hpost, fun t hsh hact => hp t ?_ ?_⟩
  · rw [hchip] at hsh
    exact (hsh.img r inst hr).trans (Chip.written_img_quiet hd.quiet hquiet inst img)
  · rw [hchip] at hact
    rw [hact, ← hd.quiet.act, ← d.written_act r inst img]

theorem actMapWrite_completes (s : State) (h : Hdr) (x : Ctx) (i ver img : Nat) (hs : Served s h setRecordSpec x)
    (hmay : x.who.estateOnly = true) (hf : WriteFits s.chip h ACT_MAP i ver img) (hbad : actMapBad i img = false)
    (hblocked : s.chip.actMapBlocked i img = false) :
    Completes (.actMapWrite h i ver img) s fun t => Wrote s t ACT_MAP i img ∧ t.chip.amap i = s.chip.amap i := by
  have hstate : ∀ d, Quiet s.chip d → d.actMapBlocked i img = false := fun d hd => by
    rw [← hblocked]
    unfold Chip.actMapBlocked Chip.chKind Chip.axEn Chip.getB
    rw [hd.getF _ _ _ (by decide), hd.getF _ _ _ (by decide)]
  refine hs.writes_act (by decide) hf (exec_actMapWrite h i ver img s)
    (fun d => { estateMay x with bad := actMapBad i img, state := if d.actMapBlocked i img then stBadState else 0 }) id (fun _ => rfl)
    (fun d hd => ⟨rfl, hmay, rfl, hbad, by rw [hstate d hd]; rfl⟩) fun t hwrote hact => ⟨hwrote, ?_⟩
  exact Act.bare_read hact (fun y => Tab.get (ACT_MAP.resetImg i) y.maps i) fun _ => rfl

theorem budgetCfgWrite_completes (s : State) (h : Hdr) (x : Ctx) (i ver img : Nat) (hs : Served s h setRecordSpec x)
    (hmay : x.who.estateOnly = true) (hf : WriteFits s.chip h BUDGET_CFG i ver img) :
    Completes (.budgetCfgWrite h i ver img) s fun t => Wrote s t BUDGET_CFG i img ∧ t.chip.act.loaded = true ∧ t.chip.act.estWrite = true :=
  hs.writes_act (by decide) hf (exec_budgetCfgWrite h i ver img s) (fun _ => estateMay x) (fun y => { y with loaded := true, estWrite := true })
    (fun _ => rfl) (fun _ _ => ⟨rfl, hmay, rfl, rfl, rfl⟩) fun _ hwrote hact => ⟨hwrote, Act.bare_read hact Act.loaded fun _ => rfl, Act.bare_read hact Act.estWrite fun _ => rfl⟩

/-- Settles O37, clause by clause. That a valve a mask forces off follows at the micro-slot, and not when the mask is admitted, is the model's
choice (log entry 32). -/
theorem allocatorActs : Obligations.AllocatorActs :=
  ⟨class0Microslot_completes, pdClassSample_completes, valveCycleEnd_completes, shedHoldoffExpiry_completes, plantStop_completes,
    plantResume_completes, actMapWrite_completes, budgetCfgWrite_completes⟩

end Sys2Proof.Machine
end

section
/-!
SUPPORT. One channel (R272 to R291): what an operation on another channel leaves of it (`Beside`), what taking channels to rest leaves of
each (`Resting`), and what stands when a command's meaning has been replied to and settled (`Followed`).
-/

namespace Sys2Proof.Machine

/-! ## Channels, targets and their writes -/

theorem Chip.chan_of_act {c d : Chip} (h : d.act = c.act) (i : Nat) : d.chan i = c.chan i := by rw [Chip.chan, h, Chip.chan]

@[simp] theorem Chip.chan_upd (c : Chip) (r : RecDesc) (i : Nat) (fs : List (Fld × Nat)) (k : Nat) : (c.upd r i fs).chan k = c.chan k :=
  Chip.chan_of_act (c.upd_act r i fs) k

@[simp] theorem Chip.chan_modTgt (c : Chip) (i : Nat) (f : Tgt → Tgt) (k : Nat) : (c.modTgt i f).chan k = c.chan k := rfl

@[simp] theorem Chip.chan_modChan_self (c : Chip) (k : Nat) (f : Chan → Chan) : (c.modChan k f).chan k = f (c.chan k) := by
  rw [Chip.modChan, Chip.chan_setChan, if_pos rfl]

theorem Chip.chan_modChan_ne (c : Chip) {k i : Nat} (f : Chan → Chan) (h : k ≠ i) : (c.modChan k f).chan i = c.chan i := by
  rw [Chip.modChan, Chip.chan_setChan, if_neg h]

/-- A change of a channel that spares what is read of channels. -/
theorem Chip.chan_modChan_keeps {γ : Type} (g : Chan → γ) (c : Chip) (k i : Nat) (f : Chan → Chan) (hf : ∀ x, g (f x) = g x) :
    g ((c.modChan k f).chan i) = g (c.chan i) := by
  by_cases h : k = i
  · rw [← h, Chip.chan_modChan_self, hf]
  · rw [Chip.chan_modChan_ne c f h]

@[simp] theorem Chip.getF_modChan (c : Chip) (k : Nat) (f : Chan → Chan) (r : RecDesc) (i : Nat) (g : Fld) :
    (c.modChan k f).getF r i g = c.getF r i g := rfl

@[simp] theorem Chip.getF_modTgt (c : Chip) (k : Nat) (f : Tgt → Tgt) (r : RecDesc) (i : Nat) (g : Fld) :
    (c.modTgt k f).getF r i g = c.getF r i g := rfl

@[simp] theorem Chip.tgt_modTgt_self (c : Chip) (k : Nat) (f : Tgt → Tgt) : (c.modTgt k f).tgt k = f (c.tgt k) := by
  rw [Chip.modTgt, Chip.tgt_setTgt, if_pos rfl]

@[simp] theorem Chip.tgt_modChan (c : Chip) (k : Nat) (f : Chan → Chan) (i : Nat) : (c.modChan k f).tgt i = c.tgt i := rfl

@[simp] theorem Chip.tgt_upd (c : Chip) (r : RecDesc) (i : Nat) (fs : List (Fld × Nat)) (k : Nat) : (c.upd r i fs).tgt k = c.tgt k :=
  Chip.tgt_of_act (c.upd_act r i fs) k

/-! ## Taking a channel to rest -/

/-- A running profile stops: the watch is abandoned and the time of closing noted. -/
def Chip.profileEnded (c : Chip) (ch : Nat) : Chip :=
  let d := (c.abandonWatch ch).upd CH_STATUS ch [(CH_STATUS.ECON_REQ, 0)]
  d.modTgt ch fun t => { t with closedAt := some d.act.frame }

/-- The state in which a channel comes to rest. -/
def Chip.restState (c : Chip) (ch : Nat) : Nat := if c.chKind ch = ckValve ∧ c.forced ch = true then csForced else c.unforcedState ch

/-- A channel takes another state at rest. -/
def Chip.takeRest (c : Chip) (ch state : Nat) : Chip :=
  (c.modChan ch fun x => { x with diagAt := c.up, hotReq := false }).setCstate ch state

theorem Chip.rest_eq (c : Chip) (ch : Nat) :
    c.rest ch = if c.restState ch = c.cstate ch then (if c.chDriven ch = true then c.profileEnded ch else c)
      else (if c.chDriven ch = true then c.profileEnded ch else c).takeRest ch (c.restState ch) := rfl

/-- What the end of a profile and the taking of a state at rest preserve, coming to rest preserves. -/
theorem Chip.rest_preserves (p : Chip → Prop) {c : Chip} {ch : Nat} (hended : ∀ d, p d → p (d.profileEnded ch))
    (htake : ∀ d n, p d → p (d.takeRest ch n)) (hc : p c) : p (c.rest ch) := by
  have hleft : p (if c.chDriven ch = true then c.profileEnded ch else c) := by
    split
    · exact hended c hc
    · exact hc
  rw [Chip.rest_eq]
  split
  · exact hleft
  · exact htake _ _ hleft

theorem Chip.unforcedState_lt (c : Chip) (ch : Nat) : c.unforcedState ch < 2 ^ 8 := by
  unfold Chip.unforcedState
  repeat' split
  all_goals decide

theorem Chip.restState_lt (c : Chip) (ch : Nat) : c.restState ch < 2 ^ 8 := by
  unfold Chip.restState
  split
  · decide
  · exact c.unforcedState_lt ch

/-- A channel that has come to rest is in its state of rest. -/
theorem Chip.rest_cstate (c : Chip) (ch : Nat) : (c.rest ch).cstate ch = c.restState ch := by
  have hended : (if c.chDriven ch = true then c.profileEnded ch else c).cstate ch = c.cstate ch := by
    split
    · exact Chip.getF_upd_one_apart _ _ _ _ _ _ (by decide)
    · rfl
  rw [Chip.rest_eq]
  split
  · next hsame => rw [hended, hsame]
  · exact (Chip.getF_upd_one _ _ _ _ _).trans (Nat.mod_eq_of_lt (c.restState_lt ch))

theorem Chip.profileEnded_chan (c : Chip) (ch : Nat) : (c.profileEnded ch).chan ch = { c.chan ch with watch := none, entry := none } := by
  unfold Chip.profileEnded Chip.abandonWatch
  rw [Chip.chan_modTgt, Chip.chan_upd, Chip.chan_modChan_self]

theorem Chip.profileEnded_up (c : Chip) (ch : Nat) : (c.profileEnded ch).up = c.up := congrArg Time.up (Chip.upd_time ..)

/-- The wait for the diagnostic that starts now starts now after coming to rest. -/
theorem Chip.rest_diagAt (c : Chip) (ch : Nat) (h : (c.chan ch).diagAt = c.up) : ((c.rest ch).chan ch).diagAt = c.up := by
  obtain ⟨hdiag, hup⟩ : ((if c.chDriven ch = true then c.profileEnded ch else c).chan ch).diagAt = c.up ∧
      (if c.chDriven ch = true then c.profileEnded ch else c).up = c.up := by
    split
    · exact ⟨(congrArg Chan.diagAt (c.profileEnded_chan ch)).trans h, c.profileEnded_up ch⟩
    · exact ⟨h, rfl⟩
  rw [Chip.rest_eq]
  split
  · exact hdiag
  · rw [Chip.takeRest, Chip.setCstate, Chip.chan_upd, Chip.chan_modChan_self]
    exact hup

/-- No line of the Firebreak forces the channel off, or it is not a valve's. -/
def Chip.ClearOfLines (c : Chip) (ch : Nat) : Prop := c.forcedLines.testBit ch = false ∨ c.chKind ch ≠ ckValve

theorem Chip.ClearOfLines.kept {c d : Chip} {ch : Nat} (h : c.ClearOfLines ch) (hkept : TokensKept c d) : d.ClearOfLines ch := by
  unfold Chip.ClearOfLines
  rw [hkept.lines, hkept.chKind]
  exact h

/-- No line of the Firebreak forces a channel that nothing forces. -/
theorem Chip.line_of_free {c : Chip} {ch : Nat} (h : c.forced ch = false) : c.forcedLines.testBit ch = false := by
  simp only [Chip.forced, Bool.or_eq_false_iff] at h
  exact h.1.1

/-- The valves that the Firebreak's lines force off come to rest. -/
def Chip.linesObeyed (c : Chip) : Chip :=
  c.each 96 fun d ch => if c.forcedLines.testBit ch ∧ d.chKind ch = ckValve ∧ d.cstate ch ≠ csForced then d.rest ch else d

theorem Chip.settleForced_eq (c : Chip) :
    c.settleForced = if c.forcedLines = 0 then c else
      c.linesObeyed.each 24 fun d a => if d.axEn a ∧ (d.axPair a).any (fun ch => c.forcedLines.testBit ch) then d.axStop a else d := rfl

/-! ## Work beside a channel -/

/-- `d` is `c` after work beside channel `ch`: the channel stands, and so do the clocks and the hold of a tier. -/
structure Beside (ch : Nat) (c d : Chip) : Prop where
  chan : d.chan ch = c.chan ch
  status : d.img CH_STATUS ch = c.img CH_STATUS ch
  time : d.time = c.time
  hold : d.boot.hold = c.boot.hold

namespace Beside

variable {ch : Nat} {b c d : Chip}

theorem refl (ch : Nat) (c : Chip) : Beside ch c c := ⟨rfl, rfl, rfl, rfl⟩

theorem trans (h : Beside ch b c) (k : Beside ch c d) : Beside ch b d :=
  ⟨k.chan.trans h.chan, k.status.trans h.status, k.time.trans h.time, k.hold.trans h.hold⟩

theorem ite {x y : Chip} (p : Prop) [Decidable p] (hx : Beside ch c x) (hy : Beside ch c y) : Beside ch c (if p then x else y) := by
  split
  · exact hx
  · exact hy

theorem getF (h : Beside ch c d) (f : Fld) : d.getF CH_STATUS ch f = c.getF CH_STATUS ch f := by rw [Chip.getF, h.status, Chip.getF]

theorem chFault (h : Beside ch c d) : d.chFault ch = c.chFault ch := h.getF _

theorem cstate (h : Beside ch c d) : d.cstate ch = c.cstate ch := h.getF _

theorem chDriven (h : Beside ch c d) : d.chDriven ch = c.chDriven ch := by rw [Chip.chDriven, h.cstate, Chip.chDriven]

theorem holding (h : Beside ch c d) (unit : Nat) : d.holding unit = c.holding unit := by rw [Chip.holding, h.hold, Chip.holding]

theorem quiet (h : Beside ch c d) {e : Chip} (hq : Quiet d e) : Beside ch c e :=
  h.trans ⟨Chip.chan_of_act hq.act ch, hq.img _ _ (by decide), hq.time, by rw [← hq.boot]⟩

/-- An assignment to another record than the channel's status. -/
theorem upd (h : Beside ch c d) (r : RecDesc) (i : Nat) (fs : List (Fld × Nat)) (hr : recKey r i ≠ recKey CH_STATUS ch) :
    Beside ch c (d.upd r i fs) :=
  h.trans ⟨d.chan_upd r i fs ch, Chip.img_upd_ne _ _ _ _ _ _ hr, d.upd_time r i fs, by rw [d.upd_boot]⟩

theorem updOther (h : Beside ch c d) {k : Nat} (hk : k ≠ ch) (fs : List (Fld × Nat)) : Beside ch c (d.upd CH_STATUS k fs) :=
  h.upd _ _ _ (recKey_ne_of_inst _ hk)

theorem modChan (h : Beside ch c d) {k : Nat} (hk : k ≠ ch) (f : Chan → Chan) : Beside ch c (d.modChan k f) :=
  h.trans ⟨d.chan_modChan_ne f hk, rfl, rfl, rfl⟩

theorem modTgt (h : Beside ch c d) (i : Nat) (f : Tgt → Tgt) : Beside ch c (d.modTgt i f) := h.trans ⟨rfl, rfl, rfl, rfl⟩

theorem modAxis (h : Beside ch c d) (a : Nat) (f : Axis → Axis) : Beside ch c (d.modAxis a f) := h.trans ⟨rfl, rfl, rfl, rfl⟩

theorem updAxis (h : Beside ch c d) (a : Nat) (fs : List (Fld × Nat)) : Beside ch c (d.upd AX_STATUS a fs) :=
  h.upd _ _ _ (recKey_ne_of_id (by decide) _ _)

theorem rest (h : Beside ch c d) {k : Nat} (hk : k ≠ ch) : Beside ch c (d.rest k) := by
  refine Chip.rest_preserves (Beside ch c) (fun e he => ?_) (fun e n he => ?_) h
  · unfold Chip.profileEnded Chip.abandonWatch
    exact ((he.modChan hk _).updOther hk _).modTgt k _
  · unfold Chip.takeRest
    exact (he.modChan hk _).updOther hk _

theorem axHalt (h : Beside ch c d) (a new : Nat) : Beside ch c (d.axHalt a new) := by
  unfold Chip.axHalt Chip.axDrive Chip.setAstate
  exact (((h.modAxis a _).updAxis a _).modAxis a _).updAxis a _

theorem abandonHoming (h : Beside ch c d) (a st : Nat) : Beside ch c (d.abandonHoming a st) := by
  unfold Chip.abandonHoming Chip.homeResult
  exact ite _ (((h.updAxis a _).quiet (Quiet.finish _ _ st [])).modAxis a _) h

theorem axStop (h : Beside ch c d) (a : Nat) : Beside ch c (d.axStop a) := by
  unfold Chip.axStop
  exact ite _ (h.updAxis a _) (((h.updAxis a _).abandonHoming a stBadState).axHalt a asStopped)

theorem eachOf {α : Type} (h : Beside ch c d) (l : List α) (f : Chip → α → Chip) (hf : ∀ e a, Beside ch e (f e a)) :
    Beside ch c (d.eachOf l f) := Chip.eachOf_preserves (Beside ch c) (fun e a he => he.trans (hf e a)) l h

theorem settleFault (h : Beside ch c d) : Beside ch c d.settleFault := ite _ (h.upd _ _ _ (recKey_ne_of_id (by decide) _ _)) h

theorem settleFb (h : Beside ch c d) : Beside ch c d.settleFb := by
  unfold Chip.settleFb
  exact (h.upd _ _ _ (recKey_ne_of_id (by decide) _ _)).upd _ _ _ (recKey_ne_of_id (by decide) _ _)

/-- The Firebreak's lines move only the valves they force off. -/
theorem linesObeyed (h : Beside ch c d) (hclear : d.ClearOfLines ch) : Beside ch c d.linesObeyed := by
  suffices hboth : TokensKept d d.linesObeyed ∧ Beside ch d d.linesObeyed from h.trans hboth.2
  refine Chip.eachOf_preserves (fun e => TokensKept d e ∧ Beside ch d e) (fun e k he => ?_) _ ⟨.refl d, .refl ch d⟩
  obtain ⟨hkept, hbeside⟩ := he
  refine ⟨.ite _ (hkept.rest k) hkept, ?_⟩
  split
  · next hk =>
    obtain ⟨hline, hvalve, -⟩ := hk
    refine hbeside.rest fun hch => ?_
    subst hch
    rcases hclear with hfree | hkind
    · exact absurd hline (by simp [hfree])
    · exact hkind ((hkept.chKind k).symm.trans hvalve)
  · exact hbeside

theorem settleForced (h : Beside ch c d) (hclear : d.ClearOfLines ch) : Beside ch c d.settleForced := by
  rw [Chip.settleForced_eq]
  exact ite _ h ((h.linesObeyed hclear).eachOf _ _ fun e a => ite _ ((refl ch e).axStop a) (refl ch e))

/-- Settling leaves a channel that no line moves. -/
theorem of_settle (s : State) (hclear : s.chip.ClearOfLines ch) : Beside ch s.chip s.settle.chip := by
  have hkept : TokensKept s.chip { s.chip with store.ops := [] } := (TokensKept.refl s.chip).beside rfl rfl rfl
  have hfault : TokensKept s.chip (Chip.settleFault { s.chip with store.ops := [] }) := by
    unfold Chip.settleFault
    exact .ite _ (hkept.upd AON_STATUS 0 _ (by decide) (by decide) (by decide)) hkept
  have hbeside : Beside ch s.chip { s.chip with store.ops := [] } := ⟨rfl, rfl, rfl, rfl⟩
  exact (hbeside.settleFault.settleForced (hclear.kept hfault)).settleFb

end Beside

/-! ## Channels taken to rest -/

/-- Another field than the state of a channel and its economy request. -/
abbrev Fld.unlikeRest (f : Fld) : Prop := f.apart CH_STATUS.CSTATE ∧ f.apart CH_STATUS.ECON_REQ

/-- What of a channel outlasts its profile. -/
def Chan.lasting (x : Chan) : Chan := { x with watch := none, entry := none, diagAt := 0, hotReq := false }

/-- `d` is `c` after channels have come to rest. -/
structure Resting (c d : Chip) : Prop where
  lasting : ∀ i, (d.chan i).lasting = (c.chan i).lasting
  watch : ∀ i, (c.chan i).watch = none → (d.chan i).watch = none
  status : ∀ i (f : Fld), f.unlikeRest → d.getF CH_STATUS i f = c.getF CH_STATUS i f

namespace Resting

variable {b c d : Chip}

theorem trans (h : Resting b c) (k : Resting c d) : Resting b d where
  lasting i := (k.lasting i).trans (h.lasting i)
  watch i hi := k.watch i (h.watch i hi)
  status i f hf := (k.status i f hf).trans (h.status i f hf)

/-- What is read of the lasting part of a channel. -/
theorem read {γ : Type} (h : Resting c d) (i : Nat) (g : Chan → γ) (hg : ∀ x : Chan, g x.lasting = g x) : g (d.chan i) = g (c.chan i) := by
  rw [← hg, h.lasting, hg]

theorem of_beside (h : ∀ i, Beside i c d) : Resting c d where
  lasting i := congrArg Chan.lasting (h i).chan
  watch i hi := by rw [(h i).chan, hi]
  status i f _ := (h i).getF f

theorem refl (c : Chip) : Resting c c := of_beside fun i => .refl i c

theorem ite {x y : Chip} (p : Prop) [Decidable p] (hx : Resting c x) (hy : Resting c y) : Resting c (if p then x else y) := by
  split
  · exact hx
  · exact hy

theorem quiet (h : Resting c d) {e : Chip} (hq : Quiet d e) : Resting c e := h.trans (of_beside fun i => (Beside.refl i d).quiet hq)

/-- A change of a channel that its rest makes. -/
theorem modChan (h : Resting c d) (k : Nat) (f : Chan → Chan) (hf : ∀ x, (f x).lasting = x.lasting)
    (hwatch : ∀ x, x.watch = none → (f x).watch = none) : Resting c (d.modChan k f) :=
  h.trans ⟨fun i => Chip.chan_modChan_keeps Chan.lasting d k i f hf, fun i hi => by
      by_cases hk : k = i
      · rw [← hk, Chip.chan_modChan_self]
        exact hwatch _ (hk ▸ hi)
      · rw [d.chan_modChan_ne f hk, hi],
    fun _ _ _ => rfl⟩

theorem upd (h : Resting c d) (k : Nat) (fs : List (Fld × Nat)) (hfs : ∀ f : Fld, f.unlikeRest → ∀ p ∈ fs, f.apart p.1) :
    Resting c (d.upd CH_STATUS k fs) :=
  h.trans ⟨fun i => by rw [Chip.chan_upd], fun i hi => by rw [Chip.chan_upd, hi],
    fun i f hf => Chip.getF_upd_apart_inst _ _ _ _ _ _ (hfs f hf)⟩

theorem modTgt (h : Resting c d) (i : Nat) (f : Tgt → Tgt) : Resting c (d.modTgt i f) := h.trans (of_beside fun k => (Beside.refl k d).modTgt i f)

theorem rest (h : Resting c d) (ch : Nat) : Resting c (d.rest ch) := by
  refine Chip.rest_preserves (Resting c) (fun e he => ?_) (fun e n he => ?_) h
  · have hleft : Resting c (e.abandonWatch ch) := he.modChan ch _ (fun _ => rfl) fun _ _ => rfl
    unfold Chip.profileEnded
    exact (hleft.upd ch _ fun f hf => apart_of_one hf.2).modTgt ch _
  · unfold Chip.takeRest
    refine Resting.upd (he.modChan ch _ (fun _ => ?_) fun _ hx => ?_) ch _ fun f hf => apart_of_one hf.1
    · rfl
    · exact hx

theorem eachOf {α : Type} (h : Resting c d) (l : List α) (f : Chip → α → Chip) (hf : ∀ e a, Resting e (f e a)) : Resting c (d.eachOf l f) :=
  Chip.eachOf_preserves (Resting c) (fun e a he => he.trans (hf e a)) l h

theorem settleForced (c : Chip) : Resting c c.settleForced := by
  rw [Chip.settleForced_eq]
  exact ite _ (refl c) (((refl c).eachOf _ _ fun e k => ite _ ((refl e).rest k) (refl e)).eachOf _ _ fun e a =>
    ite _ (of_beside fun i => (Beside.refl i e).axStop a) (refl e))

theorem of_settle (s : State) : Resting s.chip s.settle.chip := by
  have hfault : Resting s.chip (Chip.settleFault { s.chip with store.ops := [] }) :=
    of_beside fun i => Beside.settleFault ⟨rfl, rfl, rfl, rfl⟩
  exact (hfault.trans (settleForced _)).trans (of_beside fun i => (Beside.refl i _).settleFb)

end Resting

/-! ## After the reply and the settling -/

/-- `d` is `c` after events, replies and settling, as its channels and targets show it. -/
structure Followed (c d : Chip) : Prop where
  shown : Shown c d
  bare : d.act.bare = c.act.bare
  steady : ∀ i, (d.tgt i).steady = (c.tgt i).steady
  resting : Resting c d
  beside : ∀ i, c.ClearOfLines i → Beside i c d

namespace Followed

variable {c d : Chip}

theorem of_settle (s : State) : Followed s.chip s.settle.chip :=
  ⟨.of_settle s, State.settle_bare s, State.settle_steady s, .of_settle s, fun _ hclear => .of_settle s hclear⟩

theorem of_noise (s : State) {e : Chip} (he : Noise c e) : Followed c (State.settle { s with chip := e }).chip where
  shown := (Shown.of_noise he).trans (Shown.of_settle { s with chip := e })
  bare := (State.settle_bare { s with chip := e }).trans (congrArg Act.bare he.quiet.act)
  steady i := (State.settle_steady { s with chip := e } i).trans (congrArg Tgt.steady (Chip.tgt_of_act he.quiet.act i))
  resting := ((Resting.refl c).quiet he.quiet).trans (Resting.of_settle { s with chip := e })
  beside _ hclear := ((Beside.refl _ c).quiet he.quiet).trans
    (Beside.of_settle { s with chip := e } (hclear.kept ((TokensKept.refl c).quiet he.quiet)))

theorem read {γ : Type} (h : Followed c d) (g : Act → γ) (hg : ∀ x : Act, g x.bare = g x) : g d.act = g c.act := Act.bare_read h.bare g hg

theorem readTgt {γ : Type} (h : Followed c d) (i : Nat) (g : Tgt → γ) (hg : ∀ x : Tgt, g x.steady = g x) : g (d.tgt i) = g (c.tgt i) := by
  rw [← hg, h.steady, hg]

/-- A channel's status beside its state. -/
theorem status (h : Followed c d) (ch : Nat) (f : Fld) (hf : f.unlikeRest := by decide) : d.getF CH_STATUS ch f = c.getF CH_STATUS ch f :=
  h.resting.status ch f hf

theorem chFault (h : Followed c d) (ch : Nat) : d.chFault ch = c.chFault ch := h.status ch _

/-- What settling leaves of a channel that nothing forces. -/
theorem free {b : Chip} {ch : Nat} (h : Followed c d) (hkept : TokensKept b c) (hfree : b.forced ch = false) : Beside ch c d :=
  h.beside ch (Chip.ClearOfLines.kept (.inl (Chip.line_of_free hfree)) hkept)

end Followed

/-- A row completes in any state that follows what its meaning leaves. -/
theorem Completes.of_followed {i : Instr} {s : State} {f : Chip → Chip} {p : State → Prop} (hi : exec i s = s.run f)
    (hp : ∀ t : State, Followed (f s.chip) t.chip → p t) : Completes i s p :=
  ⟨_, hi, hp _ (Followed.of_settle { s with chip := f s.chip })⟩

/-- A served command that has nothing after its reply completes in any state that follows what it leaves. -/
theorem Served.followed {i : Instr} {s : State} {h : Hdr} {sp : CmdSpec} {x : Ctx} (hs : Served s h sp x) {act : Ctx → Chip → Res}
    {p : State → Prop} (hi : exec i s = s.run (fun c => c.command h sp act))
    (hact : ∀ d, Noise s.chip d → x.h = h → (act x d).post = id ∧ ∀ t : State, Followed (act x d).chip t.chip → p t) :
    Completes i s p := by
  refine hs.completes_post hi fun d e hd hx he => ?_
  obtain ⟨hpost, hp⟩ := hact d hd hx
  rw [hpost]
  exact hp _ (Followed.of_noise s he)

end Sys2Proof.Machine
end

section
/-!
SUPPORT. Faults of channels (R283 to R285): a first fault opens its channel and is counted, and leaves the other channels.
-/

namespace Sys2Proof.Machine

/-! ## A fault found -/

/-- A fault is counted and recorded, before its channel opens. -/
def Chip.faulted (c : Chip) (ch code : Nat) : Chip :=
  let d := (c.incSat CH_STATUS ch CH_STATUS.FAULT_CNT CH_STATUS.SAT 2).upd CH_STATUS ch [(CH_STATUS.FAULT, code)]
  d.modChan ch fun x => { x with passes := 0, faultAt := d.up }

/-- A fault opens a valve. -/
def Chip.faultOpened (c : Chip) (ch code : Nat) : Chip :=
  if (c.faulted ch code).chKind ch = ckValve then (c.faulted ch code).rest ch else c.faulted ch code

theorem Chip.channelFault_eq (c : Chip) (ch code : Nat) :
    c.channelFault ch code =
      if c.chKind ch = ckUnused then c
      else if c.chFault ch = 0 ∨ code < c.chFault ch ∨ (latching code ∧ ¬ latching (c.chFault ch)) then
        if c.chFault ch = 0 ∨ code < c.chFault ch then
          (c.faultOpened ch code).raise 0x0600 2 ch
            (u8 code ++ u8 (c.cstate ch) ++ u16 ((c.faultOpened ch code).getF CH_STATUS ch CH_STATUS.I_MA)) evDrive
        else c.faultOpened ch code
      else c := rfl

/-- What recording, coming to rest and events preserve, a fault preserves. -/
theorem Chip.channelFault_preserves (p : Chip → Prop) {c : Chip} {ch : Nat} (code : Nat) (hc : p c) (hfaulted : p (c.faulted ch code))
    (hrest : ∀ d, p d → p (d.rest ch)) (hquiet : ∀ {d e}, Quiet d e → p d → p e) : p (c.channelFault ch code) := by
  have hopened : p (c.faultOpened ch code) := by
    unfold Chip.faultOpened
    split
    · exact hrest _ hfaulted
    · exact hfaulted
  rw [Chip.channelFault_eq]
  repeat' split
  · exact hc
  · exact hquiet (Quiet.raise _ _ _ _ _ _) hopened
  · exact hopened
  · exact hc

theorem TokensKept.faulted {c d : Chip} (h : TokensKept c d) (ch code : Nat) : TokensKept c (d.faulted ch code) := by
  unfold Chip.faulted Chip.incSat
  exact ((h.updChannel ch _ (apart_of_two (by decide))).updChannel ch _ (apart_of_one (by decide))).modChan ch _

theorem TokensKept.channelFault {c d : Chip} (h : TokensKept c d) (ch code : Nat) : TokensKept c (d.channelFault ch code) :=
  Chip.channelFault_preserves (TokensKept c) code h (h.faulted ch code) (fun _ he => he.rest ch) fun hq he => he.quiet hq

theorem Beside.channelFault {ch : Nat} {c d : Chip} (h : Beside ch c d) {k : Nat} (hk : k ≠ ch) (code : Nat) :
    Beside ch c (d.channelFault k code) := by
  refine Chip.channelFault_preserves (Beside ch c) code h ?_ (fun _ he => he.rest hk) fun hq he => he.quiet hq
  unfold Chip.faulted Chip.incSat
  exact ((h.updOther hk _).updOther hk _).modChan hk _

/-- The fields that a fault writes. -/
def faultFlds : List Fld := [CH_STATUS.CSTATE, CH_STATUS.ECON_REQ, CH_STATUS.FAULT, CH_STATUS.FAULT_CNT, CH_STATUS.SAT]

theorem Chip.channelFault_getF (c : Chip) (ch code i : Nat) (f : Fld) (hf : ∀ g ∈ faultFlds, f.apart g) :
    (c.channelFault ch code).getF CH_STATUS i f = c.getF CH_STATUS i f := by
  obtain ⟨hstate, hecon, hfault, hcnt, hsat⟩ : f.apart CH_STATUS.CSTATE ∧ f.apart CH_STATUS.ECON_REQ ∧ f.apart CH_STATUS.FAULT ∧
      f.apart CH_STATUS.FAULT_CNT ∧ f.apart CH_STATUS.SAT := by simpa [faultFlds] using hf
  refine Chip.channelFault_preserves (fun d => d.getF CH_STATUS i f = c.getF CH_STATUS i f) code rfl ?_
    (fun d hd => (((Resting.refl d).rest ch).status i f ⟨hstate, hecon⟩).trans hd) fun hq hd => (hq.getF _ _ _ (by decide)).trans hd
  unfold Chip.faulted Chip.incSat
  exact (Chip.getF_upd_apart_inst _ _ _ _ _ _ (apart_of_one hfault)).trans
    (Chip.getF_upd_apart_inst _ _ _ _ _ _ (apart_of_two ⟨hcnt, hsat⟩))

theorem Chip.channelFault_watch (c : Chip) (ch code : Nat) (h : (c.chan ch).watch = none) : ((c.channelFault ch code).chan ch).watch = none := by
  refine Chip.channelFault_preserves (fun d => (d.chan ch).watch = none) code h ?_ (fun d => ((Resting.refl d).rest ch).watch ch)
    fun hq hd => (congrArg Chan.watch (Chip.chan_of_act hq.act ch)).trans hd
  unfold Chip.faulted Chip.incSat
  dsimp only
  rw [Chip.chan_modChan_self, Chip.chan_upd, Chip.chan_upd]
  exact h

/-! ## A first fault -/

/-- A valve channel that nothing forces and that has no fault. -/
structure Chip.Faultless (c : Chip) (ch : Nat) : Prop where
  kind : c.chKind ch = ckValve
  free : c.forced ch = false
  sound : c.chFault ch = 0

theorem Chip.Faultless.beside {c d : Chip} {ch : Nat} (h : c.Faultless ch) (hkept : TokensKept c d) (hbeside : Beside ch c d) :
    d.Faultless ch :=
  ⟨(hkept.chKind ch).trans h.kind, (hkept.forced_eq ch).trans h.free, hbeside.chFault.trans h.sound⟩

/-- What a fault with a code leaves of its channel. -/
structure Chip.FaultShown (c d : Chip) (ch code : Nat) : Prop where
  fault : d.chFault ch = code
  state : d.cstate ch = csFault
  count : d.getF CH_STATUS ch CH_STATUS.FAULT_CNT = satInc 32 (c.getF CH_STATUS ch CH_STATUS.FAULT_CNT)

theorem Chip.FaultShown.beside {c d e : Chip} {ch code : Nat} (h : c.FaultShown d ch code) (hbeside : Beside ch d e) : c.FaultShown e ch code :=
  ⟨hbeside.chFault.trans h.fault, hbeside.cstate.trans h.state, (hbeside.getF _).trans h.count⟩

theorem Chip.faulted_chFault (c : Chip) (ch code : Nat) (hcode : code < 2 ^ 8) : (c.faulted ch code).chFault ch = code := by
  unfold Chip.faulted
  exact (Chip.getF_upd_one _ _ _ _ _).trans (Nat.mod_eq_of_lt hcode)

theorem Chip.faulted_count (c : Chip) (ch code : Nat) :
    (c.faulted ch code).getF CH_STATUS ch CH_STATUS.FAULT_CNT = satInc 32 (c.getF CH_STATUS ch CH_STATUS.FAULT_CNT) := by
  unfold Chip.faulted
  exact (Chip.getF_upd_one_apart _ _ _ _ _ _ (by decide)).trans (Chip.getF_incSat_self _ _ _ _ _ _ (by decide))

/-- A valve that has a fault and is not forced rests in FAULT. -/
theorem Chip.restState_fault {c : Chip} {ch : Nat} (hkind : c.chKind ch = ckValve) (hfree : c.forced ch = false) (hfault : c.chFault ch ≠ 0) :
    c.restState ch = csFault := by
  unfold Chip.restState Chip.unforcedState
  rw [if_neg (by simp [hfree]), hkind, if_neg (by decide), if_neg (by decide), if_pos hfault]

/-- A valve at rest without a fault is OFF, or HOT. -/
theorem Chip.restState_sound {c : Chip} {ch : Nat} (hkind : c.chKind ch = ckValve) (hfree : c.forced ch = false) (hsound : c.chFault ch = 0) :
    c.restState ch = if (c.chan ch).hot then csHot else csOff := by
  unfold Chip.restState Chip.unforcedState
  rw [if_neg (by simp [hfree]), hkind, if_neg (by decide), if_neg (by decide), if_neg (not_not.mpr hsound)]

/-- The first fault of a valve opens it. -/
theorem Chip.Faultless.channelFault_quiet {c : Chip} {ch : Nat} (h : c.Faultless ch) (code : Nat) :
    Quiet ((c.faulted ch code).rest ch) (c.channelFault ch code) := by
  have hkind : (c.faulted ch code).chKind ch = ckValve := (((TokensKept.refl c).faulted ch code).chKind ch).trans h.kind
  rw [Chip.channelFault_eq, Chip.faultOpened, if_pos hkind, if_neg (by rw [h.kind]; decide), if_pos (.inl h.sound), if_pos (.inl h.sound)]
  exact Quiet.raise _ _ _ _ _ _

theorem Chip.Faultless.channelFault {c : Chip} {ch : Nat} (h : c.Faultless ch) {code : Nat} (hcode : code < 2 ^ 8) (hsome : code ≠ 0) :
    c.FaultShown (c.channelFault ch code) ch code := by
  have hquiet := h.channelFault_quiet code
  have hkept := (TokensKept.refl c).faulted ch code
  have hfault := c.faulted_chFault ch code hcode
  have hrests := (Resting.refl (c.faulted ch code)).rest ch
  refine ⟨?_, ?_, ?_⟩
  · exact (hquiet.getF _ _ _ (by decide)).trans ((hrests.status ch _ (by decide)).trans hfault)
  · refine (hquiet.getF _ _ _ (by decide)).trans ((Chip.rest_cstate _ ch).trans (Chip.restState_fault ?_ ?_ ?_))
    · exact (hkept.chKind ch).trans h.kind
    · exact (hkept.forced_eq ch).trans h.free
    · rwa [hfault]
  · exact (hquiet.getF _ _ _ (by decide)).trans ((hrests.status ch _ (by decide)).trans (c.faulted_count ch code))

/-- A first fault starts the wait for the diagnostic anew where it starts now. -/
theorem Chip.Faultless.channelFault_diagAt {c : Chip} {ch : Nat} (h : c.Faultless ch) (code : Nat) (hnow : (c.chan ch).diagAt = c.up) :
    ((c.channelFault ch code).chan ch).diagAt = c.up := by
  have hup : (c.faulted ch code).up = c.up :=
    congrArg Time.up ((Chip.upd_time ..).trans (Chip.upd_time ..))
  rw [Chip.chan_of_act (h.channelFault_quiet code).act, ← hup]
  refine Chip.rest_diagAt _ ch ?_
  rw [hup, ← hnow]
  unfold Chip.faulted Chip.incSat
  dsimp only
  rw [Chip.chan_modChan_self, Chip.chan_upd, Chip.chan_upd]

/-! ## Trips of the power die -/

theorem TokensKept.dieTrip {c d : Chip} (h : TokensKept c d) (ch code : Nat) : TokensKept c (d.dieTrip ch code) :=
  ite _ ((h.modChan ch _).rest ch) (h.channelFault ch code)

theorem Beside.dieTrip {ch : Nat} {c d : Chip} (h : Beside ch c d) {k : Nat} (hk : k ≠ ch) (code : Nat) : Beside ch c (d.dieTrip k code) :=
  ite _ ((h.modChan hk _).rest hk) (h.channelFault hk code)

/-- With the Keeper at work a trip is recorded at once. -/
theorem Chip.dieTrip_eq (c : Chip) (ch code : Nat) (hkeeper : c.holding 0 = false) : c.dieTrip ch code = c.channelFault ch code :=
  if_neg (by simp [hkeeper])

/-! ## A fault cleared -/

/-- A fault is forgotten, before its channel leaves FAULT. -/
def Chip.faultForgotten (c : Chip) (ch : Nat) : Chip :=
  ((c.upd CH_STATUS ch [(CH_STATUS.FAULT, 0)]).modChan ch fun x => { x with passes := 0 }).requeue ch

theorem Chip.clearChFault_eq (c : Chip) (ch cause : Nat) :
    c.clearChFault ch cause =
      if c.chFault ch = 0 then c
      else
        (if (c.faultForgotten ch).chKind ch = ckValve ∧ ¬ (c.faultForgotten ch).chDriven ch then (c.faultForgotten ch).rest ch
          else c.faultForgotten ch).raise 0x0601 0 ch (u8 (c.chFault ch) ++ u8 cause ++ rsvBytes 2) evDrive := rfl

theorem Chip.clearChFault_chFault (c : Chip) (ch cause : Nat) : (c.clearChFault ch cause).chFault ch = 0 := by
  have hforgot : (c.faultForgotten ch).chFault ch = 0 := by
    rw [Chip.faultForgotten, Chip.requeue, Chip.chFault, Chip.getF_modTgt, Chip.getF_modChan, Chip.getF_upd_one, Nat.zero_mod]
  rw [Chip.clearChFault_eq]
  split
  · next h => exact h
  · refine ((Quiet.raise _ _ _ _ _ _).getF _ _ _ (by decide)).trans ?_
    split
    · exact (((Resting.refl _).rest ch).status ch _ (by decide)).trans hforgot
    · exact hforgot

end Sys2Proof.Machine
end

section
/-!
PROOF. A valve channel's profile and closure watch (R272, R277), its coil (R279), its diagnostic (R285), the boost supply (R282) and the trips
of Table 8.7 (R283, R284).
-/

namespace Sys2Proof.Machine

/-! ## The profile -/

theorem Chip.clearOfLines_of_none {c : Chip} (h : c.forcedLines = 0) (ch : Nat) : c.ClearOfLines ch := .inl (by rw [h, Nat.zero_testBit])

theorem boostEnd_completes (s : State) (ch : Nat) (hch : ch < 96) (hboost : s.chip.cstate ch = csBoost) (hlines : s.chip.forcedLines = 0)
    (hover : s.chip.passedMs (s.chip.chan ch).boostAt (s.chip.vtRun ch VALVE_TYPE.BOOST_MS) = true) :
    Completes (.boostEnd ch) s fun t => t.chip.cstate ch = csHold := by
  refine Completes.of_followed ((exec_boostEnd ch s).trans (if_pos hch)) fun t ht => ?_
  rw [Chip.boostEnd, if_pos ⟨hboost, hover⟩, Chip.setCstate] at ht
  have hnone := (s.chip.forcedLines_upd CH_STATUS ch [(CH_STATUS.CSTATE, csHold)] (by decide)).trans hlines
  exact (ht.beside ch (Chip.clearOfLines_of_none hnone ch)).cstate.trans (Chip.getF_upd_one _ _ _ _ _)

/-! ## The closure watch -/

/-- A watch with a filtered sample. -/
def Watch.sampled (w : Watch) (ma : Nat) : Watch :=
  { w with f := divRound (3 * w.f + ma) 4, top := max w.top (divRound (3 * w.f + ma) 4) }

theorem closureWatchSample_early (s : State) (ch time ma : Nat) (w : Watch) (f : Int) (hch : ch < 96) (hw : (s.chip.chan ch).watch = some w)
    (hlines : s.chip.forcedLines = 0) (hf : f = divRound (3 * w.f + ma) 4) (hearly : time < 20 * s.chip.vtRun ch VALVE_TYPE.KINK_WIN_START_MS) :
    Completes (.closureWatchSample ch time ma) s fun t => (t.chip.chan ch).watch = some { w with f := f, top := max w.top f } := by
  subst hf
  refine Completes.of_followed ((exec_closureWatchSample ch time ma s).trans (if_pos hch)) fun t ht => ?_
  have hkeep : s.chip.closureWatchSample ch time ma = s.chip.modChan ch fun x => { x with watch := some (w.sampled ma) } := by
    unfold Chip.closureWatchSample
    rw [hw]
    exact if_pos hearly
  rw [hkeep] at ht
  have hnone : (s.chip.modChan ch fun x => { x with watch := some (w.sampled ma) }).forcedLines = 0 :=
    (Chip.forcedLines_of_recs rfl rfl).trans hlines
  rw [(ht.beside ch (Chip.clearOfLines_of_none hnone ch)).chan, Chip.chan_modChan_self]
  rfl

/-- The watch has seen the kink: the valve has moved. -/
def Chip.kinkSeen (c : Chip) (ch tValley : Nat) : Chip :=
  ((c.endWatch ch 1).incSat CH_STATUS ch CH_STATUS.MOVE_CNT CH_STATUS.SAT 0).upd CH_STATUS ch
    [(CH_STATUS.CLOSE_T, tValley), (CH_STATUS.NOMOVE_RUN, 0)]

theorem Chip.endWatch_watch (c : Chip) (ch result : Nat) : ((c.endWatch ch result).chan ch).watch = none := by
  rw [Chip.endWatch, Chip.chan_upd, Chip.chan_modChan_self]

theorem Chip.endWatch_lastClose (c : Chip) (ch result : Nat) (h : result < 2 ^ 8) :
    (c.endWatch ch result).getF CH_STATUS ch CH_STATUS.LAST_CLOSE = result :=
  (Chip.getF_upd_one _ _ _ _ _).trans (Nat.mod_eq_of_lt h)

theorem closureWatchSample_kink (s : State) (ch time ma : Nat) (w : Watch) (f depth : Int) (hch : ch < 96)
    (hw : (s.chip.chan ch).watch = some w) (hf : f = divRound (3 * w.f + ma) 4)
    (hstart : 20 * s.chip.vtRun ch VALVE_TYPE.KINK_WIN_START_MS ≤ time) (hfirst : w.first = false) (hvalley : w.valley ≤ f)
    (hdepth : depth = (s.chip.vtRun ch VALVE_TYPE.KINK_DEPTH_MA : Int)) (hfall : depth ≤ w.peak - w.valley)
    (hrise : depth ≤ 2 * (f - w.valley)) :
    Completes (.closureWatchSample ch time ma) s fun t =>
      (t.chip.chan ch).watch = none ∧ t.chip.getF CH_STATUS ch CH_STATUS.LAST_CLOSE = 1 ∧ t.chip.getF CH_STATUS ch CH_STATUS.NOMOVE_RUN = 0 ∧
      t.chip.getF CH_STATUS ch CH_STATUS.CLOSE_T = w.tValley % 2 ^ 16 := by
  subst hf hdepth
  refine Completes.of_followed ((exec_closureWatchSample ch time ma s).trans (if_pos hch)) fun t ht => ?_
  have hseen : s.chip.closureWatchSample ch time ma = s.chip.kinkSeen ch w.tValley := by
    unfold Chip.closureWatchSample
    rw [hw]
    exact (if_neg (Nat.not_lt.mpr hstart)).trans (if_pos ⟨by simp [hfirst], not_lt.mpr hvalley, hfall, hrise⟩)
  rw [hseen] at ht
  refine ⟨ht.resting.watch ch ?_, (ht.status ch _).trans ?_, (ht.status ch _).trans ?_, (ht.status ch _).trans ?_⟩
  · rw [Chip.kinkSeen, Chip.incSat, Chip.chan_upd, Chip.chan_upd, Chip.endWatch_watch]
  · rw [Chip.kinkSeen, Chip.incSat, Chip.getF_upd_apart _ _ _ _ _ (apart_of_two (by decide)),
      Chip.getF_upd_apart _ _ _ _ _ (apart_of_two (by decide)), Chip.endWatch_lastClose _ _ _ (by decide)]
  · exact Chip.getF_upd_append _ _ _ _ _ [(CH_STATUS.CLOSE_T, w.tValley)] [] (by simp)
  · exact Chip.getF_upd_append _ _ _ _ _ [] [(CH_STATUS.NOMOVE_RUN, 0)] (apart_of_one (by decide))

/-- The window ends without a kink: the end is counted. -/
def Chip.noMoveCounted (c : Chip) (ch : Nat) : Chip :=
  ((c.endWatch ch 2).incSat CH_STATUS ch CH_STATUS.NOMOVE_CNT CH_STATUS.SAT 1).inc CH_STATUS ch CH_STATUS.NOMOVE_RUN

/-- `NO_MOVE` counts, reports, and may find the fault STUCK. -/
theorem Chip.noMove_cases (c : Chip) (ch : Nat) :
    ∃ d, Quiet (c.noMoveCounted ch) d ∧ (c.noMove ch = d ∨ c.noMove ch = d.channelFault ch 8) := by
  refine ⟨_, Quiet.raise _ 0x0602 1 ch (u8 ((c.noMoveCounted ch).getF CH_STATUS ch CH_STATUS.NOMOVE_RUN) ++ rsvBytes 1 ++
    u16 (c.vtRun ch VALVE_TYPE.KINK_WIN_END_MS)) evDrive, ?_⟩
  unfold Chip.noMove
  dsimp only
  split
  · exact .inr rfl
  · exact .inl rfl

/-- A move that was not seen. -/
theorem Chip.noMove_shows (c : Chip) (ch : Nat) :
    ((c.noMove ch).chan ch).watch = none ∧ (c.noMove ch).getF CH_STATUS ch CH_STATUS.LAST_CLOSE = 2 ∧
      (c.noMove ch).getF CH_STATUS ch CH_STATUS.NOMOVE_CNT = satInc 32 (c.getF CH_STATUS ch CH_STATUS.NOMOVE_CNT) := by
  obtain ⟨d, hd, hend⟩ := c.noMove_cases ch
  have hwatch : (d.chan ch).watch = none := by
    rw [Chip.chan_of_act hd.act, Chip.noMoveCounted, Chip.inc, Chip.incSat, Chip.chan_upd, Chip.chan_upd, Chip.endWatch_watch]
  have hclose : d.getF CH_STATUS ch CH_STATUS.LAST_CLOSE = 2 := by
    rw [hd.getF _ _ _ (by decide), Chip.noMoveCounted, Chip.inc, Chip.incSat, Chip.getF_upd_one_apart _ _ _ _ _ _ (by decide),
      Chip.getF_upd_apart _ _ _ _ _ (apart_of_two (by decide)), Chip.endWatch_lastClose _ _ _ (by decide)]
  have hcount : d.getF CH_STATUS ch CH_STATUS.NOMOVE_CNT = satInc 32 (c.getF CH_STATUS ch CH_STATUS.NOMOVE_CNT) := by
    rw [hd.getF _ _ _ (by decide), Chip.noMoveCounted, Chip.inc, Chip.getF_upd_one_apart _ _ _ _ _ _ (by decide),
      Chip.getF_incSat_self _ _ _ _ _ _ (by decide), Chip.endWatch, Chip.getF_upd_one_apart _ _ _ _ _ _ (by decide), Chip.getF_modChan]
    rfl
  rcases hend with h | h
  · exact h ▸ ⟨hwatch, hclose, hcount⟩
  · rw [h]
    exact ⟨d.channelFault_watch ch 8 hwatch, (d.channelFault_getF ch 8 ch _ (by decide)).trans hclose,
      (d.channelFault_getF ch 8 ch _ (by decide)).trans hcount⟩

theorem closureWatchSample_noMove (s : State) (ch time ma : Nat) (w : Watch) (f : Int) (hch : ch < 96)
    (hw : (s.chip.chan ch).watch = some w) (hf : f = divRound (3 * w.f + ma) 4) (hfirst : w.first = true)
    (hstart : 20 * s.chip.vtRun ch VALVE_TYPE.KINK_WIN_START_MS ≤ time) (hend : 20 * s.chip.vtRun ch VALVE_TYPE.KINK_WIN_END_MS ≤ time)
    (hload : (s.chip.vtRun ch VALVE_TYPE.OPEN_MA : Int) ≤ max w.top f) :
    Completes (.closureWatchSample ch time ma) s fun t =>
      (t.chip.chan ch).watch = none ∧ t.chip.getF CH_STATUS ch CH_STATUS.LAST_CLOSE = 2 ∧
      t.chip.getF CH_STATUS ch CH_STATUS.NOMOVE_CNT = satInc 32 (s.chip.getF CH_STATUS ch CH_STATUS.NOMOVE_CNT) := by
  subst hf
  refine Completes.of_followed ((exec_closureWatchSample ch time ma s).trans (if_pos hch)) fun t ht => ?_
  have hnomove : s.chip.closureWatchSample ch time ma = s.chip.noMove ch := by
    unfold Chip.closureWatchSample
    rw [hw]
    dsimp only
    rw [if_neg (Nat.not_lt.mpr hstart), if_neg (by simp [hfirst]), if_neg (Nat.not_lt.mpr hend), if_pos hfirst]
    exact if_neg (not_lt.mpr hload)
  rw [hnomove] at ht
  obtain ⟨hwatch, hclose, hcount⟩ := s.chip.noMove_shows ch
  exact ⟨ht.resting.watch ch hwatch, (ht.status ch _).trans hclose, (ht.status ch _).trans hcount⟩

end Sys2Proof.Machine
end

section
/-!
PROOF. The coil model (R279 to R281).
-/

namespace Sys2Proof.Machine

/-! ## A step of the model -/

/-- What is left of a difference lies between the difference and zero. -/
theorem decay_between (rule : Nat) (diff : Int) (n d : Nat) : min diff 0 ≤ decay rule diff n d ∧ decay rule diff n d ≤ max diff 0 := by
  unfold decay
  dsimp only
  rw [clampI_eq_max_min (by omega)]
  omega

/-- The temperature after 10 ms at a mean-square current. -/
def Chip.coilNext (c : Chip) (ch ms : Nat) : Int :=
  c.coilSteady ch ms + decay 279 ((c.chan ch).coilT - c.coilSteady ch ms) 1 (100 * c.vt ch VALVE_TYPE.COIL_TAU_S)

/-- The temperature moves between the old one and the steady one. -/
theorem Chip.coilNext_between (c : Chip) (ch ms : Nat) :
    min (c.chan ch).coilT (c.coilSteady ch ms) ≤ c.coilNext ch ms ∧ c.coilNext ch ms ≤ max (c.chan ch).coilT (c.coilSteady ch ms) := by
  have h := decay_between 279 ((c.chan ch).coilT - c.coilSteady ch ms) 1 (100 * c.vt ch VALVE_TYPE.COIL_TAU_S)
  unfold Chip.coilNext
  omega

/-- The current that the model takes of a channel: none while nothing drives it. -/
def Chip.drivenOf (c : Chip) (ch v : Nat) : Nat := if c.chDriven ch then v else 0

/-- The model's values move on and are shown. -/
def Chip.coilMoved (c : Chip) (ch ma ms : Nat) : Chip :=
  ((c.modChan ch fun x => { x with
    coilT := c.coilNext ch (c.drivenOf ch ms), coilSs := c.coilSteady ch (c.drivenOf ch ms), tAt := c.now }).upd CH_STATUS ch
    [(CH_STATUS.I_MA, c.drivenOf ch ma)]).showCoil ch

/-- The temperature reached asks for economy hold. -/
def Chip.econAsked (c : Chip) (ch : Nat) (ss : Int) (econ : Bool) (m : Int) : Chip :=
  if c.cstate ch = csHold ∧ econ ∧ m < ss then c.upd CH_STATUS ch [(CH_STATUS.ECON_REQ, 1)] else c

/-- The temperature reached asks for HOT. -/
def Chip.hotAsked (c : Chip) (ch : Nat) (t : Int) (econ : Bool) (m : Int) : Chip :=
  if m ≤ t ∧ ((c.cstate ch = csHold ∧ ¬ econ) ∨ c.cstate ch = csEcon) then c.modChan ch fun x => { x with hotReq := true } else c

/-- A channel that is no longer hot comes to rest and may be asked again. -/
def Chip.leaveHot (c : Chip) (ch : Nat) : Chip := ((c.modChan ch fun x => { x with hot := false }).requeue ch).rest ch

/-- The temperature reached ends HOT. -/
def Chip.cooled (c : Chip) (ch : Nat) (t m : Int) : Chip :=
  if (c.chan ch).hot ∧ t ≤ m - 10 * degC then (c.leaveHot ch).coilHotEvent ch 0 else c

theorem Quiet.coilHotEvent (c : Chip) (ch st : Nat) : Quiet c (c.coilHotEvent ch st) := Quiet.raise _ _ _ _ _ _

/-- A step of the model moves the values on, and judges them by limits of its own. -/
theorem Chip.coilStep_eq (c : Chip) (ch ma ms : Nat) (hk : c.chKind ch = ckValve) :
    ∃ ss t econ m, c.coilStep ch ma ms = (((c.coilMoved ch ma ms).econAsked ch ss econ m).hotAsked ch t econ m).cooled ch t m := by
  unfold Chip.coilStep
  rw [if_neg (not_not.mpr hk)]
  exact ⟨_, _, _, _, rfl⟩

/-- A step of the model preserves what each of its parts preserves. -/
theorem Chip.coilStep_preserves (p : Chip → Prop) {c : Chip} {ch : Nat} (ma ms : Nat) (hidle : c.chKind ch ≠ ckValve → p c)
    (hmoved : p (c.coilMoved ch ma ms)) (hecon : ∀ d, p d → p (d.upd CH_STATUS ch [(CH_STATUS.ECON_REQ, 1)]))
    (hhot : ∀ d, p d → p (d.modChan ch fun x => { x with hotReq := true }))
    (hcool : ∀ d : Chip, p d → p ((d.leaveHot ch).coilHotEvent ch 0)) : p (c.coilStep ch ma ms) := by
  by_cases hk : c.chKind ch = ckValve
  · obtain ⟨ss, t, econ, m, heq⟩ := c.coilStep_eq ch ma ms hk
    rw [heq]
    have hasked : p ((c.coilMoved ch ma ms).econAsked ch ss econ m) := by
      unfold Chip.econAsked
      split
      · exact hecon _ hmoved
      · exact hmoved
    have hjudged : p (((c.coilMoved ch ma ms).econAsked ch ss econ m).hotAsked ch t econ m) := by
      unfold Chip.hotAsked
      split
      · exact hhot _ hasked
      · exact hasked
    unfold Chip.cooled
    split
    · exact hcool _ hjudged
    · exact hjudged
  · unfold Chip.coilStep
    rw [if_pos hk]
    exact hidle hk

/-! ## The other channels -/

theorem TokensKept.coilStep {c d : Chip} (h : TokensKept c d) (ch ma ms : Nat) : TokensKept c (d.coilStep ch ma ms) := by
  refine Chip.coilStep_preserves (TokensKept c) ma ms (fun _ => h) ?_ (fun e he => he.updChannel ch _ (apart_of_one (by decide)))
    (fun e he => he.modChan ch _) fun e he => ?_
  · unfold Chip.coilMoved Chip.showCoil
    exact ((h.modChan ch _).updChannel ch _ (apart_of_one (by decide))).updChannel ch _ (apart_of_two (by decide))
  · exact TokensKept.quiet (((he.modChan ch _).requeue ch).rest ch) (Quiet.coilHotEvent (e.leaveHot ch) ch 0)

theorem Beside.coilStep {ch : Nat} {c d : Chip} (h : Beside ch c d) {k : Nat} (hk : k ≠ ch) (ma ms : Nat) :
    Beside ch c (d.coilStep k ma ms) := by
  refine Chip.coilStep_preserves (Beside ch c) ma ms (fun _ => h) ?_ (fun e he => he.updOther hk _)
    (fun e he => he.modChan hk _) fun e he => ?_
  · unfold Chip.coilMoved Chip.showCoil
    exact ((h.modChan hk _).updOther hk _).updOther hk _
  · exact Beside.quiet (((he.modChan hk _).modTgt k _).rest hk) (Quiet.coilHotEvent (e.leaveHot k) k 0)

/-! ## The channel's own step -/

/-- What the model keeps of a channel: its temperature, its steady temperature and the time of both. -/
def Chan.coil (x : Chan) : Int × Int × Nat := (x.coilT, x.coilSs, x.tAt)

theorem Chip.coilStep_coil (c : Chip) (ch ma ms : Nat) (hk : c.chKind ch = ckValve) :
    ((c.coilStep ch ma ms).chan ch).coil = (c.coilNext ch (c.drivenOf ch ms), c.coilSteady ch (c.drivenOf ch ms), c.now) := by
  refine Chip.coilStep_preserves
    (fun d => (d.chan ch).coil = (c.coilNext ch (c.drivenOf ch ms), c.coilSteady ch (c.drivenOf ch ms), c.now)) ma ms
    (fun hne => absurd hk hne) ?_ (fun d hd => ?_) (fun d hd => ?_) fun d hd => ?_
  · rw [Chip.coilMoved, Chip.showCoil, Chip.chan_upd, Chip.chan_upd, Chip.chan_modChan_self]
    rfl
  · rw [Chip.chan_upd, hd]
  · rw [Chip.chan_modChan_self]
    exact hd
  · rw [Chip.chan_of_act (Quiet.coilHotEvent _ ch 0).act, Chip.leaveHot]
    refine (((Resting.refl _).rest ch).read ch Chan.coil fun _ => rfl).trans ?_
    rw [Chip.requeue, Chip.chan_modTgt, Chip.chan_modChan_self]
    exact hd

/-- The steady temperature is read of the channel and of the configuration. -/
theorem Chip.coilSteady_beside {ch : Nat} {c d : Chip} (hkept : TokensKept c d) (hbeside : Beside ch c d) (ms : Nat) :
    d.coilSteady ch ms = c.coilSteady ch ms := by
  unfold Chip.coilSteady Chip.coilRise Chip.coilR Chip.coilAmb Chip.vt
  rw [hbeside.chan, hkept.getF CH_CFG ch _ (by decide), hkept.getF VALVE_TYPE _ _ (by decide), hkept.getF VALVE_TYPE _ _ (by decide),
    hkept.getF VALVE_TYPE _ _ (by decide), hkept.getF THERMAL_STATUS 0 _ (by decide), hkept.getF CH_GLOBAL 0 _ (by decide)]

theorem Chip.coilNext_beside {ch : Nat} {c d : Chip} (hkept : TokensKept c d) (hbeside : Beside ch c d) (ms : Nat) :
    d.coilNext ch ms = c.coilNext ch ms := by
  unfold Chip.coilNext Chip.vt
  rw [Chip.coilSteady_beside hkept hbeside, hbeside.chan, hkept.getF CH_CFG ch _ (by decide), hkept.getF VALVE_TYPE _ _ (by decide)]

/-! ## An update -/

/-- After an update of the model every valve has taken its one step. -/
theorem Chip.coilModelUpdate_coil (c : Chip) (currents : List (Nat × Nat)) (hlevel : lvLimited ≤ c.level) (hon : c.boot.pfHalt = false)
    (hsense : c.noSense = false) (ch ms : Nat) (hch : ch < 96) (hk : c.chKind ch = ckValve)
    (hms : ms = c.drivenOf ch (currents.getD ch (0, 0)).2) :
    ((c.coilModelUpdate currents).chan ch).coil = (c.coilNext ch ms, c.coilSteady ch ms, c.now) := by
  unfold Chip.coilModelUpdate
  rw [if_neg (by simp [hon, hsense, hlevel])]
  refine Chip.eachOf_once (fun d => TokensKept c d ∧ Beside ch c d) (fun d => (d.chan ch).coil = (c.coilNext ch ms, c.coilSteady ch ms, c.now))
    List.nodup_range (List.mem_range.mpr hch) (fun d k hne hd => ?_) (fun d hd => ?_) (fun d k hne hd => ?_) ⟨.refl c, .refl ch c⟩
  · obtain ⟨hkept, hbeside⟩ := hd
    exact ⟨hkept.coilStep _ _ _, hbeside.coilStep hne _ _⟩
  · obtain ⟨hkept, hbeside⟩ := hd
    rw [Chip.coilStep_coil _ _ _ _ ((hkept.chKind ch).trans hk), Chip.coilNext_beside hkept hbeside, Chip.coilSteady_beside hkept hbeside,
      Chip.now, hbeside.time, Chip.drivenOf, hbeside.chDriven, hms]
    rfl
  · rw [((Beside.refl ch d).coilStep hne _ _).chan, hd]

theorem coilModelUpdate_completes (s : State) (currents : List (Nat × Nat)) (hlevel : lvLimited ≤ s.chip.level)
    (hon : s.chip.boot.pfHalt = false) (hsense : s.chip.noSense = false) :
    Completes (.coilModelUpdate currents) s fun t => ∀ ch ss old new, ch < 96 → s.chip.chKind ch = ckValve →
      ss = s.chip.coilSteady ch (if s.chip.chDriven ch then (currents.getD ch (0, 0)).2 else 0) →
      old = (s.chip.chan ch).coilT → new = (t.chip.chan ch).coilT →
      (t.chip.chan ch).coilSs = ss ∧ min old ss ≤ new ∧ new ≤ max old ss ∧ (t.chip.chan ch).tAt = s.chip.now := by
  refine Completes.of_followed (exec_coilModelUpdate currents s) fun t ht => ?_
  rintro ch ss old new hch hk rfl rfl rfl
  have hcoil := (ht.resting.read ch Chan.coil fun _ => rfl).trans
    (s.chip.coilModelUpdate_coil currents hlevel hon hsense ch _ hch hk rfl)
  obtain ⟨hnew, hss, hat⟩ : (t.chip.chan ch).coilT = _ ∧ (t.chip.chan ch).coilSs = _ ∧ (t.chip.chan ch).tAt = _ := by
    simpa only [Chan.coil, Prod.mk.injEq] using hcoil
  obtain ⟨hlow, hhigh⟩ := s.chip.coilNext_between ch (s.chip.drivenOf ch (currents.getD ch (0, 0)).2)
  exact ⟨hss, hnew ▸ hlow, hnew ▸ hhigh, hat⟩

end Sys2Proof.Machine
end

section
/-!
PROOF. The off-state diagnostic (R285), the boost supply (R282) and the trips of Table 8.7 (R283, R284).
-/

namespace Sys2Proof.Machine

/-! ## The diagnostic -/

/-- A diagnostic is due on a valve at rest, no reset having asked for it. -/
structure Chip.DiagDue (c : Chip) (ch : Nat) : Prop where
  level : lvLimited ≤ c.level
  kind : c.chKind ch = ckValve
  state : c.cstate ch = csOff ∨ c.cstate ch = csFault
  free : c.forced ch = false
  array : c.arState 1 ≠ arCalibrating
  enabled : c.getB CH_CFG ch CH_CFG.OFF_DIAG_EN = true
  asked : (c.chan ch).resetting = none
  due : c.passedMs (c.chan ch).diagAt (c.getF CH_GLOBAL 0 CH_GLOBAL.OFF_DIAG_MS) = true

/-- The fault that two readings show, or 0. -/
def diagCode (mv0 mv1 : Nat) : Nat := if 2000 < mv0 then 7 else if 2000 < mv1 then 6 else 0

/-- A diagnostic begins. -/
def Chip.diagnosed (c : Chip) (ch : Nat) : Chip := c.modChan ch fun x => { x with diagAt := c.up }

theorem Chip.DiagDue.diagnostic {c : Chip} {ch : Nat} (h : c.DiagDue ch) (mv0 mv1 : Nat) :
    c.offStateDiagnostic ch mv0 mv1 =
      if diagCode mv0 mv1 ≠ 0 then ((c.diagnosed ch).channelFault ch (diagCode mv0 mv1)).modChan ch fun x => { x with passes := 0 }
      else if c.chFault ch = 6 ∨ c.chFault ch = 7 then
        if 2 ≤ (c.chan ch).passes then (c.diagnosed ch).clearChFault ch 1
        else (c.diagnosed ch).modChan ch fun x => { x with passes := x.passes + 1 }
      else c.diagnosed ch := by
  have hrest : ¬ (c.cstate ch ≠ csOff ∧ c.cstate ch ≠ csFault) := by
    rcases h.state with hst | hst <;> simp [hst]
  have hruns : ¬ (c.level < lvLimited ∨ c.chKind ch ≠ ckValve ∨ (c.cstate ch ≠ csOff ∧ c.cstate ch ≠ csFault) ∨ c.forced ch = true ∨
      c.arState 1 = arCalibrating ∨ ¬ ((c.chan ch).resetting.isSome || (c.getB CH_CFG ch CH_CFG.OFF_DIAG_EN &&
        c.passedMs (c.chan ch).diagAt (c.getF CH_GLOBAL 0 CH_GLOBAL.OFF_DIAG_MS))) = true) := by
    simp [h.level, h.kind, hrest, h.free, h.array, h.enabled, h.due]
  unfold Chip.offStateDiagnostic
  dsimp only
  rw [if_neg hruns, if_neg (by simp [h.asked])]
  rfl

theorem Chip.diagnosed_kept (c : Chip) (ch : Nat) : TokensKept c (c.diagnosed ch) := (TokensKept.refl c).modChan ch _

theorem Chip.diagnosed_diagAt (c : Chip) (ch : Nat) : ((c.diagnosed ch).chan ch).diagAt = c.up := by
  rw [Chip.diagnosed, Chip.chan_modChan_self]

/-- A valve without a fault has the fault that its diagnostic finds. -/
theorem Chip.DiagDue.first {c : Chip} {ch : Nat} (h : c.DiagDue ch) (mv0 mv1 : Nat) (hsound : c.chFault ch = 0) :
    TokensKept c (c.offStateDiagnostic ch mv0 mv1) ∧ (c.offStateDiagnostic ch mv0 mv1).chFault ch = diagCode mv0 mv1 ∧
      ((c.offStateDiagnostic ch mv0 mv1).chan ch).diagAt = c.up := by
  have hnot : ¬ (c.chFault ch = 6 ∨ c.chFault ch = 7) := by simp [hsound]
  rw [h.diagnostic, if_neg hnot]
  split
  · next hcode =>
    have hready : (c.diagnosed ch).Faultless ch := ⟨h.kind, h.free, hsound⟩
    have hlt : diagCode mv0 mv1 < 2 ^ 8 := by unfold diagCode; split <;> [decide; split <;> decide]
    refine ⟨((c.diagnosed_kept ch).channelFault ch _).modChan ch _, (hready.channelFault hlt hcode).fault, ?_⟩
    rw [Chip.chan_modChan_self]
    exact hready.channelFault_diagAt _ (c.diagnosed_diagAt ch)
  · next hcode =>
    exact ⟨c.diagnosed_kept ch, hsound.trans (not_not.mp hcode).symm, c.diagnosed_diagAt ch⟩

theorem offStateDiagnostic_first (s : State) (ch mv0 mv1 : Nat) (hch : ch < 96) (hdue : s.chip.DiagDue ch) (hsound : s.chip.chFault ch = 0) :
    Completes (.offStateDiagnostic ch mv0 mv1) s fun t =>
      t.chip.chFault ch = (if 2000 < mv0 then 7 else if 2000 < mv1 then 6 else 0) ∧ (t.chip.chan ch).diagAt = s.chip.up := by
  refine Completes.of_followed ((exec_offStateDiagnostic ch mv0 mv1 s).trans (if_pos hch)) fun t ht => ?_
  obtain ⟨hkept, hfault, hdiag⟩ := hdue.first mv0 mv1 hsound
  have hbeside := ht.free hkept hdue.free
  exact ⟨hbeside.chFault.trans hfault, (congrArg Chan.diagAt hbeside.chan).trans hdiag⟩

/-- The third good diagnostic clears what diagnostics find. -/
theorem offStateDiagnostic_third (s : State) (ch mv0 mv1 : Nat) (hch : ch < 96) (hdue : s.chip.DiagDue ch)
    (hfault : s.chip.chFault ch = 6 ∨ s.chip.chFault ch = 7) (hpasses : 2 ≤ (s.chip.chan ch).passes) (h0 : mv0 ≤ 2000) (h1 : mv1 ≤ 2000) :
    Completes (.offStateDiagnostic ch mv0 mv1) s fun t => t.chip.chFault ch = 0 := by
  refine Completes.of_followed ((exec_offStateDiagnostic ch mv0 mv1 s).trans (if_pos hch)) fun t ht => ?_
  have hgood : diagCode mv0 mv1 = 0 := by
    unfold diagCode
    rw [if_neg (Nat.not_lt.mpr h0), if_neg (Nat.not_lt.mpr h1)]
  rw [hdue.diagnostic, if_neg (not_not.mpr hgood), if_pos hfault, if_pos hpasses] at ht
  exact (ht.chFault ch).trans (Chip.clearChFault_chFault _ ch 1)

/-! ## The boost supply -/

/-- The assignment of one field in every channel's status shows in each. -/
theorem Chip.each_shows (c : Chip) (f : Fld) (v : Nat → Nat) (ch : Nat) (hch : ch < 96) :
    (c.each 96 fun d k => d.upd CH_STATUS k [(f, v k)]).getF CH_STATUS ch f = v ch % 2 ^ f.width := by
  refine Chip.eachOf_establishes (fun d => d.getF CH_STATUS ch f = v ch % 2 ^ f.width) (List.mem_range.mpr hch) (fun d k hd => ?_) c
  by_cases hk : k = ch
  · rw [hk, Chip.getF_upd_one]
  · rw [Chip.getF_upd_ne _ _ _ _ _ _ _ (recKey_ne_of_inst _ hk)]
    exact hd.resolve_left hk

theorem Chip.each_upd_act (c : Chip) (n : Nat) (r : RecDesc) (fs : Nat → List (Fld × Nat)) :
    (c.each n fun d k => d.upd r k (fs k)).act = c.act := Chip.each_keeps Chip.act c n _ fun d k => d.upd_act r k (fs k)

theorem vboostMonitor_completes (s : State) (v : Nat) (hlevel : lvLimited ≤ s.chip.level) :
    Completes (.vboostMonitor v) s fun t =>
      t.chip.getF SUPPLY_STATUS 0 SUPPLY_STATUS.VBOOST = v % 2 ^ SUPPLY_STATUS.VBOOST.width ∧
      t.chip.act.lowSince =
        (if v < s.chip.getF CH_GLOBAL 0 CH_GLOBAL.VBOOST_MIN then some (s.chip.act.lowSince.getD s.chip.up) else none) ∧
      ∀ ch, ch < 96 → t.chip.getF CH_STATUS ch CH_STATUS.BOOST_LOW = (if v < s.chip.getF CH_GLOBAL 0 CH_GLOBAL.VBOOST_MIN then 1 else 0) := by
  refine Completes.of_followed (exec_vboostMonitor v s) fun t ht => ?_
  unfold Chip.vboostMonitor at ht
  rw [if_neg (Nat.not_lt.mpr hlevel)] at ht
  dsimp only at ht
  refine ⟨(ht.shown.getF _ _ _ (by decide)).trans ?_, (ht.read Act.lowSince fun _ => rfl).trans ?_, fun ch hch => (ht.status ch _).trans ?_⟩
  · refine (Chip.each_keeps (fun d => d.getF SUPPLY_STATUS 0 SUPPLY_STATUS.VBOOST) _ _ _ fun d k =>
      Chip.getF_upd_ne _ _ _ _ _ _ _ (recKey_ne_of_id (by decide) _ _)).trans ?_
    exact Chip.getF_upd_one s.chip _ _ _ _
  · rw [Chip.each_upd_act _ _ _ fun _ => _]
    simp only [Chip.upd_act, Chip.up, Chip.upd_time]
    by_cases hlow : v < s.chip.getF CH_GLOBAL 0 CH_GLOBAL.VBOOST_MIN
    · rw [if_pos hlow]
      cases s.chip.act.lowSince <;> simp [hlow]
    · simp [hlow]
  · rw [Chip.each_shows _ _ (fun _ => _) ch hch]
    by_cases hlow : v < s.chip.getF CH_GLOBAL 0 CH_GLOBAL.VBOOST_MIN <;> simp [hlow, CH_STATUS.BOOST_LOW]

theorem boostNotReady_completes (s : State) (k : Nat) (hlow : s.chip.act.lowSince = some k) (hlong : s.chip.passedS k 2 = true)
    (hwaits : s.chip.pullWaiting = true) (hlevel : lvLimited ≤ s.chip.level) (hready : s.chip.act.bnr = false) :
    Completes .boostNotReady s fun t => t.chip.act.bnr = true ∧ ∀ ch, ch < 96 → t.chip.getF CH_STATUS ch CH_STATUS.BNR = 1 := by
  refine Completes.of_followed (exec_boostNotReady s) fun t ht => ?_
  unfold Chip.boostNotReady at ht
  rw [hlow] at ht
  dsimp only at ht
  rw [if_neg (by simp [hready, hlong, hwaits, hlevel])] at ht
  refine ⟨(ht.read Act.bnr fun _ => rfl).trans ?_, fun ch hch => (ht.status ch _).trans ?_⟩
  · rw [(Quiet.raise _ _ _ _ _ _).act, Chip.each_upd_act _ _ _ fun _ => _]
  · exact ((Quiet.raise _ _ _ _ _ _).getF _ _ _ (by decide)).trans (Chip.each_shows _ _ (fun _ => 1) ch hch)

/-- A refused request is queued again when the boost supply is back. -/
def Chip.boostBack (c : Chip) (ch : Nat) : Chip :=
  let d := c.upd CH_STATUS ch [(CH_STATUS.BNR, 0)]
  if (d.tgt ch).refused then d.modTgt ch fun t => { t with refused := false, restore := true } else d

theorem Chip.boostBack_shows (c : Chip) (k ch : Nat) (h : k = ch ∨ (c.getF CH_STATUS ch CH_STATUS.BNR = 0 ∧ (c.tgt ch).refused = false)) :
    (c.boostBack k).getF CH_STATUS ch CH_STATUS.BNR = 0 ∧ ((c.boostBack k).tgt ch).refused = false := by
  unfold Chip.boostBack
  dsimp only
  by_cases hk : k = ch
  · subst hk
    have hshown : (c.upd CH_STATUS k [(CH_STATUS.BNR, 0)]).getF CH_STATUS k CH_STATUS.BNR = 0 := (Chip.getF_upd_one ..).trans (Nat.zero_mod _)
    split
    · exact ⟨hshown, by rw [Chip.tgt_modTgt_self]⟩
    · next hrefused => exact ⟨hshown, by simpa using hrefused⟩
  · obtain ⟨hbnr, hrefused⟩ := h.resolve_left hk
    have hshown := (Chip.getF_upd_ne c CH_STATUS CH_STATUS k ch CH_STATUS.BNR [(CH_STATUS.BNR, 0)] (recKey_ne_of_inst _ hk)).trans hbnr
    split
    · refine ⟨hshown, ?_⟩
      rw [Chip.modTgt, Chip.tgt_setTgt, if_neg hk, Chip.tgt_upd, hrefused]
    · exact ⟨hshown, by rw [Chip.tgt_upd, hrefused]⟩

theorem boostReadyClear_completes (s : State) (k : Nat) (hok : s.chip.act.okSince = some k) (hlong : s.chip.passedMs k 100 = true)
    (hbnr : s.chip.act.bnr = true) :
    Completes .boostReadyClear s fun t => t.chip.act.bnr = false ∧ ∀ ch, ch < 96 → t.chip.getF CH_STATUS ch CH_STATUS.BNR = 0 ∧
      (t.chip.tgt ch).refused = false := by
  have hclears : Quiet (Chip.each { s.chip with act.bnr := false } 96 Chip.boostBack) s.chip.boostReadyClear := by
    unfold Chip.boostReadyClear
    rw [hok]
    dsimp only
    rw [if_neg (by simp [hbnr, hlong])]
    exact Quiet.raise _ _ _ _ _ _
  have hready : (Chip.each { s.chip with act.bnr := false } 96 Chip.boostBack).act.bnr = false :=
    Chip.each_keeps (fun e => e.act.bnr) _ _ _ fun e j => by
      have hshown : (e.upd CH_STATUS j [(CH_STATUS.BNR, 0)]).act.bnr = e.act.bnr := congrArg Act.bnr (Chip.upd_act ..)
      unfold Chip.boostBack
      dsimp only
      split <;> exact hshown
  refine Completes.of_followed (exec_boostReadyClear s) fun t ht => ?_
  refine ⟨(ht.read Act.bnr fun _ => rfl).trans ((congrArg Act.bnr hclears.act).trans hready), fun ch hch => ?_⟩
  obtain ⟨hshown, hrefused⟩ := Chip.eachOf_establishes (fun e => e.getF CH_STATUS ch CH_STATUS.BNR = 0 ∧ (e.tgt ch).refused = false)
    (List.mem_range.mpr hch) (fun e j he => e.boostBack_shows j ch he) { s.chip with act.bnr := false }
  exact ⟨(ht.status ch _).trans ((hclears.getF _ _ _ (by decide)).trans hshown),
    (ht.readTgt ch Tgt.refused fun _ => rfl).trans ((congrArg Tgt.refused (Chip.tgt_of_act hclears.act ch)).trans hrefused)⟩

/-! ## Trips -/

/-- A row whose meaning finds a first fault. -/
theorem Completes.of_fault {i : Instr} {s : State} {f : Chip → Chip} {ch code : Nat} (hi : exec i s = s.run f) (hready : s.chip.Faultless ch)
    (hkept : TokensKept s.chip (f s.chip)) (hshown : s.chip.FaultShown (f s.chip) ch code) :
    Completes i s fun t => s.chip.FaultShown t.chip ch code :=
  Completes.of_followed hi fun _ ht => hshown.beside (ht.free hkept hready.free)

theorem Completes.mono {i : Instr} {s : State} {p q : State → Prop} (h : Completes i s p) (hpq : ∀ t, p t → q t) : Completes i s q := by
  obtain ⟨t, hi, hp⟩ := h
  exact ⟨t, hi, hpq t hp⟩

theorem Chip.axisOfChannel_kept {c d : Chip} (h : TokensKept c d) (ch : Nat) : d.axisOfChannel ch = c.axisOfChannel ch := by
  unfold Chip.axisOfChannel Chip.axEn Chip.getB Chip.axPair
  have hcfg : ∀ a f, d.getF AX_CFG a f = c.getF AX_CFG a f := fun a f => h.getF AX_CFG a f (by decide)
  simp only [hcfg]

/-- With the Keeper at work, a trip of a channel that no axis uses is a fault of the channel alone. -/
theorem Chip.tripChannel_eq (c : Chip) (ch code : Nat) (hkeeper : c.holding 0 = false) (haxis : c.axisOfChannel ch = none) :
    c.tripChannel ch code = c.channelFault ch code := by
  unfold Chip.tripChannel
  rw [c.dieTrip_eq ch code hkeeper]
  dsimp only
  rw [Chip.axisOfChannel_kept ((TokensKept.refl c).channelFault ch code) ch, haxis]

/-- Every channel of a die that boosts trips at the sum. -/
theorem Chip.dieSumTrip_kept (c : Chip) (die : Nat) : TokensKept c (c.dieSumTrip die) :=
  (TokensKept.refl c).eachOf _ _ fun d k => .ite _ ((TokensKept.refl d).dieTrip k 4) (.refl d)

theorem Chip.Faultless.dieSumTrip {c : Chip} {ch : Nat} (h : c.Faultless ch) (hkeeper : c.holding 0 = false) (hboost : c.cstate ch = csBoost) :
    c.FaultShown (c.dieSumTrip (ch / 48)) ch 4 := by
  have hother : ∀ d k, k ≠ ch → Beside ch d (if d.cstate k = csBoost then d.dieTrip k 4 else d) := fun d k hk =>
    .ite _ ((Beside.refl ch d).dieTrip hk 4) (.refl ch d)
  have hlist : ((List.range 48).map fun k => 48 * (ch / 48) + k).Nodup := List.nodup_range.map fun a b hab => by omega
  have hmem : ch ∈ (List.range 48).map fun k => 48 * (ch / 48) + k :=
    List.mem_map.mpr ⟨ch % 48, List.mem_range.mpr (Nat.mod_lt _ (by decide)), Nat.div_add_mod ch 48⟩
  refine Chip.eachOf_once (fun d => TokensKept c d ∧ Beside ch c d) (fun d => c.FaultShown d ch 4) hlist hmem (fun d k hk hd => ?_)
    (fun d hd => ?_) (fun d k hk hd => hd.beside (hother d k hk)) ⟨.refl c, .refl ch c⟩
  · obtain ⟨hkept, hbeside⟩ := hd
    exact ⟨.ite _ (hkept.dieTrip k 4) hkept, hbeside.trans (hother d k hk)⟩
  · obtain ⟨hkept, hbeside⟩ := hd
    rw [if_pos (hbeside.cstate.trans hboost), d.dieTrip_eq ch 4 ((hbeside.holding 0).trans hkeeper)]
    obtain ⟨hfault, hstate, hcount⟩ := (h.beside hkept hbeside).channelFault (code := 4) (by decide) (by decide)
    exact ⟨hfault, hstate, by rw [hcount, hbeside.getF]⟩

theorem channel_trips (s : State) (ch : Nat) (hch : ch < 96) (hkind : s.chip.chKind ch = ckValve) (hsound : s.chip.chFault ch = 0)
    (hfree : s.chip.forced ch = false) (haxis : s.chip.axisOfChannel ch = none) (hkeeper : s.chip.holding 0 = false) :
    (s.chip.chDriven ch = true → Completes (.channelShortTrip ch) s fun t => s.chip.FaultShown t.chip ch 1) ∧
    Completes (.channelJunctionTrip ch) s (fun t => s.chip.FaultShown t.chip ch 3) ∧
    (s.chip.cstate ch = csBoost → Completes (.dieSumTrip (ch / 48)) s fun t => s.chip.FaultShown t.chip ch 4) ∧
    (∀ ma, s.chip.noSense = false → s.chip.cstate ch = csHold ∨ s.chip.cstate ch = csEcon → s.chip.vtRun ch VALVE_TYPE.OC_MA < ma →
      Completes (.channelOvercurrent ch ma) s fun t => s.chip.FaultShown t.chip ch 2) ∧
    (∀ ma, s.chip.noSense = false → s.chip.cstate ch = csHold ∨ s.chip.cstate ch = csEcon → ma < s.chip.vtRun ch VALVE_TYPE.OPEN_MA →
      Completes (.channelOpenLoad ch ma) s fun t => s.chip.FaultShown t.chip ch 6) ∧
    (s.chip.chDriven ch = true → s.chip.passedMs (s.chip.chan ch).senseAt 200 = true →
      Completes (.channelSenseLost ch) s fun t => s.chip.FaultShown t.chip ch 5) := by
  have hready : s.chip.Faultless ch := ⟨hkind, hfree, hsound⟩
  have hfinds : ∀ {i : Instr} {f : Chip → Chip} {code : Nat}, exec i s = s.run f → code < 2 ^ 8 → code ≠ 0 →
      f s.chip = s.chip.channelFault ch code → Completes i s fun t => s.chip.FaultShown t.chip ch code := fun hi hlt hsome heq =>
    Completes.of_fault hi hready (heq ▸ (TokensKept.refl s.chip).channelFault ch _) (heq ▸ hready.channelFault hlt hsome)
  refine ⟨fun hdriven => ?_, ?_, fun hboost => ?_, fun ma hsense hstate hma => ?_, fun ma hsense hstate hma => ?_, fun hdriven hold => ?_⟩
  · have hopen : s.chip.notOpen ch = true := by
      unfold Chip.notOpen
      rw [if_neg (by rw [hkind]; decide), hdriven]
    exact hfinds ((exec_channelShortTrip ch s).trans (if_pos hch)) (by decide) (by decide)
      ((if_pos hopen).trans (s.chip.tripChannel_eq ch 1 hkeeper haxis))
  · exact hfinds ((exec_channelJunctionTrip ch s).trans (if_pos hch)) (by decide) (by decide)
      ((if_neg (by rw [hkind]; decide)).trans (s.chip.tripChannel_eq ch 3 hkeeper haxis))
  · exact Completes.of_fault ((exec_dieSumTrip (ch / 48) s).trans (if_pos (by omega))) hready (s.chip.dieSumTrip_kept _)
      (hready.dieSumTrip hkeeper hboost)
  · refine hfinds ((exec_channelOvercurrent ch ma s).trans (if_pos hch)) (by decide) (by decide) ?_
    unfold Chip.channelOvercurrent
    rw [if_neg (by simp [hsense]), haxis]
    exact if_pos ⟨hstate, hma⟩
  · exact hfinds ((exec_channelOpenLoad ch ma s).trans (if_pos hch)) (by decide) (by decide) (if_pos ⟨hstate, hma, by simp [hsense]⟩)
  · exact hfinds ((exec_channelSenseLost ch s).trans (if_pos hch)) (by decide) (by decide) (if_pos ⟨hkind, hdriven, hold⟩)

theorem pkgOcClear_completes (s : State) (ch : Nat) (hch : ch < 96) (hfault : s.chip.chFault ch = 4)
    (hlong : s.chip.passedS (s.chip.chan ch).faultAt 1 = true) : Completes (.pkgOcClear ch) s fun t => t.chip.chFault ch = 0 := by
  refine Completes.of_followed ((exec_pkgOcClear ch s).trans (if_pos hch)) fun t ht => ?_
  rw [Chip.pkgOcClear, if_pos ⟨hfault, hlong⟩] at ht
  exact (ht.chFault ch).trans (Chip.clearChFault_chFault _ ch 1)

/-- Settles O38: clause by clause, through what each row leaves of its channel and what replies and settling leave of it (`Followed`). -/
theorem channelsRun : Obligations.ChannelsRun := by
  refine ⟨boostEnd_completes, closureWatchSample_early, closureWatchSample_kink, closureWatchSample_noMove, coilModelUpdate_completes, ?_, ?_,
    vboostMonitor_completes, boostNotReady_completes, boostReadyClear_completes, ?_, pkgOcClear_completes⟩
  · intro s ch mv0 mv1 hch hlevel hkind hstate hfree harray hen hasked hdue hsound
    exact offStateDiagnostic_first s ch mv0 mv1 hch ⟨hlevel, hkind, .inl hstate, hfree, harray, hen, hasked, hdue⟩ hsound
  · intro s ch mv0 mv1 hch hlevel hkind hstate hfree harray hen hasked hdue
    exact offStateDiagnostic_third s ch mv0 mv1 hch ⟨hlevel, hkind, .inr hstate, hfree, harray, hen, hasked, hdue⟩
  · intro s ch hch hkind hsound hfree haxis hkeeper
    obtain ⟨hshort, hjunction, hsum, hover, hopen, hlost⟩ := channel_trips s ch hch hkind hsound hfree haxis hkeeper
    exact ⟨fun hd => (hshort hd).mono fun _ h => ⟨h.fault, h.state, h.count⟩, hjunction.mono fun _ h => ⟨h.fault, h.state⟩,
      fun hb => (hsum hb).mono fun _ h => ⟨h.fault, h.state⟩, fun ma hs hst hma => (hover ma hs hst hma).mono fun _ h => ⟨h.fault, h.state⟩,
      fun ma hs hst hma => (hopen ma hs hst hma).mono fun _ h => ⟨h.fault, h.state⟩,
      fun hd ho => (hlost hd ho).mono fun _ h => ⟨h.fault, h.state⟩⟩

end Sys2Proof.Machine
end

section
/-!
PROOF. The channel commands (R291) and the write of a channel's configuration (R270, R272).
-/

namespace Sys2Proof.Machine

/-! ## The manual mode -/

/-- A manual mode is shown and its end is set. -/
def Chip.manualSet (c : Chip) (ch mode timeout : Nat) : Chip :=
  let d := c.upd CH_STATUS ch [(CH_STATUS.MANUAL_MODE, mode), (CH_STATUS.MANUAL, if mode = 0 then 0 else 1)]
  d.modChan ch fun x => { x with until_ := if timeout = 0 then none else some (d.up + timeout * ticksPerSecond) }

theorem Chip.setManual_quiet (c : Chip) (ch mode timeout cause : Nat) : Quiet (c.manualSet ch mode timeout) (c.setManual ch mode timeout cause) := by
  unfold Chip.setManual
  dsimp only
  split
  · exact Quiet.refl _
  · exact Quiet.raise _ _ _ _ _ _

theorem Chip.setManual_mode (c : Chip) (ch mode timeout cause : Nat) (hmode : mode < 2 ^ 8) :
    (c.setManual ch mode timeout cause).getF CH_STATUS ch CH_STATUS.MANUAL_MODE = mode := by
  rw [(c.setManual_quiet ch mode timeout cause).getF _ _ _ (by decide), Chip.manualSet, Chip.getF_modChan]
  exact (Chip.getF_upd_append _ _ _ _ _ [] _ (apart_of_one (by decide))).trans (Nat.mod_eq_of_lt hmode)

theorem Chip.setManual_until (c : Chip) (ch mode cause : Nat) : ((c.setManual ch mode 0 cause).chan ch).until_ = none := by
  rw [Chip.chan_of_act (c.setManual_quiet ch mode 0 cause).act, Chip.manualSet, Chip.chan_modChan_self]
  rfl

theorem Chip.manualEnd_mode (c : Chip) (ch cause : Nat) : (c.manualEnd ch cause).getF CH_STATUS ch CH_STATUS.MANUAL_MODE = 0 := by
  unfold Chip.manualEnd
  split
  · next h => exact h
  · rw [Chip.requeue, Chip.getF_modTgt, Chip.setManual_mode _ _ _ _ _ (by decide)]

theorem channelManualTimeout_completes (s : State) (ch k : Nat) (hch : ch < 96) (huntil : (s.chip.chan ch).until_ = some k)
    (hover : k ≤ s.chip.up) (hmode : s.chip.getF CH_STATUS ch CH_STATUS.MANUAL_MODE ≠ 0) :
    Completes (.channelManualTimeout ch) s fun t =>
      t.chip.getF CH_STATUS ch CH_STATUS.MANUAL_MODE = 0 ∧ (t.chip.tgt ch).restore = true ∧ (t.chip.chan ch).until_ = none := by
  refine Completes.of_followed ((exec_channelManualTimeout ch s).trans (if_pos hch)) fun t ht => ?_
  have hends : s.chip.channelManualTimeout ch = s.chip.manualEnd ch 1 := by
    unfold Chip.channelManualTimeout
    rw [huntil]
    exact if_pos hover
  rw [hends] at ht
  refine ⟨(ht.status ch _).trans (s.chip.manualEnd_mode ch 1), (ht.readTgt ch Tgt.restore fun _ => rfl).trans ?_,
    (ht.resting.read ch Chan.until_ fun _ => rfl).trans ?_⟩
  · rw [Chip.manualEnd, if_neg hmode, Chip.requeue, Chip.tgt_modTgt_self]
  · rw [Chip.manualEnd, if_neg hmode, Chip.requeue, Chip.chan_modTgt, Chip.setManual_until]

theorem Chip.waitReply_waits (c : Chip) (x : Ctx) (key op : Nat) :
    (c.waitReply x key op).host.waits = c.host.waits ++ [⟨key, op, x.ep, x.si, x.h⟩] :=
  (HostKept.showSlots { c with host.waits := c.host.waits ++ [⟨key, op, x.ep, x.si, x.h⟩] } x.ep).waits

/-- What `CHANNEL_MANUAL` does once it is admitted. -/
def Chip.manualAct (c : Chip) (x : Ctx) (h : Hdr) (ch mode wait timeout : Nat) : Res :=
  if mode = 0 then { chip := c.manualEnd ch 0 }
  else if mode = 2 then { chip := (c.setManual ch 2 timeout 0).modTgt ch (fun t => { t with wait := none }) }
  else if wait = 1 then
    { chip := ((c.takeSeq.setManual ch 1 timeout 0).modTgt ch (fun t => { t with
        wait := some { order := 2, cls := h.cls, seq := c.act.seq, since := c.act.frame },
        refused := false })).modChan ch (fun y => { y with mseq := c.act.seq, mcls := h.cls }) }
  else
    { chip := Chip.waitReply { c.takeSeq with
        act.man0 := c.takeSeq.act.man0 ++ [{ ch := ch, cls := h.cls, seq := c.act.seq, timeout := timeout }] } x (manualWait c.act.seq) 0x0600,
      held := true }

theorem Chip.channelManual_eq (c : Chip) (h : Hdr) (ch mode wait timeout : Nat) :
    c.channelManual h ch mode wait timeout =
      c.command h (chSpec 0x0600 [1, 2] 8) (fun x c => checks c [
        (decide (95 < ch), stBadParam),
        (mode == 1 && c.forcedLines.testBit ch && !c.tripped.isEmpty, stSafetyLock),
        (decide (2 < mode) || decide (1 < wait) || h.prsv != 0, stBadParam),
        (c.chKind ch != ckValve || c.forced ch || c.cstate ch == csForced, stBadState),
        (mode == 1 && c.chFault ch != 0, stHwFault)] (fun _ => c.manualAct x h ch mode wait timeout)) := rfl

theorem Chip.manualAct_post (c : Chip) (x : Ctx) (h : Hdr) (ch mode wait timeout : Nat) : (c.manualAct x h ch mode wait timeout).post = id := by
  unfold Chip.manualAct
  repeat' split
  all_goals rfl

/-- A request that waits is shown and queued in the order of the manual requests. -/
theorem Chip.manualAct_queued (c : Chip) (x : Ctx) (h : Hdr) (ch timeout : Nat) :
    (c.manualAct x h ch 1 1 timeout).chip.getF CH_STATUS ch CH_STATUS.MANUAL_MODE = 1 ∧
      ((c.manualAct x h ch 1 1 timeout).chip.tgt ch).wait = some { order := 2, cls := h.cls, seq := c.act.seq, since := c.act.frame } := by
  unfold Chip.manualAct
  rw [if_neg (by decide), if_neg (by decide), if_pos rfl]
  exact ⟨c.takeSeq.setManual_mode ch 1 timeout 0 (by decide), by rw [Chip.tgt_modChan, Chip.tgt_modTgt_self]⟩

/-- A request that does not wait joins those to be judged, and its reply is held. -/
theorem Chip.manualAct_held (c : Chip) (x : Ctx) (h : Hdr) (ch timeout : Nat) :
    (c.manualAct x h ch 1 0 timeout).chip.act.man0 = c.act.man0 ++ [{ ch := ch, cls := h.cls, seq := c.act.seq, timeout := timeout }] ∧
      (c.manualAct x h ch 1 0 timeout).chip.host.waits = c.host.waits ++ [⟨manualWait c.act.seq, 0x0600, x.ep, x.si, x.h⟩] := by
  unfold Chip.manualAct
  rw [if_neg (by decide), if_neg (by decide), if_neg (by decide)]
  exact ⟨congrArg Act.man0 (Quiet.waitReply ..).act, Chip.waitReply_waits ..⟩

theorem channelManual_completes (s : State) (h : Hdr) (x : Ctx) (ch mode wait timeout : Nat) (hs : Served s h (chSpec 0x0600 [1, 2] 8) x)
    (hch : ch < 96) (hmode : mode ≤ 2) (hwait : wait ≤ 1) (hprsv : h.prsv = 0) (hkind : s.chip.chKind ch = ckValve)
    (hfree : s.chip.forced ch = false) (hstate : s.chip.cstate ch ≠ csForced) (hsound : s.chip.chFault ch = 0) :
    Completes (.channelManual h ch mode wait timeout) s fun t =>
      (mode = 0 → t.chip.getF CH_STATUS ch CH_STATUS.MANUAL_MODE = 0) ∧
      (mode = 2 → t.chip.getF CH_STATUS ch CH_STATUS.MANUAL_MODE = 2 ∧ (t.chip.tgt ch).wait = none) ∧
      (mode = 1 → wait = 1 → t.chip.getF CH_STATUS ch CH_STATUS.MANUAL_MODE = 1 ∧
        (t.chip.tgt ch).wait = some { order := 2, cls := h.cls, seq := s.chip.act.seq, since := s.chip.act.frame }) ∧
      (mode = 1 → wait = 0 → t.chip.act.man0 = s.chip.act.man0 ++ [{ ch := ch, cls := h.cls, seq := s.chip.act.seq, timeout := timeout }] ∧
        t.chip.host.waits = s.chip.host.waits ++ [⟨manualWait s.chip.act.seq, 0x0600, x.ep, x.si, h⟩]) := by
  refine hs.followed ((exec_channelManual h ch mode wait timeout s).trans (congrArg s.run (funext fun c => c.channelManual_eq ..)))
    fun d hd hx => ?_
  have hkept := (TokensKept.refl s.chip).quiet hd.quiet
  have hbeside := (Beside.refl ch s.chip).quiet hd.quiet
  have hdfree := (hkept.forced_eq ch).trans hfree
  have hline : d.forcedLines.testBit ch = false := Chip.line_of_free hdfree
  rw [checks_pass _ _ _ (by
    simp [show ch ≤ 95 by omega, hmode, hwait, hprsv, hline, hdfree, (hkept.chKind ch).trans hkind, hbeside.cstate, hstate,
      hbeside.chFault, hsound])]
  refine ⟨d.manualAct_post x h ch mode wait timeout, fun t ht => ⟨?_, ?_, ?_, ?_⟩⟩
  · rintro rfl
    exact (ht.status ch _).trans (d.manualEnd_mode ch 0)
  · rintro rfl
    exact ⟨(ht.status ch _).trans (d.setManual_mode ch 2 timeout 0 (by decide)),
      (ht.readTgt ch Tgt.wait fun _ => rfl).trans (congrArg Tgt.wait (Chip.tgt_modTgt_self ..))⟩
  · rintro rfl rfl
    obtain ⟨hshown, hqueued⟩ := d.manualAct_queued x h ch timeout
    rw [← hd.quiet.act]
    exact ⟨(ht.status ch _).trans hshown, (ht.readTgt ch Tgt.wait fun _ => rfl).trans hqueued⟩
  · rintro rfl rfl
    obtain ⟨hman, hwaits⟩ := d.manualAct_held x h ch timeout
    rw [hx] at hwaits
    rw [← hd.quiet.act, ← hd.host.waits]
    exact ⟨(ht.read Act.man0 fun _ => rfl).trans hman, ht.shown.waits.trans hwaits⟩

/-! ## A channel's reset -/

/-- Fault, counters and request of a channel are forgotten. -/
def Chip.resetCleared (c : Chip) (ch : Nat) : Chip :=
  (c.upd CH_STATUS ch ([(CH_STATUS.FAULT, 0), (CH_STATUS.NOMOVE_RUN, 0)] ++ chCounters)).modTgt ch fun t => { t with wait := none }

/-- The diagnostic of a reset is asked for. -/
def Chip.resetAsked (c : Chip) (ch : Nat) : Chip :=
  (c.resetCleared ch).modChan ch fun y => { y with resetting := some (c.chFault ch), passes := 0 }

/-- What `CHANNEL_RESET` does once it is admitted. -/
def Chip.resetAct (c : Chip) (x : Ctx) (ch : Nat) : Res :=
  if (c.resetCleared ch).chKind ch = ckValve ∧ ¬ (c.resetCleared ch).forced ch then
    { chip := ((c.resetAsked ch).rest ch).waitReply x (chResetWait ch) 0x0601, held := true }
  else
    { chip := if c.chFault ch = 0 then c.resetCleared ch
        else (c.resetCleared ch).raise 0x0601 0 ch (u8 (c.chFault ch) ++ u8 0 ++ rsvBytes 2) evDrive,
      data := rsvBytes 4 }

theorem Chip.channelReset_eq (c : Chip) (h : Hdr) (ch : Nat) :
    c.channelReset h ch = c.command h (chSpec 0x0601 [2] 4) (fun x c => checks c [
      (decide (95 < ch), stBadParam), (h.prsv != 0, stBadParam), (c.chKind ch == ckUnused, stBadState)] (fun _ => c.resetAct x ch)) := rfl

theorem Chip.resetCleared_kept (c : Chip) (ch : Nat) : TokensKept c (c.resetCleared ch) :=
  ((TokensKept.refl c).updChannel ch _ (by decide)).modTgt ch _

theorem Chip.resetAsked_kept (c : Chip) (ch : Nat) : TokensKept c (c.resetAsked ch) := (c.resetCleared_kept ch).modChan ch _

theorem Chip.resetAct_valve (c : Chip) (x : Ctx) (ch : Nat) (hkind : c.chKind ch = ckValve) (hfree : c.forced ch = false) :
    c.resetAct x ch = { chip := ((c.resetAsked ch).rest ch).waitReply x (chResetWait ch) 0x0601, held := true } :=
  if_pos ⟨((c.resetCleared_kept ch).chKind ch).trans hkind, by simp [((c.resetCleared_kept ch).forced_eq ch).trans hfree]⟩

/-- A channel whose diagnostic a reset asks for shows no fault and no count. -/
theorem Chip.resetAsked_status (c : Chip) (ch : Nat) :
    (c.resetAsked ch).chFault ch = 0 ∧ (c.resetAsked ch).getF CH_STATUS ch CH_STATUS.FAULT_CNT = 0 ∧
      (c.resetAsked ch).getF CH_STATUS ch CH_STATUS.NOMOVE_RUN = 0 := by
  unfold Chip.resetAsked Chip.resetCleared Chip.chFault
  simp only [Chip.getF_modChan, Chip.getF_modTgt]
  refine ⟨?_, ?_, ?_⟩
  · exact Chip.getF_upd_append _ _ _ _ _ [] ((CH_STATUS.NOMOVE_RUN, 0) :: chCounters) (by decide)
  · exact Chip.getF_upd_append _ _ _ _ _ [(CH_STATUS.FAULT, 0), (CH_STATUS.NOMOVE_RUN, 0), (CH_STATUS.MOVE_CNT, 0), (CH_STATUS.NOMOVE_CNT, 0)]
      [(CH_STATUS.SAT, 0)] (by decide)
  · exact Chip.getF_upd_append _ _ _ _ _ [(CH_STATUS.FAULT, 0)] chCounters (by decide)

theorem Chip.resetAsked_resetting (c : Chip) (ch : Nat) : ((c.resetAsked ch).chan ch).resetting = some (c.chFault ch) := by
  rw [Chip.resetAsked, Chip.chan_modChan_self]

theorem Chip.resetAsked_wait (c : Chip) (ch : Nat) : ((c.resetAsked ch).tgt ch).wait = none := by
  rw [Chip.resetAsked, Chip.tgt_modChan, Chip.resetCleared, Chip.tgt_modTgt_self]

theorem Chip.resetAsked_host (c : Chip) (ch : Nat) : (c.resetAsked ch).host = c.host := by
  unfold Chip.resetAsked Chip.resetCleared
  rw [Chip.modChan_host, Chip.modTgt_host, Chip.upd_host]

theorem Chip.rest_waits (c : Chip) (ch : Nat) : (c.rest ch).host.waits = c.host.waits := by
  have h := congrArg HostSide.waits (Lines.rest c ch).host
  exact h

/-- A valve without a fault does not drive when it has come to rest. -/
theorem Chip.rest_notDriven {c : Chip} {ch : Nat} (hkind : c.chKind ch = ckValve) (hfree : c.forced ch = false) (hsound : c.chFault ch = 0) :
    (c.rest ch).chDriven ch = false := by
  rw [Chip.chDriven, Chip.rest_cstate, Chip.restState_sound hkind hfree hsound]
  split <;> decide

theorem channelReset_completes (s : State) (h : Hdr) (x : Ctx) (ch : Nat) (hs : Served s h (chSpec 0x0601 [2] 4) x) (hch : ch < 96)
    (hprsv : h.prsv = 0) (hkind : s.chip.chKind ch = ckValve) (hfree : s.chip.forced ch = false) :
    Completes (.channelReset h ch) s fun t =>
      t.chip.chFault ch = 0 ∧ t.chip.getF CH_STATUS ch CH_STATUS.FAULT_CNT = 0 ∧ t.chip.getF CH_STATUS ch CH_STATUS.NOMOVE_RUN = 0 ∧
      t.chip.chDriven ch = false ∧ (t.chip.chan ch).resetting = some (s.chip.chFault ch) ∧ (t.chip.tgt ch).wait = none ∧
      t.chip.host.waits = s.chip.host.waits ++ [⟨chResetWait ch, 0x0601, x.ep, x.si, h⟩] := by
  refine hs.followed ((exec_channelReset h ch s).trans (congrArg s.run (funext fun c => c.channelReset_eq ..))) fun d hd hx => ?_
  have hkept := (TokensKept.refl s.chip).quiet hd.quiet
  have hdkind := (hkept.chKind ch).trans hkind
  have hdfree := (hkept.forced_eq ch).trans hfree
  rw [checks_pass _ _ _ (by simp [show ch ≤ 95 by omega, hprsv, hdkind]), d.resetAct_valve x ch hdkind hdfree]
  refine ⟨rfl, fun t ht => ?_⟩
  have hasked := d.resetAsked_kept ch
  obtain ⟨hfault, hcount, hrun⟩ := d.resetAsked_status ch
  have hreply := Quiet.waitReply ((d.resetAsked ch).rest ch) x (chResetWait ch) 0x0601
  have hrests := (((Resting.refl (d.resetAsked ch)).rest ch).quiet hreply).trans ht.resting
  have hbeside := ((Beside.refl ch ((d.resetAsked ch).rest ch)).quiet hreply).trans (ht.free ((hasked.rest ch).quiet hreply) hdfree)
  refine ⟨(hrests.status ch _ (by decide)).trans hfault, (hrests.status ch _ (by decide)).trans hcount,
    (hrests.status ch _ (by decide)).trans hrun, hbeside.chDriven.trans ?_, (hrests.read ch Chan.resetting fun _ => rfl).trans ?_,
    (ht.readTgt ch Tgt.wait fun _ => rfl).trans ?_, ht.shown.waits.trans ?_⟩
  · exact Chip.rest_notDriven ((hasked.chKind ch).trans hdkind) ((hasked.forced_eq ch).trans hdfree) hfault
  · rw [Chip.resetAsked_resetting, ((Beside.refl ch s.chip).quiet hd.quiet).chFault]
  · rw [Chip.tgt_of_act hreply.act]
    exact (congrArg Tgt.wait (Chip.rest_steady _ ch ch)).trans (d.resetAsked_wait ch)
  · rw [Chip.waitReply_waits, Chip.rest_waits, Chip.resetAsked_host, hx, hd.host.waits]

/-! ## Forces -/

/-- A mask of channels passes its check. -/
theorem badMask_false {mask prsv : Nat} (hlow : 1 ≤ mask) (hhigh : mask < 2 ^ 96) (hprsv : prsv = 0) :
    ∀ q ∈ [(badMask mask || prsv != 0, stBadParam)], q.1 = false := by
  have hzero : mask ≠ 0 := by omega
  simpa [badMask, hzero, hprsv] using hhigh

theorem Chip.showForce_act (c : Chip) : c.showForce.act = c.act :=
  (Quiet.raise _ _ _ _ _ _).act.trans (Chip.each_upd_act c 96 CH_STATUS fun ch => [(CH_STATUS.FORCED, if c.act.forceMask.testBit ch then 1 else 0)])

theorem Chip.showForce_forced (c : Chip) (ch : Nat) (hch : ch < 96) :
    c.showForce.getF CH_STATUS ch CH_STATUS.FORCED = if c.act.forceMask.testBit ch then 1 else 0 := by
  refine ((Quiet.raise _ _ _ _ _ _).getF _ _ _ (by decide)).trans
    ((c.each_shows CH_STATUS.FORCED (fun k => if c.act.forceMask.testBit k then 1 else 0) ch hch).trans ?_)
  split <;> rfl

theorem channelForceOff_completes (s : State) (h : Hdr) (x : Ctx) (mask : Nat) (hs : Served s h (chSpec 0x0610 [0, 1] 16) x) (hlow : 1 ≤ mask)
    (hhigh : mask < 2 ^ 96) (hprsv : h.prsv = 0) :
    Completes (.channelForceOff h mask) s fun t =>
      t.chip.act.forceMask = s.chip.act.forceMask ||| mask ∧ t.chip.act.release = maskOff s.chip.act.release mask ∧
      ∀ ch, ch < 96 → t.chip.getF CH_STATUS ch CH_STATUS.FORCED = (if (s.chip.act.forceMask ||| mask).testBit ch then 1 else 0) := by
  refine hs.followed (exec_channelForceOff h mask s) fun d hd _ => ?_
  rw [checks_pass _ _ _ (badMask_false hlow hhigh hprsv), ← hd.quiet.act]
  refine ⟨rfl, fun t ht => ⟨?_, ?_, fun ch hch => (ht.status ch _).trans (Chip.showForce_forced _ ch hch)⟩⟩
  · exact (ht.read Act.forceMask fun _ => rfl).trans (congrArg Act.forceMask (Chip.showForce_act _))
  · exact (ht.read Act.release fun _ => rfl).trans (congrArg Act.release (Chip.showForce_act _))

theorem channelForceRelease_completes (s : State) (h : Hdr) (x : Ctx) (mask : Nat) (hs : Served s h (chSpec 0x0611 [1, 2] 16) x)
    (hlow : 1 ≤ mask) (hhigh : mask < 2 ^ 96) (hprsv : h.prsv = 0) :
    Completes (.channelForceRelease h mask) s fun t =>
      t.chip.act.release = s.chip.act.release ||| mask ∧ t.chip.act.forceMask = s.chip.act.forceMask := by
  refine hs.followed (exec_channelForceRelease h mask s) fun d hd _ => ?_
  rw [checks_pass _ _ _ (badMask_false hlow hhigh hprsv), ← hd.quiet.act]
  exact ⟨rfl, fun t ht => ⟨ht.read Act.release fun _ => rfl, ht.read Act.forceMask fun _ => rfl⟩⟩

/-! ## The write of a channel's configuration -/

/-- A channel of the new kind is taken over: one that was no valve forgets its fault. -/
def Chip.kindTaken (c : Chip) (ch old : Nat) : Chip :=
  if CH_CFG.KIND.get old = c.chKind ch then c
  else if c.chKind ch = ckValve then c.rest ch
  else ((c.upd CH_STATUS ch [(CH_STATUS.FAULT, 0)]).modChan ch fun y => { y with hot := false, passes := 0 }).rest ch

theorem Chip.kindTaken_kept (c : Chip) (ch old : Nat) : TokensKept c (c.kindTaken ch old) := by
  have hforgot : TokensKept c ((c.upd CH_STATUS ch [(CH_STATUS.FAULT, 0)]).modChan ch fun y => { y with hot := false, passes := 0 }) :=
    ((TokensKept.refl c).updChannel ch _ (apart_of_one (by decide))).modChan ch _
  exact .ite _ (.refl c) (.ite _ ((TokensKept.refl c).rest ch) (hforgot.rest ch))

/-- A channel that is no longer used is UNUSED, without a fault. -/
theorem Chip.kindTaken_unused (c : Chip) (ch old : Nat) (hold : CH_CFG.KIND.get old = ckValve) (hkind : c.chKind ch = ckUnused) :
    (c.kindTaken ch old).cstate ch = csUnused ∧ (c.kindTaken ch old).chFault ch = 0 := by
  have hforgot := ((TokensKept.refl c).updChannel ch [(CH_STATUS.FAULT, 0)] (apart_of_one (by decide))).modChan ch
    fun y => { y with hot := false, passes := 0 }
  unfold Chip.kindTaken
  rw [hold, hkind, if_neg (by decide), if_neg (by decide)]
  refine ⟨(Chip.rest_cstate _ ch).trans ?_, (((Resting.refl _).rest ch).status ch _ (by decide)).trans ?_⟩
  · unfold Chip.restState Chip.unforcedState
    rw [(hforgot.chKind ch).trans hkind, if_neg fun h => absurd h.1 (by decide), if_pos rfl]
  · rw [Chip.getF_modChan, Chip.getF_upd_one, Nat.zero_mod]

/-- A channel that becomes a sound valve's, with nothing against it, is OFF. -/
theorem Chip.kindTaken_valve (c : Chip) (ch old : Nat) (hold : CH_CFG.KIND.get old = ckUnused) (hkind : c.chKind ch = ckValve)
    (hfree : c.forced ch = false) (hsound : c.chFault ch = 0) (hcool : (c.chan ch).hot = false) : (c.kindTaken ch old).cstate ch = csOff := by
  unfold Chip.kindTaken
  rw [hold, hkind, if_neg (by decide), if_pos rfl, Chip.rest_cstate, Chip.restState_sound hkind hfree hsound, if_neg (by simp [hcool])]

theorem Chip.chCfgWrite_eq (c : Chip) (x : Ctx) (ch ver img : Nat) :
    c.chCfgWrite x ch ver img = c.setRecord x.h CH_CFG ch ver img { estateMay x with
      bad := decide (1 < CH_CFG.KIND.get img)
      state := if c.chCfgHeld ch img then stBadState else 0 } (fun c old => c.kindTaken ch old) := rfl

theorem Quiet.chCfgHeld {c d : Chip} (hq : Quiet c d) (ch img : Nat) : d.chCfgHeld ch img = c.chCfgHeld ch img := by
  unfold Chip.chCfgHeld Chip.chDriven Chip.cstate Chip.chKind Chip.getB
  simp only [hq.getF CH_CFG _ _ (by decide), hq.getF ACT_MAP _ _ (by decide), hq.getF CH_STATUS _ _ (by decide)]

/-- A write of a channel's configuration leaves the channel itself. -/
theorem Beside.written (c : Chip) (ch img : Nat) : Beside ch c (c.written CH_CFG ch img) where
  chan := Chip.chan_of_act (c.written_act CH_CFG ch img) ch
  status := Chip.written_img_ne _ _ _ _ _ _ (recKey_ne_of_id (by decide) _ _)
  time := by
    unfold Chip.written Chip.recStored Chip.dirty
    dsimp only
    repeat' split
    all_goals rfl
  hold := by
    have h := congrArg Boot.hold (Chip.recStored_boot (c.putImg CH_CFG ch (CH_CFG.merge (c.img CH_CFG ch) img)) CH_CFG ch)
    exact h

/-- A write of a channel's configuration leaves the forces. -/
theorem Chip.written_forced (c : Chip) (ch img : Nat) : (c.written CH_CFG ch img).forced ch = c.forced ch := by
  have hboot := Chip.recStored_boot (c.putImg CH_CFG ch (CH_CFG.merge (c.img CH_CFG ch) img)) CH_CFG ch
  have hok := congrArg Boot.fbkOk hboot
  have hready := congrArg Boot.fbReady hboot
  have hother : ∀ r : RecDesc, r.id % 0x10000 ≠ CH_CFG.id % 0x10000 → ∀ i, (c.written CH_CFG ch img).img r i = c.img r i := fun r hr i =>
    Chip.written_img_ne _ _ _ _ _ _ (recKey_ne_of_id hr.symm _ _)
  have hlines : (c.written CH_CFG ch img).forcedLines = c.forcedLines :=
    Chip.forcedLines_congr hok hready (hother _ (by decide) _) (fun _ => hother _ (by decide) _) fun f _ => by
      unfold Chip.funcState Chip.getF
      rw [hother _ (by decide)]
  unfold Chip.forced Chip.stopped
  rw [hlines, c.written_act]

theorem chCfgWrite_completes (s : State) (h : Hdr) (x : Ctx) (ch ver img : Nat) (hs : Served s h setRecordSpec x)
    (hmay : x.who.estateOnly = true) (hf : WriteFits s.chip h CH_CFG ch ver img) (hbad : CH_CFG.KIND.get img ≤ 1)
    (hheld : s.chip.chCfgHeld ch img = false) :
    Completes (.chCfgWrite h ch ver img) s fun t => Wrote s t CH_CFG ch img ∧
      (s.chip.chKind ch = ckValve → CH_CFG.KIND.get img = ckUnused → t.chip.cstate ch = csUnused ∧ t.chip.chFault ch = 0) ∧
      (s.chip.chKind ch = ckUnused → CH_CFG.KIND.get img = ckValve → s.chip.forced ch = false → s.chip.chFault ch = 0 →
        (s.chip.chan ch).hot = false → t.chip.cstate ch = csOff) := by
  refine hs.followed (exec_chCfgWrite h ch ver img s) fun d hd hx => ?_
  rw [Chip.chCfgWrite_eq]
  obtain ⟨hchip, hpost⟩ := Chip.setRecord_fits (hx ▸ hf.of_quiet hd.quiet (by decide))
    (k := { estateMay x with bad := decide (1 < CH_CFG.KIND.get img), state := if d.chCfgHeld ch img then stBadState else 0 })
    ⟨rfl, hmay, rfl, by simp [hbad], by simp [hd.quiet.chCfgHeld, hheld]⟩ (fun c old => c.kindTaken ch old) id
  refine ⟨hpost, fun t ht => ?_⟩
  rw [hchip] at ht
  have hkept := (d.written CH_CFG ch img).kindTaken_kept ch (d.img CH_CFG ch)
  have hold : CH_CFG.KIND.get (d.img CH_CFG ch) = s.chip.chKind ch := hd.quiet.getF _ _ _ (by decide)
  have hkind : (d.written CH_CFG ch img).chKind ch = CH_CFG.KIND.get img := by
    rw [Chip.chKind, Chip.getF, Chip.written_img_self]
    exact RecDesc.get_merge _ _ _ _ fun n _ hn => by
      have hlt : n < 2 := hn
      interval_cases n <;> decide
  have hbeside := ((Beside.refl ch s.chip).quiet hd.quiet).trans (.written d ch img)
  refine ⟨?_, fun hvalve hunused => ?_, fun hunused hvalve hfree hsound hcool => ?_⟩
  · exact (ht.shown.img _ _ (by decide)).trans ((hkept.img _ _ (by decide)).trans (Chip.written_img_quiet hd.quiet (by decide) ch img))
  · obtain ⟨hstate, hfault⟩ := Chip.kindTaken_unused _ ch _ (hold.trans hvalve) (hkind.trans hunused)
    have hclear : ((d.written CH_CFG ch img).kindTaken ch (d.img CH_CFG ch)).ClearOfLines ch :=
      .inr (by rw [hkept.chKind, hkind, hunused]; decide)
    exact ⟨(ht.beside ch hclear).cstate.trans hstate, (ht.chFault ch).trans hfault⟩
  · have hnow : (d.written CH_CFG ch img).forced ch = false :=
      (d.written_forced ch img).trans ((((TokensKept.refl s.chip).quiet hd.quiet).forced_eq ch).trans hfree)
    refine (ht.free hkept hnow).cstate.trans (Chip.kindTaken_valve _ ch _ (hold.trans hunused) (hkind.trans hvalve) hnow ?_ ?_)
    · rw [hbeside.chFault, hsound]
    · rw [hbeside.chan, hcool]

/-- Settles O39: each command by what its act leaves, through the reply and the settling (`Followed`). That a force is shown when its command is
admitted, and its outputs follow later, is the model's choice (log entry 32), and so is that a channel put out of use forgets its fault (log
entry 40). -/
theorem channelCommandsAct : Obligations.ChannelCommandsAct :=
  ⟨channelManual_completes, channelManualTimeout_completes, channelReset_completes, channelForceOff_completes, channelForceRelease_completes,
    chCfgWrite_completes⟩

end Sys2Proof.Machine
end
